-- ==== Sys2Proof/Word.lean ====
section
/-! DEFINITION. The word types of the machine: bytes, 32-bit registers (R3) and 64-bit values. -/

namespace Sys2Proof

/-- An 8-bit byte. -/
abbrev Byte := BitVec 8

/-- A 32-bit word: every register is 32 bits wide (R3). -/
abbrev Word := BitVec 32

/-- A 64-bit value: time stamps (R9), double-precision numbers (R229). -/
abbrev DWord := BitVec 64

end Sys2Proof
end

