-- ==== Sys2Proof/Syntax.lean ====
section
/-! DEFINITION. The commands of the block: one constructor per row of spec/opcode_table.json. A constructor's
operands are what the row's own words carry, and what the outside world measures or decides at that instant;
`t` is always the instant of the command in nanoseconds. -/

namespace Sys2Proof

/-- The two lanes (R12). -/
inductive Lane where
  | a | b
  deriving DecidableEq, Repr

/-- The other lane. -/
def Lane.other : Lane → Lane
  | .a => .b
  | .b => .a

/-- The number by which registers name a lane: 1 lane A, 2 lane B. -/
def Lane.num : Lane → Nat
  | .a => 1
  | .b => 2

/-- The header of a command issued to a page (R43, R48, R58): the requester code of R39, the generation carried,
the page, and the CHANNEL and TAG of the CMD word. The arguments are in the requester's bank (R45). -/
structure Req where
  code : Nat
  gen : Nat
  page : Nat
  chan : Nat
  tag : Nat
  deriving DecidableEq, Repr

/-- A write of one register word (R38, R55, R58). -/
structure WriteReq where
  code : Nat
  gen : Nat
  page : Nat
  off : Nat
  value : Word
  deriving DecidableEq, Repr

/-- What becomes of one copy of a Crossing frame (R77, R78): it arrives and passes its CRC, it arrives and fails it, or it does not
arrive. -/
inductive Copy where
  | good | bad | lost
  deriving DecidableEq, Repr

/-- The copies of a frame on link 0 and on link 1 (R77). -/
structure Copies where
  c0 : Copy
  c1 : Copy
  deriving DecidableEq, Repr

/-- A frame of a join transfer (R85): its pass, the progress of the first pass in per cent, and the bytes of data memory that it
carries. -/
structure JoinPart where
  pass : Nat
  pct : Fin 101
  addr : Nat
  bytes : Fin 4097
  deriving DecidableEq, Repr

/-- One clock of an SRAM bank that more than one port requested (R526, R527): the ports, and the SRAM byte address where all of them
write one and the same word. -/
structure BankClock where
  bank : Fin 16
  p0 : Bool
  p1 : Bool
  p2 : Bool
  p3 : Bool
  same : Option Nat
  deriving DecidableEq, Repr

/-- The ports of a clock. -/
def BankClock.ports (x : BankClock) : List Nat :=
  (if x.p0 then [0] else []) ++ (if x.p1 then [1] else []) ++ (if x.p2 then [2] else []) ++ (if x.p3 then [3] else [])

/-- A read of port 1, 2 or 3 that met an error in a word of SRAM (R529): its byte address, and whether the error is of two bits. -/
structure PortRead where
  port : Fin 4
  addr : Nat
  double : Bool
  deriving DecidableEq, Repr

/-- An error in a 64-bit word of a snapshot buffer in MRAM (R532): its byte address, and whether it is of two bits. -/
structure MramUpset where
  buf : Fin 2
  addr : Nat
  double : Bool
  deriving DecidableEq, Repr

/-- What a lane measures at a boundary (R83, R96, R99): its supply in units of 10 mV, its temperature in 0.1 °C, and lane B's
clock against lane A's in 0.1 ppm; and what has happened to its SRAM since the last one (R529): the words, by data address of
the CLE, with program memory from 0x1000_0000, whose bits have flipped, and whether two of a word did; the clocks in which ports
met in a bank (R526, R527), the errors that ports 1 to 3 have read, those that have come about in MRAM (R532), and those read in the
secure region, each of two bits or of one (R534). -/
structure LaneSense where
  supply : Nat
  temp : Int
  ppm : Int
  upsets : List (Nat × Bool) := []
  clocks : List BankClock := []
  reads : List PortRead := []
  mram : List MramUpset := []
  secure : List Bool := []
  deriving DecidableEq, Repr

/-- What a current-loop sample measures (R320, R321, R342): the phase currents and the DC-link current of the axis and the
currents along d and q in mA, the stage temperature in 0.1 °C, the amplitude of the line-to-line back-EMF in mV with
the sign of the rotation, and the observer's speed in units/s. -/
structure CurSample where
  u : Int
  v : Int
  w : Int
  dc : Int
  d : Int
  q : Int
  temp : Int
  emf : Int
  observed : Int
  deriving DecidableEq, Repr

/-- What an identification has found when it ends (R327): the steps completed, whether motion was seen, and the values
measured in those steps. -/
structure IdFound where
  mask : Fin 16
  moved : Bool
  rs : Nat
  ld : Nat
  lq : Nat
  poles : Nat
  offset : Nat
  hall : Nat
  ke : Nat
  deriving DecidableEq, Repr

/-- What a beam measures in a frame (R388, R389, R393): the ambient before and after in 0.1 µA, whether a chip sample saturated
the front-end, the 31 chip samples in nA, and the LED current in mA. -/
structure BeamSample where
  a1 : Nat
  a2 : Nat
  saturated : Bool
  chips : List Nat
  led : Nat
  deriving DecidableEq, Repr

/-- What the tests of a probe have found (R351): the data length that BiSS-C frames passed with, whether SSI and incremental
lines passed, the Hall code when one was stable, the line delay in ns, the frame duration in 10 ns, and the levels of A
and B. -/
structure ProbeFound where
  biss : Option Nat
  ssi : Bool
  inc : Bool
  hall : Option Nat
  delay : Nat
  frame : Nat
  a : Bool
  b : Bool
  word : Nat
  deriving DecidableEq, Repr

/-- A serial frame as received (R359, R360): whether it is complete in time, the data bits with the pad bits last, the level of
the error bit, the level of nW, and the parity bit or CRC-6 received. -/
structure SerialWord where
  complete : Bool
  word : Nat
  err : Bool
  warn : Bool
  check : Nat
  deriving DecidableEq, Repr

/-- What a front-end measures and sends in a burst (R403, R404): SEQ, whether the CRC-8 passes, the currents of its eight channels
as CH_STATE gives them, their junction temperatures in °C, the field supply in 50 mV and the front-end temperature in
°C plus 64. -/
structure FeBurst where
  seq : Nat
  crc : Nat
  cur : List Nat
  junction : List Nat
  volts : Nat
  temp : Nat
  deriving DecidableEq, Repr

/-- Samples of one level in a row (R407, R408, R410): the voltage at the terminal in mV, or, in MONITORED, the loop current in
µA, and how many 1 µs samples. -/
structure SampleRun where
  level : Int
  us : Nat
  deriving DecidableEq, Repr

/-- What shows an output overload (R413): a load current in mA with how long it has lasted in µs, the current limit with how long
it has acted, or a readback that does not follow the command. -/
inductive Overload where
  | current (ma us : Nat)
  | limit (us : Nat)
  | readback
  deriving DecidableEq, Repr

/-- What a current-loop channel measures (R449, R452, R456): the current in nA, the supply and the terminal voltage in 10 mV,
the temperature of its stage and of the front-end in 0.1 °C. -/
structure LoopReading where
  na : Int
  supply : Nat
  term : Int
  temp : Int
  front : Int
  deriving DecidableEq, Repr

/-- How the wave of a safe-output enable runs (R487, R514): as the half drives it, lost (stopped, stuck or of another frequency), or
present whatever the half demands. -/
inductive EnableWave where
  | driven
  | lost
  | running
  deriving DecidableEq, Repr

/-- A CAN frame (R462, R482): extended, FD, remote, bit rate switching, error state, identifier, length, data bytes. -/
structure CanFrame where
  ext : Bool
  fdf : Bool
  rtr : Bool
  brs : Bool
  esi : Bool
  id : Nat
  len : Nat
  data : List Nat
  deriving DecidableEq, Repr

/-- What the check of the two firmware slots of management finds at its boot (R113): whether the active and the other one pass. -/
structure SlotFound where
  active : Bool
  other : Bool
  deriving DecidableEq, Repr

/-- What the certificate in the window is found to be (R605, R621): whether it meets the conditions, the first 64 bits of its
SHA-384 digest, low word first, and the end of its validity as a time of R9; and what the boot of management finds where the
command that is carried out resets it (R113). -/
structure CertFound where
  ok : Bool
  ref : Nat
  notAfter : Nat
  slots : SlotFound := ⟨true, true⟩
  deriving DecidableEq, Repr

/-- What a Vat's controller reports of its NAND (R566, R567): blocks that failed a program or erase, dies that stopped
answering, whether the controller failed, spare blocks left in percent and whether none is left, the average and the highest
number of program and erase cycles, bits corrected, and the units lost, each by its partition and number. -/
structure NandReport where
  badBlocks : Nat
  badDies : Nat
  failed : Bool
  spare : Nat
  noSpare : Bool
  peAvg : Nat
  peMax : Nat
  bits : Nat
  lost : List (Nat × Nat)
  deriving DecidableEq, Repr

/-- What the power supervisor measures at a boot (R108, R122): the hold-up of lane A, of lane B and of the common rail in ms, and
the internal cell in mV. -/
structure HoldFound where
  a : Nat
  b : Nat
  common : Nat
  cellMv : Nat
  deriving DecidableEq, Repr

/-- What the power supervisor finds at a power-on (R108, R122): whether the clock was lost, the outage in seconds by that clock,
and the firmware slots of management. -/
structure PowerFound where
  clockLost : Bool
  outageS : Nat
  slots : SlotFound
  deriving DecidableEq, Repr

/-- What the boot of a lane finds (R113, R114, R539, R612): whether its active and its other firmware slot pass their checks,
the segments with an uncorrectable defect, whether the key store check word is valid and how long an erase took, how many KB
the loaded keys use, whether each snapshot buffer passes its CRC, and what the power supervisor measures. -/
structure BootFound where
  active : Bool
  other : Bool
  bad : List (Fin 16)
  keystore : Bool
  eraseUs : Nat
  secKb : Nat
  snap0 : Bool
  snap1 : Bool
  hold : HoldFound
  deriving DecidableEq, Repr

/-- What a ClientHello offers (R131): the cipher suite TLS_AES_256_GCM_SHA384 among its suites, ECDHE on P-384 and signatures with
P-384 and SHA-384, and what the module refuses: a pre-shared key, resumption, early data, a connection ID. -/
structure DtlsOffer where
  suite : Bool := true
  group : Bool := true
  signature : Bool := true
  psk : Bool := false
  resumption : Bool := false
  earlyData : Bool := false
  connectionId : Bool := false
  deriving DecidableEq, Repr

/-- Whether an offer is of the profile (R131). -/
def DtlsOffer.profile (o : DtlsOffer) : Bool :=
  o.suite && o.group && o.signature && !o.psk && !o.resumption && !o.earlyData && !o.connectionId

/-- How a datagram came (R127, R131, R156): the port, the VLAN of its frame, 0 for none, whether it fails the frame check, is an IP
fragment, or is a DTLS record that fails. -/
structure Carrier where
  port : Nat := 0
  vlan : Nat := 0
  fcsBad : Bool := false
  fragment : Bool := false
  forged : Bool := false
  deriving DecidableEq, Repr

/-- What a completed handshake shows of a host (R131, R133, R605): which of the five checks of R133 its certificate fails, 0 for
none, its digest, subject, role, and validity, and the address it comes from. -/
structure HostCert where
  fails : Nat
  digest : Nat
  subject : Nat
  role : Nat
  ip : Nat
  udp : Nat
  notBefore : Nat
  notAfter : Nat
  factory : Bool
  deriving DecidableEq, Repr

end Sys2Proof

namespace Sys2Proof.Machine

/-- A finite table by number; an unlisted entry is the type's empty record. -/
abbrev Tab (α : Type) := List (Nat × α)

/-- A region of the image: base and size in bytes (R206). -/
structure Region where
  base : Nat := 0
  size : Nat := 0
  deriving DecidableEq, Repr

/-- A task of the image's task table (R176, R204): kind (0 CYCLIC, 1 EVENT), divider, phase, trigger set, entry
address, instance pointer, mode. -/
structure TaskDef where
  enabled : Bool := false
  kind : Nat := 0
  div : Nat := 1
  phase : Nat := 0
  triggers : List Nat := []
  entry : Nat := 0
  inst : Word := 0
  bitMode : Bool := false
  deriving DecidableEq, Repr

/-- What an output does when its lane's CLE leaves RUN (R184). -/
inductive SafeValue where
  | off | on | hold
  | current (microAmps : Nat)
  | continue_ | quickStop | torqueOff
  deriving DecidableEq, Repr

/-- An instance of the image (R221, R246): key, type code, version, address and size. -/
structure InstanceDef where
  key : Nat
  code : Nat
  version : Nat
  addr : Nat
  size : Nat
  retain : Bool
  deriving DecidableEq, Repr

/-- A program image (R176, R184, R206, R207, R233): what its container check says, its digest, its regions, maps,
tasks, safe values and initial contents. -/
structure ProgImage where
  valid : Bool := false
  digest : Nat := 0
  wcet : Option Nat := none
  code : Region := {}
  const : Region := {}
  data : Region := {}
  retain : Region := {}
  safety : Region := {}
  inMap : List Nat := []
  outMap : List Nat := []
  tasks : Tab TaskDef := []
  safe : List (Nat × SafeValue) := []
  instances : List InstanceDef := []
  /-- Initial bytes of DATA and RETAIN, and the bytes of CONST and CODE by program address. -/
  init : List Host.Cell := []
  program : List Host.Cell := []
  safetyDigest : Nat := 0
  /-- The safety functions' SF_DEF words (R510) and, for each safe connection used, its number and the addresses of
  its SAFE_RX and SAFE_TX blocks (R509). -/
  functions : List Nat := []
  conns : List (Nat × Nat × Nat) := []
  deriving DecidableEq, Repr

/-- A page image of a configuration image (R115): its page, whether its CRC passes, and its offset-value pairs. -/
structure PageImage where
  page : Nat
  crcOk : Bool
  words : List (Nat × Word)
  deriving DecidableEq, Repr

/-- A configuration image (R115, R117): whether its container passes its signature and digest, its sequence
number, its digest, its start-up ownership map (R34) and its page images in ascending page. -/
structure ConfigImage where
  valid : Bool := false
  seq : Nat := 0
  digest : Nat := 0
  map : List (Nat × Nat) := []
  pages : List PageImage := []
  deriving DecidableEq, Repr

/-- A Hanuca request as it arrived (R135, R137, R141, R143): VER, TYPE, REQ_NO and LEN of its header; of a READ, WRITE or COMMAND
the page, count, offset and generation, and the words from byte 20 on; of every other type the words from byte 12 on; and how it came. -/
structure HanucaReq where
  ver : Nat := 1
  typ : Nat
  reqNo : Nat
  len : Nat
  page : Nat
  count : Nat
  off : Nat
  gen : Nat
  words : List Word
  carrier : Carrier := {}
  deriving DecidableEq, Repr

/-- What a request meets outside the block: what a certificate in the window of page 0x74 is found to be and how long an erase
takes (R618, R613), and, for a read of a log, the units of the partition whose CRC fails and how many units fail their tag
alone (R548). -/
structure ReqEnv where
  found : CertFound
  us : Nat
  lost : List Nat
  tagBad : Nat
  deriving DecidableEq, Repr

/-- A prime routine of an instance table (R234, R248): its address and its length in instructions. -/
structure PrimeDef where
  entry : Nat
  len : Nat
  deriving DecidableEq, Repr

/-- An entry of the instance table of a change package (R234): key, code and address of the instance, whether it is NEW, its
SOURCE_CHANGED bit, the address of the instance that contains it, and its prime routines. -/
structure ChangeEntry where
  key : Nat
  code : Nat
  addr : Nat
  isNew : Bool
  sourceChanged : Bool
  inst : Nat
  primes : List PrimeDef
  deriving DecidableEq, Repr

/-- A field map of a change package (R234): the type, the two versions, and triples of old offset, new offset and length. -/
structure FieldMap where
  code : Nat
  oldVersion : Nat
  newVersion : Nat
  triples : List (Nat × Nat × Nat)
  deriving DecidableEq, Repr

/-- A change package beside its new image (R234): the BASE digest, the instance table, the field maps and the safety
digest. -/
structure ChangePkg where
  base : Nat
  entries : List ChangeEntry
  maps : List FieldMap
  safety : Nat
  deriving DecidableEq, Repr

/-- The content of a Felirla container (R587, R589): its digest, its version or sequence number, SEC_VER, MIN_PARTNER, and
the program image with its change package or the configuration image that it brings. -/
structure Container where
  digest : Nat
  version : Nat
  secVer : Nat
  minPartner : Nat
  program : Option ProgImage
  change : Option ChangePkg
  config : Option ConfigImage
  deriving DecidableEq, Repr

/-- What management finds when it checks a staged container (R589): the result of the first check that fails, 0 when all pass,
and what the container brings. -/
structure UpdFound where
  result : Nat
  content : Container
  deriving DecidableEq, Repr

end Sys2Proof.Machine

namespace Sys2Proof

open Sys2Proof.Machine

/-- The commands, in the order of the table. -/
inductive Instr where
  /-- R55. A write to a register that has no row of its own is checked for generation, rights, owner and lock, then stored or clamped. -/
  | configWrite (t : Nat) (w : WriteReq) (found : CertFound) (us : Nat)
  /-- R45. A write to CMD_ARG0 or CMD_ARG1 changes only the writer's own bank and is checked only for generation. -/
  | cmdArgWrite (t : Nat) (w : WriteReq)
  /-- R47. A write-one-to-clear of EVT_PEND under the page's owner and rights rules. -/
  | evtPendClear (t : Nat) (w : WriteReq)
  /-- R46. A write of PAGE_LOCK.LOCK sets or releases the configuration lock, with release only by the holder or the image. -/
  | pageLockWrite (t : Nat) (w : WriteReq)
  /-- R56. Common opcode that resets the block as its chapter gives and increments PAGE_GEN. -/
  | blockReset (t : Nat) (q : Req)
  /-- R56. Common opcode that sets the clamp registers of the page to 0. -/
  | clampClear (t : Nat) (q : Req)
  /-- R56. Common opcode that produces an event as a pulse with the TEST flag, only in MAINTENANCE. -/
  | evtTest (t : Nat) (q : Req)
  /-- R56. Common opcode checked only for generation that returns DONE with the present state. -/
  | nop (t : Nat) (q : Req)
  /-- R74. The fabric takes a record from its intake and queues it for each routed destination. -/
  | fabricDistribute (t : Nat)
  /-- R74. When space returns in a queue after drops, the destination receives a GAP record with the drop count. -/
  | gapRecord (t : Nat) (d : Fin 7)
  /-- R76. COUNTERS_CLEAR on page 0x7E sets DEST_DROPS, DEST_HWM and LAST_DROP to 0. -/
  | fabricCountersClear (t : Nat) (q : Req)
  /-- R73. A write to PROFILE or an OVR_BUS register moves page 0x00 between SERVING and PROFILE_PENDING by comparing targets with applied values. -/
  | profileWrite (t : Nat) (code gen : Nat) (reg : Fin 3) (value : Word)
  /-- R72. Applies the profile and overrides to the masked motor buses if they carry no torque. -/
  | profileApply (t : Nat) (q : Req)
  /-- R72. Sets the internal real-time clock while not synchronised. -/
  | rtcSet (t : Nat) (q : Req)
  /-- R129. An IEEE 802.1AS synchronisation from the grandmaster updates time of day and TIME_STATUS. -/
  | timeSync (t : Nat) (port : Fin 4) (domain delayNs gmId gmTime : Nat)
  /-- R68. HOLDOVER_S after losing the grandmaster, SYNCED clears and SYNC_LOSS_COUNT increments. -/
  | holdoverExpiry (t : Nat)
  /-- R17. At a lane's boundary it applies staged outputs, latches inputs of owned resources and sends its EXCHANGE frame. -/
  | cycleBoundary (t : Nat) (l : Lane) (x : LaneSense)
  /-- R21. At Tb + 20 µs without the other lane's EXCHANGE frame its values are marked STALE and a receipt is sent. -/
  | exchangeDeadline (t : Nat) (l : Lane)
  /-- R21. At Tb + 24 µs without a receipt the lane keeps its own values at their latched quality and starts compute. -/
  | receiptDeadline (t : Nat) (l : Lane)
  /-- R18. An EXCHANGE frame brings the other lane's latched inputs, quality codes and owner tags into the input image. -/
  | exchangeFrame (t : Nat) (l : Lane) (c : Copies)
  /-- R21. A RECEIPT frame tells a lane whether its EXCHANGE arrived, marking its own values STALE if not. -/
  | receiptFrame (t : Nat) (l : Lane) (c : Copies)
  /-- R194. A COMPARE frame is compared bit for bit with the lane's safety-tagged words of the same cycle. -/
  | compareFrame (t : Nat) (l : Lane) (c : Copies)
  /-- R81. A MARK frame from lane A lets lane B move its next boundary by at most 50 ns. -/
  | markFrame (t : Nat) (c : Copies)
  /-- R78. An IDLE frame keeps a link alive and carries the sender's link state. -/
  | idleFrame (t : Nat) (l : Lane) (k : Fin 2) (c : Copy)
  /-- R80. A HELLO frame gives the sender's session generation, lane state and image digest. -/
  | helloFrame (t : Nat) (l : Lane) (c : Copies)
  /-- R85. A JOIN frame carries memory contents of the leader to the joining lane. -/
  | joinFrame (t : Nat) (l : Lane) (c : Copies) (x : JoinPart)
  /-- R553. A MIRROR frame carries curd records and the receiver's confirmed sequence number. -/
  | mirrorFrame (t : Nat) (l : Lane) (c : Copies)
  /-- R239. An AGREE READY frame reports a lane's load result and new-image digest. -/
  | agreeReady (t : Nat) (l : Lane) (c : Copies)
  /-- R240. Lane A's COMMIT frame names the commit cycle N. -/
  | agreeCommit (t : Nat) (c : Copies)
  /-- R240. Lane B's CONSENT frame answers COMMIT while still READY. -/
  | agreeConsent (t : Nat) (c : Copies)
  /-- R240. Lane A's CONFIRM frame makes the change COMMITTING. -/
  | agreeConfirm (t : Nat) (c : Copies)
  /-- R78. A decodable signal on a DOWN link moves it to TRAINING. -/
  | linkSignalDetect (t : Nat) (l : Lane) (k : Fin 2)
  /-- R78. 10 ms of good frames in TRAINING takes a link UP and sends HELLO. -/
  | linkTrainDone (t : Nat) (l : Lane) (k : Fin 2)
  /-- R78. 100 µs without a valid frame, or a CRC burst, takes a link DOWN. -/
  | linkTimeout (t : Nat) (l : Lane) (k : Fin 2) (burst : Bool)
  /-- R83. Lane clock difference above 200 ppm for 1 s holds both links DOWN. -/
  | freqLimit (t : Nat)
  /-- R83. Difference below 150 ppm for 1 s releases the links. -/
  | freqLimitClear (t : Nat)
  /-- R84. A lane's boot completes and it enters ALIGNED, JOINING or stays waiting, and starts heartbeats. -/
  | bootComplete (t : Nat) (l : Lane)
  /-- R84. 2 s after boot complete without a partner boot the lane enters ALONE and starts its CLE. -/
  | bootWaitExpiry (t : Nat) (l : Lane)
  /-- R85. The joining lane holds the leader's state and starts its CLE at an aligned boundary. -/
  | joinCommit (t : Nat) (l : Lane)
  /-- R85. A join not committed within JOIN_LIMIT_S fails. -/
  | joinLimitExpiry (t : Nat) (l : Lane)
  /-- R85. 10 s after a failed join the joining lane tries again. -/
  | joinRetry (t : Nat) (l : Lane)
  /-- R84. In SPLIT, the other lane's heartbeat absent everywhere for TAKEOVER_MS takes the lane to ALONE. -/
  | splitPartnerTimeout (t : Nat) (l : Lane)
  /-- R94. Takes REJOINED lanes to ALIGNED when READY. -/
  | ackRejoin (t : Nat) (q : Req)
  /-- R100. COUNTERS_CLEAR on page 0x03 zeroes the Crossing counters. -/
  | crossingCountersClear (t : Nat) (q : Req)
  /-- R99. A write of TAKEOVER_MS is sent to every resource within 1 ms. -/
  | takeoverMsWrite (t : Nat) (w : WriteReq)
  /-- R97. Brings a resource to this lane by OWN_REQUEST and OWN_ACCEPT. -/
  | ownMove (t : Nat) (q : Req)
  /-- R97. No offer within 100 ms ends OWN_MOVE ABORTED or gives up RESTORE_MAP for that resource. -/
  | ownMoveTimeout (t : Nat) (l : Lane) (page : Nat)
  /-- R97. Offers every resource this lane owns with 20 ms validity. -/
  | releaseAll (t : Nat) (q : Req)
  /-- R97. Lane B in REJOINED discards its data and joins from lane A. -/
  | laneResync (t : Nat) (q : Req)
  /-- R89. The owner opens an offer of the resource to the other lane. -/
  | ownOffer (t : Nat) (q : Req)
  /-- R89. The non-owner accepts an open offer and becomes owner. -/
  | ownAccept (t : Nat) (q : Req)
  /-- R89. The owner cancels its open offer. -/
  | ownWithdraw (t : Nat) (q : Req)
  /-- R89. The non-owner records a request for the resource. -/
  | ownRequest (t : Nat) (q : Req)
  /-- R90. 1 µs after an ownership request the resource decides it, refusing colliding pairs. -/
  | ownArbitration (t : Nat) (page : Nat)
  /-- R91. After SWAP_COLLIDED, lane firmware retries after one (lane A) or two (lane B) periods. -/
  | ownRetry (t : Nat) (l : Lane) (page : Nat)
  /-- R89. An offer reaching the end of its validity closes with no change. -/
  | offerExpiry (t : Nat) (page : Nat)
  /-- R89. An open request closes 100 ms after it was recorded. -/
  | requestExpiry (t : Nat) (page : Nat)
  /-- R86. A lane's heartbeat arrives at a resource and marks that lane present. -/
  | heartbeat (t : Nat) (l : Lane) (page count : Nat)
  /-- R86. 500 µs without an advanced heartbeat marks the lane absent at the resource. -/
  | heartbeatLapse (t : Nat) (l : Lane) (page : Nat)
  /-- R87. Owner absent and the other lane present for TAKEOVER_MS makes the other lane owner. -/
  | takeover (t : Nat) (page : Nat)
  /-- R109. The common rail rises and the whole module except the standby domain starts. -/
  | powerOn (t : Nat) (f : PowerFound)
  /-- R113. A lane's reset is released and it boots: firmware check, memory test, configuration, program load. -/
  | resetRelease (t : Nat) (l : Lane) (f : BootFound)
  /-- R105. A lane supply falls below its threshold and an interruption starts. -/
  | laneSupplyAbsent (t : Nat) (l : Lane)
  /-- R106. A lane supply rises above its threshold. -/
  | laneSupplyPresent (t : Nat) (l : Lane)
  /-- R105. 10 ms after the supply became absent the lane abandons its cycle, stops heartbeats and enters DOWN. -/
  | supplyLost (t : Nat) (l : Lane)
  /-- R110. 1.5 ms after a lane reset its sequencer stops sending on both links. -/
  | crossingStop (t : Nat) (l : Lane)
  /-- R105. The lane completes flushing and writes its shutdown marker, then holds in reset. -/
  | laneShutdownDone (t : Nat) (l : Lane) (flushMs : Fin 40)
  /-- R110. 20 ms after the later of hold and the end of the cause, the lane reset is released. -/
  | laneResetHoldEnd (t : Nat) (l : Lane)
  /-- R106. After hold-up the common rail falls and every stage enters its reset state. -/
  | commonRailFall (t : Nat)
  /-- R109. 50 ms without service resets the lane with code 3. -/
  | laneWatchdog (t : Nat) (l : Lane)
  /-- R109. A lane fatal error writes a dump and resets the lane with code 5. -/
  | laneFatal (t : Nat) (l : Lane) (code : Fin 4) (addr : Nat)
  /-- R109. Die above 125 °C resets and holds the lane until below 110 °C. -/
  | laneOvertemp (t : Nat) (l : Lane)
  /-- R109. The die falls below 110 °C, ending the over-temperature condition. -/
  | laneTempRecover (t : Nat) (l : Lane)
  /-- R109. 1 s without service resets management and pages 0x70–0x73. -/
  | mgmtWatchdog (t : Nat) (f : SlotFound)
  /-- R111. A stage watchdog or logic supply fault resets the stage, which takes its start-up owner and gets its image reapplied. -/
  | stageSelfReset (t : Nat) (page : Nat)
  /-- R108. The internal cell is measured every 24 h and at boot. -/
  | cellMeasure (t mv : Nat)
  /-- R104. A motor bus rises and its DC link is pre-charged. -/
  | motorBusPresent (t : Nat) (b : Fin 2)
  /-- R347. 100 ms of pre-charge bypasses the resistor and the bus becomes READY. -/
  | prechargeDone (t : Nat) (b : Fin 2)
  /-- R317. A bus becomes absent; its axes remove torque with BUS_LOST and charges are released. -/
  | motorBusAbsent (t : Nat) (b : Fin 2)
  /-- R317. A bus above 165 V removes torque on all its axes and enters OVERVOLT. -/
  | busOvervolt (t : Nat) (b : Fin 2)
  /-- R347. A bus below 155 V for 10 ms returns to READY. -/
  | busOvRecover (t : Nat) (b : Fin 2)
  /-- R443. A load-switch rail becomes absent and its groups switch off into NO_RAIL. -/
  | lsRailAbsent (t : Nat) (l : Lane)
  /-- R443. A rail returns, stored commands are applied and inrush windows open. -/
  | lsRailPresent (t : Nat) (l : Lane)
  /-- R624. A rail above 38 V for 1 ms switches all its channels off as absent. -/
  | lsRailOvervolt (t : Nat) (l : Lane)
  /-- R413. A bank's field supply is absent or out of range and its outputs switch off with cause 10. -/
  | fieldSupplyAbsent (t : Nat) (n : Fin 16)
  /-- R413. The field supply returns and outputs follow their command again. -/
  | fieldSupplyPresent (t : Nat) (n : Fin 16)
  /-- R123. Requests a whole-module reset 10 ms after the result is written. -/
  | deviceReset (t : Nat) (q : Req)
  /-- R123. 10 ms after DEVICE_RESET the module resets with code 1. -/
  | deviceResetFire (t : Nat) (f : SlotFound)
  /-- R123. Resets a lane with code 4, heartbeats first. -/
  | laneReset (t : Nat) (q : Req)
  /-- R123. Resets management with code 8. -/
  | mgmtReset (t : Nat) (q : Req) (f : SlotFound)
  /-- R123. Both lanes finish their cycle, stop their CLEs and flush the Vat. -/
  | powerDownPrep (t : Nat) (q : Req)
  /-- R124. Preparation completes and page 0x04 enters PREPARED. -/
  | powerDownDone (t : Nat) (msA msB : Fin 40)
  /-- R627. The field-power converter limits at 75 W and lets its output fall. -/
  | fieldPowerLimit (t : Nat) (load : Nat)
  /-- R158. An Ethernet port gains link. -/
  | portLinkUp (t : Nat) (port : Fin 5) (fast : Bool)
  /-- R158. An Ethernet port loses link. -/
  | portLinkDown (t : Nat) (port : Fin 5)
  /-- R158. A port's active IPv4 address changes. -/
  | addressChanged (t : Nat) (port : Fin 5) (addr : Word)
  /-- R130. Each port with link and address sends an announcement every 1 s. -/
  | announce (t : Nat) (port : Fin 5)
  /-- R131. A DTLS ClientHello starts a handshake, at most 8 at once. -/
  | clientHello (t : Nat) (port : Fin 5) (ip udp : Nat) (cookie : Bool) (o : DtlsOffer)
  /-- R133. A completed handshake is checked and given a slot or refused. -/
  | handshakeComplete (t : Nat) (port : Fin 5) (cert : HostCert)
  /-- R131. A handshake not complete within 5 s is abandoned. -/
  | handshakeTimeout (t : Nat)
  /-- R134. No datagram for SESSION_TIMEOUT_S ends the session. -/
  | sessionIdleTimeout (t : Nat) (slot : Fin 4)
  /-- R134. A session's certificate expires and the session ends. -/
  | certExpiry (t : Nat) (slot : Fin 4)
  /-- R137. A Hanuca READ returns 1–64 words of a page. -/
  | hanucaRead (t : Nat) (slot : Fin 4) (req : HanucaReq) (env : ReqEnv)
  /-- R138. A Hanuca WRITE writes 1–64 words checked once as one write. -/
  | hanucaWrite (t : Nat) (slot : Fin 4) (req : HanucaReq) (env : ReqEnv)
  /-- R139. A Hanuca COMMAND writes CMD_ARG0, CMD_ARG1 and CMD as one request. -/
  | hanucaCommand (t : Nat) (slot : Fin 4) (req : HanucaReq) (env : ReqEnv)
  /-- R136. A Hanuca NOP message returns the outstanding count. -/
  | hanucaNop (t : Nat) (slot : Fin 4) (req : HanucaReq) (env : ReqEnv)
  /-- R141. EVENT_CTRL action STOP stops the session's event stream. -/
  | eventCtrlStop (t : Nat) (slot : Fin 4) (req : HanucaReq) (env : ReqEnv)
  /-- R141. EVENT_CTRL action START starts queueing routed records for the session. -/
  | eventCtrlStart (t : Nat) (slot : Fin 4) (req : HanucaReq) (env : ReqEnv)
  /-- R141. EVENT_CTRL action ACK removes acknowledged records from the queue. -/
  | eventCtrlAck (t : Nat) (slot : Fin 4) (req : HanucaReq) (env : ReqEnv)
  /-- R141. A record not acknowledged 200 ms after sending is resent. -/
  | eventResend (t : Nat) (slot : Fin 4)
  /-- R143. Opens a log handle fixing a selection of a Vat partition. -/
  | logOpen (t : Nat) (slot : Fin 4) (req : HanucaReq) (env : ReqEnv)
  /-- R143. Returns bytes of a log selection. -/
  | logRead (t : Nat) (slot : Fin 4) (req : HanucaReq) (env : ReqEnv)
  /-- R136. Closes a log handle. -/
  | logClose (t : Nat) (slot : Fin 4) (req : HanucaReq) (env : ReqEnv)
  /-- R562. A handle with no LOG_READ for 60 s closes. -/
  | logHandleIdle (t : Nat) (slot : Fin 4)
  /-- R145. A host's SESSION_END message ends its session. -/
  | sessionEnd (t : Nat) (slot : Fin 4)
  /-- R144. 10 ms after a held request arrived, missing numbers are declared lost and E moves on. -/
  | reqHoldTimeout (t : Nat) (slot : Fin 4) (env : ReqEnv)
  /-- R157. Applies a port's configuration, renegotiates and restarts DHCP. -/
  | portRestart (t : Nat) (q : Req)
  /-- R155. Stores a host's consist report if its topology counter changed. -/
  | consistReport (t : Nat) (q : Req)
  /-- R160. Makes the requester the configuration-owner host. -/
  | cfgClaim (t : Nat) (q : Req)
  /-- R160. Releases the configuration-owner claim. -/
  | cfgRelease (t : Nat) (q : Req)
  /-- R160. An administrator ends the session in a slot. -/
  | sessionClose (t : Nat) (q : Req)
  /-- R160. COUNTERS_CLEAR on page 0x06 zeroes refusal and auth counters. -/
  | hostCountersClear (t : Nat) (q : Req)
  /-- R193. Starts a CLE from STOP in CONTINUE, WARM or COLD mode. -/
  | startCle (t : Nat) (q : Req)
  /-- R181. Stops a running CLE after the cycle in progress. -/
  | stopCle (t : Nat) (q : Req)
  /-- R197. Takes a CLE from STOP_FAULT to STOP. -/
  | faultAck (t : Nat) (q : Req)
  /-- R197. COUNTERS_CLEAR on a CLE page zeroes usage and comparison counters. -/
  | cleCountersClear (t : Nat) (q : Req)
  /-- R187. Holds the target CLEs at a boundary in MAINTENANCE. -/
  | holdCle (t : Nat) (q : Req)
  /-- R189. Resumes held CLEs at the boundary it is acted on. -/
  | resumeCle (t : Nat) (q : Req)
  /-- R189. Runs n cycles from HOLD then holds again. -/
  | stepCycle (t : Nat) (q : Req)
  /-- R180. The end of a task scan checks for STALL. -/
  | scanEnd (t : Nat) (l : Lane)
  /-- R171. The output phase ends: outputs staged, COMPARE handed to the links, usage measured and the retained commit begun. -/
  | outputPhaseEnd (t : Nat) (l : Lane)
  /-- R175. An output phase not ended at D stops the CLE in STOP_FAULT with cause OVERRUN. -/
  | cycleDeadline (t : Nat) (l : Lane)
  /-- R191. A retained-memory commit finishes and the buffer's valid marker is set. -/
  | retainCommitDone (t : Nat) (l : Lane)
  /-- R216. Instruction NOP does nothing. -/
  | nopInstr (l : Lane) (f : BitVec 24)
  /-- R177. Ends the task body and makes the task IDLE. -/
  | endTask (l : Lane) (f : BitVec 24) (cycles : Nat)
  /-- R179. Consumes pending members of a wait set or suspends the task. -/
  | waitInstr (l : Lane) (f : BitVec 24) (ext : List Word) (cycles : Nat)
  /-- R178. Posts a SOFT event to every task. -/
  | postTask (l : Lane) (f : BitVec 24)
  /-- R216. Sets the own task's wake timer. -/
  | wakeTask (l : Lane) (f : BitVec 24)
  /-- R216. Reads program time, cycle number, task, lane or engine cycles into a register. -/
  | sysCall (l : Lane) (f : BitVec 24) (since : Nat)
  /-- R216. Pushes return address and INST and jumps. -/
  | callSub (l : Lane) (f : BitVec 24)
  /-- R220. Calls a function block, setting INST to its instance. -/
  | calli (l : Lane) (f : BitVec 24) (ext : Word)
  /-- R216. Pops the return address and INST. -/
  | retSub (l : Lane) (f : BitVec 24)
  /-- R216. Unconditional branch. -/
  | branch (l : Lane) (f : BitVec 24)
  /-- R214. Conditional branch predicted statically and resolved in E. -/
  | bcc (l : Lane) (f : BitVec 24)
  /-- R216. INST := G[a]. -/
  | seti (l : Lane) (f : BitVec 24)
  /-- R216. G[d] := INST. -/
  | geti (l : Lane) (f : BitVec 24)
  /-- R216. Integer add with flags. -/
  | add (l : Lane) (f : BitVec 24)
  /-- R216. Integer subtract with flags. -/
  | sub (l : Lane) (f : BitVec 24)
  /-- R216. Bitwise and. -/
  | andReg (l : Lane) (f : BitVec 24)
  /-- R216. Bitwise or. -/
  | orReg (l : Lane) (f : BitVec 24)
  /-- R216. Bitwise exclusive or. -/
  | xorReg (l : Lane) (f : BitVec 24)
  /-- R216. Shift left by register. -/
  | shl (l : Lane) (f : BitVec 24)
  /-- R216. Logical shift right by register. -/
  | shr (l : Lane) (f : BitVec 24)
  /-- R216. Arithmetic shift right by register. -/
  | asr (l : Lane) (f : BitVec 24)
  /-- R216. Low 32 bits of the signed product. -/
  | mul (l : Lane) (f : BitVec 24)
  /-- R216. High 32 bits of the signed product. -/
  | mulh (l : Lane) (f : BitVec 24)
  /-- R216. Signed quotient with defined zero and overflow results. -/
  | div (l : Lane) (f : BitVec 24)
  /-- R216. Signed remainder with defined zero and overflow results. -/
  | rem (l : Lane) (f : BitVec 24)
  /-- R216. Signed minimum. -/
  | minReg (l : Lane) (f : BitVec 24)
  /-- R216. Signed maximum. -/
  | maxReg (l : Lane) (f : BitVec 24)
  /-- R216. Compare registers and set flags. -/
  | cmp (l : Lane) (f : BitVec 24)
  /-- R216. Register move. -/
  | movReg (l : Lane) (f : BitVec 24)
  /-- R216. Add sign-extended immediate. -/
  | addi (l : Lane) (f : BitVec 24)
  /-- R216. And with zero-extended immediate. -/
  | andi (l : Lane) (f : BitVec 24)
  /-- R216. Or with zero-extended immediate. -/
  | ori (l : Lane) (f : BitVec 24)
  /-- R216. Exclusive or with zero-extended immediate. -/
  | xori (l : Lane) (f : BitVec 24)
  /-- R216. Shift left by immediate. -/
  | shli (l : Lane) (f : BitVec 24)
  /-- R216. Logical shift right by immediate. -/
  | shri (l : Lane) (f : BitVec 24)
  /-- R216. Arithmetic shift right by immediate. -/
  | asri (l : Lane) (f : BitVec 24)
  /-- R216. Compare with immediate. -/
  | cmpi (l : Lane) (f : BitVec 24)
  /-- R216. Load sign-extended immediate. -/
  | movi (l : Lane) (f : BitVec 24)
  /-- R216. Load a 32-bit extension word. -/
  | movl (l : Lane) (f : BitVec 24) (ext : Word)
  /-- R208. Load word from memory or the register window. -/
  | ldw (l : Lane) (f : BitVec 24)
  /-- R216. Load signed halfword. -/
  | ldh (l : Lane) (f : BitVec 24)
  /-- R216. Load unsigned halfword. -/
  | ldhu (l : Lane) (f : BitVec 24)
  /-- R216. Load signed byte. -/
  | ldb (l : Lane) (f : BitVec 24)
  /-- R216. Load unsigned byte. -/
  | ldbu (l : Lane) (f : BitVec 24)
  /-- R208. Store word to memory or stage it to the register window. -/
  | stw (l : Lane) (f : BitVec 24) (lose : Fin 4)
  /-- R208. Store halfword, merged into the window word. -/
  | sth (l : Lane) (f : BitVec 24)
  /-- R208. Store byte, merged into the window word. -/
  | stb (l : Lane) (f : BitVec 24)
  /-- R216. Load word relative to INST. -/
  | liw (l : Lane) (f : BitVec 24)
  /-- R216. Store word relative to INST. -/
  | siw (l : Lane) (f : BitVec 24)
  /-- R210. Reads the quality or write result of a window word. -/
  | qual (l : Lane) (f : BitVec 24)
  /-- R216. Load 64 bits into an NCP register. -/
  | xldd (l : Lane) (f : BitVec 24)
  /-- R216. Load 32 bits into an NCP register. -/
  | xlds (l : Lane) (f : BitVec 24)
  /-- R231. Store 64 bits of an NCP register at commit. -/
  | xstd (l : Lane) (f : BitVec 24)
  /-- R231. Store 32 bits of an NCP register at commit. -/
  | xsts (l : Lane) (f : BitVec 24)
  /-- R216. G[d] := ACC. -/
  | btog (l : Lane) (f : BitVec 24)
  /-- R216. ACC := G[a] not zero. -/
  | gtob (l : Lane) (f : BitVec 24)
  /-- R216. ACC := bit. -/
  | bld (l : Lane) (f : BitVec 24)
  /-- R216. ACC := not bit. -/
  | bldn (l : Lane) (f : BitVec 24)
  /-- R216. ACC := ACC and bit. -/
  | band (l : Lane) (f : BitVec 24)
  /-- R216. ACC := ACC and not bit. -/
  | bandn (l : Lane) (f : BitVec 24)
  /-- R216. ACC := ACC or bit. -/
  | bor (l : Lane) (f : BitVec 24)
  /-- R216. ACC := ACC or not bit. -/
  | born (l : Lane) (f : BitVec 24)
  /-- R216. ACC := ACC xor bit. -/
  | bxor (l : Lane) (f : BitVec 24)
  /-- R216. Bit := ACC. -/
  | bst (l : Lane) (f : BitVec 24)
  /-- R216. Bit := not ACC. -/
  | bstn (l : Lane) (f : BitVec 24)
  /-- R216. Sets the bit if ACC is 1. -/
  | bset (l : Lane) (f : BitVec 24)
  /-- R216. Clears the bit if ACC is 1. -/
  | brst (l : Lane) (f : BitVec 24)
  /-- R219. Pushes (ACC, AND) and loads the bit. -/
  | bandp (l : Lane) (f : BitVec 24)
  /-- R219. Pushes (ACC, OR) and loads the bit. -/
  | borp (l : Lane) (f : BitVec 24)
  /-- R219. Pushes (ACC, XOR) and loads the bit. -/
  | bxorp (l : Lane) (f : BitVec 24)
  /-- R219. Pops the bit stack and combines it with ACC. -/
  | bpop (l : Lane) (f : BitVec 24)
  /-- R216. Sets ACC from a sub-operation or a flag. -/
  | bacc (l : Lane) (f : BitVec 24)
  /-- R223. On-delay timer intrinsic. -/
  | ton (l : Lane) (f : BitVec 24)
  /-- R223. Off-delay timer intrinsic. -/
  | tof (l : Lane) (f : BitVec 24)
  /-- R223. Pulse timer intrinsic. -/
  | tpTimer (l : Lane) (f : BitVec 24)
  /-- R224. Up-counter intrinsic. -/
  | ctu (l : Lane) (f : BitVec 24)
  /-- R224. Down-counter intrinsic. -/
  | ctd (l : Lane) (f : BitVec 24)
  /-- R224. Up-down counter intrinsic. -/
  | ctud (l : Lane) (f : BitVec 24)
  /-- R225. Rising-edge detector intrinsic. -/
  | rTrig (l : Lane) (f : BitVec 24)
  /-- R225. Falling-edge detector intrinsic. -/
  | fTrig (l : Lane) (f : BitVec 24)
  /-- R227. PID controller intrinsic run at commit on the NCP. -/
  | pid (l : Lane) (f : BitVec 24)
  /-- R228. First-order lag filter intrinsic. -/
  | lag1 (l : Lane) (f : BitVec 24)
  /-- R228. Slew-rate limiter intrinsic. -/
  | slew (l : Lane) (f : BitVec 24)
  /-- R230. NCP floating add. -/
  | xadd (l : Lane) (f : BitVec 24)
  /-- R230. NCP floating subtract. -/
  | xsub (l : Lane) (f : BitVec 24)
  /-- R230. NCP floating multiply. -/
  | xmul (l : Lane) (f : BitVec 24)
  /-- R230. NCP fused multiply-add. -/
  | xfma (l : Lane) (f : BitVec 24)
  /-- R230. NCP floating divide. -/
  | xdiv (l : Lane) (f : BitVec 24)
  /-- R230. NCP square root. -/
  | xsqrt (l : Lane) (f : BitVec 24)
  /-- R230. NCP absolute value. -/
  | xabs (l : Lane) (f : BitVec 24)
  /-- R230. NCP negate. -/
  | xneg (l : Lane) (f : BitVec 24)
  /-- R230. NCP minimumNumber. -/
  | xmin (l : Lane) (f : BitVec 24)
  /-- R230. NCP maximumNumber. -/
  | xmax (l : Lane) (f : BitVec 24)
  /-- R230. NCP clamp between limits. -/
  | xlim (l : Lane) (f : BitVec 24)
  /-- R230. NCP compare setting FLAGS. -/
  | xcmp (l : Lane) (f : BitVec 24)
  /-- R230. NCP sine. -/
  | xsin (l : Lane) (f : BitVec 24)
  /-- R230. NCP cosine. -/
  | xcos (l : Lane) (f : BitVec 24)
  /-- R230. NCP two-argument arctangent. -/
  | xatan2 (l : Lane) (f : BitVec 24)
  /-- R230. NCP exponential. -/
  | xexp (l : Lane) (f : BitVec 24)
  /-- R230. NCP natural logarithm. -/
  | xln (l : Lane) (f : BitVec 24)
  /-- R230. Integer to floating conversion. -/
  | xcvtf (l : Lane) (f : BitVec 24)
  /-- R230. Floating to saturated integer conversion. -/
  | xcvti (l : Lane) (f : BitVec 24)
  /-- R230. NCP register copy. -/
  | xmovx (l : Lane) (f : BitVec 24)
  /-- R230. Read half of an NCP register into a general register. -/
  | xget (l : Lane) (f : BitVec 24)
  /-- R230. Write half of an NCP register from a general register. -/
  | xput (l : Lane) (f : BitVec 24)
  /-- R230. Read XSR. -/
  | xrsr (l : Lane) (f : BitVec 24)
  /-- R230. Clear XSR bits at commit. -/
  | xcsr (l : Lane) (f : BitVec 24)
  /-- R230. binary64 to binary32 conversion. -/
  | xcvts (l : Lane) (f : BitVec 24)
  /-- R230. binary32 to binary64 conversion. -/
  | xcvtd (l : Lane) (f : BitVec 24)
  /-- R237. Starts loading and checking a change package on both lanes. -/
  | ocLoad (t : Nat) (q : Req)
  /-- R239. A lane finishes loading and sends AGREE READY with its result. -/
  | ocLoadDone (t : Nat) (l : Lane) (signed : Bool)
  /-- R240. Commits a READY change, latched by lane A at its next boundary. -/
  | ocCommit (t : Nat) (q : Req)
  /-- R256. Discards the loaded image. -/
  | ocAbandon (t : Nat) (q : Req)
  /-- R239. A READY change not committed within HOLD_S is discarded. -/
  | ocHoldExpiry (t : Nat)
  /-- R263. A source sample is compared with every enabled corner of the avenue. -/
  | avenueSample (t : Nat) (a : Fin 64)
  /-- R270. No AV_IN write for LINE_TIMEOUT_MS faults a LINE avenue. -/
  | lineTimeout (t : Nat) (a : Fin 64)
  /-- R270. No rising zero crossing for 50 ms faults a mains avenue. -/
  | mainsCrossingTimeout (t : Nat) (a : Fin 64)
  /-- R272. A write to AV_SRC restarts the avenue and re-applies its corner table. -/
  | avSrcWrite (t code gen : Nat) (a : Fin 64) (value : Word)
  /-- R260. A write of AV_IN gives a VIRTUAL sample or a LINE value. -/
  | avInWrite (t code gen : Nat) (a : Fin 64) (rate : Bool) (value : Word)
  /-- R268. A window write changes a corner, effective between two samples. -/
  | cornerWindowWrite (t code gen : Nat) (c : Fin 64) (ctrl : Bool) (value : Word)
  /-- R279. Defines a corner of an avenue. -/
  | cornerSet (t : Nat) (q : Req)
  /-- R279. Clears ENA of the masked corners. -/
  | cornerClear (t : Nat) (q : Req)
  /-- R277. COUNTERS_CLEAR on page 0x0C zeroes jump and ignore counters. -/
  | avenueCountersClear (t : Nat) (q : Req)
  /-- R283. Moves the axis to an absolute target. -/
  | moveAbs (t : Nat) (q : Req)
  /-- R283. Moves the axis by a distance. -/
  | moveRel (t : Nat) (q : Req)
  /-- R283. Runs the axis at a speed. -/
  | moveVel (t : Nat) (q : Req)
  /-- R311. STOP brings the motion to standstill at the set's DEC. -/
  | motionStop (t : Nat) (q : Req)
  /-- R311. Stops at QS_DEC as a class-0 request. -/
  | quickStop (t : Nat) (q : Req)
  /-- R297. Asserts the start line of a group. -/
  | groupGo (t : Nat) (q : Req)
  /-- R296. Cancels an armed motion. -/
  | disarm (t : Nat) (q : Req)
  /-- R311. Removes torque and enters FREE. -/
  | releaseAxis (t : Nat) (q : Req)
  /-- R311. Holds the present position. -/
  | engageAxis (t : Nat) (q : Req)
  /-- R311. Sets the present position and REF_VALID. -/
  | setPosition (t : Nat) (q : Req)
  /-- R301. Starts the configured homing method. -/
  | homeAxis (t : Nat) (q : Req)
  /-- R297. The start line of a group rises and every armed member presents its request. -/
  | startLine (t : Nat) (g : Fin 8)
  /-- R280. The motion engine computes the next setpoint and advances motion states. -/
  | positionLoopTick (t : Nat) (a : Fin 32)
  /-- R283. The position stays within INPOS.WINDOW for TIME_MS and the motion ends TARGET. -/
  | inposReached (t : Nat) (a : Fin 32)
  /-- R300. 2 ms of speed measurement ends and the start proceeds from the measured speed. -/
  | flyMeasureDone (t : Nat) (a : Fin 32)
  /-- R287. PUSH_MS elapses and the motion ends PUSHED into FREE or PRESSING. -/
  | pushDone (t : Nat) (a : Fin 32)
  /-- R292. A write of LIMIT_NEG or LIMIT_POS re-plans a motion whose target falls outside. -/
  | limitWrite (t code gen : Nat) (a : Fin 32) (pos : Bool) (value : Word)
  /-- R295. A raw transition of a switch input into its active level captures the position. -/
  | switchRawEdge (t : Nat) (a : Fin 32) (k : Fin 3) (high : Bool)
  /-- R295. A switch input qualifies after FILT_US and acts as limit or homing input. -/
  | switchQualified (t : Nat) (a : Fin 32) (k : Fin 3)
  /-- R305. The chatter window closes and the homing result is decided. -/
  | homeChatterEnd (t : Nat) (a : Fin 32)
  /-- R307. DWELL_MS at the hard stop takes the present position as C. -/
  | homeDwellDone (t : Nat) (a : Fin 32)
  /-- R301. TIMEOUT_S elapses and homing ends HOME_TIMEOUT. -/
  | homeTimeout (t : Nat) (a : Fin 32)
  /-- R333. Runs the phase test and enables the drive. -/
  | enableAxis (t : Nat) (q : Req)
  /-- R333. The 10 ms phase test ends and the drive enters ENABLED or a fault state. -/
  | phaseTestDone (t : Nat) (a : Fin 32) (open_ : Fin 4) (failed : Fin 8)
  /-- R344. Removes torque under DB_MODE. -/
  | disableAxis (t : Nat) (q : Req)
  /-- R333. Returns a faulted drive to DISABLED once the cause is gone. -/
  | faultReset (t : Nat) (q : Req)
  /-- R327. Runs the selected motor identification steps. -/
  | identify (t : Nat) (q : Req)
  /-- R327. Identification ends, aborts or reaches its time limit and results are written. -/
  | identifyDone (t : Nat) (a : Fin 32) (r : IdFound)
  /-- R321. The current loop samples phase currents and computes phase voltages. -/
  | currentLoopTick (t : Nat) (a : Fin 32) (c : CurSample)
  /-- R376. The velocity loop runs and the force model computes F_excess. -/
  | velocityLoopTick (t : Nat) (a : Fin 32)
  /-- R328. A phase current above 35 A opens all switches within 2 µs. -/
  | overcurrent (t : Nat) (a : Fin 32)
  /-- R331. Four failed current sums start attribution to one sensor or SENSE_TWO. -/
  | senseFailure (t : Nat) (a : Fin 32) (agree : Fin 8)
  /-- R330. An open phase over a 5 ms window removes torque. -/
  | phaseOpen (t : Nat) (a : Fin 32) (phase : Fin 3)
  /-- R326. Stage temperature above 125 °C removes torque. -/
  | stageOvertemp (t : Nat) (a : Fin 32) (temp : Int)
  /-- R323. Following error beyond FE_LIMIT for FE_TIME_MS removes torque. -/
  | followingError (t : Nat) (a : Fin 32)
  /-- R328. The angle source reports FAULT and torque is removed. -/
  | angleLost (t : Nat) (a : Fin 32)
  /-- R315. Bus voltage crossing BR_ON_V or BR_OFF_V switches the chopper. -/
  | brakeChopper (t : Nat) (b : Fin 2) (mv : Nat)
  /-- R630. Chopper current above 25 A opens and locks the chopper. -/
  | chopperOvercurrent (t : Nat) (b : Fin 2)
  /-- R316. Bus voltage above BR_ON_V + 4 V lowers braking currents until below + 2 V. -/
  | regenLimited (t : Nat) (b : Fin 2) (mv : Nat)
  /-- R336. The arbiter decides a request: admitted, stretched, delayed or refused. -/
  | rationRequest (t : Nat) (b : Fin 2)
  /-- R338. A request waiting MAX_DELAY_MS is refused TIMEOUT. -/
  | rationTimeout (t : Nat) (b : Fin 2)
  /-- R340. A write to CAP_W, RESERVE_PCT or CLASS_CFG re-examines the queue and may set OVERDRAWN. -/
  | rationConfigWrite (t code gen : Nat) (b : Fin 2) (reg : Fin 5) (value : Word)
  /-- R341. Input power above CAP_W for 100 ms raises BUS_OVERLOAD. -/
  | busOverload (t : Nat) (b : Fin 2) (watts amps : Int)
  /-- R348. COUNTERS_CLEAR on page 0x0E zeroes bus counters. -/
  | rationCountersClear (t : Nat) (q : Req)
  /-- R381. A bound CLEAR line falls during closing and trips the axis. -/
  | clearLineFall (t : Nat) (a : Fin 32)
  /-- R378. Starts teaching the force map. -/
  | fmTeach (t : Nat) (q : Req)
  /-- R378. Sets BASE to FRIC and clears frozen flags. -/
  | fmRebase (t : Nat) (q : Req)
  /-- R378. Empties the force map. -/
  | fmClear (t : Nat) (q : Req)
  /-- R395. Produces a test force decision in MAINTENANCE. -/
  | obsInject (t : Nat) (q : Req)
  /-- R378. A window write sets a bin's FRIC and BASE and marks it LEARNED. -/
  | forceMapWrite (t code gen : Nat) (a : Fin 32) (j : Fin 128) (mass : Bool) (value : Word)
  /-- R380. A write of OBS_THRESH sets THRESH_EFF. -/
  | obsThreshWrite (t code gen : Nat) (a : Fin 32) (value : Word)
  /-- R385. Every 50 µs each edge's loop resistance is measured and banded. -/
  | edgeMeasure (t : Nat) (k : Fin 32) (r : Nat)
  /-- R386. ACTIVE band for FILT_US takes the edge ACTIVE and drops its CLEAR lines. -/
  | edgeActive (t : Nat) (k : Fin 32)
  /-- R386. IDLE band for RELEASE_MS or PW_HOLD_MS returns the edge to IDLE. -/
  | edgeRelease (t : Nat) (k : Fin 32)
  /-- R386. HIGH or OPEN band for 10 ms takes the edge to FAULT. -/
  | edgeFault (t : Nat) (k : Fin 32)
  /-- R386. IDLE band for 100 ms leaves FAULT. -/
  | edgeFaultRecover (t : Nat) (k : Fin 32)
  /-- R386. A write of EDGE_CFG.ENA turns an edge on or off. -/
  | edgeConfigWrite (t code gen : Nat) (k : Fin 32) (value : Word)
  /-- R399. COUNTERS_CLEAR on an edge page. -/
  | edgeCountersClear (t : Nat) (q : Req)
  /-- R390. Each 1 ms frame correlates the code and decides the beam state. -/
  | beamFrame (t : Nat) (g : Fin 4) (fs : List BeamSample)
  /-- R392. FLOODED for FB_TIME with FB_ENA sets FALLBACK. -/
  | beamFallback (t : Nat) (k : Fin 32)
  /-- R390. A write of BEAM_CFG.ENA enables or restarts a beam. -/
  | beamConfigWrite (t code gen : Nat) (k : Fin 32) (value : Word)
  /-- R397. Switches a beam's LED off for a number of frames as a receiver test. -/
  | beamDark (t : Nat) (q : Req)
  /-- R397. The dark test ends, restarting the beam or entering FAULT. -/
  | beamDarkDone (t : Nat) (k : Fin 32)
  /-- R397. COUNTERS_CLEAR on a beam page. -/
  | beamCountersClear (t : Nat) (q : Req)
  /-- R351. Restarts a feedback port with a probe. -/
  | fbProbe (t : Nat) (q : Req)
  /-- R352. 60 ms into a probe the port enters RUN or NO_SENSOR. -/
  | probeDecision (t : Nat) (a : Fin 32) (r : ProbeFound)
  /-- R352. A port in NO_SENSOR probes again every 1 s. -/
  | probeRetry (t : Nat) (a : Fin 32)
  /-- R352. 1 s in FAULT with certain causes takes the port to NO_SENSOR. -/
  | sensorDeparted (t : Nat) (a : Fin 32)
  /-- R360. A serial sensor frame completes and is checked. -/
  | serialFrame (t : Nat) (a : Fin 32) (w : SerialWord)
  /-- R359. A serial port starts a frame at each current-loop sample instant. -/
  | serialFrameStart (t : Nat) (a : Fin 32)
  /-- R353. An accepted A or B change counts ±1 or an illegal transition. -/
  | quadEdge (t : Nat) (a : Fin 32) (la lb : Bool)
  /-- R354. An accepted Hall code change counts or records a Hall error. -/
  | hallCode (t : Nat) (a : Fin 32) (code : Fin 8)
  /-- R357. A qualified index captures COUNT and may set COMM_BASE. -/
  | indexPulse (t : Nat) (a : Fin 32)
  /-- R350. A differential line within ±200 mV for 100 µs is a line fault. -/
  | lineFault (t : Nat) (a : Fin 32)
  /-- R366. 100 ms without the fault condition returns the port to RUN. -/
  | fbFaultRecover (t : Nat) (a : Fin 32)
  /-- R350. Sensor supply above 250 mA for 1 ms switches it off. -/
  | sensorSupplyTrip (t : Nat) (a : Fin 32)
  /-- R369. A write to the feedback configuration restarts the port as a probe. -/
  | fbConfigWrite (t code gen : Nat) (a : Fin 32) (reg : Fin 7) (value : Word)
  /-- R370. Zeroes feedback error counters. -/
  | fbCountersClear (t : Nat) (q : Req)
  /-- R404. A front-end-to-stage burst carries channel records and status. -/
  | frontEndBurst (t : Nat) (b : Fin 16) (n : Fin 2) (r : FeBurst)
  /-- R403. A stage-to-front-end burst carries commands, SILENT and a configuration word. -/
  | stageBurst (t : Nat) (b : Fin 16) (n : Fin 2) (seq index word crc : Nat)
  /-- R405. A burst not good by the end of its window marks its channels STALE or FAULT. -/
  | burstMissed (t : Nat) (b : Fin 16) (n : Fin 2)
  /-- R417. The front-end applies safe states after 8 refreshes without a good stage burst. -/
  | linkSilence (t : Nat) (b : Fin 16)
  /-- R408. An input's integrating count reaches a threshold and its state changes. -/
  | inputQualified (t : Nat) (b : Fin 16) (k : Fin 16) (runs : List SampleRun)
  /-- R411. A monitored input without CLOSED or OPEN samples for WB_MS enters fault. -/
  | monitoredFault (t : Nat) (b : Fin 16) (k : Fin 16) (runs : List SampleRun)
  /-- R411. 10 ms of CLOSED or OPEN samples ends a monitored fault. -/
  | monitoredRecover (t : Nat) (b : Fin 16) (k : Fin 16) (runs : List SampleRun)
  /-- R413. An output overload switches the output off and latches. -/
  | outputOverload (t : Nat) (b : Fin 16) (k : Fin 16) (x : Overload)
  /-- R413. Current below OPEN_MA for 100 ms reports open load. -/
  | openLoad (t : Nat) (b : Fin 16) (k : Fin 16) (ma : Nat)
  /-- R413. Switch junction above 165 °C switches off and latches. -/
  | outputOvertemp (t : Nat) (b : Fin 16) (k : Fin 16) (temp : Nat)
  /-- R413. Bank output current above 4 A for 10 ms switches off the highest channel. -/
  | bankOverload (t : Nat) (b : Fin 16) (cur : List Nat)
  /-- R413. Readback 1 with command 0 for 10 ms reports backfeed. -/
  | backfeed (t : Nat) (b : Fin 16) (k : Fin 16)
  /-- R414. RETRY_MS after a latched switch-off the output tries again. -/
  | outputRetry (t : Nat) (b : Fin 16) (k : Fin 16) (temp : Nat)
  /-- R415. A write of OUT_SET commands outputs, taken by the front-end only on change. -/
  | outSetWrite (t code gen : Nat) (b : Fin 16) (value : Word)
  /-- R415. An OUT_PULSE width expires and the channel goes to 0. -/
  | outPulseEnd (t : Nat) (b : Fin 16) (k : Fin 16)
  /-- R417. The logic-silence timer reaches LS_TIMEOUT and safe states are demanded. -/
  | logicSilence (t : Nat) (b : Fin 16)
  /-- R418. A change of a channel's MODE passes it through OFF at the next refresh. -/
  | chCfgWrite (t code gen : Nat) (b : Fin 16) (k : Fin 16) (value : Word)
  /-- R421. Releases latched field output faults whose condition has ended. -/
  | fieldFaultClear (t : Nat) (q : Req)
  /-- R421. COUNTERS_CLEAR on a bank page. -/
  | fieldCountersClear (t : Nat) (q : Req)
  /-- R426. A write of LS_CMD changes a channel's command at once. -/
  | lsCmdWrite (t code gen : Nat) (g : Fin 8) (value : Word)
  /-- R426. A write of CH_PWM takes effect at the start of the next period. -/
  | chPwmWrite (t code gen : Nat) (g : Fin 8) (k : Fin 8) (value : Word)
  /-- R427. A switch junction reaches 165 °C and switches off. -/
  | thermalShutdown (t : Nat) (g : Fin 8) (k : Fin 8)
  /-- R428. The junction falls below 145 °C and the switch restarts or stays latched. -/
  | thermalCooled (t : Nat) (g : Fin 8) (k : Fin 8)
  /-- R429. 150 ms after switch-on the inrush window closes. -/
  | inrushWindowEnd (t : Nat) (g : Fin 8) (k : Fin 8)
  /-- R430. A switch-off clamp ends and its energy is added to SUM_MJ, possibly locking the channel. -/
  | clampEnd (t : Nat) (g : Fin 8) (k : Fin 8) (us : Nat)
  /-- R430. An estimate leaves SUM_MJ 10 s after its switch-off. -/
  | clampSumExpiry (t : Nat) (g : Fin 8) (k : Fin 8)
  /-- R432. Each 50 µs the sense multiplexer reads one channel. -/
  | senseSlot (t : Nat) (g : Fin 8) (k : Fin 8) (ma : Nat)
  /-- R442. Releases latched shutdowns and clamp locks. -/
  | lsFaultClear (t : Nat) (q : Req)
  /-- R442. COUNTERS_CLEAR on a load-switch page. -/
  | lsCountersClear (t : Nat) (q : Req)
  /-- R436. The kerb enable pin qualifies high or low and the kerb follows. -/
  | kenQualified (t : Nat) (high : Bool)
  /-- R436. A kerb input qualifies and its mapped channels follow. -/
  | kinQualified (t : Nat) (k : Fin 8) (high : Bool)
  /-- R436. Neither heartbeat for TIMEOUT_MS activates the kerb. -/
  | kerbSilenceTimeout (t : Nat)
  /-- R436. A heartbeat present for 100 ms ends the silence cause. -/
  | kerbSilenceEnd (t : Nat)
  /-- R440. A kerb map write in PROVISIONING takes effect and is copied to the stages. -/
  | kmapWrite (t code gen : Nat) (k : Fin 8) (j : Fin 4) (value : Word)
  /-- R446. COUNTERS_CLEAR on page 0x48. -/
  | kerbCountersClear (t : Nat) (q : Req)
  /-- R449. A loop input conversion is filtered, banded and scaled to ENG. -/
  | loopSample (t : Nat) (g : Fin 4) (k : Fin 8) (r : LoopReading)
  /-- R458. A voltage sample updates V_INST and pair phase and frequency. -/
  | voltageSample (t : Nat) (g : Fin 4) (j : Fin 4) (ab bc : Int)
  /-- R454. A loop fault condition held for its time sets the channel's cause. -/
  | loopFault (t : Nat) (g : Fin 4) (k : Fin 8)
  /-- R454. A fault condition absent for 10 ms ends the fault. -/
  | loopFaultEnd (t : Nat) (g : Fin 4) (k : Fin 8)
  /-- R456. Stage above 130 °C switches the channel off with cause 5. -/
  | loopOvertemp (t : Nat) (g : Fin 4) (k : Fin 8) (temp : Int)
  /-- R456. Below 110 °C the channel restarts in its mode. -/
  | loopTempRecover (t : Nat) (g : Fin 4) (k : Fin 8) (temp : Int)
  /-- R457. 100 ms at or above 3.6 mA makes a transmitter PRESENT. -/
  | transmitterArrived (t : Nat) (g : Fin 4) (k : Fin 8)
  /-- R457. 1 s below 0.5 mA makes a transmitter ABSENT. -/
  | transmitterDeparted (t : Nat) (g : Fin 4) (k : Fin 8)
  /-- R453. A write of OUT_UA sets an output current. -/
  | outUaWrite (t code gen : Nat) (g : Fin 4) (k : Fin 8) (value : Word)
  /-- R448. A change of MODE passes the channel through OFF within 1 ms. -/
  | loopModeWrite (t code gen : Nat) (g : Fin 4) (k : Fin 8) (value : Word)
  /-- R460. COUNTERS_CLEAR on a loop page. -/
  | loopCountersClear (t : Nat) (q : Req)
  /-- R468. A received CAN frame is filtered and delivered to a receive entry or buffer. -/
  | canFrameRx (t : Nat) (c : Fin 8) (sof : Nat) (x : CanFrame)
  /-- R473. A transmit entry ends and becomes a completion of its bank. -/
  | canTxEnd (t : Nat) (c : Fin 8) (sof tdcv : Nat)
  /-- R466. An error in the module's own transmission raises TEC and retransmits or ends the entry. -/
  | canTxError (t : Nat) (c : Fin 8) (kind : Fin 8) (pos : Nat) (exempt : Bool)
  /-- R483. An error detected while receiving discards the frame and counts. -/
  | canRxError (t : Nat) (c : Fin 8) (kind : Fin 8) (pos : Nat) (by8 : Bool)
  /-- R465. 11 recessive bits after leaving OFF enter ERROR_ACTIVE. -/
  | canIntegrated (t : Nat) (c : Fin 8)
  /-- R465. 128 × 11 recessive bits end recovery with counters zeroed. -/
  | busoffRecovered (t : Nat) (c : Fin 8)
  /-- R470. A write of TX_GO toggles slots to submit. -/
  | txGoWrite (t code gen : Nat) (c : Fin 8) (value : Word)
  /-- R470. At its refresh the stage takes submitted slots into entries or reports QUEUE_FULL or INVALID. -/
  | canStageRefresh (t : Nat) (c : Fin 8)
  /-- R473. A write of TXC_ACK returns completions to the free pool. -/
  | txcAckWrite (t code gen : Nat) (c : Fin 8) (value : Word)
  /-- R474. The consumer's RX_ACK frees receive entries. -/
  | rxAckWrite (t code gen : Nat) (c : Fin 8) (value : Word)
  /-- R478. Compatibility: copies shadow buffers to active and makes them pending. -/
  | txsLatchWrite (t code gen : Nat) (c : Fin 8) (value : Word)
  /-- R478. Compatibility: clears RXS_NEW bits. -/
  | rxsAckWrite (t code gen : Nat) (c : Fin 8) (value : Word)
  /-- R465. A write of MODE takes effect at the end of any frame in progress. -/
  | canModeWrite (t code gen : Nat) (c : Fin 8) (value : Word)
  /-- R475. The owner's boundary signal releases or ends HELD entries and makes a sync frame due. -/
  | canBoundarySignal (t : Nat) (c : Fin 8)
  /-- R476. OFFSET_US after a boundary the synchronisation frame is presented. -/
  | syncFrameDue (t : Nat) (c : Fin 8)
  /-- R479. Every PERIOD_MS the controller sends requests to each node. -/
  | rollCallRound (t : Nat) (c : Fin 8)
  /-- R479. A node's answer does not arrive within TIMEOUT_MS and a miss is counted. -/
  | rollCallTimeout (t : Nat) (c : Fin 8) (n : Fin 128)
  /-- R482. TXD dominant timeout or bus dominant above 4 ms. -/
  | canTransceiverFault (t : Nat) (c : Fin 8) (on : Bool)
  /-- R484. Starts bus-off recovery. -/
  | canRecover (t : Nat) (q : Req)
  /-- R484. Ends the bank's queued or held entries ABORTED. -/
  | txAbort (t : Nat) (q : Req)
  /-- R484. Starts a roll-call round now. -/
  | rollCall (t : Nat) (q : Req)
  /-- R484. COUNTERS_CLEAR on a CAN page. -/
  | canCountersClear (t : Nat) (q : Req)
  /-- R491. Enters MAINTENANCE from NORMAL or TRIPPED, with the key if required. -/
  | maintEnter (t : Nat) (q : Req)
  /-- R488. Leaves MAINTENANCE for NORMAL after 16 clean cycles. -/
  | maintExit (t : Nat) (q : Req)
  /-- R488. Acknowledges a trip with CLEAN at 16. -/
  | tripAck (t : Nat) (q : Req)
  /-- R488. Trips the safety unit with cause 9. -/
  | safeTrip (t : Nat) (q : Req)
  /-- R488. MAINT_LIMIT_MIN elapses and the unit trips with cause 7. -/
  | maintTimeout (t : Nat)
  /-- R491. The key reads 0 or not GOOD at two consecutive boundaries and the unit trips with cause 6. -/
  | maintKeyLost (t : Nat)
  /-- R487. An enable wave that stops or drifts is read OFF within 50 µs and the relay drops. -/
  | enableWaveLoss (t : Nat) (l : Lane) (k : Fin 8) (wave : EnableWave)
  /-- R495. Enables differing for DISC_MS trip the unit with cause 4. -/
  | outDisc (t : Nat) (k : Fin 8)
  /-- R496. 20 ms after a coil change the mirror contact is checked. -/
  | mirrorCheck (t : Nat) (k : Fin 8) (m1 m2 : Bool)
  /-- R497. EDM not in its required state within EDM_MS faults the output. -/
  | edmCheck (t : Nat) (k : Fin 8) (edm : Bool)
  /-- R494. A lane stages SO_DEMAND for its own enables; a host write is refused. -/
  | soDemandWrite (t code gen : Nat) (value : Word)
  /-- R522. Returns faulted safe outputs to OFF. -/
  | soReset (t : Nat) (q : Req)
  /-- R522. COUNTERS_CLEAR on page 0x62. -/
  | soCountersClear (t : Nat) (q : Req)
  /-- R505. A received Tarfevik frame is admitted by CRC, format and sequence, or discarded. -/
  | tarfevikFrameRx (t : Nat) (bs : List Nat)
  /-- R504. The host-port controller sends one agreed frame, a failsafe frame or nothing. -/
  | tarfevikTxDecide (t : Nat) (c : Fin 64)
  /-- R507. No frame accepted or echo for WDT_MS takes the connection to FAULTED. -/
  | connWatchdog (t : Nat) (l : Lane) (c : Fin 64)
  /-- R519. COUNTERS_CLEAR on page 0x61. -/
  | connCountersClear (t : Nat) (q : Req)
  /-- R530. A retained segment wakes and the waiting access completes. -/
  | segmentWake (t : Nat) (l : Lane) (seg : Fin 16) (us : Fin 41)
  /-- R531. An unlocked segment idle for RET_IDLE_MS enters retention. -/
  | segmentRetention (t : Nat) (l : Lane) (seg : Fin 16) (idleMs : Nat)
  /-- R536. Every INTERVAL_US one SRAM block is pattern-tested. -/
  | btBlock (t : Nat) (l : Lane) (defect : Option (Fin 16 × Bool)) (yields : Nat)
  /-- R542. The next block tested is block 0 of a new pass. -/
  | btRestart (t : Nat) (q : Req)
  /-- R542. COUNTERS_CLEAR on a memory page. -/
  | memCountersClear (t : Nat) (q : Req)
  /-- R545. Wipes the secure region of the named lanes. -/
  | secureWipe (t : Nat) (q : Req)
  /-- R550. An axis stage hands a curd record to its owner lane. -/
  | curdRecord (t : Nat) (axis : Fin 32)
  /-- R553. A report not advanced for 1 s resends from the first unconfirmed record. -/
  | mirrorResend (t : Nat) (l : Lane)
  /-- R555. A capture sample streams to the lane and enters the capture buffer. -/
  | captureSample (t : Nat) (axis : Fin 32)
  /-- R554. POST_MS after the motion, or at 10 s, the capture ends. -/
  | captureEnd (t : Nat) (axis : Fin 32)
  /-- R547. A 64 KB write unit is programmed and its records become durable. -/
  | vatUnitProgrammed (t : Nat) (l : Lane) (part : Fin 5) (h : NandReport)
  /-- R559. Mounting of the Vat ends and the Vat enters READY or DEGRADED. -/
  | vatMountDone (t : Nat) (l : Lane) (h : NandReport)
  /-- R566. Every 30 days all written units are read and weak ones rewritten. -/
  | vatScrub (t : Nat) (l : Lane) (h : NandReport)
  /-- R570. Programs every Vat buffer. -/
  | flushVat (t : Nat) (q : Req)
  /-- R570. All buffers are empty and FLUSH completes. -/
  | flushDone (t : Nat) (l : Lane)
  /-- R570. COUNTERS_CLEAR on a Vat page. -/
  | vatCountersClear (t : Nat) (q : Req)
  /-- R573. Requests a dump of a stopped lane. -/
  | dumpRequest (t : Nat) (q : Req)
  /-- R563. A dump completes in the Vat or management flash. -/
  | dumpDone (t : Nat) (l : Lane)
  /-- R563. A dump not complete within DUMP_LIMIT_MS is abandoned. -/
  | dumpAbandon (t : Nat) (l : Lane)
  /-- R573. Erases the minimal dumps. -/
  | miniClear (t : Nat) (q : Req)
  /-- R573. COUNTERS_CLEAR on page 0x7F. -/
  | dumpCountersClear (t : Nat) (q : Req)
  /-- R578. Once per second management compares its load with SAT_PCT and takes one step. -/
  | mgmtLoadCheck (t : Nat) (pct : Fin 101) (shares : List Nat)
  /-- R582. Sensors are sampled and checked against their limits. -/
  | sensorSample (t : Nat) (vals : List (Option Int))
  /-- R580. Every TELEM_S, SENSORS entries record all 64 sensors. -/
  | telemEntry (t : Nat)
  /-- R579. A host request to pages 0x70–0x74 is queued or refused. -/
  | hostMgmtRequest (t : Nat) (arrives : Option (Fin 4 × HanucaReq)) (env : ReqEnv)
  /-- R598. Resets every S_SEEN and EXCURSIONS. -/
  | minmaxClear (t : Nat) (q : Req)
  /-- R596. COUNTERS_CLEAR on page 0x70. -/
  | mgmtCountersClear (t : Nat) (q : Req)
  /-- R584. Every PERIOD_H ripening measures, forecasts and plans each item. -/
  | ripeningRun (t : Nat) (meas : List (Nat × Nat))
  /-- R585. 1 s after PLAN_READY management re-reads the targets to set STATE. -/
  | planRecheck (t : Nat)
  /-- R600. Starts a ripening run now. -/
  | ripRun (t : Nat) (q : Req)
  /-- R600. Sets an item's BASE to NOW. -/
  | ripRebase (t : Nat) (q : Req)
  /-- R600. Sets an item's REF to the target field. -/
  | ripSetRef (t : Nat) (q : Req)
  /-- R588. Announces an update target and length. -/
  | updBegin (t : Nat) (q : Req)
  /-- R588. Stores a chunk from the window at an offset. -/
  | updChunk (t : Nat) (q : Req)
  /-- R589. Checks the staged container. -/
  | updVerify (t : Nat) (q : Req)
  /-- R589. Checks pass and slots are written, or a check fails. -/
  | updVerifyDone (t : Nat) (f : UpdFound)
  /-- R590. Activates a staged container. -/
  | updActivate (t : Nat) (q : Req)
  /-- R590. Management observes the lane pages and advances the activation step. -/
  | updStep (t : Nat) (f : SlotFound)
  /-- R590. A lane stays ALIGNED for CONFIRM_S and its trial slot is confirmed. -/
  | trialConfirmed (t : Nat) (l : Lane)
  /-- R602. Discards the update session. -/
  | updAbort (t : Nat) (q : Req)
  /-- R602. Activates the other valid slot of the target. -/
  | updRollback (t : Nat) (q : Req)
  /-- R613. An armed rind input breaches and the secrets are erased. -/
  | rindBreach (t : Nat) (cause : Fin 5) (inputs : Fin 32) (traceA traceB : Nat) (temp : Int) (us : Nat)
  /-- R617. Management generates new root, identity, Vat and content keys after an erase. -/
  | keyGenerationDone (t : Nat)
  /-- R616. The seal closed for 1 s with COMMIT_PENDING enters OPERATIONAL. -/
  | sealClosed (t : Nat)
  /-- R616. SEAL_WAIT_S after PROV_COMMIT without the seal ends it ABORTED. -/
  | sealWaitExpiry (t : Nat)
  /-- R616. Leaves MANUFACTURE for PROVISIONING. -/
  | factoryClose (t : Nat) (q : Req)
  /-- R616. Leaves ERASED for PROVISIONING. -/
  | provBegin (t : Nat) (q : Req)
  /-- R606. Installs the device certificate and changes the identity reference. -/
  | certInstall (t : Nat) (q : Req) (c : CertFound)
  /-- R621. Installs the host anchor, content anchor or deny list. -/
  | anchorSet (t : Nat) (q : Req) (c : CertFound)
  /-- R616. Sets COMMIT_PENDING awaiting the seal. -/
  | provCommit (t : Nat) (q : Req)
  /-- R616. Returns OPERATIONAL to PROVISIONING with the seal disarmed. -/
  | reprovision (t : Nat) (q : Req)
  /-- R621. Erases the secrets with cause 6. -/
  | eraseKeys (t : Nat) (q : Req) (us : Nat)
  /-- R616. Erases and blows the fuse into RETIRED. -/
  | retire (t : Nat) (q : Req) (us : Nat)
  /-- R68. The module stops receiving time from its grandmaster, GM_PRESENT falls and the holdover of HOLDOVER_S begins. -/
  | grandmasterLost (t : Nat)
  /-- R315. The brake resistor thermal model falls to 50 % and a locked chopper unlocks. -/
  | chopperModelCooled (t : Nat) (b : Fin 2)
  /-- R354. On an incremental port with Hall inputs, 100 ms without a Hall error clears FB_STATUS.HALL_FAULT. -/
  | hallFaultClear (t : Nat) (a : Fin 32)
  /-- R413. A reported-only field output fault ends: OPEN_LOAD after 100 ms at or above OPEN_MA, BACKFEED after 10 ms of readback 0. -/
  | fieldOutputFaultEnd (t : Nat) (b : Fin 16) (k : Fin 16) (ma : Nat)
  /-- R571. MIRROR_LAG has stayed above 0 for 10 s and MIRROR_BEHIND is raised. -/
  | mirrorBehindTimeout (t : Nat) (l : Lane)
  deriving DecidableEq, Repr

end Sys2Proof
end

