-- ==== Sys2Proof/WellFormed.lean ====
section
/-! DEFINITION. Which commands are well formed: every operand within the width its field has. The operands whose type already
bounds them need no check. -/

namespace Sys2Proof

/-- A requester code of R39 other than 0, which no request from outside carries. -/
def codeOk (code : Nat) : Bool := decide (1 ≤ code ∧ code ≤ 7)

/-- A page generation (R57): 16 bits. -/
def genOk (gen : Nat) : Bool := decide (gen < 2 ^ 16)

/-- A page number (R38): 8 bits. -/
def pageOk (page : Nat) : Bool := decide (page < 2 ^ 8)

/-- The header of a command (R43, R58). -/
def Req.ok (q : Req) : Bool :=
  codeOk q.code && genOk q.gen && pageOk q.page && decide (q.chan < 2 ^ 8) && decide (q.tag < 2 ^ 16)

/-- A write of one register (R38): a word offset within its page. -/
def WriteReq.ok (w : WriteReq) : Bool :=
  codeOk w.code && genOk w.gen && pageOk w.page && decide (w.off < 0x1000) && decide (w.off % 4 = 0)

/-- A Hanuca request as a datagram can carry it (R135, R137): at most 1,280 bytes. -/
def HanucaReq.ok (r : Machine.HanucaReq) : Bool :=
  decide (r.reqNo < 2 ^ 32) && decide (r.len ≤ 1280) && pageOk r.page && decide (r.count < 2 ^ 8) && decide (r.off < 2 ^ 16)
    && genOk r.gen && decide (r.words.length ≤ 320)

/-- Whether a command is well formed. -/
def Instr.wellFormed (i : Instr) : Bool :=
  match i with
  | .configWrite _ w _ _ => w.ok
  | .cmdArgWrite _ w => w.ok
  | .evtPendClear _ w => w.ok
  | .pageLockWrite _ w => w.ok
  | .blockReset _ q => q.ok
  | .clampClear _ q => q.ok
  | .evtTest _ q => q.ok
  | .nop _ q => q.ok
  | .fabricDistribute _ => true
  | .gapRecord _ _ => true
  | .fabricCountersClear _ q => q.ok
  | .profileWrite _ code gen _ _ => codeOk code && genOk gen
  | .profileApply _ q => q.ok
  | .rtcSet _ q => q.ok
  | .timeSync _ _ _ _ _ _ => true
  | .holdoverExpiry _ => true
  | .cycleBoundary _ _ x =>
    (x.upsets.all fun u => u.1 % 4 == 0 && (u.1 < 0x800000 || (0x10000000 ≤ u.1 && u.1 < 0x10400000)))
      && (x.clocks.all fun c => 2 ≤ c.ports.length && (c.same.all fun a => a % 4 == 0 && a < 0x1000000 && a / 4 % 16 == c.bank.val))
      && (x.reads.all fun r => r.port.val != 0 && r.addr % 4 == 0 && r.addr < 0x1000000)
      && x.mram.all fun m => m.addr % 8 == 0 && m.addr / 0x400000 == m.buf.val
  | .exchangeDeadline _ _ => true
  | .receiptDeadline _ _ => true
  | .exchangeFrame _ _ _ => true
  | .receiptFrame _ _ _ => true
  | .compareFrame _ _ _ => true
  | .markFrame _ _ => true
  | .idleFrame _ _ _ _ => true
  | .helloFrame _ _ _ => true
  | .joinFrame _ _ _ _ => true
  | .mirrorFrame _ _ _ => true
  | .agreeReady _ _ _ => true
  | .agreeCommit _ _ => true
  | .agreeConsent _ _ => true
  | .agreeConfirm _ _ => true
  | .linkSignalDetect _ _ _ => true
  | .linkTrainDone _ _ _ => true
  | .linkTimeout _ _ _ _ => true
  | .freqLimit _ => true
  | .freqLimitClear _ => true
  | .bootComplete _ _ => true
  | .bootWaitExpiry _ _ => true
  | .joinCommit _ _ => true
  | .joinLimitExpiry _ _ => true
  | .joinRetry _ _ => true
  | .splitPartnerTimeout _ _ => true
  | .ackRejoin _ q => q.ok
  | .crossingCountersClear _ q => q.ok
  | .takeoverMsWrite _ w => w.ok
  | .ownMove _ q => q.ok
  | .ownMoveTimeout _ _ page => pageOk page
  | .releaseAll _ q => q.ok
  | .laneResync _ q => q.ok
  | .ownOffer _ q => q.ok
  | .ownAccept _ q => q.ok
  | .ownWithdraw _ q => q.ok
  | .ownRequest _ q => q.ok
  | .ownArbitration _ page => pageOk page
  | .ownRetry _ _ page => pageOk page
  | .offerExpiry _ page => pageOk page
  | .requestExpiry _ page => pageOk page
  | .heartbeat _ _ page _ => pageOk page
  | .heartbeatLapse _ _ page => pageOk page
  | .takeover _ page => pageOk page
  | .powerOn _ _ => true
  | .resetRelease _ _ _ => true
  | .laneSupplyAbsent _ _ => true
  | .laneSupplyPresent _ _ => true
  | .supplyLost _ _ => true
  | .crossingStop _ _ => true
  | .laneShutdownDone _ _ _ => true
  | .laneResetHoldEnd _ _ => true
  | .commonRailFall _ => true
  | .laneWatchdog _ _ => true
  | .laneFatal _ _ _ _ => true
  | .laneOvertemp _ _ => true
  | .laneTempRecover _ _ => true
  | .mgmtWatchdog _ _ => true
  | .stageSelfReset _ page => pageOk page
  | .cellMeasure _ _ => true
  | .motorBusPresent _ _ => true
  | .prechargeDone _ _ => true
  | .motorBusAbsent _ _ => true
  | .busOvervolt _ _ => true
  | .busOvRecover _ _ => true
  | .lsRailAbsent _ _ => true
  | .lsRailPresent _ _ => true
  | .lsRailOvervolt _ _ => true
  | .fieldSupplyAbsent _ _ => true
  | .fieldSupplyPresent _ _ => true
  | .deviceReset _ q => q.ok
  | .deviceResetFire _ _ => true
  | .laneReset _ q => q.ok
  | .mgmtReset _ q _ => q.ok
  | .powerDownPrep _ q => q.ok
  | .powerDownDone _ _ _ => true
  | .fieldPowerLimit _ _ => true
  | .portLinkUp _ _ _ => true
  | .portLinkDown _ _ => true
  | .addressChanged _ _ _ => true
  | .announce _ _ => true
  | .clientHello _ _ _ _ _ _ => true
  | .handshakeComplete _ _ _ => true
  | .handshakeTimeout _ => true
  | .sessionIdleTimeout _ _ => true
  | .certExpiry _ _ => true
  | .hanucaRead _ _ req _ => HanucaReq.ok req
  | .hanucaWrite _ _ req _ => HanucaReq.ok req
  | .hanucaCommand _ _ req _ => HanucaReq.ok req
  | .hanucaNop _ _ req _ => HanucaReq.ok req
  | .eventCtrlStop _ _ req _ => HanucaReq.ok req
  | .eventCtrlStart _ _ req _ => HanucaReq.ok req
  | .eventCtrlAck _ _ req _ => HanucaReq.ok req
  | .eventResend _ _ => true
  | .logOpen _ _ req _ => HanucaReq.ok req
  | .logRead _ _ req _ => HanucaReq.ok req
  | .logClose _ _ req _ => HanucaReq.ok req
  | .logHandleIdle _ _ => true
  | .sessionEnd _ _ => true
  | .reqHoldTimeout _ _ _ => true
  | .portRestart _ q => q.ok
  | .consistReport _ q => q.ok
  | .cfgClaim _ q => q.ok
  | .cfgRelease _ q => q.ok
  | .sessionClose _ q => q.ok
  | .hostCountersClear _ q => q.ok
  | .startCle _ q => q.ok
  | .stopCle _ q => q.ok
  | .faultAck _ q => q.ok
  | .cleCountersClear _ q => q.ok
  | .holdCle _ q => q.ok
  | .resumeCle _ q => q.ok
  | .stepCycle _ q => q.ok
  | .scanEnd _ _ => true
  | .outputPhaseEnd _ _ => true
  | .cycleDeadline _ _ => true
  | .retainCommitDone _ _ => true
  | .nopInstr _ _ => true
  | .endTask _ _ _ => true
  | .waitInstr _ _ _ _ => true
  | .postTask _ _ => true
  | .wakeTask _ _ => true
  | .sysCall _ _ _ => true
  | .callSub _ _ => true
  | .calli _ _ _ => true
  | .retSub _ _ => true
  | .branch _ _ => true
  | .bcc _ _ => true
  | .seti _ _ => true
  | .geti _ _ => true
  | .add _ _ => true
  | .sub _ _ => true
  | .andReg _ _ => true
  | .orReg _ _ => true
  | .xorReg _ _ => true
  | .shl _ _ => true
  | .shr _ _ => true
  | .asr _ _ => true
  | .mul _ _ => true
  | .mulh _ _ => true
  | .div _ _ => true
  | .rem _ _ => true
  | .minReg _ _ => true
  | .maxReg _ _ => true
  | .cmp _ _ => true
  | .movReg _ _ => true
  | .addi _ _ => true
  | .andi _ _ => true
  | .ori _ _ => true
  | .xori _ _ => true
  | .shli _ _ => true
  | .shri _ _ => true
  | .asri _ _ => true
  | .cmpi _ _ => true
  | .movi _ _ => true
  | .movl _ _ _ => true
  | .ldw _ _ => true
  | .ldh _ _ => true
  | .ldhu _ _ => true
  | .ldb _ _ => true
  | .ldbu _ _ => true
  | .stw _ _ _ => true
  | .sth _ _ => true
  | .stb _ _ => true
  | .liw _ _ => true
  | .siw _ _ => true
  | .qual _ _ => true
  | .xldd _ _ => true
  | .xlds _ _ => true
  | .xstd _ _ => true
  | .xsts _ _ => true
  | .btog _ _ => true
  | .gtob _ _ => true
  | .bld _ _ => true
  | .bldn _ _ => true
  | .band _ _ => true
  | .bandn _ _ => true
  | .bor _ _ => true
  | .born _ _ => true
  | .bxor _ _ => true
  | .bst _ _ => true
  | .bstn _ _ => true
  | .bset _ _ => true
  | .brst _ _ => true
  | .bandp _ _ => true
  | .borp _ _ => true
  | .bxorp _ _ => true
  | .bpop _ _ => true
  | .bacc _ _ => true
  | .ton _ _ => true
  | .tof _ _ => true
  | .tpTimer _ _ => true
  | .ctu _ _ => true
  | .ctd _ _ => true
  | .ctud _ _ => true
  | .rTrig _ _ => true
  | .fTrig _ _ => true
  | .pid _ _ => true
  | .lag1 _ _ => true
  | .slew _ _ => true
  | .xadd _ _ => true
  | .xsub _ _ => true
  | .xmul _ _ => true
  | .xfma _ _ => true
  | .xdiv _ _ => true
  | .xsqrt _ _ => true
  | .xabs _ _ => true
  | .xneg _ _ => true
  | .xmin _ _ => true
  | .xmax _ _ => true
  | .xlim _ _ => true
  | .xcmp _ _ => true
  | .xsin _ _ => true
  | .xcos _ _ => true
  | .xatan2 _ _ => true
  | .xexp _ _ => true
  | .xln _ _ => true
  | .xcvtf _ _ => true
  | .xcvti _ _ => true
  | .xmovx _ _ => true
  | .xget _ _ => true
  | .xput _ _ => true
  | .xrsr _ _ => true
  | .xcsr _ _ => true
  | .xcvts _ _ => true
  | .xcvtd _ _ => true
  | .ocLoad _ q => q.ok
  | .ocLoadDone _ _ _ => true
  | .ocCommit _ q => q.ok
  | .ocAbandon _ q => q.ok
  | .ocHoldExpiry _ => true
  | .avenueSample _ _ => true
  | .lineTimeout _ _ => true
  | .mainsCrossingTimeout _ _ => true
  | .avSrcWrite _ code gen _ _ => codeOk code && genOk gen
  | .avInWrite _ code gen _ _ _ => codeOk code && genOk gen
  | .cornerWindowWrite _ code gen _ _ _ => codeOk code && genOk gen
  | .cornerSet _ q => q.ok
  | .cornerClear _ q => q.ok
  | .avenueCountersClear _ q => q.ok
  | .moveAbs _ q => q.ok
  | .moveRel _ q => q.ok
  | .moveVel _ q => q.ok
  | .motionStop _ q => q.ok
  | .quickStop _ q => q.ok
  | .groupGo _ q => q.ok
  | .disarm _ q => q.ok
  | .releaseAxis _ q => q.ok
  | .engageAxis _ q => q.ok
  | .setPosition _ q => q.ok
  | .homeAxis _ q => q.ok
  | .startLine _ _ => true
  | .positionLoopTick _ _ => true
  | .inposReached _ _ => true
  | .flyMeasureDone _ _ => true
  | .pushDone _ _ => true
  | .limitWrite _ code gen _ _ _ => codeOk code && genOk gen
  | .switchRawEdge _ _ _ _ => true
  | .switchQualified _ _ _ => true
  | .homeChatterEnd _ _ => true
  | .homeDwellDone _ _ => true
  | .homeTimeout _ _ => true
  | .enableAxis _ q => q.ok
  | .phaseTestDone _ _ _ _ => true
  | .disableAxis _ q => q.ok
  | .faultReset _ q => q.ok
  | .identify _ q => q.ok
  | .identifyDone _ _ _ => true
  | .currentLoopTick _ _ _ => true
  | .velocityLoopTick _ _ => true
  | .overcurrent _ _ => true
  | .senseFailure _ _ _ => true
  | .phaseOpen _ _ _ => true
  | .stageOvertemp _ _ _ => true
  | .followingError _ _ => true
  | .angleLost _ _ => true
  | .brakeChopper _ _ _ => true
  | .chopperOvercurrent _ _ => true
  | .regenLimited _ _ _ => true
  | .rationRequest _ _ => true
  | .rationTimeout _ _ => true
  | .rationConfigWrite _ code gen _ _ _ => codeOk code && genOk gen
  | .busOverload _ _ _ _ => true
  | .rationCountersClear _ q => q.ok
  | .clearLineFall _ _ => true
  | .fmTeach _ q => q.ok
  | .fmRebase _ q => q.ok
  | .fmClear _ q => q.ok
  | .obsInject _ q => q.ok
  | .forceMapWrite _ code gen _ _ _ _ => codeOk code && genOk gen
  | .obsThreshWrite _ code gen _ _ => codeOk code && genOk gen
  | .edgeMeasure _ _ _ => true
  | .edgeActive _ _ => true
  | .edgeRelease _ _ => true
  | .edgeFault _ _ => true
  | .edgeFaultRecover _ _ => true
  | .edgeConfigWrite _ code gen _ _ => codeOk code && genOk gen
  | .edgeCountersClear _ q => q.ok
  | .beamFrame _ _ _ => true
  | .beamFallback _ _ => true
  | .beamConfigWrite _ code gen _ _ => codeOk code && genOk gen
  | .beamDark _ q => q.ok
  | .beamDarkDone _ _ => true
  | .beamCountersClear _ q => q.ok
  | .fbProbe _ q => q.ok
  | .probeDecision _ _ _ => true
  | .probeRetry _ _ => true
  | .sensorDeparted _ _ => true
  | .serialFrame _ _ _ => true
  | .serialFrameStart _ _ => true
  | .quadEdge _ _ _ _ => true
  | .hallCode _ _ _ => true
  | .indexPulse _ _ => true
  | .lineFault _ _ => true
  | .fbFaultRecover _ _ => true
  | .sensorSupplyTrip _ _ => true
  | .fbConfigWrite _ code gen _ _ _ => codeOk code && genOk gen
  | .fbCountersClear _ q => q.ok
  | .frontEndBurst _ _ _ _ => true
  | .stageBurst _ _ _ _ _ _ _ => true
  | .burstMissed _ _ _ => true
  | .linkSilence _ _ => true
  | .inputQualified _ _ _ _ => true
  | .monitoredFault _ _ _ _ => true
  | .monitoredRecover _ _ _ _ => true
  | .outputOverload _ _ _ _ => true
  | .openLoad _ _ _ _ => true
  | .outputOvertemp _ _ _ _ => true
  | .bankOverload _ _ _ => true
  | .backfeed _ _ _ => true
  | .outputRetry _ _ _ _ => true
  | .outSetWrite _ code gen _ _ => codeOk code && genOk gen
  | .outPulseEnd _ _ _ => true
  | .logicSilence _ _ => true
  | .chCfgWrite _ code gen _ _ _ => codeOk code && genOk gen
  | .fieldFaultClear _ q => q.ok
  | .fieldCountersClear _ q => q.ok
  | .lsCmdWrite _ code gen _ _ => codeOk code && genOk gen
  | .chPwmWrite _ code gen _ _ _ => codeOk code && genOk gen
  | .thermalShutdown _ _ _ => true
  | .thermalCooled _ _ _ => true
  | .inrushWindowEnd _ _ _ => true
  | .clampEnd _ _ _ _ => true
  | .clampSumExpiry _ _ _ => true
  | .senseSlot _ _ _ _ => true
  | .lsFaultClear _ q => q.ok
  | .lsCountersClear _ q => q.ok
  | .kenQualified _ _ => true
  | .kinQualified _ _ _ => true
  | .kerbSilenceTimeout _ => true
  | .kerbSilenceEnd _ => true
  | .kmapWrite _ code gen _ _ _ => codeOk code && genOk gen
  | .kerbCountersClear _ q => q.ok
  | .loopSample _ _ _ _ => true
  | .voltageSample _ _ _ _ _ => true
  | .loopFault _ _ _ => true
  | .loopFaultEnd _ _ _ => true
  | .loopOvertemp _ _ _ _ => true
  | .loopTempRecover _ _ _ _ => true
  | .transmitterArrived _ _ _ => true
  | .transmitterDeparted _ _ _ => true
  | .outUaWrite _ code gen _ _ _ => codeOk code && genOk gen
  | .loopModeWrite _ code gen _ _ _ => codeOk code && genOk gen
  | .loopCountersClear _ q => q.ok
  | .canFrameRx _ _ _ _ => true
  | .canTxEnd _ _ _ _ => true
  | .canTxError _ _ _ _ _ => true
  | .canRxError _ _ _ _ _ => true
  | .canIntegrated _ _ => true
  | .busoffRecovered _ _ => true
  | .txGoWrite _ code gen _ _ => codeOk code && genOk gen
  | .canStageRefresh _ _ => true
  | .txcAckWrite _ code gen _ _ => codeOk code && genOk gen
  | .rxAckWrite _ code gen _ _ => codeOk code && genOk gen
  | .txsLatchWrite _ code gen _ _ => codeOk code && genOk gen
  | .rxsAckWrite _ code gen _ _ => codeOk code && genOk gen
  | .canModeWrite _ code gen _ _ => codeOk code && genOk gen
  | .canBoundarySignal _ _ => true
  | .syncFrameDue _ _ => true
  | .rollCallRound _ _ => true
  | .rollCallTimeout _ _ _ => true
  | .canTransceiverFault _ _ _ => true
  | .canRecover _ q => q.ok
  | .txAbort _ q => q.ok
  | .rollCall _ q => q.ok
  | .canCountersClear _ q => q.ok
  | .maintEnter _ q => q.ok
  | .maintExit _ q => q.ok
  | .tripAck _ q => q.ok
  | .safeTrip _ q => q.ok
  | .maintTimeout _ => true
  | .maintKeyLost _ => true
  | .enableWaveLoss _ _ _ _ => true
  | .outDisc _ _ => true
  | .mirrorCheck _ _ _ _ => true
  | .edmCheck _ _ _ => true
  | .soDemandWrite _ code gen _ => codeOk code && genOk gen
  | .soReset _ q => q.ok
  | .soCountersClear _ q => q.ok
  | .tarfevikFrameRx _ _ => true
  | .tarfevikTxDecide _ _ => true
  | .connWatchdog _ _ _ => true
  | .connCountersClear _ q => q.ok
  | .segmentWake _ _ _ _ => true
  | .segmentRetention _ _ _ _ => true
  | .btBlock _ _ _ _ => true
  | .btRestart _ q => q.ok
  | .memCountersClear _ q => q.ok
  | .secureWipe _ q => q.ok
  | .curdRecord _ _ => true
  | .mirrorResend _ _ => true
  | .captureSample _ _ => true
  | .captureEnd _ _ => true
  | .vatUnitProgrammed _ _ _ _ => true
  | .vatMountDone _ _ _ => true
  | .vatScrub _ _ _ => true
  | .flushVat _ q => q.ok
  | .flushDone _ _ => true
  | .vatCountersClear _ q => q.ok
  | .dumpRequest _ q => q.ok
  | .dumpDone _ _ => true
  | .dumpAbandon _ _ => true
  | .miniClear _ q => q.ok
  | .dumpCountersClear _ q => q.ok
  | .mgmtLoadCheck _ _ _ => true
  | .sensorSample _ _ => true
  | .telemEntry _ => true
  | .hostMgmtRequest _ arrives _ => (arrives.all fun x => HanucaReq.ok x.2)
  | .minmaxClear _ q => q.ok
  | .mgmtCountersClear _ q => q.ok
  | .ripeningRun _ _ => true
  | .planRecheck _ => true
  | .ripRun _ q => q.ok
  | .ripRebase _ q => q.ok
  | .ripSetRef _ q => q.ok
  | .updBegin _ q => q.ok
  | .updChunk _ q => q.ok
  | .updVerify _ q => q.ok
  | .updVerifyDone _ _ => true
  | .updActivate _ q => q.ok
  | .updStep _ _ => true
  | .trialConfirmed _ _ => true
  | .updAbort _ q => q.ok
  | .updRollback _ q => q.ok
  | .rindBreach _ _ _ _ _ _ _ => true
  | .keyGenerationDone _ => true
  | .sealClosed _ => true
  | .sealWaitExpiry _ => true
  | .factoryClose _ q => q.ok
  | .provBegin _ q => q.ok
  | .certInstall _ q _ => q.ok
  | .anchorSet _ q _ => q.ok
  | .provCommit _ q => q.ok
  | .reprovision _ q => q.ok
  | .eraseKeys _ q _ => q.ok
  | .retire _ q _ => q.ok
  | .grandmasterLost _ => true
  | .chopperModelCooled _ _ => true
  | .hallFaultClear _ _ => true
  | .fieldOutputFaultEnd _ _ _ _ => true
  | .mirrorBehindTimeout _ _ => true

end Sys2Proof
end

