-- ==== Sys2Proof/Config.lean ====
section
/-! DEFINITION. What an implementation fixes and what the manual leaves open. Every constant here has no body:
nothing can evaluate it, and a statement about it holds for every value. -/

namespace Sys2Proof.Config

/-- Free values: the n-th value that the manual leaves unstated, in the order in which steps meet them. The
counter is State.freeCtr (log entry 3). -/
opaque freeValue : Nat → DWord

/-- Values fixed when a unit is built or provisioned ("per unit", "per build", "per image" in R43 and R68):
the value of the register with this key (log entry 4). -/
opaque unitValue : Nat → Word

/-- Whether an axis is rotary: the manual speaks of linear and rotary axes and names no register that says which an
axis is; it is fixed by the installation (log entry 12). The argument is the axis page. -/
opaque rotaryAxis : Nat → Bool

/-- Whether tininess is detected before rounding: IEEE 754-2019 leaves it to the implementation, and R230 takes the
exceptions as IEEE 754-2019 gives them (log entry 8). -/
opaque tinyBeforeRounding : Bool

/-- Whether XCMP of a quiet NaN sets INVALID: R230 does not say which of the two comparisons of IEEE 754-2019 it is
(log entry 8). -/
opaque compareSignals : Bool

/-- Bytes of a stored record that no register and no rule gives: the layout of a header of partition 2, the bytes of a
container or image, and the sections of a dump that copy what the manual does not lay out (log entry 5). The arguments
are the record and the byte. -/
opaque storedByte : Nat → Nat → Byte

/-- SHA-384 of a list of bytes: the manual names the function and does not give it (log entry 118). -/
opaque sha384 : List Nat → Nat

end Sys2Proof.Config
end

