-- ==== Sys2Proof/Machine/Bits.lean ====
section
/-! DEFINITION. Bit fields, sign extension and byte order (R3): the helpers every other file uses. -/

namespace Sys2Proof.Machine

/-- The bits `[hi:lo]` of a register, right-aligned. -/
def bitsOf (w : Word) (hi lo : Nat) : Nat := (w.toNat / 2 ^ lo) % 2 ^ (hi + 1 - lo)

/-- The register with its bits `[hi:lo]` replaced by the low bits of `v`. -/
def putBits (w : Word) (hi lo v : Nat) : Word :=
  BitVec.ofNat 32
    (w.toNat % 2 ^ lo + (v % 2 ^ (hi + 1 - lo)) * 2 ^ lo + (w.toNat / 2 ^ (hi + 1)) * 2 ^ (hi + 1))

/-- An `n`-bit pattern read as a two's-complement number (R6). -/
def signedOf (n v : Nat) : Int := if v < 2 ^ (n - 1) then (v : Int) else (v : Int) - 2 ^ n

/-- The `n`-bit two's-complement pattern of a number (R6); a number outside the range wraps. -/
def patternOf (n : Nat) (i : Int) : Nat := (i % 2 ^ n).toNat

/-- `i` held to the range of an `n`-bit two's-complement field. -/
def saturateSigned (n : Nat) (i : Int) : Int :=
  if i < -(2 ^ (n - 1)) then -(2 ^ (n - 1)) else if i > 2 ^ (n - 1) - 1 then 2 ^ (n - 1) - 1 else i

/-- `v` held to the largest value of an `n`-bit field. -/
def saturate (n v : Nat) : Nat := if v < 2 ^ n then v else 2 ^ n - 1

/-- Bit `k` of a number. -/
def bitAt (v k : Nat) : Bool := (v / 2 ^ k) % 2 = 1

/-- `v` with bit `k` made `b`. -/
def setBit (v k : Nat) (b : Bool) : Nat :=
  if bitAt v k then (if b then v else v - 2 ^ k) else (if b then v + 2 ^ k else v)

/-- 1 for true, 0 for false. -/
def bool01 (b : Bool) : Nat := if b then 1 else 0

/-- How many of the low `n` bits of `v` are 1. -/
def popCount : Nat → Nat → Nat
  | 0, _ => 0
  | n + 1, v => popCount n v + bool01 (bitAt v n)

/-- The lowest 1 bit of `v` below bit `n`, counted up from bit `k`. -/
def lowestBit : Nat → Nat → Nat → Option Nat
  | 0, _, _ => none
  | n + 1, k, v => if bitAt v k then some k else lowestBit n (k + 1) v

/-- The low word of a 64-bit number (R3). -/
def lowWord (v : Nat) : Word := BitVec.ofNat 32 v

/-- The high word of a 64-bit number (R3). -/
def highWord (v : Nat) : Word := BitVec.ofNat 32 (v / 2 ^ 32)

/-- The four bytes of a word, least significant first (R3). -/
def wordBytes (w : Word) : List Byte :=
  [BitVec.ofNat 8 w.toNat, BitVec.ofNat 8 (w.toNat / 2 ^ 8), BitVec.ofNat 8 (w.toNat / 2 ^ 16),
   BitVec.ofNat 8 (w.toNat / 2 ^ 24)]

/-- The number that a list of bytes spells, least significant first. -/
def bytesNat : List Byte → Nat
  | [] => 0
  | b :: r => b.toNat + 256 * bytesNat r

/-- One byte of a CRC taken most significant bit first over a 32-bit register: `n` bits left. -/
def crcBits (poly : Nat) : Nat → Nat → Nat
  | 0, c => c
  | n + 1, c => crcBits poly n (if bitAt c 31 then ((c * 2) % 2 ^ 32) ^^^ poly else (c * 2) % 2 ^ 32)

/-- The CRC register after the bytes, most significant bit first, no reflection. -/
def crcMsb (poly : Nat) (c : Nat) : List Byte → Nat
  | [] => c
  | b :: r => crcMsb poly (crcBits poly 8 (c ^^^ (b.toNat * 2 ^ 24))) r

/-- One byte of the reflected CRC-32 of IEEE 802.3: `n` bits left. -/
def crc32Bits : Nat → Nat → Nat
  | 0, c => c
  | n + 1, c => crc32Bits n (if bitAt c 0 then (c / 2) ^^^ 0xEDB88320 else c / 2)

/-- CRC-32 of IEEE 802.3 over bytes. -/
def crc32 (bs : List Nat) : Nat := (bs.foldl (fun c b => crc32Bits 8 (c ^^^ b)) 0xFFFFFFFF) ^^^ 0xFFFFFFFF

end Sys2Proof.Machine
end

