-- ==== Sys2Proof/Machine/Fields.lean ====
section
/-! DEFINITION. The named register fields of every page kind, as the register tables of spec/ give them
(offset, bit range, and the stride of a channel array). One name per field, in the manual's spelling,
under a two-letter name for the page kind. -/

namespace Sys2Proof.Machine

/-- A bit range of a register: byte offset in its page, highest and lowest bit, and the strides of the
one or two indices of an array register (0 where there is none). -/
structure Field where
  off : Nat
  hi : Nat
  lo : Nat
  stride : Nat := 0
  stride2 : Nat := 0
  deriving DecidableEq, Repr

/-! Fields of the header page (R43). -/

def Hd.PAGE_ID_BLOCK_TYPE : Field := ⟨0x0, 31, 16, 0, 0⟩
def Hd.PAGE_ID_INSTANCE : Field := ⟨0x0, 15, 8, 0, 0⟩
def Hd.PAGE_ID_PAGE : Field := ⟨0x0, 7, 0, 0, 0⟩
def Hd.PAGE_VER : Field := ⟨0x4, 31, 24, 0, 0⟩
def Hd.PAGE_VER_HW_REV : Field := ⟨0x4, 23, 16, 0, 0⟩
def Hd.PAGE_VER_LAYOUT_MAJOR : Field := ⟨0x4, 15, 8, 0, 0⟩
def Hd.PAGE_VER_LAYOUT_MINOR : Field := ⟨0x4, 7, 0, 0, 0⟩
def Hd.PAGE_CAPS_31_17 : Field := ⟨0x8, 31, 17, 0, 0⟩
def Hd.PAGE_CAPS_HAS_WINDOW : Field := ⟨0x8, 16, 16, 0, 0⟩
def Hd.PAGE_CAPS_CHANNELS : Field := ⟨0x8, 15, 8, 0, 0⟩
def Hd.PAGE_CAPS_7_4 : Field := ⟨0x8, 7, 4, 0, 0⟩
def Hd.PAGE_CAPS_STRIDE_80 : Field := ⟨0x8, 3, 3, 0, 0⟩
def Hd.PAGE_CAPS_HAS_CHANNELS : Field := ⟨0x8, 2, 2, 0, 0⟩
def Hd.PAGE_CAPS_HAS_COMMANDS : Field := ⟨0x8, 1, 1, 0, 0⟩
def Hd.PAGE_CAPS_HAS_OWNER : Field := ⟨0x8, 0, 0, 0, 0⟩
def Hd.PAGE_GEN : Field := ⟨0xC, 31, 16, 0, 0⟩
def Hd.PAGE_GEN_GEN : Field := ⟨0xC, 15, 0, 0, 0⟩
def Hd.PAGE_STATE : Field := ⟨0x10, 31, 11, 0, 0⟩
def Hd.PAGE_STATE_FAULT : Field := ⟨0x10, 10, 10, 0, 0⟩
def Hd.PAGE_STATE_LOCKED : Field := ⟨0x10, 9, 9, 0, 0⟩
def Hd.PAGE_STATE_BUSY : Field := ⟨0x10, 8, 8, 0, 0⟩
def Hd.PAGE_STATE_STATE : Field := ⟨0x10, 7, 0, 0, 0⟩
def Hd.PAGE_CTRL_31_16 : Field := ⟨0x14, 31, 16, 0, 0⟩
def Hd.PAGE_CTRL_15_1 : Field := ⟨0x14, 15, 1, 0, 0⟩
def Hd.PAGE_CTRL_EVT_DELIVER : Field := ⟨0x14, 0, 0, 0, 0⟩
def Hd.PAGE_OWNER : Field := ⟨0x18, 31, 16, 0, 0⟩
def Hd.PAGE_OWNER_CFG_HOST : Field := ⟨0x18, 15, 8, 0, 0⟩
def Hd.PAGE_OWNER_LANE : Field := ⟨0x18, 7, 0, 0, 0⟩
def Hd.PAGE_LOCK : Field := ⟨0x1C, 31, 8, 0, 0⟩
def Hd.PAGE_LOCK_LOCKED_BY : Field := ⟨0x1C, 6, 4, 0, 0⟩
def Hd.PAGE_LOCK_LOCK : Field := ⟨0x1C, 0, 0, 0, 0⟩
def Hd.EVT_RAW : Field := ⟨0x20, 15, 0, 0, 0⟩
def Hd.EVT_PEND : Field := ⟨0x24, 15, 0, 0, 0⟩
def Hd.EVT_ENA : Field := ⟨0x28, 15, 0, 0, 0⟩
def Hd.EVT_ROUTE : Field := ⟨0x2C, 31, 12, 0, 0⟩
def Hd.EVT_ROUTE_TASK : Field := ⟨0x2C, 11, 8, 0, 0⟩
def Hd.EVT_ROUTE_MGMT : Field := ⟨0x2C, 6, 6, 0, 0⟩
def Hd.EVT_ROUTE_LANE_FW : Field := ⟨0x2C, 5, 5, 0, 0⟩
def Hd.EVT_ROUTE_CLE : Field := ⟨0x2C, 4, 4, 0, 0⟩
def Hd.EVT_ROUTE_HOSTS : Field := ⟨0x2C, 3, 0, 0, 0⟩
def Hd.CMD_TAG : Field := ⟨0x30, 31, 16, 0, 0⟩
def Hd.CMD_CHANNEL : Field := ⟨0x30, 15, 8, 0, 0⟩
def Hd.CMD_OPCODE : Field := ⟨0x30, 7, 0, 0, 0⟩
def Hd.CMD_ARG0 : Field := ⟨0x34, 31, 0, 0, 0⟩
def Hd.CMD_ARG1 : Field := ⟨0x38, 31, 0, 0, 0⟩
def Hd.CMD_RESULT_TAG : Field := ⟨0x3C, 31, 16, 0, 0⟩
def Hd.CMD_RESULT_STATE : Field := ⟨0x3C, 15, 8, 0, 0⟩
def Hd.CMD_RESULT_RESULT : Field := ⟨0x3C, 7, 0, 0, 0⟩
def Hd.CLAMP_COUNT : Field := ⟨0x40, 31, 16, 0, 0⟩
def Hd.CLAMP_COUNT_COUNT : Field := ⟨0x40, 15, 0, 0, 0⟩
def Hd.CLAMP_LAST : Field := ⟨0x44, 31, 27, 0, 0⟩
def Hd.CLAMP_LAST_REQUESTER : Field := ⟨0x44, 26, 24, 0, 0⟩
def Hd.CLAMP_LAST_BIT : Field := ⟨0x44, 20, 16, 0, 0⟩
def Hd.CLAMP_LAST_OFFSET : Field := ⟨0x44, 11, 0, 0, 0⟩
def Hd.CLAMP_REQ : Field := ⟨0x48, 31, 0, 0, 0⟩
def Hd.CLAMP_APPLIED : Field := ⟨0x4C, 31, 0, 0, 0⟩

/-! Fields of the device page (R68). -/

def Dev.DEV_TYPE : Field := ⟨0x100, 31, 0, 0, 0⟩
def Dev.DEV_HW_REV : Field := ⟨0x104, 7, 0, 0, 0⟩
def Dev.SERIAL_LO : Field := ⟨0x108, 31, 0, 0, 0⟩
def Dev.SERIAL_HI : Field := ⟨0x10C, 31, 0, 0, 0⟩
def Dev.FW_VER_A_23_16 : Field := ⟨0x110, 23, 16, 0, 0⟩
def Dev.FW_VER_A_15_8 : Field := ⟨0x110, 15, 8, 0, 0⟩
def Dev.FW_VER_A_7_0 : Field := ⟨0x110, 7, 0, 0, 0⟩
def Dev.IDENT_REF : Field := ⟨0x11C, 31, 0, 0, 0⟩
def Dev.BOOT_COUNT : Field := ⟨0x120, 31, 0, 0, 0⟩
def Dev.PROFILE : Field := ⟨0x140, 1, 0, 0, 0⟩
def Dev.PROFILE_ACT_A : Field := ⟨0x144, 1, 0, 0, 0⟩
def Dev.PROFILE_ACT_B : Field := ⟨0x148, 1, 0, 0, 0⟩
def Dev.OVR_BUS_A_ENA : Field := ⟨0x150, 31, 31, 0, 0⟩
def Dev.OVR_BUS_A_POS_KHZ : Field := ⟨0x150, 23, 20, 0, 0⟩
def Dev.OVR_BUS_A_VEL_KHZ : Field := ⟨0x150, 19, 16, 0, 0⟩
def Dev.OVR_BUS_A_CUR_KHZ : Field := ⟨0x150, 15, 8, 0, 0⟩
def Dev.OVR_BUS_A_PWM_KHZ : Field := ⟨0x150, 7, 0, 0, 0⟩
def Dev.OVR_CLE_MIN_ENA : Field := ⟨0x158, 31, 31, 0, 0⟩
def Dev.OVR_CLE_MIN_PERIOD_US : Field := ⟨0x158, 15, 0, 0, 0⟩
def Dev.OVR_CAPTURE_A_ENA : Field := ⟨0x15C, 31, 31, 0, 0⟩
def Dev.OVR_CAPTURE_A_RATE : Field := ⟨0x15C, 4, 0, 0, 0⟩
def Dev.EFF_BUS_A_CONT_DA : Field := ⟨0x170, 31, 24, 0, 0⟩
def Dev.EFF_BUS_A : Field := ⟨0x170, 23, 0, 0, 0⟩
def Dev.EFF_CLE_MIN : Field := ⟨0x178, 15, 0, 0, 0⟩
def Dev.EFF_CAPTURE_A : Field := ⟨0x17C, 4, 0, 0, 0⟩
def Dev.EFF_CAPTURE_B : Field := ⟨0x180, 4, 0, 0, 0⟩
def Dev.TIME_NOW_LO : Field := ⟨0x1A0, 31, 0, 0, 0⟩
def Dev.TIME_NOW_HI : Field := ⟨0x1A4, 31, 0, 0, 0⟩
def Dev.TIME_STATUS_PORT : Field := ⟨0x1A8, 7, 4, 0, 0⟩
def Dev.TIME_STATUS_FROM_RTC : Field := ⟨0x1A8, 2, 2, 0, 0⟩
def Dev.TIME_STATUS_GM_PRESENT : Field := ⟨0x1A8, 1, 1, 0, 0⟩
def Dev.TIME_STATUS_SYNCED : Field := ⟨0x1A8, 0, 0, 0, 0⟩
def Dev.TIME_OFFSET : Field := ⟨0x1AC, 31, 0, 0, 0⟩
def Dev.GM_ID_LO : Field := ⟨0x1B0, 31, 0, 0, 0⟩
def Dev.GM_ID_HI : Field := ⟨0x1B4, 31, 0, 0, 0⟩
def Dev.HOLDOVER_S : Field := ⟨0x1B8, 15, 0, 0, 0⟩
def Dev.SYNC_LOSS_COUNT : Field := ⟨0x1BC, 15, 0, 0, 0⟩
def Dev.OVR_BUS_B_ENA : Field := ⟨0x154, 31, 31, 0, 0⟩
def Dev.OVR_BUS_B_POS_KHZ : Field := ⟨0x154, 23, 20, 0, 0⟩
def Dev.OVR_BUS_B_VEL_KHZ : Field := ⟨0x154, 19, 16, 0, 0⟩
def Dev.OVR_BUS_B_CUR_KHZ : Field := ⟨0x154, 15, 8, 0, 0⟩
def Dev.OVR_BUS_B_PWM_KHZ : Field := ⟨0x154, 7, 0, 0, 0⟩
def Dev.OVR_CAPTURE_B_ENA : Field := ⟨0x160, 31, 31, 0, 0⟩
def Dev.OVR_CAPTURE_B_RATE : Field := ⟨0x160, 4, 0, 0, 0⟩
def Dev.EFF_BUS_B_CONT_DA : Field := ⟨0x174, 31, 24, 0, 0⟩
def Dev.EFF_BUS_B : Field := ⟨0x174, 23, 0, 0, 0⟩
def Dev.FW_VER_B_23_16 : Field := ⟨0x114, 23, 16, 0, 0⟩
def Dev.FW_VER_B_15_8 : Field := ⟨0x114, 15, 8, 0, 0⟩
def Dev.FW_VER_B_7_0 : Field := ⟨0x114, 7, 0, 0, 0⟩
def Dev.FW_VER_MGMT_23_16 : Field := ⟨0x118, 23, 16, 0, 0⟩
def Dev.FW_VER_MGMT_15_8 : Field := ⟨0x118, 15, 8, 0, 0⟩
def Dev.FW_VER_MGMT_7_0 : Field := ⟨0x118, 7, 0, 0, 0⟩

/-! Fields of the fabric page (R75). -/

def Fab.FAB_RATE : Field := ⟨0x100, 31, 0, 0, 0⟩
def Fab.FAB_TOTAL_LO : Field := ⟨0x108, 31, 0, 0, 0⟩
def Fab.FAB_TOTAL_HI : Field := ⟨0x10C, 31, 0, 0, 0⟩
def Fab.DEST_DEPTH : Field := ⟨0x120, 12, 0, 4, 0⟩
def Fab.DEST_DROPS : Field := ⟨0x140, 31, 0, 4, 0⟩
def Fab.DEST_HWM : Field := ⟨0x160, 12, 0, 4, 0⟩
def Fab.LAST_DROP_DEST : Field := ⟨0x180, 26, 24, 0, 0⟩
def Fab.LAST_DROP_ID : Field := ⟨0x180, 10, 0, 0, 0⟩
def Fab.HIGH_PCT : Field := ⟨0x184, 6, 0, 0, 0⟩
def Fab.PEND_SUMMARY : Field := ⟨0x200, 31, 0, 4, 0⟩

/-! Fields of the lane page (R96). -/

def Ln.LANE_INFO_CAUSE : Field := ⟨0x100, 15, 8, 0, 0⟩
def Ln.LANE_INFO_LANE : Field := ⟨0x100, 1, 0, 0, 0⟩
def Ln.HB_POLICY_RESTORE_MAP : Field := ⟨0x104, 1, 1, 0, 0⟩
def Ln.HB_POLICY_STOP_ON_FAULT : Field := ⟨0x104, 0, 0, 0, 0⟩
def Ln.LANE_SUPPLY : Field := ⟨0x108, 15, 0, 0, 0⟩
def Ln.LANE_TEMP : Field := ⟨0x10C, 15, 0, 0, 0⟩
def Ln.OWNED : Field := ⟨0x110, 6, 0, 0, 0⟩
def Ln.HB_STOPS : Field := ⟨0x114, 15, 0, 0, 0⟩
def Ln.JOIN_STATUS_IMAGE : Field := ⟨0x118, 16, 16, 0, 0⟩
def Ln.JOIN_STATUS_PASSES : Field := ⟨0x118, 15, 8, 0, 0⟩
def Ln.JOIN_STATUS_PCT : Field := ⟨0x118, 7, 0, 0, 0⟩
def Ln.JOIN_LIMIT_S : Field := ⟨0x11C, 7, 0, 0, 0⟩

/-! Fields of the crossing page (R99). -/

def Xg.LINK_STATUS : Field := ⟨0x100, 1, 0, 4, 0⟩
def Xg.LINK_CRC_ERR : Field := ⟨0x108, 31, 0, 4, 0⟩
def Xg.LINK_DOWN_COUNT_LINK1 : Field := ⟨0x110, 31, 16, 0, 0⟩
def Xg.LINK_DOWN_COUNT_LINK0 : Field := ⟨0x110, 15, 0, 0, 0⟩
def Xg.FREQ_DIFF : Field := ⟨0x114, 15, 0, 0, 0⟩
def Xg.ALIGN_OFFSET : Field := ⟨0x118, 15, 0, 0, 0⟩
def Xg.ALIGN_MAX : Field := ⟨0x11C, 15, 0, 0, 0⟩
def Xg.EXCH_LATE_COUNT : Field := ⟨0x120, 31, 0, 0, 0⟩
def Xg.SPLIT_COUNT : Field := ⟨0x124, 15, 0, 0, 0⟩
def Xg.TAKEOVER_MS : Field := ⟨0x128, 7, 0, 0, 0⟩
def Xg.REJOIN_STATUS_READY : Field := ⟨0x12C, 8, 8, 0, 0⟩
def Xg.REJOIN_STATUS_CLEAN : Field := ⟨0x12C, 4, 0, 0, 0⟩
def Xg.TEMP_DIFF : Field := ⟨0x130, 15, 0, 0, 0⟩
def Xg.OWN_STATE_CHANGES : Field := ⟨0x200, 31, 16, 4, 0⟩
def Xg.OWN_STATE_CAUSE : Field := ⟨0x200, 10, 8, 4, 0⟩
def Xg.OWN_STATE_HB_B : Field := ⟨0x200, 7, 7, 4, 0⟩
def Xg.OWN_STATE_HB_A : Field := ⟨0x200, 6, 6, 4, 0⟩
def Xg.OWN_STATE_REQUEST : Field := ⟨0x200, 5, 4, 4, 0⟩
def Xg.OWN_STATE_OFFER : Field := ⟨0x200, 3, 2, 4, 0⟩
def Xg.OWN_STATE_OWNER : Field := ⟨0x200, 1, 0, 4, 0⟩

/-! Fields of the power page (R122). -/

def Pw.V_LANE_A : Field := ⟨0x100, 15, 0, 0, 0⟩
def Pw.V_LANE_B : Field := ⟨0x104, 15, 0, 0, 0⟩
def Pw.V_MBUS_A : Field := ⟨0x108, 15, 0, 0, 0⟩
def Pw.V_MBUS_B : Field := ⟨0x10C, 15, 0, 0, 0⟩
def Pw.V_LS_A : Field := ⟨0x110, 15, 0, 0, 0⟩
def Pw.V_LS_B : Field := ⟨0x114, 15, 0, 0, 0⟩
def Pw.FIELD_PRESENT : Field := ⟨0x118, 15, 0, 0, 0⟩
def Pw.DOMAIN_STATUS_HOLDUP_COMMON : Field := ⟨0x11C, 10, 10, 0, 0⟩
def Pw.DOMAIN_STATUS_HOLDUP_B : Field := ⟨0x11C, 9, 9, 0, 0⟩
def Pw.DOMAIN_STATUS_HOLDUP_A : Field := ⟨0x11C, 8, 8, 0, 0⟩
def Pw.DOMAIN_STATUS_MBUS_B_READY : Field := ⟨0x11C, 7, 7, 0, 0⟩
def Pw.DOMAIN_STATUS_MBUS_A_READY : Field := ⟨0x11C, 6, 6, 0, 0⟩
def Pw.DOMAIN_STATUS_LS_B : Field := ⟨0x11C, 5, 5, 0, 0⟩
def Pw.DOMAIN_STATUS_LS_A : Field := ⟨0x11C, 4, 4, 0, 0⟩
def Pw.DOMAIN_STATUS_LANE_B : Field := ⟨0x11C, 1, 1, 0, 0⟩
def Pw.DOMAIN_STATUS_LANE_A : Field := ⟨0x11C, 0, 0, 0, 0⟩
def Pw.HOLDUP_MS_COMMON : Field := ⟨0x120, 23, 16, 0, 0⟩
def Pw.HOLDUP_MS_B : Field := ⟨0x120, 15, 8, 0, 0⟩
def Pw.HOLDUP_MS_A : Field := ⟨0x120, 7, 0, 0, 0⟩
def Pw.V_CELL : Field := ⟨0x124, 15, 0, 0, 0⟩
def Pw.INTERRUPTS_B : Field := ⟨0x128, 31, 16, 0, 0⟩
def Pw.INTERRUPTS_A : Field := ⟨0x128, 15, 0, 0, 0⟩
def Pw.RESET_LOG_LANE_B_SRC : Field := ⟨0x12C, 31, 24, 0, 0⟩
def Pw.RESET_LOG_LANE_A_SRC : Field := ⟨0x12C, 23, 16, 0, 0⟩
def Pw.RESET_LOG_MGMT_SRC : Field := ⟨0x12C, 15, 8, 0, 0⟩
def Pw.RESET_LOG_SOURCE : Field := ⟨0x12C, 7, 0, 0, 0⟩
def Pw.RESET_TIME_LO : Field := ⟨0x130, 31, 0, 0, 0⟩
def Pw.RESET_TIME_HI : Field := ⟨0x134, 31, 0, 0, 0⟩
def Pw.BOOT_MS_B : Field := ⟨0x138, 31, 16, 0, 0⟩
def Pw.BOOT_MS_A : Field := ⟨0x138, 15, 0, 0, 0⟩
def Pw.RESTART_CFG_ALONE_WARM : Field := ⟨0x13C, 1, 1, 0, 0⟩
def Pw.RESTART_CFG_POWERON_WARM : Field := ⟨0x13C, 0, 0, 0, 0⟩
def Pw.WARM_MAX_OUTAGE_S : Field := ⟨0x140, 31, 0, 0, 0⟩
def Pw.LAST_START_CYCLE : Field := ⟨0x144, 31, 0, 0, 0⟩
def Pw.LAST_START_KIND_DENY : Field := ⟨0x148, 15, 8, 0, 0⟩
def Pw.LAST_START_KIND_WARM : Field := ⟨0x148, 0, 0, 0, 0⟩
def Pw.LAST_OUTAGE_S : Field := ⟨0x14C, 31, 0, 0, 0⟩
def Pw.CFG_SEQ : Field := ⟨0x150, 31, 0, 0, 0⟩
def Pw.CFG_LOAD_BAD_PAGES : Field := ⟨0x154, 31, 16, 0, 0⟩
def Pw.CFG_LOAD_CLAMPS : Field := ⟨0x154, 15, 0, 0, 0⟩
def Pw.CFG_SOURCE : Field := ⟨0x158, 1, 0, 0, 0⟩
def Pw.FIELD_POWER_LIMITING : Field := ⟨0x15C, 16, 16, 0, 0⟩
def Pw.FIELD_POWER_P_DW : Field := ⟨0x15C, 15, 0, 0, 0⟩

/-! Fields of the hostPorts page (R156). -/

def Pt.ANNOUNCE_ENA : Field := ⟨0x100, 0, 0, 0, 0⟩
def Pt.MCAST_GROUP : Field := ⟨0x104, 31, 0, 0, 0⟩
def Pt.PTP_CFG_PORT_MASK : Field := ⟨0x108, 11, 8, 0, 0⟩
def Pt.PTP_CFG_DOMAIN : Field := ⟨0x108, 7, 0, 0, 0⟩
def Pt.CONSIST_TOPO : Field := ⟨0x10C, 31, 0, 0, 0⟩
def Pt.CONSIST_INFO_REVERSED : Field := ⟨0x110, 16, 16, 0, 0⟩
def Pt.CONSIST_INFO_POSITION : Field := ⟨0x110, 15, 8, 0, 0⟩
def Pt.CONSIST_INFO_COUNT : Field := ⟨0x110, 7, 0, 0, 0⟩
def Pt.PORT_CFG_ENA : Field := ⟨0x400, 31, 31, 64, 0⟩
def Pt.PORT_CFG_DHCP : Field := ⟨0x400, 16, 16, 64, 0⟩
def Pt.PORT_CFG_PCP : Field := ⟨0x400, 15, 13, 64, 0⟩
def Pt.PORT_CFG_VLAN_ID : Field := ⟨0x400, 11, 0, 64, 0⟩
def Pt.IP_STATIC : Field := ⟨0x404, 31, 0, 64, 0⟩
def Pt.PREFIX_LEN : Field := ⟨0x408, 5, 0, 64, 0⟩
def Pt.GATEWAY : Field := ⟨0x40C, 31, 0, 64, 0⟩
def Pt.LINK_UP : Field := ⟨0x410, 8, 8, 64, 0⟩
def Pt.LINK_SPEED : Field := ⟨0x410, 5, 4, 64, 0⟩
def Pt.IP_ACTIVE : Field := ⟨0x414, 31, 0, 64, 0⟩
def Pt.MAC_LO : Field := ⟨0x418, 31, 0, 64, 0⟩
def Pt.MAC_HI : Field := ⟨0x41C, 15, 0, 64, 0⟩
def Pt.RX_FRAMES : Field := ⟨0x420, 31, 0, 64, 0⟩
def Pt.TX_FRAMES : Field := ⟨0x424, 31, 0, 64, 0⟩
def Pt.RX_ERRORS : Field := ⟨0x428, 31, 0, 64, 0⟩
def Pt.DROPPED : Field := ⟨0x42C, 31, 0, 64, 0⟩
def Pt.PTP_PORT_PDELAY_NS : Field := ⟨0x430, 31, 16, 64, 0⟩
def Pt.PTP_PORT_AS_CAPABLE : Field := ⟨0x430, 8, 8, 64, 0⟩
def Pt.PTP_PORT_ROLE : Field := ⟨0x430, 1, 0, 64, 0⟩
def Pt.LINK_DOWNS : Field := ⟨0x434, 15, 0, 64, 0⟩

/-! Fields of the hostRights page (R159). -/

def Ss.SESSION_TIMEOUT_S : Field := ⟨0x100, 5, 0, 0, 0⟩
def Ss.ROLE_CLASS_SERVICE : Field := ⟨0x104, 7, 6, 0, 0⟩
def Ss.ROLE_CLASS_ADMINISTRATOR : Field := ⟨0x104, 5, 4, 0, 0⟩
def Ss.ROLE_CLASS_MAINTAINER : Field := ⟨0x104, 3, 2, 0, 0⟩
def Ss.ROLE_CLASS_OPERATOR : Field := ⟨0x104, 1, 0, 0, 0⟩
def Ss.CFG_HOLDER_CHANGES : Field := ⟨0x108, 31, 16, 0, 0⟩
def Ss.CFG_HOLDER_SLOT : Field := ⟨0x108, 7, 0, 0, 0⟩
def Ss.FABRIC_LOAD_LOG_KBPS : Field := ⟨0x10C, 31, 16, 0, 0⟩
def Ss.FABRIC_LOAD_REQ_PS : Field := ⟨0x10C, 15, 0, 0, 0⟩
def Ss.SLOTS_FULL_COUNT : Field := ⟨0x110, 15, 0, 0, 0⟩
def Ss.AUTH_FAIL_COUNT : Field := ⟨0x114, 15, 0, 0, 0⟩
def Ss.LAST_AUTH_FAIL_PORT : Field := ⟨0x118, 11, 8, 0, 0⟩
def Ss.LAST_AUTH_FAIL_CHECK : Field := ⟨0x118, 7, 0, 0, 0⟩
def Ss.SLOT_STATE_PORT : Field := ⟨0x200, 19, 16, 64, 0⟩
def Ss.SLOT_STATE_TIME_UNVERIFIED : Field := ⟨0x200, 13, 13, 64, 0⟩
def Ss.SLOT_STATE_CFG_OWNER : Field := ⟨0x200, 12, 12, 64, 0⟩
def Ss.SLOT_STATE_CLASS : Field := ⟨0x200, 9, 8, 64, 0⟩
def Ss.SLOT_STATE_ROLE : Field := ⟨0x200, 6, 4, 64, 0⟩
def Ss.SLOT_STATE_STATE : Field := ⟨0x200, 1, 0, 64, 0⟩
def Ss.PEER_IP : Field := ⟨0x204, 31, 0, 64, 0⟩
def Ss.PEER_UDP : Field := ⟨0x208, 15, 0, 64, 0⟩
def Ss.SUBJECT_REF : Field := ⟨0x20C, 31, 0, 64, 0⟩
def Ss.OUTSTANDING : Field := ⟨0x210, 5, 0, 64, 0⟩
def Ss.REQUESTS : Field := ⟨0x214, 31, 0, 64, 0⟩
def Ss.BUSY_COUNT : Field := ⟨0x218, 31, 0, 64, 0⟩
def Ss.SKIPPED_COUNT : Field := ⟨0x21C, 31, 0, 64, 0⟩
def Ss.OPENED_LO : Field := ⟨0x220, 31, 0, 64, 0⟩
def Ss.OPENED_HI : Field := ⟨0x224, 31, 0, 64, 0⟩
def Ss.LAST_END_REASON : Field := ⟨0x228, 7, 0, 64, 0⟩
def Ss.EVT_UNACKED : Field := ⟨0x22C, 12, 0, 64, 0⟩
def Ss.RIGHTS : Field := ⟨0x400, 31, 0, 64, 4⟩

/-! Fields of the cle page (R196). -/

def Ce.CYCLE_PERIOD_PERIOD_US : Field := ⟨0x100, 16, 0, 0, 0⟩
def Ce.CYCLE_CFG_GRACE_PCT : Field := ⟨0x104, 20, 16, 0, 0⟩
def Ce.CYCLE_CFG_WARN_PCT : Field := ⟨0x104, 14, 8, 0, 0⟩
def Ce.CYCLE_CFG_STOP_SAFE : Field := ⟨0x104, 0, 0, 0, 0⟩
def Ce.CYCLE_ACT_GRACE : Field := ⟨0x108, 28, 24, 0, 0⟩
def Ce.CYCLE_ACT_PERIOD_US : Field := ⟨0x108, 16, 0, 0, 0⟩
def Ce.PROG_WCET_US : Field := ⟨0x10C, 19, 0, 0, 0⟩
def Ce.CYCLE_NO_LO : Field := ⟨0x110, 31, 0, 0, 0⟩
def Ce.CYCLE_NO_HI : Field := ⟨0x114, 31, 0, 0, 0⟩
def Ce.PROG_TIME_LO : Field := ⟨0x118, 31, 0, 0, 0⟩
def Ce.PROG_TIME_HI : Field := ⟨0x11C, 31, 0, 0, 0⟩
def Ce.USAGE_MAX : Field := ⟨0x120, 26, 16, 0, 0⟩
def Ce.USAGE_LAST : Field := ⟨0x120, 10, 0, 0, 0⟩
def Ce.LATE_COUNT : Field := ⟨0x124, 31, 0, 0, 0⟩
def Ce.WARN_COUNT : Field := ⟨0x128, 31, 0, 0, 0⟩
def Ce.STOP_INFO_LAST_START : Field := ⟨0x12C, 25, 24, 0, 0⟩
def Ce.STOP_INFO_CLEAN_STOP : Field := ⟨0x12C, 16, 16, 0, 0⟩
def Ce.STOP_INFO_CAUSE : Field := ⟨0x12C, 15, 8, 0, 0⟩
def Ce.STOP_INFO_TASK : Field := ⟨0x12C, 7, 0, 0, 0⟩
def Ce.FAULT_PC : Field := ⟨0x130, 21, 0, 0, 0⟩
def Ce.FAULT_CYCLE : Field := ⟨0x134, 31, 0, 0, 0⟩
def Ce.STALL_TASKS : Field := ⟨0x138, 15, 0, 0, 0⟩
def Ce.PROG_REF : Field := ⟨0x13C, 31, 0, 0, 0⟩
def Ce.RETAIN_SIZE : Field := ⟨0x140, 21, 0, 0, 0⟩
def Ce.SNAP_CYCLE_LO : Field := ⟨0x144, 31, 0, 0, 0⟩
def Ce.SNAP_CYCLE_HI : Field := ⟨0x148, 31, 0, 0, 0⟩
def Ce.RETAIN_COMMIT_MAX_US : Field := ⟨0x14C, 31, 16, 0, 0⟩
def Ce.RETAIN_COMMIT_LAST_US : Field := ⟨0x14C, 15, 0, 0, 0⟩
def Ce.RETAIN_SKIPS : Field := ⟨0x150, 31, 0, 0, 0⟩
def Ce.CMP_WORDS : Field := ⟨0x154, 12, 0, 0, 0⟩
def Ce.CMP_MISMATCHES : Field := ⟨0x158, 31, 0, 0, 0⟩
def Ce.CMP_MISSING : Field := ⟨0x15C, 31, 0, 0, 0⟩
def Ce.CMP_LAST : Field := ⟨0x160, 11, 0, 0, 0⟩
def Ce.CMP_LOCAL : Field := ⟨0x164, 31, 0, 0, 0⟩
def Ce.CMP_REMOTE : Field := ⟨0x168, 31, 0, 0, 0⟩
def Ce.TASKS_ENABLED : Field := ⟨0x16C, 15, 0, 0, 0⟩
def Ce.TASK_CFG_ENA : Field := ⟨0x400, 31, 31, 64, 0⟩
def Ce.TASK_CFG_KIND : Field := ⟨0x400, 30, 30, 64, 0⟩
def Ce.TASK_CFG_PHASE : Field := ⟨0x400, 25, 16, 64, 0⟩
def Ce.TASK_CFG_DIV : Field := ⟨0x400, 9, 0, 64, 0⟩
def Ce.TASK_STATE_WAIT_N : Field := ⟨0x404, 15, 8, 64, 0⟩
def Ce.TASK_STATE_STATE : Field := ⟨0x404, 2, 0, 64, 0⟩
def Ce.TASK_WAIT_27_16 : Field := ⟨0x408, 27, 16, 64, 0⟩
def Ce.TASK_WAIT_11_0 : Field := ⟨0x408, 11, 0, 64, 0⟩
def Ce.TIME_LAST : Field := ⟨0x418, 23, 0, 64, 0⟩
def Ce.TIME_MAX : Field := ⟨0x41C, 23, 0, 64, 0⟩
def Ce.RUNS : Field := ⟨0x420, 31, 0, 64, 0⟩
def Ce.RESUME_PC : Field := ⟨0x424, 21, 0, 64, 0⟩

/-! Fields of the debug page (R199). -/

def Db.HOLD_STATUS_BP_B : Field := ⟨0x100, 23, 20, 0, 0⟩
def Db.HOLD_STATUS_BP_A : Field := ⟨0x100, 19, 16, 0, 0⟩
def Db.HOLD_STATUS_WHERE_B : Field := ⟨0x100, 15, 12, 0, 0⟩
def Db.HOLD_STATUS_WHERE_A : Field := ⟨0x100, 11, 8, 0, 0⟩
def Db.HOLD_STATUS_HELD_B : Field := ⟨0x100, 1, 1, 0, 0⟩
def Db.HOLD_STATUS_HELD_A : Field := ⟨0x100, 0, 0, 0, 0⟩
def Db.HOLD_CFG_OUT_SAFE : Field := ⟨0x104, 0, 0, 0, 0⟩
def Db.HELD_CYCLE_A : Field := ⟨0x108, 31, 0, 0, 0⟩
def Db.HELD_CYCLE_B : Field := ⟨0x10C, 31, 0, 0, 0⟩
def Db.STEP_LEFT : Field := ⟨0x110, 9, 0, 0, 0⟩
def Db.BP_IGNORED : Field := ⟨0x114, 31, 0, 0, 0⟩
def Db.BP_ADDR_ENA : Field := ⟨0x200, 31, 31, 8, 0⟩
def Db.BP_ADDR_ADDR : Field := ⟨0x200, 21, 0, 8, 0⟩
def Db.BP_COND_ANY_TASK : Field := ⟨0x204, 20, 20, 8, 0⟩
def Db.BP_COND_TASK : Field := ⟨0x204, 19, 16, 8, 0⟩
def Db.BP_COND_PASS : Field := ⟨0x204, 15, 0, 8, 0⟩

/-! Fields of the onlineChange page (R255). -/

def Oc.OC_CFG_HOLD_S : Field := ⟨0x100, 31, 16, 0, 0⟩
def Oc.OC_CFG_RESTART_WAITING : Field := ⟨0x100, 15, 15, 0, 0⟩
def Oc.OC_CFG_QUIESCE_LIMIT : Field := ⟨0x100, 9, 0, 0, 0⟩
def Oc.OC_STATUS_REASON : Field := ⟨0x104, 31, 24, 0, 0⟩
def Oc.OC_STATUS_CHECK_B : Field := ⟨0x104, 15, 8, 0, 0⟩
def Oc.OC_STATUS_CHECK_A : Field := ⟨0x104, 7, 0, 0, 0⟩
def Oc.NEW_REF : Field := ⟨0x108, 31, 0, 0, 0⟩
def Oc.BASE_REF : Field := ⟨0x10C, 31, 0, 0, 0⟩
def Oc.NEW_WCET_US : Field := ⟨0x110, 19, 0, 0, 0⟩
def Oc.COMMIT_US : Field := ⟨0x114, 15, 0, 0, 0⟩
def Oc.MOVE_BYTES : Field := ⟨0x118, 23, 0, 0, 0⟩
def Oc.PRIME_CYCLES : Field := ⟨0x11C, 19, 0, 0, 0⟩
def Oc.SAFETY_TOUCHED : Field := ⟨0x120, 0, 0, 0, 0⟩
def Oc.COMMIT_CYCLE_LO : Field := ⟨0x124, 31, 0, 0, 0⟩
def Oc.COMMIT_CYCLE_HI : Field := ⟨0x128, 31, 0, 0, 0⟩
def Oc.DEFERRALS : Field := ⟨0x12C, 9, 0, 0, 0⟩
def Oc.COUNT_A_MATCHED : Field := ⟨0x130, 31, 16, 0, 0⟩
def Oc.COUNT_A_NEW : Field := ⟨0x130, 15, 0, 0, 0⟩
def Oc.COUNT_B_REMOVED : Field := ⟨0x134, 31, 16, 0, 0⟩
def Oc.COUNT_B_PRIMED : Field := ⟨0x134, 15, 0, 0, 0⟩
def Oc.COUNT_C_MAPPED : Field := ⟨0x138, 31, 16, 0, 0⟩
def Oc.COUNT_C_PARAM_CHANGED : Field := ⟨0x138, 15, 0, 0, 0⟩
def Oc.COUNT_D_ENTRIES : Field := ⟨0x13C, 31, 16, 0, 0⟩
def Oc.COUNT_D_TASKS_RESTARTED : Field := ⟨0x13C, 7, 0, 0, 0⟩
def Oc.SNAP_STATUS_SKIPS : Field := ⟨0x140, 31, 16, 0, 0⟩
def Oc.SNAP_STATUS_BUF1_NEW : Field := ⟨0x140, 1, 1, 0, 0⟩
def Oc.SNAP_STATUS_BUF0_NEW : Field := ⟨0x140, 0, 0, 0, 0⟩
def Oc.CHANGES : Field := ⟨0x144, 15, 0, 0, 0⟩
def Oc.REPORT_BASE : Field := ⟨0x148, 15, 0, 0, 0⟩

/-! Fields of the avenue page (R275). -/

def Av.AVU_STATUS_IN_FAULT : Field := ⟨0x100, 14, 8, 0, 0⟩
def Av.AVU_STATUS_ENABLED : Field := ⟨0x100, 6, 0, 0, 0⟩
def Av.LINE_TIMEOUT_MS : Field := ⟨0x104, 15, 0, 0, 0⟩
def Av.JUMP_TOTAL : Field := ⟨0x108, 31, 0, 0, 0⟩
def Av.FIRE_TOTAL_LO : Field := ⟨0x10C, 31, 0, 0, 0⟩
def Av.FIRE_TOTAL_HI : Field := ⟨0x110, 31, 0, 0, 0⟩
def Av.IGNORED_TOTAL : Field := ⟨0x114, 31, 0, 0, 0⟩
def Av.FIRED_LO : Field := ⟨0x200, 31, 0, 16, 0⟩
def Av.FIRED_HI : Field := ⟨0x204, 31, 0, 16, 0⟩
def Av.FIRST_AGE : Field := ⟨0x208, 31, 0, 16, 0⟩
def Av.LAST_AGE : Field := ⟨0x20C, 31, 0, 16, 0⟩
def Av.AV_SRC_ENA : Field := ⟨0x600, 31, 31, 32, 0⟩
def Av.AV_SRC_KIND : Field := ⟨0x600, 26, 24, 32, 0⟩
def Av.AV_SRC_RES : Field := ⟨0x600, 20, 16, 32, 0⟩
def Av.AV_SRC_CH : Field := ⟨0x600, 11, 8, 32, 0⟩
def Av.AV_SRC_LANE : Field := ⟨0x600, 1, 0, 32, 0⟩
def Av.AV_LIMITS_HYST : Field := ⟨0x604, 31, 16, 32, 0⟩
def Av.AV_LIMITS_CIRC : Field := ⟨0x604, 15, 15, 32, 0⟩
def Av.AV_LIMITS_JUMP_LIMIT : Field := ⟨0x604, 14, 0, 32, 0⟩
def Av.AV_OFFSET : Field := ⟨0x608, 31, 0, 32, 0⟩
def Av.AV_VALUE : Field := ⟨0x60C, 31, 0, 32, 0⟩
def Av.AV_STATE_CORNERS : Field := ⟨0x610, 22, 16, 32, 0⟩
def Av.AV_STATE_CIRC : Field := ⟨0x610, 8, 8, 32, 0⟩
def Av.AV_STATE_FAULT_CAUSE : Field := ⟨0x610, 7, 4, 32, 0⟩
def Av.AV_STATE_STATE : Field := ⟨0x610, 2, 0, 32, 0⟩
def Av.AV_COUNTS_FAULTS : Field := ⟨0x614, 31, 16, 32, 0⟩
def Av.AV_COUNTS_JUMPS : Field := ⟨0x614, 15, 0, 32, 0⟩
def Av.AV_IN : Field := ⟨0x618, 31, 0, 32, 0⟩
def Av.AV_IN_RATE : Field := ⟨0x61C, 31, 0, 32, 0⟩

/-! Fields of the corner page (R278). -/

def Cn.WIN_SEL_AVENUE : Field := ⟨0x100, 5, 0, 0, 0⟩
def Cn.CN_POS : Field := ⟨0x400, 31, 0, 32, 0⟩
def Cn.CN_CTRL_ENA : Field := ⟨0x404, 31, 31, 32, 0⟩
def Cn.CN_CTRL_ONESHOT : Field := ⟨0x404, 28, 28, 32, 0⟩
def Cn.CN_CTRL_DIR : Field := ⟨0x404, 25, 24, 32, 0⟩
def Cn.CN_CTRL_ACTION : Field := ⟨0x404, 19, 16, 32, 0⟩
def Cn.CN_CTRL_ACT_ARG : Field := ⟨0x404, 15, 0, 32, 0⟩
def Cn.CN_COUNT : Field := ⟨0x408, 31, 0, 32, 0⟩
def Cn.CN_TIME_LO : Field := ⟨0x40C, 31, 0, 32, 0⟩
def Cn.CN_TIME_HI : Field := ⟨0x410, 31, 0, 32, 0⟩
def Cn.CN_STATUS_LAST_RESULT : Field := ⟨0x414, 10, 8, 32, 0⟩
def Cn.CN_STATUS_LAST_DIR : Field := ⟨0x414, 2, 2, 32, 0⟩
def Cn.CN_STATUS_ARM_F : Field := ⟨0x414, 1, 1, 32, 0⟩
def Cn.CN_STATUS_ARM_R : Field := ⟨0x414, 0, 0, 32, 0⟩

/-! Fields of the axis page (R309, R310, R342, R343, R369, R394). -/

def Ax.MOT_CFG_HW_LIMITS : Field := ⟨0x100, 31, 31, 0, 0⟩
def Ax.MOT_CFG_LIMIT_MODE : Field := ⟨0x100, 0, 0, 0, 0⟩
def Ax.LIMIT_NEG : Field := ⟨0x104, 31, 0, 0, 0⟩
def Ax.LIMIT_POS : Field := ⟨0x108, 31, 0, 0, 0⟩
def Ax.UNREF_VMAX : Field := ⟨0x10C, 31, 0, 0, 0⟩
def Ax.QS_DEC : Field := ⟨0x110, 23, 0, 0, 0⟩
def Ax.KE_CFG_DIR : Field := ⟨0x114, 31, 30, 0, 0⟩
def Ax.KE_CFG_KE_MAX_MJ : Field := ⟨0x114, 15, 0, 0, 0⟩
def Ax.MASS_G : Field := ⟨0x118, 23, 0, 0, 0⟩
def Ax.PUSH_CFG_HOLD_N : Field := ⟨0x11C, 31, 16, 0, 0⟩
def Ax.PUSH_CFG_PUSH_MS : Field := ⟨0x11C, 15, 0, 0, 0⟩
def Ax.FLY_THRESH : Field := ⟨0x120, 31, 0, 0, 0⟩
def Ax.FLY_DEC : Field := ⟨0x124, 23, 0, 0, 0⟩
def Ax.GROUP_CFG_MEMBER : Field := ⟨0x128, 8, 8, 0, 0⟩
def Ax.GROUP_CFG_GROUP : Field := ⟨0x128, 2, 0, 0, 0⟩
def Ax.INPOS_TIME_MS : Field := ⟨0x12C, 31, 16, 0, 0⟩
def Ax.INPOS_WINDOW : Field := ⟨0x12C, 15, 0, 0, 0⟩
def Ax.FT_CFG_POINTS : Field := ⟨0x130, 3, 0, 0, 0⟩
def Ax.SET_VMAX : Field := ⟨0x140, 31, 0, 16, 0⟩
def Ax.SET_ACC_CLASS : Field := ⟨0x144, 25, 24, 16, 0⟩
def Ax.SET_ACC_ACC : Field := ⟨0x144, 23, 0, 16, 0⟩
def Ax.SET_DEC : Field := ⟨0x148, 23, 0, 16, 0⟩
def Ax.SET_JERK : Field := ⟨0x14C, 23, 0, 16, 0⟩
def Ax.FT_POS : Field := ⟨0x180, 31, 0, 8, 0⟩
def Ax.FT_FORCE : Field := ⟨0x184, 15, 0, 8, 0⟩
def Ax.MOT_STATUS_SET : Field := ⟨0x1C0, 25, 24, 0, 0⟩
def Ax.MOT_STATUS_CLASS : Field := ⟨0x1C0, 21, 20, 0, 0⟩
def Ax.MOT_STATUS_BEYOND_POS : Field := ⟨0x1C0, 17, 17, 0, 0⟩
def Ax.MOT_STATUS_BEYOND_NEG : Field := ⟨0x1C0, 16, 16, 0, 0⟩
def Ax.MOT_STATUS_SW_HOME : Field := ⟨0x1C0, 14, 14, 0, 0⟩
def Ax.MOT_STATUS_SW_POS : Field := ⟨0x1C0, 13, 13, 0, 0⟩
def Ax.MOT_STATUS_SW_NEG : Field := ⟨0x1C0, 12, 12, 0, 0⟩
def Ax.MOT_STATUS_CEIL_ACTIVE : Field := ⟨0x1C0, 9, 9, 0, 0⟩
def Ax.MOT_STATUS_REF_VALID : Field := ⟨0x1C0, 8, 8, 0, 0⟩
def Ax.MOT_STATUS_LIMITING : Field := ⟨0x1C0, 6, 4, 0, 0⟩
def Ax.MOT_STATUS_STATE : Field := ⟨0x1C0, 3, 0, 0, 0⟩
def Ax.POS_SET : Field := ⟨0x1C4, 31, 0, 0, 0⟩
def Ax.VEL_SET : Field := ⟨0x1C8, 31, 0, 0, 0⟩
def Ax.TARGET : Field := ⟨0x1CC, 31, 0, 0, 0⟩
def Ax.VLIM_EFF : Field := ⟨0x1D0, 31, 0, 0, 0⟩
def Ax.CEIL_EFF : Field := ⟨0x1D4, 15, 0, 0, 0⟩
def Ax.LAST_END_TAG : Field := ⟨0x1D8, 31, 16, 0, 0⟩
def Ax.LAST_END_SET : Field := ⟨0x1D8, 11, 8, 0, 0⟩
def Ax.LAST_END_REASON : Field := ⟨0x1D8, 7, 0, 0, 0⟩
def Ax.FLY_SPEED : Field := ⟨0x1DC, 31, 0, 0, 0⟩
def Ax.LIMIT_HITS : Field := ⟨0x1E0, 31, 0, 0, 0⟩
def Ax.MOVES : Field := ⟨0x1E4, 31, 0, 0, 0⟩
def Ax.CORNER_VLIM : Field := ⟨0x1E8, 31, 0, 0, 0⟩
def Ax.HOME_CFG_PARK : Field := ⟨0x580, 31, 31, 0, 0⟩
def Ax.HOME_CFG_CLASS : Field := ⟨0x580, 9, 8, 0, 0⟩
def Ax.HOME_CFG_REVERSE_AT_LIMIT : Field := ⟨0x580, 4, 4, 0, 0⟩
def Ax.HOME_CFG_METHOD : Field := ⟨0x580, 3, 0, 0, 0⟩
def Ax.SW_MAP_INVERT : Field := ⟨0x584, 10, 8, 0, 0⟩
def Ax.SW_MAP_SW2 : Field := ⟨0x584, 5, 4, 0, 0⟩
def Ax.SW_MAP_SW1 : Field := ⟨0x584, 3, 2, 0, 0⟩
def Ax.SW_MAP_SW0 : Field := ⟨0x584, 1, 0, 0, 0⟩
def Ax.SW_TIMING_CHATTER_MS : Field := ⟨0x588, 31, 16, 0, 0⟩
def Ax.SW_TIMING_FILT_US : Field := ⟨0x588, 15, 0, 0, 0⟩
def Ax.HOME_V1 : Field := ⟨0x58C, 31, 0, 0, 0⟩
def Ax.HOME_V2 : Field := ⟨0x590, 31, 0, 0, 0⟩
def Ax.HOME_ACC : Field := ⟨0x594, 23, 0, 0, 0⟩
def Ax.HOME_POS : Field := ⟨0x598, 31, 0, 0, 0⟩
def Ax.PARK_POS : Field := ⟨0x59C, 31, 0, 0, 0⟩
def Ax.HARD_STOP_DWELL_MS : Field := ⟨0x5A0, 31, 16, 0, 0⟩
def Ax.HARD_STOP_FORCE_N : Field := ⟨0x5A0, 15, 0, 0, 0⟩
def Ax.HOME_LIMITS_TIMEOUT_S : Field := ⟨0x5A4, 15, 0, 0, 0⟩
def Ax.HOME_MAX_TRAVEL : Field := ⟨0x5A8, 31, 0, 0, 0⟩
def Ax.HOME_STATUS_EDGES : Field := ⟨0x5C0, 23, 16, 0, 0⟩
def Ax.HOME_STATUS_RESULT : Field := ⟨0x5C0, 15, 8, 0, 0⟩
def Ax.HOME_STATUS_PHASE : Field := ⟨0x5C0, 3, 0, 0, 0⟩
def Ax.HOME_CAPTURE : Field := ⟨0x5C4, 31, 0, 0, 0⟩
def Ax.HOME_SHIFT : Field := ⟨0x5C8, 31, 0, 0, 0⟩
def Ax.HOME_COUNT : Field := ⟨0x5CC, 31, 0, 0, 0⟩
def Ax.HOME_TIME_MS : Field := ⟨0x5D0, 31, 0, 0, 0⟩
def Ax.DRV_CFG_DIR_INVERT : Field := ⟨0x200, 9, 9, 0, 0⟩
def Ax.DRV_CFG_DB_MODE : Field := ⟨0x200, 8, 8, 0, 0⟩
def Ax.DRV_CFG_ANGLE_SRC : Field := ⟨0x200, 5, 4, 0, 0⟩
def Ax.DRV_CFG_MOTOR_TYPE : Field := ⟨0x200, 3, 0, 0, 0⟩
def Ax.POLE_PAIRS : Field := ⟨0x204, 7, 0, 0, 0⟩
def Ax.R_S : Field := ⟨0x208, 15, 0, 0, 0⟩
def Ax.L_DQ_L_Q : Field := ⟨0x20C, 31, 16, 0, 0⟩
def Ax.L_DQ_L_D : Field := ⟨0x20C, 15, 0, 0, 0⟩
def Ax.KE : Field := ⟨0x210, 15, 0, 0, 0⟩
def Ax.ANGLE_OFFSET : Field := ⟨0x214, 23, 0, 0, 0⟩
def Ax.HALL_TABLE : Field := ⟨0x218, 17, 0, 0, 0⟩
def Ax.MECH_LEAD_UM : Field := ⟨0x21C, 31, 0, 0, 0⟩
def Ax.MOT_I_PEAK_DA : Field := ⟨0x220, 31, 16, 0, 0⟩
def Ax.MOT_I_CONT_DA : Field := ⟨0x220, 15, 0, 0, 0⟩
def Ax.MOT_TAU_S : Field := ⟨0x224, 15, 0, 0, 0⟩
def Ax.ROT_INERTIA : Field := ⟨0x228, 31, 0, 0, 0⟩
def Ax.LOOP_BW_VEL_BW_HZ : Field := ⟨0x22C, 31, 16, 0, 0⟩
def Ax.LOOP_BW_CUR_BW_HZ : Field := ⟨0x22C, 15, 0, 0, 0⟩
def Ax.LOOP_CFG_ACC_FF_PCT : Field := ⟨0x230, 31, 24, 0, 0⟩
def Ax.LOOP_CFG_POS_BW_HZ : Field := ⟨0x230, 23, 16, 0, 0⟩
def Ax.LOOP_CFG_VEL_TI_MS : Field := ⟨0x230, 15, 0, 0, 0⟩
def Ax.FE_LIMIT : Field := ⟨0x234, 31, 0, 0, 0⟩
def Ax.FE_TIME_MS : Field := ⟨0x238, 15, 0, 0, 0⟩
def Ax.SL_CFG_START_DA : Field := ⟨0x23C, 31, 16, 0, 0⟩
def Ax.SL_HANDOVER : Field := ⟨0x240, 31, 0, 0, 0⟩
def Ax.ID_CFG_ID_CURRENT_DA : Field := ⟨0x244, 31, 16, 0, 0⟩
def Ax.ID_MAX_TRAVEL : Field := ⟨0x248, 31, 0, 0, 0⟩
def Ax.DRV_STATUS_CAUSE : Field := ⟨0x280, 31, 24, 0, 0⟩
def Ax.DRV_STATUS_PHASE_OPEN : Field := ⟨0x280, 21, 20, 0, 0⟩
def Ax.DRV_STATUS_SENSE_FAILED : Field := ⟨0x280, 19, 18, 0, 0⟩
def Ax.DRV_STATUS_REGEN_LIMITED : Field := ⟨0x280, 17, 17, 0, 0⟩
def Ax.DRV_STATUS_LIMITED : Field := ⟨0x280, 16, 16, 0, 0⟩
def Ax.DRV_STATUS_FOLDBACK : Field := ⟨0x280, 15, 15, 0, 0⟩
def Ax.DRV_STATUS_TEMP_DERATE : Field := ⟨0x280, 14, 14, 0, 0⟩
def Ax.DRV_STATUS_STATE : Field := ⟨0x280, 3, 0, 0, 0⟩
def Ax.I_DQ_I_Q : Field := ⟨0x284, 31, 16, 0, 0⟩
def Ax.I_DQ_I_D : Field := ⟨0x284, 15, 0, 0, 0⟩
def Ax.I_UV_I_V : Field := ⟨0x288, 31, 16, 0, 0⟩
def Ax.I_UV_I_U : Field := ⟨0x288, 15, 0, 0, 0⟩
def Ax.I_W_DC_I_DC : Field := ⟨0x28C, 31, 16, 0, 0⟩
def Ax.I_W_DC_I_W : Field := ⟨0x28C, 15, 0, 0, 0⟩
def Ax.V_CMD_MOD_PCT : Field := ⟨0x290, 23, 16, 0, 0⟩
def Ax.V_CMD_AMPL : Field := ⟨0x290, 15, 0, 0, 0⟩
def Ax.STAGE_TEMP : Field := ⟨0x294, 15, 0, 0, 0⟩
def Ax.THERMAL_MOTOR_PCT : Field := ⟨0x298, 15, 8, 0, 0⟩
def Ax.THERMAL_I2T_PCT : Field := ⟨0x298, 7, 0, 0, 0⟩
def Ax.CUR_LIMIT_PEAK_DA : Field := ⟨0x29C, 31, 16, 0, 0⟩
def Ax.CUR_LIMIT_CONT_DA : Field := ⟨0x29C, 15, 0, 0, 0⟩
def Ax.FOLLOW_ERR : Field := ⟨0x2A0, 31, 0, 0, 0⟩
def Ax.SPEED_EST : Field := ⟨0x2A4, 31, 0, 0, 0⟩
def Ax.FAULT_COUNT : Field := ⟨0x2A8, 31, 0, 0, 0⟩
def Ax.ID_STATUS_RESULT : Field := ⟨0x2B0, 15, 8, 0, 0⟩
def Ax.ID_STATUS_DONE_MASK : Field := ⟨0x2B0, 3, 0, 0, 0⟩
def Ax.ID_R_S : Field := ⟨0x2B4, 15, 0, 0, 0⟩
def Ax.ID_KE : Field := ⟨0x2BC, 15, 0, 0, 0⟩
def Ax.ID_POLES : Field := ⟨0x2C0, 7, 0, 0, 0⟩
def Ax.ID_OFFSET : Field := ⟨0x2C4, 23, 0, 0, 0⟩
def Ax.ID_HALL : Field := ⟨0x2C8, 17, 0, 0, 0⟩
def Ax.PEAK_W : Field := ⟨0x500, 15, 0, 4, 0⟩
def Ax.QS_PEAK_W : Field := ⟨0x510, 15, 0, 0, 0⟩
def Ax.HOME_PEAK_W : Field := ⟨0x514, 15, 0, 0, 0⟩
def Ax.RATION_OUT_REASON : Field := ⟨0x520, 31, 24, 0, 0⟩
def Ax.RATION_OUT_PCT : Field := ⟨0x520, 23, 16, 0, 0⟩
def Ax.RATION_OUT_CLASS : Field := ⟨0x520, 9, 8, 0, 0⟩
def Ax.RATION_OUT_OUTCOME : Field := ⟨0x520, 2, 0, 0, 0⟩
def Ax.DELAY_MS : Field := ⟨0x524, 15, 0, 0, 0⟩
def Ax.GRANTED_W : Field := ⟨0x528, 15, 0, 0, 0⟩
def Ax.OUTCOMES_A_STRETCHED : Field := ⟨0x52C, 31, 16, 0, 0⟩
def Ax.OUTCOMES_A_ADMITTED : Field := ⟨0x52C, 15, 0, 0, 0⟩
def Ax.OUTCOMES_B_REFUSED : Field := ⟨0x530, 31, 16, 0, 0⟩
def Ax.OUTCOMES_B_DELAYED : Field := ⟨0x530, 15, 0, 0, 0⟩
def Ax.FB_CFG_ENA : Field := ⟨0x300, 31, 31, 0, 0⟩
def Ax.FB_CFG_TYPE : Field := ⟨0x300, 26, 24, 0, 0⟩
def Ax.FB_CFG_SUPPLY : Field := ⟨0x300, 17, 16, 0, 0⟩
def Ax.FB_CFG_TERM : Field := ⟨0x300, 9, 9, 0, 0⟩
def Ax.FB_CFG_DIR_INV : Field := ⟨0x300, 8, 8, 0, 0⟩
def Ax.FB_CFG_FILT_N : Field := ⟨0x300, 5, 0, 0, 0⟩
def Ax.FB_NUM : Field := ⟨0x304, 31, 0, 0, 0⟩
def Ax.FB_DEN : Field := ⟨0x308, 31, 0, 0, 0⟩
def Ax.FB_CPR : Field := ⟨0x30C, 31, 0, 0, 0⟩
def Ax.SER_FMT_PAD_BITS : Field := ⟨0x310, 11, 8, 0, 0⟩
def Ax.SER_FMT_ST_BITS : Field := ⟨0x310, 21, 16, 0, 0⟩
def Ax.SER_FMT_MT_BITS : Field := ⟨0x310, 29, 24, 0, 0⟩
def Ax.SER_CFG_GRAY : Field := ⟨0x314, 31, 31, 0, 0⟩
def Ax.SER_CFG_SIGNED : Field := ⟨0x314, 30, 30, 0, 0⟩
def Ax.SER_CFG_ERR_BIT : Field := ⟨0x314, 29, 29, 0, 0⟩
def Ax.SER_CFG_ERR_LOW : Field := ⟨0x314, 28, 28, 0, 0⟩
def Ax.SER_CFG_CHECK : Field := ⟨0x314, 25, 24, 0, 0⟩
def Ax.SER_CFG_GAP_US : Field := ⟨0x314, 15, 8, 0, 0⟩
def Ax.SER_CFG_CLK_100K : Field := ⟨0x314, 6, 0, 0, 0⟩
def Ax.FB_OFFSET : Field := ⟨0x318, 31, 0, 0, 0⟩
def Ax.SPD_CFG_CHG_UP : Field := ⟨0x320, 23, 16, 0, 0⟩
def Ax.SPD_CFG_CHG_DN : Field := ⟨0x320, 31, 24, 0, 0⟩
def Ax.SPD_CFG_SPD_FILT_US : Field := ⟨0x320, 15, 0, 0, 0⟩
def Ax.ZERO_MS : Field := ⟨0x324, 15, 0, 0, 0⟩
def Ax.INC_CFG_QERR_MAX : Field := ⟨0x328, 31, 24, 0, 0⟩
def Ax.INC_CFG_INDEX_GATE : Field := ⟨0x328, 16, 16, 0, 0⟩
def Ax.INC_CFG_HALL_FILT_US : Field := ⟨0x328, 5, 0, 0, 0⟩
def Ax.SER_ERR_CFG_RECOVER_N : Field := ⟨0x32C, 15, 8, 0, 0⟩
def Ax.SER_ERR_CFG_FAULT_N : Field := ⟨0x32C, 7, 0, 0, 0⟩
def Ax.PASS_CFG_ENA : Field := ⟨0x330, 31, 31, 0, 0⟩
def Ax.PASS_CFG_OUT : Field := ⟨0x330, 26, 24, 0, 0⟩
def Ax.PASS_CFG_MODE : Field := ⟨0x330, 17, 16, 0, 0⟩
def Ax.PASS_CFG_EMU_PITCH : Field := ⟨0x330, 15, 0, 0, 0⟩
def Ax.FB_STATUS_CAUSE : Field := ⟨0x380, 31, 24, 0, 0⟩
def Ax.FB_STATUS_WARN : Field := ⟨0x380, 20, 20, 0, 0⟩
def Ax.FB_STATUS_HALL_FAULT : Field := ⟨0x380, 19, 19, 0, 0⟩
def Ax.FB_STATUS_SAT : Field := ⟨0x380, 18, 18, 0, 0⟩
def Ax.FB_STATUS_COMM_VALID : Field := ⟨0x380, 17, 17, 0, 0⟩
def Ax.FB_STATUS_ANGLE_VALID : Field := ⟨0x380, 16, 16, 0, 0⟩
def Ax.FB_STATUS_HALL_PRESENT : Field := ⟨0x380, 13, 13, 0, 0⟩
def Ax.FB_STATUS_DETECTED : Field := ⟨0x380, 10, 8, 0, 0⟩
def Ax.FB_STATUS_SPD_METHOD : Field := ⟨0x380, 5, 4, 0, 0⟩
def Ax.FB_STATUS_STATE : Field := ⟨0x380, 2, 0, 0, 0⟩
def Ax.POSITION : Field := ⟨0x384, 31, 0, 0, 0⟩
def Ax.POS64_LO : Field := ⟨0x388, 31, 0, 0, 0⟩
def Ax.POS64_HI : Field := ⟨0x38C, 31, 0, 0, 0⟩
def Ax.SPEED : Field := ⟨0x390, 31, 0, 0, 0⟩
def Ax.ANGLE : Field := ⟨0x394, 23, 0, 0, 0⟩
def Ax.COUNT_LO : Field := ⟨0x398, 31, 0, 0, 0⟩
def Ax.COUNT_HI : Field := ⟨0x39C, 31, 0, 0, 0⟩
def Ax.COMM_POS : Field := ⟨0x3A0, 31, 0, 0, 0⟩
def Ax.INDEX_POS : Field := ⟨0x3A4, 31, 0, 0, 0⟩
def Ax.INDEX_COUNT : Field := ⟨0x3A8, 31, 0, 0, 0⟩
def Ax.FB_SHIFT : Field := ⟨0x3AC, 31, 0, 0, 0⟩
def Ax.INPUTS_HALL_RAW : Field := ⟨0x3B0, 10, 8, 0, 0⟩
def Ax.INPUTS_SW_RAW : Field := ⟨0x3B0, 2, 0, 0, 0⟩
def Ax.QUAD_ERRORS : Field := ⟨0x3B4, 31, 0, 0, 0⟩
def Ax.HALL_ERRORS : Field := ⟨0x3B8, 31, 0, 0, 0⟩
def Ax.SER_CRC_ERRORS : Field := ⟨0x3BC, 31, 0, 0, 0⟩
def Ax.SER_TIMEOUTS : Field := ⟨0x3C0, 31, 0, 0, 0⟩
def Ax.SER_ERRBITS : Field := ⟨0x3C4, 31, 0, 0, 0⟩
def Ax.SER_TIMING_FRAME_10NS : Field := ⟨0x3C8, 31, 16, 0, 0⟩
def Ax.SER_TIMING_LINE_DELAY_NS : Field := ⟨0x3C8, 15, 0, 0, 0⟩
def Ax.SER_RAW_LO : Field := ⟨0x3CC, 31, 0, 0, 0⟩
def Ax.SER_RAW_HI : Field := ⟨0x3D0, 7, 0, 0, 0⟩
def Ax.ATTACH_ARRIVALS : Field := ⟨0x3D4, 31, 16, 0, 0⟩
def Ax.ATTACH_DEPARTURES : Field := ⟨0x3D4, 15, 0, 0, 0⟩
def Ax.PASS_STATUS_OVERSPEED : Field := ⟨0x3D8, 8, 8, 0, 0⟩
def Ax.PASS_STATUS_STATE : Field := ⟨0x3D8, 2, 0, 0, 0⟩
def Ax.OBS_CFG_ENA : Field := ⟨0x400, 31, 31, 0, 0⟩
def Ax.OBS_CFG_CLOSE_DIR : Field := ⟨0x400, 29, 28, 0, 0⟩
def Ax.OBS_CFG_DETECT_OPEN : Field := ⟨0x400, 26, 26, 0, 0⟩
def Ax.OBS_CFG_HOMING : Field := ⟨0x400, 24, 24, 0, 0⟩
def Ax.OBS_CFG_SETS : Field := ⟨0x400, 19, 16, 0, 0⟩
def Ax.OBS_CFG_REV_MODE : Field := ⟨0x400, 13, 12, 0, 0⟩
def Ax.OBS_CFG_DETECT_TICKS : Field := ⟨0x400, 5, 0, 0, 0⟩
def Ax.OBS_THRESH : Field := ⟨0x404, 15, 0, 0, 0⟩
def Ax.DETECT_VMIN : Field := ⟨0x408, 31, 0, 0, 0⟩
def Ax.REV_DIST : Field := ⟨0x40C, 31, 0, 0, 0⟩
def Ax.REV_TARGET : Field := ⟨0x410, 31, 0, 0, 0⟩
def Ax.REV_V : Field := ⟨0x414, 31, 0, 0, 0⟩
def Ax.REV_ACC : Field := ⟨0x418, 23, 0, 0, 0⟩
def Ax.REV_DEC : Field := ⟨0x41C, 23, 0, 0, 0⟩
def Ax.PARTNER_ENA : Field := ⟨0x420, 8, 8, 0, 0⟩
def Ax.PARTNER_AXIS : Field := ⟨0x420, 4, 0, 0, 0⟩
def Ax.FALLBACK_FB_SET : Field := ⟨0x424, 25, 24, 0, 0⟩
def Ax.FALLBACK_FB_THRESH : Field := ⟨0x424, 15, 0, 0, 0⟩
def Ax.MAP_CFG_BIN_UNITS : Field := ⟨0x428, 31, 16, 0, 0⟩
def Ax.MAP_CFG_MAP_BINS : Field := ⟨0x428, 12, 0, 0, 0⟩
def Ax.MAP_ORIGIN : Field := ⟨0x42C, 31, 0, 0, 0⟩
def Ax.LEARN_CFG_LEARN : Field := ⟨0x430, 31, 31, 0, 0⟩
def Ax.LEARN_CFG_LEARN_SHIFT : Field := ⟨0x430, 19, 16, 0, 0⟩
def Ax.LEARN_CFG_DRIFT_MAX_N : Field := ⟨0x430, 15, 8, 0, 0⟩
def Ax.LEARN_CFG_TEACH_N : Field := ⟨0x430, 7, 0, 0, 0⟩
def Ax.MASS_MIN_ACC : Field := ⟨0x434, 23, 0, 0, 0⟩
def Ax.MAP_BASE : Field := ⟨0x440, 11, 0, 0, 0⟩
def Ax.OBS_STATUS_LAST_SRC : Field := ⟨0x480, 31, 28, 0, 0⟩
def Ax.OBS_STATUS_LAST_CH : Field := ⟨0x480, 23, 16, 0, 0⟩
def Ax.OBS_STATUS_FLOOD_CLOSE : Field := ⟨0x480, 12, 12, 0, 0⟩
def Ax.OBS_STATUS_PERMIT_CLOSE : Field := ⟨0x480, 11, 11, 0, 0⟩
def Ax.OBS_STATUS_PERMIT_FALLBACK : Field := ⟨0x480, 10, 10, 0, 0⟩
def Ax.OBS_STATUS_MODEL_STATE : Field := ⟨0x480, 9, 8, 0, 0⟩
def Ax.OBS_STATUS_REV_PHASE : Field := ⟨0x480, 5, 4, 0, 0⟩
def Ax.THRESH_EFF : Field := ⟨0x484, 15, 0, 0, 0⟩
def Ax.F_EST : Field := ⟨0x488, 31, 0, 0, 0⟩
def Ax.F_MODEL : Field := ⟨0x48C, 31, 0, 0, 0⟩
def Ax.F_EXCESS : Field := ⟨0x490, 31, 0, 0, 0⟩
def Ax.BIN_NOW : Field := ⟨0x494, 12, 0, 0, 0⟩
def Ax.PEAK_EXCESS : Field := ⟨0x498, 31, 0, 0, 0⟩
def Ax.LAST_OBS_POS : Field := ⟨0x49C, 31, 0, 0, 0⟩
def Ax.PRESENCE_BEAMS : Field := ⟨0x4A0, 31, 0, 0, 0⟩
def Ax.PRESENCE_EDGES : Field := ⟨0x4A4, 31, 0, 0, 0⟩
def Ax.OBS_COUNTS_PRESENCE : Field := ⟨0x4A8, 31, 16, 0, 0⟩
def Ax.OBS_COUNTS_FORCE : Field := ⟨0x4A8, 15, 0, 0, 0⟩
def Ax.REVERSALS : Field := ⟨0x4AC, 31, 0, 0, 0⟩
def Ax.TEACH_LEFT : Field := ⟨0x4B0, 5, 0, 0, 0⟩
def Ax.FROZEN_BINS : Field := ⟨0x4B4, 12, 0, 0, 0⟩
def Ax.DRIFT_PEAK : Field := ⟨0x4B8, 15, 0, 0, 0⟩
def Ax.LEARN_PASSES : Field := ⟨0x4BC, 31, 0, 0, 0⟩
def Ax.MAP_FRIC_FRIC_POS : Field := ⟨0x600, 31, 16, 16, 0⟩
def Ax.MAP_FRIC_FRIC_NEG : Field := ⟨0x600, 15, 0, 16, 0⟩
def Ax.MAP_BASE_F_BASE_POS : Field := ⟨0x604, 31, 16, 16, 0⟩
def Ax.MAP_BASE_F_BASE_NEG : Field := ⟨0x604, 15, 0, 16, 0⟩
def Ax.MAP_MASS_SAMPLES : Field := ⟨0x608, 31, 16, 16, 0⟩
def Ax.MAP_MASS_FROZEN_POS : Field := ⟨0x608, 14, 14, 16, 0⟩
def Ax.MAP_MASS_FROZEN_NEG : Field := ⟨0x608, 13, 13, 16, 0⟩
def Ax.MAP_MASS_LEARNED : Field := ⟨0x608, 12, 12, 16, 0⟩
def Ax.MAP_MASS_MASS : Field := ⟨0x608, 11, 0, 16, 0⟩
def Ax.RSV : Field := ⟨0x60C, 31, 0, 16, 0⟩
def Ax.ID_L_DQ_L_Q : Field := ⟨0x2B8, 31, 16, 0, 0⟩
def Ax.ID_L_DQ_L_D : Field := ⟨0x2B8, 15, 0, 0, 0⟩

/-! Fields of the ration page (R346). -/

def Ra.CAP_W : Field := ⟨0x400, 15, 0, 128, 0⟩
def Ra.RESERVE_RESERVE_PCT : Field := ⟨0x404, 7, 0, 128, 0⟩
def Ra.CLASS_CFG_STRETCH : Field := ⟨0x408, 31, 31, 128, 4⟩
def Ra.CLASS_CFG_FLOOR_PCT : Field := ⟨0x408, 22, 16, 128, 4⟩
def Ra.CLASS_CFG_MAX_DELAY_MS : Field := ⟨0x408, 15, 0, 128, 4⟩
def Ra.BRAKE_V_BR_OFF_V : Field := ⟨0x414, 23, 16, 128, 0⟩
def Ra.BRAKE_V_BR_ON_V : Field := ⟨0x414, 7, 0, 128, 0⟩
def Ra.BRAKE_R_BR_W : Field := ⟨0x418, 31, 16, 128, 0⟩
def Ra.BRAKE_R_BR_OHM : Field := ⟨0x418, 15, 0, 128, 0⟩
def Ra.BR_J : Field := ⟨0x41C, 15, 0, 128, 0⟩
def Ra.BUS_STATUS_CHOPPER_LOCKED : Field := ⟨0x440, 11, 11, 128, 0⟩
def Ra.BUS_STATUS_CHOPPER_ON : Field := ⟨0x440, 10, 10, 128, 0⟩
def Ra.BUS_STATUS_REGEN_LIMITED : Field := ⟨0x440, 9, 9, 128, 0⟩
def Ra.BUS_STATUS_OVERDRAWN : Field := ⟨0x440, 8, 8, 128, 0⟩
def Ra.BUS_STATUS_STATE : Field := ⟨0x440, 1, 0, 128, 0⟩
def Ra.BUS_P_P_IN_W : Field := ⟨0x444, 31, 16, 128, 0⟩
def Ra.BUS_P_I_IN_DA : Field := ⟨0x444, 15, 0, 128, 0⟩
def Ra.CHARGED_RES_W : Field := ⟨0x448, 31, 16, 128, 0⟩
def Ra.CHARGED_GEN_W : Field := ⟨0x448, 15, 0, 128, 0⟩
def Ra.QUEUE_WAITING : Field := ⟨0x44C, 13, 8, 128, 0⟩
def Ra.QUEUE_CHARGED_N : Field := ⟨0x44C, 5, 0, 128, 0⟩
def Ra.BR_LOAD_BR_TEMP_PCT : Field := ⟨0x450, 15, 8, 128, 0⟩
def Ra.BR_LOAD_BR_DUTY_PCT : Field := ⟨0x450, 7, 0, 128, 0⟩
def Ra.BUS_OUTCOMES_A_STRETCHED : Field := ⟨0x454, 31, 16, 128, 0⟩
def Ra.BUS_OUTCOMES_A_ADMITTED : Field := ⟨0x454, 15, 0, 128, 0⟩
def Ra.BUS_OUTCOMES_B_REFUSED : Field := ⟨0x458, 31, 16, 128, 0⟩
def Ra.BUS_OUTCOMES_B_DELAYED : Field := ⟨0x458, 15, 0, 128, 0⟩
def Ra.OVERDRAW_COUNT : Field := ⟨0x45C, 15, 0, 128, 0⟩
def Ra.PEAK_P_W : Field := ⟨0x460, 15, 0, 128, 0⟩

/-! Fields of the beamGroup page (R396). -/

def Bm.BG_SUMMARY_FAULT : Field := ⟨0x100, 31, 24, 0, 0⟩
def Bm.BG_SUMMARY_FALLBACK : Field := ⟨0x100, 23, 16, 0, 0⟩
def Bm.BG_SUMMARY_FLOODED : Field := ⟨0x100, 15, 8, 0, 0⟩
def Bm.BG_SUMMARY_CLEAR : Field := ⟨0x100, 7, 0, 0, 0⟩
def Bm.FRAMES : Field := ⟨0x104, 31, 0, 0, 0⟩
def Bm.BEAM_CFG_ENA : Field := ⟨0x400, 31, 31, 64, 0⟩
def Bm.BEAM_CFG_CODE : Field := ⟨0x400, 29, 24, 64, 0⟩
def Bm.BEAM_CFG_LED_MA : Field := ⟨0x400, 23, 16, 64, 0⟩
def Bm.BEAM_CFG_K : Field := ⟨0x400, 7, 4, 64, 0⟩
def Bm.BEAM_CFG_M : Field := ⟨0x400, 3, 0, 64, 0⟩
def Bm.BEAM_BIND_ENA_B : Field := ⟨0x404, 31, 31, 64, 0⟩
def Bm.BEAM_BIND_ENA_A : Field := ⟨0x404, 15, 15, 64, 0⟩
def Bm.BEAM_BIND_AXIS_B : Field := ⟨0x404, 28, 24, 64, 0⟩
def Bm.BEAM_BIND_AXIS_A : Field := ⟨0x404, 12, 8, 64, 0⟩
def Bm.BEAM_RX_MATCH_THR : Field := ⟨0x408, 28, 24, 64, 0⟩
def Bm.BEAM_RX_AMB_STEP : Field := ⟨0x408, 23, 16, 64, 0⟩
def Bm.BEAM_RX_RX_THR_NA : Field := ⟨0x408, 15, 0, 64, 0⟩
def Bm.BEAM_FLOOD_FB_ENA : Field := ⟨0x40C, 31, 31, 64, 0⟩
def Bm.BEAM_FLOOD_FB_TIME : Field := ⟨0x40C, 8, 0, 64, 0⟩
def Bm.BEAM_STATUS_CAUSE : Field := ⟨0x420, 31, 24, 64, 0⟩
def Bm.BEAM_STATUS_FALLBACK : Field := ⟨0x420, 19, 19, 64, 0⟩
def Bm.BEAM_STATUS_LAST_FRAME : Field := ⟨0x420, 17, 16, 64, 0⟩
def Bm.BEAM_STATUS_STATE : Field := ⟨0x420, 2, 0, 64, 0⟩
def Bm.BEAM_HIST : Field := ⟨0x424, 15, 0, 64, 0⟩
def Bm.BEAM_RXVAL_AMBIENT : Field := ⟨0x428, 31, 16, 64, 0⟩
def Bm.BEAM_RXVAL_CORR : Field := ⟨0x428, 7, 0, 64, 0⟩
def Bm.BEAM_SIGNAL_LED_MEAS : Field := ⟨0x42C, 23, 16, 64, 0⟩
def Bm.BEAM_SIGNAL_SIGNAL_NA : Field := ⟨0x42C, 15, 0, 64, 0⟩
def Bm.FLOOD_MS : Field := ⟨0x430, 31, 0, 64, 0⟩
def Bm.BLOCK_COUNT : Field := ⟨0x434, 31, 0, 64, 0⟩
def Bm.INDET_COUNT : Field := ⟨0x438, 31, 0, 64, 0⟩
def Bm.FALLBACK_COUNT : Field := ⟨0x43C, 15, 0, 64, 0⟩

/-! Fields of the edgeGroup page (R399). -/

def Eg.EG_SUMMARY_FAULT : Field := ⟨0x100, 31, 16, 0, 0⟩
def Eg.EG_SUMMARY_ACTIVE : Field := ⟨0x100, 15, 0, 0, 0⟩
def Eg.EDGE_CFG_ENA : Field := ⟨0x400, 31, 31, 64, 0⟩
def Eg.EDGE_CFG_TYPE : Field := ⟨0x400, 25, 24, 64, 0⟩
def Eg.EDGE_CFG_FILT_US : Field := ⟨0x400, 15, 0, 64, 0⟩
def Eg.EDGE_TIMING_RELEASE_MS : Field := ⟨0x408, 31, 16, 64, 0⟩
def Eg.EDGE_TIMING_PW_HOLD_MS : Field := ⟨0x408, 15, 0, 64, 0⟩
def Eg.EDGE_STATUS_CAUSE : Field := ⟨0x420, 31, 24, 64, 0⟩
def Eg.EDGE_STATUS_STATE : Field := ⟨0x420, 2, 0, 64, 0⟩
def Eg.EDGE_R : Field := ⟨0x424, 15, 0, 64, 0⟩
def Eg.ACT_COUNT : Field := ⟨0x428, 31, 0, 64, 0⟩
def Eg.FAULT_COUNT : Field := ⟨0x42C, 15, 0, 64, 0⟩
def Eg.ACT_MS_LAST : Field := ⟨0x430, 31, 0, 64, 0⟩
def Eg.EDGE_BIND_ENA_B : Field := ⟨0x404, 31, 31, 64, 0⟩
def Eg.EDGE_BIND_ENA_A : Field := ⟨0x404, 15, 15, 64, 0⟩
def Eg.EDGE_BIND_AXIS_B : Field := ⟨0x404, 28, 24, 64, 0⟩
def Eg.EDGE_BIND_AXIS_A : Field := ⟨0x404, 12, 8, 64, 0⟩

/-! Fields of the bank page (R419). -/

def Bk.BANK_CFG_LEVEL : Field := ⟨0x100, 8, 8, 0, 0⟩
def Bk.BANK_CFG_CHAR : Field := ⟨0x100, 0, 0, 0, 0⟩
def Bk.LS_TIMEOUT : Field := ⟨0x104, 16, 0, 0, 0⟩
def Bk.OUT_PROT_RETRY_MS : Field := ⟨0x108, 31, 16, 0, 0⟩
def Bk.OUT_PROT_OVL_MS : Field := ⟨0x108, 7, 0, 0, 0⟩
def Bk.OUT_OPEN_OPEN_MA : Field := ⟨0x10C, 5, 0, 0, 0⟩
def Bk.WB_MS : Field := ⟨0x110, 9, 0, 0, 0⟩
def Bk.OUT_SET : Field := ⟨0x140, 15, 0, 0, 0⟩
def Bk.IN_STATE : Field := ⟨0x180, 15, 0, 0, 0⟩
def Bk.FAULT_MAP : Field := ⟨0x184, 15, 0, 0, 0⟩
def Bk.SAFE_STATUS_KERB_ACTIVE : Field := ⟨0x188, 3, 3, 0, 0⟩
def Bk.SAFE_STATUS_LINK_LOST : Field := ⟨0x188, 2, 2, 0, 0⟩
def Bk.SAFE_STATUS_LINK_SILENT : Field := ⟨0x188, 1, 1, 0, 0⟩
def Bk.SAFE_STATUS_LOGIC_SILENT : Field := ⟨0x188, 0, 0, 0, 0⟩
def Bk.FS_V_PRESENT : Field := ⟨0x18C, 16, 16, 0, 0⟩
def Bk.FS_V_VOLTS : Field := ⟨0x18C, 15, 0, 0, 0⟩
def Bk.BANK_I : Field := ⟨0x190, 12, 0, 0, 0⟩
def Bk.FE_TEMP : Field := ⟨0x194, 15, 0, 0, 0⟩
def Bk.SILENCE_AGE : Field := ⟨0x198, 31, 0, 0, 0⟩
def Bk.LINK_MISSES_BURST1 : Field := ⟨0x19C, 31, 16, 0, 0⟩
def Bk.LINK_MISSES_BURST0 : Field := ⟨0x19C, 15, 0, 0, 0⟩
def Bk.LINK_FAULTS : Field := ⟨0x1A0, 15, 0, 0, 0⟩
def Bk.SAFE_COUNT : Field := ⟨0x1A4, 15, 0, 0, 0⟩
def Bk.BANK_OVL_COUNT : Field := ⟨0x1A8, 15, 0, 0, 0⟩
def Bk.CH_STATE_CURRENT : Field := ⟨0x400, 27, 16, 64, 0⟩
def Bk.CH_STATE_FAULT : Field := ⟨0x400, 11, 8, 64, 0⟩
def Bk.CH_STATE_CLASS : Field := ⟨0x400, 6, 4, 64, 0⟩
def Bk.CH_STATE_SAFE : Field := ⟨0x400, 3, 3, 64, 0⟩
def Bk.CH_STATE_KERB : Field := ⟨0x400, 2, 2, 64, 0⟩
def Bk.CH_STATE_CMD : Field := ⟨0x400, 1, 1, 64, 0⟩
def Bk.CH_STATE_STATE : Field := ⟨0x400, 0, 0, 64, 0⟩
def Bk.CH_CFG_INVERT : Field := ⟨0x404, 8, 8, 64, 0⟩
def Bk.CH_CFG_SAFE : Field := ⟨0x404, 5, 4, 64, 0⟩
def Bk.CH_CFG_MODE : Field := ⟨0x404, 1, 0, 64, 0⟩
def Bk.CH_FILT_OFF_US : Field := ⟨0x408, 31, 16, 64, 0⟩
def Bk.CH_FILT_ON_US : Field := ⟨0x408, 15, 0, 64, 0⟩
def Bk.CH_EDGES : Field := ⟨0x40C, 31, 0, 64, 0⟩
def Bk.CH_FAULTS : Field := ⟨0x410, 15, 0, 64, 0⟩
def Bk.EDGE_TIME_LO : Field := ⟨0x414, 31, 0, 64, 0⟩
def Bk.EDGE_TIME_HI : Field := ⟨0x418, 31, 0, 64, 0⟩

/-! Fields of the lsGroup page (R441). -/

def Ls.GRP_STATUS_KERB : Field := ⟨0x100, 23, 16, 0, 0⟩
def Ls.GRP_STATUS_LOCKED : Field := ⟨0x100, 15, 8, 0, 0⟩
def Ls.GRP_STATUS_LINE : Field := ⟨0x100, 7, 0, 0, 0⟩
def Ls.GRP_I : Field := ⟨0x104, 16, 0, 0, 0⟩
def Ls.RAIL_PRESENT : Field := ⟨0x108, 16, 16, 0, 0⟩
def Ls.RAIL_VOLTS : Field := ⟨0x108, 15, 0, 0, 0⟩
def Ls.SENSE_STATUS_FAULT : Field := ⟨0x10C, 0, 0, 0, 0⟩
def Ls.SENSE_ROUNDS : Field := ⟨0x110, 31, 0, 0, 0⟩
def Ls.CH_CFG_UNMAPPED_HOLD : Field := ⟨0x400, 16, 16, 64, 0⟩
def Ls.CH_CFG_INRUSH_N : Field := ⟨0x400, 11, 8, 64, 0⟩
def Ls.CH_CFG_RESTART : Field := ⟨0x400, 0, 0, 64, 0⟩
def Ls.CH_PWM_DUTY : Field := ⟨0x404, 27, 18, 64, 0⟩
def Ls.CH_PWM_PERIOD : Field := ⟨0x404, 16, 0, 64, 0⟩
def Ls.CH_STATUS_LAST_CAUSE : Field := ⟨0x408, 31, 24, 64, 0⟩
def Ls.CH_STATUS_LINE : Field := ⟨0x408, 7, 7, 64, 0⟩
def Ls.CH_STATUS_KERB : Field := ⟨0x408, 6, 6, 64, 0⟩
def Ls.CH_STATUS_THERMAL : Field := ⟨0x408, 5, 5, 64, 0⟩
def Ls.CH_STATUS_LATCHED : Field := ⟨0x408, 4, 4, 64, 0⟩
def Ls.CH_STATUS_CLAMP_LOCKED : Field := ⟨0x408, 3, 3, 64, 0⟩
def Ls.CH_STATUS_INRUSH : Field := ⟨0x408, 2, 2, 64, 0⟩
def Ls.CH_STATUS_CMD : Field := ⟨0x408, 1, 0, 64, 0⟩
def Ls.CH_I_I_ON : Field := ⟨0x40C, 31, 16, 64, 0⟩
def Ls.CH_I_I_LAST : Field := ⟨0x40C, 15, 0, 64, 0⟩
def Ls.CH_CLAMP_LAST_MJ : Field := ⟨0x410, 31, 16, 64, 0⟩
def Ls.CH_CLAMP_SUM_MJ : Field := ⟨0x410, 15, 0, 64, 0⟩
def Ls.CH_COUNTS_RETRIES : Field := ⟨0x414, 31, 16, 64, 0⟩
def Ls.CH_COUNTS_SHUTDOWNS : Field := ⟨0x414, 15, 0, 64, 0⟩
def Ls.SWITCH_OFFS : Field := ⟨0x418, 31, 0, 64, 0⟩
def Ls.LOCKS : Field := ⟨0x41C, 15, 0, 64, 0⟩
def Ls.LS_CMD_0 : Field := ⟨0x140, 1, 0, 0, 0⟩
def Ls.LS_CMD_1 : Field := ⟨0x140, 3, 2, 0, 0⟩
def Ls.LS_CMD_2 : Field := ⟨0x140, 5, 4, 0, 0⟩
def Ls.LS_CMD_3 : Field := ⟨0x140, 7, 6, 0, 0⟩
def Ls.LS_CMD_4 : Field := ⟨0x140, 9, 8, 0, 0⟩
def Ls.LS_CMD_5 : Field := ⟨0x140, 11, 10, 0, 0⟩
def Ls.LS_CMD_6 : Field := ⟨0x140, 13, 12, 0, 0⟩
def Ls.LS_CMD_7 : Field := ⟨0x140, 15, 14, 0, 0⟩

/-! Fields of the kerb page (R445). -/

def Kb.KERB_CFG_TIMEOUT_MS : Field := ⟨0x100, 15, 0, 0, 0⟩
def Kb.KERB_STATUS_INPUTS : Field := ⟨0x104, 31, 24, 0, 0⟩
def Kb.KERB_STATUS_MAP_STALE : Field := ⟨0x104, 12, 12, 0, 0⟩
def Kb.KERB_STATUS_ACTIVE : Field := ⟨0x104, 10, 10, 0, 0⟩
def Kb.KERB_STATUS_BY_PIN : Field := ⟨0x104, 9, 9, 0, 0⟩
def Kb.KERB_STATUS_BY_SILENCE : Field := ⟨0x104, 8, 8, 0, 0⟩
def Kb.KERB_STATUS_KEN : Field := ⟨0x104, 4, 4, 0, 0⟩
def Kb.KERB_STATUS_HB_B : Field := ⟨0x104, 1, 1, 0, 0⟩
def Kb.KERB_STATUS_HB_A : Field := ⟨0x104, 0, 0, 0, 0⟩
def Kb.SILENT_MS : Field := ⟨0x108, 31, 0, 0, 0⟩
def Kb.KERB_COUNT_BY_SILENCE : Field := ⟨0x10C, 31, 16, 0, 0⟩
def Kb.KERB_COUNT_BY_PIN : Field := ⟨0x10C, 15, 0, 0, 0⟩
def Kb.LAST_ACTIVE_MS : Field := ⟨0x110, 31, 0, 0, 0⟩
def Kb.MAP_CRC : Field := ⟨0x114, 31, 0, 0, 0⟩
def Kb.KMAP_31_16 : Field := ⟨0x400, 31, 16, 64, 4⟩
def Kb.KMAP_15_0 : Field := ⟨0x400, 15, 0, 64, 4⟩
def Kb.KIN_EDGES : Field := ⟨0x410, 31, 0, 64, 0⟩

/-! Fields of the loopGroup page (R459). -/

def Lp.GRP_STATUS_PAIR_VALID : Field := ⟨0x100, 31, 24, 0, 0⟩
def Lp.GRP_STATUS_FAULT : Field := ⟨0x100, 23, 16, 0, 0⟩
def Lp.GRP_STATUS_PRESENT : Field := ⟨0x100, 15, 8, 0, 0⟩
def Lp.GRP_STATUS_THERMAL : Field := ⟨0x100, 7, 0, 0, 0⟩
def Lp.GRP_TEMP : Field := ⟨0x104, 15, 0, 0, 0⟩
def Lp.GRP_POWER : Field := ⟨0x108, 15, 0, 0, 0⟩
def Lp.LP_CFG_NE43 : Field := ⟨0x400, 16, 16, 128, 0⟩
def Lp.LP_CFG_CHAR : Field := ⟨0x400, 9, 8, 128, 0⟩
def Lp.LP_CFG_SUPPLY : Field := ⟨0x400, 4, 4, 128, 0⟩
def Lp.LP_CFG_MODE : Field := ⟨0x400, 1, 0, 128, 0⟩
def Lp.LP_SUPPLY_BAND_MS : Field := ⟨0x404, 31, 16, 128, 0⟩
def Lp.LP_SUPPLY_TX_V : Field := ⟨0x404, 15, 0, 128, 0⟩
def Lp.ENG_LO : Field := ⟨0x408, 31, 0, 128, 0⟩
def Lp.ENG_HI : Field := ⟨0x40C, 31, 0, 128, 0⟩
def Lp.LP_FILT_CUTOFF : Field := ⟨0x410, 31, 16, 128, 0⟩
def Lp.LP_FILT_FILT_MS : Field := ⟨0x410, 15, 0, 128, 0⟩
def Lp.OUT_UA : Field := ⟨0x414, 14, 0, 128, 0⟩
def Lp.LP_STATUS_CAUSE : Field := ⟨0x440, 31, 24, 128, 0⟩
def Lp.LP_STATUS_BAND : Field := ⟨0x440, 18, 16, 128, 0⟩
def Lp.LP_STATUS_PRESENT : Field := ⟨0x440, 9, 9, 128, 0⟩
def Lp.LP_STATUS_THERMAL : Field := ⟨0x440, 8, 8, 128, 0⟩
def Lp.LP_STATUS_MODE : Field := ⟨0x440, 1, 0, 128, 0⟩
def Lp.I_NA : Field := ⟨0x444, 31, 0, 128, 0⟩
def Lp.ENG : Field := ⟨0x448, 31, 0, 128, 0⟩
def Lp.LP_VOLTS_SUPPLY_V : Field := ⟨0x44C, 31, 16, 128, 0⟩
def Lp.LP_VOLTS_TERM : Field := ⟨0x44C, 15, 0, 128, 0⟩
def Lp.V_MEAS_V_RMS : Field := ⟨0x450, 31, 16, 128, 0⟩
def Lp.V_MEAS_V_INST : Field := ⟨0x450, 15, 0, 128, 0⟩
def Lp.FREQ : Field := ⟨0x454, 31, 0, 128, 0⟩
def Lp.PHASE : Field := ⟨0x458, 23, 0, 128, 0⟩
def Lp.CH_TEMP : Field := ⟨0x45C, 15, 0, 128, 0⟩
def Lp.LP_FAULTS : Field := ⟨0x460, 15, 0, 128, 0⟩
def Lp.ATTACH_ARRIVALS : Field := ⟨0x464, 31, 16, 128, 0⟩
def Lp.ATTACH_DEPARTURES : Field := ⟨0x464, 15, 0, 128, 0⟩
def Lp.TABLE : Field := ⟨0x800, 31, 0, 256, 4⟩

/-! Fields of the can page (R482). -/

def Cf.CAN_CFG_RX_CONSUMER : Field := ⟨0x100, 26, 24, 0, 0⟩
def Cf.CAN_CFG_TX_RETRY : Field := ⟨0x100, 23, 16, 0, 0⟩
def Cf.CAN_CFG_BUSOFF_FLUSH : Field := ⟨0x100, 10, 10, 0, 0⟩
def Cf.CAN_CFG_TERM : Field := ⟨0x100, 9, 9, 0, 0⟩
def Cf.CAN_CFG_AUTO_RECOVER : Field := ⟨0x100, 8, 8, 0, 0⟩
def Cf.CAN_CFG_TX_ENA : Field := ⟨0x100, 7, 7, 0, 0⟩
def Cf.CAN_CFG_BRS_ENA : Field := ⟨0x100, 6, 6, 0, 0⟩
def Cf.CAN_CFG_FD_ENA : Field := ⟨0x100, 5, 5, 0, 0⟩
def Cf.CAN_CFG_QMODE : Field := ⟨0x100, 4, 4, 0, 0⟩
def Cf.CAN_CFG_MODE : Field := ⟨0x100, 2, 0, 0, 0⟩
def Cf.NBT_NBRP : Field := ⟨0x104, 5, 0, 0, 0⟩
def Cf.NBT_NTSEG1 : Field := ⟨0x104, 16, 8, 0, 0⟩
def Cf.NBT_NSJW : Field := ⟨0x104, 23, 17, 0, 0⟩
def Cf.NBT_NTSEG2 : Field := ⟨0x104, 31, 24, 0, 0⟩
def Cf.DBT_DBRP : Field := ⟨0x108, 5, 0, 0, 0⟩
def Cf.DBT_DTSEG1 : Field := ⟨0x108, 13, 8, 0, 0⟩
def Cf.DBT_DTSEG2 : Field := ⟨0x108, 20, 16, 0, 0⟩
def Cf.DBT_DSJW : Field := ⟨0x108, 27, 24, 0, 0⟩
def Cf.TDC_CFG_ENA : Field := ⟨0x10C, 15, 15, 0, 0⟩
def Cf.TDC_CFG_TDCO : Field := ⟨0x10C, 6, 0, 0, 0⟩
def Cf.SYNC_CFG_ENA : Field := ⟨0x110, 31, 31, 0, 0⟩
def Cf.SYNC_CFG_EXT : Field := ⟨0x110, 30, 30, 0, 0⟩
def Cf.SYNC_CFG_SYNC_ID : Field := ⟨0x110, 28, 0, 0, 0⟩
def Cf.SYNC_TIMING_OFFSET_US : Field := ⟨0x114, 31, 16, 0, 0⟩
def Cf.SYNC_TIMING_COUNTER : Field := ⟨0x114, 0, 0, 0, 0⟩
def Cf.RC_CFG_ENA : Field := ⟨0x118, 31, 31, 0, 0⟩
def Cf.RC_CFG_REQ_BASE : Field := ⟨0x118, 26, 16, 0, 0⟩
def Cf.RC_CFG_RSP_BASE : Field := ⟨0x118, 10, 0, 0, 0⟩
def Cf.RC_RANGE_FIRST : Field := ⟨0x11C, 6, 0, 0, 0⟩
def Cf.RC_RANGE_LAST : Field := ⟨0x11C, 22, 16, 0, 0⟩
def Cf.RC_TIMING_PERIOD_MS : Field := ⟨0x120, 31, 16, 0, 0⟩
def Cf.RC_TIMING_TIMEOUT_MS : Field := ⟨0x120, 15, 8, 0, 0⟩
def Cf.RC_TIMING_MISS_N : Field := ⟨0x120, 3, 0, 0, 0⟩
def Cf.ERR_COUNT_REC : Field := ⟨0x124, 24, 16, 0, 0⟩
def Cf.ERR_COUNT_TEC : Field := ⟨0x124, 8, 0, 0, 0⟩
def Cf.BUS_STATUS_TDCV : Field := ⟨0x128, 23, 16, 0, 0⟩
def Cf.BUS_STATUS_TRANSCEIVER : Field := ⟨0x128, 12, 12, 0, 0⟩
def Cf.BUS_STATUS_STATE : Field := ⟨0x128, 2, 0, 0, 0⟩
def Cf.LAST_ERROR_KIND : Field := ⟨0x12C, 31, 28, 0, 0⟩
def Cf.LAST_ERROR_TX : Field := ⟨0x12C, 27, 27, 0, 0⟩
def Cf.LAST_ERROR_POS : Field := ⟨0x12C, 10, 0, 0, 0⟩
def Cf.ERR_TOTALS_TX : Field := ⟨0x130, 31, 16, 0, 0⟩
def Cf.ERR_TOTALS_RX : Field := ⟨0x130, 15, 0, 0, 0⟩
def Cf.BUSOFF_COUNT : Field := ⟨0x134, 15, 0, 0, 0⟩
def Cf.FRAMES_TX : Field := ⟨0x138, 31, 0, 0, 0⟩
def Cf.FRAMES_RX : Field := ⟨0x13C, 31, 0, 0, 0⟩
def Cf.RX_OVERFLOWS : Field := ⟨0x140, 31, 0, 0, 0⟩
def Cf.QUEUE_STATE_TX_FREE : Field := ⟨0x144, 23, 16, 0, 0⟩
def Cf.QUEUE_STATE_RX_OWNED : Field := ⟨0x144, 9, 0, 0, 0⟩
def Cf.SYNC_STATUS_LATE : Field := ⟨0x148, 31, 16, 0, 0⟩
def Cf.SYNC_STATUS_COUNT : Field := ⟨0x148, 7, 0, 0, 0⟩
def Cf.ID_CONFLICTS : Field := ⟨0x14C, 15, 0, 0, 0⟩
def Cf.LAST_CONFLICT_EXT : Field := ⟨0x150, 31, 31, 0, 0⟩
def Cf.LAST_CONFLICT_ID : Field := ⟨0x150, 28, 0, 0, 0⟩
def Cf.RC_STATUS_PRESENT : Field := ⟨0x154, 6, 0, 0, 0⟩
def Cf.RC_PRESENT : Field := ⟨0x158, 31, 0, 4, 0⟩
def Cf.TX_GO : Field := ⟨0x170, 7, 0, 0, 0⟩
def Cf.TX_TAKEN : Field := ⟨0x174, 7, 0, 0, 0⟩
def Cf.TXC_ACK : Field := ⟨0x178, 15, 0, 0, 0⟩
def Cf.RX_ACK : Field := ⟨0x17C, 15, 0, 0, 0⟩
def Cf.FLT_ID_ENA : Field := ⟨0x200, 31, 31, 8, 0⟩
def Cf.FLT_ID_EXT : Field := ⟨0x200, 30, 30, 8, 0⟩
def Cf.FLT_ID_OWN : Field := ⟨0x200, 29, 29, 8, 0⟩
def Cf.FLT_ID_ID : Field := ⟨0x200, 28, 0, 8, 0⟩
def Cf.FLT_MASK_ACCEPT : Field := ⟨0x204, 31, 31, 8, 0⟩
def Cf.FLT_MASK_MASK : Field := ⟨0x204, 28, 0, 8, 0⟩
def Cf.TXS_LATCH : Field := ⟨0x300, 31, 0, 0, 0⟩
def Cf.TXS_PENDING : Field := ⟨0x304, 31, 0, 0, 0⟩
def Cf.RXS_NEW : Field := ⟨0x308, 31, 0, 0, 0⟩
def Cf.RXS_ACK : Field := ⟨0x30C, 31, 0, 0, 0⟩
def Cf.OVERWRITES_TXS : Field := ⟨0x310, 31, 16, 0, 0⟩
def Cf.OVERWRITES_RX : Field := ⟨0x310, 15, 0, 0, 0⟩
def Cf.TXC_ERR : Field := ⟨0x184, 31, 0, 16, 0⟩
def Cf.TX_SLOT_ID : Field := ⟨0x800, 31, 0, 128, 0⟩
def Cf.TX_SLOT_BRS : Field := ⟨0x804, 31, 31, 128, 0⟩
def Cf.TX_SLOT_CYC : Field := ⟨0x804, 29, 29, 128, 0⟩
def Cf.TX_SLOT_LEN : Field := ⟨0x804, 6, 0, 128, 0⟩
def Cf.SLOT_STAT : Field := ⟨0x808, 31, 0, 128, 0⟩
def Cf.TX_SLOT_DATA : Field := ⟨0x840, 31, 0, 128, 4⟩
def Cf.TXS : Field := ⟨0x400, 31, 0, 16, 4⟩
def Cf.RXS : Field := ⟨0x600, 31, 0, 16, 4⟩
def Cf.RC_NODE_PRESENT : Field := ⟨0xC00, 0, 0, 8, 0⟩
def Cf.RC_NODE_MISSES : Field := ⟨0xC00, 15, 8, 8, 0⟩
def Cf.RC_AGE_MS : Field := ⟨0xC04, 31, 0, 8, 0⟩

/-! Fields of the safety page (R514). -/

def Sf.SAFE_CFG_MAINT_LIMIT_MIN : Field := ⟨0x100, 31, 16, 0, 0⟩
def Sf.SAFE_CFG_AUTO_RESUME : Field := ⟨0x100, 0, 0, 0, 0⟩
def Sf.MAINT_KEY_ENA : Field := ⟨0x104, 31, 31, 0, 0⟩
def Sf.MAINT_KEY_CHANNEL : Field := ⟨0x104, 7, 0, 0, 0⟩
def Sf.SAFE_STATUS_TRIP_CAUSE : Field := ⟨0x110, 31, 24, 0, 0⟩
def Sf.SAFE_STATUS_CLEAN : Field := ⟨0x110, 20, 16, 0, 0⟩
def Sf.SAFE_STATUS_ACK_OWED : Field := ⟨0x110, 12, 12, 0, 0⟩
def Sf.SAFE_STATUS_HALF_B : Field := ⟨0x110, 9, 9, 0, 0⟩
def Sf.SAFE_STATUS_HALF_A : Field := ⟨0x110, 8, 8, 0, 0⟩
def Sf.SAFE_STATUS_KEY : Field := ⟨0x110, 4, 4, 0, 0⟩
def Sf.SAFE_STATUS_STATE : Field := ⟨0x110, 2, 0, 0, 0⟩
def Sf.TRIP_COUNT : Field := ⟨0x114, 15, 0, 0, 0⟩
def Sf.TRIP_TIME_LO : Field := ⟨0x118, 31, 0, 0, 0⟩
def Sf.TRIP_TIME_HI : Field := ⟨0x11C, 31, 0, 0, 0⟩
def Sf.MAINT_LEFT_S : Field := ⟨0x120, 31, 0, 0, 0⟩
def Sf.SAFE_CFG_REF : Field := ⟨0x124, 31, 0, 0, 0⟩
def Sf.RT_LOGIC_US : Field := ⟨0x128, 31, 0, 0, 0⟩
def Sf.RT_OUT_US : Field := ⟨0x12C, 15, 0, 0, 0⟩
def Sf.SF_DEF_IN_KIND : Field := ⟨0x400, 31, 28, 64, 0⟩
def Sf.SF_DEF_IN_INDEX : Field := ⟨0x400, 27, 16, 64, 0⟩
def Sf.SF_DEF_OUT_KIND : Field := ⟨0x400, 15, 12, 64, 0⟩
def Sf.SF_DEF_OUT_INDEX : Field := ⟨0x400, 11, 0, 64, 0⟩
def Sf.SF_PST_MS : Field := ⟨0x404, 15, 0, 64, 0⟩
def Sf.SF_RT_US : Field := ⟨0x408, 31, 0, 64, 0⟩
def Sf.SF_STATUS_EXCEEDS : Field := ⟨0x40C, 0, 0, 64, 0⟩

/-! Fields of the conns page (R518). -/

def Sc.CONN_SEL : Field := ⟨0x100, 5, 0, 0, 0⟩
def Sc.TSF_PORT : Field := ⟨0x104, 15, 0, 0, 0⟩
def Sc.OWN_REF_LO : Field := ⟨0x108, 31, 0, 0, 0⟩
def Sc.OWN_REF_HI : Field := ⟨0x10C, 31, 0, 0, 0⟩
def Sc.OPEN_MASK : Field := ⟨0x110, 31, 0, 4, 0⟩
def Sc.FAULT_MASK : Field := ⟨0x118, 31, 0, 4, 0⟩
def Sc.UNKNOWN_CONN : Field := ⟨0x120, 31, 0, 0, 0⟩
def Sc.LAST_UNKNOWN : Field := ⟨0x124, 31, 0, 0, 0⟩
def Sc.TX_MISSING : Field := ⟨0x128, 31, 0, 0, 0⟩
def Sc.CONN_STATUS_CAUSE : Field := ⟨0x200, 31, 24, 8, 0⟩
def Sc.CONN_STATUS_PEER_FAILSAFE : Field := ⟨0x200, 19, 19, 8, 0⟩
def Sc.CONN_STATUS_STATE : Field := ⟨0x200, 18, 16, 8, 0⟩
def Sc.CONN_STATUS_LAST_SEQ_RX : Field := ⟨0x200, 15, 0, 8, 0⟩
def Sc.CONN_ERRORS_CRC : Field := ⟨0x204, 31, 16, 8, 0⟩
def Sc.CONN_ERRORS_LOST : Field := ⟨0x204, 15, 0, 8, 0⟩
def Sc.CONN_CFG_ENA : Field := ⟨0x400, 31, 31, 0, 0⟩
def Sc.CONN_CFG_AUTO_ACK : Field := ⟨0x400, 30, 30, 0, 0⟩
def Sc.CONN_CFG_PORT : Field := ⟨0x400, 25, 24, 0, 0⟩
def Sc.CONN_CFG_SEQ_WINDOW : Field := ⟨0x400, 20, 16, 0, 0⟩
def Sc.CONN_CFG_RX_LEN : Field := ⟨0x400, 13, 8, 0, 0⟩
def Sc.CONN_CFG_TX_LEN : Field := ⟨0x400, 5, 0, 0, 0⟩
def Sc.CONN_ID : Field := ⟨0x404, 31, 0, 0, 0⟩
def Sc.PEER_REF_LO : Field := ⟨0x408, 31, 0, 0, 0⟩
def Sc.PEER_REF_HI : Field := ⟨0x40C, 31, 0, 0, 0⟩
def Sc.CONN_TIMING_SEND_DIV : Field := ⟨0x410, 31, 16, 0, 0⟩
def Sc.CONN_TIMING_WDT_MS : Field := ⟨0x410, 15, 0, 0, 0⟩
def Sc.PEER_IP : Field := ⟨0x414, 31, 0, 0, 0⟩
def Sc.PEER_UDP : Field := ⟨0x418, 15, 0, 0, 0⟩
def Sc.CONN_TIME_AGE_MS : Field := ⟨0x420, 31, 16, 0, 0⟩
def Sc.CONN_TIME_RTT_MS : Field := ⟨0x420, 15, 0, 0, 0⟩
def Sc.CONN_SEQ_RX : Field := ⟨0x424, 31, 16, 0, 0⟩
def Sc.CONN_SEQ_TX : Field := ⟨0x424, 15, 0, 0, 0⟩
def Sc.DISC_COUNT : Field := ⟨0x428, 15, 0, 0, 0⟩

/-! Fields of the safeOut page (R521). -/

def So.SO_DEMAND : Field := ⟨0x100, 7, 0, 0, 0⟩
def So.DISC_MS : Field := ⟨0x104, 7, 0, 0, 0⟩
def So.SO_SUMMARY_FAULT : Field := ⟨0x108, 31, 24, 0, 0⟩
def So.SO_SUMMARY_ON : Field := ⟨0x108, 23, 16, 0, 0⟩
def So.SO_SUMMARY_ENA_B : Field := ⟨0x108, 15, 8, 0, 0⟩
def So.SO_SUMMARY_ENA_A : Field := ⟨0x108, 7, 0, 0, 0⟩
def So.SO_CFG_MAINT_ENA : Field := ⟨0x400, 31, 31, 64, 0⟩
def So.SO_CFG_ROLE : Field := ⟨0x400, 16, 16, 64, 0⟩
def So.SO_CFG_EDM_ENA : Field := ⟨0x400, 8, 8, 64, 0⟩
def So.SO_EDM_EDM_MS : Field := ⟨0x404, 15, 0, 64, 0⟩
def So.LOOP_AXES : Field := ⟨0x408, 31, 0, 64, 0⟩
def So.SO_STATUS_CAUSE : Field := ⟨0x420, 31, 24, 64, 0⟩
def So.SO_STATUS_EDM : Field := ⟨0x420, 10, 10, 64, 0⟩
def So.SO_STATUS_MIRROR_K2 : Field := ⟨0x420, 9, 9, 64, 0⟩
def So.SO_STATUS_MIRROR_K1 : Field := ⟨0x420, 8, 8, 64, 0⟩
def So.SO_STATUS_ENA_B : Field := ⟨0x420, 5, 5, 64, 0⟩
def So.SO_STATUS_ENA_A : Field := ⟨0x420, 4, 4, 64, 0⟩
def So.SO_STATUS_STATE : Field := ⟨0x420, 1, 0, 64, 0⟩
def So.LAST_OFF_CAUSE : Field := ⟨0x424, 7, 0, 64, 0⟩
def So.DROP_US : Field := ⟨0x428, 15, 0, 64, 0⟩
def So.SWITCHINGS : Field := ⟨0x42C, 31, 0, 64, 0⟩
def So.FAULT_COUNT : Field := ⟨0x430, 15, 0, 64, 0⟩

/-! Fields of the memory page (R540). -/

def Mm.MEM_INFO_SRAM_KB : Field := ⟨0x100, 31, 16, 0, 0⟩
def Mm.MEM_INFO_MRAM_KB : Field := ⟨0x100, 15, 0, 0, 0⟩
def Mm.SEG_USE : Field := ⟨0x104, 15, 0, 0, 0⟩
def Mm.SEG_RET : Field := ⟨0x108, 15, 0, 0, 0⟩
def Mm.SEG_BAD : Field := ⟨0x10C, 15, 0, 0, 0⟩
def Mm.RET_CFG_ENA : Field := ⟨0x110, 31, 31, 0, 0⟩
def Mm.RET_CFG_RET_IDLE_MS : Field := ⟨0x110, 13, 0, 0, 0⟩
def Mm.WAKE_COUNT : Field := ⟨0x114, 31, 0, 0, 0⟩
def Mm.WAKE_MAX_US : Field := ⟨0x118, 7, 0, 0, 0⟩
def Mm.CONFLICTS_P1 : Field := ⟨0x11C, 31, 16, 0, 0⟩
def Mm.CONFLICTS_P0 : Field := ⟨0x11C, 15, 0, 0, 0⟩
def Mm.DMA_WAIT_MAX_P3 : Field := ⟨0x120, 31, 16, 0, 0⟩
def Mm.DMA_WAIT_MAX_P2 : Field := ⟨0x120, 15, 0, 0, 0⟩
def Mm.COLLIDE_COUNT : Field := ⟨0x124, 31, 0, 0, 0⟩
def Mm.COLLIDE_LAST_LOSER : Field := ⟨0x128, 31, 30, 0, 0⟩
def Mm.COLLIDE_LAST_WINNER : Field := ⟨0x128, 29, 28, 0, 0⟩
def Mm.COLLIDE_LAST_ADDR : Field := ⟨0x128, 23, 0, 0, 0⟩
def Mm.ECC_CORR : Field := ⟨0x12C, 31, 0, 0, 0⟩
def Mm.ECC_UNCORR : Field := ⟨0x130, 15, 0, 0, 0⟩
def Mm.ECC_LAST_UNCORR : Field := ⟨0x134, 31, 31, 0, 0⟩
def Mm.ECC_LAST_MRAM : Field := ⟨0x134, 30, 30, 0, 0⟩
def Mm.ECC_LAST_PORT : Field := ⟨0x134, 29, 28, 0, 0⟩
def Mm.ECC_LAST_ADDR : Field := ⟨0x134, 23, 0, 0, 0⟩
def Mm.MRAM_ECC_CORR : Field := ⟨0x138, 31, 0, 0, 0⟩
def Mm.MRAM_WRITES_LO : Field := ⟨0x13C, 31, 0, 0, 0⟩
def Mm.MRAM_WRITES_HI : Field := ⟨0x140, 31, 0, 0, 0⟩
def Mm.BT_CFG_ENA : Field := ⟨0x150, 31, 31, 0, 0⟩
def Mm.BT_CFG_INTERVAL_US : Field := ⟨0x150, 13, 0, 0, 0⟩
def Mm.BT_POS : Field := ⟨0x154, 17, 0, 0, 0⟩
def Mm.BT_PASSES : Field := ⟨0x158, 31, 0, 0, 0⟩
def Mm.BT_PASS_MS : Field := ⟨0x15C, 31, 0, 0, 0⟩
def Mm.BT_SKIPPED : Field := ⟨0x160, 17, 0, 0, 0⟩
def Mm.BT_YIELDS : Field := ⟨0x164, 31, 0, 0, 0⟩
def Mm.BT_DEFECTS_UNCORR : Field := ⟨0x168, 31, 16, 0, 0⟩
def Mm.BT_DEFECTS_CORR : Field := ⟨0x168, 15, 0, 0, 0⟩
def Mm.BT_LAST_DEFECT_UNCORR : Field := ⟨0x16C, 31, 31, 0, 0⟩
def Mm.BT_LAST_DEFECT_ADDR : Field := ⟨0x16C, 23, 0, 0, 0⟩

/-! Fields of the secure page (R544). -/

def Sr.SEC_STATUS_B : Field := ⟨0x100, 15, 8, 0, 0⟩
def Sr.SEC_STATUS_A : Field := ⟨0x100, 7, 0, 0, 0⟩
def Sr.WIPE_COUNT : Field := ⟨0x104, 15, 0, 0, 0⟩
def Sr.LAST_WIPE_CAUSE : Field := ⟨0x108, 15, 8, 0, 0⟩
def Sr.LAST_WIPE_B : Field := ⟨0x108, 1, 1, 0, 0⟩
def Sr.LAST_WIPE_A : Field := ⟨0x108, 0, 0, 0, 0⟩
def Sr.WIPE_TIME_LO : Field := ⟨0x10C, 31, 0, 0, 0⟩
def Sr.WIPE_TIME_HI : Field := ⟨0x110, 31, 0, 0, 0⟩
def Sr.WIPE_US_B : Field := ⟨0x114, 31, 16, 0, 0⟩
def Sr.WIPE_US_A : Field := ⟨0x114, 15, 0, 0, 0⟩
def Sr.SEC_USED_KB_B : Field := ⟨0x118, 24, 16, 0, 0⟩
def Sr.SEC_USED_KB_A : Field := ⟨0x118, 8, 0, 0, 0⟩
def Sr.SEC_ECC_B : Field := ⟨0x11C, 31, 16, 0, 0⟩
def Sr.SEC_ECC_A : Field := ⟨0x11C, 15, 0, 0, 0⟩

/-! Fields of the vat page (R569). -/

def Vt.VAT_CFG_CAPTURE_ENA : Field := ⟨0x100, 31, 31, 0, 0⟩
def Vt.VAT_CFG_DECIM_PCT : Field := ⟨0x100, 23, 16, 0, 0⟩
def Vt.VAT_CFG_DROP_PCT : Field := ⟨0x100, 15, 8, 0, 0⟩
def Vt.VAT_CFG_WEAR_WARN_PCT : Field := ⟨0x100, 7, 0, 0, 0⟩
def Vt.CAP_TIME_POST_MS : Field := ⟨0x104, 31, 16, 0, 0⟩
def Vt.CAP_TIME_PRE_MS : Field := ⟨0x104, 15, 0, 0, 0⟩
def Vt.VAT_STATUS_MOUNT_CLEAN : Field := ⟨0x120, 9, 9, 0, 0⟩
def Vt.VAT_STATUS_SEALING : Field := ⟨0x120, 8, 8, 0, 0⟩
def Vt.VAT_STATUS_STATE : Field := ⟨0x120, 2, 0, 0, 0⟩
def Vt.RATES_WRITE_MBPS : Field := ⟨0x124, 31, 16, 0, 0⟩
def Vt.RATES_READ_MBPS : Field := ⟨0x124, 15, 0, 0, 0⟩
def Vt.BUF_FILL_CAP_PCT : Field := ⟨0x128, 23, 16, 0, 0⟩
def Vt.BUF_FILL_CURD_PCT : Field := ⟨0x128, 7, 0, 0, 0⟩
def Vt.CAPTURES : Field := ⟨0x12C, 31, 0, 0, 0⟩
def Vt.DECIMATED : Field := ⟨0x130, 31, 0, 0, 0⟩
def Vt.DROPPED : Field := ⟨0x134, 31, 0, 0, 0⟩
def Vt.NOT_STARTED : Field := ⟨0x138, 31, 0, 0, 0⟩
def Vt.CURD_SEQ : Field := ⟨0x13C, 31, 0, 0, 0⟩
def Vt.MIRROR_LAG : Field := ⟨0x140, 23, 0, 0, 0⟩
def Vt.MIRROR_RX : Field := ⟨0x144, 31, 0, 0, 0⟩
def Vt.MIRROR_DUPS : Field := ⟨0x148, 15, 0, 0, 0⟩
def Vt.MIRROR_LOST : Field := ⟨0x14C, 15, 0, 0, 0⟩
def Vt.UNSEALED : Field := ⟨0x150, 31, 0, 0, 0⟩
def Vt.HELD_HELD_DROPS : Field := ⟨0x154, 23, 16, 0, 0⟩
def Vt.HELD_HELD_NOW : Field := ⟨0x154, 7, 0, 0, 0⟩
def Vt.LOST_AT_MOUNT : Field := ⟨0x158, 15, 0, 0, 0⟩
def Vt.SHUTDOWN_FLUSH_MS : Field := ⟨0x15C, 31, 16, 0, 0⟩
def Vt.SHUTDOWN_MARKER_OK : Field := ⟨0x15C, 0, 0, 0, 0⟩
def Vt.WEAR_WEAR_PCT : Field := ⟨0x160, 31, 24, 0, 0⟩
def Vt.WEAR_SPARE_PCT : Field := ⟨0x160, 23, 16, 0, 0⟩
def Vt.WEAR_BAD_BLOCKS : Field := ⟨0x160, 15, 0, 0, 0⟩
def Vt.PE_PE_AVG : Field := ⟨0x164, 31, 16, 0, 0⟩
def Vt.PE_PE_MAX : Field := ⟨0x164, 15, 0, 0, 0⟩
def Vt.ECC_BITS : Field := ⟨0x168, 31, 0, 0, 0⟩
def Vt.UNITS_LOST : Field := ⟨0x16C, 31, 0, 0, 0⟩
def Vt.TAG_FAILS : Field := ⟨0x170, 31, 0, 0, 0⟩
def Vt.DIES_DIES_FAILED : Field := ⟨0x174, 23, 16, 0, 0⟩
def Vt.DIES_DIES : Field := ⟨0x174, 7, 0, 0, 0⟩
def Vt.STAGE_CURD_LOST : Field := ⟨0x178, 15, 0, 0, 0⟩
def Vt.PART_SIZE_MB : Field := ⟨0x200, 31, 0, 32, 0⟩
def Vt.PART_USED_MB : Field := ⟨0x204, 31, 0, 32, 0⟩
def Vt.PART_OLDEST : Field := ⟨0x208, 31, 0, 32, 4⟩
def Vt.PART_NEWEST : Field := ⟨0x210, 31, 0, 32, 4⟩
def Vt.RET_DAYS : Field := ⟨0x218, 15, 0, 32, 0⟩
def Vt.OVERWRITES : Field := ⟨0x21C, 31, 0, 32, 0⟩
def Vt.CAP_AXIS_AUTO : Field := ⟨0x300, 31, 31, 4, 0⟩
def Vt.CAP_AXIS_AUX1_KIND : Field := ⟨0x300, 23, 20, 4, 0⟩
def Vt.CAP_AXIS_AUX0_KIND : Field := ⟨0x300, 11, 8, 4, 0⟩
def Vt.CAP_AXIS_AUX1_INDEX : Field := ⟨0x300, 19, 12, 4, 0⟩
def Vt.CAP_AXIS_AUX0_INDEX : Field := ⟨0x300, 7, 0, 4, 0⟩

/-! Fields of the dump page (R572). -/

def Dp.DUMP_CFG_DUMP_LIMIT_MS : Field := ⟨0x100, 15, 0, 0, 0⟩
def Dp.MINI_STATUS_OLDEST : Field := ⟨0x104, 15, 8, 0, 0⟩
def Dp.MINI_STATUS_USED : Field := ⟨0x104, 7, 0, 0, 0⟩
def Dp.DUMP_COUNT : Field := ⟨0x200, 31, 0, 64, 0⟩
def Dp.LAST_DUMP_SLOT : Field := ⟨0x204, 31, 16, 64, 0⟩
def Dp.LAST_DUMP_CAUSE : Field := ⟨0x204, 15, 8, 64, 0⟩
def Dp.LAST_DUMP_WHERE : Field := ⟨0x204, 7, 0, 64, 0⟩
def Dp.LAST_TIME : Field := ⟨0x208, 31, 0, 64, 4⟩
def Dp.LAST_PC : Field := ⟨0x210, 21, 0, 64, 0⟩
def Dp.LAST_CYCLE : Field := ⟨0x214, 31, 0, 64, 0⟩
def Dp.DUMPS_SUPPRESSED : Field := ⟨0x218, 15, 0, 64, 0⟩
def Dp.ABANDONED : Field := ⟨0x21C, 15, 0, 64, 0⟩

/-! Fields of the mgmt page (R595). -/

def Mg.MGMT_LOAD_REFUSING : Field := ⟨0x100, 21, 21, 0, 0⟩
def Mg.MGMT_LOAD_RIP_DEFERRED : Field := ⟨0x100, 20, 20, 0, 0⟩
def Mg.MGMT_LOAD_TELEM_DIV : Field := ⟨0x100, 18, 16, 0, 0⟩
def Mg.MGMT_LOAD_PEAK_PCT : Field := ⟨0x100, 15, 8, 0, 0⟩
def Mg.MGMT_LOAD_LOAD_PCT : Field := ⟨0x100, 7, 0, 0, 0⟩
def Mg.CLASS_LOAD_TELEMETRY : Field := ⟨0x104, 31, 24, 0, 0⟩
def Mg.CLASS_LOAD_RIPENING : Field := ⟨0x104, 23, 16, 0, 0⟩
def Mg.CLASS_LOAD_HOST : Field := ⟨0x104, 15, 8, 0, 0⟩
def Mg.CLASS_LOAD_UPDATE : Field := ⟨0x104, 7, 0, 0, 0⟩
def Mg.SAT_CFG_SAT_PCT : Field := ⟨0x108, 7, 0, 0, 0⟩
def Mg.TELEM_CFG_TELEM_S : Field := ⟨0x10C, 15, 0, 0, 0⟩
def Mg.DEFER_TELEM : Field := ⟨0x110, 31, 0, 0, 0⟩
def Mg.DEFER_RIP : Field := ⟨0x114, 31, 0, 0, 0⟩
def Mg.REFUSED_HOST : Field := ⟨0x118, 31, 0, 0, 0⟩
def Mg.HOST_QUEUE_HWM : Field := ⟨0x11C, 12, 8, 0, 0⟩
def Mg.HOST_QUEUE_DEPTH : Field := ⟨0x11C, 4, 0, 0, 0⟩
def Mg.MLOG_OLDEST : Field := ⟨0x120, 31, 0, 0, 0⟩
def Mg.MLOG_NEWEST : Field := ⟨0x124, 31, 0, 0, 0⟩
def Mg.MLOG_POS : Field := ⟨0x128, 31, 0, 0, 0⟩
def Mg.UPTIME_S : Field := ⟨0x12C, 31, 0, 0, 0⟩
def Mg.MGMT_RESETS : Field := ⟨0x130, 15, 0, 0, 0⟩

/-! Fields of the sensors page (R597). -/

def Sn.SAMPLE_CFG_SAMPLE_MS : Field := ⟨0x100, 15, 0, 0, 0⟩
def Sn.SENS_SUMMARY_FAILED : Field := ⟨0x104, 14, 8, 0, 0⟩
def Sn.SENS_SUMMARY_OUT : Field := ⟨0x104, 6, 0, 0, 0⟩
def Sn.OUT_MAP : Field := ⟨0x108, 31, 0, 4, 0⟩
def Sn.FAIL_MAP : Field := ⟨0x110, 31, 0, 4, 0⟩
def Sn.S_VALUE : Field := ⟨0x400, 15, 0, 16, 0⟩
def Sn.S_SEEN_MAX : Field := ⟨0x404, 31, 16, 16, 0⟩
def Sn.S_SEEN_MIN : Field := ⟨0x404, 15, 0, 16, 0⟩
def Sn.S_LIMITS_HI : Field := ⟨0x408, 31, 16, 16, 0⟩
def Sn.S_LIMITS_LO : Field := ⟨0x408, 15, 0, 16, 0⟩
def Sn.S_STATUS_EXCURSIONS : Field := ⟨0x40C, 31, 16, 16, 0⟩
def Sn.S_STATUS_STATE : Field := ⟨0x40C, 1, 0, 16, 0⟩

/-! Fields of the ripening page (R599). -/

def Rp.RIP_CFG_ENA : Field := ⟨0x100, 31, 31, 0, 0⟩
def Rp.RIP_CFG_PERIOD_H : Field := ⟨0x100, 7, 0, 0, 0⟩
def Rp.RIP_LAST : Field := ⟨0x104, 31, 0, 4, 0⟩
def Rp.PLAN_SEQ : Field := ⟨0x10C, 31, 0, 0, 0⟩
def Rp.RIP_SUMMARY_BLOCKED : Field := ⟨0x110, 31, 24, 0, 0⟩
def Rp.RIP_SUMMARY_PENDING : Field := ⟨0x110, 23, 16, 0, 0⟩
def Rp.RIP_SUMMARY_AT_BOUND : Field := ⟨0x110, 15, 8, 0, 0⟩
def Rp.RIP_SUMMARY_ALARM : Field := ⟨0x110, 7, 0, 0, 0⟩
def Rp.RIP_VALUE_BASE : Field := ⟨0x400, 31, 16, 16, 0⟩
def Rp.RIP_VALUE_NOW : Field := ⟨0x400, 15, 0, 16, 0⟩
def Rp.RIP_OUTLOOK_MARGIN_PCT : Field := ⟨0x404, 31, 24, 16, 0⟩
def Rp.RIP_OUTLOOK_STATE : Field := ⟨0x404, 18, 16, 16, 0⟩
def Rp.RIP_OUTLOOK_DAYS_LEFT : Field := ⟨0x404, 15, 0, 16, 0⟩
def Rp.RIP_BOUND_AUTO : Field := ⟨0x408, 31, 31, 16, 0⟩
def Rp.RIP_BOUND_ALARM_PCT : Field := ⟨0x408, 23, 16, 16, 0⟩
def Rp.RIP_BOUND_BOUND : Field := ⟨0x408, 15, 0, 16, 0⟩
def Rp.RIP_PLAN_PLANNED : Field := ⟨0x40C, 31, 16, 16, 0⟩
def Rp.RIP_PLAN_REF : Field := ⟨0x40C, 15, 0, 16, 0⟩

/-! Fields of the update page (R601). -/

def Up.UPD_SESSION_STEP : Field := ⟨0x100, 15, 8, 0, 0⟩
def Up.UPD_SESSION_TARGET : Field := ⟨0x100, 2, 0, 0, 0⟩
def Up.UPD_LEN : Field := ⟨0x104, 31, 0, 0, 0⟩
def Up.UPD_RECEIVED : Field := ⟨0x108, 31, 0, 0, 0⟩
def Up.CHUNK_CRC : Field := ⟨0x10C, 31, 0, 0, 0⟩
def Up.UPD_RESULT_STEP : Field := ⟨0x110, 15, 8, 0, 0⟩
def Up.UPD_RESULT_RESULT : Field := ⟨0x110, 7, 0, 0, 0⟩
def Up.UPD_VERSION_SEC_VER : Field := ⟨0x114, 31, 24, 0, 0⟩
def Up.UPD_VERSION_VERSION : Field := ⟨0x114, 23, 0, 0, 0⟩
def Up.UPD_REF : Field := ⟨0x118, 31, 0, 0, 0⟩
def Up.CONFIRM_CFG_CONFIRM_S : Field := ⟨0x11C, 15, 0, 0, 0⟩
def Up.SLOT_STATE_OTHER_VALID : Field := ⟨0x120, 3, 3, 16, 0⟩
def Up.SLOT_STATE_TRIAL : Field := ⟨0x120, 2, 2, 16, 0⟩
def Up.SLOT_STATE_ACTIVE : Field := ⟨0x120, 0, 0, 16, 0⟩
def Up.VER_ACTIVE : Field := ⟨0x124, 31, 0, 16, 0⟩
def Up.VER_OTHER : Field := ⟨0x128, 31, 0, 16, 0⟩
def Up.ARB_COUNTER : Field := ⟨0x12C, 5, 0, 16, 0⟩
def Up.UPD_WIN : Field := ⟨0x800, 31, 0, 4, 0⟩

/-! Fields of the lifeCycle page (R620). -/

def Lc.LC_STATUS_COMMIT_PENDING : Field := ⟨0x100, 18, 18, 0, 0⟩
def Lc.LC_STATUS_ERASE_CAUSE : Field := ⟨0x100, 15, 8, 0, 0⟩
def Lc.LC_STATUS_STATE : Field := ⟨0x100, 2, 0, 0, 0⟩
def Lc.RIND_STATUS_KEYSTORE_VALID : Field := ⟨0x104, 12, 12, 0, 0⟩
def Lc.RIND_STATUS_SEAL_ARMED : Field := ⟨0x104, 9, 9, 0, 0⟩
def Lc.RIND_STATUS_ARMED : Field := ⟨0x104, 8, 8, 0, 0⟩
def Lc.RIND_STATUS_TEMP_OK : Field := ⟨0x104, 4, 4, 0, 0⟩
def Lc.RIND_STATUS_SEAL_OK : Field := ⟨0x104, 3, 3, 0, 0⟩
def Lc.RIND_STATUS_LID2_OK : Field := ⟨0x104, 2, 2, 0, 0⟩
def Lc.RIND_STATUS_LID1_OK : Field := ⟨0x104, 1, 1, 0, 0⟩
def Lc.RIND_STATUS_MESH_OK : Field := ⟨0x104, 0, 0, 0, 0⟩
def Lc.MESH_R_TRACE_B : Field := ⟨0x108, 31, 16, 0, 0⟩
def Lc.MESH_R_TRACE_A : Field := ⟨0x108, 15, 0, 0, 0⟩
def Lc.RIND_TEMP : Field := ⟨0x10C, 15, 0, 0, 0⟩
def Lc.ERASE_COUNT : Field := ⟨0x110, 15, 0, 0, 0⟩
def Lc.ERASE_TIME_LO : Field := ⟨0x114, 31, 0, 0, 0⟩
def Lc.ERASE_TIME_HI : Field := ⟨0x118, 31, 0, 0, 0⟩
def Lc.ERASE_US : Field := ⟨0x11C, 15, 0, 0, 0⟩
def Lc.BREACH_COUNT : Field := ⟨0x120, 15, 0, 0, 0⟩
def Lc.IDENTITY_GEN : Field := ⟨0x124, 31, 16, 0, 0⟩
def Lc.IDENTITY_PROVISIONAL : Field := ⟨0x124, 0, 0, 0, 0⟩
def Lc.CERT_NOT_AFTER_LO : Field := ⟨0x128, 31, 0, 0, 0⟩
def Lc.CERT_NOT_AFTER_HI : Field := ⟨0x12C, 31, 0, 0, 0⟩
def Lc.ANCHORS_DENY_COUNT : Field := ⟨0x130, 23, 16, 0, 0⟩
def Lc.ANCHORS_FACTORY : Field := ⟨0x130, 2, 2, 0, 0⟩
def Lc.ANCHORS_CONTENT : Field := ⟨0x130, 1, 1, 0, 0⟩
def Lc.ANCHORS_HOST : Field := ⟨0x130, 0, 0, 0, 0⟩
def Lc.HOST_ANCHOR_REF : Field := ⟨0x134, 31, 0, 0, 0⟩
def Lc.CONTENT_ANCHOR_REF : Field := ⟨0x138, 31, 0, 0, 0⟩
def Lc.PROV_COUNT : Field := ⟨0x13C, 15, 0, 0, 0⟩
def Lc.RIND_CFG_SEAL_WAIT_S : Field := ⟨0x140, 31, 16, 0, 0⟩
def Lc.RIND_CFG_COLD_ENA : Field := ⟨0x140, 0, 0, 0, 0⟩
def Lc.WIN_CTRL_LEN : Field := ⟨0x150, 27, 16, 0, 0⟩
def Lc.WIN_CTRL_KIND : Field := ⟨0x150, 3, 0, 0, 0⟩
def Lc.LC_WIN : Field := ⟨0x400, 31, 0, 4, 0⟩

end Sys2Proof.Machine
end

