-- ==== Sys2Proof/Machine/RegTable.lean ====
section
/-! DEFINITION. The register tables of spec/ as data: for every page kind of R40 the fields that a write can
change (access codes of R5, limits of R61) and those whose reset value is other than 0. A field that is not
listed is RO with reset value 0, or reserved (R4). -/

namespace Sys2Proof.Machine

/-- The access codes of R5. -/
inductive Access where
  | ro | rw | rwc | w1c | wo
  deriving DecidableEq, Repr

/-- One end of a clamping range: a number, or the applied value of another field of the page plus a constant
(R61: a constraint that refers to another register uses that register's applied value). -/
inductive Bound where
  | lit (v : Int)
  | fld (f : Field) (plus : Int)
  deriving DecidableEq, Repr

/-- The permitted sets of R61 that are not one range: each name is the constraint of one field of the tables. -/
inductive DynRule where
  | pwmKhz | curKhz | velKhz | posKhz | step250 | captureRate | clePeriod
  | avRes | avCh | avLane | avPos | cnPos | cnAction | actArg
  | limitMode | homeMethod | swRole1 | swRole2 | mechLead | velBw | curBw | posBw | stBits | mtBits | ftPos
  | step50 | retryMs | syncId | ntseg1 | ntseg2 | nsjw | dsjw | dtseg1 | dtseg2
  | aux0Index | aux1Index | ripBound | ripAuto | kmap | rcLast
  deriving DecidableEq, Repr

/-- What a write to a field is clamped to (R61). -/
inductive Limit where
  | free
  | range (lo hi : Bound)
  | srange (lo hi : Bound)
  | dyn (r : DynRule)
  deriving DecidableEq, Repr

/-- One field of a register table: the field, the number of elements along its one or two indices, its access
code, its reset value and its limits. -/
structure RegField where
  f : Field
  n : Nat
  n2 : Nat
  acc : Access
  reset : Nat
  lim : Limit
  deriving DecidableEq, Repr

/-- The kinds of page of R40. -/
inductive PageKind where
  | device | lane | crossing | power | hostPorts | hostRights | cle | onlineChange | debug | avenue | corner
  | ration | axis | bank | lsGroup | kerb | loopGroup | beamGroup | edgeGroup | can | safety | conns | safeOut
  | memory | secure | vat | mgmt | sensors | ripening | update | lifeCycle | fabric | dump | unused
  deriving DecidableEq, Repr

/-- The fields of the header page that a write can change or that reset to other than 0 (R43). -/
def headerFields : List RegField := [
  ⟨Hd.PAGE_GEN_GEN, 1, 1, .ro, 1, .free⟩,
  ⟨Hd.PAGE_CTRL_EVT_DELIVER, 1, 1, .rw, 1, .free⟩,
  ⟨Hd.PAGE_OWNER_CFG_HOST, 1, 1, .ro, 255, .free⟩,
  ⟨Hd.PAGE_LOCK_LOCK, 1, 1, .rw, 0, .free⟩,
  ⟨Hd.EVT_PEND, 1, 1, .w1c, 0, .free⟩,
  ⟨Hd.EVT_ENA, 1, 1, .rw, 0xF000, .free⟩,
  ⟨Hd.EVT_ROUTE_TASK, 1, 1, .rw, 0, .free⟩,
  ⟨Hd.EVT_ROUTE_MGMT, 1, 1, .rw, 1, .free⟩,
  ⟨Hd.EVT_ROUTE_LANE_FW, 1, 1, .rw, 1, .free⟩,
  ⟨Hd.EVT_ROUTE_CLE, 1, 1, .rw, 0, .free⟩,
  ⟨Hd.EVT_ROUTE_HOSTS, 1, 1, .rw, 15, .free⟩,
  ⟨Hd.CMD_TAG, 1, 1, .wo, 0, .free⟩,
  ⟨Hd.CMD_CHANNEL, 1, 1, .wo, 0, .free⟩,
  ⟨Hd.CMD_OPCODE, 1, 1, .wo, 0, .free⟩,
  ⟨Hd.CMD_ARG0, 1, 1, .rw, 0, .free⟩,
  ⟨Hd.CMD_ARG1, 1, 1, .rw, 0, .free⟩]

/-- The fields of the device page that a write can change or that reset to other than 0 (R68). -/
def deviceFields : List RegField := [
  ⟨Dev.DEV_TYPE, 1, 1, .ro, 0x3256, .free⟩,
  ⟨Dev.PROFILE, 1, 1, .rwc, 0, (.range (.lit 0) (.lit 3))⟩,
  ⟨Dev.OVR_BUS_A_ENA, 1, 1, .rw, 0, .free⟩,
  ⟨Dev.OVR_BUS_A_POS_KHZ, 1, 1, .rwc, 4, (.dyn .posKhz)⟩,
  ⟨Dev.OVR_BUS_A_VEL_KHZ, 1, 1, .rwc, 8, (.dyn .velKhz)⟩,
  ⟨Dev.OVR_BUS_A_CUR_KHZ, 1, 1, .rwc, 24, (.dyn .curKhz)⟩,
  ⟨Dev.OVR_BUS_A_PWM_KHZ, 1, 1, .rwc, 24, (.dyn .pwmKhz)⟩,
  ⟨Dev.OVR_CLE_MIN_ENA, 1, 1, .rw, 0, .free⟩,
  ⟨Dev.OVR_CLE_MIN_PERIOD_US, 1, 1, .rwc, 500, (.dyn .step250)⟩,
  ⟨Dev.OVR_CAPTURE_A_ENA, 1, 1, .rw, 0, .free⟩,
  ⟨Dev.OVR_CAPTURE_A_RATE, 1, 1, .rwc, 8, (.dyn .captureRate)⟩,
  ⟨Dev.EFF_BUS_A_CONT_DA, 1, 1, .ro, 60, .free⟩,
  ⟨Dev.EFF_BUS_A, 1, 1, .ro, 0x481818, .free⟩,
  ⟨Dev.EFF_CLE_MIN, 1, 1, .ro, 500, .free⟩,
  ⟨Dev.EFF_CAPTURE_A, 1, 1, .ro, 8, .free⟩,
  ⟨Dev.EFF_CAPTURE_B, 1, 1, .ro, 8, .free⟩,
  ⟨Dev.TIME_STATUS_FROM_RTC, 1, 1, .ro, 1, .free⟩,
  ⟨Dev.HOLDOVER_S, 1, 1, .rwc, 60, (.range (.lit 1) (.lit 3600))⟩,
  ⟨Dev.OVR_BUS_B_ENA, 1, 1, .rw, 0, .free⟩,
  ⟨Dev.OVR_BUS_B_POS_KHZ, 1, 1, .rwc, 4, (.dyn .posKhz)⟩,
  ⟨Dev.OVR_BUS_B_VEL_KHZ, 1, 1, .rwc, 8, (.dyn .velKhz)⟩,
  ⟨Dev.OVR_BUS_B_CUR_KHZ, 1, 1, .rwc, 24, (.dyn .curKhz)⟩,
  ⟨Dev.OVR_BUS_B_PWM_KHZ, 1, 1, .rwc, 24, (.dyn .pwmKhz)⟩,
  ⟨Dev.OVR_CAPTURE_B_ENA, 1, 1, .rw, 0, .free⟩,
  ⟨Dev.OVR_CAPTURE_B_RATE, 1, 1, .rwc, 8, (.dyn .captureRate)⟩,
  ⟨Dev.EFF_BUS_B_CONT_DA, 1, 1, .ro, 60, .free⟩,
  ⟨Dev.EFF_BUS_B, 1, 1, .ro, 0x481818, .free⟩]

/-- The fields of the fabric page that a write can change or that reset to other than 0 (R75). -/
def fabricFields : List RegField := [
  ⟨Fab.HIGH_PCT, 1, 1, .rwc, 75, (.range (.lit 50) (.lit 95))⟩]

/-- The fields of the lane page that a write can change or that reset to other than 0 (R96). -/
def laneFields : List RegField := [
  ⟨Ln.HB_POLICY_RESTORE_MAP, 1, 1, .rw, 1, .free⟩,
  ⟨Ln.HB_POLICY_STOP_ON_FAULT, 1, 1, .rw, 1, .free⟩,
  ⟨Ln.JOIN_LIMIT_S, 1, 1, .rwc, 10, (.range (.lit 2) (.lit 60))⟩]

/-- The fields of the crossing page that a write can change or that reset to other than 0 (R99). -/
def crossingFields : List RegField := [
  ⟨Xg.TAKEOVER_MS, 1, 1, .rwc, 20, (.range (.lit 2) (.lit 200))⟩]

/-- The fields of the power page that a write can change or that reset to other than 0 (R122). -/
def powerFields : List RegField := [
  ⟨Pw.RESTART_CFG_ALONE_WARM, 1, 1, .rw, 1, .free⟩,
  ⟨Pw.RESTART_CFG_POWERON_WARM, 1, 1, .rw, 1, .free⟩,
  ⟨Pw.WARM_MAX_OUTAGE_S, 1, 1, .rwc, 0, (.range (.lit 0) (.lit 31536000))⟩]

/-- The fields of the hostPorts page that a write can change or that reset to other than 0 (R156). -/
def hostPortsFields : List RegField := [
  ⟨Pt.ANNOUNCE_ENA, 1, 1, .rw, 1, .free⟩,
  ⟨Pt.MCAST_GROUP, 1, 1, .rw, 0xEFC00047, .free⟩,
  ⟨Pt.PTP_CFG_PORT_MASK, 1, 1, .rw, 15, .free⟩,
  ⟨Pt.PTP_CFG_DOMAIN, 1, 1, .rwc, 0, (.range (.lit 0) (.lit 127))⟩,
  ⟨Pt.PORT_CFG_ENA, 5, 1, .rw, 1, .free⟩,
  ⟨Pt.PORT_CFG_DHCP, 5, 1, .rw, 1, .free⟩,
  ⟨Pt.PORT_CFG_PCP, 5, 1, .rwc, 0, (.range (.lit 0) (.lit 7))⟩,
  ⟨Pt.PORT_CFG_VLAN_ID, 5, 1, .rwc, 0, (.range (.lit 0) (.lit 4094))⟩,
  ⟨Pt.IP_STATIC, 5, 1, .rw, 0, .free⟩,
  ⟨Pt.PREFIX_LEN, 5, 1, .rwc, 24, (.range (.lit 8) (.lit 30))⟩,
  ⟨Pt.GATEWAY, 5, 1, .rw, 0, .free⟩]

/-- The fields of the hostRights page that a write can change or that reset to other than 0 (R159). -/
def hostRightsFields : List RegField := [
  ⟨Ss.SESSION_TIMEOUT_S, 1, 1, .rwc, 5, (.range (.lit 1) (.lit 60))⟩,
  ⟨Ss.ROLE_CLASS_SERVICE, 1, 1, .rwc, 3, (.range (.lit 0) (.lit 3))⟩,
  ⟨Ss.ROLE_CLASS_ADMINISTRATOR, 1, 1, .rwc, 1, (.range (.lit 0) (.lit 3))⟩,
  ⟨Ss.ROLE_CLASS_MAINTAINER, 1, 1, .rwc, 2, (.range (.lit 0) (.lit 3))⟩,
  ⟨Ss.ROLE_CLASS_OPERATOR, 1, 1, .rwc, 0, (.range (.lit 0) (.lit 3))⟩,
  ⟨Ss.CFG_HOLDER_SLOT, 1, 1, .ro, 255, .free⟩,
  ⟨Ss.RIGHTS, 4, 16, .rw, 0, .free⟩]

/-- The fields of the cle page that a write can change or that reset to other than 0 (R196). -/
def cleFields : List RegField := [
  ⟨Ce.CYCLE_PERIOD_PERIOD_US, 1, 1, .rwc, 1000, (.dyn .clePeriod)⟩,
  ⟨Ce.CYCLE_CFG_GRACE_PCT, 1, 1, .rwc, 0, (.range (.lit 0) (.lit 25))⟩,
  ⟨Ce.CYCLE_CFG_WARN_PCT, 1, 1, .rwc, 90, (.range (.lit 50) (.lit 99))⟩,
  ⟨Ce.CYCLE_CFG_STOP_SAFE, 1, 1, .rw, 1, .free⟩,
  ⟨Ce.STOP_INFO_TASK, 1, 1, .ro, 255, .free⟩]

/-- The fields of the debug page that a write can change or that reset to other than 0 (R199). -/
def debugFields : List RegField := [
  ⟨Db.HOLD_CFG_OUT_SAFE, 1, 1, .rw, 1, .free⟩,
  ⟨Db.BP_ADDR_ENA, 8, 1, .rw, 0, .free⟩,
  ⟨Db.BP_ADDR_ADDR, 8, 1, .rw, 0, .free⟩,
  ⟨Db.BP_COND_ANY_TASK, 8, 1, .rw, 1, .free⟩,
  ⟨Db.BP_COND_TASK, 8, 1, .rw, 0, .free⟩,
  ⟨Db.BP_COND_PASS, 8, 1, .rw, 0, .free⟩]

/-- The fields of the onlineChange page that a write can change or that reset to other than 0 (R255). -/
def onlineChangeFields : List RegField := [
  ⟨Oc.OC_CFG_HOLD_S, 1, 1, .rwc, 600, (.range (.lit 10) (.lit 3600))⟩,
  ⟨Oc.OC_CFG_RESTART_WAITING, 1, 1, .rw, 0, .free⟩,
  ⟨Oc.OC_CFG_QUIESCE_LIMIT, 1, 1, .rwc, 100, (.range (.lit 1) (.lit 1000))⟩,
  ⟨Oc.REPORT_BASE, 1, 1, .rwc, 0, (.range (.lit 0) (.lit 65535))⟩]

/-- The fields of the avenue page that a write can change or that reset to other than 0 (R275). -/
def avenueFields : List RegField := [
  ⟨Av.LINE_TIMEOUT_MS, 1, 1, .rwc, 100, (.range (.lit 10) (.lit 5000))⟩,
  ⟨Av.AV_SRC_ENA, 64, 1, .rw, 0, .free⟩,
  ⟨Av.AV_SRC_KIND, 64, 1, .rwc, 0, (.range (.lit 0) (.lit 6))⟩,
  ⟨Av.AV_SRC_RES, 64, 1, .rwc, 0, (.dyn .avRes)⟩,
  ⟨Av.AV_SRC_CH, 64, 1, .rwc, 0, (.dyn .avCh)⟩,
  ⟨Av.AV_SRC_LANE, 64, 1, .rwc, 0, (.dyn .avLane)⟩,
  ⟨Av.AV_LIMITS_HYST, 64, 1, .rwc, 0, (.range (.lit 0) (.lit 65535))⟩,
  ⟨Av.AV_LIMITS_CIRC, 64, 1, .rw, 0, .free⟩,
  ⟨Av.AV_LIMITS_JUMP_LIMIT, 64, 1, .rwc, 0, (.range (.lit 0) (.lit 32767))⟩,
  ⟨Av.AV_OFFSET, 64, 1, .rwc, 0, (.dyn .avPos)⟩,
  ⟨Av.AV_IN, 64, 1, .rw, 0, .free⟩,
  ⟨Av.AV_IN_RATE, 64, 1, .rw, 0, .free⟩]

/-- The fields of the corner page that a write can change or that reset to other than 0 (R278). -/
def cornerFields : List RegField := [
  ⟨Cn.WIN_SEL_AVENUE, 1, 1, .rw, 0, .free⟩,
  ⟨Cn.CN_POS, 64, 1, .rwc, 0, (.dyn .cnPos)⟩,
  ⟨Cn.CN_CTRL_ENA, 64, 1, .rw, 0, .free⟩,
  ⟨Cn.CN_CTRL_ONESHOT, 64, 1, .rw, 0, .free⟩,
  ⟨Cn.CN_CTRL_DIR, 64, 1, .rwc, 1, (.range (.lit 1) (.lit 3))⟩,
  ⟨Cn.CN_CTRL_ACTION, 64, 1, .rwc, 0, (.dyn .cnAction)⟩,
  ⟨Cn.CN_CTRL_ACT_ARG, 64, 1, .rwc, 0, (.dyn .actArg)⟩]

/-- Part 1 of the fields of the axis page (R309, R310, R342, R343, R369, R394). -/
def axisFields1 : List RegField := [
  ⟨Ax.MOT_CFG_HW_LIMITS, 1, 1, .rw, 0, .free⟩,
  ⟨Ax.MOT_CFG_LIMIT_MODE, 1, 1, .rwc, 0, (.dyn .limitMode)⟩,
  ⟨Ax.LIMIT_NEG, 1, 1, .rwc, 0x80000000, (.srange (.lit (-2147483648)) (.fld Ax.LIMIT_POS (-1)))⟩,
  ⟨Ax.LIMIT_POS, 1, 1, .rwc, 0x7FFFFFFF, (.srange (.fld Ax.LIMIT_NEG 1) (.lit 2147483647))⟩,
  ⟨Ax.UNREF_VMAX, 1, 1, .rwc, 0x4E20, (.range (.lit 1) (.lit 2147483647))⟩,
  ⟨Ax.QS_DEC, 1, 1, .rwc, 0x1388, (.range (.lit 1) (.lit 16777215))⟩,
  ⟨Ax.KE_CFG_DIR, 1, 1, .rwc, 3, (.range (.lit 1) (.lit 3))⟩,
  ⟨Ax.KE_CFG_KE_MAX_MJ, 1, 1, .rwc, 0, (.range (.lit 0) (.lit 65535))⟩,
  ⟨Ax.MASS_G, 1, 1, .rwc, 0x9C40, (.range (.lit 1000) (.lit 1000000))⟩,
  ⟨Ax.PUSH_CFG_HOLD_N, 1, 1, .rwc, 0, (.range (.lit 0) (.lit 400))⟩,
  ⟨Ax.PUSH_CFG_PUSH_MS, 1, 1, .rwc, 300, (.range (.lit 10) (.lit 2000))⟩,
  ⟨Ax.FLY_THRESH, 1, 1, .rwc, 0x1388, (.range (.lit 0) (.lit 2147483647))⟩,
  ⟨Ax.FLY_DEC, 1, 1, .rwc, 2000, (.range (.lit 1) (.lit 16777215))⟩,
  ⟨Ax.GROUP_CFG_MEMBER, 1, 1, .rw, 0, .free⟩,
  ⟨Ax.GROUP_CFG_GROUP, 1, 1, .rwc, 0, (.range (.lit 0) (.lit 7))⟩,
  ⟨Ax.INPOS_TIME_MS, 1, 1, .rwc, 10, (.range (.lit 0) (.lit 1000))⟩,
  ⟨Ax.INPOS_WINDOW, 1, 1, .rwc, 200, (.range (.lit 0) (.lit 65535))⟩,
  ⟨Ax.FT_CFG_POINTS, 1, 1, .rwc, 0, (.range (.lit 0) (.lit 8))⟩,
  ⟨Ax.SET_VMAX, 4, 1, .rwc, 0x186A0, (.range (.lit 1) (.lit 2147483647))⟩,
  ⟨Ax.SET_ACC_CLASS, 4, 1, .rwc, 1, (.range (.lit 0) (.lit 3))⟩,
  ⟨Ax.SET_ACC_ACC, 4, 1, .rwc, 500, (.range (.lit 1) (.lit 16777215))⟩,
  ⟨Ax.SET_DEC, 4, 1, .rwc, 500, (.range (.lit 1) (.lit 16777215))⟩,
  ⟨Ax.SET_JERK, 4, 1, .rwc, 0, (.range (.lit 0) (.lit 16777215))⟩,
  ⟨Ax.FT_POS, 8, 1, .rwc, 0, (.dyn .ftPos)⟩,
  ⟨Ax.FT_FORCE, 8, 1, .rwc, 4000, (.range (.lit 0) (.lit 4000))⟩,
  ⟨Ax.CEIL_EFF, 1, 1, .ro, 4000, .free⟩,
  ⟨Ax.HOME_CFG_PARK, 1, 1, .rw, 0, .free⟩,
  ⟨Ax.HOME_CFG_CLASS, 1, 1, .rwc, 1, (.range (.lit 1) (.lit 3))⟩,
  ⟨Ax.HOME_CFG_REVERSE_AT_LIMIT, 1, 1, .rw, 0, .free⟩,
  ⟨Ax.HOME_CFG_METHOD, 1, 1, .rwc, 0, (.dyn .homeMethod)⟩,
  ⟨Ax.SW_MAP_INVERT, 1, 1, .rw, 0, .free⟩,
  ⟨Ax.SW_MAP_SW2, 1, 1, .rwc, 0, (.dyn .swRole2)⟩,
  ⟨Ax.SW_MAP_SW1, 1, 1, .rwc, 0, (.dyn .swRole1)⟩,
  ⟨Ax.SW_MAP_SW0, 1, 1, .rwc, 0, (.range (.lit 0) (.lit 3))⟩,
  ⟨Ax.SW_TIMING_CHATTER_MS, 1, 1, .rwc, 50, (.range (.lit 1) (.lit 1000))⟩,
  ⟨Ax.SW_TIMING_FILT_US, 1, 1, .rwc, 500, (.range (.lit 10) (.lit 10000))⟩,
  ⟨Ax.HOME_V1, 1, 1, .rwc, 0x4E20, (.range (.lit 1) (.lit 2147483647))⟩,
  ⟨Ax.HOME_V2, 1, 1, .rwc, 0x1388, (.range (.lit 1) (.lit 2147483647))⟩,
  ⟨Ax.HOME_ACC, 1, 1, .rwc, 500, (.range (.lit 1) (.lit 16777215))⟩,
  ⟨Ax.HOME_POS, 1, 1, .rwc, 0, (.srange (.lit (-2147483648)) (.lit 2147483647))⟩]

/-- Part 2 of the fields of the axis page (R309, R310, R342, R343, R369, R394). -/
def axisFields2 : List RegField := [
  ⟨Ax.PARK_POS, 1, 1, .rwc, 0, (.srange (.fld Ax.LIMIT_NEG 0) (.fld Ax.LIMIT_POS 0))⟩,
  ⟨Ax.HARD_STOP_DWELL_MS, 1, 1, .rwc, 200, (.range (.lit 10) (.lit 2000))⟩,
  ⟨Ax.HARD_STOP_FORCE_N, 1, 1, .rwc, 120, (.range (.lit 30) (.lit 400))⟩,
  ⟨Ax.HOME_LIMITS_TIMEOUT_S, 1, 1, .rwc, 60, (.range (.lit 1) (.lit 600))⟩,
  ⟨Ax.HOME_MAX_TRAVEL, 1, 1, .rwc, 0, (.range (.lit 0) (.lit 2147483647))⟩,
  ⟨Ax.DRV_CFG_DIR_INVERT, 1, 1, .rw, 0, .free⟩,
  ⟨Ax.DRV_CFG_DB_MODE, 1, 1, .rw, 1, .free⟩,
  ⟨Ax.DRV_CFG_ANGLE_SRC, 1, 1, .rwc, 0, (.range (.lit 0) (.lit 2))⟩,
  ⟨Ax.DRV_CFG_MOTOR_TYPE, 1, 1, .rwc, 0, (.range (.lit 0) (.lit 2))⟩,
  ⟨Ax.POLE_PAIRS, 1, 1, .rwc, 4, (.range (.lit 1) (.lit 32))⟩,
  ⟨Ax.R_S, 1, 1, .rwc, 1000, (.range (.lit 10) (.lit 50000))⟩,
  ⟨Ax.L_DQ_L_Q, 1, 1, .rwc, 1000, (.range (.lit 10) (.lit 50000))⟩,
  ⟨Ax.L_DQ_L_D, 1, 1, .rwc, 1000, (.range (.lit 10) (.lit 50000))⟩,
  ⟨Ax.KE, 1, 1, .rwc, 100, (.range (.lit 1) (.lit 10000))⟩,
  ⟨Ax.ANGLE_OFFSET, 1, 1, .rwc, 0, (.range (.lit 0) (.lit 16777215))⟩,
  ⟨Ax.HALL_TABLE, 1, 1, .rw, 0x2CC99, .free⟩,
  ⟨Ax.MECH_LEAD_UM, 1, 1, .rwc, 0, (.dyn .mechLead)⟩,
  ⟨Ax.MOT_I_PEAK_DA, 1, 1, .rwc, 200, (.range (.lit 1) (.lit 200))⟩,
  ⟨Ax.MOT_I_CONT_DA, 1, 1, .rwc, 60, (.range (.lit 1) (.lit 60))⟩,
  ⟨Ax.MOT_TAU_S, 1, 1, .rwc, 600, (.range (.lit 10) (.lit 3600))⟩,
  ⟨Ax.ROT_INERTIA, 1, 1, .rwc, 100, (.range (.lit 1) (.lit 100000000))⟩,
  ⟨Ax.LOOP_BW_VEL_BW_HZ, 1, 1, .rwc, 50, (.dyn .velBw)⟩,
  ⟨Ax.LOOP_BW_CUR_BW_HZ, 1, 1, .rwc, 1500, (.dyn .curBw)⟩,
  ⟨Ax.LOOP_CFG_ACC_FF_PCT, 1, 1, .rwc, 100, (.range (.lit 0) (.lit 150))⟩,
  ⟨Ax.LOOP_CFG_POS_BW_HZ, 1, 1, .rwc, 10, (.dyn .posBw)⟩,
  ⟨Ax.LOOP_CFG_VEL_TI_MS, 1, 1, .rwc, 20, (.range (.lit 1) (.lit 1000))⟩,
  ⟨Ax.FE_LIMIT, 1, 1, .rwc, 0x1388, (.range (.lit 1) (.lit 2147483647))⟩,
  ⟨Ax.FE_TIME_MS, 1, 1, .rwc, 20, (.range (.lit 1) (.lit 1000))⟩,
  ⟨Ax.SL_CFG_START_DA, 1, 1, .rwc, 30, (.range (.lit 5) (.lit 100))⟩,
  ⟨Ax.SL_HANDOVER, 1, 1, .rwc, 0x800000, (.range (.lit 1) (.lit 2147483647))⟩,
  ⟨Ax.ID_CFG_ID_CURRENT_DA, 1, 1, .rwc, 20, (.range (.lit 5) (.lit 100))⟩,
  ⟨Ax.ID_MAX_TRAVEL, 1, 1, .rwc, 0x4E20, (.range (.lit 0) (.lit 2147483647))⟩,
  ⟨Ax.CUR_LIMIT_PEAK_DA, 1, 1, .ro, 200, .free⟩,
  ⟨Ax.CUR_LIMIT_CONT_DA, 1, 1, .ro, 60, .free⟩,
  ⟨Ax.PEAK_W, 4, 1, .rwc, 200, (.range (.lit 1) (.lit 4000))⟩,
  ⟨Ax.QS_PEAK_W, 1, 1, .rwc, 400, (.range (.lit 1) (.lit 4000))⟩,
  ⟨Ax.HOME_PEAK_W, 1, 1, .rwc, 100, (.range (.lit 1) (.lit 4000))⟩,
  ⟨Ax.FB_CFG_ENA, 1, 1, .rw, 0, .free⟩,
  ⟨Ax.FB_CFG_TYPE, 1, 1, .rwc, 0, (.range (.lit 0) (.lit 4))⟩,
  ⟨Ax.FB_CFG_SUPPLY, 1, 1, .rwc, 1, (.range (.lit 0) (.lit 2))⟩]

/-- Part 3 of the fields of the axis page (R309, R310, R342, R343, R369, R394). -/
def axisFields3 : List RegField := [
  ⟨Ax.FB_CFG_TERM, 1, 1, .rw, 1, .free⟩,
  ⟨Ax.FB_CFG_DIR_INV, 1, 1, .rw, 0, .free⟩,
  ⟨Ax.FB_CFG_FILT_N, 1, 1, .rwc, 4, (.range (.lit 1) (.lit 32))⟩,
  ⟨Ax.FB_NUM, 1, 1, .rwc, 1, (.range (.lit 1) (.lit 2147483647))⟩,
  ⟨Ax.FB_DEN, 1, 1, .rwc, 1, (.range (.lit 1) (.lit 2147483647))⟩,
  ⟨Ax.FB_CPR, 1, 1, .rwc, 0, (.range (.lit 0) (.lit 2147483647))⟩,
  ⟨Ax.SER_FMT_PAD_BITS, 1, 1, .rwc, 0, (.range (.lit 0) (.lit 15))⟩,
  ⟨Ax.SER_FMT_ST_BITS, 1, 1, .rwc, 13, (.dyn .stBits)⟩,
  ⟨Ax.SER_FMT_MT_BITS, 1, 1, .rwc, 0, (.dyn .mtBits)⟩,
  ⟨Ax.SER_CFG_GRAY, 1, 1, .rw, 0, .free⟩,
  ⟨Ax.SER_CFG_SIGNED, 1, 1, .rw, 0, .free⟩,
  ⟨Ax.SER_CFG_ERR_BIT, 1, 1, .rw, 0, .free⟩,
  ⟨Ax.SER_CFG_ERR_LOW, 1, 1, .rw, 1, .free⟩,
  ⟨Ax.SER_CFG_CHECK, 1, 1, .rwc, 0, (.range (.lit 0) (.lit 2))⟩,
  ⟨Ax.SER_CFG_GAP_US, 1, 1, .rwc, 20, (.range (.lit 1) (.lit 100))⟩,
  ⟨Ax.SER_CFG_CLK_100K, 1, 1, .rwc, 20, (.range (.lit 5) (.lit 100))⟩,
  ⟨Ax.FB_OFFSET, 1, 1, .rwc, 0, (.srange (.lit (-2147483648)) (.lit 2147483647))⟩,
  ⟨Ax.SPD_CFG_CHG_UP, 1, 1, .rwc, 8, (.range (.lit 2) (.lit 64))⟩,
  ⟨Ax.SPD_CFG_CHG_DN, 1, 1, .rwc, 4, (.range (.lit 1) (.fld Ax.SPD_CFG_CHG_UP (-1)))⟩,
  ⟨Ax.SPD_CFG_SPD_FILT_US, 1, 1, .rwc, 0, (.range (.lit 0) (.lit 10000))⟩,
  ⟨Ax.ZERO_MS, 1, 1, .rwc, 50, (.range (.lit 1) (.lit 1000))⟩,
  ⟨Ax.INC_CFG_QERR_MAX, 1, 1, .rwc, 4, (.range (.lit 1) (.lit 255))⟩,
  ⟨Ax.INC_CFG_INDEX_GATE, 1, 1, .rw, 0, .free⟩,
  ⟨Ax.INC_CFG_HALL_FILT_US, 1, 1, .rwc, 5, (.range (.lit 1) (.lit 63))⟩,
  ⟨Ax.SER_ERR_CFG_RECOVER_N, 1, 1, .rwc, 8, (.range (.lit 1) (.lit 255))⟩,
  ⟨Ax.SER_ERR_CFG_FAULT_N, 1, 1, .rwc, 3, (.range (.lit 1) (.lit 16))⟩,
  ⟨Ax.PASS_CFG_ENA, 1, 1, .rw, 0, .free⟩,
  ⟨Ax.PASS_CFG_OUT, 1, 1, .rwc, 0, (.range (.lit 0) (.lit 7))⟩,
  ⟨Ax.PASS_CFG_MODE, 1, 1, .rwc, 1, (.range (.lit 1) (.lit 2))⟩,
  ⟨Ax.PASS_CFG_EMU_PITCH, 1, 1, .rwc, 1, (.range (.lit 1) (.lit 65535))⟩,
  ⟨Ax.OBS_CFG_ENA, 1, 1, .rw, 0, .free⟩,
  ⟨Ax.OBS_CFG_CLOSE_DIR, 1, 1, .rwc, 0, (.range (.lit 0) (.lit 2))⟩,
  ⟨Ax.OBS_CFG_DETECT_OPEN, 1, 1, .rw, 0, .free⟩,
  ⟨Ax.OBS_CFG_HOMING, 1, 1, .rw, 0, .free⟩,
  ⟨Ax.OBS_CFG_SETS, 1, 1, .rw, 15, .free⟩,
  ⟨Ax.OBS_CFG_REV_MODE, 1, 1, .rwc, 2, (.range (.lit 0) (.lit 2))⟩,
  ⟨Ax.OBS_CFG_DETECT_TICKS, 1, 1, .rwc, 4, (.range (.lit 1) (.lit 32))⟩,
  ⟨Ax.OBS_THRESH, 1, 1, .rwc, 150, (.range (.lit 30) (.lit 400))⟩,
  ⟨Ax.DETECT_VMIN, 1, 1, .rwc, 0x1388, (.range (.lit 1) (.lit 2147483647))⟩,
  ⟨Ax.REV_DIST, 1, 1, .rwc, 0x186A0, (.range (.lit 1) (.lit 2147483647))⟩]

/-- Part 4 of the fields of the axis page (R309, R310, R342, R343, R369, R394). -/
def axisFields4 : List RegField := [
  ⟨Ax.REV_TARGET, 1, 1, .rwc, 0, (.srange (.fld Ax.LIMIT_NEG 0) (.fld Ax.LIMIT_POS 0))⟩,
  ⟨Ax.REV_V, 1, 1, .rwc, 0x30D40, (.range (.lit 1) (.lit 2147483647))⟩,
  ⟨Ax.REV_ACC, 1, 1, .rwc, 1000, (.range (.lit 1) (.lit 16777215))⟩,
  ⟨Ax.REV_DEC, 1, 1, .rwc, 3000, (.range (.lit 1) (.lit 16777215))⟩,
  ⟨Ax.PARTNER_ENA, 1, 1, .rw, 0, .free⟩,
  ⟨Ax.PARTNER_AXIS, 1, 1, .rwc, 0, (.range (.lit 0) (.lit 31))⟩,
  ⟨Ax.FALLBACK_FB_SET, 1, 1, .rwc, 3, (.range (.lit 0) (.lit 3))⟩,
  ⟨Ax.FALLBACK_FB_THRESH, 1, 1, .rwc, 80, (.range (.lit 30) (.lit 400))⟩,
  ⟨Ax.MAP_CFG_BIN_UNITS, 1, 1, .rwc, 1000, (.range (.lit 100) (.lit 65535))⟩,
  ⟨Ax.MAP_CFG_MAP_BINS, 1, 1, .rwc, 0x1000, (.range (.lit 1) (.lit 4096))⟩,
  ⟨Ax.MAP_ORIGIN, 1, 1, .rwc, 0, (.srange (.lit (-2147483648)) (.lit 2147483647))⟩,
  ⟨Ax.LEARN_CFG_LEARN, 1, 1, .rw, 1, .free⟩,
  ⟨Ax.LEARN_CFG_LEARN_SHIFT, 1, 1, .rwc, 4, (.range (.lit 1) (.lit 8))⟩,
  ⟨Ax.LEARN_CFG_DRIFT_MAX_N, 1, 1, .rwc, 30, (.range (.lit 5) (.lit 100))⟩,
  ⟨Ax.LEARN_CFG_TEACH_N, 1, 1, .rwc, 8, (.range (.lit 1) (.lit 32))⟩,
  ⟨Ax.MASS_MIN_ACC, 1, 1, .rwc, 100, (.range (.lit 1) (.lit 16777215))⟩,
  ⟨Ax.MAP_BASE, 1, 1, .rwc, 0, (.range (.lit 0) (.lit 4095))⟩,
  ⟨Ax.THRESH_EFF, 1, 1, .ro, 150, .free⟩,
  ⟨Ax.MAP_FRIC_FRIC_POS, 128, 1, .rw, 0, .free⟩,
  ⟨Ax.MAP_FRIC_FRIC_NEG, 128, 1, .rw, 0, .free⟩,
  ⟨Ax.MAP_MASS_MASS, 128, 1, .rw, 0, .free⟩]

/-- The fields of the axis page that a write can change or that reset to other than 0 (R309, R310, R342, R343, R369, R394). -/
def axisFields : List RegField := axisFields1 ++ axisFields2 ++ axisFields3 ++ axisFields4

/-- The fields of the ration page that a write can change or that reset to other than 0 (R346). -/
def rationFields : List RegField := [
  ⟨Ra.CAP_W, 2, 1, .rwc, 4000, (.range (.lit 100) (.lit 4000))⟩,
  ⟨Ra.RESERVE_RESERVE_PCT, 2, 1, .rwc, 25, (.range (.lit 0) (.lit 50))⟩,
  ⟨Ra.CLASS_CFG_STRETCH, 2, 3, .rw, 1, .free⟩,
  ⟨Ra.CLASS_CFG_FLOOR_PCT, 2, 3, .rwc, 50, (.range (.lit 10) (.lit 100))⟩,
  ⟨Ra.CLASS_CFG_MAX_DELAY_MS, 2, 3, .rwc, 500, (.range (.lit 0) (.lit 10000))⟩,
  ⟨Ra.BRAKE_V_BR_OFF_V, 2, 1, .rwc, 154, (.range (.lit 28) (.fld Ra.BRAKE_V_BR_ON_V (-2)))⟩,
  ⟨Ra.BRAKE_V_BR_ON_V, 2, 1, .rwc, 158, (.range (.lit 30) (.lit 160))⟩,
  ⟨Ra.BRAKE_R_BR_W, 2, 1, .rwc, 200, (.range (.lit 50) (.lit 2000))⟩,
  ⟨Ra.BRAKE_R_BR_OHM, 2, 1, .rwc, 330, (.range (.lit 80) (.lit 2000))⟩,
  ⟨Ra.BR_J, 2, 1, .rwc, 2000, (.range (.lit 100) (.lit 20000))⟩]

/-- The fields of the beamGroup page that a write can change or that reset to other than 0 (R396). -/
def beamGroupFields : List RegField := [
  ⟨Bm.BEAM_CFG_ENA, 8, 1, .rw, 0, .free⟩,
  ⟨Bm.BEAM_CFG_CODE, 8, 1, .rwc, 0, (.range (.lit 0) (.lit 32))⟩,
  ⟨Bm.BEAM_CFG_LED_MA, 8, 1, .rwc, 50, (.range (.lit 10) (.lit 200))⟩,
  ⟨Bm.BEAM_CFG_K, 8, 1, .rwc, 3, (.range (.lit 1) (.fld Bm.BEAM_CFG_M 0))⟩,
  ⟨Bm.BEAM_CFG_M, 8, 1, .rwc, 4, (.range (.lit 1) (.lit 15))⟩,
  ⟨Bm.BEAM_BIND_ENA_B, 8, 1, .rw, 0, .free⟩,
  ⟨Bm.BEAM_BIND_ENA_A, 8, 1, .rw, 0, .free⟩,
  ⟨Bm.BEAM_BIND_AXIS_B, 8, 1, .rwc, 0, (.range (.lit 0) (.lit 31))⟩,
  ⟨Bm.BEAM_BIND_AXIS_A, 8, 1, .rwc, 0, (.range (.lit 0) (.lit 31))⟩,
  ⟨Bm.BEAM_RX_MATCH_THR, 8, 1, .rwc, 25, (.range (.lit 16) (.lit 31))⟩,
  ⟨Bm.BEAM_RX_AMB_STEP, 8, 1, .rwc, 20, (.range (.lit 1) (.lit 255))⟩,
  ⟨Bm.BEAM_RX_RX_THR_NA, 8, 1, .rwc, 200, (.range (.lit 50) (.lit 5000))⟩,
  ⟨Bm.BEAM_FLOOD_FB_ENA, 8, 1, .rw, 0, .free⟩,
  ⟨Bm.BEAM_FLOOD_FB_TIME, 8, 1, .rwc, 50, (.range (.lit 5) (.lit 300))⟩]

/-- The fields of the edgeGroup page that a write can change or that reset to other than 0 (R399). -/
def edgeGroupFields : List RegField := [
  ⟨Eg.EDGE_CFG_ENA, 16, 1, .rw, 0, .free⟩,
  ⟨Eg.EDGE_CFG_TYPE, 16, 1, .rwc, 1, (.range (.lit 1) (.lit 2))⟩,
  ⟨Eg.EDGE_CFG_FILT_US, 16, 1, .rwc, 500, (.dyn .step50)⟩,
  ⟨Eg.EDGE_TIMING_RELEASE_MS, 16, 1, .rwc, 100, (.range (.lit 10) (.lit 2000))⟩,
  ⟨Eg.EDGE_TIMING_PW_HOLD_MS, 16, 1, .rwc, 200, (.range (.lit 20) (.lit 1000))⟩,
  ⟨Eg.EDGE_BIND_ENA_B, 16, 1, .rw, 0, .free⟩,
  ⟨Eg.EDGE_BIND_ENA_A, 16, 1, .rw, 0, .free⟩,
  ⟨Eg.EDGE_BIND_AXIS_B, 16, 1, .rwc, 0, (.range (.lit 0) (.lit 31))⟩,
  ⟨Eg.EDGE_BIND_AXIS_A, 16, 1, .rwc, 0, (.range (.lit 0) (.lit 31))⟩]

/-- The fields of the bank page that a write can change or that reset to other than 0 (R419). -/
def bankFields : List RegField := [
  ⟨Bk.BANK_CFG_LEVEL, 1, 1, .rw, 0, .free⟩,
  ⟨Bk.BANK_CFG_CHAR, 1, 1, .rw, 1, .free⟩,
  ⟨Bk.LS_TIMEOUT, 1, 1, .rwc, 0x2710, (.range (.lit 250) (.lit 100000))⟩,
  ⟨Bk.OUT_PROT_RETRY_MS, 1, 1, .rwc, 0, (.dyn .retryMs)⟩,
  ⟨Bk.OUT_PROT_OVL_MS, 1, 1, .rwc, 10, (.range (.lit 1) (.lit 100))⟩,
  ⟨Bk.OUT_OPEN_OPEN_MA, 1, 1, .rwc, 0, (.range (.lit 0) (.lit 50))⟩,
  ⟨Bk.WB_MS, 1, 1, .rwc, 20, (.range (.lit 1) (.lit 1000))⟩,
  ⟨Bk.OUT_SET, 1, 1, .rw, 0, .free⟩,
  ⟨Bk.CH_CFG_INVERT, 16, 1, .rw, 0, .free⟩,
  ⟨Bk.CH_CFG_SAFE, 16, 1, .rwc, 0, (.range (.lit 0) (.lit 2))⟩,
  ⟨Bk.CH_CFG_MODE, 16, 1, .rwc, 0, (.range (.lit 0) (.lit 3))⟩,
  ⟨Bk.CH_FILT_OFF_US, 16, 1, .rwc, 3000, (.range (.lit 0) (.lit 65535))⟩,
  ⟨Bk.CH_FILT_ON_US, 16, 1, .rwc, 3000, (.range (.lit 0) (.lit 65535))⟩]

/-- The fields of the lsGroup page that a write can change or that reset to other than 0 (R441). -/
def lsGroupFields : List RegField := [
  ⟨Ls.CH_CFG_UNMAPPED_HOLD, 8, 1, .rw, 0, .free⟩,
  ⟨Ls.CH_CFG_INRUSH_N, 8, 1, .rwc, 8, (.range (.lit 0) (.lit 8))⟩,
  ⟨Ls.CH_CFG_RESTART, 8, 1, .rw, 0, .free⟩,
  ⟨Ls.CH_PWM_DUTY, 8, 1, .rwc, 500, (.range (.lit 0) (.lit 1000))⟩,
  ⟨Ls.CH_PWM_PERIOD, 8, 1, .rwc, 10, (.range (.lit 5) (.lit 100000))⟩,
  ⟨Ls.LS_CMD_0, 1, 1, .rwc, 0, (.range (.lit 0) (.lit 2))⟩,
  ⟨Ls.LS_CMD_1, 1, 1, .rwc, 0, (.range (.lit 0) (.lit 2))⟩,
  ⟨Ls.LS_CMD_2, 1, 1, .rwc, 0, (.range (.lit 0) (.lit 2))⟩,
  ⟨Ls.LS_CMD_3, 1, 1, .rwc, 0, (.range (.lit 0) (.lit 2))⟩,
  ⟨Ls.LS_CMD_4, 1, 1, .rwc, 0, (.range (.lit 0) (.lit 2))⟩,
  ⟨Ls.LS_CMD_5, 1, 1, .rwc, 0, (.range (.lit 0) (.lit 2))⟩,
  ⟨Ls.LS_CMD_6, 1, 1, .rwc, 0, (.range (.lit 0) (.lit 2))⟩,
  ⟨Ls.LS_CMD_7, 1, 1, .rwc, 0, (.range (.lit 0) (.lit 2))⟩]

/-- The fields of the kerb page that a write can change or that reset to other than 0 (R445). -/
def kerbFields : List RegField := [
  ⟨Kb.KERB_CFG_TIMEOUT_MS, 1, 1, .rwc, 100, (.range (.lit 20) (.lit 10000))⟩,
  ⟨Kb.KMAP_31_16, 8, 4, .rwc, 0, (.dyn .kmap)⟩,
  ⟨Kb.KMAP_15_0, 8, 4, .rwc, 0, (.dyn .kmap)⟩]

/-- The fields of the loopGroup page that a write can change or that reset to other than 0 (R459). -/
def loopGroupFields : List RegField := [
  ⟨Lp.LP_CFG_NE43, 8, 1, .rw, 1, .free⟩,
  ⟨Lp.LP_CFG_CHAR, 8, 1, .rwc, 0, (.range (.lit 0) (.lit 2))⟩,
  ⟨Lp.LP_CFG_SUPPLY, 8, 1, .rw, 1, .free⟩,
  ⟨Lp.LP_CFG_MODE, 8, 1, .rwc, 0, (.range (.lit 0) (.lit 3))⟩,
  ⟨Lp.LP_SUPPLY_BAND_MS, 8, 1, .rwc, 4, (.range (.lit 1) (.lit 1000))⟩,
  ⟨Lp.LP_SUPPLY_TX_V, 8, 1, .rwc, 120, (.range (.lit 80) (.lit 240))⟩,
  ⟨Lp.ENG_LO, 8, 1, .rwc, 0, (.srange (.lit (-2147483648)) (.lit 2147483647))⟩,
  ⟨Lp.ENG_HI, 8, 1, .rwc, 0x3E80, (.srange (.lit (-2147483648)) (.lit 2147483647))⟩,
  ⟨Lp.LP_FILT_CUTOFF, 8, 1, .rwc, 100, (.range (.lit 0) (.lit 1000))⟩,
  ⟨Lp.LP_FILT_FILT_MS, 8, 1, .rwc, 0, (.range (.lit 0) (.lit 10000))⟩,
  ⟨Lp.OUT_UA, 8, 1, .rwc, 0, (.range (.lit 0) (.lit 24000))⟩,
  ⟨Lp.TABLE, 8, 33, .rw, 0, .free⟩]

/-- Part 1 of the fields of the can page (R482). -/
def canFields1 : List RegField := [
  ⟨Cf.CAN_CFG_RX_CONSUMER, 1, 1, .rwc, 0, (.range (.lit 0) (.lit 4))⟩,
  ⟨Cf.CAN_CFG_TX_RETRY, 1, 1, .rwc, 0, (.range (.lit 0) (.lit 255))⟩,
  ⟨Cf.CAN_CFG_BUSOFF_FLUSH, 1, 1, .rw, 0, .free⟩,
  ⟨Cf.CAN_CFG_TERM, 1, 1, .rw, 0, .free⟩,
  ⟨Cf.CAN_CFG_AUTO_RECOVER, 1, 1, .rw, 1, .free⟩,
  ⟨Cf.CAN_CFG_TX_ENA, 1, 1, .rw, 1, .free⟩,
  ⟨Cf.CAN_CFG_BRS_ENA, 1, 1, .rw, 1, .free⟩,
  ⟨Cf.CAN_CFG_FD_ENA, 1, 1, .rw, 1, .free⟩,
  ⟨Cf.CAN_CFG_QMODE, 1, 1, .rw, 0, .free⟩,
  ⟨Cf.CAN_CFG_MODE, 1, 1, .rwc, 0, (.range (.lit 0) (.lit 3))⟩,
  ⟨Cf.NBT_NBRP, 1, 1, .rwc, 1, (.range (.lit 1) (.lit 32))⟩,
  ⟨Cf.NBT_NTSEG1, 1, 1, .rwc, 127, (.dyn .ntseg1)⟩,
  ⟨Cf.NBT_NSJW, 1, 1, .rwc, 32, (.dyn .nsjw)⟩,
  ⟨Cf.NBT_NTSEG2, 1, 1, .rwc, 32, (.dyn .ntseg2)⟩,
  ⟨Cf.DBT_DBRP, 1, 1, .rwc, 1, (.range (.lit 1) (.lit 32))⟩,
  ⟨Cf.DBT_DTSEG1, 1, 1, .rwc, 29, (.dyn .dtseg1)⟩,
  ⟨Cf.DBT_DTSEG2, 1, 1, .rwc, 10, (.dyn .dtseg2)⟩,
  ⟨Cf.DBT_DSJW, 1, 1, .rwc, 10, (.dyn .dsjw)⟩,
  ⟨Cf.TDC_CFG_ENA, 1, 1, .rw, 1, .free⟩,
  ⟨Cf.TDC_CFG_TDCO, 1, 1, .rwc, 30, (.range (.lit 0) (.lit 127))⟩,
  ⟨Cf.SYNC_CFG_ENA, 1, 1, .rw, 0, .free⟩,
  ⟨Cf.SYNC_CFG_EXT, 1, 1, .rw, 0, .free⟩,
  ⟨Cf.SYNC_CFG_SYNC_ID, 1, 1, .rwc, 128, (.dyn .syncId)⟩,
  ⟨Cf.SYNC_TIMING_OFFSET_US, 1, 1, .rwc, 100, (.range (.lit 0) (.lit 50000))⟩,
  ⟨Cf.SYNC_TIMING_COUNTER, 1, 1, .rw, 0, .free⟩,
  ⟨Cf.RC_CFG_ENA, 1, 1, .rw, 0, .free⟩,
  ⟨Cf.RC_CFG_REQ_BASE, 1, 1, .rwc, 1792, (.range (.lit 0) (.lit 2047))⟩,
  ⟨Cf.RC_CFG_RSP_BASE, 1, 1, .rwc, 1664, (.range (.lit 0) (.lit 2047))⟩,
  ⟨Cf.RC_RANGE_FIRST, 1, 1, .rwc, 1, (.range (.lit 1) (.lit 127))⟩,
  ⟨Cf.RC_RANGE_LAST, 1, 1, .rwc, 127, (.dyn .rcLast)⟩,
  ⟨Cf.RC_TIMING_PERIOD_MS, 1, 1, .rwc, 1000, (.range (.lit 100) (.lit 60000))⟩,
  ⟨Cf.RC_TIMING_TIMEOUT_MS, 1, 1, .rwc, 20, (.range (.lit 1) (.lit 255))⟩,
  ⟨Cf.RC_TIMING_MISS_N, 1, 1, .rwc, 3, (.range (.lit 1) (.lit 15))⟩,
  ⟨Cf.QUEUE_STATE_TX_FREE, 1, 1, .ro, 128, .free⟩,
  ⟨Cf.TX_GO, 1, 1, .rw, 0, .free⟩,
  ⟨Cf.TXC_ACK, 1, 1, .rw, 0, .free⟩,
  ⟨Cf.RX_ACK, 1, 1, .rw, 0, .free⟩,
  ⟨Cf.FLT_ID_ENA, 32, 1, .rw, 0, .free⟩,
  ⟨Cf.FLT_ID_EXT, 32, 1, .rw, 0, .free⟩,
  ⟨Cf.FLT_ID_OWN, 32, 1, .rw, 0, .free⟩]

/-- Part 2 of the fields of the can page (R482). -/
def canFields2 : List RegField := [
  ⟨Cf.FLT_ID_ID, 32, 1, .rw, 0, .free⟩,
  ⟨Cf.FLT_MASK_ACCEPT, 32, 1, .rw, 0, .free⟩,
  ⟨Cf.FLT_MASK_MASK, 32, 1, .rw, 0, .free⟩,
  ⟨Cf.TX_SLOT_ID, 8, 1, .rw, 0, .free⟩,
  ⟨Cf.TX_SLOT_BRS, 8, 1, .rw, 0, .free⟩,
  ⟨Cf.TX_SLOT_CYC, 8, 1, .rw, 0, .free⟩,
  ⟨Cf.TX_SLOT_LEN, 8, 1, .rw, 0, .free⟩,
  ⟨Cf.TX_SLOT_DATA, 8, 16, .rw, 0, .free⟩,
  ⟨Cf.TXS, 32, 4, .rw, 0, .free⟩,
  ⟨Cf.TXS_LATCH, 1, 1, .wo, 0, .free⟩,
  ⟨Cf.RXS_ACK, 1, 1, .wo, 0, .free⟩,
  ⟨Cf.RC_AGE_MS, 128, 1, .ro, 0xFFFFFFFF, .free⟩]

/-- The fields of the can page that a write can change or that reset to other than 0 (R482). -/
def canFields : List RegField := canFields1 ++ canFields2

/-- The fields of the safety page that a write can change or that reset to other than 0 (R514). -/
def safetyFields : List RegField := [
  ⟨Sf.SAFE_CFG_MAINT_LIMIT_MIN, 1, 1, .rwc, 60, (.range (.lit 0) (.lit 1440))⟩,
  ⟨Sf.SAFE_CFG_AUTO_RESUME, 1, 1, .rw, 0, .free⟩,
  ⟨Sf.MAINT_KEY_ENA, 1, 1, .rw, 0, .free⟩,
  ⟨Sf.MAINT_KEY_CHANNEL, 1, 1, .rwc, 0, (.range (.lit 0) (.lit 255))⟩,
  ⟨Sf.RT_OUT_US, 1, 1, .ro, 0x2742, .free⟩,
  ⟨Sf.SF_PST_MS, 32, 1, .rwc, 0, (.range (.lit 0) (.lit 65535))⟩]

/-- The fields of the conns page that a write can change or that reset to other than 0 (R518). -/
def connsFields : List RegField := [
  ⟨Sc.CONN_SEL, 1, 1, .rw, 0, .free⟩,
  ⟨Sc.TSF_PORT, 1, 1, .rwc, 0xB7FE, (.range (.lit 1024) (.lit 65535))⟩,
  ⟨Sc.CONN_CFG_ENA, 1, 1, .rw, 0, .free⟩,
  ⟨Sc.CONN_CFG_AUTO_ACK, 1, 1, .rw, 0, .free⟩,
  ⟨Sc.CONN_CFG_PORT, 1, 1, .rwc, 0, (.range (.lit 0) (.lit 3))⟩,
  ⟨Sc.CONN_CFG_SEQ_WINDOW, 1, 1, .rwc, 4, (.range (.lit 1) (.lit 31))⟩,
  ⟨Sc.CONN_CFG_RX_LEN, 1, 1, .rwc, 0, (.range (.lit 0) (.lit 44))⟩,
  ⟨Sc.CONN_CFG_TX_LEN, 1, 1, .rwc, 0, (.range (.lit 0) (.lit 44))⟩,
  ⟨Sc.CONN_ID, 1, 1, .rw, 0, .free⟩,
  ⟨Sc.PEER_REF_LO, 1, 1, .rw, 0, .free⟩,
  ⟨Sc.PEER_REF_HI, 1, 1, .rw, 0, .free⟩,
  ⟨Sc.CONN_TIMING_SEND_DIV, 1, 1, .rwc, 1, (.range (.lit 1) (.lit 1000))⟩,
  ⟨Sc.CONN_TIMING_WDT_MS, 1, 1, .rwc, 100, (.range (.lit 1) (.lit 65535))⟩,
  ⟨Sc.PEER_IP, 1, 1, .rw, 0, .free⟩,
  ⟨Sc.PEER_UDP, 1, 1, .rwc, 0xB7FE, (.range (.lit 1024) (.lit 65535))⟩]

/-- The fields of the safeOut page that a write can change or that reset to other than 0 (R521). -/
def safeOutFields : List RegField := [
  ⟨So.SO_DEMAND, 1, 1, .rw, 0, .free⟩,
  ⟨So.DISC_MS, 1, 1, .rwc, 5, (.range (.lit 1) (.lit 100))⟩,
  ⟨So.SO_CFG_MAINT_ENA, 8, 1, .rw, 0, .free⟩,
  ⟨So.SO_CFG_ROLE, 8, 1, .rwc, 0, (.range (.lit 0) (.lit 1))⟩,
  ⟨So.SO_CFG_EDM_ENA, 8, 1, .rw, 0, .free⟩,
  ⟨So.SO_EDM_EDM_MS, 8, 1, .rwc, 200, (.range (.lit 50) (.lit 500))⟩,
  ⟨So.LOOP_AXES, 8, 1, .rw, 0, .free⟩]

/-- The fields of the memory page that a write can change or that reset to other than 0 (R540). -/
def memoryFields : List RegField := [
  ⟨Mm.MEM_INFO_SRAM_KB, 1, 1, .ro, 0x4000, .free⟩,
  ⟨Mm.MEM_INFO_MRAM_KB, 1, 1, .ro, 0x2000, .free⟩,
  ⟨Mm.SEG_USE, 1, 1, .ro, 0xF000, .free⟩,
  ⟨Mm.RET_CFG_ENA, 1, 1, .rw, 1, .free⟩,
  ⟨Mm.RET_CFG_RET_IDLE_MS, 1, 1, .rwc, 100, (.range (.lit 1) (.lit 10000))⟩,
  ⟨Mm.BT_CFG_ENA, 1, 1, .rw, 1, .free⟩,
  ⟨Mm.BT_CFG_INTERVAL_US, 1, 1, .rwc, 100, (.range (.lit 100) (.lit 10000))⟩]

/-- The fields of the secure page that a write can change or that reset to other than 0 (R544). -/
def secureFields : List RegField := [
  ⟨Sr.SEC_STATUS_B, 1, 1, .ro, 3, .free⟩,
  ⟨Sr.SEC_STATUS_A, 1, 1, .ro, 3, .free⟩]

/-- The fields of the vat page that a write can change or that reset to other than 0 (R569). -/
def vatFields : List RegField := [
  ⟨Vt.VAT_CFG_CAPTURE_ENA, 1, 1, .rw, 1, .free⟩,
  ⟨Vt.VAT_CFG_DECIM_PCT, 1, 1, .rwc, 50, (.range (.lit 10) (.lit 90))⟩,
  ⟨Vt.VAT_CFG_DROP_PCT, 1, 1, .rwc, 90, (.range (.fld Vt.VAT_CFG_DECIM_PCT 5) (.lit 99))⟩,
  ⟨Vt.VAT_CFG_WEAR_WARN_PCT, 1, 1, .rwc, 80, (.range (.lit 50) (.lit 95))⟩,
  ⟨Vt.CAP_TIME_POST_MS, 1, 1, .rwc, 200, (.range (.lit 0) (.lit 2000))⟩,
  ⟨Vt.CAP_TIME_PRE_MS, 1, 1, .rwc, 100, (.range (.lit 0) (.lit 500))⟩,
  ⟨Vt.DIES_DIES, 1, 1, .ro, 128, .free⟩,
  ⟨Vt.CAP_AXIS_AUTO, 32, 1, .rw, 0, .free⟩,
  ⟨Vt.CAP_AXIS_AUX1_KIND, 32, 1, .rwc, 0, (.range (.lit 0) (.lit 2))⟩,
  ⟨Vt.CAP_AXIS_AUX0_KIND, 32, 1, .rwc, 0, (.range (.lit 0) (.lit 2))⟩,
  ⟨Vt.CAP_AXIS_AUX1_INDEX, 32, 1, .rwc, 0, (.dyn .aux1Index)⟩,
  ⟨Vt.CAP_AXIS_AUX0_INDEX, 32, 1, .rwc, 0, (.dyn .aux0Index)⟩]

/-- The fields of the dump page that a write can change or that reset to other than 0 (R572). -/
def dumpFields : List RegField := [
  ⟨Dp.DUMP_CFG_DUMP_LIMIT_MS, 1, 1, .rwc, 200, (.range (.lit 50) (.lit 1000))⟩]

/-- The fields of the mgmt page that a write can change or that reset to other than 0 (R595). -/
def mgmtFields : List RegField := [
  ⟨Mg.SAT_CFG_SAT_PCT, 1, 1, .rwc, 90, (.range (.lit 60) (.lit 98))⟩,
  ⟨Mg.TELEM_CFG_TELEM_S, 1, 1, .rwc, 60, (.range (.lit 1) (.lit 3600))⟩,
  ⟨Mg.MLOG_POS, 1, 1, .rw, 0, .free⟩]

/-- The fields of the sensors page that a write can change or that reset to other than 0 (R597). -/
def sensorsFields : List RegField := [
  ⟨Sn.SAMPLE_CFG_SAMPLE_MS, 1, 1, .rwc, 100, (.range (.lit 10) (.lit 10000))⟩,
  ⟨Sn.S_SEEN_MAX, 64, 1, .ro, 0x8000, .free⟩,
  ⟨Sn.S_SEEN_MIN, 64, 1, .ro, 0x7FFF, .free⟩,
  ⟨Sn.S_LIMITS_HI, 64, 1, .rwc, 0x7FFF, (.srange (.fld Sn.S_LIMITS_LO 0) (.lit 32767))⟩,
  ⟨Sn.S_LIMITS_LO, 64, 1, .rwc, 0x8000, (.srange (.lit (-32768)) (.lit 32767))⟩]

/-- The fields of the ripening page that a write can change or that reset to other than 0 (R599). -/
def ripeningFields : List RegField := [
  ⟨Rp.RIP_CFG_ENA, 1, 1, .rw, 1, .free⟩,
  ⟨Rp.RIP_CFG_PERIOD_H, 1, 1, .rwc, 24, (.range (.lit 1) (.lit 168))⟩,
  ⟨Rp.RIP_OUTLOOK_DAYS_LEFT, 110, 1, .ro, 0xFFFF, .free⟩,
  ⟨Rp.RIP_BOUND_AUTO, 110, 1, .rwc, 0, (.dyn .ripAuto)⟩,
  ⟨Rp.RIP_BOUND_ALARM_PCT, 110, 1, .rwc, 20, (.range (.lit 0) (.lit 100))⟩,
  ⟨Rp.RIP_BOUND_BOUND, 110, 1, .rwc, 0, (.dyn .ripBound)⟩]

/-- The fields of the update page that a write can change or that reset to other than 0 (R601). -/
def updateFields : List RegField := [
  ⟨Up.CHUNK_CRC, 1, 1, .rw, 0, .free⟩,
  ⟨Up.CONFIRM_CFG_CONFIRM_S, 1, 1, .rwc, 60, (.range (.lit 10) (.lit 3600))⟩,
  ⟨Up.UPD_WIN, 512, 1, .rw, 0, .free⟩]

/-- The fields of the lifeCycle page that a write can change or that reset to other than 0 (R620). -/
def lifeCycleFields : List RegField := [
  ⟨Lc.RIND_CFG_SEAL_WAIT_S, 1, 1, .rwc, 600, (.range (.lit 60) (.lit 3600))⟩,
  ⟨Lc.RIND_CFG_COLD_ENA, 1, 1, .rw, 1, .free⟩,
  ⟨Lc.WIN_CTRL_LEN, 1, 1, .rwc, 0, (.range (.lit 0) (.lit 3072))⟩,
  ⟨Lc.WIN_CTRL_KIND, 1, 1, .rwc, 0, (.range (.lit 0) (.lit 5))⟩,
  ⟨Lc.LC_WIN, 768, 1, .rw, 0, .free⟩]

/-- The table of a page kind, the header apart. -/
def PageKind.fields : PageKind → List RegField
  | .device => deviceFields | .lane => laneFields | .crossing => crossingFields | .power => powerFields
  | .hostPorts => hostPortsFields | .hostRights => hostRightsFields | .cle => cleFields
  | .onlineChange => onlineChangeFields | .debug => debugFields | .avenue => avenueFields
  | .corner => cornerFields | .ration => rationFields | .axis => axisFields | .bank => bankFields
  | .lsGroup => lsGroupFields | .kerb => kerbFields | .loopGroup => loopGroupFields
  | .beamGroup => beamGroupFields | .edgeGroup => edgeGroupFields | .can => canFields | .safety => safetyFields
  | .conns => connsFields | .safeOut => safeOutFields | .memory => memoryFields | .secure => secureFields
  | .vat => vatFields | .mgmt => mgmtFields | .sensors => sensorsFields | .ripening => ripeningFields
  | .update => updateFields | .lifeCycle => lifeCycleFields | .fabric => fabricFields | .dump => dumpFields
  | .unused => []

/-- The page kind of a page number (R40, R41). -/
def pageKind (p : Nat) : PageKind :=
  if p = 0x00 then .device else if p = 0x01 ∨ p = 0x02 then .lane else if p = 0x03 then .crossing
  else if p = 0x04 then .power else if p = 0x05 then .hostPorts else if p = 0x06 then .hostRights
  else if p = 0x08 ∨ p = 0x09 then .cle else if p = 0x0A then .onlineChange else if p = 0x0B then .debug
  else if p = 0x0C then .avenue else if p = 0x0D then .corner else if p = 0x0E then .ration
  else if 0x10 ≤ p ∧ p ≤ 0x2F then .axis else if 0x30 ≤ p ∧ p ≤ 0x3F then .bank
  else if 0x40 ≤ p ∧ p ≤ 0x47 then .lsGroup else if p = 0x48 then .kerb
  else if 0x4C ≤ p ∧ p ≤ 0x4F then .loopGroup else if 0x50 ≤ p ∧ p ≤ 0x53 then .beamGroup
  else if p = 0x54 ∨ p = 0x55 then .edgeGroup else if 0x58 ≤ p ∧ p ≤ 0x5F then .can
  else if p = 0x60 then .safety else if p = 0x61 then .conns else if p = 0x62 then .safeOut
  else if p = 0x64 ∨ p = 0x65 then .memory else if p = 0x66 then .secure
  else if p = 0x68 ∨ p = 0x69 then .vat else if p = 0x70 then .mgmt else if p = 0x71 then .sensors
  else if p = 0x72 then .ripening else if p = 0x73 then .update else if p = 0x74 then .lifeCycle
  else if p = 0x7E then .fabric else if p = 0x7F then .dump else .unused

/-- The first page of a page's kind (R40), from which PAGE_ID.INSTANCE counts. -/
def PageKind.first : PageKind → Nat
  | .device => 0x00 | .lane => 0x01 | .crossing => 0x03 | .power => 0x04 | .hostPorts => 0x05
  | .hostRights => 0x06 | .cle => 0x08 | .onlineChange => 0x0A | .debug => 0x0B | .avenue => 0x0C
  | .corner => 0x0D | .ration => 0x0E | .axis => 0x10 | .bank => 0x30 | .lsGroup => 0x40 | .kerb => 0x48
  | .loopGroup => 0x4C | .beamGroup => 0x50 | .edgeGroup => 0x54 | .can => 0x58 | .safety => 0x60
  | .conns => 0x61 | .safeOut => 0x62 | .memory => 0x64 | .secure => 0x66 | .vat => 0x68 | .mgmt => 0x70
  | .sensors => 0x71 | .ripening => 0x72 | .update => 0x73 | .lifeCycle => 0x74 | .fabric => 0x7E
  | .dump => 0x7F | .unused => 0x80

/-- Whether pages of the kind belong to an owned resource (R33, R40). -/
def PageKind.owned : PageKind → Bool
  | .axis | .bank | .lsGroup | .loopGroup | .beamGroup | .edgeGroup | .can => true
  | _ => false

end Sys2Proof.Machine
end

