-- ==== Sys2Proof/Machine/Sparse.lean ====
section
/-! DEFINITION. Sparse tables: finite data by a numeric key, in one canonical form (keys strictly rising, no
entry equal to what an unlisted key reads as), so that equal tables are equal data. Registers, memories and the
per-channel records of the stages are held this way; what an unlisted key reads as is given by the reader. -/

namespace Sys2Proof.Machine

/-- The value at key `k`; an unlisted key reads as `d k`. -/
def Sparse.get {α : Type} (d : Nat → α) : List (Nat × α) → Nat → α
  | [], k => d k
  | (k', v) :: r, k => if k = k' then v else Sparse.get d r k

/-- The table without key `k`. -/
def Sparse.erase {α : Type} : List (Nat × α) → Nat → List (Nat × α)
  | [], _ => []
  | (k', v) :: r, k => if k = k' then Sparse.erase r k else (k', v) :: Sparse.erase r k

/-- The table with key `k` listed as `v`, in rising order of keys. -/
def Sparse.insert {α : Type} : List (Nat × α) → Nat → α → List (Nat × α)
  | [], k, v => [(k, v)]
  | (k', v') :: r, k, v =>
    if k < k' then (k, v) :: (k', v') :: r
    else if k = k' then (k, v) :: r
    else (k', v') :: Sparse.insert r k v

/-- The table after key `k` is given the value `v`: a value equal to the unlisted one is not listed. -/
def Sparse.set {α : Type} [DecidableEq α] (d : Nat → α) (m : List (Nat × α)) (k : Nat) (v : α) : List (Nat × α) :=
  if v = d k then Sparse.erase m k else Sparse.insert m k v

/-- The keys of a table rise strictly from a lower bound. -/
def Sparse.rising {α : Type} : Nat → List (Nat × α) → Bool
  | _, [] => true
  | lo, (k, _) :: r => decide (lo ≤ k) && Sparse.rising (k + 1) r

/-- No entry of the table equals what an unlisted key reads as. -/
def Sparse.tight {α : Type} [DecidableEq α] (d : Nat → α) : List (Nat × α) → Bool
  | [] => true
  | (k, v) :: r => decide (v ≠ d k) && Sparse.tight d r

/-- The canonical form of a sparse table. -/
def Sparse.wf {α : Type} [DecidableEq α] (d : Nat → α) (m : List (Nat × α)) : Bool :=
  Sparse.rising 0 m && Sparse.tight d m

/-- The table with every key that fails `keep` dropped back to its unlisted value. -/
def Sparse.restrict {α : Type} (keep : Nat → Bool) : List (Nat × α) → List (Nat × α)
  | [] => []
  | (k, v) :: r => if keep k then (k, v) :: Sparse.restrict keep r else Sparse.restrict keep r

end Sys2Proof.Machine
end

