-- ==== Sys2Proof/Machine/StateBase.lean ====
section
/-! DEFINITION. The building blocks of State: tables, pairs per lane, event records, what the block sends out,
open commands, the event fabric and the ownership record of a resource. -/

namespace Sys2Proof.Machine

/-- Entry `k` of a table whose unlisted entries are `d`. -/
def Tab.rd {α : Type} (m : Tab α) (d : α) (k : Nat) : α := Sparse.get (fun _ => d) m k

/-- The table with entry `k` set, kept canonical. -/
def Tab.wr {α : Type} [DecidableEq α] (m : Tab α) (d : α) (k : Nat) (v : α) : Tab α :=
  Sparse.set (fun _ => d) m k v

/-- One value for each lane. -/
structure PerLane (α : Type) where
  a : α
  b : α
  deriving DecidableEq, Repr

/-- The value of a lane. -/
def PerLane.of {α : Type} (p : PerLane α) : Lane → α
  | .a => p.a
  | .b => p.b

/-- The pair with one lane's value replaced. -/
def PerLane.set {α : Type} (p : PerLane α) (l : Lane) (v : α) : PerLane α :=
  match l with
  | .a => { p with a := v }
  | .b => { p with b := v }

/-- An event record (R66, R141): `seq` is given at queueing, per destination; `gap` marks a GAP record. -/
structure EvtRec where
  time : Nat
  id : Nat
  gen : Nat
  arg : Nat
  test : Bool
  unsynced : Bool
  clockUnset : Bool
  gap : Bool := false
  seq : Nat := 0
  deriving DecidableEq, Repr

/-- A record in the intake of the fabric, with the destinations it was routed to (R74). -/
structure IntakeRec where
  record : EvtRec
  dests : List Nat
  deriving DecidableEq, Repr

/-- A record queued for a destination, with the instant it was last sent (R141). -/
structure QueuedRec where
  record : EvtRec
  sentAt : Nat
  deriving DecidableEq, Repr

/-- The queue of one destination of the fabric (R74, R141): the records in order, the next sequence number, the
records dropped since the last GAP record, and whether the stream runs. -/
structure DestQ where
  recs : List QueuedRec := []
  seq : Nat := 0
  gap : Nat := 0
  deriving DecidableEq, Repr

/-- What kind of thing the block sends. -/
inductive OutKind where
  /-- The reply to a write that is no CMD write (R55, R58): code, page, offset, result, state, generation. -/
  | writeReply
  /-- The result of a CMD write carried back with its reply (R48): code, page, CMD_RESULT, generation. -/
  | cmdReply
  /-- A COMPLETION message (R140): the header of R135, then page, generation, CMD_RESULT, REQ_NO. -/
  | completion
  /-- An EVENTS message (R141): the header of R135, the number of its records, and six words for each. -/
  | events
  /-- A Hanuca reply (R135, R137): the header, then page, count, offset, generation, result, state and the words. -/
  | reply
  /-- SESSION_END to a host (R145): the header of R135, reason. -/
  | sessionEnd
  /-- An announcement (R130): the fields of its layout in order. -/
  | announce
  /-- The reply to LOG_OPEN or LOG_READ (R143). -/
  | logReply
  /-- A message of DTLS (R131): port, and 0 a cookie request, 1 the start of a handshake, 2 its refusal, 3 a key update. -/
  | handshake
  /-- A copy of a Crossing frame (R77, R78): lane, link, its state in that lane, type, sequence number, generation, then its words. -/
  | frame
  /-- A record handed to the Vat of a lane, in the order of R549's partitions: lane, kind, then its words. -/
  | vatRecord
  /-- A frame given to a CAN bus (chapter 17). -/
  | canFrame
  /-- A Tarfevik frame handed to the host-port controller (R504). -/
  | safeFrame
  /-- A management log entry (R597). -/
  | mlog
  /-- A drive, output or switch actuation that leaves the block. -/
  | pin
  deriving DecidableEq, Repr

/-- How a datagram leaves a host port (R126, R127, R130): the port, the VLAN of its tag, 0 where it is untagged, the priority of
the tag, the address and the UDP port it goes to, and the time-to-live, 0 where no rule gives one. -/
structure Wire where
  port : Nat
  vlan : Nat
  pcp : Nat
  ip : Nat
  udp : Nat
  ttl : Nat
  deriving DecidableEq, Repr

/-- One thing the block sends: what, its numbers in the order the kind gives, and, of a datagram, how it leaves. -/
structure OutMsg where
  kind : OutKind
  words : List Nat
  wire : Option Wire := none
  deriving DecidableEq, Repr

/-- The event fabric (R74-R76): the intake, the seven destination queues, the records produced since reset, in
the second that runs and in the one before it. -/
structure Fabric where
  intake : List IntakeRec := []
  dests : Tab DestQ := []
  total : Nat := 0
  second : Nat := 0
  inSecond : Nat := 0
  prevSecond : Nat := 0
  deriving DecidableEq, Repr

/-- A command answered ACCEPTED or DELAYED and not yet completed (R52): who issued it, under which generation and
tag, with which arguments, when, and, for a host whose session still runs, the REQ_NO of its COMMAND (R140). -/
structure OpenCmd where
  code : Nat
  gen : Nat
  page : Nat
  chan : Nat
  tag : Nat
  opc : Nat
  arg0 : Nat
  arg1 : Nat
  since : Nat
  reqNo : Option Nat := none
  deriving DecidableEq, Repr

/-- Events routed to the CLE of a lane and not yet posted at a boundary (R67). -/
structure ClePost where
  task : Nat
  id : Nat
  count : Nat
  deriving DecidableEq, Repr

/-- What a lane's heartbeat looks like at one resource (R86): whether it is present, since when it has been
present or absent without a break, the last advanced count, its instant and the lane state it carried. -/
structure Beat where
  present : Bool := false
  since : Nat := 0
  count : Option Nat := none
  last : Nat := 0
  state : Nat := 0
  deriving DecidableEq, Repr

/-- An ownership request waiting for its arbitration window (R90): who, which opcode, its argument, when,
and whether lane firmware issued it (R91, R92). -/
structure ArbReq where
  req : Req
  opc : Nat
  arg0 : Nat
  since : Nat
  firmware : Bool
  deriving DecidableEq, Repr

/-- A request of a lane to a resource page that waits for the result of an ownership request of the same lane (R48, R54). -/
inductive LaneReq where
  | own (r : ArbReq)
  | cmd (q : Req) (opc : Nat)
  | write (w : WriteReq)
  deriving DecidableEq, Repr

/-- The requester of a request that waits. -/
def LaneReq.code : LaneReq → Nat
  | .own r => r.req.code
  | .cmd q _ => q.code
  | .write w => w.code

/-- The ownership record of a resource beside its OWN_STATE register (R34, R86-R90): whether the owner's first
heartbeat has come, the two heartbeats, when the open offer and request began and how long the offer is valid,
the requests in the arbitration window, at most one of each lane, those that wait behind them, and the instants before
which the firmware of lane A and of lane B issues no further request after a collision (R91). -/
structure ResRec where
  accepted : Bool := false
  beatA : Beat := {}
  beatB : Beat := {}
  offerAt : Nat := 0
  offerMs : Nat := 0
  requestAt : Nat := 0
  arb : List ArbReq := []
  held : List LaneReq := []
  nextA : Nat := 0
  nextB : Nat := 0
  deriving DecidableEq, Repr

end Sys2Proof.Machine
end

