-- ==== Sys2Proof/Machine/StateAxis.lean ====
section
/-! DEFINITION. The state of the axis stages (chapters 10 to 13), the motor buses, the edges and the beams that no
register holds. Positions inside the motion engine are in 2^-20 of an axis position unit (log entry 11). -/

namespace Sys2Proof.Machine

/-- A setpoint: position, velocity per second and acceleration per second squared (R283). -/
structure Kin where
  p : Int := 0
  v : Int := 0
  a : Int := 0
  deriving DecidableEq, Repr

/-- A part of a profile: how long it lasts in ns, its acceleration at its start and its jerk. -/
structure Seg where
  dur : Nat
  acc : Int
  jerk : Int
  deriving DecidableEq, Repr

/-- A motion (R283-R287, R301, R382): the opcode that began it (0 a reversal), the requester and the tag of its
command while that is open, its set and class, its target in units, its speed for MOVE_VEL, the stretch the
ration applied in per cent, whether a stop alone is left of a reversal, the virtual limit that a write has put in front of
its target (R292), the instant of the start line that is its time origin (R297), and whether it has begun. -/
structure Motion where
  opc : Nat
  code : Option Nat
  tag : Nat := 0
  set : Nat := 0
  cls : Nat := 0
  target : Int := 0
  speed : Int := 0
  stretch : Nat := 0
  atLimit : Bool := false
  limit : Option Int := none
  origin : Option Nat := none
  begun : Bool := false
  deriving DecidableEq, Repr

/-- A switch input of a feedback port (R295): its raw level, since when, whether it is qualified active, and the
capture of the earliest raw transition into active since it was last qualified inactive. -/
structure Switch where
  raw : Bool := false
  since : Nat := 0
  active : Bool := false
  first : Option Int := none
  deriving DecidableEq, Repr

/-- A homing in progress (R301-R308): its start and starting position, the direction of its search, whether it was
reversed at a limit, C, the end of the chatter window, the edges counted, whether the window is over, whether the
reference has been set, and since when the hard stop has been held. -/
structure HomeRec where
  startAt : Nat := 0
  startPos : Int := 0
  dir : Int := 1
  turned : Bool := false
  cap : Option Int := none
  chatterEnd : Option Nat := none
  edges : Nat := 0
  referenced : Bool := false
  dwellAt : Option Nat := none
  deriving DecidableEq, Repr

/-- A bin of the force map (R375). -/
structure Bin where
  fricNeg : Int := 0
  fricPos : Int := 0
  baseNeg : Int := 0
  basePos : Int := 0
  mass : Nat := 0
  samples : Nat := 0
  learned : Bool := false
  frozenNeg : Bool := false
  frozenPos : Bool := false
  deriving DecidableEq, Repr

/-- What a pass collected in one bin and direction (R377): samples below MASS_MIN_ACC with the sums of s × F_est
and of s × a_set, and above it the sums of F_est × a_set, s × a_set and a_set squared. -/
structure PassBin where
  n : Nat := 0
  f : Int := 0
  sa : Int := 0
  fa : Int := 0
  sa2 : Int := 0
  aa : Int := 0
  deriving DecidableEq, Repr

/-- What a reversal uses (R382, R394): REV_MODE, REV_DIST, REV_TARGET, REV_V, REV_ACC and REV_DEC as they stood at its
decision. -/
structure RevSet where
  mode : Nat := 2
  dist : Nat := 100000
  target : Int := 0
  v : Nat := 200000
  acc : Nat := 1000
  dec : Nat := 3000
  deriving DecidableEq, Repr

/-- The force section beside its registers (R375-R383): the map, the pass, the sign of the last velocity, the
consecutive ticks at or above the threshold, an injected decision, the CLEAR lines that have fallen and are
not yet decided (source, channel), and the settings of the present reversal. -/
structure ForceRec where
  map : Tab Bin := []
  pass : Tab PassBin := []
  clean : Bool := false
  tripped : Bool := false
  sign : Int := 1
  ticks : Nat := 0
  inject : Bool := false
  fell : List (Nat × Nat) := []
  rev : RevSet := {}
  deriving DecidableEq, Repr

/-- The feedback port beside its registers (chapter 12): COUNT, FB_SHIFT and COMM_BASE, the accepted levels of A and B, the
last raw value of a serial sensor, the last two counted edges, the edges in the present velocity-loop period, the
instant of the last counted edge, P64 at the last velocity-loop tick, the runs of good and bad frames, the instants
of illegal transitions within 10 ms, the instant the state began, when the fault condition was last seen, when
the last good frame ended, the filtered speed, and the sensor supply as it is switched: 0 off, 1 5 V, 2 12 V (R350). -/
structure FbRec where
  count : Int := 0
  shift : Int := 0
  base : Int := 0
  a : Bool := false
  b : Bool := false
  hall : Nat := 0
  raw : Option Nat := none
  edge1 : Option (Nat × Int) := none
  edge2 : Option (Nat × Int) := none
  edges : Nat := 0
  moved : Nat := 0
  lastP : Int := 0
  bad : Nat := 0
  good : Nat := 0
  quad : List Nat := []
  since : Nat := 0
  seen : Nat := 0
  hallErr : Nat := 0
  goodAt : Nat := 0
  framing : Option Nat := none
  filt : Int := 0
  supply : Nat := 0
  emuPos : Int := 0
  lastTick : Nat := 0
  deriving DecidableEq, Repr

/-- A curd record (R551), as its stage gathers it; the origin's own fields are given by the Vat. -/
structure Curd where
  kind : Nat := 0
  axis : Nat := 0
  set : Nat := 0
  cls : Nat := 0
  tag : Nat := 0
  tStart : Nat := 0
  tEnd : Nat := 0
  since : Nat := 0
  cycle : Nat := 0
  reason : Nat := 0
  homeResult : Nat := 0
  flags : Nat := 0
  posStart : Int := 0
  posEnd : Int := 0
  target : Int := 0
  ration : Nat := 0
  delayMs : Nat := 0
  grantedW : Nat := 0
  peakSpeed : Nat := 0
  peakIq : Nat := 0
  peakPhase : Nat := 0
  peakExcess : Int := 0
  obstacle : Nat := 0
  obsPos : Int := 0
  flySpeed : Int := 0
  drawn : Int := 0
  returned : Int := 0
  homeEdges : Nat := 0
  corners : Nat := 0
  driveState : Nat := 0
  driveCause : Nat := 0
  tempMax : Int := 0
  captureSeq : Option Nat := none
  captureLane : Nat := 0
  samples : List (Int × Int × Int × Int × Int) := []
  owner : Nat := 0
  deriving DecidableEq, Repr

/-- One axis stage beside its page; `corners` are the corner actions of the present instant, by instant, action and
argument (R267); `low` are the low-side switches that removed torque keeps closed, bit 0 U to bit 2 W (R329). -/
structure AxisRec where
  mot : Option Motion := none
  next : Option Motion := none
  prior : Nat := 1
  kin : Kin := {}
  start : Kin := {}
  segs : List Seg := []
  elapsed : Nat := 0
  lastTick : Nat := 0
  planV : Nat := 0
  goal : Option Int := none
  endV : Int := 0
  held : Bool := false
  relimit : Bool := false
  stopReason : Nat := 2
  homeResult : Nat := 0
  stopCmds : List Nat := []
  measureAt : Nat := 0
  pushAt : Nat := 0
  pushDir : Int := 1
  pushForce : Nat := 0
  genW : Nat := 0
  resW : Nat := 0
  inpos : Option Nat := none
  noMotion : Bool := false
  switches : Tab Switch := []
  home : HomeRec := {}
  force : ForceRec := {}
  fb : FbRec := {}
  integral : Int := 0
  demand : Int := 0
  thermal : Int := 0
  motorHeat : Int := 0
  curTick : Nat := 0
  feSince : Option Nat := none
  testAt : Nat := 0
  idArg : Nat := 0
  idStart : Int := 0
  curd : Option Curd := none
  curds : List Curd := []
  ring : List (List Int) := []
  ringAt : Nat := 0
  corners : List (Nat × Nat × Nat) := []
  low : Nat := 0
  deriving DecidableEq, Repr

/-- A request that waits for power (R336-R338): the axes it moves, its class and charge, when it began to wait, and
its start group if it is one. -/
structure WaitReq where
  pages : List Nat
  cls : Nat
  charge : Nat
  since : Nat
  group : Option Nat
  deriving DecidableEq, Repr

/-- A motor bus beside its channel of page 0x0E: the waiting requests, the group starts presented and not yet
decided, the energy in the brake resistor in µJ and when it was last brought up to date, the time the chopper was
on in the present second, since when the input power has been above CAP_W, the bus voltage in mV, since when it
pre-charges, and whether an overcurrent has locked the chopper (R630). -/
structure BusRec where
  waiting : List WaitReq := []
  asked : List (Nat × List Nat) := []
  heat : Nat := 0
  heatAt : Nat := 0
  overSince : Option Nat := none
  mv : Nat := 0
  presentAt : Option Nat := none
  onNs : Nat := 0
  second : Nat := 0
  hardLock : Bool := false
  deriving DecidableEq, Repr

/-- An edge input beside its registers (R385, R386): the band of its last measurement (0 ACTIVE, 1 IDLE, 2 HIGH,
3 OPEN), since when that band has been seen, since when HIGH or OPEN has, the last ACTIVE-band sample, and the
entry to ACTIVE. -/
structure EdgeRec where
  band : Nat := 1
  since : Nat := 0
  badSince : Option Nat := none
  lastActive : Nat := 0
  activeAt : Nat := 0
  deriving DecidableEq, Repr

/-- A beam beside its registers (R388-R393, R397): the frame outcomes since it started (newest first, at most 16; 0
MISS, 1 MATCH, 2 INDETERMINATE), consecutive frames with the LED out of tolerance and, in FAULT, without, since
when it is FLOODED, and the dark tests that run: the frames left, whether one matched and who asked. -/
structure BeamRec where
  hist : List Nat := []
  ledBad : Nat := 0
  ledGood : Nat := 0
  floodAt : Nat := 0
  dark : List (Nat × Bool × Nat) := []
  deriving DecidableEq, Repr

/-- An avenue beside its registers (chapter 09): the value of the last sample, the corners whose arms the next sample
sets, whether the source was re-referenced, the first and last firing since the latch, the instant of the last
restart and the last write of AV_IN. -/
structure AvRec where
  value : Int := 0
  fresh : List Nat := []
  reref : Bool := false
  firstAt : Option Nat := none
  lastAt : Option Nat := none
  startAt : Nat := 0
  inAt : Option Nat := none
  deriving DecidableEq, Repr

end Sys2Proof.Machine
end

