-- ==== Sys2Proof/Machine/StateCan.lean ====
section
/-! DEFINITION. The state of the CAN controllers (chapter 17) that no register holds. -/

namespace Sys2Proof.Machine

/-- A transmit entry or, in compatibility mode, an active buffer (R469-R473, R478): its number, its frame, its bank, its
completion number, whether it is HELD, how many synchronisation frames must end before it is eligible, the attempts made with
the kind and position of the last error, and once it has ended its result and time. -/
structure TxEntry where
  n : Nat
  frame : CanFrame
  bank : Nat
  cseq : Nat := 0
  held : Bool := false
  waits : Nat := 0
  attempts : Nat := 0
  kind : Nat := 0
  pos : Nat := 0
  result : Nat := 0
  time : Nat := 0
  deriving DecidableEq, Repr

/-- A receive entry (R474). -/
structure RxEntry where
  frame : CanFrame
  filter : Nat
  seq : Nat
  time : Nat
  deriving DecidableEq, Repr

/-- What a controller is sending (R472): a synchronisation frame, a transmit entry or buffer, or a roll-call request. -/
inductive Sending where
  | sync
  | entry (n : Nat)
  | roll (node : Nat)
  deriving DecidableEq, Repr

/-- A node of the roll-call (R479): whether PRESENT, the rounds missed, its last answer, and the ends of its open requests. -/
structure RollNode where
  present : Bool := false
  misses : Nat := 0
  answer : Option Nat := none
  asked : List Nat := []
  deriving DecidableEq, Repr

/-- A CAN controller: the mode in force, its transmit entries in submission order, its completions oldest first, the next
CSEQ of each bank and who last wrote its TX_GO, the receive queue with the next SEQ and the frames lost in the present
run, what it is sending, the synchronisation frame (due at, due, attempts, and whether the one being sent has been replaced), the requests of the round still to
send with their attempts, when the last round began, the nodes, the buffers whose latch waits, and the code of a reset that waits for the end of the frame in progress (R480). -/
structure CanRec where
  mode : Nat := 0
  tx : List TxEntry := []
  comps : List TxEntry := []
  cseq : Tab Nat := []
  goBy : Tab Nat := []
  rx : List RxEntry := []
  seq : Nat := 0
  lost : Nat := 0
  sending : Option Sending := none
  syncAt : Option Nat := none
  syncDue : Bool := false
  syncTries : Nat := 0
  syncOld : Bool := false
  rolls : List Nat := []
  rollTries : Nat := 0
  roundAt : Nat := 0
  nodes : Tab RollNode := []
  relatch : List Nat := []
  resetDue : Option Nat := none
  deriving DecidableEq, Repr

end Sys2Proof.Machine
end

