-- ==== Sys2Proof/Machine/StateCle.lean ====
section
/-! DEFINITION. The state of a lane's Cyclic Logic Engine (chapters 06 and 07) and of the online change
(chapter 08) that no register holds. -/

namespace Sys2Proof.Machine

/-- The operation saved on the bit stack (R202). -/
inductive BitOp where
  | and | or | xor
  deriving DecidableEq, Repr

/-- The copy of the programmer's registers that each task has (R202), and its waiting state (R177-R179). G and X
registers that are not listed hold 0. -/
structure TaskRec where
  /-- 0 DISABLED, 1 IDLE, 2 READY, 3 RUNNING, 4 WAITING (R196). -/
  state : Nat := 0
  g : Tab Word := []
  x : Tab DWord := []
  inst : Word := 0
  z : Bool := false
  n : Bool := false
  c : Bool := false
  v : Bool := false
  acc : Bool := false
  /-- Innermost entry first. -/
  bstack : List (Bool × BitOp) := []
  /-- Return address and saved INST of each open call, innermost first. -/
  calls : List (Nat × Word) := []
  pc : Nat := 0
  xsr : Nat := 0
  /-- The pending set: event number and occurrence count (R67, R179). -/
  pend : List (Nat × Nat) := []
  /-- The wait set while WAITING. -/
  wait : List Nat := []
  /-- The wake timer (R178). -/
  wake : Option Nat := none
  /-- A CYCLIC task's trigger is pending. -/
  trigger : Bool := false
  timeLast : Nat := 0
  timeMax : Nat := 0
  runs : Nat := 0
  deriving DecidableEq, Repr

/-- A word of the input image (R19, R20): value, quality (0 GOOD, 1 STALE, 2 FAULT), the last GOOD value and the
owner tag with which it was last latched. -/
structure ImageWord where
  value : Word := 0
  qual : Nat := 1
  good : Word := 0
  tag : Nat := 0
  deriving DecidableEq, Repr

/-- A staged store (R168, R208): the window word and its value, the generation read at the boundary. -/
structure Staged where
  addr : Nat
  value : Word
  gen : Nat
  deriving DecidableEq, Repr

/-- A snapshot buffer of the retained memory (R190). -/
structure SnapBuf where
  valid : Bool := false
  crcOk : Bool := true
  cycle : Nat := 0
  progTime : Nat := 0
  digest : Nat := 0
  full : Bool := true
  data : List Host.Cell := []
  flips : List (Nat × Bool) := []
  deriving DecidableEq, Repr

/-- A retained commit that runs (R191): the buffer, what it will hold, when it began and the bytes of changed data. -/
structure Commit where
  buf : Nat
  snap : SnapBuf
  since : Nat
  bytes : Nat
  deriving DecidableEq, Repr

/-- A run-state command decided and not yet acted on (R164, R182): which (START, STOP, HOLD, RESUME, STEP), its
argument, how many boundaries away, and whether it acts on both lanes. -/
structure RunCmd where
  op : Nat
  arg : Nat
  left : Nat
  both : Bool
  deriving DecidableEq, Repr

/-- Where a lane's cycle stands (R17, R170). -/
inductive CyclePhase where
  /-- Nothing of a cycle runs. -/
  | idle
  /-- Tasks run. -/
  | compute
  /-- The scan is done and the output phase has not ended. -/
  | output
  /-- The output phase has ended. -/
  | done
  deriving DecidableEq, Repr

/-- What a lane put into its EXCHANGE frame (R17, R77): its cycle, the latched words with value and quality and
owner tag, the shared values and run-state commands of lane A (R164), its hold (R188), the first 32 bits of its image's
digest (R243, R244), and the SEQ of the newest accepted frame of each safe connection (R506). -/
structure ExchangeFrame where
  cycle : Nat := 0
  words : List (Nat × ImageWord) := []
  shared : List Nat := []
  cmds : List RunCmd := []
  held : Bool := false
  digest : Nat := 0
  seqs : Tab (Option Nat) := []
  deriving DecidableEq, Repr

/-- A lane's engine: program, data memory (unlisted bytes 0, R539), snapshots, tasks, image, staged stores, and
where its cycle stands. -/
structure CleRec where
  image : Option ProgImage := none
  data : List Host.Cell := []
  snap0 : SnapBuf := {}
  snap1 : SnapBuf := {}
  commit : Option Commit := none
  tasks : Tab TaskRec := []
  cycle : Nat := 0
  doneCycle : Nat := 0
  progTime : Nat := 0
  /-- The boundaries: of the cycle that runs, the last, the next. -/
  tb : Nat := 0
  lastTb : Nat := 0
  nextTb : Option Nat := none
  deadline : Nat := 0
  phase : CyclePhase := .idle
  late : Bool := false
  running : Option Nat := none
  scanned : Nat := 0
  /-- The image of the cycle that runs; the image latched last; and that before it. -/
  inputs : Tab ImageWord := []
  latched : Tab ImageWord := []
  base : Tab ImageWord := []
  /-- The exchange of the last boundary is open; the next cycle waits for it. -/
  exchOpen : Bool := false
  /-- The receipt of the last boundary is still to be sent (R17). -/
  owesReceipt : Bool := false
  waiting : Bool := false
  sent : ExchangeFrame := {}
  got : Option ExchangeFrame := none
  receipt : Option Bool := none
  sentReceipt : Option Bool := none
  compareSent : Option (Nat × List Word) := none
  compareGot : Option (Nat × List Word) := none
  /-- The last cycle whose comparison has been made, and the last that compared equal. -/
  compared : Option Nat := none
  cleanCycle : Option Nat := none
  staged : List Staged := []
  ready : List Staged := []
  outVals : Tab Word := []
  outResults : Tab Nat := []
  /-- PAGE_GEN of each page of the output map as read at the boundary of the cycle that runs (R209). -/
  gens : Tab Nat := []
  /-- PAGE_GEN of those pages as read at the last boundary. -/
  latchGens : Tab Nat := []
  /-- A frame of the other lane that came before this lane's boundary, and when. -/
  early : Option (Nat × ExchangeFrame) := none
  /-- Events posted at the last boundary, for the cycle that begins after it (R67, R178). -/
  posts : List ClePost := []
  runCmds : List RunCmd := []
  steps : Option Nat := none
  heldAtBreak : Bool := false
  arrivals : Tab Nat := []
  /-- The shared values of R164 in force and those latched for the next boundary: PERIOD_US, GRACE_PCT, WARN_PCT,
  STOP_SAFE. -/
  shared : List Nat := []
  sharedNext : List Nat := []
  /-- A start whose first cycle is still to come (R193): its mode, and 4 more for a start at the end of a boot. -/
  starting : Option Nat := none
  /-- The buffers whose next commit writes the whole RETAIN region (R253). -/
  fullLeft : List Nat := []
  /-- The prime routines still to run (R248): entry, instance, address of the field's word, bit. -/
  primes : List (Nat × Nat × Nat × Nat) := []
  /-- The words of SRAM whose check bits show an error (R529), by data address with program memory from 0x1000_0000, and
  whether it is a double-bit error. -/
  upset : List (Nat × Bool) := []
  deriving DecidableEq, Repr

end Sys2Proof.Machine
end

