-- ==== Sys2Proof/Machine/StateField.lean ====
section
/-! DEFINITION. The state of the field banks (chapter 14), the load-switch groups and the kerb (chapter 15) that no
register holds. -/

namespace Sys2Proof.Machine

/-- A channel at its front-end (R404, R407-R416): its mode, the level of its comparator, its filter, the class of its last sample with how long good and
bad samples have lasted in µs, its fault, its latched switch-off, the owner's bit as last received, the value of R415, the
end of a pulse, the value at the switch, the level the kerb gave it, its load current and its junction temperature, when it
was last switched off by a fault, when its command and readback last changed, the instants of its last two rising
transitions (R262), and of the last corner that set it (R267), whether a safe state is applied, and the records of the last
16 µs with the instants at which they changed (R406). -/
structure FeChan where
  mode : Nat := 0
  raw : Bool := false
  c : Nat := 0
  state : Bool := false
  cls : Nat := 0
  badUs : Nat := 0
  goodUs : Nat := 0
  fault : Nat := 0
  bit : Bool := false
  value : Bool := false
  pulseEnd : Option Nat := none
  cmd : Bool := false
  kerbHold : Option Bool := none
  kerbOn : Bool := false
  cur : Nat := 0
  temp : Nat := 0
  offAt : Nat := 0
  diffAt : Nat := 0
  rise1 : Option Nat := none
  rise2 : Option Nat := none
  cornerAt : Option Nat := none
  safe : Bool := false
  before : List (Nat × Nat) := []
  deriving DecidableEq, Repr

/-- A burst kind of a bank (R404, R405): the SEQ of its last window at the stage and at the front-end, consecutive misses,
consecutive good bursts while in FAULT, and whether it is in FAULT. -/
structure BurstRec where
  seq : Option Nat := none
  feSeq : Option Nat := none
  misses : Nat := 0
  good : Nat := 0
  faulty : Bool := false
  deriving DecidableEq, Repr

/-- A field bank: its channels, its two burst kinds, the consecutive good refreshes, the last owner refresh, whether
the next output burst ends the kerb's hold, the SILENT flag the front-end has received, its own silence, its last good stage
burst, its temperature and supply voltage, the channels whose configuration has still to be sent, and the instant of the
owner's last write of OUT_SET. -/
structure BankRec where
  chans : Tab FeChan := []
  bursts : Tab BurstRec := []
  refreshes : Nat := 0
  ownerAt : Option Nat := none
  release : Bool := false
  feDemand : Bool := false
  feSilent : Bool := false
  feGoodAt : Nat := 0
  dirty : List Nat := []
  outAt : Option Nat := none
  deriving DecidableEq, Repr

/-- A load-switch channel (R425-R433): the command in force, the period it is in and its values, whether its source is high and
its line was last high, its thermal state, whether a restart is pending and how many the window has used, its latch, its
lock, the end of its inrush window, the estimates of the last 10 s (their instant and mJ), the level the kerb gave, and when
its line last changed. -/
structure LsChan where
  cmd : Nat := 0
  pwmAt : Nat := 0
  duty : Nat := 500
  period : Nat := 10
  src : Bool := false
  line : Bool := false
  kerb : Bool := false
  thermal : Bool := false
  pending : Bool := false
  restarts : Nat := 0
  latched : Bool := false
  locked : Bool := false
  inrushEnd : Option Nat := none
  sums : List (Nat × Nat) := []
  held : Option Bool := none
  kerbHold : Option Bool := none
  lineAt : Nat := 0
  deriving DecidableEq, Repr

/-- A load-switch group: its channels, whether the owner has written since it started and since KACT fell, and the rounds of
the sense multiplexer with and without a current on a low line. -/
structure LsRec where
  chans : Tab LsChan := []
  written : Bool := false
  badRounds : Nat := 0
  goodRounds : Nat := 0
  badNow : Bool := false
  deriving DecidableEq, Repr

/-- A current-loop channel (R448-R458): the filtered current in 2^-20 nA, since when the condition of each cause of R454
has held and that of the present cause has been absent, whether cause 5 has switched it off, since when the current
has been at or above 3.6 mA and below 0.5 mA, the current it drives in µA; in VOLTAGE mode the last sample, the last
rising zero crossing, the count, squares and peak since then, the peak of the period before, the samples of the
last 100 ms while no crossing has been seen, and, on an even channel, the advance of the phase since a turn began. -/
structure LoopChan where
  filt : Option Int := none
  held : Tab (Option Nat) := []
  gone : Option Nat := none
  off : Bool := false
  okAt : Option Nat := none
  lowAt : Option Nat := none
  drive : Nat := 0
  last : Option Int := none
  riseAt : Option Nat := none
  count : Nat := 0
  squares : Nat := 0
  peak : Nat := 0
  peakWas : Nat := 0
  window : List (Nat × Int) := []
  phase : Option Nat := none
  turn : Int := 0
  turnAt : Nat := 0
  deriving DecidableEq, Repr

/-- The kerb supervisor (R435-R438): since when it has had a supply and since when the kerb has been active. -/
structure KerbRec where
  supplyAt : Option Nat := none
  activeAt : Nat := 0
  deriving DecidableEq, Repr

end Sys2Proof.Machine
end

