-- ==== Sys2Proof/Machine/StateHost.lean ====
section
/-! DEFINITION. The state of the host ports, the sessions and the sharing among hosts (chapter 05) that no
register holds. -/

namespace Sys2Proof.Machine

/-- A request held for missing numbers (R144), with the instant it arrived. -/
structure HeldReq where
  req : HanucaReq
  since : Nat
  deriving DecidableEq, Repr

/-- A reply kept for a repeated request (R144). -/
structure KeptReply where
  reqNo : Nat
  msg : OutMsg
  deriving DecidableEq, Repr

/-- A log handle of a session (R143, R562): the bytes selected, each a record of its partition, a first byte and a count, in ascending
time, how many bytes they hold, and the last use. -/
structure LogHandle where
  handle : Nat
  lane : Lane
  part : Nat
  picks : List (Nat × Nat × Nat)
  bytes : Nat
  lastUse : Nat
  deriving DecidableEq, Repr

/-- The session of a slot (R131, R133-R144, R152): `subject` is the subject of the host certificate, `keyAt` the instant of its last keys, `notAfter` the end
of its validity as a time of R9, `expected` the number E of R144 once a request has set it, `served` the requests
begun and not yet answered. Token buckets are held in thousand-millionths of a token (`reqTok`, `dataTok`) as of
`tokAt`, so that a rate per second refills them per nanosecond. -/
structure Session where
  active : Bool := false
  subject : Nat := 0
  role : Nat := 0
  port : Nat := 0
  ip : Nat := 0
  udp : Nat := 0
  notBefore : Nat := 0
  notAfter : Nat := 0
  unverified : Bool := false
  factory : Bool := false
  lastDatagram : Nat := 0
  expected : Option Nat := none
  held : List HeldReq := []
  kept : List KeptReply := []
  lost : List Nat := []
  reqTok : Nat := 0
  dataTok : Nat := 0
  tokAt : Nat := 0
  streaming : Bool := false
  handles : List LogHandle := []
  nextHandle : Nat := 0
  keyAt : Nat := 0
  deriving DecidableEq, Repr

/-- A handshake in progress (R131). -/
structure Handshake where
  port : Nat
  ip : Nat
  udp : Nat
  since : Nat
  deriving DecidableEq, Repr

/-- The configuration of a port that has been in force since its last restart or power-on (R156): PORT_CFG, the static address,
the prefix length and the gateway. -/
structure PortInForce where
  cfg : Word
  ip : Nat
  prefixLen : Nat
  gateway : Nat
  deriving DecidableEq, Repr

/-- The host fabric: sessions by slot, handshakes, the totals of the 1 ms interval that runs (R152), of the
second that runs and of the one before it (FABRIC_LOAD), the configuration of each port in force,
the REQ_NO of the request that is being served, the slot that holds the claim, since when the grandmaster has been lost (R68),
when HOST_THROTTLED was last raised for each slot (R154), and, for the announcements (R113, R130), the instant from which they run, one
more than the instant of the last of each port, and when a slot last became free. -/
structure HostState where
  slots : Tab Session := []
  handshakes : List Handshake := []
  interval : Nat := 0
  intervalReqs : Nat := 0
  intervalData : Nat := 0
  second : Nat := 0
  secondReqs : Nat := 0
  secondData : Nat := 0
  lastReqs : Nat := 0
  lastData : Nat := 0
  holder : Option Nat := none
  ports : Tab (Option PortInForce) := []
  serving : Option Nat := none
  gmLost : Option Nat := none
  throttled : Tab (Option Nat) := []
  announceFrom : Nat := 1000000000
  announced : Tab Nat := []
  freedAt : Option Nat := none
  deriving DecidableEq, Repr

end Sys2Proof.Machine
end

