-- ==== Sys2Proof/Machine/StateLane.lean ====
section
/-! DEFINITION. The state of the lanes, the Crossing (chapter 03) and the power supervisor (chapter 04) that no
register holds. -/

namespace Sys2Proof.Machine

/-- A lane's own view of one Crossing link (R78): its state (0 DOWN, 1 TRAINING, 2 UP), the state the other lane
last reported, since when frames have come without a CRC error, the last valid frame, the last decodable signal,
and the instants of the frames that failed their CRC within the last 1 ms. -/
structure LinkRec where
  state : Nat := 0
  other : Nat := 0
  goodSince : Nat := 0
  lastValid : Nat := 0
  lastSignal : Nat := 0
  fails : List Nat := []
  deriving DecidableEq, Repr

/-- What a lane last received in a HELLO frame (R80). -/
structure HelloRec where
  gen : Nat
  state : Nat
  digest : Nat
  bootDone : Bool
  fromPowerOn : Bool
  deriving DecidableEq, Repr

/-- A join in progress or to be retried (R84, R85): since when, whether it leads, when to try again. -/
structure JoinRec where
  since : Nat := 0
  active : Bool := false
  retryAt : Option Nat := none
  resync : Bool := false
  deriving DecidableEq, Repr

/-- An ownership errand of lane firmware (R91, R92, R96, R97): the resource, whether OWN_MOVE (0), RELEASE_ALL (1)
or RESTORE_MAP (2) began it, when, the retries made, and, after a collision, when the next request
may go; and whether an offer to the lane has come and stands (R97). -/
structure OwnErrand where
  page : Nat
  kind : Nat
  since : Nat
  retries : Nat := 0
  nextAt : Option Nat := none
  offered : Bool := false
  deriving DecidableEq, Repr

/-- Where a lane's reset stands (R105, R110): running, its supply shutdown in progress, the 1.5 ms of IDLE frames,
held in reset, or released and booting. -/
inductive ResetPhase where
  | held | booting | running | shutdown | stopping
  deriving DecidableEq, Repr

/-- One lane beside its pages: links, session generation of the other lane (R80), heartbeats, boot and reset. `seqs` holds
the sequence number last sent of each frame type: the first frame since power-on carries 1, and a lane reset does not restart
the count (DESIGN CHOICE, log entry 94). -/
structure LaneRec where
  link0 : LinkRec := {}
  link1 : LinkRec := {}
  hello : Option HelloRec := none
  prevGen : Option Nat := none
  heartbeats : Bool := false
  sending : Bool := false
  seqs : Tab Nat := []
  phase : ResetPhase := .held
  resetAt : Nat := 0
  heldAt : Nat := 0
  causeEnd : Option Nat := some 0
  resetCode : Nat := 0
  fromPowerOn : Bool := true
  bootDone : Option Nat := none
  fwBad : Bool := false
  supply : Bool := false
  absentAt : Nat := 0
  /-- When the supply became absent whose loss the shutdown is due to (R105). -/
  shutAt : Nat := 0
  overTemp : Bool := false
  join : JoinRec := {}
  errands : List OwnErrand := []
  freqHeld : Bool := false
  /-- The boot that runs (R113): when the reset was released, whether it has come as far as its links, and whether the
  engine stays in STOP once it completes (R114, R115, R539). -/
  releasedAt : Nat := 0
  loaded : Bool := false
  stay : Bool := false
  /-- When the lane last became ALIGNED (R590). -/
  alignedAt : Nat := 0
  /-- When the lane last applied the plan (R585). -/
  ripApplied : Nat := 0
  deriving DecidableEq, Repr

/-- A link of a lane. -/
def LaneRec.link (r : LaneRec) (k : Nat) : LinkRec := if k = 0 then r.link0 else r.link1

/-- What the module measures of its two lanes together: whether lane B's boundaries are aligned with lane A's (R81), and since
when the clocks have differed by more than 200 ppm, or by less than 150 ppm (R83). -/
structure PairRec where
  aligned : Bool := false
  above : Option Nat := none
  below : Option Nat := none
  deriving DecidableEq, Repr

/-- The power supervisor: the supplies of R102 as it last saw them, DEVICE_RESET waiting to fire (R123), the
preparation for power down, and the configuration images of each lane (R115). -/
structure PowerRec where
  common : Bool := false
  bus : PerLane Bool := ⟨false, false⟩
  busSince : PerLane Nat := ⟨0, 0⟩
  rail : PerLane Bool := ⟨false, false⟩
  field : Nat := 0
  resetFire : Option (Nat × Nat) := none
  prep : Option Nat := none
  active : PerLane ConfigImage := ⟨{}, {}⟩
  previous : PerLane ConfigImage := ⟨{}, {}⟩
  appliedMap : List (Nat × Nat) := []
  resourcesApplied : Bool := false
  sharedAt : Option Nat := none
  restartArg : Nat := 0
  deriving DecidableEq, Repr

end Sys2Proof.Machine
end

