-- ==== Sys2Proof/Machine/StateMem.lean ====
section
/-! DEFINITION. The state of a lane's memory system (chapter 19) that no register holds. -/

namespace Sys2Proof.Machine

/-- The memory system of a lane: when ECC_CORRECTED was last raised and the corrections since (R529); when the last block
was tested, when the pass began and the blocks skipped in it (R536); the banks whose last processor conflict port 1 lost, the clocks
that ports 2 and 3 have waited in their present waits (R526), and the clocks that ports 0 and 1 lost in the second that runs and in
the one before it (R540). -/
structure MemRec where
  eccAt : Option Nat := none
  eccCount : Nat := 0
  btAt : Nat := 0
  passAt : Nat := 0
  skipped : Nat := 0
  lost1 : List Nat := []
  wait2 : Nat := 0
  wait3 : Nat := 0
  second : Nat := 0
  lost : Nat × Nat := (0, 0)
  before : Nat × Nat := (0, 0)
  deriving DecidableEq, Repr

end Sys2Proof.Machine
end

