-- ==== Sys2Proof/Machine/StateMgmt.lean ====
section
/-! DEFINITION. The state of management and of the life cycle (chapters 21 and 22) that no register holds. -/

namespace Sys2Proof.Machine

/-- An entry of the management log (R580): its time, index and kind and the bytes of its DATA. -/
structure MlogEntry where
  time : Nat
  index : Nat
  kind : Nat
  data : List Nat
  deriving DecidableEq, Repr

/-- A ripening item beside its registers (R583-R585): the daily values kept, with their day, when the last
measurement was taken, since when the target has differed from PLANNED while it accepts the write, whether the resource has
been in use (a bus since boot, a beam since its BASE was taken), whether REF has been captured, and the sum and the number of
the values that a beam has shown since the last run. -/
structure RipItem where
  daily : List (Nat × Nat) := []
  measuredAt : Nat := 0
  differs : Option Nat := none
  used : Bool := false
  refSet : Bool := false
  sum : Nat := 0
  count : Nat := 0
  deriving DecidableEq, Repr

/-- Management (chapter 21): its log, the instants of its periodic work, the host requests that wait (slot and request), the
refusals of the present second, the failures in a row of each sensor, ripening, and the update session: the bytes and the
ranges received, the staged container, the containers in the active and the other slot of each instance, the activation's
instances, step and begin, whether a trial of it has reset something, and the slots confirmed; `fwBad` says that no slot of
its own firmware has passed the check of its boot; `running` are the firmware versions that run, by instance, where one of
an update has booted. -/
structure MgmtRec where
  log : List MlogEntry := []
  nextIndex : Nat := 0
  wrapped : Bool := false
  loadAt : Nat := 0
  sampleAt : Nat := 0
  telemAt : Nat := 0
  bootAt : Nat := 0
  queue : List (Nat × HanucaReq) := []
  refused : Nat := 0
  refusedAt : Option Nat := none
  failRun : Tab Nat := []
  ripAt : Nat := 0
  ripDue : Bool := false
  items : Tab RipItem := []
  recheckAt : Option Nat := none
  applyAt : Option Nat := none
  staging : List Host.Cell := []
  chunks : Tab Nat := []
  staged : Option Container := none
  active : Tab (Option Container) := []
  other : Tab (Option Container) := []
  activating : List Nat := []
  rollback : Bool := false
  stepAt : Nat := 0
  trialRun : List Nat := []
  hasReset : Bool := false
  actAt : Nat := 0
  trim : Tab Nat := []
  running : Tab (Option Nat) := []
  fwBad : Bool := false
  deriving DecidableEq, Repr

/-- The life cycle and the rind (chapter 22): whether new keys are still to be generated, the breaches that are still to be
reported (the state before, the cause), since when COMMIT_PENDING has stood, the anchors and the deny list held, whether the module has come from ERASED, the reference of the installed
certificate once one has been installed, the generation of the Vat keys, and the KIND whose content the window
stages. -/
structure LcRec where
  keysDue : Bool := false
  breach : List (Nat × Nat) := []
  commitAt : Option Nat := none
  hostAnchor : Bool := false
  contentAnchor : Bool := false
  deny : List Nat := []
  fromErased : Bool := false
  ownRef : Option Nat := none
  vatKeyGen : Nat := 0
  deriving DecidableEq, Repr

end Sys2Proof.Machine
end

