-- ==== Sys2Proof/Machine/StateOc.lean ====
section
/-! DEFINITION. The state of the online change (chapter 08) that no register holds. -/

namespace Sys2Proof.Machine

/-- An entry of the change report (R254). -/
structure OcEntry where
  key : Nat
  code : Nat
  kind : Nat
  flags : Nat
  addr : Nat
  deriving DecidableEq, Repr

/-- The online change (R237-R245): the package that each lane has loaded, each lane's own result (0 passed) with the digest
of its new image, as it has reported them, what each lane has heard of the other's, when the change became READY, the cycle whose boundary latched OC_COMMIT, the
commit cycle, which frames of R240 have been sent and received, the deferrals that each lane has made, the cycle with which
a lane last switched, and the report of the last change. -/
structure OcRec where
  pkg : PerLane (Option Container) := ⟨none, none⟩
  result : PerLane (Option (Nat × Nat)) := ⟨none, none⟩
  heard : PerLane (Option (Nat × Nat)) := ⟨none, none⟩
  readyAt : Nat := 0
  asked : Bool := false
  latchedAt : Option Nat := none
  commitN : Option Nat := none
  commitGot : Bool := false
  consentGot : Bool := false
  confirmSent : Bool := false
  confirmGot : Bool := false
  deferrals : PerLane Nat := ⟨0, 0⟩
  tc : Option Nat := none
  report : List OcEntry := []
  deriving DecidableEq, Repr

end Sys2Proof.Machine
end

