-- ==== Sys2Proof/Machine/StateSafe.lean ====
section
/-! DEFINITION. The state of the safety unit, its connections and its safe outputs (chapter 18) that no register holds. -/

namespace Sys2Proof.Machine

/-- A lane's safety half (R486, R493, R499, R514): the demand its CLE staged, the enables it drives, whether a cause it found keeps
them stopped, whether the cycle that runs has shown a cause, the enables whose wave has been lost or runs by itself, and the
outputs that its guard holds off, each with the axis that does it. -/
structure HalfRec where
  demand : Nat := 0
  drive : Nat := 0
  stopped : Bool := false
  dirty : Bool := false
  lost : Nat := 0
  stuck : Nat := 0
  guards : List (Nat × Nat) := []
  deriving DecidableEq, Repr

/-- A safe output beside its registers (R492-R498): when its coils last changed, since when the two
enables have differed, when the pair picked up and whether EDM has followed, since when EDM has read as it does, when it
switched off while its mirrors or its contactor are still awaited. -/
structure SoRec where
  coilAt : Option Nat := none
  discAt : Option Nat := none
  onAt : Nat := 0
  pulled : Bool := false
  edmAt : Nat := 0
  dropAt : Option Nat := none
  releaseAt : Option Nat := none
  deriving DecidableEq, Repr

/-- A received Tarfevik frame as a lane keeps it (R501, R506). -/
structure SafeFrame where
  seq : Nat
  echo : Nat
  failsafe : Bool
  open_ : Bool
  data : List Nat
  deriving DecidableEq, Repr

/-- A lane's side of a connection (R504-R508): its state, the last cause, the last accepted SEQ, the last four frames
(newest first), when the last was accepted, whether the last discard was a CRC failure, the last SEQ sent and the
frames sent and not yet named by an ECHO (newest first), the boundaries since it opened, the SEQ delivered and the cycles since a
new one, and the SAFE_TX block as last taken. -/
structure ConnRec where
  state : Nat := 0
  cause : Nat := 0
  seqRx : Option Nat := none
  frames : List SafeFrame := []
  acceptAt : Nat := 0
  badCrc : Bool := false
  seqTx : Nat := 0
  sent : List (Nat × Nat) := []
  delivered : Option Nat := none
  boundaries : Nat := 0
  idle : Nat := 0
  passivate : Bool := false
  txData : List Nat := []
  deriving DecidableEq, Repr

/-- The configuration of a connection at a lane (R517): the window's words in force and those that the next boundary brings. -/
structure ConnCfg where
  force : List Word
  next : List Word
  deriving DecidableEq, Repr

/-- The safety unit: the halves, the outputs, the causes found and not yet gone, those found since the last boundary of the
serving lane (R516), the causes since TRIPPED was entered, when MAINTENANCE began, the boundaries in a row at which the key
was lost, whether a demand or transmit discrepancy has occurred in the cycle, the outputs reported as guarded, each lane's
connections and those of its configurations that are still on their way, the frames handed to the
host-port controller with their instants, and when UNKNOWN_CONN was last raised. -/
structure SafeRec where
  halves : PerLane HalfRec := ⟨{}, {}⟩
  outs : Tab SoRec := []
  seen : Nat := 0
  found : Nat := 0
  trips : Nat := 0
  maintAt : Nat := 0
  keyLost : Nat := 0
  disc : Bool := false
  guarded : Nat := 0
  cfgs : PerLane (Tab (Option ConnCfg)) := ⟨[], []⟩
  conns : PerLane (Tab ConnRec) := ⟨[], []⟩
  handed : PerLane (Tab (Option (Nat × List Nat))) := ⟨[], []⟩
  unknownAt : Option Nat := none
  deriving DecidableEq, Repr

end Sys2Proof.Machine
end

