-- ==== Sys2Proof/Machine/StateVat.lean ====
section
/-! DEFINITION. The state of the Vats and dumps (chapter 20) that no register holds. -/

namespace Sys2Proof.Machine

/-- A mark of a capture (R555): stored sample, mark code, avenue, falling. -/
structure CapMark where
  sample : Nat
  code : Nat
  avenue : Nat
  falling : Bool
  deriving DecidableEq, Repr

/-- A press capture (R554, R555, R557): its header fields, the samples stored so far as their 24 signals, whether
every second sample is kept and the next is skipped, when its post-trigger time ends, and, once it has ended, where it ends in the bytes of its partition. -/
structure Capture where
  axis : Nat
  lane : Nat
  seq : Nat
  tFirst : Nat
  rate : Nat
  taken : Nat := 0
  samples : List (List Int) := []
  decimated : Bool := false
  dropped : Bool := false
  unsynced : Bool := false
  powerLoss : Bool := false
  rotary : Bool := false
  startCause : Nat
  endCause : Nat := 0
  trigger : Nat := 0
  curdSeq : Option Nat := none
  aux : Nat := 0
  marks : List CapMark := []
  marksLost : Nat := 0
  steps : List (Nat × Nat) := []
  halving : Bool := false
  skip : Bool := false
  endAt : Option Nat := none
  pos : Nat := 0
  deriving DecidableEq, Repr

/-- A curd record held in partition 0 (R546, R551): its origin lane, ORIGIN_SEQ and BOOT_COUNT, where it ends in the bytes
of the partition, and its content. -/
structure VatCurd where
  origin : Nat
  seq : Nat
  boot : Nat
  pos : Nat
  curd : Curd
  deriving DecidableEq, Repr

/-- An entry of partition 1 (R560): its event record, its kind, the words at bytes 28 to 59, and where it ends. -/
structure LogEntry where
  record : EvtRec
  kind : Nat
  words : List Nat
  pos : Nat
  deriving DecidableEq, Repr

/-- An entry of partition 2 (R561): its time, kind, length and digest, where it ends, the generation of the Vat key that it is written under (R615), and the bytes of its content where the
manual lays them out, as it does for a change report (R254). -/
structure HistEntry where
  time : Nat
  kind : Nat
  length : Nat
  digest : Nat
  pos : Nat
  gen : Nat := 0
  content : List Nat := []
  deriving DecidableEq, Repr

/-- A dump (R563-R565): where it lies, cause, boot count, time, cycle, FAULT_PC, task, PROG_REF, whether it
is whole, the places in it of the words with an uncorrectable error, and the memories and registers it copies: data and program memory, and the kept words of the six
pages. -/
structure DumpRec where
  slot : Nat := 0
  cause : Nat := 0
  boot : Nat := 0
  time : Nat := 0
  cycle : Nat := 0
  pc : Nat := 0
  task : Nat := 0
  progRef : Nat := 0
  inst : Nat := 0
  bad : List Nat := []
  whole : Bool := false
  data : List Host.Cell := []
  program : List Host.Cell := []
  regs : List (Nat × Word) := []
  deriving DecidableEq, Repr

/-- One partition (R546, R547): the bytes handed to it and the bytes programmed, counted from its start, how many units have
been overwritten, and the units lost. -/
structure PartRec where
  handed : Nat := 0
  programmed : Nat := 0
  overwritten : Nat := 0
  lost : List Nat := []
  deriving DecidableEq, Repr

/-- A dump that is being written (R563): since when, what, whether into the Vat, and whether a fatal reset waits for it. -/
structure DumpJob where
  since : Nat
  dump : DumpRec
  toVat : Bool
  fatal : Bool
  deriving DecidableEq, Repr

/-- A lane's Vat: its partitions and their records, the captures that run and whether the buffer holds new ones off, the
numbers given out, the mirroring of R553 (the next record to send, the report of the other lane and since when it stands,
since when records have been unconfirmed, and what this lane holds of the other's), the dump being written, the marker of the
last shutdown, whether less than 10 % of its spare blocks are left, and the bytes of the present and the last second. -/
structure VatRec where
  parts : Tab PartRec := []
  captures : List Capture := []
  stored : List Capture := []
  shut : Bool := false
  curds : List VatCurd := []
  backlog : List VatCurd := []
  log : List LogEntry := []
  history : List HistEntry := []
  heldBack : List HistEntry := []
  dumps : List DumpRec := []
  nextSlot : Nat := 0
  capSeq : Nat := 0
  curdSeq : Nat := 0
  sendNext : Nat := 0
  report : Nat := 0
  reportAt : Nat := 0
  lagSince : Option Nat := none
  gotNext : Nat := 0
  gotAbove : List Nat := []
  scrubAt : Nat := 0
  dumping : Option DumpJob := none
  lostSummary : Option DumpRec := none
  marker : Bool := false
  flushMs : Nat := 0
  scarce : Bool := false
  second : Nat := 0
  wrote : Nat := 0
  read : Nat := 0
  wroteLast : Nat := 0
  readLast : Nat := 0
  deriving DecidableEq, Repr

/-- The minimal dumps in management flash (R565), oldest first, with their lane. -/
structure DumpStore where
  mini : List (Nat × DumpRec) := []
  deriving DecidableEq, Repr

end Sys2Proof.Machine
end

