-- ==== Sys2Proof/Machine/State.lean ====
section
/-! DEFINITION. The state of the block: every register, queue, buffer, counter and mode the manual gives it, as
plain data, and the queue of waiting commands. -/

namespace Sys2Proof.Machine

/-- Why the block stops with a fault. No command of the manual stops the block; the type has one name, raised by
nothing, so that outcomes can be compared. -/
inductive Fault where
  /-- Raised by no meaning (safe). -/
  | none
  deriving DecidableEq, Repr

/-- Why a command is refused by the model. -/
inductive Refusal where
  /-- A command of the table that has no meaning yet; raised by its arm of exec only (safe). -/
  | notModelled (mnemonic : String)
  deriving DecidableEq, Repr

/-- The state of the block. -/
structure State where
  /-- The present instant, in nanoseconds since an arbitrary start. -/
  now : Nat
  /-- The present time of R9 minus `now`; at reset the release is 20 ms ahead, and an unset clock counts from there (R108). -/
  timeShift : Int
  /-- The real-time clock was lost and no source has set it since (R108). -/
  clockUnset : Bool
  /-- Every register that holds other than its reset value (R38, R45): the key is Reg.key. -/
  regs : List (Nat × Word)
  /-- Upper words latched by reads of lowest words (R3): key Reg.key of the upper word and the reader's code. -/
  latched : Tab Nat
  /-- Lower words written of 64-bit values that wait for the write of the highest word (R3): key Reg.key of the lower word and the
  writer's code. -/
  lowWrites : Tab Nat
  /-- What the block sent out during the last command. -/
  out : List OutMsg
  /-- Commands answered ACCEPTED or DELAYED (R52). -/
  opens : List OpenCmd
  /-- The event fabric (R74). -/
  fabric : Fabric
  /-- Events routed to each CLE, waiting for the next boundary (R67). -/
  clePosts : PerLane (List ClePost)
  /-- The ownership record of every resource page (R86-R90). -/
  res : Tab ResRec
  /-- Power-ons and device resets since manufacture (R68). -/
  bootCount : Nat
  /-- The host ports and sessions (chapter 05). -/
  host : HostState
  /-- The lanes and the Crossing (chapters 03 and 04). -/
  lanes : PerLane LaneRec
  /-- The two lanes together (R81, R83). -/
  pair : PairRec
  /-- The Cyclic Logic Engines (chapters 06 and 07). -/
  cles : PerLane CleRec
  /-- The online change (chapter 08). -/
  oc : OcRec
  /-- The memory systems of the lanes (chapter 19). -/
  mems : PerLane MemRec
  /-- The axis stages, by page (chapters 10 to 13). -/
  axes : Tab AxisRec
  /-- The motor buses: 0 bus A, 1 bus B (chapter 11). -/
  buses : Tab BusRec
  /-- The start lines asserted and not yet risen, by group (R297). -/
  lines : List Nat
  /-- The edge inputs 0 to 31 and the beams 0 to 31 (chapter 13). -/
  edges : Tab EdgeRec
  beams : Tab BeamRec
  /-- The field banks and the load-switch groups, by page, and the kerb supervisor (chapters 14 and 15). -/
  banks : Tab BankRec
  groups : Tab LsRec
  /-- The current-loop channels, by number 0 to 31 (chapter 16). -/
  loops : Tab LoopChan
  kerb : KerbRec
  /-- The CAN controllers, 0 to 7 (chapter 17). -/
  cans : Tab CanRec
  /-- The safety unit (chapter 18). -/
  safe : SafeRec
  /-- The avenues (chapter 09). -/
  avenues : Tab AvRec
  /-- The Vats and the dumps in management flash (chapter 20). -/
  vats : PerLane VatRec
  dumpStore : DumpStore
  /-- Management, and the life cycle (chapters 21 and 22). -/
  mgmt : MgmtRec
  lc : LcRec
  /-- The power supervisor (chapter 04). -/
  power : PowerRec
  /-- How many free values have been used (log entry 3). -/
  freeCtr : Nat
  /-- The commands waiting, first in, first out. -/
  pending : List Instr
  deriving DecidableEq, Repr

/-- The module right after a power-on with both lane supplies present and nothing else connected (R103, R113): every register
at its reset value, both lanes held in reset, nothing loaded. What the manual leaves to the unit or to what came before
is chosen here (log entry 2). -/
def State.reset : State where
  now := 0
  timeShift := -20000000
  clockUnset := true
  regs := []
  latched := []
  lowWrites := []
  out := []
  opens := []
  fabric := {}
  clePosts := ⟨[], []⟩
  res := []
  bootCount := 1
  host := {}
  lanes := ⟨{ supply := true }, { supply := true }⟩
  pair := {}
  cles := ⟨{}, {}⟩
  oc := {}
  mems := ⟨{}, {}⟩
  axes := []
  buses := []
  lines := []
  edges := []
  beams := []
  banks := []
  groups := []
  loops := []
  kerb := {}
  cans := []
  safe := {}
  avenues := []
  vats := ⟨{}, {}⟩
  dumpStore := {}
  mgmt := {}
  lc := {}
  power := { common := true }
  freeCtr := 0
  pending := []

end Sys2Proof.Machine
end

