-- ==== Sys2Proof/Machine/Regs.lean ====
section
/-! DEFINITION. The register space (R38-R45): where a register is kept, what it holds after reset, and the reads
and writes of whole words and of named fields. -/

namespace Sys2Proof.Machine

/-- Where a register is kept: its page, its offset, and, for a register banked per requester (R45), the bank. -/
def Reg.key (page off bank : Nat) : Nat := (page * 4096 + off) * 8 + bank

/-- Whether the header register at an offset is banked per requester code (R45). -/
def Reg.headerBanked (off : Nat) : Bool := off == 0x30 || off == 0x34 || off == 0x38 || off == 0x3C

/-- Whether a block register is banked per requester code: WIN_SEL and MAP_BASE of the windows, CONN_SEL, and the
transmit registers of a CAN controller. -/
def Reg.blockBanked (k : PageKind) (off : Nat) : Bool :=
  match k with
  | .corner => off == Cn.WIN_SEL_AVENUE.off
  | .axis => off == Ax.MAP_BASE.off
  | .conns => off == Sc.CONN_SEL.off
  | .can => off == Cf.TX_GO.off || off == Cf.TX_TAKEN.off || off == Cf.TXC_ACK.off || (0x800 ≤ off && off < 0xC00)
  | _ => false

/-- The bank that a requester's access to an offset uses: on a CAN page both lanes share the program bank, 1 (R470). -/
def Reg.bank (page off code : Nat) : Nat :=
  if Reg.headerBanked off then code
  else if Reg.blockBanked (pageKind page) off then (if pageKind page = .can ∧ code = 2 then 1 else code)
  else 0

/-- The indices at which a field stands at an offset, when it does. -/
def RegField.idx? (r : RegField) (off : Nat) : Option (Nat × Nat) :=
  if off < r.f.off then none
  else
    let d := off - r.f.off
    let i := if r.f.stride = 0 then 0 else d / r.f.stride
    let e := if r.f.stride = 0 then d else d % r.f.stride
    let j := if r.f.stride2 = 0 then 0 else e / r.f.stride2
    let z := if r.f.stride2 = 0 then e else e % r.f.stride2
    if z = 0 ∧ i < r.n ∧ j < r.n2 then some (i, j) else none

/-- A field put in its place among fields that rise from bit 0. -/
def insertField (r : RegField × Nat × Nat) : List (RegField × Nat × Nat) → List (RegField × Nat × Nat)
  | [] => [r]
  | x :: rest => if r.1.f.lo ≤ x.1.f.lo then r :: x :: rest else x :: insertField r rest

/-- The fields of a table that stand at an offset, from bit 0 upwards (R61), with their indices. -/
def fieldsAt (t : List RegField) (off : Nat) : List (RegField × Nat × Nat) :=
  match t with
  | [] => []
  | r :: rest =>
    match r.idx? off with
    | some ij => insertField (r, ij) (fieldsAt rest off)
    | none => fieldsAt rest off

/-- The kind of table under which a page number is kept: the page's own, or, for the windows of R278 and R518, that of
the window. Avenue `a` keeps its corners under page 0x80 + a, connection `c` its words under page 0xC0 + c; no
requester reaches these numbers (R38). -/
def storeKind (page : Nat) : PageKind :=
  if page < 0x80 then pageKind page
  else if page < 0xC0 then .corner
  else if page < 0x100 then .conns
  else .unused

/-- The table that gives a register of a page: the header below 0x100, the block's own from there (R42). -/
def tableOf (page off : Nat) : List RegField :=
  if off < 0x100 then headerFields else (storeKind page).fields

/-- Whether a page is used (R40, R41). -/
def pageUsed (page : Nat) : Bool := pageKind page != .unused

/-- The reset rights of a role on a page (R149), as the nibble READ, WRITE_PROCESS, WRITE_CONFIG, COMMAND. -/
def rightsReset (role page : Nat) : Nat :=
  if !pageUsed page then 0
  else
    let plant := decide (0x10 ≤ page ∧ page ≤ 0x5F)
    match role with
    | 0 => 1 + 2 * bool01 plant + 8 * bool01 (plant || decide (1 ≤ page ∧ page ≤ 3) || page == 5
             || decide (0x60 ≤ page ∧ page ≤ 0x62))
    | 1 => 1 + 2 * bool01 plant + 4 * bool01 (page != 6 && page != 0x74) + 8 * bool01 (page != 0x74)
    | 2 => 15
    | _ => 1 + 4 + 8 * bool01 (page == 4 || page == 6 || decide (0x70 ≤ page ∧ page ≤ 0x74))

/-- The reset word of RIGHTS[role][w] (R149, R159). -/
def rightsWord (role w : Nat) : Nat → Nat
  | 0 => 0
  | n + 1 => rightsWord role w n + rightsReset role (8 * w + n) * 16 ^ n

/-- The numbers of the owned resource pages (R33, R40), in ascending order. -/
def ownedPages : List Nat :=
  List.range' 0x10 32 ++ List.range' 0x30 16 ++ List.range' 0x40 8 ++ List.range' 0x4C 4
    ++ List.range' 0x50 4 ++ List.range' 0x54 2 ++ List.range' 0x58 8

/-- The default owner of a resource page (R33). -/
def defaultOwner (page : Nat) : Nat :=
  match pageKind page with
  | .axis => if page < 0x20 then 1 else 2
  | .bank => if page < 0x38 then 1 else 2
  | .lsGroup => if page < 0x44 then 1 else 2
  | .loopGroup => if page < 0x4E then 1 else 2
  | .beamGroup => if page < 0x52 then 1 else 2
  | .edgeGroup => if page < 0x55 then 1 else 2
  | .can => if page < 0x5C then 1 else 2
  | _ => 0

/-- The range and the reset value of an item's BOUND (R583), 0 where it is unused. -/
def ripRange (i : Nat) : Nat × Nat × Nat :=
  if i < 32 then (10, 60, 40) else if i < 64 then (0, 0, 0) else if i < 96 then (10, 200, 100) else if i < 98 then (0, 0, 0)
  else if i < 106 then (1, 10000, 100) else if i < 108 then (0, 0, 0) else (0, 5, 3)

/-- Whether an item's kind has an action (R583). -/
def ripAction (i : Nat) : Bool := i < 32 || (64 ≤ i && i < 96) || 108 ≤ i

/-- Reset values that depend on the index of a register (each table's Reset column): the port tables of R156, the
codes of BEAM_CFG (R398), the start-up owners (R33, R34), the bounds of RIP_BOUND (R583), the state of management (R596), the partition sizes (R546), RIGHTS (R149), and the life cycle
of a module as it is delivered (R616; log entry 2). -/
def specialReset (page off : Nat) (w : Word) : Word :=
  match pageKind page with
  | .hostPorts =>
    if off = 0x500 then putBits w 16 16 0
    else if off = 0x504 then 0xA9FE2F01
    else if off = 0x508 then putBits w 5 0 16
    else w
  | .hostRights =>
    if 0x400 ≤ off ∧ off < 0x500 then BitVec.ofNat 32 (rightsWord ((off - 0x400) / 0x40) ((off - 0x400) % 0x40 / 4) 8)
    else w
  | .crossing =>
    if 0x200 ≤ off ∧ off < 0x400 ∧ off % 4 = 0 then putBits w 1 0 (defaultOwner ((off - 0x200) / 4)) else w
  | .vat =>
    if off = 0x200 then 1200000 else if off = 0x220 then 400000 else if off = 0x240 ∨ off = 0x260 then 100000
    else if off = 0x280 then 11800000 else w
  | .mgmt => if off = 0x10 then 1 else w
  -- pages 0x0C, 0x0D and 0x0E have the one state 1 (R274, R346)
  | .avenue | .corner | .ration => if off = 0x10 then 1 else w
  | .ripening =>
    if 0x400 ≤ off ∧ off < 0xAE0 ∧ off % 16 = 8 then putBits w 15 0 (ripRange ((off - 0x400) / 16)).2.2 else w
  | .lifeCycle =>
    if off = 0x100 then 1 else if off = 0x104 then 0x111F else if off = 0x124 then 0x10000
    else if off = 0x130 then 4 else if off = 0x13C then 1 else w
  | .beamGroup =>
    match Bm.BEAM_CFG_CODE.stride with
    | 0 => w
    | st =>
      if off < Bm.BEAM_CFG_CODE.off then w
      else if (off - Bm.BEAM_CFG_CODE.off) % st = 0 ∧ (off - Bm.BEAM_CFG_CODE.off) / st < 8 then
        putBits w Bm.BEAM_CFG_CODE.hi Bm.BEAM_CFG_CODE.lo (8 * (page - 0x50) + (off - Bm.BEAM_CFG_CODE.off) / st)
      else w
  | _ => w

/-- The word that the fields at an offset spell at reset. -/
def resetFold (fs : List (RegField × Nat × Nat)) (w : Word) : Word :=
  match fs with
  | [] => w
  | (r, _, _) :: rest => resetFold rest (putBits w r.f.hi r.f.lo r.reset)

/-- The reset value of a register (R6). -/
def Reg.reset (key : Nat) : Word :=
  let off := key / 8 % 4096
  let page := key / 8 / 4096
  specialReset page off (resetFold (fieldsAt (tableOf page off) off) 0)

/-- A register's word as it is kept. -/
def State.reg (s : State) (page off : Nat) (bank : Nat := 0) : Word :=
  Sparse.get Reg.reset s.regs (Reg.key page off bank)

/-- The state with a register's word replaced. -/
def State.setReg (s : State) (page off : Nat) (w : Word) (bank : Nat := 0) : State :=
  { s with regs := Sparse.set Reg.reset s.regs (Reg.key page off bank) w }

/-- The offset of a field at indices. -/
def Field.pos (f : Field) (i : Nat := 0) (j : Nat := 0) : Nat := f.off + i * f.stride + j * f.stride2

/-- The value of a field of a page. -/
def State.fld (s : State) (page : Nat) (f : Field) (i : Nat := 0) (j : Nat := 0) : Nat :=
  bitsOf (s.reg page (f.pos i j)) f.hi f.lo

/-- The value of a signed field of a page (R6). -/
def State.sfld (s : State) (page : Nat) (f : Field) (i : Nat := 0) (j : Nat := 0) : Int :=
  signedOf (f.hi + 1 - f.lo) (s.fld page f i j)

/-- A one-bit field as a truth value. -/
def State.flag (s : State) (page : Nat) (f : Field) (i : Nat := 0) (j : Nat := 0) : Bool := s.fld page f i j != 0

/-- The state with a field of a page replaced. -/
def State.setFld (s : State) (page : Nat) (f : Field) (v : Nat) (i : Nat := 0) (j : Nat := 0) : State :=
  s.setReg page (f.pos i j) (putBits (s.reg page (f.pos i j)) f.hi f.lo v)

/-- The state with a signed field of a page replaced. -/
def State.setSfld (s : State) (page : Nat) (f : Field) (v : Int) (i : Nat := 0) (j : Nat := 0) : State :=
  s.setFld page f (patternOf (f.hi + 1 - f.lo) v) i j

/-- A counter field raised by `n`, saturating at its width. -/
def State.bump (s : State) (page : Nat) (f : Field) (i : Nat := 0) (j : Nat := 0) (n : Nat := 1) : State :=
  s.setFld page f (saturate (f.hi + 1 - f.lo) (s.fld page f i j + n)) i j

/-- The 64-bit value at a pair of registers (R3): the lowest word at `f`. -/
def State.fld64 (s : State) (page : Nat) (f : Field) (i : Nat := 0) : Nat :=
  (s.reg page (f.pos i)).toNat + 2 ^ 32 * (s.reg page (f.pos i + 4)).toNat

/-- The state with a 64-bit value written to a pair of registers (R3). -/
def State.setFld64 (s : State) (page : Nat) (f : Field) (v : Nat) (i : Nat := 0) : State :=
  (s.setReg page (f.pos i) (lowWord v)).setReg page (f.pos i + 4) (highWord v)

/-- PAGE_STATE.STATE of a page. -/
def State.pstate (s : State) (page : Nat) : Nat := s.fld page Hd.PAGE_STATE_STATE

/-- The state with PAGE_STATE.STATE of a page set. -/
def State.setPstate (s : State) (page v : Nat) : State := s.setFld page Hd.PAGE_STATE_STATE v

/-- PAGE_GEN.GEN of a page (R57). -/
def State.gen (s : State) (page : Nat) : Nat := s.fld page Hd.PAGE_GEN_GEN

/-- The generation that follows another (R57): 0xFFFF goes to 1. -/
def nextGen (g : Nat) : Nat := if g ≥ 0xFFFF then 1 else g + 1

/-- The present time of R9. -/
def State.time (s : State) : Nat := ((s.now : Int) + s.timeShift).toNat % 2 ^ 64

/-- The start of a command at instant `t`: the clock moves to `t` (never back) and nothing has been sent yet. -/
def State.start (s : State) (t : Nat) : State := { s with now := max s.now t, out := [] }

/-- The state with one of its parts replaced. -/
def State.putOut (s : State) (x : List OutMsg) : State := { s with out := x }
def State.putOpens (s : State) (x : List OpenCmd) : State := { s with opens := x }
def State.putFabric (s : State) (x : Fabric) : State := { s with fabric := x }
def State.putHost (s : State) (x : HostState) : State := { s with host := x }
def State.putOc (s : State) (x : OcRec) : State := { s with oc := x }
def State.putKerb (s : State) (x : KerbRec) : State := { s with kerb := x }
def State.putDumpStore (s : State) (x : DumpStore) : State := { s with dumpStore := x }
def State.putMgmt (s : State) (x : MgmtRec) : State := { s with mgmt := x }
def State.putLc (s : State) (x : LcRec) : State := { s with lc := x }
def State.putPower (s : State) (x : PowerRec) : State := { s with power := x }
def State.putLines (s : State) (x : List Nat) : State := { s with lines := x }
def State.putPosts (s : State) (x : PerLane (List ClePost)) : State := { s with clePosts := x }
def State.putAvenues (s : State) (x : Tab AvRec) : State := { s with avenues := x }
def State.putClock (s : State) (shift : Int) (unset : Bool) : State := { s with timeShift := shift, clockUnset := unset }
def State.putCle (s : State) (l : Lane) (x : CleRec) : State := { s with cles := s.cles.set l x }
def State.putMem (s : State) (l : Lane) (x : MemRec) : State := { s with mems := s.mems.set l x }
def State.putLowWrites (s : State) (x : Tab Nat) : State := { s with lowWrites := x }
def State.putPair (s : State) (x : PairRec) : State := { s with pair := x }
def State.putLatched (s : State) (x : Tab Nat) : State := { s with latched := x }

/-- The state with one more thing sent. -/
def State.send (s : State) (k : OutKind) (ws : List Nat) : State := (s.putOut (s.out ++ [{ kind := k, words := ws }]))

/-- PORT_CFG of a port in force (R156). -/
def State.portCfg (s : State) (p : Nat) : Word :=
  match s.host.ports.rd none p with
  | some c => c.cfg
  | none => s.reg 5 (Pt.PORT_CFG_ENA.pos p)

/-- A datagram sent from a port to an address (R127, R156): tagged with the port's VLAN and priority, and counted. -/
def State.sendOn (s : State) (p ip udp : Nat) (m : OutMsg) (ttl : Nat := 0) : State :=
  let c := s.portCfg p
  let v := bitsOf c Pt.PORT_CFG_VLAN_ID.hi Pt.PORT_CFG_VLAN_ID.lo
  let w : Wire := ⟨p, v, if v = 0 then 0 else bitsOf c Pt.PORT_CFG_PCP.hi Pt.PORT_CFG_PCP.lo, ip, udp, ttl⟩
  (s.bump 5 Pt.TX_FRAMES p).putOut (s.out ++ [{ m with wire := some w }])

/-- A message sent to the host of a slot. -/
def State.tell (s : State) (k : Nat) (m : OutMsg) : State :=
  let x := s.host.slots.rd {} k
  s.sendOn x.port x.ip x.udp m

/-- The header of a Hanuca message (R135): VER, TYPE, LEN, REQ_NO, SLOT, DISPOSITION, HINT. -/
def hanucaHead (typ len reqNo slot disp hint : Nat) : List Nat := [1, typ, len, reqNo, slot, disp, hint]

/-- The disposition of a Hanuca reply. -/
def OutMsg.disposition (m : OutMsg) : Nat := m.words.getD 5 0

/-- An unsolicited message to the host of a slot (R135, R136): REQ_NO 0 and DISPOSITION 0. -/
def unsolicited (kind : OutKind) (typ len slot : Nat) (body : List Nat) : OutMsg :=
  { kind := kind, words := hanucaHead typ len 0 slot 0 0 ++ body }

/-- An event record as it is laid out (R141): the time's low and high word, SEQ, ID and GEN, ARG, FLAGS. -/
def EvtRec.words (r : EvtRec) : List Nat :=
  [r.time % 2 ^ 32, r.time / 2 ^ 32 % 2 ^ 32, r.seq, r.id % 2 ^ 11 + r.gen % 2 ^ 16 * 2 ^ 16, r.arg,
    bool01 r.test + bool01 r.unsynced * 2 + bool01 r.clockUnset * 4 + bool01 r.gap * 8]

/-- An EVENTS message with the given records to a host (R141). -/
def State.sendEvents (s : State) (k : Nat) (rs : List EvtRec) : State :=
  if rs = [] then s else s.tell k (unsolicited .events 0xC0 (16 + 24 * rs.length) k (rs.length :: rs.flatMap EvtRec.words))

/-- A free value: the next one, and the state with the counter advanced (log entry 3). -/
def State.free (s : State) : DWord × State := (Config.freeValue s.freeCtr, { s with freeCtr := s.freeCtr + 1 })

/-- The page of a lane's lane page (R40). -/
def lanePage : Lane → Nat
  | .a => 0x01
  | .b => 0x02

/-- The page of a lane's CLE (R40). -/
def clePage : Lane → Nat
  | .a => 0x08
  | .b => 0x09

/-- The first 64 bits of the digest of the installed device certificate (R606), low word first: the unit's own (log entry 4)
until CERT_INSTALL has changed it. IDENT_REF is the first word, OWN_REF both. -/
def State.certRef (s : State) : Nat :=
  s.lc.ownRef.getD ((Config.unitValue (Reg.key 0x61 Sc.OWN_REF_LO.off 0)).toNat
    + 2 ^ 32 * (Config.unitValue (Reg.key 0x61 Sc.OWN_REF_HI.off 0)).toNat)

/-- The lane that a number names. -/
def laneOf? (n : Nat) : Option Lane := if n = 1 then some .a else if n = 2 then some .b else none

/-- The lane state code of R84. -/
def State.laneState (s : State) (l : Lane) : Nat := s.pstate (lanePage l)

/-- The owner of a resource page: 1 lane A, 2 lane B (R87). -/
def State.owner (s : State) (page : Nat) : Nat := s.fld 3 Xg.OWN_STATE_OWNER page

/-- The ownership record of a resource page. -/
def State.resRec (s : State) (page : Nat) : ResRec := s.res.rd {} page

/-- The state with the ownership record of a resource page replaced. -/
def State.setRes (s : State) (page : Nat) (r : ResRec) : State := { s with res := s.res.wr {} page r }

/-- The session of a slot. -/
def State.slot (s : State) (k : Nat) : Session := s.host.slots.rd {} k

/-- The state with the session of a slot replaced. -/
def State.setSlot (s : State) (k : Nat) (x : Session) : State :=
  (s.putHost { s.host with slots := s.host.slots.wr {} k x })

/-- A lane's record. -/
def State.lane (s : State) (l : Lane) : LaneRec := s.lanes.of l

/-- The state with a lane's record replaced. -/
def State.setLane (s : State) (l : Lane) (x : LaneRec) : State := { s with lanes := s.lanes.set l x }

/-- The lane that serves page 0x03 (R95): lane A unless it is DOWN or BOOTING. -/
def State.servingLane (s : State) : Lane := if s.laneState .a ≥ 2 then .a else .b

/-- A fold of a change over a list of numbers. -/
def State.each (s : State) (ks : List Nat) (f : State → Nat → State) : State := ks.foldl f s


end Sys2Proof.Machine
end

