-- ==== Sys2Proof/Machine/Events.lean ====
section
/-! DEFINITION. Events (R64-R67, R74, R76): an occurrence sets its PEND bit, produces a record that enters the
intake of the fabric, and is posted to the CLEs. -/

namespace Sys2Proof.Machine

/-- The record of an occurrence (R66): an event for which no argument is stated carries 0 (log entry 6). -/
def State.evtRec (s : State) (page bit arg : Nat) (test : Bool) : EvtRec :=
  { time := s.time, id := page * 16 + bit, gen := s.gen page, arg := arg, test := test,
    unsynced := !s.flag 0 Dev.TIME_STATUS_SYNCED, clockUnset := s.clockUnset }

/-- The destinations of a page's records (R65, R75, R141): hosts whose event stream runs, lane firmware,
management. -/
def State.evtDests (s : State) (page : Nat) : List Nat :=
  ((List.range 4).filter fun n => bitAt (s.fld page Hd.EVT_ROUTE_HOSTS) n && (s.slot n).active && (s.slot n).streaming)
    ++ (if s.flag page Hd.EVT_ROUTE_LANE_FW then [4, 5] else [])
    ++ (if s.flag page Hd.EVT_ROUTE_MGMT then [6] else [])

/-- A record dropped for one destination (R74, R76): counted, remembered for the next GAP record, and written to
LAST_DROP. -/
def State.dropFor (s : State) (r : EvtRec) (d : Nat) : State :=
  let q := s.fabric.dests.rd {} d
  let s := (s.putFabric { s.fabric with dests := s.fabric.dests.wr {} d { q with gap := q.gap + 1 } })
  ((s.bump 0x7E Fab.DEST_DROPS d).setFld 0x7E Fab.LAST_DROP_DEST d).setFld 0x7E Fab.LAST_DROP_ID r.id

/-- A record produced (R74, R75): counted, then put into the intake, or dropped for every destination while the
intake holds 256 records. -/
def State.produce (s : State) (r : EvtRec) (ds : List Nat) : State :=
  let f := s.fabric
  let sec := s.now / 1000000000
  let f := { f with
    total := f.total + 1
    second := sec
    inSecond := if sec = f.second then f.inSecond + 1 else 1
    prevSecond := if sec = f.second then f.prevSecond else if sec = f.second + 1 then f.inSecond else 0 }
  if f.intake.length < 256 then (s.putFabric { f with intake := f.intake ++ [⟨r, ds⟩] })
  else ds.foldl (fun s d => s.dropFor r d) (s.putFabric (f))

/-- The event ID of QUEUE_OVERFLOW (R76). -/
def overflowId : Nat := 0x7E * 16

/-- One more occurrence of an event among those a CLE will be posted (R67). -/
def addPost (ps : List ClePost) (task id : Nat) : List ClePost :=
  match ps with
  | [] => [⟨task, id, 1⟩]
  | p :: rest => if p.task = task ∧ p.id = id then ⟨task, id, p.count + 1⟩ :: rest else p :: addPost rest task id

/-- An occurrence routed to the CLEs: kept for the next boundary of each CLE in RUN or HOLD, dropped elsewhere
(R67). -/
def State.postCle (s : State) (page bit : Nat) : State :=
  if s.flag page Hd.EVT_ROUTE_CLE then
    let one (l : Lane) : List ClePost :=
      if s.pstate (clePage l) = 2 ∨ s.pstate (clePage l) = 3 then
        addPost (s.clePosts.of l) (s.fld page Hd.EVT_ROUTE_TASK) (page * 16 + bit)
      else s.clePosts.of l
    s.putPosts ⟨one .a, one .b⟩
  else s

/-- A record produced whose drops raise QUEUE_OVERFLOW, itself excepted (R76). -/
def State.produceLoud (s : State) (r : EvtRec) (ds : List Nat) : State :=
  let full := decide (256 ≤ s.fabric.intake.length)
  let s1 := s.produce r ds
  if full && r.id != overflowId then
    ds.foldl (fun s d =>
      let s := s.setFld 0x7E Hd.EVT_PEND (setBit (s.fld 0x7E Hd.EVT_PEND) 0 true)
      if bitAt (s.fld 0x7E Hd.EVT_ENA) 0 && s.flag 0x7E Hd.PAGE_CTRL_EVT_DELIVER then
        (s.produce (s.evtRec 0x7E 0 d false) (s.evtDests 0x7E)).postCle 0x7E 0
      else s) s1
  else s1

/-- An occurrence of an event (R65): its PEND bit is set, and, while enabled and delivered, it produces a record and
is posted. -/
def State.occur (s : State) (page bit arg : Nat) (test : Bool) : State :=
  let s := s.setFld page Hd.EVT_PEND (setBit (s.fld page Hd.EVT_PEND) bit true)
  if bitAt (s.fld page Hd.EVT_ENA) bit && s.flag page Hd.PAGE_CTRL_EVT_DELIVER then
    (s.produceLoud (s.evtRec page bit arg test) (s.evtDests page)).postCle page bit
  else s

/-- A pulse event. -/
def State.raise (s : State) (page bit : Nat) (arg : Nat := 0) : State := s.occur page bit (arg % 2 ^ 32) false

/-- A level event brought to its condition: a rising edge of its RAW bit is an occurrence (R65). -/
def State.level (s : State) (page bit : Nat) (on : Bool) (arg : Nat := 0) : State :=
  let old := bitAt (s.fld page Hd.EVT_RAW) bit
  let s := s.setFld page Hd.EVT_RAW (setBit (s.fld page Hd.EVT_RAW) bit on)
  if on && !old then s.occur page bit (arg % 2 ^ 32) false else s

end Sys2Proof.Machine
end

