-- ==== Sys2Proof/Machine/VatLog.lean ====
section
/-! DEFINITION. What is handed to a Vat (R546-R548, R560, R561): partitions, event log entries, history entries. -/

namespace Sys2Proof.Machine

/-- A lane's Vat and its page. -/
def State.vat (s : State) (l : Lane) : VatRec := s.vats.of l
def State.setVat (s : State) (l : Lane) (v : VatRec) : State := { s with vats := s.vats.set l v }
def vatPage : Lane → Nat
  | .a => 0x68
  | .b => 0x69

/-- The lane that a number of an owner names; lane A where there is none. -/
def laneNum (n : Nat) : Lane := if n = 2 then .b else .a

/-- VAT_WEAR (R566, R571): WEAR_PCT at or above WEAR_WARN_PCT, or SPARE_PCT below 10. -/
def State.showWear (s : State) (l : Lane) : State :=
  let p := vatPage l
  s.level p 5 (s.fld p Vt.VAT_CFG_WEAR_WARN_PCT ≤ s.fld p Vt.WEAR_WEAR_PCT || (s.vat l).scarce)

/-- The size of a write unit (R547), and of each partition (R546), in bytes. -/
def unitBytes : Nat := 65536
def partSize (p : Nat) : Nat :=
  match p with
  | 0 => 1200000000000
  | 1 => 400000000000
  | 2 => 100000000000
  | 3 => 100000000000
  | _ => 11800000000000

/-- A partition of a Vat, and the Vat with it replaced. -/
def VatRec.part (v : VatRec) (p : Nat) : PartRec := v.parts.rd {} p
def VatRec.setPart (v : VatRec) (p : Nat) (r : PartRec) : VatRec := { v with parts := v.parts.wr {} p r }

/-- The bytes of a partition that wait to be programmed. -/
def VatRec.waiting (v : VatRec) (p : Nat) : Nat := (v.part p).handed - (v.part p).programmed

/-- Bytes handed to a partition. -/
def VatRec.hand (v : VatRec) (p n : Nat) : VatRec := v.setPart p { v.part p with handed := (v.part p).handed + n }

/-- The states of R567 in which a Vat takes records: it writes nothing more in READ_ONLY and FAILED. -/
def State.vatTakes (s : State) (l : Lane) : Bool := s.fld (vatPage l) Vt.VAT_STATUS_STATE < 4

/-- BUF_FILL.CURD_PCT brought up to date: the 1 MB buffer of curd records, mirrored records and event entries (R8, R556). -/
def State.showCurdFill (s : State) (l : Lane) : State :=
  let v := s.vat l
  s.setFld (vatPage l) Vt.BUF_FILL_CURD_PCT (saturate 8 ((v.waiting 0 + v.waiting 1) * 100 / 2 ^ 20))

/-- An entry of the event log (R560): 64 bytes. -/
def State.logEntry (s : State) (l : Lane) (r : EvtRec) (kind : Nat) (words : List Nat) : State :=
  if !s.vatTakes l then s
  else
    let v := (s.vat l).hand 1 64
    (s.setVat l { v with log := v.log ++ [⟨r, kind, words, (v.part 1).handed⟩] }).showCurdFill l

/-- The record of an entry that no event gives (R560): time and flags as a record of R66 has them. -/
def State.plainRec (s : State) : EvtRec :=
  { time := s.time, id := 0, gen := 0, arg := 0, test := false, unsynced := !s.flag 0 Dev.TIME_STATUS_SYNCED,
    clockUnset := s.clockUnset }

/-- Whether a lane holds its Vat key: its secure region is LOADED (R547, R548). -/
def State.vatSealed (s : State) (l : Lane) : Bool :=
  s.fld 0x66 (match l with | .a => Sr.SEC_STATUS_A | .b => Sr.SEC_STATUS_B) == 1

/-- An entry of partition 2 (R561): a 64-byte header and its content. Without the key it is held in SRAM, at most 64 of
them (R548). -/
def State.histEntry (s : State) (l : Lane) (kind len digest : Nat) (content : List Nat := []) : State :=
  let e : HistEntry := ⟨s.time, kind, len, digest, 0, s.lc.vatKeyGen, content⟩
  let p := vatPage l
  if !s.vatTakes l then s
  else if s.vatSealed l then
    let v := (s.vat l).hand 2 (64 + len)
    s.setVat l { v with history := v.history ++ [{ e with pos := (v.part 2).handed }] }
  else
    let v := s.vat l
    if v.heldBack.length < 64 then
      (s.setVat l { v with heldBack := v.heldBack ++ [e] }).setFld p Vt.HELD_HELD_NOW (v.heldBack.length + 1)
    else s.bump p Vt.HELD_HELD_DROPS

/-- The key of a lane's Vat is loaded (R548): SEALING, and the entries held are written. -/
def State.vatKeyLoaded (s : State) (l : Lane) : State :=
  let p := vatPage l
  let s := (s.setFld p Vt.VAT_STATUS_SEALING 1).level p 6 false
  let held := (s.vat l).heldBack
  let put (v : VatRec) (e : HistEntry) : VatRec :=
    let v := v.hand 2 (64 + e.length)
    { v with history := v.history ++ [{ e with pos := (v.part 2).handed, gen := s.lc.vatKeyGen }] }
  let v := held.foldl put (s.vat l)
  (s.setVat l { v with heldBack := [] }).setFld p Vt.HELD_HELD_NOW 0

/-- Whether the Crossing is not lost for a lane (R79): not both links are DOWN in its own state. -/
def State.hasCrossing (s : State) (l : Lane) : Bool := (s.lane l).link0.state != 0 || (s.lane l).link1.state != 0

/-- A Crossing frame sent by a lane (R77): its type (0 IDLE, 1 MARK, 2 EXCHANGE, 3 RECEIPT, 4 COMPARE, 5 AGREE, 6 MIRROR, 7 JOIN,
8 HELLO), the sequence number of the type, the session generation, and what it carries. A copy goes on each link that is UP in
the lane's own state, with that state (R78); a lane that is being reset sends only IDLE frames (R110). -/
def State.sendFrame (s : State) (l : Lane) (type : Nat) (ws : List Nat) : State :=
  let r := s.lane l
  if !r.sending || !(r.phase == .running || r.phase == .booting) then s
  else
    let n := (r.seqs.rd 0 type + 1) % 2 ^ 16
    let s := s.setLane l { r with seqs := r.seqs.wr 0 type n }
    [0, 1].foldl (fun s k =>
      if (r.link k).state = 2 then s.send .frame ([l.num, k, 2, type, n, s.gen (lanePage l)] ++ ws) else s) s

/-- What lane firmware does with a record of its queue (R560): it writes it to the event log. -/
def State.fwLogs (s : State) (l : Lane) (r : EvtRec) : State := s.logEntry l r (if r.gap then 2 else 1) []

end Sys2Proof.Machine
end

