-- ==== Sys2Proof/Machine/MgmtLog.lean ====
section
/-! DEFINITION. The management log (R580). -/

namespace Sys2Proof.Machine

/-- The bytes of a number, least significant first. -/
def leBytes : Nat → Nat → List Nat
  | 0, _ => []
  | n + 1, v => v % 256 :: leBytes n (v / 256)

/-- The 24 bytes of an event record (R141): TIME, SEQ, ID, GEN, ARG, and the flags TEST, UNSYNCED, CLOCK_UNSET and GAP. -/
def recordBytes (r : EvtRec) : List Nat :=
  leBytes 8 r.time ++ leBytes 4 r.seq ++ leBytes 2 r.id ++ leBytes 2 r.gen ++ leBytes 4 r.arg
    ++ [bool01 r.test + 2 * bool01 r.unsynced + 4 * bool01 r.clockUnset + 8 * bool01 r.gap, 0, 0, 0]

/-- How many entries the log holds (R580). -/
def mlogCap : Nat := 15625000

/-- MGMT_RESETS and the like are kept; the log's own bounds are shown in MLOG_OLDEST and MLOG_NEWEST (R595). -/
def State.mlog (s : State) (kind : Nat) (data : List Nat) : State :=
  let m := s.mgmt
  let e : MlogEntry := ⟨s.time, m.nextIndex, kind, data⟩
  let full := decide (mlogCap ≤ m.log.length)
  let log := (if full then m.log.drop 1 else m.log) ++ [e]
  let s := (s.putMgmt { m with log := log, nextIndex := m.nextIndex + 1, wrapped := m.wrapped || full })
  let s := s.setFld 0x70 Mg.MLOG_NEWEST (m.nextIndex % 2 ^ 32)
  let s := if full then s.setFld 0x70 Mg.MLOG_OLDEST ((m.nextIndex + 1 - mlogCap) % 2 ^ 32) else s
  let s := s.send .mlog [kind, m.nextIndex]
  if full && !m.wrapped then s.raise 0x70 4 else s

/-- Whether management serves: the common rail is present and its boot of 150 ms is over (R113, whose instants are typical). -/
def State.mgmtRuns (s : State) : Bool := s.power.common && !s.mgmt.fwBad && s.mgmt.bootAt + 150000000 ≤ s.now

/-- The signal of a clear frame of a beam that is enabled, as ripening averages it over its run period (R583): SIGNAL_NA × 100 /
LED_MA, in nA per 100 mA. -/
def State.ripSignal (s : State) (beam signal ma : Nat) : State :=
  let m := s.mgmt
  let x := m.items.rd {} (64 + beam)
  s.putMgmt { m with items := m.items.wr {} (64 + beam) { x with sum := x.sum + signal * 100 / ma, count := x.count + 1 } }

/-- A record of the management queue (R74, R580). -/
def State.mgmtLogs (s : State) (r : EvtRec) : State := s.mlog 2 (recordBytes r)

end Sys2Proof.Machine
end

