-- ==== Sys2Proof/Machine/Access.lean ====
section
/-! DEFINITION. Who may do what on a page (R46, R50, R55, R58, R147, R148): rights, the configuration-owner claim,
ownership and the lock. -/

namespace Sys2Proof.Machine

/-- The result codes of R49. -/
def RC.done : Nat := 0x00
def RC.accepted : Nat := 0x01
def RC.delayed : Nat := 0x02
def RC.state : Nat := 0x03
def RC.rights : Nat := 0x04
def RC.busy : Nat := 0x05
def RC.generation : Nat := 0x06
def RC.range : Nat := 0x07
def RC.owner : Nat := 0x08
def RC.collided : Nat := 0x09
def RC.ration : Nat := 0x0A
def RC.opcode : Nat := 0x0B
def RC.aborted : Nat := 0x0C

/-- What becomes of a request that no result code of R49 answers now: it is held (R48), or it is a write that is ignored (R4, R5). -/
def RC.held : Nat := 0x100
def RC.ignored : Nat := 0x101

/-- Whether a request of a lane to a resource page is held behind an ownership request of that lane (R48, R54). -/
def State.holds (s : State) (page code : Nat) : Bool :=
  (code == 1 || code == 2) && (s.resRec page).arb.any fun r => r.req.code == code

/-- The four rights of R147, by their bit in a RIGHTS nibble (R159). -/
def Right.read : Nat := 0
def Right.process : Nat := 1
def Right.config : Nat := 2
def Right.command : Nat := 3

/-- The rights nibble of a role on a page (R147, R149, R159): ADMINISTRATOR on page 0x06 always holds all four, and
unused pages give none. -/
def State.rightsOf (s : State) (role page : Nat) : Nat :=
  if !pageUsed page then 0
  else if role = 2 ∧ page = 6 then 15
  else (s.reg 6 (0x400 + 0x40 * role + 4 * (page / 8))).toNat / 16 ^ (page % 8) % 16

/-- Whether a host's session holds a right on a page (R147). -/
def State.hostRight (s : State) (code page right : Nat) : Bool :=
  let x := s.slot (code - 4)
  x.active && bitAt (s.rightsOf x.role page) right

/-- Whether a requester is the configuration-owner host (R148). -/
def State.hasClaim (s : State) (code : Nat) : Bool := code ≥ 4 && s.host.holder == some (code - 4)

/-- Whether the role of a host's session is the given one. -/
def State.hostRole (s : State) (code role : Nat) : Bool :=
  code ≥ 4 && (s.slot (code - 4)).active && (s.slot (code - 4)).role == role

/-- The lane whose part serves a page only while the lane runs (R95, R195, R540): lane, CLE, memory and Vat pages. -/
def laneOfPage? (page : Nat) : Option Lane :=
  if page = 0x01 ∨ page = 0x08 ∨ page = 0x64 ∨ page = 0x68 then some .a
  else if page = 0x02 ∨ page = 0x09 ∨ page = 0x65 ∨ page = 0x69 then some .b
  else none

/-- The pages that management serves (R574). -/
def mgmtPage (page : Nat) : Bool := page == 0x66 || (0x70 ≤ page && page ≤ 0x74) || page == 0x7F

/-- Whether the part that serves a page takes writes and commands: a lane in DOWN or BOOTING takes none (R95), nor
does management in RETIRED (R616). -/
def State.pageServed (s : State) (page : Nat) : Bool :=
  match laneOfPage? page with
  | some l => s.laneState l ≥ 2
  | none => !(s.pstate 0x74 == 4 && mgmtPage page)

/-- On an owned page, whether a request arrives from the owner lane (R15, R34): a lane only as owner, a host or
management through the owner, and nobody before the owner's first heartbeat has come. -/
def State.fromOwner (s : State) (code page : Nat) : Bool :=
  if (pageKind page).owned then
    (s.resRec page).accepted && (code ≠ 1 && code ≠ 2 || code == s.owner page)
  else true

/-- Whether the requester still has a command open on the page (R50, check 5). -/
def State.hasOpen (s : State) (code page : Nat) : Bool := s.opens.any fun o => o.code == code && o.page == page

/-- PAGE_STATE.BUSY (R43, R52). -/
def State.pageBusy (s : State) (page : Nat) : Bool := s.opens.any fun o => o.page == page

/-- A rule for who may issue a command, checked at step 3 of R50. -/
inductive Who where
  /-- Hosts that hold COMMAND on the page; on owned pages the lanes too (R147, R15). -/
  | command
  /-- The configuration-owner host (R148), which needs COMMAND too. -/
  | cfgHost
  /-- The configuration-owner host, or a host with COMMAND (R100). -/
  | cfgOrCommand
  /-- Hosts with COMMAND and the lanes, on a page that belongs to no lane. -/
  | hostsAndLanes
  /-- The lanes only (R89). -/
  | lanes
  /-- Hosts with COMMAND, and management on its own pages. -/
  | hostsAndMgmt
  /-- A host of the ADMINISTRATOR role with COMMAND. -/
  | admin
  /-- The configuration-owner host of the given role, or the role alone where `claim` is false. -/
  | role (r : Nat) (claim : Bool)
  /-- Hosts of the roles with these bits set, with COMMAND. -/
  | roles (mask : Nat)
  /-- Hosts of the roles with these bits set that hold the claim, with COMMAND (R619). -/
  | rolesClaim (mask : Nat)
  /-- A SERVICE session whose certificate chains to the factory anchor, with COMMAND (R619). -/
  | factory
  /-- Everyone. -/
  | any
  deriving DecidableEq, Repr

/-- Whether a requester has the right to a command of a page. -/
def State.may (s : State) (who : Who) (code page : Nat) : Bool :=
  let host := code ≥ 4 && s.hostRight code page Right.command
  let lane := code == 1 || code == 2
  match who with
  | .command => (host && (page != 0x0A || s.hasClaim code)) || (lane && (pageKind page).owned)
  | .cfgHost => host && s.hasClaim code
  | .cfgOrCommand => host || (code ≥ 4 && s.hasClaim code)
  | .hostsAndLanes => host || lane
  | .lanes => lane
  | .hostsAndMgmt => host || code == 3
  | .admin => host && s.hostRole code 2
  | .role r claim => host && s.hostRole code r && (!claim || s.hasClaim code)
  | .roles m => host && bitAt m (s.slot (code - 4)).role
  | .rolesClaim m => host && bitAt m (s.slot (code - 4)).role && s.hasClaim code
  | .factory => host && s.hostRole code 3 && (s.slot (code - 4)).factory
  | .any => true

/-- What a register is to the checks of a write (R46, R47, R55). -/
inductive WriteClass where
  /-- A configuration field: an RW or RWC field from 0x100 upwards. -/
  | config
  /-- A header register of R47. -/
  | header
  /-- Process data (R46): outputs, setpoints and motion requests. -/
  | process
  /-- Read-only or reserved: the write is ignored (R4, R5). -/
  | ignored
  deriving DecidableEq, Repr

/-- Process data of each page kind (R46), as its chapter names it. -/
def processData (k : PageKind) (off : Nat) : Bool :=
  match k with
  | .bank => decide (off = Bk.OUT_SET.off)
  | .lsGroup => decide (off = 0x140 ∨ (0x400 ≤ off ∧ (off - 0x404) % 0x40 = 0 ∧ off < 0x600))
  | .loopGroup => decide (0x400 ≤ off ∧ off < 0x800 ∧ (off - 0x400) % 0x80 = 0x14)
  | .avenue => decide (0x600 ≤ off ∧ off % 0x20 ≥ 0x18)
  | .can => decide ((0x170 ≤ off ∧ off < 0x200) ∨ 0x300 ≤ off)
  | _ => false

/-- A register that only selects what a window shows to its writer (R278, R394, R517): neither configuration nor process
data, so READ suffices to write it and the lock does not hold it (DEDUCED, log entry 17). -/
def selector (k : PageKind) (off : Nat) : Bool :=
  match k with
  | .corner => off == Cn.WIN_SEL_AVENUE.off
  | .axis => off == Ax.MAP_BASE.off
  | .conns => off == Sc.CONN_SEL.off
  | _ => false

/-- The class of a register word: what any writable field at its offset is. -/
def writeClass (page off : Nat) : WriteClass :=
  if off < 0x100 then
    if off = 0x14 ∨ off = 0x1C ∨ off = 0x24 ∨ off = 0x28 ∨ off = 0x2C then .header else .ignored
  else if (fieldsAt (tableOf page off) off).any fun r => r.1.acc != .ro then
    if processData (pageKind page) off || selector (pageKind page) off then .process else .config
  else .ignored

/-- Whether a lane may write a register of a page that belongs to no lane: none unless a chapter names it. -/
def laneMayWrite (k : PageKind) (off : Nat) : Bool :=
  match k with
  | .corner => true
  | .avenue => decide (0x600 ≤ off ∧ off % 0x20 ≥ 0x18)
  | .safeOut => decide (off = 0x100)
  | .conns => selector .conns off
  | _ => k.owned && decide (off < 0x1000)

/-- The rights check of a write (R55, R147, R148). Code 0 is the configuration image, which needs no right. -/
def State.mayWrite (s : State) (code page off : Nat) : Bool :=
  match code with
  | 0 => true
  | 1 | 2 => laneMayWrite (pageKind page) off
  | 3 => decide (0x70 ≤ page ∧ page ≤ 0x74) && !(page == 0x73 && (off == 0x10C || decide (0x800 ≤ off)))
  | _ =>
    -- the window of page 0x74 and WIN_CTRL follow R619 in place of R147 and R148 (R620)
    if page = 0x74 ∧ (off = 0x150 ∨ 0x400 ≤ off) then
      bitAt 12 (s.slot (code - 4)).role && (s.slot (code - 4)).active && s.hasClaim code
    else if selector (pageKind page) off then s.hostRight code page Right.read
    else
    match writeClass page off with
    | .process => s.hostRight code page Right.process
    | .config | .header => s.hostRight code page Right.config && s.hasClaim code
    | .ignored => true

/-- Whether the module is RETIRED (R616): every command and every write is then refused. -/
def State.retired (s : State) : Bool := s.fld 0x74 Lc.LC_STATUS_STATE == 4

/-- The checks of a write in the order generation, rights, owner, lock (R55): 0 passes. -/
def State.writeVerdict (s : State) (w : WriteReq) : Nat :=
  if s.holds w.page w.code then RC.held
  else if writeClass w.page w.off = .ignored then RC.ignored
  else if s.retired ∧ w.code ≠ 0 then RC.state
  else if w.gen ≠ s.gen w.page then RC.generation
  else if !s.mayWrite w.code w.page w.off then RC.rights
  else if !s.pageServed w.page && w.code != 0 then RC.state
  else if w.code ≠ 0 ∧ !s.fromOwner w.code w.page then RC.owner
  else if w.code ≠ 0 ∧ writeClass w.page w.off = .config ∧ s.flag w.page Hd.PAGE_LOCK_LOCK then RC.state
  else 0

end Sys2Proof.Machine
end

