-- ==== Sys2Proof/Machine/Clamp.lean ====
section
/-! DEFINITION. Clamping (R30, R31, R61, R62): the nearest permitted value of each field, and the clamp registers. -/

namespace Sys2Proof.Machine

/-- `v` held to a range of integers. -/
def clampInt (v lo hi : Int) : Int := if v < lo then lo else if v > hi then hi else v

/-- The distance of two numbers. -/
def distance (a b : Nat) : Nat := if a < b then b - a else a - b

/-- The permitted value nearest to `v`; of two equally near the higher one, or the lower one where a constraint
gives an upper limit (R61). An empty set permits everything. -/
def nearest (down : Bool) (v : Nat) : List Nat → Nat
  | [] => v
  | [x] => x
  | x :: rest =>
    let y := nearest down v rest
    if distance v x < distance v y then x
    else if distance v y < distance v x then y
    else if down then min x y else max x y

/-- The lowest current-loop rate in kHz in force on the motor buses whose axes a lane owns (R30, R70). -/
def State.lowestCurKhz (s : State) (l : Lane) : Option Nat :=
  let owns (p n : Nat) : Bool := (List.range' p n).any fun a => s.owner a == l.num
  let a := if owns 0x10 16 then [s.fld 0 Dev.EFF_BUS_A / 2 ^ 8 % 2 ^ 8] else []
  let b := if owns 0x20 16 then [s.fld 0 Dev.EFF_BUS_B / 2 ^ 8 % 2 ^ 8] else []
  (a ++ b).min?

/-- The press-capture rates a lane may use (R30). -/
def State.captureRates (s : State) (l : Lane) : List Nat :=
  match s.lowestCurKhz l with
  | none => [4, 8, 16]
  | some c => [4, 8, 16].filter fun r => 2 * r ≤ c

/-- The value of a bound (R61). -/
def State.bound (s : State) (page i j : Nat) (signed : Bool) : Bound → Int
  | .lit v => v
  | .fld f plus => (if signed then s.sfld page f i j else (s.fld page f i j : Int)) + plus

/-- A multiple of `step` nearest to `v` between `lo` and `hi`, the higher of two equally near. -/
def stepClamp (step lo hi v : Nat) : Nat := min hi (max lo ((v + step / 2) / step * step))

/-- The CLE minimum period that page 0x00 holds written, in µs (R29, R163). -/
def State.cleMinWritten (s : State) : Nat :=
  if s.flag 0 Dev.OVR_CLE_MIN_ENA then s.fld 0 Dev.OVR_CLE_MIN_PERIOD_US
  else match s.fld 0 Dev.PROFILE with
    | 1 => 250
    | 2 => 1000
    | _ => 500

/-- Rates, periods and sampling constraints (R30, R31, R163, R386, R414). -/
def State.clampRate (s : State) (page : Nat) (f : Field) (i : Nat) (rule : DynRule) (v : Nat) : Nat :=
  match rule with
  -- the rates of a bus, each against the fields of the same register already settled
  | .pwmKhz => nearest false v [16, 24, 32, 48]
  | .curKhz =>
    let p := bitsOf (s.reg page (f.pos i)) 7 0
    nearest true v ([16, 24, 32].filter fun c => c = p ∨ 2 * c = p)
  | .velKhz =>
    let c := bitsOf (s.reg page (f.pos i)) 15 8
    nearest false v ([4, 8].filter fun x => 2 * x ≤ c)
  | .posKhz => bitsOf (s.reg page (f.pos i)) 19 16 / 2
  | .step250 => stepClamp 250 250 1000 v
  | .clePeriod => max s.cleMinWritten (stepClamp 250 250 100000 v)
  | .captureRate => nearest false v (s.captureRates (if f = Dev.OVR_CAPTURE_A_RATE then .a else .b))
  | .step50 => stepClamp 50 50 10000 v
  | .retryMs => if v < 50 then 0 else max 100 (min v 10000)
  | _ => v

/-- Whether an avenue is circular (R260). -/
def State.avCirc (s : State) (a : Nat) : Bool :=
  let k := s.fld 0x0C Av.AV_SRC_KIND a
  k == 2 || k == 3 || k == 4 || k == 5 && s.flag 0x0C Av.AV_LIMITS_CIRC a

/-- Whether an action is permitted for the host stage of an avenue (R265). -/
def State.avAction (s : State) (a action : Nat) : Bool :=
  let k := s.fld 0x0C Av.AV_SRC_KIND a
  if action < 2 then true
  else if action < 9 then k == 1 || k == 2
  else action < 11 && k == 4

/-- The nearest argument that an action permits (R265). -/
def actArg (action v : Nat) : Nat :=
  match action with
  | 1 | 6 => v
  | 2 | 4 => max 30 (min v 400)
  | 3 => max 1 (min v 4000)
  | 9 => v % 32
  | 10 => if v / 16 = 0 then v + 16 else v
  | _ => 0

/-- Avenue and corner constraints (R265, R275, R278): a field that depends on KIND or ACTION of the same word is settled
against the permitted value of that field as written. -/
def State.clampAvenue (s : State) (page i : Nat) (rule : DynRule) (v : Nat) (word : Word) : Nat :=
  let kind := min 6 (bitsOf word 26 24)
  let action := if s.avAction (page - 0x80) (bitsOf word 19 16) then bitsOf word 19 16 else 0
  let inCircle (circ : Bool) : Nat := if circ then (clampInt (signedOf 32 v) 0 16777215).toNat else v
  match rule with
  | .avRes => min v (if kind = 1 ∨ kind = 2 then 31 else if kind = 3 then 3 else if kind = 4 then 15 else 0)
  | .avCh => if kind = 3 then min 6 ((v + 1) / 2 * 2) else if kind = 4 then v else 0
  | .avLane => if kind = 5 ∨ kind = 6 then min v 2 else 0
  | .avPos => inCircle (s.avCirc i)
  | .cnPos => inCircle (s.avCirc (page - 0x80))
  | .cnAction => action
  | .actArg => actArg action v
  | _ => v

/-- A role of a switch input, 0 where a lower-numbered input holds it (R310). -/
def roleFree (v : Nat) (held : List Nat) : Nat := if held.contains v then 0 else v

/-- Axis page constraints (R291-R293, R310, R342, R369). -/
def State.clampAxis (s : State) (page i : Nat) (rule : DynRule) (v : Nat) : Nat :=
  let linear := !Config.rotaryAxis page
  let rates := s.reg 0 (0x170 + 4 * ((page - 0x10) / 16))
  let sw := s.reg page Ax.SW_MAP_SW0.off
  let total := (if s.fld page Ax.FB_CFG_TYPE = 3 then 32 else 40) - s.fld page Ax.SER_FMT_PAD_BITS
  match rule with
  | .limitMode => if linear then 0 else v
  | .homeMethod => if !linear ∧ (v = 7 ∨ v = 8) then 0 else min v 9
  | .swRole1 => roleFree v [bitsOf sw 1 0]
  | .swRole2 => roleFree v [bitsOf sw 1 0, bitsOf sw 3 2]
  | .mechLead => if linear then max 1000 (min v 10000000) else 0
  | .velBw => max 1 (min v (min 400 (50 * bitsOf rates 19 16)))
  | .curBw => max 100 (min v (min 3200 (100 * bitsOf rates 15 8)))
  | .posBw => max 1 (min v (min 100 (s.fld page Ax.LOOP_BW_VEL_BW_HZ / 4)))
  | .stBits => max 1 (min v (min 32 total))
  | .mtBits => min v (min 32 (total - s.fld page Ax.SER_FMT_ST_BITS))
  | .ftPos => if i = 0 then v else patternOf 32 (max (signedOf 32 v) (s.sfld page Ax.FT_POS (i - 1)))
  | _ => v

/-- INDEX of a kerb map entry against its KIND (R445). -/
def kmapClamp (v : Nat) : Nat :=
  bool01 (bitAt v 15) * 2 ^ 15 + (if v % 2 = 0 then min (v / 2 % 256) 63 else v / 2 % 256) * 2 + v % 2

/-- CAN page constraints (R463, R479, R482): NTSEG2 and DTSEG2 are raised, DSJW and LAST lowered. -/
def State.clampCan (s : State) (page : Nat) (f : Field) (rule : DynRule) (v : Nat) (word : Word) : Nat :=
  let w := s.reg page f.off
  let quanta (rate : Nat) : Nat := (rate + bitsOf w 5 0 - 1) / max 1 (bitsOf w 5 0)
  match rule with
  | .syncId => if bitAt word.toNat 30 then v else min v 0x7FF
  | .ntseg1 => max 2 (min v 256)
  | .nsjw => max 1 (min v 127)
  | .ntseg2 => max (max 1 (min v 128)) (max (quanta 80 - 1 - bitsOf w 16 8) (bitsOf w 23 17))
  | .dtseg1 => max 1 (min v 32)
  | .dtseg2 => max (max 1 (min v 16)) (quanta 10 - 1 - bitsOf w 13 8)
  | .dsjw => max 1 (min v (min 15 (bitsOf w 20 16)))
  | .rcLast =>
    let top := 0x7FF - max (s.fld page Cf.RC_CFG_REQ_BASE) (s.fld page Cf.RC_CFG_RSP_BASE)
    min (min 127 top) (max (bitsOf w 6 0) v)
  | _ => v

/-- The index of an auxiliary signal against its kind (R569). -/
def auxClamp (kind v : Nat) : Nat := if kind = 1 then min v 31 else if kind = 2 then min v 15 else v

/-- The permitted value nearest to `v` under a constraint that is not one range (R61). -/
def State.clampDyn (s : State) (page : Nat) (f : Field) (i : Nat) (rule : DynRule) (v : Nat) (word : Word) : Nat :=
  match rule with
  | .pwmKhz | .curKhz | .velKhz | .posKhz | .step250 | .clePeriod | .captureRate | .step50 | .retryMs =>
    s.clampRate page f i rule v
  | .avRes | .avCh | .avLane | .avPos | .cnPos | .cnAction | .actArg => s.clampAvenue page i rule v word
  | .limitMode | .homeMethod | .swRole1 | .swRole2 | .mechLead | .velBw | .curBw | .posBw | .stBits | .mtBits | .ftPos =>
    s.clampAxis page i rule v
  | .kmap => kmapClamp v
  | .syncId | .ntseg1 | .ntseg2 | .nsjw | .dsjw | .dtseg1 | .dtseg2 | .rcLast => s.clampCan page f rule v word
  | .aux0Index => auxClamp (min 2 (bitsOf word 11 8)) v
  | .aux1Index => auxClamp (min 2 (bitsOf word 23 20)) v
  | .ripBound => max (ripRange i).1 (min v (ripRange i).2.1)
  | .ripAuto => if ripAction i then v else 0

/-- The permitted value nearest to a written value (R61). -/
def State.clampField (s : State) (page : Nat) (r : RegField) (i j v : Nat) (word : Word) : Nat :=
  let n := r.f.hi + 1 - r.f.lo
  match r.lim with
  | .free => v
  | .range lo hi => (clampInt v (s.bound page i j false lo) (s.bound page i j false hi)).toNat
  | .srange lo hi => patternOf n (clampInt (signedOf n v) (s.bound page i j true lo) (s.bound page i j true hi))
  | .dyn rule => s.clampDyn page r.f i rule v word

/-- One clamped field reported (R62): the clamp registers describe it, requester `code` and the field's place. -/
def State.reportClamp (s : State) (code page off bit req applied : Nat) : State :=
  let s := s.bump page Hd.CLAMP_COUNT_COUNT
  let s := s.setReg page Hd.CLAMP_LAST.off (BitVec.ofNat 32 (code * 2 ^ 24 + bit * 2 ^ 16 + off))
  let s := s.setReg page Hd.CLAMP_REQ.off (BitVec.ofNat 32 req)
  s.setReg page Hd.CLAMP_APPLIED.off (BitVec.ofNat 32 applied)

/-- A field given a written value under its access code (R5, R61): the state and whether it was clamped, which page `rep`
reports. -/
def State.writeField (s : State) (code page off bank : Nat) (value : Word) (rep : Nat) (r : RegField × Nat × Nat) : State × Bool :=
  let (r, i, j) := r
  let v := bitsOf value r.f.hi r.f.lo
  let put (v : Nat) : State := s.setReg page off (putBits (s.reg page off bank) r.f.hi r.f.lo v) bank
  match r.acc with
  | .ro | .wo => (s, false)
  | .rw => (put v, false)
  | .w1c => (put (bitsOf (s.reg page off bank) r.f.hi r.f.lo &&& (2 ^ (r.f.hi + 1 - r.f.lo) - 1 - v)), false)
  | .rwc =>
    let a := s.clampField page r i j v value
    if a = v then (put v, false)
    else ((put a).reportClamp code rep off r.f.lo v a, true)

/-- The fields of a word given their written values from bit 0 upwards (R61), and whether any was clamped. -/
def State.writeFields (s : State) (code page off bank : Nat) (value : Word) (rep : Nat) :
    List (RegField × Nat × Nat) → State × Bool
  | [] => (s, false)
  | r :: rest =>
    let (s1, c1) := s.writeField code page off bank value rep r
    let (s2, c2) := s1.writeFields code page off bank value rep rest
    (s2, c1 || c2)

/-- A register word stored as its table says (R5, R61), without raising CLAMPED; whether a field was clamped. -/
def State.storeWord (s : State) (code page off : Nat) (value : Word) (rep : Nat := page) : State × Bool :=
  s.writeFields code page off (Reg.bank page off code) value rep (fieldsAt (tableOf page off) off)

/-- A register word stored as its table says; CLAMPED raised once if a field was clamped (R62), by the page `rep`. -/
def State.store (s : State) (code page off : Nat) (value : Word) (rep : Nat := page) : State :=
  let (s, c) := s.storeWord code page off value rep
  if c then s.raise rep 13 else s

end Sys2Proof.Machine
end

