-- ==== Sys2Proof/Machine/Ops.lean ====
section
/-! DEFINITION. The shared operations of every page: commands and their results (R48-R54), generations (R57-R59),
refused writes (R55) and the resets of a page. -/

namespace Sys2Proof.Machine

/-- CMD_RESULT as a word (R43). -/
def resultWord (tag state result : Nat) : Word :=
  BitVec.ofNat 32 (tag % 2 ^ 16 * 2 ^ 16 + state % 2 ^ 8 * 2 ^ 8 + result % 2 ^ 8)

/-- A result written to the requester's bank and carried back with the reply (R48, R58). -/
def State.writeResult (s : State) (q : Req) (state result : Nat) : State :=
  let w := resultWord q.tag state result
  let s := if pageUsed q.page then s.setReg q.page Hd.CMD_RESULT_RESULT.off w (q.code % 8) else s
  s.send .cmdReply [q.code, q.page, w.toNat, q.gen]

/-- A command refused (R51): the result, and CMD_REFUSED; an unused page raises no event (R41). -/
def State.refuse (s : State) (q : Req) (result : Nat) : State :=
  let s := s.writeResult q (s.pstate q.page) result
  if pageUsed q.page then s.raise q.page 14 else s

/-- A requester's argument registers on a page (R45). -/
def State.arg0 (s : State) (q : Req) : Nat := (s.reg q.page Hd.CMD_ARG0.off (q.code % 8)).toNat
def State.arg1 (s : State) (q : Req) : Nat := (s.reg q.page Hd.CMD_ARG1.off (q.code % 8)).toNat

/-- A command of a page (R50): its opcode, the kinds of page that define it, who has the right to it, the range of
CHANNEL and arguments (check 6), the refusal that state or admission gives, 0 for none (checks 7 and 8), what
it does with its result, whether check 5 applies to it, and what follows once the result is written. -/
structure Cmd where
  opc : Nat
  kinds : PageKind → Bool
  who : Who := .command
  range : State → Nat → Nat → Nat → Bool := fun _ ch _ _ => ch == 0
  rights : State → Req → Nat → Bool := fun _ _ _ => true
  allow : State → Req → Nat → Nat → Nat := fun _ _ _ _ => 0
  act : State → Req → Nat → Nat → State × Nat
  busy : Bool := true
  after : State → Req → State := fun s _ => s

/-- A request held behind an ownership request of the same lane (R48). -/
def State.holdReq (s : State) (page : Nat) (h : LaneReq) : State :=
  let r := s.resRec page
  s.setRes page { r with held := r.held ++ [h] }

/-- The decision on a command: the first check of R50 that fails, 0 when all pass. -/
def State.verdict (s : State) (q : Req) (c : Cmd) : Nat :=
  if s.holds q.page q.code then RC.held
  else if s.retired then RC.state
  else if !pageUsed q.page then RC.opcode
  else if q.gen ≠ s.gen q.page then RC.generation
  else if !c.kinds (pageKind q.page) then RC.opcode
  else if !s.may c.who q.code q.page || !c.rights s q (s.arg0 q) then RC.rights
  else if !s.pageServed q.page then RC.state
  else if !s.fromOwner q.code q.page then RC.owner
  else if c.busy && s.hasOpen q.code q.page then RC.busy
  else if !c.range s q.chan (s.arg0 q) (s.arg1 q) then RC.range
  else c.allow s q (s.arg0 q) (s.arg1 q)

/-- A command answered ACCEPTED or DELAYED becomes open (R52, R140). -/
def State.openCmd (s : State) (q : Req) (opc : Nat) : State :=
  (s.putOpens (s.opens ++ [{ code := q.code, gen := q.gen, page := q.page, chan := q.chan, tag := q.tag,
                                  opc := opc, arg0 := s.arg0 q, arg1 := s.arg1 q, since := s.now,
                                  reqNo := if 4 ≤ q.code then s.host.serving else none }]))

/-- A command carried out or refused (R48, R50-R52); CMD_RESULT.STATE is the state at the moment of decision. -/
def State.command (s : State) (q : Req) (c : Cmd) : State :=
  let v := s.verdict q c
  if v = RC.held then s.holdReq q.page (.cmd q c.opc)
  else if v ≠ 0 then s.refuse q v
  else
    let st := s.pstate q.page
    let r := c.act s q (s.arg0 q) (s.arg1 q)
    if 3 ≤ r.2 then r.1.refuse q r.2
    else
      let s1 := if r.2 = RC.accepted ∨ r.2 = RC.delayed then r.1.openCmd q c.opc else r.1
      c.after (s1.writeResult q st r.2) q

/-- The final result of an open command (R52, R140): written to its bank under its tag, CMD_DONE raised, and a
COMPLETION sent to a host whose session still runs. -/
def State.complete (s : State) (o : OpenCmd) (result : Nat) : State :=
  let w := resultWord o.tag (s.pstate o.page) result
  let s := (s.putOpens (s.opens.erase o))
  let s := s.setReg o.page Hd.CMD_RESULT_RESULT.off w (o.code % 8)
  let s := match o.reqNo with
    | some n => s.tell (o.code - 4) (unsolicited .completion 0xC1 24 (o.code - 4) [o.page, s.gen o.page, w.toNat, n])
    | none => s
  s.raise o.page 12

/-- The final result of every open command that a test picks. -/
def State.completeAll (s : State) (p : OpenCmd → Bool) (result : Nat) : State :=
  (s.opens.filter p).foldl (fun s o => s.complete o result) s

/-- The first open command of an opcode on a page. -/
def State.openOf (s : State) (page opc : Nat) : Option OpenCmd :=
  s.opens.find? fun o => o.page == page && o.opc == opc

/-- PAGE_GEN advanced and GEN_CHANGED raised (R57). -/
def State.nextGeneration (s : State) (page : Nat) : State :=
  (s.setFld page Hd.PAGE_GEN_GEN (nextGen (s.gen page))).raise page 15

/-- The registers of some pages taken back to their reset values (R6). -/
def State.clearPages (s : State) (p : Nat → Bool) : State :=
  { s with regs := Sparse.restrict (fun k => !p (k / 8 / 4096)) s.regs }

/-- A page reset under R59: open commands end ABORTED under the old generation, the registers take their reset
values, and the page takes the next generation. -/
def State.resetPage (s : State) (page : Nat) : State :=
  let g := s.gen page
  let s := s.completeAll (fun o => o.page == page) RC.aborted
  let s := s.clearPages (· == page)
  (s.setFld page Hd.PAGE_GEN_GEN g).nextGeneration page

/-- The reply to a write that is no CMD write (R55), with the generation that the request carried (R58). -/
def State.writeReply (s : State) (w : WriteReq) (state result : Nat) : State :=
  s.send .writeReply [w.code, w.page, w.off, result, state, w.gen]

/-- A refused write (R51, R55): no side effect but CMD_REFUSED and the reply. -/
def State.refuseWrite (s : State) (w : WriteReq) (result : Nat) : State :=
  let s := s.writeReply w (s.pstate w.page) result
  if pageUsed w.page then s.raise w.page 14 else s

/-- A write that changes no register or only the writer's own bank: it is refused for the generation it carries and in
RETIRED alone, and raises no event (R4, R5, R44, R45, R58, R616; log entry 93). -/
def State.quietVerdict (s : State) (w : WriteReq) : Nat :=
  if s.retired ∧ w.code ≠ 0 then RC.state else if w.gen ≠ s.gen w.page then RC.generation else 0

/-- A write checked under R55 and then by its page, which refuses it with a code other than 0; `effect` is what it does to
the register and the page. -/
def State.writeGuard (s : State) (w : WriteReq) (guard_ : State → Nat) (effect : State → State) : State :=
  let w := { w with off := w.off % 4096 / 4 * 4 }
  if !pageUsed w.page then s.writeReply w 0 RC.done
  else
    let v := s.writeVerdict w
    if v = RC.held then s.holdReq w.page (.write w)
    else if v = RC.ignored then s.writeReply w (s.pstate w.page) (s.quietVerdict w)
    else if v ≠ 0 then s.refuseWrite w v
    else if w.code ≠ 0 ∧ guard_ s ≠ 0 then s.refuseWrite w (guard_ s)
    else (effect s).writeReply w (s.pstate w.page) RC.done

/-- A write that its page refuses with REFUSED_STATE where it does not allow it now. -/
def State.writeWith (s : State) (w : WriteReq) (allowed : State → Bool) (effect : State → State) : State :=
  s.writeGuard w (fun s => if allowed s then 0 else RC.state) effect

/-- A write checked under R55 with the value stored as its table says; `after` is what the page does then. -/
def State.write (s : State) (w : WriteReq) (after : State → State) : State :=
  s.writeWith w (fun _ => true) fun s => after (s.store w.code w.page (w.off % 4096 / 4 * 4) w.value)

/-- Everything that is true of an opcode given CHANNEL 0 only and no argument. -/
def noRange (_ : State) (ch _ _ : Nat) : Bool := ch == 0

end Sys2Proof.Machine
end

