-- ==== Sys2Proof/Machine/Ownership.lean ====
section
/-! DEFINITION. Ownership at the resource (R86-R92): heartbeats, the ownership opcodes and their arbitration,
takeover, and the errands of lane firmware behind OWN_MOVE, RELEASE_ALL and RESTORE_MAP. -/

namespace Sys2Proof.Machine

/-- A lane's heartbeat as a resource sees it. -/
def State.beat (s : State) (page : Nat) (l : Lane) : Beat :=
  match l with
  | .a => (s.resRec page).beatA
  | .b => (s.resRec page).beatB

/-- The state with a lane's heartbeat at a resource replaced; OWN_STATE shows its presence (R99), or, at the kerb
supervisor, KERB_STATUS and LANES_SILENT (R445, R446). -/
def State.setBeat (s : State) (page : Nat) (l : Lane) (b : Beat) : State :=
  let r := s.resRec page
  if page = 0x48 then
    match l with
    | .a => ((s.setRes page { r with beatA := b }).setFld page Kb.KERB_STATUS_HB_A (bool01 b.present)).level page 2
        (!b.present && !r.beatB.present)
    | .b => ((s.setRes page { r with beatB := b }).setFld page Kb.KERB_STATUS_HB_B (bool01 b.present)).level page 2
        (!b.present && !r.beatA.present)
  else
  match l with
  | .a => (s.setRes page { r with beatA := b }).setFld 3 Xg.OWN_STATE_HB_A (bool01 b.present) page
  | .b => (s.setRes page { r with beatB := b }).setFld 3 Xg.OWN_STATE_HB_B (bool01 b.present) page

/-- How many resources a lane owns (OWNED of R96). -/
def State.owned (s : State) (l : Lane) : Nat := (ownedPages.filter fun p => s.owner p == l.num).length

/-- The takeover time in nanoseconds (R87, R99). -/
def State.takeoverNs (s : State) : Nat := s.fld 3 Xg.TAKEOVER_MS * 1000000

/-- A resource changes owner (R87): the new owner is shown, offers and requests close, OWN_CHANGED is raised. -/
def State.changeOwner (s : State) (page : Nat) (l : Lane) (cause : Nat) : State :=
  let s := s.setFld 3 Xg.OWN_STATE_OWNER l.num page
  let s := s.setFld 3 Xg.OWN_STATE_CAUSE cause page
  let s := s.setFld 3 Xg.OWN_STATE_OFFER 0 page
  let s := s.setFld 3 Xg.OWN_STATE_REQUEST 0 page
  let s := s.bump 3 Xg.OWN_STATE_CHANGES page
  let s := s.setRes page { s.resRec page with accepted := true }
  s.raise 3 4 (page + l.num * 2 ^ 8 + cause * 2 ^ 10)

/-- A lane's errands. -/
def State.errands (s : State) (l : Lane) : List OwnErrand := (s.lane l).errands

/-- The instant before which a lane's firmware issues no further request to a resource (R91). -/
def State.ownNext (s : State) (page : Nat) (l : Lane) : Nat :=
  match l with
  | .a => (s.resRec page).nextA
  | .b => (s.resRec page).nextB
def State.setOwnNext (s : State) (page : Nat) (l : Lane) (t : Nat) : State :=
  let r := s.resRec page
  match l with
  | .a => s.setRes page { r with nextA := t }
  | .b => s.setRes page { r with nextB := t }

/-- The state with a lane's errands replaced. -/
def State.setErrands (s : State) (l : Lane) (es : List OwnErrand) : State :=
  s.setLane l { s.lane l with errands := es }

/-- The final result of the OWN_MOVE of a lane for a resource (R97). -/
def State.endMove (s : State) (l : Lane) (page result : Nat) : State :=
  s.completeAll (fun o => o.page == lanePage l && o.opc == 0x01 && o.chan == page) result

/-- RELEASE_ALL of a lane settled (R97): DONE once it owns nothing, ABORTED once no offer is left to wait for. -/
def State.settleRelease (s : State) (l : Lane) : State :=
  let open_ := fun (o : OpenCmd) => o.page == lanePage l && o.opc == 0x02
  if s.owned l = 0 then (s.completeAll open_ RC.done).setErrands l ((s.errands l).filter fun e => e.kind != 1)
  else if (s.errands l).all fun e => e.kind != 1 then s.completeAll open_ RC.aborted
  else s

/-- The errands settled after a resource has changed owner: the move it ended, the release that waited for it. -/
def State.settleErrands (s : State) : State :=
  let one (s : State) (l : Lane) : State :=
    let got := (s.errands l).filter fun e => e.kind != 1 && s.owner e.page == l.num
    let s := got.foldl (fun s e => s.endMove l e.page RC.done) s
    let s := s.setErrands l ((s.errands l).filter fun e =>
      if e.kind = 1 then s.owner e.page == l.num else s.owner e.page != l.num)
    s.settleRelease l
  one (one s .a) .b

/-- Both lanes' latest heartbeats at a resource report ALIGNED (R89). -/
def State.bothAligned (s : State) (page : Nat) : Bool :=
  (s.beat page .a).state == 4 && (s.beat page .b).state == 4

/-- The opcodes of R89. -/
def Own.offer : Nat := 0xE0
def Own.accept : Nat := 0xE1
def Own.withdraw : Nat := 0xE2
def Own.request : Nat := 0xE3

/-- Checks 6 and 7 of an ownership opcode (R89), 0 when they pass: range, the role of the issuing lane, both lanes
ALIGNED, and the opcode's own condition. -/
def State.ownVerdict (s : State) (r : ArbReq) : Nat :=
  let page := r.req.page
  let owner := s.owner page == r.req.code
  let offer := s.fld 3 Xg.OWN_STATE_OFFER page
  if r.req.gen ≠ s.gen page then RC.generation
  else if r.opc = Own.offer ∧ ¬ (1 ≤ r.arg0 % 256 ∧ r.arg0 % 256 ≤ 100) then RC.range
  else if (r.opc = Own.offer ∨ r.opc = Own.withdraw) ∧ ¬ owner then RC.owner
  else if (r.opc = Own.accept ∨ r.opc = Own.request) ∧ owner then RC.owner
  else if ¬ s.bothAligned page then RC.state
  else if r.opc = Own.offer ∧ offer ≠ 0 then RC.state
  else if r.opc = Own.accept ∧ offer ≠ r.req.code then RC.state
  else if r.opc = Own.withdraw ∧ offer = 0 then RC.state
  else if r.opc = Own.request ∧ (s.fld 3 Xg.OWN_STATE_REQUEST page ≠ 0 ∨ offer = r.req.code) then RC.state
  else 0

/-- The effect of an ownership opcode that passes every check (R89). -/
def State.ownEffect (s : State) (r : ArbReq) : State :=
  let page := r.req.page
  if r.opc = Own.offer then
    let s := s.setFld 3 Xg.OWN_STATE_OFFER (3 - r.req.code) page
    let s := s.setRes page { s.resRec page with offerAt := s.now, offerMs := r.arg0 % 256 }
    let seen (s : State) (l : Lane) : State :=
      if 3 - r.req.code = l.num then
        s.setErrands l ((s.errands l).map fun e => if e.page = page ∧ e.kind ≠ 1 then { e with offered := true } else e)
      else s
    (seen (seen s .a) .b).raise 3 5 (page + (3 - r.req.code) * 2 ^ 8)
  else if r.opc = Own.accept then
    match laneOf? r.req.code with
    | some l => s.changeOwner page l 1
    | none => s
  else if r.opc = Own.withdraw then s.setFld 3 Xg.OWN_STATE_OFFER 0 page
  else
    let s := s.setFld 3 Xg.OWN_STATE_REQUEST r.req.code page
    let s := s.setRes page { s.resRec page with requestAt := s.now }
    s.raise 3 6 (page + r.req.code * 2 ^ 8)

/-- An ownership request arrives (R89, R90): checks 1 to 3 decide at once, everything else at the end of the
arbitration window. -/
def State.ownArrive (s : State) (q : Req) (opc arg0 : Nat) (firmware : Bool) : State :=
  if s.holds q.page q.code then s.holdReq q.page (.own ⟨q, opc, arg0, s.now, firmware⟩)
  else if s.retired then s.refuse q RC.state
  else if !pageUsed q.page then s.refuse q RC.opcode
  else if q.gen ≠ s.gen q.page then s.refuse q RC.generation
  else if !(pageKind q.page).owned then s.refuse q RC.opcode
  else if !(q.code == 1 || q.code == 2) then s.refuse q RC.rights
  else
    let r := s.resRec q.page
    s.setRes q.page { r with arb := r.arb ++ [⟨q, opc, arg0, s.now, firmware⟩] }

/-- An ownership request that lane firmware issues (R91, R92, R97). -/
def State.ownIssue (s : State) (l : Lane) (page opc : Nat) : State :=
  s.ownArrive ⟨l.num, s.gen page, page, 0, 0⟩ opc 20 true

/-- The configured CLE period of a lane in nanoseconds. -/
def State.periodNs (s : State) (l : Lane) : Nat := s.fld (clePage l) Ce.CYCLE_PERIOD_PERIOD_US * 1000

/-- What firmware does with a collision (R91, R97): it waits one period in lane A, two in lane B; an errand retries at most
8 times, then the move ends with SWAP_COLLIDED and the offer is given up. -/
def State.errandCollided (s : State) (l : Lane) (page : Nat) : State :=
  let wait := s.periodNs l * l.num
  let s := s.setOwnNext page l (s.now + wait)
  let worn := (s.errands l).filter fun e => e.page == page && e.retries ≥ 8
  let s := worn.foldl (fun s e => if e.kind = 0 then s.endMove l page RC.collided else s) s
  s.setErrands l (((s.errands l).filter fun e => !(e.page == page && e.retries ≥ 8)).map fun e =>
    if e.page = page then { e with retries := e.retries + 1, nextAt := some (s.now + wait) } else e)

/-- The result of an ownership opcode that a program staged, as QUAL shows it (R210). -/
def State.ownSeen (s : State) (r : ArbReq) (result : Nat) : State :=
  match laneOf? r.req.code with
  | some l =>
    if r.firmware then s
    else
      let c := s.cles.of l
      s.putCle l { c with outResults := c.outResults.wr 0x1FF (r.req.page * 4096 + 0x30) (0x100 + result) }
  | none => s

/-- The result of one ownership request (R90). -/
def State.ownDecide (s : State) (r : ArbReq) : State :=
  let v := s.ownVerdict r
  if v ≠ 0 then (s.refuse r.req v).ownSeen r v
  else
    let st := s.pstate r.req.page
    ((s.ownEffect r).writeResult r.req st RC.done).ownSeen r RC.done

/-- Two requests refused with SWAP_COLLIDED (R90). -/
def State.ownCollide (s : State) (r1 r2 : ArbReq) : State :=
  let s := ((s.refuse r1.req RC.collided).refuse r2.req RC.collided).ownSeen r1 RC.collided |>.ownSeen r2 RC.collided
  let s := s.raise 3 7 r1.req.page
  let fw (s : State) (r : ArbReq) : State :=
    if r.firmware then
      match laneOf? r.req.code with
      | some l => s.errandCollided l r.req.page
      | none => s
    else s
  fw (fw s r1) r2

/-- The end of an arbitration window (R90): a request of the other lane that arrived within it and passes its
checks collides; otherwise the request is decided. -/
def State.ownArbitrate (s : State) (page : Nat) : State :=
  match (s.resRec page).arb with
  | [] => s
  | r :: rest =>
    if s.now < r.since + 1000 then s
    else
      match rest.find? fun r2 => r2.req.code != r.req.code && r2.since ≤ r.since + 1000 with
      | some r2 =>
        if s.ownVerdict r = 0 ∧ s.ownVerdict r2 = 0 then
          let s := s.setRes page { s.resRec page with arb := rest.erase r2 }
          (s.ownCollide r r2).settleErrands
        else
          let s := s.setRes page { s.resRec page with arb := rest }
          (s.ownDecide r).settleErrands
      | none =>
        let s := s.setRes page { s.resRec page with arb := rest }
        (s.ownDecide r).settleErrands

/-- What lane firmware does about ownership at its boundary, and, for offers, on each ownership record (R92): while
ALIGNED it offers what the other lane has requested and accepts what is offered to it. -/
def State.fwAnswer (s : State) (l : Lane) (offers : Bool) : State :=
  if s.laneState l ≠ 4 then s
  else
    s.each ownedPages fun s p =>
      if s.holds p l.num || decide (s.now < s.ownNext p l) then s
      else if s.fld 3 Xg.OWN_STATE_OFFER p = l.num then s.ownIssue l p Own.accept
      else if offers && s.owner p == l.num && s.fld 3 Xg.OWN_STATE_REQUEST p == l.other.num
          && s.fld 3 Xg.OWN_STATE_OFFER p == 0 then s.ownIssue l p Own.offer
      else s

/-- An errand begun: its first request goes at once, or after the wait that a collision has left (R91). -/
def State.beginErrand (s : State) (l : Lane) (page kind opc : Nat) : State :=
  let e : OwnErrand := { page := page, kind := kind, since := s.now, offered := decide (kind ≠ 1 ∧ opc = Own.accept) }
  if s.now < s.ownNext page l then s.setErrands l (s.errands l ++ [{ e with nextAt := some (s.ownNext page l) }])
  else (s.setErrands l (s.errands l ++ [e])).ownIssue l page opc

/-- A move begun: an OWN_REQUEST, or an OWN_ACCEPT where an offer is already open (R96, R97). -/
def State.beginMove (s : State) (l : Lane) (page kind : Nat) : State :=
  s.beginErrand l page kind (if s.fld 3 Xg.OWN_STATE_OFFER page = l.num then Own.accept else Own.request)

/-- Either lane has left ALIGNED: open moves and releases end ABORTED at once (R97), and errands are dropped. -/
def State.abortErrands (s : State) : State :=
  let s := s.completeAll (fun o => (o.page == 1 || o.page == 2) && (o.opc == 0x01 || o.opc == 0x02)) RC.aborted
  (s.setErrands .a []).setErrands .b []

/-- OWN_MOVE (R97). -/
def cmdOwnMove : Cmd where
  opc := 0x01
  kinds := (· == .lane)
  range := fun _ ch _ _ => (pageKind ch).owned
  allow := fun s q _ _ => if s.pstate q.page = 4 then 0 else RC.state
  act := fun s q _ _ =>
    match laneOf? q.page with
    | some l => if s.owner q.chan = l.num then (s, RC.done) else (s.beginMove l q.chan 0, RC.accepted)
    | none => (s, RC.done)

/-- RELEASE_ALL (R97). -/
def cmdReleaseAll : Cmd where
  opc := 0x02
  kinds := (· == .lane)
  allow := fun s _ _ _ => if s.laneState .a = 4 ∧ s.laneState .b = 4 then 0 else RC.state
  act := fun s q _ _ =>
    match laneOf? q.page with
    | some l =>
      (s.each (ownedPages.filter fun p => s.owner p == l.num) fun s p => s.beginErrand l p 1 Own.offer, RC.accepted)
    | none => (s, RC.done)

/-- OWN_MOVE (R97): the lane takes the resource named by CHANNEL. -/
def execOwnMove (t : Nat) (q : Req) (s : State) : Host.Outcome State Fault Refusal :=
  .next ((s.start t).command q cmdOwnMove)

/-- OWN_MOVE_TIMEOUT (R96, R97): 100 ms after an errand began without an offer having come, the move ends ABORTED and
RESTORE_MAP gives the resource up. -/
def execOwnMoveTimeout (t : Nat) (l : Lane) (page : Nat) (s : State) : Host.Outcome State Fault Refusal :=
  let s := s.start t
  let due := fun (e : OwnErrand) => e.page == page && e.kind != 1 && !e.offered && e.since + 100000000 ≤ s.now
  .next <|
    if (s.errands l).any due then
      (s.endMove l page RC.aborted).setErrands l ((s.errands l).filter fun e => !due e)
    else s

/-- RELEASE_ALL (R97): every resource of the lane is offered with 20 ms validity. -/
def execReleaseAll (t : Nat) (q : Req) (s : State) : Host.Outcome State Fault Refusal :=
  .next (((s.start t).command q cmdReleaseAll).settleErrands)

/-- OWN_OFFER (R89) arrives and waits for its arbitration window (R90). -/
def execOwnOffer (t : Nat) (q : Req) (s : State) : Host.Outcome State Fault Refusal :=
  let s := s.start t
  .next (s.ownArrive q Own.offer (s.arg0 q) false)

/-- OWN_ACCEPT (R89) arrives and waits for its arbitration window (R90). -/
def execOwnAccept (t : Nat) (q : Req) (s : State) : Host.Outcome State Fault Refusal :=
  let s := s.start t
  .next (s.ownArrive q Own.accept (s.arg0 q) false)

/-- OWN_WITHDRAW (R89) arrives and waits for its arbitration window (R90). -/
def execOwnWithdraw (t : Nat) (q : Req) (s : State) : Host.Outcome State Fault Refusal :=
  let s := s.start t
  .next (s.ownArrive q Own.withdraw (s.arg0 q) false)

/-- OWN_REQUEST (R89) arrives and waits for its arbitration window (R90). -/
def execOwnRequest (t : Nat) (q : Req) (s : State) : Host.Outcome State Fault Refusal :=
  let s := s.start t
  .next (s.ownArrive q Own.request (s.arg0 q) false)

/-- OWN_RETRY (R91): after the wait, lane firmware issues what its purpose still needs: nothing when the resource
has come, an accept of an open offer, a request, or its own offer again. -/
def execOwnRetry (t : Nat) (l : Lane) (page : Nat) (s : State) : Host.Outcome State Fault Refusal :=
  let s := s.start t
  match (s.errands l).find? fun e => e.page == page with
  | some e =>
    match e.nextAt with
    | some n =>
      if n ≤ s.now then
        let s := s.setErrands l ((s.errands l).map fun e => if e.page = page then { e with nextAt := none } else e)
        .next <|
          if s.holds page l.num then s
          else if e.kind = 1 then (if s.owner page = l.num then s.ownIssue l page Own.offer else s)
          else if s.owner page = l.num then s.settleErrands
          else if s.fld 3 Xg.OWN_STATE_OFFER page = l.num then s.ownIssue l page Own.accept
          else s.ownIssue l page Own.request
      else .next s
    | none => .next s
  | none => .next s

/-- OFFER_EXPIRY (R89): an offer at the end of its validity closes, and a release that waited for it gives it up. -/
def execOfferExpiry (t : Nat) (page : Nat) (s : State) : Host.Outcome State Fault Refusal :=
  let s := s.start t
  let r := s.resRec page
  .next <|
    if s.fld 3 Xg.OWN_STATE_OFFER page ≠ 0 ∧ r.offerAt + r.offerMs * 1000000 ≤ s.now then
      let s := s.setFld 3 Xg.OWN_STATE_OFFER 0 page
      let drop (s : State) (l : Lane) : State :=
        (s.setErrands l (((s.errands l).filter fun e => !(e.kind == 1 && e.page == page)).map fun e =>
          if e.page = page then { e with offered := false } else e)).settleRelease l
      drop (drop s .a) .b
    else s

/-- REQUEST_EXPIRY (R89): an open request closes 100 ms after it was recorded. -/
def execRequestExpiry (t : Nat) (page : Nat) (s : State) : Host.Outcome State Fault Refusal :=
  let s := s.start t
  .next <|
    if s.fld 3 Xg.OWN_STATE_REQUEST page ≠ 0 ∧ (s.resRec page).requestAt + 100000000 ≤ s.now then
      s.setFld 3 Xg.OWN_STATE_REQUEST 0 page
    else s

/-- HEARTBEAT (R86): a heartbeat with an advanced count makes the lane present at the resource; the owner's first
one lets the stage accept its commands (R34). The kerb supervisor sees heartbeats too (R435). A lane that sends none
gives none. -/
def execHeartbeat (t : Nat) (l : Lane) (page count : Nat) (s : State) : Host.Outcome State Fault Refusal :=
  let s := s.start t
  if !((pageKind page).owned || page == 0x48 && (s.power.rail.a || s.power.rail.b)) || !(s.lane l).heartbeats then .next s
  else
    let b := s.beat page l
    let fresh := b.count != some (count % 256)
    let b' : Beat := { b with
      count := some (count % 256), state := s.laneState l
      present := b.present || fresh
      since := if fresh && !b.present then s.now else b.since
      last := if fresh then s.now else b.last }
    let s := s.setBeat page l b'
    .next (if page ≠ 0x48 ∧ s.owner page = l.num ∧ b'.present then s.setRes page { s.resRec page with accepted := true } else s)

/-- TAKEOVER (R87, R88): the owner absent and the other lane present, both without a break for TAKEOVER_MS, makes the
other lane owner and cancels any open offer or request. -/
def execTakeover (t : Nat) (page : Nat) (s : State) : Host.Outcome State Fault Refusal :=
  let s := s.start t
  match laneOf? (s.owner page) with
  | some l =>
    let mine := s.beat page l
    let other := s.beat page l.other
    .next <|
      if !mine.present ∧ other.present ∧ max mine.since other.since + s.takeoverNs ≤ s.now then
        (s.changeOwner page l.other 2).settleErrands
      else s
  | none => .next s

/-- TAKEOVER_MS_WRITE (R99): the takeover time is written and reaches every resource. -/
def execTakeoverMsWrite (t : Nat) (w : WriteReq) (s : State) : Host.Outcome State Fault Refusal :=
  .next ((s.start t).write { w with page := 3, off := Xg.TAKEOVER_MS.off } id)

end Sys2Proof.Machine
end

