-- ==== Sys2Proof/Machine/Fabric.lean ====
section
/-! DEFINITION. The event fabric (R74-R76, R141): distribution, GAP records, counters. -/

namespace Sys2Proof.Machine

/-- How many records the queue of a destination holds at most (R74). -/
def destCap (d : Nat) : Nat := if d < 4 then 4096 else 1024

/-- The queue of a destination. -/
def State.dest (s : State) (d : Nat) : DestQ := s.fabric.dests.rd {} d

/-- The state with the queue of a destination replaced; DEST_DEPTH, DEST_HWM and EVT_UNACKED follow (R75, R159). -/
def State.setDest (s : State) (d : Nat) (q : DestQ) : State :=
  let s := (s.putFabric { s.fabric with dests := s.fabric.dests.wr {} d q })
  let n := q.recs.length
  let s := s.setFld 0x7E Fab.DEST_DEPTH n d
  let s := if s.fld 0x7E Fab.DEST_HWM d < n then s.setFld 0x7E Fab.DEST_HWM n d else s
  if d < 4 then s.setFld 6 Ss.EVT_UNACKED n d else s

/-- QUEUE_HIGH brought to its condition (R76): some destination at or above HIGH_PCT of its queue. -/
def State.queueHigh (s : State) : State :=
  let at_ := fun d => (s.dest d).recs.length * 100 ≥ s.fld 0x7E Fab.HIGH_PCT * destCap d
  s.level 0x7E 1 ((List.range 7).any fun d => at_ d)

/-- The GAP record of a destination put into its queue when it has room and records were dropped (R74, R141). -/
def State.putGap (s : State) (d : Nat) : State :=
  let q := s.dest d
  if q.gap = 0 ∨ destCap d ≤ q.recs.length ∨ (d < 4 ∧ !(s.slot d).streaming) then s
  else
    let r : EvtRec := { time := s.time, id := 0, gen := 0, arg := min q.gap (2 ^ 32 - 1), test := false,
                        unsynced := !s.flag 0 Dev.TIME_STATUS_SYNCED, clockUnset := s.clockUnset, gap := true,
                        seq := q.seq }
    s.setDest d { q with recs := q.recs ++ [⟨r, s.now⟩], seq := (q.seq + 1) % 2 ^ 32, gap := 0 }

/-- Lane firmware and management take a record as soon as it is queued, while they run (log entry 7); a host holds
it until it acknowledges it (R141). -/
def State.consume (s : State) (d : Nat) : State :=
  let q := s.dest d
  if d = 4 ∧ s.laneState .a ≥ 2 then
    q.recs.foldl (fun s r => s.fwLogs .a r.record) (s.setDest d { q with recs := [] })
  else if d = 5 ∧ s.laneState .b ≥ 2 then
    q.recs.foldl (fun s r => s.fwLogs .b r.record) (s.setDest d { q with recs := [] })
  else if d = 6 ∧ s.mgmtRuns then q.recs.foldl (fun s r => s.mgmtLogs r.record) (s.setDest d { q with recs := [] })
  else s

/-- What a host's queue holds beyond its first `had` records sent at once (R141). -/
def State.sendNew (s : State) (d had : Nat) : State :=
  if d < 4 then s.sendEvents d (((s.dest d).recs.drop had).map (·.record)) else s

/-- One record queued for one destination (R74, R141): behind the GAP record owed to it, or dropped when there is
no room, which raises QUEUE_OVERFLOW unless the record is one itself. A host is sent it at once. -/
def State.enqueue (s : State) (r : EvtRec) (d : Nat) : State :=
  let had := (s.dest d).recs.length
  let s := s.putGap d
  let q := s.dest d
  if destCap d ≤ q.recs.length then
    let s := s.sendNew d had
    let s := s.dropFor r d
    if r.id = overflowId then s else s.raise 0x7E 0 d
  else
    let s := s.setDest d { q with recs := q.recs ++ [⟨{ r with seq := q.seq }, s.now⟩], seq := (q.seq + 1) % 2 ^ 32 }
    (s.sendNew d had).consume d

/-- Whether a record is an ownership record of page 0x03 (R92, R101). -/
def ownershipId (id : Nat) : Bool := id == 0x34 || id == 0x35 || id == 0x36

/-- FABRIC_DISTRIBUTE (R74, R92): the oldest record of the intake goes to each destination it was routed to; on an
ownership record lane firmware accepts what is offered to it. -/
def execFabricDistribute (t : Nat) (s : State) : Host.Outcome State Fault Refusal :=
  let s := s.start t
  match s.fabric.intake with
  | [] => .next s
  | x :: rest =>
    let s := (s.putFabric { s.fabric with intake := rest })
    let s := x.dests.foldl (fun s d => if d < 4 && !(s.slot d).streaming then s else s.enqueue x.record d) s
    let s := if ownershipId x.record.id && x.dests.contains 4 then s.fwAnswer .a false else s
    let s := if ownershipId x.record.id && x.dests.contains 5 then s.fwAnswer .b false else s
    .next s.queueHigh

/-- GAP_RECORD (R74): once a queue has room after drops, its destination receives a GAP record with their number. -/
def execGapRecord (t : Nat) (d : Fin 7) (s : State) : Host.Outcome State Fault Refusal :=
  let s := s.start t
  let had := (s.dest d).recs.length
  let s := (s.putGap d).sendNew d had
  .next ((s.consume d).queueHigh)

/-- COUNTERS_CLEAR of page 0x7E (R76). -/
def cmdFabricClear : Cmd where
  opc := 0x01
  kinds := (· == .fabric)
  act := fun s _ _ _ =>
    let s := s.each (List.range 7) fun s d => (s.setFld 0x7E Fab.DEST_DROPS 0 d).setFld 0x7E Fab.DEST_HWM 0 d
    (s.setReg 0x7E Fab.LAST_DROP_ID.off 0, RC.done)

/-- FABRIC_COUNTERS_CLEAR (R76): DEST_DROPS, DEST_HWM and LAST_DROP take 0. -/
def execFabricCountersClear (t : Nat) (q : Req) (s : State) : Host.Outcome State Fault Refusal :=
  .next ((s.start t).command q cmdFabricClear)

end Sys2Proof.Machine
end

