-- ==== Sys2Proof/Machine/Device.lean ====
section
/-! DEFINITION. Page 0x00 (R29-R32, R68-R73): profiles and overrides, and time of day. -/

namespace Sys2Proof.Machine

/-- The rates and the continuous current of a profile (R29): PWM, current, velocity and position loop in kHz. -/
def profileRates (p : Nat) : Nat × Nat × Nat × Nat :=
  match p with
  | 0 => (24, 24, 8, 4)
  | 1 => (32, 32, 8, 4)
  | 2 => (16, 16, 4, 2)
  | _ => (48, 24, 8, 4)

/-- The continuous current that follows from the PWM frequency, in 0.1 A (R29, R30). -/
def contCurrent (pwm : Nat) : Nat := if pwm = 48 then 40 else if pwm = 32 then 50 else 60

/-- The word of EFF_BUS for rates (R68). -/
def effWord (pwm cur vel pos : Nat) : Nat :=
  contCurrent pwm * 2 ^ 24 + pos * 2 ^ 20 + vel * 2 ^ 16 + cur * 2 ^ 8 + pwm

/-- The offset of the override register and of EFF_BUS of a motor bus, 0 bus A, 1 bus B (R68). -/
def ovrOff (bus : Nat) : Nat := 0x150 + 4 * bus
def effOff (bus : Nat) : Nat := 0x170 + 4 * bus

/-- The target of a bus (R73): what PROFILE and the bus's override register would apply under R29 to R31; the
override fields count only while ENA is 1. -/
def State.busTarget (s : State) (bus : Nat) : Word :=
  let w := s.reg 0 (ovrOff bus)
  BitVec.ofNat 32 <|
    if bitsOf w 31 31 = 1 then effWord (bitsOf w 7 0) (bitsOf w 15 8) (bitsOf w 19 16) (bitsOf w 23 20)
    else
      let (p, c, v, x) := profileRates (s.fld 0 Dev.PROFILE)
      effWord p c v x

/-- Whether the target of a bus differs from what is applied on it (R73). -/
def State.targetDiffers (s : State) (bus : Nat) : Bool := s.busTarget bus != s.reg 0 (effOff bus)

/-- The target of a bus applied: EFF_BUS and PROFILE_ACT (R69). -/
def State.applyBus (s : State) (bus : Nat) : State :=
  (s.setReg 0 (effOff bus) (s.busTarget bus)).setReg 0 (0x144 + 4 * bus) (BitVec.ofNat 32 (s.fld 0 Dev.PROFILE))

/-- After a write to PROFILE or an OVR_BUS register (R73): PROFILE_PENDING while a target differs. -/
def State.afterProfile (s : State) : State :=
  if s.pstate 0 = 0 then s else s.setPstate 0 (if s.targetDiffers 0 || s.targetDiffers 1 then 2 else 1)

/-- Whether an axis holds torque (R32, R312): its drive tests or identifies, or its motion engine is in a state that
needs torque; FREE has none, nor has a measurement from FREE (R299). -/
def State.axisTorque (s : State) (page : Nat) : Bool :=
  let d := s.fld page Ax.DRV_STATUS_STATE
  let m := s.fld page Ax.MOT_STATUS_STATE
  d == 2 || d == 4 || m == 2 || decide (6 ≤ m) || ((m == 3 || m == 4) && (s.axes.rd {} page).prior != 1)

/-- Whether an axis of a motor bus holds torque. -/
def State.busTorque (s : State) (bus : Nat) : Bool := (List.range' (0x10 + 16 * bus) 16).any fun p => s.axisTorque p

/-- The buses of a mask. -/
def busesOf (mask : Nat) : List Nat := [0, 1].filter fun b => bitAt mask b

/-- TIME_STEP raised when a step of more than 1 µs moves the time of day (R71): the step in ns, saturated. -/
def State.timeStep (s : State) (step : Int) : State :=
  if step > 1000 ∨ step < -1000 then s.raise 0 2 (patternOf 32 (saturateSigned 32 step)) else s

/-- The time of day set to a value (R72, R108): a clock that was unset is stepped under R71. -/
def State.setTime (s : State) (v : Nat) : State :=
  let step := (v : Int) - (s.time : Int)
  let was := s.clockUnset
  let s := s.putClock ((v : Int) - (s.now : Int)) false
  if was then s.timeStep step else s

/-- PROFILE_WRITE (R73): a write to PROFILE (`reg` 0), OVR_BUS_A (1) or OVR_BUS_B (2), and the comparison of targets
with applied values. -/
def State.profileWrite (s : State) (w : WriteReq) : State := s.write w State.afterProfile

def execProfileWrite (t : Nat) (code gen : Nat) (reg : Fin 3) (value : Word) (s : State) :
    Host.Outcome State Fault Refusal :=
  .next ((s.start t).profileWrite ⟨code, gen, 0, if reg.val = 0 then 0x140 else ovrOff (reg.val - 1), value⟩)

/-- HOLDOVER_EXPIRY (R68): HOLDOVER_S after the grandmaster was lost SYNCED clears, and the loss is counted. -/
def execHoldoverExpiry (t : Nat) (s : State) : Host.Outcome State Fault Refusal :=
  let s := s.start t
  match s.host.gmLost with
  | some x =>
    .next <|
      if s.flag 0 Dev.TIME_STATUS_SYNCED ∧ x + s.fld 0 Dev.HOLDOVER_S * 1000000000 ≤ s.now then
        let s := (s.setFld 0 Dev.TIME_STATUS_SYNCED 0).setFld 0 Dev.TIME_STATUS_FROM_RTC 1
        (s.bump 0 Dev.SYNC_LOSS_COUNT).level 0 1 false
      else s
  | none => .next s

end Sys2Proof.Machine
end

