-- ==== Sys2Proof/Machine/KerbMap.lean ====
section
/-! DEFINITION. The kerb map and its levels (R436, R439). -/

namespace Sys2Proof.Machine

/-- Whether the kerb is active (R436): KACT. -/
def State.kact (s : State) : Bool := s.flag 0x48 Kb.KERB_STATUS_ACTIVE

/-- Entry `j` of kerb input `i` (R445). -/
def State.kmapEntry (s : State) (i j : Nat) : Nat :=
  s.fld 0x48 (if j % 2 = 0 then Kb.KMAP_15_0 else Kb.KMAP_31_16) i (j / 2)

/-- Whether a kerb input names a target: kind 0 a load-switch channel, 1 a field channel. -/
def State.kerbNames (s : State) (i kind index : Nat) : Bool :=
  (List.range 8).any fun j =>
    let e := s.kmapEntry i j
    bitAt e 15 && e % 2 == kind && e / 2 % 256 == index

/-- Whether a target is in the kerb map, and the OR of the levels of the inputs that name it (R439). -/
def State.kerbMapped (s : State) (kind index : Nat) : Bool := (List.range 8).any fun i => s.kerbNames i kind index
def State.kerbLevel (s : State) (kind index : Nat) : Bool :=
  (List.range 8).any fun i => s.kerbNames i kind index && bitAt (s.fld 0x48 Kb.KERB_STATUS_INPUTS) i

/-- How long neither heartbeat has been present, in ns (R436, R438). -/
def State.silentFor (s : State) : Option Nat :=
  let r := s.resRec 0x48
  match s.kerb.supplyAt with
  | none => none
  | some x => if r.beatA.present ∨ r.beatB.present then none else some (s.now - max x (max r.beatA.since r.beatB.since))

/-- MAP_CRC (R445). -/
def State.mapCrc (s : State) : Nat :=
  crc32 ((List.range 64).flatMap fun n =>
    let e := s.kmapEntry (n / 8) (n % 8)
    [e % 256, e / 256 % 256])

/-- The words of page 0x48 that are not kept in registers (R445). -/
def State.kerbWord (s : State) (off : Nat) : Option Nat :=
  if off = 0x108 then some (saturate 32 ((s.silentFor.getD 0) / 1000000))
  else if off = 0x114 then some s.mapCrc
  else none

/-- Whether a load-switch rail is present, A or B (R435). -/
def State.anyRail (s : State) : Bool := s.power.rail.a || s.power.rail.b

end Sys2Proof.Machine
end

