-- ==== Sys2Proof/Machine/FieldIo.lean ====
section
/-! DEFINITION. The front-ends and stages of the field banks (chapter 14): filters, faults, how an output is decided, bursts,
silences and the bank states. -/

namespace Sys2Proof.Machine

/-- A bank and its parts. -/
def State.bank (s : State) (p : Nat) : BankRec := s.banks.rd {} p
def State.modBank (s : State) (p : Nat) (f : BankRec → BankRec) : State := { s with banks := s.banks.wr {} p (f (s.bank p)) }
def State.ch (s : State) (p k : Nat) : FeChan := (s.bank p).chans.rd {} k

/-- The bits of a channel record (R403, R420) but for its current. -/
def FeChan.bits (c : FeChan) : Nat :=
  c.fault * 2 ^ 8 + c.cls * 2 ^ 4 + bool01 c.safe * 8 + bool01 c.kerbOn * 4 + bool01 c.cmd * 2 + bool01 c.state

/-- A channel replaced; a record that changes is kept until no burst can carry it any more (R402). -/
def State.setCh (s : State) (p k : Nat) (c : FeChan) : State :=
  let old := s.ch p k
  let kept := if old.bits = c.bits then old.before
    else (old.before.filter fun x => decide (s.now ≤ x.1 + 16000)) ++ [(s.now, old.bits)]
  s.modBank p fun b => { b with chans := b.chans.wr {} k { c with before := kept } }

/-- The record bits of a channel at an instant of the last 16 µs (R406). -/
def FeChan.bitsAt (c : FeChan) (x : Nat) : Nat := ((c.before.find? fun e => decide (x < e.1)).map (·.2)).getD c.bits
def State.burst (s : State) (p n : Nat) : BurstRec := (s.bank p).bursts.rd {} n
def State.setBurst (s : State) (p n : Nat) (x : BurstRec) : State := s.modBank p fun b => { b with bursts := b.bursts.wr {} n x }

/-- Whether the field supply of a bank is present (R102). -/
def State.fieldSupply (s : State) (p : Nat) : Bool := bitAt s.power.field (p - 0x30)

/-- Whether the front-end applies safe states (R417). -/
def State.feSafe (s : State) (p : Nat) : Bool := (s.bank p).feDemand || (s.bank p).feSilent

/-- Whether the kerb drives a channel now (R416, R435, R439). -/
def State.kerbDrives (s : State) (p k : Nat) : Bool := s.kact && s.anyRail && s.kerbMapped 1 (16 * (p - 0x30) + k)

/-- What row 2 to 5 of R416 give a channel. -/
def State.wanted (s : State) (p k : Nat) : Bool :=
  let c := s.ch p k
  if s.kerbDrives p k then s.kerbLevel 1 (16 * (p - 0x30) + k)
  else
    match if s.kact then none else c.kerbHold with
    | some v => v
    | none =>
      if c.mode ≠ 3 ∨ s.pstate p = 0 then false
      else if s.feSafe p then
        match s.fld p Bk.CH_CFG_SAFE k with
        | 0 => false
        | 1 => true
        | _ => c.bit
      else c.value

/-- Whether a fault keeps the switch off (R413, R416). -/
def holdsOff (fault : Nat) : Bool := fault == 5 || fault == 7 || fault == 8 || fault == 10

/-- Whether a fault is a latched switch-off (R413). -/
def latches (fault : Nat) : Bool := fault == 5 || fault == 7 || fault == 8

/-- A fault entered (R413): a new cause replaces an old one only if it is higher in the table. -/
def State.chFault (s : State) (p k code : Nat) : State :=
  let c := s.ch p k
  if c.fault ≠ 0 ∧ c.fault ≤ code then s
  else (s.setCh p k { c with fault := code, offAt := s.now }).bump p Bk.CH_FAULTS k

/-- A fault ended, if it is the one reported. -/
def State.chFaultEnd (s : State) (p k code : Nat) : State :=
  let c := s.ch p k
  if c.fault = code then s.setCh p k { c with fault := 0 } else s

/-- One channel driven under R416; cause SUPPLY follows the supply, OPEN_LOAD ends at command 0. -/
def State.driveCh (s : State) (p k : Nat) : State :=
  let kd := s.kerbDrives p k
  let want := s.wanted p k
  let c := s.ch p k
  let s := s.setCh p k { c with kerbOn := kd, kerbHold := if kd then some want else if s.kact then none else c.kerbHold, safe := s.feSafe p && c.mode == 3 && !kd }
  let s := if want && !s.fieldSupply p then s.chFault p k 10 else s.chFaultEnd p k 10
  let c := s.ch p k
  let cmd := want && !holdsOff c.fault && s.fieldSupply p
  let s := s.setCh p k { c with cmd := cmd, diffAt := if cmd = c.cmd then c.diffAt else s.now }
  if cmd then s else s.chFaultEnd p k 6

/-- Every channel of a bank driven. -/
def State.driveBank (s : State) (p : Nat) : State := s.each (List.range 16) fun s k => s.driveCh p k

/-- One sample of the filter of R408, under thresholds of at least 1: the count, the state and whether it has changed. -/
def filterStep (on off c : Nat) (state raw : Bool) : Nat × Bool × Bool :=
  let lim := max on off
  let c := if raw then min (c + 1) lim else c - 1
  if !state && decide (on ≤ c) then (lim, true, true)
  else if state && decide (c ≤ lim - off) then (0, false, true)
  else (c, state, false)

/-- `n` further samples of one raw level once a sample has been taken under the present thresholds: count and state, with how
many samples were left when the state changed, if it did. -/
def filterMore (on off c : Nat) (state raw : Bool) (n : Nat) : Nat × Bool × Option Nat :=
  let lim := max on off
  if raw then
    if state then (min (c + n) lim, true, none)
    else if on ≤ c + n ∧ 0 < n then (lim, true, some (c + n - max on (c + 1)))
    else (min (c + n) lim, false, none)
  else if state then
    -- the state falls once c ≤ LIM - OFF_E
    if c ≤ lim - off + n ∧ 0 < n then (0, false, some (n - max 1 (c - (lim - off))))
    else (c - n, true, none)
  else (c - n, false, none)

/-- The filter of R408 over `n` samples of one raw level: count and state, with how many samples were left at each change. -/
def filterRun (on off c : Nat) (state raw : Bool) : Nat → Nat × Bool × List Nat
  | 0 => (c, state, [])
  | n + 1 =>
    let on := max on 1
    let off := max off 1
    let x := filterStep on off c state raw
    let y := filterMore on off x.1 x.2.1 raw n
    (y.1, y.2.1, (if x.2.2 then [n] else []) ++ y.2.2.toList)

/-- The thresholds of a comparator in mV (R407, R412): at or above the first raw 1, at or below the second raw 0; the readback of
an output has those of 24 V, Type 3. -/
def State.thresholds (s : State) (p : Nat) (output : Bool) : Int × Int :=
  if output then (9000, 7000)
  else if s.flag p Bk.BANK_CFG_LEVEL then (70000, 50000)
  else if s.flag p Bk.BANK_CFG_CHAR then (9000, 7000)
  else (12000, 10000)

/-- The comparator of R407: between its thresholds it keeps its level. -/
def comparator (t : Int × Int) (was : Bool) (mv : Int) : Bool := if t.1 ≤ mv then true else if mv ≤ t.2 then false else was

/-- The class of a loop current in µA (R410): 1 CLOSED, 2 OPEN, 3 BROKEN, 4 SHORT, 5 GAP. -/
def loopClass (ua : Int) : Nat :=
  if 15000 < ua then 4 else if 6000 < ua then 1 else if 1000 ≤ ua ∧ ua ≤ 3000 then 2 else if ua < 500 then 3 else 5

/-- A qualified transition (R262, R409): counted and stamped at 1 µs resolution; a rising one is passed on. -/
def State.qualified (s : State) (p k us : Nat) (up : Bool) : State :=
  let c := s.ch p k
  let s := s.setCh p k { c with diffAt := s.now, rise1 := if up then some (s.now - us * 1000) else c.rise1, rise2 := if up then c.rise1 else c.rise2 }
  (s.bump p Bk.CH_EDGES k).setFld64 p Bk.EDGE_TIME_LO ((s.time - us * 1000) / 1000 * 1000) k

/-- Transitions that alternate from a state, `left` giving for each the samples after it in its run. -/
def State.qualifiedAll (s : State) (p k ago : Nat) (up : Bool) : List Nat → State
  | [] => s
  | left :: rest => (s.qualified p k (ago + left) up).qualifiedAll p k ago (!up) rest

/-- A run of samples at an input (R407-R411): the comparator or the class, the state, its transitions and the class times. -/
def State.sampleRun (s : State) (p k : Nat) (ago : Nat) (r : SampleRun) : State :=
  let c := s.ch p k
  let mon := c.mode == 2
  let cls := if mon then loopClass r.level else 0
  let good := !mon || cls == 1 || cls == 2
  let lvl := comparator (s.thresholds p (c.mode == 3)) c.raw r.level
  let raw := if c.mode = 3 then lvl else (if mon then cls == 1 else lvl) != s.flag p Bk.CH_CFG_INVERT k
  let c' := { c with
    cls := cls
    raw := lvl
    badUs := if good then 0 else c.badUs + r.us
    goodUs := if good then c.goodUs + r.us else 0 }
  if c.mode = 0 then s
  else if !good || (mon && c.fault != 0) then s.setCh p k c'
  else
    let f := filterRun (s.fld p Bk.CH_FILT_ON_US k) (s.fld p Bk.CH_FILT_OFF_US k) c.c c.state raw r.us
    (s.setCh p k { c' with c := f.1, state := f.2.1 }).qualifiedAll p k ago (!c.state) f.2.2

/-- Runs of samples in order, the last of which ends now. -/
def State.sampleRuns (s : State) (p k : Nat) : List SampleRun → State
  | [] => s
  | r :: rest => (s.sampleRun p k ((rest.map (·.us)).sum) r).sampleRuns p k rest

/-- INPUT_QUALIFIED (R408, R409): the samples that bring the count to its threshold. -/
def execInputQualified (t : Nat) (b : Fin 16) (k : Fin 16) (runs : List SampleRun) (s : State) : Host.Outcome State Fault Refusal :=
  .next ((s.start t).sampleRuns (0x30 + b.val) k.val runs)

/-- MONITORED_FAULT (R411). -/
def execMonitoredFault (t : Nat) (b : Fin 16) (k : Fin 16) (runs : List SampleRun) (s : State) : Host.Outcome State Fault Refusal :=
  let p := 0x30 + b.val
  let s := (s.start t).sampleRuns p k.val runs
  let c := s.ch p k.val
  .next (if c.mode = 2 ∧ 3 ≤ c.cls ∧ s.fld p Bk.WB_MS * 1000 ≤ c.badUs then s.chFault p k.val (c.cls - 1) else s)

/-- MONITORED_RECOVER (R411): 10 ms of good samples; the filter resumes from the count it held. -/
def execMonitoredRecover (t : Nat) (b : Fin 16) (k : Fin 16) (runs : List SampleRun) (s : State) : Host.Outcome State Fault Refusal :=
  let p := 0x30 + b.val
  let s := (s.start t).sampleRuns p k.val runs
  let c := s.ch p k.val
  .next (if c.mode = 2 ∧ 2 ≤ c.fault ∧ c.fault ≤ 4 ∧ 10000 ≤ c.goodUs then s.setCh p k.val { c with fault := 0 } else s)

/-- A channel of an output, the only ones that output faults concern. -/
def State.isOutput (s : State) (p k : Nat) : Bool := (s.ch p k).mode == 3

/-- Whether an output is overloaded (R413): 0.6 A for OVL_MS, the current limit for 1 ms, or command 1 with readback 0 for 2 ms. -/
def State.overloaded (s : State) (p k : Nat) : Overload → Bool
  | .current ma us => decide (600 ≤ ma ∧ s.fld p Bk.OUT_PROT_OVL_MS * 1000 ≤ us)
  | .limit us => decide (1000 ≤ us)
  | .readback => (s.ch p k).cmd && !(s.ch p k).state && decide ((s.ch p k).diffAt + 2000000 ≤ s.now)

/-- OUTPUT_OVERLOAD (R413). -/
def execOutputOverload (t : Nat) (b : Fin 16) (k : Fin 16) (x : Overload) (s : State) : Host.Outcome State Fault Refusal :=
  let s := s.start t
  let p := 0x30 + b.val
  .next (if s.isOutput p k.val ∧ (s.ch p k.val).cmd ∧ s.overloaded p k.val x then (s.chFault p k.val 5).driveCh p k.val else s)

/-- OPEN_LOAD (R413): the load current in mA has been below OPEN_MA for 100 ms. -/
def execOpenLoad (t : Nat) (b : Fin 16) (k : Fin 16) (ma : Nat) (s : State) : Host.Outcome State Fault Refusal :=
  let s := s.start t
  let p := 0x30 + b.val
  .next (if s.isOutput p k.val ∧ (s.ch p k.val).cmd ∧ ma < s.fld p Bk.OUT_OPEN_OPEN_MA then s.chFault p k.val 6 else s)

/-- OUTPUT_OVERTEMP (R413): the junction temperature in °C. -/
def execOutputOvertemp (t : Nat) (b : Fin 16) (k : Fin 16) (temp : Nat) (s : State) : Host.Outcome State Fault Refusal :=
  let s := s.start t
  let p := 0x30 + b.val
  let s := s.setCh p k.val { s.ch p k.val with temp := temp }
  .next (if s.isOutput p k.val ∧ 165 < temp then (s.chFault p k.val 7).driveCh p k.val else s)

/-- The output with the highest current, ties to the lowest channel, among the first `n`. -/
def State.highest (s : State) (p : Nat) : Nat → Option Nat
  | 0 => none
  | n + 1 =>
    match s.highest p n with
    | none => if s.isOutput p n && (s.ch p n).cmd then some n else none
    | some k => if s.isOutput p n && (s.ch p n).cmd && decide ((s.ch p k).cur < (s.ch p n).cur) then some n else some k

/-- The sum of the output currents of a bank in mA. -/
def State.bankCurrent (s : State) (p : Nat) : Nat :=
  ((List.range 16).map fun k => if s.isOutput p k then (s.ch p k).cur else 0).sum

/-- BANK_OVERLOAD (R413): the currents of the sixteen channels in mA. -/
def execBankOverload (t : Nat) (b : Fin 16) (cur : List Nat) (s : State) : Host.Outcome State Fault Refusal :=
  let s := s.start t
  let p := 0x30 + b.val
  let s := ((List.range 16).zip cur).foldl (fun s x => s.setCh p x.1 { s.ch p x.1 with cur := x.2 }) s
  .next (match s.highest p 16 with
    | some k =>
      if 4000 < s.bankCurrent p then
        let s := (s.chFault p k 8).driveCh p k
        (s.bump p Bk.BANK_OVL_COUNT).raise p 6 k
      else s
    | none => s)

/-- BACKFEED (R413): command 0 with readback 1 for 10 ms. -/
def execBackfeed (t : Nat) (b : Fin 16) (k : Fin 16) (s : State) : Host.Outcome State Fault Refusal :=
  let s := s.start t
  let p := 0x30 + b.val
  let c := s.ch p k.val
  .next (if c.mode = 3 ∧ !c.cmd ∧ c.state ∧ c.diffAt + 10000000 ≤ s.now then s.chFault p k.val 9 else s)

/-- FIELD_OUTPUT_FAULT_END (R413): the load current in mA; OPEN_LOAD ends at OPEN_MA or above, BACKFEED after 10 ms of
readback 0. -/
def execFieldOutputFaultEnd (t : Nat) (b : Fin 16) (k : Fin 16) (ma : Nat) (s : State) : Host.Outcome State Fault Refusal :=
  let s := s.start t
  let p := 0x30 + b.val
  let c := s.ch p k.val
  .next (if c.fault = 6 ∧ s.fld p Bk.OUT_OPEN_OPEN_MA ≤ ma then s.chFaultEnd p k.val 6
    else if c.fault = 9 ∧ !c.state ∧ c.diffAt + 10000000 ≤ s.now then s.chFaultEnd p k.val 9
    else s)

/-- Whether the condition of a latched fault has ended (R413, R414): an overheated junction below 145 °C. -/
def releasable (c : FeChan) : Bool := latches c.fault && (c.fault != 7 || decide (c.temp < 145))

/-- A latched output released (R414). -/
def State.releaseCh (s : State) (p k : Nat) : State :=
  let c := s.ch p k
  if releasable c then (s.setCh p k { c with fault := 0 }).driveCh p k else s

/-- OUTPUT_RETRY (R414): the junction temperature in °C. -/
def execOutputRetry (t : Nat) (b : Fin 16) (k : Fin 16) (temp : Nat) (s : State) : Host.Outcome State Fault Refusal :=
  let s := s.start t
  let p := 0x30 + b.val
  let s := s.setCh p k.val { s.ch p k.val with temp := temp }
  let ms := s.fld p Bk.OUT_PROT_RETRY_MS
  let c := s.ch p k.val
  .next (if ms ≠ 0 ∧ c.bit ∧ c.offAt + ms * 1000000 ≤ s.now then s.releaseCh p k.val else s)

/-- OUT_PULSE_END (R415). -/
def execOutPulseEnd (t : Nat) (b : Fin 16) (k : Fin 16) (s : State) : Host.Outcome State Fault Refusal :=
  let s := s.start t
  let p := 0x30 + b.val
  let c := s.ch p k.val
  .next (match c.pulseEnd with
    | some x => if x ≤ s.now then (s.setCh p k.val { c with value := false, pulseEnd := none }).driveCh p k.val else s
    | none => s)

/-- A corner action on an output (R265, R266, R415): OUT_SET with a level, OUT_PULSE with a width in µs. -/
def State.cornerOut (s : State) (p k : Nat) (level : Bool) (pulse : Option Nat) : State :=
  if !s.isOutput p k || s.feSafe p then s
  else
    (s.setCh p k { s.ch p k with value := level, pulseEnd := pulse.map (fun us => s.now + us * 1000), cornerAt := some s.now }).driveCh p k

/-- SAFE_STATE and SAFE_COUNT (R417, R422): safe states apply while either silence is reported. -/
def State.showSafe (s : State) (p : Nat) : State :=
  let w := bitsOf (s.reg p Bk.SAFE_STATUS_LOGIC_SILENT.off) 1 0
  let was := bitAt (s.fld p Hd.EVT_RAW) 2
  let s := if w ≠ 0 ∧ !was then s.bump p Bk.SAFE_COUNT else s
  s.level p 2 (w != 0) w

/-- A bank enters a state (R423). -/
def State.setBankState (s : State) (p v : Nat) : State :=
  ((s.setPstate p v).setFld p Bk.SAFE_STATUS_LINK_LOST (bool01 (v == 3))).level p 7 (v == 3)

/-- The CRC-8 of a burst (R404): polynomial 0x2F, start value 0xFF, most significant bit first, without inversion. -/
def linkShift : Nat → Nat → Nat
  | 0, c => c
  | n + 1, c => linkShift n (if bitAt c 7 then (c * 2 % 256) ^^^ 0x2F else c * 2 % 256)
def linkCrc (bytes : List Nat) : Nat := bytes.foldl (fun c b => linkShift 8 (c ^^^ (b % 256))) 0xFF

/-- Whether the link of a bank is up (R423): both bursts of both directions have been good since it last trained. -/
def State.linkUp (s : State) (p : Nat) : Bool :=
  (List.range 2).all fun n => (s.burst p n).seq.isSome && (s.burst p n).feSeq.isSome

/-- STARTING left for RUN (R423): the configuration is applied, the owner has refreshed, and the link is up. -/
def State.bankStart (s : State) (p : Nat) : State :=
  if s.pstate p = 0 ∧ (s.bank p).dirty = [] ∧ (s.bank p).ownerAt.isSome ∧ s.linkUp p then (s.setBankState p 1).driveBank p else s

/-- Whether the link of a bank is good (R423): neither end has missed its bursts beyond a first miss. -/
def State.linkGood (s : State) (p : Nat) : Bool :=
  !s.flag p Bk.SAFE_STATUS_LINK_SILENT && !(s.burst p 0).faulty && !(s.burst p 1).faulty

/-- An output refresh from the owner (R417, R423): the silence timer restarts and SILENT is cleared. -/
def State.ownerRefresh (s : State) (p : Nat) : State :=
  let s := s.modBank p fun b => { b with ownerAt := some s.now, release := !s.kact }
  let s := (s.setFld p Bk.SAFE_STATUS_LOGIC_SILENT 0).showSafe p
  if s.pstate p = 2 ∧ s.linkGood p then (s.setBankState p 1).driveBank p else s.bankStart p

/-- When the records of a burst were latched (R402, R406), given when it ends. -/
def latchedAt (n now : Nat) : Nat := now - (if n = 0 then 13500 else 15500)

/-- The bits of a channel record as a burst that ends now carries them (R403, R406). -/
def State.recordBits (s : State) (p k : Nat) : Nat := (s.ch p k).bitsAt (latchedAt (k / 8) s.now)

/-- The record of a channel as its burst carried it (R403, R420); a burst in FAULT gives cause 1. -/
def State.showRecord (s : State) (p k : Nat) (faulty : Bool) : State :=
  let b := s.recordBits p k
  let b := if faulty then b % 2 ^ 8 + 2 ^ 8 else b
  s.setReg p (Bk.CH_STATE_CURRENT.pos k) (BitVec.ofNat 32 ((s.ch p k).cur % 2 ^ 12 * 2 ^ 16 + b))

/-- The channels whose reported fault lies in a range. -/
def State.faultIn (s : State) (p lo hi : Nat) : List Nat :=
  (List.range 16).filter fun k => decide (lo ≤ s.fld p Bk.CH_STATE_FAULT k ∧ s.fld p Bk.CH_STATE_FAULT k ≤ hi)

/-- An event argument of a fault (R422): cause and channel. -/
def State.faultArg (s : State) (p : Nat) (ks : List Nat) : Nat :=
  match ks with
  | [] => 0
  | k :: _ => s.fld p Bk.CH_STATE_FAULT k * 2 ^ 8 + k

/-- IN_STATE, FAULT_MAP and the level events of a bank (R419, R422); `changed` are the channels whose fault has changed. -/
def State.showBank (s : State) (p : Nat) (changed : List Nat) : State :=
  let s := s.setFld p Bk.IN_STATE (maskOf' 16 fun k => s.flag p Bk.CH_STATE_STATE k)
  let s := s.setFld p Bk.FAULT_MAP (maskOf' 16 fun k => s.flag p Bk.CH_STATE_FAULT k)
  let ins := s.faultIn p 2 4
  let outs := s.faultIn p 5 10
  let pick (l : List Nat) : List Nat := (changed.filter fun k => l.contains k) ++ l
  let links := bool01 (s.burst p 0).faulty + 2 * bool01 (s.burst p 1).faulty
  let s := s.level p 1 (links != 0) links
  let s := s.level p 3 (ins != []) (s.faultArg p (pick ins))
  s.level p 4 (outs != []) (s.faultArg p (pick outs))
where
  maskOf' (n : Nat) (f : Nat → Bool) : Nat := (List.range n).foldl (fun m k => if f k then m + 2 ^ k else m) 0

/-- The channels of a burst. -/
def burstChans (n : Nat) : List Nat := List.range' (8 * n) 8

/-- The records of a burst shown, and what follows from them. -/
def State.showRecords (s : State) (p n : Nat) : State :=
  let old := (burstChans n).map fun k => (k, s.fld p Bk.CH_STATE_FAULT k)
  let faulty := (s.burst p n).faulty
  let s := s.each (burstChans n) fun s k => s.showRecord p k faulty
  s.showBank p ((old.filter fun x => s.fld p Bk.CH_STATE_FAULT x.1 != x.2).map (·.1))

/-- The status of burst 1 (R403): the supply, the temperature, the front-end's own silence and the kerb. -/
def State.showStatus (s : State) (p : Nat) (r : FeBurst) : State :=
  let s := (s.setFld p Bk.FS_V_VOLTS (r.volts * 5)).setFld p Bk.FS_V_PRESENT (bool01 (s.fieldSupply p))
  let s := s.setSfld p Bk.FE_TEMP (((r.temp : Int) - 64) * 10)
  let s := s.setFld p Bk.SAFE_STATUS_LINK_SILENT (bool01 (s.bank p).feSilent)
  let s := s.setFld p Bk.SAFE_STATUS_KERB_ACTIVE (bool01 s.kact)
  let s := s.setFld p Bk.BANK_I (saturate 13 (s.bankCurrent p))
  let s := s.level p 5 (!s.fieldSupply p)
  let s := if s.pstate p = 1 ∧ (s.bank p).feSilent then s.setBankState p 2 else s
  s.showSafe p

/-- Consecutive good refreshes counted at burst 1 (R423): after four a lost link is back. -/
def State.countRefresh (s : State) (p : Nat) : State :=
  let ok := (s.burst p 0).misses == 0
  let n := if ok then (s.bank p).refreshes + 1 else 0
  let s := s.modBank p fun b => { b with refreshes := n }
  if s.pstate p = 3 ∧ 4 ≤ n then
    match (s.bank p).ownerAt with
    | some x => if s.now ≤ x + s.fld p Bk.LS_TIMEOUT * 1000 then s.setBankState p 1 else s.setBankState p 2
    | none => s.setBankState p 2
  else s

/-- What the front-end measured for a burst. -/
def State.feMeasure (s : State) (p n : Nat) (r : FeBurst) : State :=
  (burstChans n).foldl (fun s k =>
    s.setCh p k { s.ch p k with cur := r.cur.getD (k % 8) 0, temp := r.junction.getD (k % 8) (s.ch p k).temp }) s

/-- The bytes of a front-end burst (R403), words low byte first (log entry 130): SEQ, eight records, and the status in burst 1. -/
def State.feBytes (s : State) (p n : Nat) (r : FeBurst) : List Nat :=
  let rec24 (k : Nat) : Nat := s.recordBits p k % 2 ^ 12 + (s.ch p k).cur % 2 ^ 12 * 2 ^ 12
  let status : Nat := r.volts % 2 ^ 10 + bool01 (s.fieldSupply p) * 2 ^ 10 + bool01 (s.bank p).feSilent * 2 ^ 11 + bool01 s.kact * 2 ^ 12
    + r.temp % 2 ^ 8 * 2 ^ 16 + (s.burst p 1).feSeq.getD 0 * 2 ^ 24
  [r.seq % 256] ++ ((burstChans n).flatMap fun k => leBytes 3 (rec24 k)) ++ (if n = 1 then leBytes 4 status else [])

/-- FRONT_END_BURST (R403-R406): a burst of the front-end; one that is not good is ignored. -/
def State.frontEndBurst (s : State) (p n : Nat) (r : FeBurst) : State :=
  let s := s.feMeasure p n r
  let x := s.burst p n
  let due := match x.seq with
    | some e => decide (r.seq % 256 = (e + 1) % 256)
    | none => true
  if !(r.crc == linkCrc (s.feBytes p n r) && due) then s
  else
    let g := if x.faulty then x.good + 1 else 0
    let s := s.setBurst p n { x with seq := some (r.seq % 256), misses := 0, good := g, faulty := x.faulty && decide (g < 4) }
    let s := if n = 1 then s.showStatus p r else s
    let s := s.showRecords p n
    (if n = 1 then s.countRefresh p else s).bankStart p

def execFrontEndBurst (t : Nat) (b : Fin 16) (n : Fin 2) (r : FeBurst) (s : State) : Host.Outcome State Fault Refusal :=
  .next ((s.start t).frontEndBurst (0x30 + b.val) n.val r)

/-- The link retrains (R405, R423): its windows are counted anew, and a bank in RUN or SAFE is LINK_LOST. -/
def State.retrain (s : State) (p : Nat) : State :=
  let s := s.modBank p fun b => { b with bursts := b.bursts.map fun e => (e.1, { e.2 with seq := none, feSeq := none }) }
  if s.pstate p = 1 ∨ s.pstate p = 2 then s.setBankState p 3 else s

/-- BURST_MISSED (R405). -/
def State.burstMissed (s : State) (p n : Nat) : State :=
  let x := s.burst p n
  let m := x.misses + 1
  let s := s.setBurst p n { x with seq := x.seq.map fun e => (e + 1) % 256, misses := m, good := 0, faulty := x.faulty || decide (2 ≤ m) }
  let s := s.modBank p fun b => { b with refreshes := 0 }
  let s := s.bump p (if n = 0 then Bk.LINK_MISSES_BURST0 else Bk.LINK_MISSES_BURST1)
  let s := s.raise p 0 (n * 2 ^ 8 + saturate 8 m)
  let s := if (s.burst p n).faulty && !x.faulty then
      (burstChans n).foldl (fun s k => s.bump p Bk.CH_FAULTS k) (s.bump p Bk.LINK_FAULTS)
    else s
  let s := if (s.burst p n).faulty then s.each (burstChans n) fun s k => s.setFld p Bk.CH_STATE_FAULT 1 k else s
  let s := s.showBank p []
  if 8 ≤ (s.burst p 0).misses ∧ 8 ≤ (s.burst p 1).misses then s.retrain p else s

def execBurstMissed (t : Nat) (b : Fin 16) (n : Fin 2) (s : State) : Host.Outcome State Fault Refusal :=
  .next ((s.start t).burstMissed (0x30 + b.val) n.val)

/-- The owner's bit of a channel as the stage sends it: only of an output (R415). -/
def State.ownerBit (s : State) (p k : Nat) : Bool := bitAt (s.fld p Bk.OUT_SET) k && (s.ch p k).mode == 3

/-- A command bit received (R414, R415): it takes effect on a change, and as 0 it releases a latch. A corner of the same
clock as the write that changed it stands (R267). -/
def State.takeBit (s : State) (p k : Nat) : State :=
  let c := s.ch p k
  let b := s.ownerBit p k
  let s :=
    if b = c.bit then s
    else if c.cornerAt.isSome ∧ c.cornerAt = (s.bank p).outAt then s.setCh p k { c with bit := b }
    else s.setCh p k { c with bit := b, value := b, pulseEnd := none }
  let s := if !b then s.releaseCh p k else s
  s.driveCh p k

/-- The mode of a channel taken over by the front-end (R418): it passes through OFF. -/
def State.takeMode (s : State) (p k : Nat) : State :=
  let m := s.fld p Bk.CH_CFG_MODE k
  if (s.ch p k).mode = m then s
  else
    let c := s.ch p k
    (s.setCh p k { mode := m, cur := 0, temp := c.temp, kerbHold := c.kerbHold, diffAt := s.now }).driveCh p k

/-- Safe states end (R416): every channel takes the owner's bit. -/
def State.leaveSafe (s : State) (p : Nat) : State :=
  s.each (List.range 16) fun s k => (s.setCh p k { s.ch p k with bit := s.ownerBit p k, value := s.ownerBit p k, pulseEnd := none })

/-- The SILENT flag of output burst 0 (R403, R417). -/
def State.takeFlags (s : State) (p : Nat) : State :=
  let silent := s.flag p Bk.SAFE_STATUS_LOGIC_SILENT
  let was := s.feSafe p
  let s := s.modBank p fun b => { b with feDemand := silent, feSilent := b.feSilent && silent }
  let s := if was && !silent then s.leaveSafe p else s
  if (s.bank p).release then
    (s.each (List.range 16) fun s k => s.setCh p k { s.ch p k with kerbHold := none }).modBank p fun b => { b with release := false }
  else s

/-- The bytes of a stage burst (R403): SEQ, the commands, then FLAGS, or a word of the front-end's configuration image with its
index, low byte first. -/
def State.stageBytes (s : State) (p n seq index word : Nat) : List Nat :=
  let cmds := ((List.range 8).map fun i => bool01 (s.ownerBit p (8 * n + i)) * 2 ^ i).sum
  [seq % 256, cmds] ++ (if n = 0 then [bool01 (s.flag p Bk.SAFE_STATUS_LOGIC_SILENT)] else [index % 256] ++ leBytes 2 word)

/-- STAGE_BURST (R403, R404, R415-R418): an output burst at the front-end with its SEQ. -/
def State.stageBurst (s : State) (p n seq index word crc : Nat) : State :=
  let x := s.burst p n
  let due := match x.feSeq with
    | some e => decide (seq % 256 = (e + 1) % 256)
    | none => true
  if !(crc == linkCrc (s.stageBytes p n seq index word) && due) then s
  else
    let s := (s.setBurst p n { x with feSeq := some (seq % 256) }).modBank p fun b => { b with feGoodAt := s.now }
    let s := if n = 0 then s.takeFlags p
      else
        match (s.bank p).dirty with
        | [] => s
        | k :: rest => (s.modBank p fun b => { b with dirty := rest }).takeMode p k
    ((s.each (burstChans n) fun s k => s.takeBit p k).driveBank p).bankStart p

def execStageBurst (t : Nat) (b : Fin 16) (n : Fin 2) (seq index word crc : Nat) (s : State) : Host.Outcome State Fault Refusal :=
  .next ((s.start t).stageBurst (0x30 + b.val) n.val seq index word crc)

/-- LINK_SILENCE (R417): 8 refreshes, 250 µs, without a good output burst. The window count goes on without it. -/
def execLinkSilence (t : Nat) (b : Fin 16) (s : State) : Host.Outcome State Fault Refusal :=
  let s := s.start t
  let p := 0x30 + b.val
  .next (if (s.bank p).feGoodAt + 250000 ≤ s.now ∧ !(s.bank p).feSilent then
      let s := s.modBank p fun b => { b with feSilent := true, bursts := b.bursts.map fun e => (e.1, { e.2 with feSeq := none }) }
      s.driveBank p
    else s)

/-- LOGIC_SILENCE (R417): LS_TIMEOUT µs without an owner refresh. -/
def execLogicSilence (t : Nat) (b : Fin 16) (s : State) : Host.Outcome State Fault Refusal :=
  let s := s.start t
  let p := 0x30 + b.val
  .next (match (s.bank p).ownerAt with
    | some x =>
      if x + s.fld p Bk.LS_TIMEOUT * 1000 ≤ s.now then
        let s := s.setFld p Bk.SAFE_STATUS_LOGIC_SILENT 1
        let s := if s.pstate p = 1 then s.setBankState p 2 else s
        s.showSafe p
      else s
    | none => s)

/-- OUT_SET_WRITE (R415, R417): a write by the owner lane is an output refresh. -/
def execOutSetWrite (t code gen : Nat) (b : Fin 16) (value : Word) (s : State) : Host.Outcome State Fault Refusal :=
  let p := 0x30 + b.val
  .next ((s.start t).write ⟨code, gen, p, Bk.OUT_SET.off, value⟩ fun s =>
    if (code = 1 ∨ code = 2) ∧ s.owner p = code then (s.ownerRefresh p).modBank p fun b => { b with outAt := some s.now } else s)

/-- MODE limited on a 110 V bank (R418): MONITORED becomes INPUT, reported as a clamp. -/
def State.limitMode (s : State) (code p k : Nat) : State :=
  if s.flag p Bk.BANK_CFG_LEVEL ∧ s.fld p Bk.CH_CFG_MODE k = 2 then
    ((s.setFld p Bk.CH_CFG_MODE 1 k).reportClamp code p (Bk.CH_CFG_MODE.pos k) 0 2 1).raise p 13
  else s

/-- What follows a write of a channel's configuration (R418): it is sent ahead of the rotation. -/
def State.chConfigured (s : State) (code p k : Nat) : State :=
  (s.limitMode code p k).modBank p fun b => { b with dirty := if b.dirty.contains k then b.dirty else b.dirty ++ [k] }

/-- What follows a write of BANK_CFG (R418): LEVEL 1 clamps every MONITORED channel with requester code 0. -/
def State.bankConfigured (s : State) (p : Nat) : State :=
  s.each (List.range 16) fun s k => if s.flag p Bk.BANK_CFG_LEVEL ∧ s.fld p Bk.CH_CFG_MODE k = 2 then s.chConfigured 0 p k else s

/-- CH_CFG_WRITE (R418). -/
def execChCfgWrite (t code gen : Nat) (b : Fin 16) (k : Fin 16) (value : Word) (s : State) : Host.Outcome State Fault Refusal :=
  let p := 0x30 + b.val
  .next ((s.start t).write ⟨code, gen, p, Bk.CH_CFG_MODE.pos k.val, value⟩ fun s => s.chConfigured code p k.val)

/-- The channels that a command names: one, or all for 0xFF. -/
def namedChans (n ch : Nat) : List Nat := if ch = 0xFF then List.range n else [ch]

/-- FAULT_CLEAR of a bank (R421). -/
def cmdFieldFaultClear (p : Nat) : Cmd where
  opc := 0x01
  kinds := (· == .bank)
  range := fun _ ch _ _ => decide (ch < 16) || ch == 0xFF
  allow := fun s q _ _ => if (namedChans 16 q.chan).any fun k => releasable (s.ch p k) then 0 else RC.state
  act := fun s q _ _ => (s.each (namedChans 16 q.chan) fun s k => s.releaseCh p k, RC.done)

def execFieldFaultClear (t : Nat) (q : Req) (s : State) : Host.Outcome State Fault Refusal :=
  .next ((s.start t).command q (cmdFieldFaultClear q.page))

/-- COUNTERS_CLEAR of a bank (R421). -/
def cmdFieldCountersClear (p : Nat) : Cmd where
  opc := 0x02
  kinds := (· == .bank)
  act := fun s _ _ _ =>
    let s := s.each [Bk.LINK_MISSES_BURST0.off, Bk.LINK_FAULTS.off, Bk.SAFE_COUNT.off, Bk.BANK_OVL_COUNT.off] fun s o => s.setReg p o 0
    (s.each (List.range 16) fun s k => (s.setFld p Bk.CH_EDGES 0 k).setFld p Bk.CH_FAULTS 0 k, RC.done)

def execFieldCountersClear (t : Nat) (q : Req) (s : State) : Host.Outcome State Fault Refusal :=
  .next ((s.start t).command q (cmdFieldCountersClear q.page))

/-- The field supply of a bank changed (R102, R413): its switches follow. -/
def State.fieldSupplyChanged (s : State) (p : Nat) : State := s.driveBank p

end Sys2Proof.Machine
end

