-- ==== Sys2Proof/Machine/Float.lean ====
section
/-! DEFINITION. The numbers of the NCP (R229): IEEE 754-2019 binary64 and binary32, round to nearest, ties to even,
exact to the bit. A finite number is held as an integer times a power of two; every operation computes exactly
and rounds once. -/

namespace Sys2Proof.Machine

/-- The two formats of R229: the bits of a significand and the smallest exponent of a unit in the last place. -/
structure FloatFmt where
  p : Nat
  width : Nat
  qmin : Int
  emax : Int
  deriving DecidableEq, Repr

def FloatFmt.b64 : FloatFmt := ⟨53, 64, -1074, 971⟩
def FloatFmt.b32 : FloatFmt := ⟨24, 32, -149, 104⟩

/-- The format that the P bit of an instruction selects (R211). -/
def FloatFmt.ofP (single : Bool) : FloatFmt := if single then .b32 else .b64

/-- A number: NaN (quiet or signalling), an infinity, or sign, significand and exponent, the value being
significand times two to the exponent. -/
inductive Num where
  | nan (signalling : Bool)
  | inf (neg : Bool)
  | fin (neg : Bool) (m : Nat) (e : Int)
  deriving DecidableEq, Repr

/-- The bits of XSR (R230). -/
def Xsr.invalid : Nat := 1
def Xsr.divzero : Nat := 2
def Xsr.overflow : Nat := 4
def Xsr.underflow : Nat := 8
def Xsr.inexact : Nat := 16

/-- The number a pattern stands for. -/
def FloatFmt.decode (f : FloatFmt) (w : Nat) : Num :=
  let frac := w % 2 ^ (f.p - 1)
  let expBits := f.width - f.p
  let ex := w / 2 ^ (f.p - 1) % 2 ^ expBits
  let neg := bitAt w (f.width - 1)
  if ex = 2 ^ expBits - 1 then (if frac = 0 then .inf neg else .nan (!bitAt frac (f.p - 2)))
  else if ex = 0 then .fin neg frac f.qmin
  else .fin neg (frac + 2 ^ (f.p - 1)) (f.qmin + (ex : Int) - 1)

/-- The one NaN that operations produce (R229). -/
def FloatFmt.qnan (f : FloatFmt) : Nat := (2 ^ (f.width - f.p) - 1) * 2 ^ (f.p - 1) + 2 ^ (f.p - 2)

/-- The pattern of an infinity. -/
def FloatFmt.infinity (f : FloatFmt) (neg : Bool) : Nat :=
  (2 ^ (f.width - f.p) - 1) * 2 ^ (f.p - 1) + bool01 neg * 2 ^ (f.width - 1)

/-- The pattern of a zero. -/
def FloatFmt.zero (f : FloatFmt) (neg : Bool) : Nat := bool01 neg * 2 ^ (f.width - 1)

/-- The number of bits of `m`. -/
def bitLen (m : Nat) : Nat := if m = 0 then 0 else Nat.log2 m + 1

/-- The significand `m` divided by two to the `k`, rounded to nearest, ties to even; `sticky` says that the true
value lies strictly between `m` and `m + 1`. The rounded value and whether it is inexact. -/
def roundShift (m k : Nat) (sticky : Bool) : Nat × Bool :=
  if k = 0 then (m, sticky)
  else
    let q := m / 2 ^ k
    let r := m % 2 ^ k
    let half := 2 ^ (k - 1)
    let up := decide (r > half) || (r == half && (sticky || q % 2 == 1))
    (if up then q + 1 else q, r != 0 || sticky)

/-- The exact value `m * 2^e` (or, with `sticky`, a value strictly between it and `(m + 1) * 2^e`) rounded into the
format: the pattern and the XSR bits (R229, R230). -/
def FloatFmt.round (f : FloatFmt) (neg : Bool) (m : Nat) (e : Int) (sticky : Bool) : Nat × Nat :=
  if m = 0 && !sticky then (f.zero neg, 0)
  else
    -- room below the last place, so that a sticky value never needs more bits than it has
    let (m, e) : Nat × Int := if sticky then (m * 2 ^ 64, e - 64) else (m, e)
    let q0 : Int := e + (bitLen m : Int) - (f.p : Int)
    let q := max q0 f.qmin
    let (r, inex) : Nat × Bool := if q ≤ e then (m * 2 ^ (e - q).toNat, false) else roundShift m (q - e).toNat sticky
    let (r, q) : Nat × Int := if r = 2 ^ f.p then (2 ^ (f.p - 1), q + 1) else (r, q)
    if q > f.emax then (f.infinity neg, Xsr.overflow + Xsr.inexact)
    else
      let expBits : Nat := if r < 2 ^ (f.p - 1) then 0 else (q - f.qmin).toNat + 1
      let pat := (if r < 2 ^ (f.p - 1) then r else r - 2 ^ (f.p - 1)) + expBits * 2 ^ (f.p - 1)
        + bool01 neg * 2 ^ (f.width - 1)
      -- tiny: below the smallest normal number; after rounding, as if the exponent were unbounded, or before it
      let tinyBefore := decide (e + (bitLen m : Int) < f.qmin + (f.p : Int))
      let q1 := q0
      let r1 : Nat := if q1 ≤ e then m * 2 ^ (e - q1).toNat else (roundShift m (q1 - e).toNat sticky).1
      let tinyAfter := tinyBefore && decide (q1 + (bitLen r1 : Int) < f.qmin + (f.p : Int))
      let tiny := if Config.tinyBeforeRounding then tinyBefore else tinyAfter
      (pat, if inex then Xsr.inexact + (if tiny then Xsr.underflow else 0) else 0)

/-- The result of an operation that is NaN: the canonical quiet NaN (R229). -/
def FloatFmt.invalid (f : FloatFmt) : Nat × Nat := (f.qnan, Xsr.invalid)

/-- Whether a number is a signalling NaN. -/
def Num.signals : Num → Bool
  | .nan s => s
  | _ => false

/-- Whether a number is a NaN. -/
def Num.isNan : Num → Bool
  | .nan _ => true
  | _ => false

/-- NaN operands: quiet unless one signals (R229). -/
def FloatFmt.nanOf (f : FloatFmt) (xs : List Num) : Nat × Nat :=
  (f.qnan, if xs.any Num.signals then Xsr.invalid else 0)

/-- A signed exact number. -/
def signedNum (neg : Bool) (m : Nat) : Int := if neg then -(m : Int) else m

/-- Two exact values brought to one exponent and added: the integer and the exponent. -/
def exactAdd (n1 : Bool) (m1 : Nat) (e1 : Int) (n2 : Bool) (m2 : Nat) (e2 : Int) : Int × Int :=
  let e := min e1 e2
  (signedNum n1 (m1 * 2 ^ (e1 - e).toNat) + signedNum n2 (m2 * 2 ^ (e2 - e).toNat), e)

/-- A sum of two exact values rounded; an exact zero is negative only when both were. -/
def FloatFmt.roundSum (f : FloatFmt) (n1 : Bool) (m1 : Nat) (e1 : Int) (n2 : Bool) (m2 : Nat) (e2 : Int) : Nat × Nat :=
  let (i, e) := exactAdd n1 m1 e1 n2 m2 e2
  if i = 0 then (f.zero (n1 && n2), 0) else f.round (decide (i < 0)) i.natAbs e false

/-- Addition. -/
def FloatFmt.add (f : FloatFmt) (x y : Num) : Nat × Nat :=
  match x, y with
  | .nan a, y => f.nanOf [.nan a, y]
  | x, .nan b => f.nanOf [x, .nan b]
  | .inf a, .inf b => if a = b then (f.infinity a, 0) else f.invalid
  | .inf a, .fin .. => (f.infinity a, 0)
  | .fin .., .inf b => (f.infinity b, 0)
  | .fin n1 m1 e1, .fin n2 m2 e2 => f.roundSum n1 m1 e1 n2 m2 e2

/-- The number with its sign inverted. -/
def Num.neg : Num → Num
  | .nan s => .nan s
  | .inf n => .inf (!n)
  | .fin n m e => .fin (!n) m e

/-- Multiplication. -/
def FloatFmt.mul (f : FloatFmt) (x y : Num) : Nat × Nat :=
  match x, y with
  | .nan a, y => f.nanOf [.nan a, y]
  | x, .nan b => f.nanOf [x, .nan b]
  | .inf a, .inf b => (f.infinity (a != b), 0)
  | .inf a, .fin b m _ => if m = 0 then f.invalid else (f.infinity (a != b), 0)
  | .fin a m _, .inf b => if m = 0 then f.invalid else (f.infinity (a != b), 0)
  | .fin n1 m1 e1, .fin n2 m2 e2 => f.round (n1 != n2) (m1 * m2) (e1 + e2) false

/-- Multiplication and addition with one rounding. -/
def FloatFmt.fma (f : FloatFmt) (x y z : Num) : Nat × Nat :=
  let invalidProduct : Bool := match x, y with
    | .inf _, .fin _ m _ => m == 0
    | .fin _ m _, .inf _ => m == 0
    | _, _ => false
  if invalidProduct then f.invalid
  else if x.isNan || y.isNan || z.isNan then f.nanOf [x, y, z]
  else
    match x, y, z with
    | .fin n1 m1 e1, .fin n2 m2 e2, .fin n3 m3 e3 => f.roundSum (n1 != n2) (m1 * m2) (e1 + e2) n3 m3 e3
    | .fin .., .fin .., .inf c => (f.infinity c, 0)
    | .inf a, .inf b, z | .inf a, .fin b _ _, z | .fin a _ _, .inf b, z =>
      match z with
      | .inf c => if c = (a != b) then (f.infinity c, 0) else f.invalid
      | _ => (f.infinity (a != b), 0)
    | _, _, _ => f.invalid

/-- Division. -/
def FloatFmt.div (f : FloatFmt) (x y : Num) : Nat × Nat :=
  match x, y with
  | .nan a, y => f.nanOf [.nan a, y]
  | x, .nan b => f.nanOf [x, .nan b]
  | .inf _, .inf _ => f.invalid
  | .inf a, .fin b _ _ => (f.infinity (a != b), 0)
  | .fin a _ _, .inf b => (f.zero (a != b), 0)
  | .fin n1 m1 e1, .fin n2 m2 e2 =>
    if m2 = 0 then (if m1 = 0 then f.invalid else (f.infinity (n1 != n2), Xsr.divzero))
    else if m1 = 0 then (f.zero (n1 != n2), 0)
    else
      let k := f.p + 2 + bitLen m2
      f.round (n1 != n2) (m1 * 2 ^ k / m2) (e1 - e2 - k) (m1 * 2 ^ k % m2 != 0)

/-- The integer square root, bit by bit from bit `n` down. -/
def isqrtFrom : Nat → Nat → Nat → Nat
  | 0, _, r => r
  | n + 1, m, r => isqrtFrom n m (if (r + 2 ^ n) * (r + 2 ^ n) ≤ m then r + 2 ^ n else r)

/-- The integer square root. -/
def isqrt (m : Nat) : Nat := isqrtFrom (bitLen m / 2 + 1) m 0

/-- The square root. -/
def FloatFmt.sqrt (f : FloatFmt) (x : Num) : Nat × Nat :=
  match x with
  | .nan a => f.nanOf [.nan a]
  | .inf n => if n then f.invalid else (f.infinity false, 0)
  | .fin n m e =>
    if m = 0 then (f.zero n, 0)
    else if n then f.invalid
    else
      let k := 2 * (f.p + 2) + (e % 2).toNat
      let v := m * 2 ^ k
      f.round false (isqrt v) ((e - k) / 2) (isqrt v * isqrt v != v)

/-- The order of two numbers that are not NaN: less than; zeros of either sign are equal. -/
def Num.lt (x y : Num) : Bool :=
  match x, y with
  | .inf a, .inf b => a && !b
  | .inf a, .fin .. => a
  | .fin .., .inf b => !b
  | .fin n1 m1 e1, .fin n2 m2 e2 => decide ((exactAdd n1 m1 e1 (!n2) m2 e2).1 < 0)
  | _, _ => false

/-- Whether a number is negative by its sign. -/
def Num.isNeg : Num → Bool
  | .nan _ => false
  | .inf n => n
  | .fin n _ _ => n

/-- The number as a pattern of the format it came from. -/
def FloatFmt.encode (f : FloatFmt) (x : Num) : Nat :=
  match x with
  | .nan _ => f.qnan
  | .inf n => f.infinity n
  | .fin n m e => (f.round n m e false).1

/-- minimumNumber and maximumNumber of IEEE 754-2019: a NaN gives way to a number, and -0 is below +0. -/
def FloatFmt.minNum (f : FloatFmt) (x y : Num) : Nat × Nat :=
  let fl := if x.signals || y.signals then Xsr.invalid else 0
  if x.isNan then (f.encode y, fl)
  else if y.isNan then (f.encode x, fl)
  else (f.encode (if x.lt y || (!y.lt x && x.isNeg) then x else y), fl)

def FloatFmt.maxNum (f : FloatFmt) (x y : Num) : Nat × Nat :=
  let fl := if x.signals || y.signals then Xsr.invalid else 0
  if x.isNan then (f.encode y, fl)
  else if y.isNan then (f.encode x, fl)
  else (f.encode (if y.lt x || (!x.lt y && y.isNeg) then x else y), fl)

/-- A comparison (R230): equal, less, greater, unordered, and the XSR bits. -/
def Num.compare (x y : Num) : (Bool × Bool × Bool × Bool) × Nat :=
  if x.isNan || y.isNan then
    ((false, false, false, true), if x.signals || y.signals || Config.compareSignals then Xsr.invalid else 0)
  else ((!x.lt y && !y.lt x, x.lt y, y.lt x, false), 0)

/-- A signed integer rounded into the format. -/
def FloatFmt.ofInt (f : FloatFmt) (i : Int) : Nat × Nat :=
  if i = 0 then (f.zero false, 0) else f.round (decide (i < 0)) i.natAbs 0 false

/-- A number rounded towards zero and saturated to a signed 32-bit integer (R230, XCVTI). -/
def Num.toInt32 (x : Num) : Int × Nat :=
  match x with
  | .nan _ => (0, Xsr.invalid)
  | .inf n => (if n then -2147483648 else 2147483647, Xsr.invalid)
  | .fin n m e =>
    let v := if e ≥ 0 then m * 2 ^ e.toNat else m / 2 ^ (-e).toNat
    let frac := decide (e < 0) && m % 2 ^ (-e).toNat != 0
    let i := signedNum n v
    if i > 2147483647 then (2147483647, Xsr.invalid)
    else if i < -2147483648 then (-2147483648, Xsr.invalid)
    else (i, if frac then Xsr.inexact else 0)

/-- A number of one format rounded into another (R230, XCVTS and XCVTD). -/
def FloatFmt.convert (f : FloatFmt) (x : Num) : Nat × Nat :=
  match x with
  | .nan a => f.nanOf [.nan a]
  | .inf n => (f.infinity n, 0)
  | .fin n m e => f.round n m e false

end Sys2Proof.Machine
end

