-- ==== Sys2Proof/Machine/Profile.lean ====
section
/-! DEFINITION. Profiles (R283, R285): time-optimal plans under a speed limit, an acceleration, a deceleration and a
jerk, in the fixed point of log entry 11, and the setpoint at an elapsed time. -/

namespace Sys2Proof.Machine

/-- One position unit inside the engine. -/
def fine : Int := 2 ^ 20

/-- A position in units (R281). -/
def Kin.units (k : Kin) : Int := k.p / fine

/-- A velocity in units per second, to the nearest. -/
def Kin.speed (k : Kin) : Int := (k.v + fine / 2) / fine

/-- An acceleration in units per second squared, to the nearest. -/
def Kin.accel (k : Kin) : Int := (k.a + fine / 2) / fine

/-- A setpoint `e` ns into a part of a profile. -/
def Kin.into (k : Kin) (g : Seg) (e : Nat) : Kin :=
  let e : Int := e
  { p := k.p + k.v * e / 10 ^ 9 + g.acc * e * e / (2 * 10 ^ 18) + g.jerk * e * e * e / (6 * 10 ^ 27)
    v := k.v + g.acc * e / 10 ^ 9 + g.jerk * e * e / (2 * 10 ^ 18)
    a := g.acc + g.jerk * e / 10 ^ 9 }

/-- A setpoint at the end of a plan: its velocity is kept. -/
def Kin.along (k : Kin) : List Seg → Nat → Kin
  | [], e => { p := k.p + k.v * e / 10 ^ 9, v := k.v, a := 0 }
  | g :: rest, e => if e < g.dur then k.into g e else (k.into g g.dur).along rest (e - g.dur)

/-- How long a plan lasts, in ns. -/
def planTime : List Seg → Nat
  | [] => 0
  | g :: rest => g.dur + planTime rest

/-- The setpoint after a whole plan. -/
def Kin.finish (k : Kin) : List Seg → Kin
  | [] => { k with a := 0 }
  | g :: rest => (k.into g g.dur).finish rest

/-- `n` divided by `d`, rounded up; 0 where `d` is 0. -/
def upDiv (n d : Nat) : Nat := if d = 0 then 0 else (n + d - 1) / d

/-- The limits of a profile: acceleration, deceleration and jerk (0: trapezoidal), in fine units. -/
structure Bounds where
  acc : Nat
  dec : Nat
  jerk : Nat
  deriving DecidableEq, Repr

/-- A change of velocity between speeds of one sign without a jerk limit. -/
def rampSegs (lim : Nat) (v0 v1 : Int) : List Seg :=
  let d := v1 - v0
  if d = 0 then []
  else [⟨upDiv (d.natAbs * 10 ^ 9) lim, if d < 0 then -(lim : Int) else lim, 0⟩]

/-- The change of velocity that brings an acceleration to 0 makes under a jerk limit. -/
def easing (j a : Int) : Int := a * a.natAbs / (2 * j)

/-- A change of velocity under a jerk limit, from acceleration `a0` to acceleration `a1`: the acceleration rises to its
peak, holds and falls. -/
def jerkSegs (lim jerk : Nat) (v0 a0 v1 a1 : Int) : List Seg :=
  let j : Int := jerk
  let d : Int := if v0 + easing j a0 - easing j a1 ≤ v1 then 1 else -1
  let a := d * a0
  let e := d * a1
  let dv := d * (v1 - v0)
  let peak2 := j * dv + (a * a + e * e) / 2
  let peak : Int := min (lim : Int) (isqrt peak2.toNat)
  let up : Bool := decide (a ≤ peak)
  let g1 := if up then (peak * peak - a * a) / (2 * j) else (a * a - peak * peak) / (2 * j)
  let left := dv - g1 - (peak * peak - e * e) / (2 * j)
  let t1 := upDiv ((peak - a).natAbs * 10 ^ 9) jerk
  let t2 := if peak ≤ 0 then 0 else left.toNat * 10 ^ 9 / peak.toNat
  let t3 := upDiv ((peak - e).toNat * 10 ^ 9) jerk
  [⟨t1, a0, if up then d * j else -(d * j)⟩, ⟨t2, d * peak, 0⟩, ⟨t3, d * peak, -(d * j)⟩]

/-- The velocity that remains once the acceleration has been brought to 0. -/
def restSpeed (b : Bounds) (v0 a0 : Int) : Int := if b.jerk = 0 then v0 else v0 + easing b.jerk a0

/-- A change of velocity on one side of 0: slowing uses the deceleration, gaining speed the acceleration; the way down
from a speed overshot is a slowing. -/
def changeSegs (b : Bounds) (v0 a0 v1 : Int) : List Seg :=
  let lim := if v1.natAbs < (restSpeed b v0 a0).natAbs then b.dec else b.acc
  if b.jerk = 0 then rampSegs lim v0 v1 else jerkSegs lim b.jerk v0 a0 v1 0

/-- A change of velocity; through 0 when the sign changes, where the deceleration bounds the way to 0 and the acceleration
the way from it. Under a jerk limit 0 is passed at the largest acceleration that both ways allow. -/
def toSpeed (b : Bounds) (v0 a0 v1 : Int) : List Seg :=
  if (v0 < 0 ∧ 0 < v1) ∨ (0 < v0 ∧ v1 < 0) then
    if b.jerk = 0 then changeSegs b v0 a0 0 ++ changeSegs b 0 0 v1
    else if 0 ≤ restSpeed b v0 a0 * v1 then changeSegs b v0 a0 v1
    else
      let j2 : Int := 2 * b.jerk
      let c : Int := min (min (b.acc : Int) b.dec) (min (isqrt (j2 * v1.natAbs).toNat) (isqrt (j2 * v0.natAbs + a0 * a0).toNat))
      let c := if v1 < 0 then -c else c
      jerkSegs b.dec b.jerk v0 a0 0 c ++ jerkSegs b.acc b.jerk 0 c v1 0
  else changeSegs b v0 a0 v1

/-- How far a plan moves from a velocity and an acceleration. -/
def planWay (v0 a0 : Int) (g : List Seg) : Int := ((⟨0, v0, a0⟩ : Kin).finish g).p

/-- The plan to stand still again after reaching velocity `vp`. -/
def hillSegs (b : Bounds) (v0 a0 vp : Int) : List Seg := toSpeed b v0 a0 vp ++ toSpeed b vp 0 0

/-- The largest value of a range that fits, bit by bit; its lower end is taken to fit. -/
def bisect (fits : Int → Bool) : Nat → Int → Int → Int
  | 0, lo, _ => lo
  | n + 1, lo, hi => if fits ((lo + hi) / 2) then bisect fits n ((lo + hi) / 2) hi else bisect fits n lo ((lo + hi) / 2)

/-- A slowing eased to deceleration `m` and then taken up again to standstill: at `vmax` where the speed is to fall that
far first, otherwise as soon as the jerk allows. -/
def notchSegs (b : Bounds) (vmax v0 a0 m : Int) : List Seg :=
  let g :=
    if vmax < restSpeed b v0 a0 then jerkSegs b.dec b.jerk v0 a0 vmax (-m)
    else [⟨upDiv ((a0 + m).natAbs * 10 ^ 9) b.jerk, a0, b.jerk⟩]
  let k := (⟨0, v0, a0⟩ : Kin).finish g
  g ++ toSpeed b k.v (-m) 0

/-- The largest deceleration to which `notchSegs` eases, at which it is the plain stop. -/
def notchMost (b : Bounds) (vmax v0 a0 : Int) : Int :=
  if vmax < restSpeed b v0 a0 then
    min (b.dec : Int) (min (isqrt (2 * b.jerk * vmax).toNat) (isqrt (2 * b.jerk * (v0 - vmax) + a0 * a0).toNat))
  else max 0 (-a0)

/-- A cruise of a distance at a velocity. -/
def cruise (dist v : Int) : List Seg := if v ≤ 0 ∨ dist ≤ 0 then [] else [⟨(dist * 10 ^ 9 / v).toNat, 0, 0⟩]

/-- The plan forward over a distance that is at least the stopping distance, with peak at most `vmax`: to `vmax` and a
cruise where there is room, otherwise over the highest peak that fits, or, where even easing the present slowing to 0
does not fit, with the slowing eased as far as fits. -/
def forwardSegs (b : Bounds) (vmax v0 a0 dist : Int) : List Seg :=
  let full := planWay v0 a0 (hillSegs b v0 a0 vmax)
  let low := max 0 (restSpeed b v0 a0)
  if full ≤ dist then toSpeed b v0 a0 vmax ++ cruise (dist - full) vmax ++ toSpeed b vmax 0 0
  else if b.jerk ≠ 0 ∧ (vmax < low ∨ dist < planWay v0 a0 (hillSegs b v0 a0 low)) then
    let most := notchMost b vmax v0 a0
    let k := bisect (fun k => decide (planWay v0 a0 (notchSegs b vmax v0 a0 (most - k)) ≤ dist)) (bitLen most.toNat + 1) 0 most
    notchSegs b vmax v0 a0 (most - k)
  else
    let vp := bisect (fun v => decide (planWay v0 a0 (hillSegs b v0 a0 v) ≤ dist)) (bitLen vmax.toNat + 1) (min low vmax) vmax
    let way := planWay v0 a0 (hillSegs b v0 a0 vp)
    toSpeed b v0 a0 vp ++ cruise (dist - way) vp ++ toSpeed b vp 0 0

/-- The plan with every sign turned. -/
def mirrorSegs (g : List Seg) : List Seg := g.map fun x => { x with acc := -x.acc, jerk := -x.jerk }

/-- The plan from standstill over a signed distance. -/
def restSegs (b : Bounds) (vmax dist : Int) : List Seg :=
  if dist < 0 then mirrorSegs (forwardSegs b vmax 0 0 (-dist)) else forwardSegs b vmax 0 0 dist

/-- The plan to a target at a signed distance (R283, R285): a target within the stopping distance or behind is
reached by stopping at the deceleration and moving back. -/
def placeSegs (b : Bounds) (vmax v0 a0 dist : Int) : List Seg :=
  let stop := toSpeed b v0 a0 0
  let way := planWay v0 a0 stop
  if 0 ≤ v0 ∧ way ≤ dist ∧ 0 < dist then forwardSegs b vmax v0 a0 dist
  else if v0 ≤ 0 ∧ dist ≤ way ∧ dist < 0 then mirrorSegs (forwardSegs b vmax (-v0) (-a0) (-dist))
  else stop ++ restSegs b vmax (dist - way)

end Sys2Proof.Machine
end

