-- ==== Sys2Proof/Machine/Axis.lean ====
section
/-! DEFINITION. What the chapters of the axis page share: the axis record, the drive state (R333, R345), force and
torque units (R321, R376), closing motions (R374) and the ceiling (R289). -/

namespace Sys2Proof.Machine

/-- The stage of an axis page. -/
def State.axis (s : State) (p : Nat) : AxisRec := s.axes.rd {} p

/-- The state with the stage of an axis page replaced. -/
def State.setAxis (s : State) (p : Nat) (x : AxisRec) : State := { s with axes := s.axes.wr {} p x }

/-- The state with the stage of an axis page changed. -/
def State.modAxis (s : State) (p : Nat) (f : AxisRec → AxisRec) : State := s.setAxis p (f (s.axis p))

/-- A motor bus: 0 bus A, 1 bus B. -/
def State.bus (s : State) (b : Nat) : BusRec := s.buses.rd {} b

/-- The state with a motor bus replaced. -/
def State.setBus (s : State) (b : Nat) (x : BusRec) : State := { s with buses := s.buses.wr {} b x }

/-- The motor bus of an axis page (R314). -/
def busOf (page : Nat) : Nat := if page < 0x20 then 0 else 1

/-- The axis pages of a motor bus, in ascending axis number. -/
def busPages (b : Nat) : List Nat := List.range' (0x10 + 16 * b) 16

/-- The page of an axis number. -/
def axisPage (n : Nat) : Nat := 0x10 + n

/-- The motion state of R312. -/
def State.mstate (s : State) (p : Nat) : Nat := s.fld p Ax.MOT_STATUS_STATE

/-- The state with the motion state of an axis set. -/
def State.setMstate (s : State) (p v : Nat) : State := s.setFld p Ax.MOT_STATUS_STATE v

/-- Whether an axis is rotary (log entry 12). -/
def rotary (p : Nat) : Bool := Config.rotaryAxis p

/-- Whether LIMIT_MODE is WRAP (R293). -/
def State.wraps (s : State) (p : Nat) : Bool := s.flag p Ax.MOT_CFG_LIMIT_MODE

/-- The measured position (R363). -/
def State.position (s : State) (p : Nat) : Int := s.sfld p Ax.POSITION

/-- REF_VALID (R290). -/
def State.referenced (s : State) (p : Nat) : Bool := s.flag p Ax.MOT_STATUS_REF_VALID

/-- The cause of a drive fault shown (R328), and noted in the curd record of the motion (R551). -/
def State.noteCause (s : State) (p cause : Nat) : State :=
  if cause = 0 then s
  else (s.setFld p Ax.DRV_STATUS_CAUSE cause).modAxis p fun x => { x with curd := x.curd.map fun k => { k with driveCause := cause } }

/-- The drive state entered (R333, R345): the mirror, CAUSE, FAULT_COUNT, DRIVE_STATE and DRIVE_FAULT. Without a motor, and where
the transistors begin to switch again, no low-side switch is kept closed (R318, R329). -/
def State.setDrive (s : State) (p new cause : Nat) : State :=
  let old := s.pstate p
  if old = new then s
  else
    let s := (s.setPstate p new).setFld p Ax.DRV_STATUS_STATE new
    let s := if new = 0 ∨ new = 2 ∨ new = 4 then s.modAxis p fun x => { x with low := 0 } else s
    let s := s.noteCause p cause
    let bad := decide (6 ≤ new ∧ new ≤ 8)
    let s := if bad then s.bump p Ax.FAULT_COUNT else s
    (s.raise p 4 (cause * 2 ^ 24 + old * 2 ^ 8 + new)).level p 5 bad

/-- Whether the drive of an axis is enabled for R312 (R333). -/
def State.driveEnabled (s : State) (p : Nat) : Bool :=
  s.pstate p == 3 || s.pstate p == 5 || s.pstate p == 6

/-- A quotient rounded to the nearest integer, halves upwards. -/
def roundDiv (n d : Int) : Int := if d = 0 then 0 else (2 * n + d) / (2 * d)

/-- The force in 0.1 N, or the torque in 0.001 N·m, of a q-axis current in mA (R321, R376), in the direction of
increasing position. A linear axis with no lead set has no stated value (`noLead`). -/
def State.forceOf (s : State) (p : Nat) (iq : Int) : Int :=
  let dir : Int := if s.flag p Ax.DRV_CFG_DIR_INVERT then -1 else 1
  let ke : Int := s.fld p Ax.KE
  if rotary p then roundDiv (dir * ke * iq * 8660254) 10000000000
  else roundDiv (dir * ke * iq * 54413981) (s.fld p Ax.MECH_LEAD_UM * 1000000)

/-- Whether an axis is linear with MECH_LEAD_UM still at its reset value 0, for which R321 states no force. -/
def State.noLead (s : State) (p : Nat) : Bool := !rotary p && s.fld p Ax.MECH_LEAD_UM == 0

/-- The force in 0.1 N of a mass in g at an acceleration in µm/s², or the torque in 0.001 N·m of an inertia in g·cm² at
an acceleration in 2^-24 revolutions per second squared. -/
def inertiaForce (p : Nat) (mass a : Int) : Int :=
  if rotary p then roundDiv (mass * a * 6283185307) (10000000000000 * 2 ^ 24)
  else roundDiv (mass * a) 100000000

/-- The closing direction of an axis (R374): -1, 1 or 0 for none. -/
def State.closeDir (s : State) (p : Nat) : Int :=
  match s.fld p Ax.OBS_CFG_CLOSE_DIR with
  | 1 => -1
  | 2 => 1
  | _ => 0

/-- The sign of a number. -/
def sign (i : Int) : Int := if i < 0 then -1 else if i = 0 then 0 else 1

/-- Whether the sensor found is serial. -/
def State.serial (s : State) (p : Nat) : Bool := s.fld p Ax.FB_STATUS_DETECTED == 3 || s.fld p Ax.FB_STATUS_DETECTED == 4

/-- P64 (R355): exact product and quotient, rounded down. -/
def State.p64 (s : State) (p : Nat) : Int :=
  let x := (s.axis p).fb
  x.count * (s.fld p Ax.FB_NUM : Int) / (s.fld p Ax.FB_DEN : Int)
    + (if s.serial p then s.sfld p Ax.FB_OFFSET else 0) + x.shift

/-- The measured position in the frame of the motion engine: in WRAP the count of all turns, which only the registers show
reduced (R293). -/
def State.place (s : State) (p : Nat) : Int := if s.wraps p then s.p64 p else s.position p

/-- A position of a register in the frame of the motion engine: in WRAP the one nearest to a base (R293). -/
def State.inFrame (s : State) (p : Nat) (base x : Int) : Int :=
  if s.wraps p then base + signedOf 24 ((x - base) % 2 ^ 24).toNat else x

/-- A position of the motion engine as the registers show it: modulo 2^24 in WRAP (R293). -/
def State.shownPos (s : State) (p : Nat) (x : Int) : Int := if s.wraps p then x % 2 ^ 24 else x

/-- The role of switch input `k` (R295). -/
def State.swRole (s : State) (p k : Nat) : Nat := bitsOf (s.reg p Ax.SW_MAP_SW0.off) (2 * k + 1) (2 * k)

/-- The switch input that has a role, if one has. -/
def State.roleInput (s : State) (p role : Nat) : Option Nat := [0, 1, 2].find? fun k => s.swRole p k == role

/-- Switch input `k` of an axis. -/
def State.switch (s : State) (p k : Nat) : Switch := (s.axis p).switches.rd {} k

/-- Whether the switch of a role is qualified active. -/
def State.roleActive (s : State) (p role : Nat) : Bool :=
  match s.roleInput p role with
  | some k => (s.switch p k).active
  | none => false

/-- The role sought by a homing method (R302). -/
def homeRole (method : Nat) : Nat := if method = 1 then 1 else if method = 2 then 2 else 3

/-- The direction in which a homing method searches (R302). -/
def homeDir (method : Nat) : Int := if method % 2 = 1 then -1 else 1

/-- Whether a homing starts on its target switch and first moves away from it (R304). -/
def State.homeAway (s : State) (p : Nat) : Bool :=
  let method := s.fld p Ax.HOME_CFG_METHOD
  decide (method ≤ 4) && s.roleActive p (homeRole method)

/-- The direction of a motion from a position (R299, R300, R374): towards its target, of its speed, or of the first phase of a
homing that is still to begin. -/
def State.motionDir (s : State) (p : Nat) (m : Motion) : Int :=
  if m.opc = 3 then sign m.speed
  else if m.opc = 0x10 then
    let d := homeDir (s.fld p Ax.HOME_CFG_METHOD)
    if s.mstate p = 11 then (s.axis p).home.dir else if s.homeAway p then -d else d
  else sign (m.target - s.place p)

/-- Whether an axis is in a closing motion (R374). -/
def State.closing (s : State) (p : Nat) : Bool :=
  let x := s.axis p
  let c := s.closeDir p
  let st := s.mstate p
  c != 0 &&
    match st with
    | 10 => x.pushDir == c
    | 3 => (match x.mot with | some m => m.origin.isSome && s.motionDir p m == c | none => false)
    | 4 => (match x.next with | some m => s.motionDir p m == c | none => false)
    | 6 | 7 | 8 => (match x.mot with
        | some m => m.opc != 0x10 && (sign x.kin.v == c || s.motionDir p m == c)
        | none => false)
    | _ => false

/-- The bound inputs that an axis sees not clear (R384). -/
def State.notClear (s : State) (p : Nat) : Bool :=
  s.fld p Ax.PRESENCE_BEAMS != 0 || s.fld p Ax.PRESENCE_EDGES != 0

/-- The ceiling between two points (R289). -/
def lineThrough (x0 y0 x1 y1 x : Int) : Int := if x1 = x0 then y1 else y0 + (y1 - y0) * (x - x0) / (x1 - x0)

/-- The ceiling at a position through points `i` to `n - 1`, the last `k` of them left. -/
def State.ceilingFrom (s : State) (p n : Nat) (x : Int) : Nat → Int
  | 0 => s.fld p Ax.FT_FORCE (n - 1)
  | k + 1 =>
    let i := n - (k + 1)
    if i = 0 then
      if x ≤ s.sfld p Ax.FT_POS 0 then s.fld p Ax.FT_FORCE 0 else s.ceilingFrom p n x k
    else if x ≤ s.sfld p Ax.FT_POS i then
      lineThrough (s.sfld p Ax.FT_POS (i - 1)) (s.fld p Ax.FT_FORCE (i - 1)) (s.sfld p Ax.FT_POS i) (s.fld p Ax.FT_FORCE i) x
    else s.ceilingFrom p n x k

/-- The force ceiling at a position, when a ceiling table applies (R289). -/
def State.ceiling (s : State) (p : Nat) (x : Int) : Option Nat :=
  let n := min (s.fld p Ax.FT_CFG_POINTS) 8
  if n < 2 then none else some (s.ceilingFrom p n x n).toNat

/-- The period of a loop of an axis in ns: of the current (0), velocity (1) or position loop (2), from EFF_BUS
(R70, R321). -/
def State.loopPeriod (s : State) (p k : Nat) : Nat :=
  let w := s.reg 0 (effOff (busOf p))
  let khz := if k = 0 then bitsOf w 15 8 else if k = 1 then bitsOf w 19 16 else bitsOf w 23 20
  if khz = 0 then 0 else 1000000 / khz

end Sys2Proof.Machine
end

