-- ==== Sys2Proof/Machine/Capture.lean ====
section
/-! DEFINITION. Press captures (R554, R555, R557): start, samples, marks, decimation and end. -/

namespace Sys2Proof.Machine

/-- The capture buffer of a lane (R557), in bytes: 12 MB taken as the size of what it holds, waveform captures, hence 1000-based
(DESIGN CHOICE, log entry 102: R8 lists memory and captures apart). -/
def captureBuffer : Nat := 12000000

/-- BUF_FILL.CAP_PCT brought up to date. -/
def State.showFill (s : State) (l : Lane) : State :=
  s.setFld (vatPage l) Vt.BUF_FILL_CAP_PCT (saturate 8 ((s.vat l).waiting 4 * 100 / captureBuffer))

/-- The running capture of an axis, with the lane that takes it. -/
def State.captureOf (s : State) (page : Nat) : Option (Lane × Capture) :=
  match (s.vats.a.captures.find? fun c => c.axis == page - 0x10) with
  | some c => some (.a, c)
  | none => (s.vats.b.captures.find? fun c => c.axis == page - 0x10).map fun c => (.b, c)

/-- A running capture changed. -/
def State.modCapture (s : State) (l : Lane) (axis : Nat) (f : Capture → Capture) : State :=
  let v := s.vat l
  s.setVat l { v with captures := v.captures.map fun c => if c.axis = axis then f c else c }

/-- The capture rate that PROFILE gives (R29), in kS/s. -/
def profileCapture (p : Nat) : Nat := if p = 1 then 16 else if p = 2 then 4 else 8

/-- The press-capture setting of a lane (R32, R68): its override or the profile's rate. -/
def State.captureSetting (s : State) (l : Lane) : Nat :=
  match l with
  | .a => if s.flag 0 Dev.OVR_CAPTURE_A_ENA then s.fld 0 Dev.OVR_CAPTURE_A_RATE else profileCapture (s.fld 0 Dev.PROFILE)
  | .b => if s.flag 0 Dev.OVR_CAPTURE_B_ENA then s.fld 0 Dev.OVR_CAPTURE_B_RATE else profileCapture (s.fld 0 Dev.PROFILE)

/-- The rate of a capture that starts (R70): the setting where R30 permits it, otherwise the highest permitted rate below
it, which page 0x00 reports as a clamp with requester code 0. -/
def State.captureRateNow (s : State) (l : Lane) : Nat × State :=
  let want := s.captureSetting l
  let ok := s.captureRates l
  if ok.contains want then (want, s)
  else
    let got := (ok.filter (· < want)).foldl max 0
    let off := if l = .a then Dev.OVR_CAPTURE_A_RATE.off else Dev.OVR_CAPTURE_B_RATE.off
    (got, (s.reportClamp 0 0 off 0 want got).raise 0 13)

/-- The first of every two samples (R557). -/
def everySecond : List (List Int) → List (List Int)
  | x :: _ :: rest => x :: everySecond rest
  | xs => xs

/-- A capture of an axis started (R554): cause 1 AUTO with the samples of the stage's ring, 2 a corner. Nothing
starts while captures are off, while the buffer has dropped captures (R557) or outside MOUNTING, READY and
DEGRADED (log entry 13). One that starts decimated keeps every second sample from its first (R557). -/
def State.captureStart (s : State) (page cause : Nat) : State :=
  let l := laneNum (s.owner page)
  let p := vatPage l
  let v := s.vat l
  let st := s.fld p Vt.VAT_STATUS_STATE
  if (s.captureOf page).isSome || !s.flag p Vt.VAT_CFG_CAPTURE_ENA then s
  else if v.shut || st = 0 || st = 4 || st = 5 then s.bump p Vt.NOT_STARTED
  else
    let (rate, s) := s.captureRateNow l
    let s := s.setFld 0 (if l = .a then Dev.EFF_CAPTURE_A else Dev.EFF_CAPTURE_B) rate
    let x := s.axis page
    let pre := if cause = 1 then x.ring.take (s.fld p Vt.CAP_TIME_PRE_MS * rate) else []
    let halving := decide (s.fld p Vt.VAT_CFG_DECIM_PCT ≤ v.waiting 4 * 100 / captureBuffer)
    let kept := if halving then everySecond pre.reverse else pre.reverse
    let c : Capture :=
      { axis := page - 0x10, lane := l.num, seq := v.capSeq,
        tFirst := s.time - (if rate = 0 then 0 else pre.length * 1000000 / rate), rate := rate * 1000,
        taken := pre.length, samples := kept, skip := halving && pre.length % 2 == 1, unsynced := !s.flag 0 Dev.TIME_STATUS_SYNCED, rotary := rotary page,
        startCause := cause, trigger := kept.length, aux := (s.reg p (Vt.CAP_AXIS_AUTO.pos (page - 0x10))).toNat % 2 ^ 24,
        halving := halving, decimated := halving, steps := if halving then [(0, 2)] else [] }
    let s := s.setVat l { v.hand 4 (4096 + 48 * kept.length) with captures := v.captures ++ [c], capSeq := (v.capSeq + 1) % 2 ^ 32 }
    let s := if halving then (s.bump p Vt.DECIMATED).raise p 1 (page - 0x10) else s
    let s := s.modAxis page fun x => { x with curd := x.curd.map fun k =>
      { k with captureSeq := some v.capSeq, captureLane := l.num, flags := setBit k.flags 3 true } }
    s.showFill l

/-- A running capture ended with its END_CAUSE (R554): it leaves the stage and waits in the buffer to be programmed. -/
def State.captureEnd (s : State) (l : Lane) (axis cause : Nat) : State :=
  let v := s.vat l
  match v.captures.find? fun c => c.axis == axis with
  | none => s
  | some c =>
    let s := s.setVat l { v with
      captures := v.captures.filter fun k => k.axis != axis
      stored := v.stored ++ [{ c with endCause := cause, dropped := cause == 4, powerLoss := cause == 7, pos := (v.part 4).handed }] }
    s.bump (vatPage l) Vt.CAPTURES

/-- The end of a motion schedules the end of its capture POST_MS later (R554). -/
def State.capturePost (s : State) (page : Nat) : State :=
  match s.captureOf page with
  | some (l, c) =>
    let n := s.now + s.fld (vatPage l) Vt.CAP_TIME_POST_MS * 1000000
    s.modCapture l c.axis fun c => { c with endAt := some (c.endAt.getD n) }
  | none => s

/-- A mark written at the present sample (R554): at most 64, the rest counted. -/
def State.captureMark (s : State) (page code avenue : Nat) (falling : Bool) : State :=
  match s.captureOf page with
  | some (l, c) => s.modCapture l c.axis fun c =>
      if c.marks.length < 64 then { c with marks := c.marks ++ [⟨c.samples.length, code, avenue, falling⟩] }
      else { c with marksLost := saturate 16 (c.marksLost + 1) }
  | none => s

/-- The signed 16-bit value of a signal (R555). -/
def signal (i : Int) : Int := saturateSigned 16 i

/-- An auxiliary signal of a capture (R555): its kind and index as CAP_AXIS gives them. -/
def State.auxSignal (s : State) (kind index : Nat) : Int :=
  match kind with
  | 1 => signal (s.sfld (0x4C + index / 8) Lp.I_NA (index % 8) / 1000)
  | 2 => signal (signedOf 16 (s.fld (0x30 + index) Bk.IN_STATE))
  | _ => 0

/-- A word of 32 inputs folded to 16 bits (R555, signals 20 and 21). -/
def folded (w : Nat) : Int := signedOf 16 ((w % 2 ^ 16) ||| (w / 2 ^ 16))

/-- The 24 signals of an axis (R555). -/
def State.signals (s : State) (page aux : Nat) : List Int :=
  let pos := s.fld page Ax.POSITION
  let scale : Int := if rotary page then 65536 else 64
  let m := s.mstate page + s.fld page Ax.MOT_STATUS_LIMITING * 16 + s.fld page Ax.MOT_STATUS_CEIL_ACTIVE * 512
    + s.fld page Ax.MOT_STATUS_SW_NEG * 4096 + s.fld page Ax.MOT_STATUS_SW_POS * 8192 + s.fld page Ax.MOT_STATUS_SW_HOME * 16384
  let d := s.pstate page + s.fld page Ax.DRV_STATUS_LIMITED * 256 + s.fld page Ax.DRV_STATUS_FOLDBACK * 512
    + s.fld page Ax.DRV_STATUS_REGEN_LIMITED * 1024 + s.fld page Ax.OBS_STATUS_REV_PHASE * 4096
  [ signedOf 16 (pos % 2 ^ 16), signedOf 16 (pos / 2 ^ 16 % 2 ^ 16), signal (s.sfld page Ax.FOLLOW_ERR),
    signal (s.sfld page Ax.SPEED / scale), signal (s.sfld page Ax.VEL_SET / scale),
    s.sfld page Ax.I_DQ_I_Q, s.sfld page Ax.I_DQ_I_D, s.sfld page Ax.I_UV_I_U, s.sfld page Ax.I_UV_I_V,
    s.sfld page Ax.I_W_DC_I_W, signal ((s.bus (busOf page)).mv / 10 : Nat),
    signal (s.sfld page Ax.F_EST), signal (s.sfld page Ax.F_MODEL), signal (s.sfld page Ax.F_EXCESS),
    signal (s.fld page Ax.THRESH_EFF), signal (s.fld page Ax.V_CMD_AMPL), s.sfld page Ax.I_W_DC_I_DC,
    s.sfld page Ax.STAGE_TEMP, signedOf 16 m, signedOf 16 d,
    folded (s.fld page Ax.PRESENCE_BEAMS), folded (s.fld page Ax.PRESENCE_EDGES),
    s.auxSignal (aux / 2 ^ 8 % 16) (aux % 2 ^ 8), s.auxSignal (aux / 2 ^ 20 % 16) (aux / 2 ^ 12 % 2 ^ 8) ]

end Sys2Proof.Machine
end

