-- ==== Sys2Proof/Machine/Position.lean ====
section
/-! DEFINITION. The position of a feedback port (R355-R358, R363), its faults (R366) and re-referencing (R290). -/

namespace Sys2Proof.Machine

/-- The port of an axis changed. -/
def State.modFb (s : State) (p : Nat) (f : FbRec → FbRec) : State := s.modAxis p fun x => { x with fb := f x.fb }

/-- The state of a port (R371): 0 OFF, 1 PROBING, 2 NO_SENSOR, 3 RUN, 4 FAULT. -/
def State.fbState (s : State) (p : Nat) : Nat := s.fld p Ax.FB_STATUS_STATE

/-- Whether a port reports FAULT (R352). -/
def State.fbFaulty (s : State) (p : Nat) : Bool := s.fbState p != 3

/-- COMM_POS (R356), in full. -/
def State.commPos (s : State) (p : Nat) : Int :=
  let x := (s.axis p).fb
  (x.count - (if s.serial p then 0 else x.base)) * (s.fld p Ax.FB_NUM : Int) / (s.fld p Ax.FB_DEN : Int)

/-- ANGLE where it is valid (R358). -/
def State.angleOf (s : State) (p : Nat) : Option Nat :=
  let x := (s.axis p).fb
  if s.serial p then
    let st := s.fld p Ax.SER_FMT_ST_BITS
    let v := x.raw.getD 0 % 2 ^ st
    let a := if st ≤ 24 then v * 2 ^ (24 - st) else v / 2 ^ (st - 24)
    some (if s.flag p Ax.FB_CFG_DIR_INV then (2 ^ 24 - a) % 2 ^ 24 else a)
  else
    let cpr := s.fld p Ax.FB_CPR
    if s.fld p Ax.FB_STATUS_DETECTED = 1 ∧ cpr ≠ 0 ∧ s.flag p Ax.FB_STATUS_COMM_VALID then
      some (((x.count - x.base) % (cpr : Int)).toNat * 2 ^ 24 / cpr)
    else none

/-- FB_CHANGE of a kind (R372), with a cause for kind FAULT. -/
def State.fbChange (s : State) (p kind cause : Nat) : State :=
  s.raise p 8 (cause * 2 ^ 16 + kind * 2 ^ 8 + s.fld p Ax.FB_STATUS_DETECTED)

/-- FB_FAULT brought to its condition (R372): FAULT, or NO_SENSOR with ENA 1. -/
def State.fbLevel (s : State) (p : Nat) : State :=
  s.level p 9 (s.fbState p == 4 || (s.fbState p == 2 && s.flag p Ax.FB_CFG_ENA))

/-- A port enters a state, from now on; outside RUN its pass-through drivers are off (R368). -/
def State.setFbState (s : State) (p v : Nat) : State :=
  let s := if v = 3 then s else s.setReg p Ax.PASS_STATUS_STATE.off 0
  ((s.setFld p Ax.FB_STATUS_STATE v).modFb p fun x => { x with since := s.now }).fbLevel p

/-- A port in RUN enters FAULT (R366): an incremental or Hall port clears REF_VALID (R290). -/
def State.fbFault (s : State) (p cause : Nat) : State :=
  if s.fbState p ≠ 3 then s
  else
    let s := (s.setFld p Ax.FB_STATUS_CAUSE cause).setFbState p 4
    let s := s.modFb p fun x => { x with good := 0, seen := s.now }
    let s := if s.serial p then s else s.setFld p Ax.MOT_STATUS_REF_VALID 0
    s.fbChange p 3 cause

/-- A port in FAULT returns to RUN (R366). -/
def State.fbRecover (s : State) (p : Nat) : State :=
  if s.fbState p ≠ 4 then s else (s.setFbState p 3).fbChange p 4 0

/-- The avenues bound to an axis see its source re-referenced (R269). -/
def State.reref (s : State) (p : Nat) : State :=
  s.each (List.range 64) fun s a =>
    let k := s.fld 0x0C Av.AV_SRC_KIND a
    if (k = 1 ∨ k = 2) ∧ s.fld 0x0C Av.AV_SRC_RES a = p - 0x10 then
      s.putAvenues (s.avenues.wr {} a { s.avenues.rd {} a with reref := true })
    else s

/-- BEYOND_NEG and BEYOND_POS (R291), while the virtual limits apply. -/
def State.showBeyond (s : State) (p : Nat) : State :=
  let on := !s.wraps p && s.referenced p
  let x := s.position p
  (s.setFld p Ax.MOT_STATUS_BEYOND_NEG (bool01 (on && decide (x < s.sfld p Ax.LIMIT_NEG)))).setFld p
    Ax.MOT_STATUS_BEYOND_POS (bool01 (on && decide (s.sfld p Ax.LIMIT_POS < x)))

/-- POS64, POSITION, COUNT, COMM_POS and FB_SHIFT after the count, the shift or the scale changed (R355, R356, R363): in
SATURATE a position out of range holds the nearer bound. -/
def State.showCounts (s : State) (p : Nat) (q : Int) : State :=
  let x := (s.axis p).fb
  let s := s.setFld64 p Ax.POS64_LO (patternOf 64 q)
  let s := s.setFld64 p Ax.COUNT_LO (patternOf 64 x.count)
  let s := s.setSfld p Ax.COMM_POS (s.commPos p)
  let s := s.setSfld p Ax.FB_SHIFT x.shift
  s.setSfld p Ax.POSITION (if s.wraps p then q else saturateSigned 32 q)

/-- ANGLE and ANGLE_VALID (R358). -/
def State.showAngle (s : State) (p : Nat) : State :=
  match s.angleOf p with
  | some a => (s.setFld p Ax.ANGLE a).setFld p Ax.FB_STATUS_ANGLE_VALID 1
  | none => s.setFld p Ax.FB_STATUS_ANGLE_VALID 0

/-- The range check (R363): out of range the port faults with cause RANGE, which ends when it is back in range. -/
def State.checkRange (s : State) (p : Nat) (out : Bool) : State :=
  let s := s.setFld p Ax.FB_STATUS_SAT (bool01 out)
  if out then (if s.fbState p = 3 then (s.fbFault p 7).fbChange p 5 0 else s)
  else if s.fbState p = 4 ∧ s.fld p Ax.FB_STATUS_CAUSE = 7 then s.fbRecover p
  else s

/-- P64 as the range rule shows it (R363): modulo 2^24 in WRAP. -/
def State.shown64 (s : State) (p : Nat) : Int := s.shownPos p (s.p64 p)

/-- The registers of a port after its count, shift or scale changed. -/
def State.showPosition (s : State) (p : Nat) : State :=
  let q := s.shown64 p
  (((s.showCounts p q).showAngle p).checkRange p (!s.wraps p && saturateSigned 32 q != q)).showBeyond p

/-- The position that the loops of an axis take (R361): with serial frames that are not good the last good one, extrapolated at
the last speed. -/
def State.loopPosition (s : State) (p : Nat) : Int :=
  let f := (s.axis p).fb
  if s.serial p && s.fbState p == 3 && f.bad != 0 then
    s.shownPos p (s.position p + s.sfld p Ax.SPEED * ((s.now - f.goodAt : Nat) : Int) / 1000000000)
  else s.position p

/-- The position re-referenced by a shift (R290, R355): only FB_SHIFT changes, the setpoint and the targets move with the
measured position, REF_VALID is set and the avenues see a jump. -/
def State.rereference (s : State) (p : Nat) (d : Int) : State :=
  let s := s.modAxis p fun x =>
    { x with fb := { x.fb with shift := x.fb.shift + d, lastP := x.fb.lastP + d }
             kin := { x.kin with p := x.kin.p + d * fine }
             start := { x.start with p := x.start.p + d * fine } }
  let s := s.setFld p Ax.MOT_STATUS_REF_VALID 1
  let s := s.setSfld p Ax.POS_SET (s.shownPos p (s.sfld p Ax.POS_SET + d))
  (s.showPosition p).reref p

end Sys2Proof.Machine
end

