-- ==== Sys2Proof/Machine/Force.lean ====
section
/-! DEFINITION. The force map and its learning (R375-R378), curd records as the stage gathers them (R550-R552), and what an
axis sees of its presence inputs (R373, R374, R384, R392). -/

namespace Sys2Proof.Machine

/-- The force section of an axis changed. -/
def State.modForce (s : State) (p : Nat) (f : ForceRec → ForceRec) : State :=
  s.modAxis p fun x => { x with force := f x.force }

/-- A bin of the force map. -/
def State.bin (s : State) (p b : Nat) : Bin := (s.axis p).force.map.rd {} b

/-- The force map with a bin replaced. -/
def State.setBin (s : State) (p b : Nat) (v : Bin) : State := s.modForce p fun f => { f with map := f.map.wr {} b v }

/-- The bin at a position (R375). -/
def State.binAt (s : State) (p : Nat) (x : Int) : Nat :=
  let x := if s.wraps p then x % 2 ^ 24 else x
  let b := (x - s.sfld p Ax.MAP_ORIGIN) / (s.fld p Ax.MAP_CFG_BIN_UNITS : Int)
  min b.toNat (s.fld p Ax.MAP_CFG_MAP_BINS - 1)

/-- The friction of a bin in a direction, positive or negative (R375), and its baseline. -/
def Bin.fric (b : Bin) (up : Bool) : Int := if up then b.fricPos else b.fricNeg
def Bin.base (b : Bin) (up : Bool) : Int := if up then b.basePos else b.baseNeg
def Bin.frozen (b : Bin) (up : Bool) : Bool := if up then b.frozenPos else b.frozenNeg
def Bin.setFric (b : Bin) (up : Bool) (v : Int) : Bin := if up then { b with fricPos := v } else { b with fricNeg := v }
def Bin.freeze (b : Bin) (up : Bool) : Bin := if up then { b with frozenPos := true } else { b with frozenNeg := true }

/-- A bin as the window shows it (R394): its friction, its baselines and its mass word. -/
def Bin.words (b : Bin) : Word × Word × Word :=
  (BitVec.ofNat 32 (patternOf 16 b.fricPos * 2 ^ 16 + patternOf 16 b.fricNeg),
   BitVec.ofNat 32 (patternOf 16 b.basePos * 2 ^ 16 + patternOf 16 b.baseNeg),
   BitVec.ofNat 32 (b.samples * 2 ^ 16 + bool01 b.frozenPos * 2 ^ 14 + bool01 b.frozenNeg * 2 ^ 13
     + bool01 b.learned * 2 ^ 12 + b.mass % 2 ^ 12))

/-- FROZEN_BINS, DRIFT_PEAK and MODEL_ALERT brought up to date (R394, R395). -/
def State.showModel (s : State) (p : Nat) : State :=
  let m := (s.axis p).force.map
  let frozen := (m.filter fun e => e.2.frozenPos || e.2.frozenNeg).length
  let drift := m.foldl (fun d e => max d (max (e.2.fricPos - e.2.basePos).natAbs (e.2.fricNeg - e.2.baseNeg).natAbs)) 0
  let s := (s.setFld p Ax.FROZEN_BINS (saturate 13 frozen)).setFld p Ax.DRIFT_PEAK (saturate 16 drift)
  let empty := s.fld p Ax.OBS_STATUS_MODEL_STATE == 0
  s.level p 11 (s.flag p Ax.OBS_CFG_ENA && empty || frozen != 0) frozen

/-- The mass a model gains from its samples (R377): the present mass moved towards `m` and held to 0 to twice MASS_G, in the
unit of the bin. -/
def State.learnMass (s : State) (p : Nat) (mass : Nat) (m : Int) (teach : Bool) (k : Nat) : Nat :=
  let d : Int := if teach then k + 1 else (2 : Int) ^ s.fld p Ax.LEARN_CFG_LEARN_SHIFT
  let v := (mass : Int) + roundDiv (m - mass) d
  let top : Int := min 4095 (if rotary p then 4095 else 2 * s.fld p Ax.MASS_G / 100)
  (max 0 (min v top)).toNat

/-- One bin and direction of a clean pass learned (R377). -/
def State.learnBin (s : State) (p key : Nat) (q : PassBin) : State :=
  let up := key % 2 == 1
  let n := key / 2
  let b := s.bin p n
  let teach := s.fld p Ax.OBS_STATUS_MODEL_STATE == 1
  let b1 :=
    if q.n = 0 then b
    else
      -- the mean of s × F_est - MASS × s × a_set, in 0.1 N
      let f := roundDiv (q.f - inertiaForce p ((b.mass : Int) * (if rotary p then 1000 else 100)) q.sa) q.n
      if teach then b.setFric up (b.fric up + roundDiv (f - b.fric up) (b.samples + 1))
      else
        let step := roundDiv (f - b.fric up) ((2 : Int) ^ s.fld p Ax.LEARN_CFG_LEARN_SHIFT)
        if 10 * s.fld p Ax.LEARN_CFG_DRIFT_MAX_N < (b.fric up + step - b.base up).natAbs then b.freeze up
        else if b.frozen up then b
        else b.setFric up (b.fric up + step)
  let b2 :=
    if q.aa = 0 then b1
    else
      -- 0.1 N per µm/s² is 10^8 g; in 2^-24 revolutions the torque in mN·m divides likewise
      let num := (q.fa - b1.fric up * q.sa2) * (if rotary p then 10000000000 * 2 ^ 24 / 6283 else 1000000)
      let m := roundDiv num (q.aa * (if rotary p then 1000 else 1))
      { b1 with mass := s.learnMass p b1.mass m teach b1.samples }
  s.setBin p n { b2 with learned := true, samples := min (b2.samples + 1) 65535 }

/-- A clean pass learned (R377, R378): every bin touched; in TEACHING the last pass fixes the baselines. -/
def State.learnPass (s : State) (p : Nat) : State :=
  let x := (s.axis p).force
  if !x.clean || x.tripped || !s.flag p Ax.LEARN_CFG_LEARN then s.modForce p fun f => { f with pass := [] }
  else
    let s := x.pass.foldl (fun s e => s.learnBin p e.1 e.2) s
    let s := (s.modForce p fun f => { f with pass := [] }).bump p Ax.LEARN_PASSES
    let left := s.fld p Ax.TEACH_LEFT
    let s := if s.fld p Ax.OBS_STATUS_MODEL_STATE ≠ 1 then s
      else if 1 < left then s.setFld p Ax.TEACH_LEFT (left - 1)
      else
        let s := s.modForce p fun f => { f with map := f.map.map fun e =>
          (e.1, if e.2.learned then { e.2 with basePos := e.2.fricPos, baseNeg := e.2.fricNeg, frozenPos := false, frozenNeg := false }
                else { e.2 with frozenPos := false, frozenNeg := false }) }
        (s.setFld p Ax.TEACH_LEFT 0).setFld p Ax.OBS_STATUS_MODEL_STATE 2
    s.showModel p

/-- A sample of a pass (R377): taken in MOVING while the speed is at least DETECT_VMIN. -/
def State.passSample (s : State) (p : Nat) (sgn fEst a : Int) : State :=
  let key := 2 * s.binAt p (s.position p) + (if 0 < sgn then 1 else 0)
  let slow := a.natAbs < s.fld p Ax.MASS_MIN_ACC * 1000
  s.modForce p fun f =>
    let q := f.pass.rd {} key
    { f with pass := f.pass.wr {} key (if slow then { q with n := q.n + 1, f := q.f + sgn * fEst, sa := q.sa + sgn * a }
      else { q with fa := q.fa + fEst * a, sa2 := q.sa2 + sgn * a, aa := q.aa + a * a }) }

/-- The kind of a curd record (R551). -/
def State.curdKind (s : State) (p : Nat) (m : Motion) : Nat :=
  if m.opc = 0x10 then 4
  else if s.closeDir p = 0 then 3
  else if s.motionDir p m = s.closeDir p then 1 else 2

/-- A curd record opened for a motion of class 1 to 3 or a homing (R550). -/
def State.curdOpen (s : State) (p : Nat) (m : Motion) : State :=
  if m.cls = 0 ∨ m.opc = 0 then s
  else
    let c : Curd :=
      { kind := s.curdKind p m, axis := p - 0x10, set := m.set, cls := m.cls, tag := m.tag, tStart := s.time, since := s.now,
        owner := s.owner p, cycle := (s.cles.of (laneNum (s.owner p))).cycle, posStart := s.position p, target := s.shownPos p m.target,
        flags := bool01 (!s.flag 0 Dev.TIME_STATUS_SYNCED) * 64 + bool01 (s.referenced p) * 1024
          + bool01 (s.flag p Ax.OBS_STATUS_FLOOD_CLOSE),
        ration := (s.reg p Ax.RATION_OUT_REASON.off).toNat, delayMs := s.fld p Ax.DELAY_MS,
        grantedW := s.fld p Ax.GRANTED_W, tempMax := s.sfld p Ax.STAGE_TEMP }
    s.modAxis p fun x => { x with curd := some c }

/-- The open curd record of an axis changed. -/
def State.modCurd (s : State) (p : Nat) (f : Curd → Curd) : State := s.modAxis p fun x => { x with curd := x.curd.map f }

/-- A flag of the open curd record set (R551). -/
def State.curdFlag (s : State) (p k : Nat) : State := s.modCurd p fun c => { c with flags := setBit c.flags k true }

/-- The figures of a tick gathered into the open curd record (R551, R552). -/
def State.curdSample (s : State) (p : Nat) : State :=
  s.modCurd p fun c =>
    let sp := s.sfld p Ax.SPEED
    let iq := s.sfld p Ax.I_DQ_I_Q
    let ph := max (s.sfld p Ax.I_UV_I_U).natAbs (max (s.sfld p Ax.I_UV_I_V).natAbs (s.sfld p Ax.I_W_DC_I_W).natAbs)
    let watts := ((s.bus (busOf p)).mv : Int) * s.sfld p Ax.I_W_DC_I_DC
    -- mV × mA over one velocity-loop period in ns: 10^-12 mJ
    let e := watts * s.loopPeriod p 1
    { c with
      peakSpeed := max c.peakSpeed sp.natAbs, peakIq := max c.peakIq iq.natAbs, peakPhase := max c.peakPhase ph
      peakExcess := max c.peakExcess (s.sfld p Ax.F_EXCESS), tempMax := max c.tempMax (s.sfld p Ax.STAGE_TEMP)
      drawn := c.drawn + max 0 e, returned := c.returned + max 0 (-e)
      flags := setBit (setBit c.flags 8 (bitAt c.flags 8 || s.flag p Ax.DRV_STATUS_LIMITED)) 9
        (bitAt c.flags 9 || s.pstate p == 5)
      samples := c.samples ++ [(s.position p, sp, s.sfld p Ax.F_EST, s.sfld p Ax.F_EXCESS, iq)] }

/-- A finished curd record kept by the stage (R550): it holds at most 8, and counts the oldest it discards. -/
def State.keepCurd (s : State) (p : Nat) (c : Curd) : State :=
  let x := s.axis p
  let s := s.setAxis p { x with curds := if x.curds.length < 8 then x.curds ++ [c] else x.curds.drop 1 ++ [c] }
  if x.curds.length < 8 then s else s.bump (vatPage (laneNum (s.owner p))) Vt.STAGE_CURD_LOST

/-- An interim record (R550, R551) from the stage's figures at this moment. -/
def State.interimOf (s : State) (p : Nat) (c : Curd) : Curd :=
  { c with kind := 5, tEnd := s.time, posEnd := s.position p, driveState := s.pstate p }

/-- The open curd record closed with its END_REASON (R551). -/
def State.curdClose (s : State) (p reason : Nat) : State :=
  match (s.axis p).curd with
  | none => s
  | some c =>
    let cap := match s.captureOf p with
      | some (_, k) => bool01 k.decimated * 16
      | none => 0
    let c := { c with tEnd := s.time, reason := reason, posEnd := s.position p, driveState := s.pstate p,
                      homeResult := if c.kind = 4 then s.fld p Ax.HOME_STATUS_RESULT else 0,
                      homeEdges := if c.kind = 4 then s.fld p Ax.HOME_STATUS_EDGES else 0,
                      flags := c.flags ||| cap }
    (s.modAxis p fun x => { x with curd := none }).keepCurd p c

/-- Beam `k` of the module: its page and channel; likewise an edge. -/
def beamPage (k : Nat) : Nat := 0x50 + k / 8
def edgePage (k : Nat) : Nat := 0x54 + k / 16

/-- Whether a binding word names an axis (R396, R399). -/
def bindsAxis (w : Word) (n : Nat) : Bool :=
  bitsOf w 31 31 == 1 && bitsOf w 28 24 == n || bitsOf w 15 15 == 1 && bitsOf w 12 8 == n

/-- Whether a beam or an edge is bound to an axis. -/
def State.beamBound (s : State) (k n : Nat) : Bool := bindsAxis (s.reg (beamPage k) (Bm.BEAM_BIND_ENA_A.pos (k % 8))) n
def State.edgeBound (s : State) (k n : Nat) : Bool := bindsAxis (s.reg (edgePage k) (Eg.EDGE_BIND_ENA_A.pos (k % 16))) n

/-- Whether the CLEAR lines of a beam or an edge are asserted (R373, R386, R390): the stage runs and the input is
CLEAR, or IDLE. -/
def State.beamClear (s : State) (k : Nat) : Bool :=
  s.pstate (beamPage k) == 1 && s.fld (beamPage k) Bm.BEAM_STATUS_STATE (k % 8) == 1
def State.edgeClear (s : State) (k : Nat) : Bool :=
  s.pstate (edgePage k) == 1 && s.fld (edgePage k) Eg.EDGE_STATUS_STATE (k % 16) == 1

/-- The numbers below `n` that pass a test, as a mask. -/
def maskOf (n : Nat) (f : Nat → Bool) : Nat := (List.range n).foldl (fun m k => if f k then m + 2 ^ k else m) 0

/-- The bound inputs of an axis that are not clear (R384). -/
def State.beamMask (s : State) (p : Nat) : Nat := maskOf 32 fun k => s.beamBound k (p - 0x10) && !s.beamClear k
def State.edgeMask (s : State) (p : Nat) : Nat := maskOf 32 fun k => s.edgeBound k (p - 0x10) && !s.edgeClear k

/-- Whether a beam is FLOODED, and whether it has FALLBACK set. -/
def State.beamFlooded (s : State) (k : Nat) : Bool := s.fld (beamPage k) Bm.BEAM_STATUS_STATE (k % 8) == 3
def State.beamFallback (s : State) (k : Nat) : Bool := s.flag (beamPage k) Bm.BEAM_STATUS_FALLBACK (k % 8)

/-- Whether every input of an axis that is not clear is a beam in FLOODED with FALLBACK set (R384). -/
def State.fallbackOnly (s : State) (p : Nat) : Bool :=
  s.fld p Ax.PRESENCE_EDGES == 0 &&
    (List.range 32).all fun k => !bitAt (s.fld p Ax.PRESENCE_BEAMS) k || s.beamFlooded k && s.beamFallback k

/-- PERMIT_CLOSE and PERMIT_FALLBACK brought up to date (R374, R384): an axis without a closing direction ignores its inputs. -/
def State.showPermit (s : State) (p : Nat) : State :=
  let bad := s.closeDir p != 0 && s.notClear p
  (s.setFld p Ax.OBS_STATUS_PERMIT_CLOSE (bool01 (!bad))).setFld p Ax.OBS_STATUS_PERMIT_FALLBACK
    (bool01 (bad && s.fallbackOnly p))

/-- Whether a motion that still measures its speed will close (R299, R374). -/
def State.aboutToClose (s : State) (p : Nat) : Bool :=
  match (s.axis p).mot with
  | some m => s.mstate p == 5 && s.closeDir p != 0 && m.opc != 0x10 && s.motionDir p m == s.closeDir p
  | none => false

/-- PRESENCE, PERMIT_CLOSE and PERMIT_FALLBACK of an axis brought up to date (R384); a line that falls while a beam is not
FLOODED waits for the next current-loop sample (R381), and a flooding beam caps the threshold of a closing
motion (R392). -/
def State.showPresence (s : State) (p : Nat) : State :=
  let b0 := s.fld p Ax.PRESENCE_BEAMS
  let e0 := s.fld p Ax.PRESENCE_EDGES
  let b := s.beamMask p
  let e := s.edgeMask p
  if b = b0 ∧ e = e0 then s.showPermit p
  else
    let s := ((s.setFld p Ax.PRESENCE_BEAMS b).setFld p Ax.PRESENCE_EDGES e).showPermit p
    let newB := (List.range 32).filter fun k => bitAt b k && !bitAt b0 k
    let newE := (List.range 32).filter fun k => bitAt e k && !bitAt e0 k
    let fell := (newE.map fun k => (2, k)) ++ ((newB.filter fun k => !s.beamFlooded k).map fun k => (3, k))
    let s := s.modForce p fun f => { f with fell := f.fell ++ fell }
    let s := if s.closing p then
        let s := newB.foldl (fun s k => s.raise (beamPage k) 4 (k * 2 ^ 8 + (p - 0x10))) s
        newE.foldl (fun s k => s.raise (edgePage k) 3 (k * 2 ^ 8 + (p - 0x10))) s
      else s
    if (s.closing p || s.aboutToClose p) && newB.any fun k => s.beamFlooded k then
      (s.setFld p Ax.OBS_STATUS_FLOOD_CLOSE 1).curdFlag p 0
    else s

/-- The presence of every axis brought up to date. -/
def State.showAllPresence (s : State) : State := s.each (List.range' 0x10 32) State.showPresence

end Sys2Proof.Machine
end

