-- ==== Sys2Proof/Machine/Ration.lean ====
section
/-! DEFINITION. The power ration (R334-R341): charges, the decision on a request, the queue, and page 0x0E. What a
motion does on its outcome stands in Motion.lean. -/

namespace Sys2Proof.Machine

/-- The outcome of a request (R336): ADMITTED, STRETCHED by a percentage, DELAYED, or REFUSED with its reason. -/
inductive Grant where
  | admitted
  | stretched (pct : Nat)
  | delayed
  | refused (reason : Nat)
  deriving DecidableEq, Repr

/-- The charges of a bus in the general pool and in the reserve. -/
def State.genCharges (s : State) (b : Nat) : Nat := ((busPages b).map fun p => (s.axis p).genW).sum
def State.resCharges (s : State) (b : Nat) : Nat := ((busPages b).map fun p => (s.axis p).resW).sum

/-- The reserve of a bus in W, rounded down (R335). -/
def State.reserve (s : State) (b : Nat) : Nat := s.fld 0x0E Ra.CAP_W b * s.fld 0x0E Ra.RESERVE_RESERVE_PCT b / 100

/-- The general pool of a bus in W (R335). -/
def State.genPool (s : State) (b : Nat) : Nat := s.fld 0x0E Ra.CAP_W b - s.reserve b

/-- CHARGED, QUEUE and OVERDRAWN brought up to date (R340, R346): OVERDRAWN while the charges exceed CAP_W. -/
def State.showCharges (s : State) (b : Nat) : State :=
  let g := s.genCharges b
  let r := s.resCharges b
  let n := ((busPages b).filter fun p => (s.axis p).genW + (s.axis p).resW != 0).length
  let beyond := decide (s.fld 0x0E Ra.CAP_W b < g + r)
  let was := s.flag 0x0E Ra.BUS_STATUS_OVERDRAWN b
  let s := (s.setFld 0x0E Ra.CHARGED_GEN_W (saturate 16 g) b).setFld 0x0E Ra.CHARGED_RES_W (saturate 16 r) b
  let s := (s.setFld 0x0E Ra.QUEUE_CHARGED_N n b).setFld 0x0E Ra.QUEUE_WAITING (saturate 6 (s.bus b).waiting.length) b
  let s := s.setFld 0x0E Ra.BUS_STATUS_OVERDRAWN (bool01 beyond) b
  let s := if beyond && !was then s.bump 0x0E Ra.OVERDRAW_COUNT b else s
  s.level 0x0E 1 ([0, 1].any fun k => s.flag 0x0E Ra.BUS_STATUS_OVERDRAWN k) (b * 2 ^ 8)

/-- The charge of an axis set: GRANTED_W shows it (R341). -/
def State.setCharge (s : State) (p gen res : Nat) : State :=
  ((s.modAxis p fun x => { x with genW := gen, resW := res }).setFld p Ax.GRANTED_W (saturate 16 (gen + res)))

/-- A class-0 charge taken (R335): from the reserve while it lasts, then from the general pool. -/
def State.chargeZero (s : State) (p w : Nat) : State :=
  let b := busOf p
  let room := s.reserve b - (s.resCharges b - (s.axis p).resW)
  s.setCharge p (w - min w room) (min w room)

/-- The least whole-percent reduction that fits a charge into the free power, if it leaves at least the floor
(R336, rule 5): the first of the percentages from `p` on, at most `n` of them. -/
def stretchFrom (charge : Nat) (free : Int) (floor : Nat) : Nat → Nat → Option Nat
  | 0, _ => none
  | n + 1, p =>
    if 100 < p + floor then none
    else if (((100 - p) * charge : Nat) : Int) ≤ 100 * free then some p
    else stretchFrom charge free floor n (p + 1)

/-- The decision on a request of class 1 to 3 by rules 4 and 5 of R336, when the charge `old` is taken as released. -/
def State.fits (s : State) (b cls charge old : Nat) : Option Grant :=
  let free : Int := (s.genPool b : Int) - (s.genCharges b : Int) + old
  if (charge : Int) ≤ free then some .admitted
  else if s.flag 0x0E Ra.CLASS_CFG_STRETCH b (cls - 1) then
    (stretchFrom charge free (s.fld 0x0E Ra.CLASS_CFG_FLOOR_PCT b (cls - 1)) 101 1).map .stretched
  else none

/-- The decision on a request (R335, R336): class 0 is always admitted. -/
def State.decideRequest (s : State) (b cls charge old : Nat) : Grant :=
  if cls = 0 then .admitted
  else if s.fld 0x0E Ra.BUS_STATUS_STATE b ≠ 2 then .refused 4
  else
    let least := if s.flag 0x0E Ra.CLASS_CFG_STRETCH b (cls - 1) then
        charge * s.fld 0x0E Ra.CLASS_CFG_FLOOR_PCT b (cls - 1) else charge * 100
    let waits := s.fld 0x0E Ra.CLASS_CFG_MAX_DELAY_MS b (cls - 1) != 0
    if s.genPool b * 100 < least then .refused 1
    else if (s.bus b).waiting.any fun r => r.cls ≤ cls then (if waits then .delayed else .refused 3)
    else
      match s.fits b cls charge old with
      | some g => g
      | none => if waits then .delayed else .refused 3

/-- The charge that follows from an outcome (R336): ⌈k × charge⌉ when stretched. -/
def Grant.charge (g : Grant) (w : Nat) : Nat :=
  match g with
  | .stretched p => ((100 - p) * w + 99) / 100
  | _ => w

/-- The code, percentage and reason of an outcome in RATION_OUT (R343). -/
def Grant.code : Grant → Nat
  | .admitted => 1
  | .stretched _ => 2
  | .delayed => 3
  | .refused _ => 4
def Grant.pct : Grant → Nat
  | .stretched p => p
  | _ => 0
def Grant.reason : Grant → Nat
  | .refused r => r
  | _ => 0

/-- The counts of an outcome on a page (R343, R346). -/
def State.countOutcome (s : State) (p b : Nat) (g : Grant) : State :=
  match g with
  | .admitted => (s.bump p Ax.OUTCOMES_A_ADMITTED).bump 0x0E Ra.BUS_OUTCOMES_A_ADMITTED b
  | .stretched _ => (s.bump p Ax.OUTCOMES_A_STRETCHED).bump 0x0E Ra.BUS_OUTCOMES_A_STRETCHED b
  | .delayed => (s.bump p Ax.OUTCOMES_B_DELAYED).bump 0x0E Ra.BUS_OUTCOMES_B_DELAYED b
  | .refused _ => (s.bump p Ax.OUTCOMES_B_REFUSED).bump 0x0E Ra.BUS_OUTCOMES_B_REFUSED b

/-- An outcome at an axis (R341): RATION_OUT, the counts and RATION_OUTCOME. -/
def State.outcome (s : State) (p cls : Nat) (g : Grant) : State :=
  let w := g.reason * 2 ^ 24 + g.pct * 2 ^ 16 + cls * 2 ^ 8 + g.code
  let s := s.setReg p Ax.RATION_OUT_REASON.off (BitVec.ofNat 32 w)
  (s.countOutcome p (busOf p) g).raise p 7 w

/-- A waiting request put into the queue of a bus. -/
def State.enqueueReq (s : State) (b : Nat) (r : WaitReq) : State :=
  s.setBus b { s.bus b with waiting := (s.bus b).waiting ++ [r] }

/-- The waiting requests without those of an axis; of a group only the axis leaves, with its share (R338). -/
def State.unqueue (s : State) (p : Nat) : State :=
  let b := busOf p
  let drop (r : WaitReq) : Option WaitReq :=
    if r.pages.contains p then
      let left := r.pages.filter (· != p)
      if left = [] then none
      else some { r with pages := left, charge := (left.map fun q =>
        match (s.axis q).next with
        | some m => s.fld q Ax.PEAK_W m.set
        | none => 0).sum }
    else some r
  s.setBus b { s.bus b with waiting := (s.bus b).waiting.filterMap drop }

/-- The first waiting request in priority order, first in, first out within a class (R337). -/
def firstWaiting : List WaitReq → Option WaitReq
  | [] => none
  | r :: rest =>
    match firstWaiting rest with
    | none => some r
    | some q => if q.cls < r.cls then some q else some r

/-- Energy that leaves the brake resistor's model since it was last brought up to date, BR_W (R315), in µJ. -/
def State.resistorHeat (s : State) (b : Nat) : Nat :=
  let x := s.bus b
  let dt := s.now - x.heatAt
  let gain := if s.flag 0x0E Ra.BUS_STATUS_CHOPPER_ON b then
      -- V² / R beyond dt: mV² · ns / (0.1 Ω) = 10^-14 J = 10^-8 µJ
      x.mv * x.mv * dt / (s.fld 0x0E Ra.BRAKE_R_BR_OHM b * 100000000)
    else 0
  x.heat + gain - s.fld 0x0E Ra.BRAKE_R_BR_W b * dt / 1000

/-- The model of a bus's brake resistor brought up to date (R315): BR_TEMP_PCT, and the chopper duty of the present
second. -/
def State.settleHeat (s : State) (b : Nat) : State :=
  let h := s.resistorHeat b
  let x := s.bus b
  let on := s.flag 0x0E Ra.BUS_STATUS_CHOPPER_ON b
  let sec := s.now / 1000000000
  let add := if on then s.now - x.heatAt else 0
  let total := if sec = x.second then x.onNs + add else min add (s.now % 1000000000)
  let cap := s.fld 0x0E Ra.BR_J b * 1000000
  let s := s.setBus b { x with heat := h, heatAt := s.now, onNs := total, second := sec }
  let s := s.setFld 0x0E Ra.BR_LOAD_BR_TEMP_PCT (saturate 8 (if cap = 0 then 0 else h * 100 / cap)) b
  if sec = x.second then s else s.setFld 0x0E Ra.BR_LOAD_BR_DUTY_PCT (min 100 (x.onNs / 10000000)) b

/-- Whether the model of a bus's brake resistor is at half its capacity or below (R315). -/
def State.resistorCooled (s : State) (b : Nat) : Bool := decide (2 * (s.bus b).heat ≤ s.fld 0x0E Ra.BR_J b * 1000000)

/-- COUNTERS_CLEAR of page 0x0E (R348). -/
def cmdRationClear : Cmd where
  opc := 0x01
  kinds := (· == .ration)
  who := .cfgHost
  act := fun s _ _ _ =>
    (s.each [0, 1] fun s b =>
      ((((s.setReg 0x0E (Ra.BUS_OUTCOMES_A_ADMITTED.pos b) 0).setReg 0x0E (Ra.BUS_OUTCOMES_B_DELAYED.pos b) 0).setFld 0x0E
        Ra.OVERDRAW_COUNT 0 b).setFld 0x0E Ra.PEAK_P_W 0 b), RC.done)

/-- RATION_COUNTERS_CLEAR (R348). -/
def execRationCountersClear (t : Nat) (q : Req) (s : State) : Host.Outcome State Fault Refusal :=
  .next ((s.start t).command q cmdRationClear)

end Sys2Proof.Machine
end

