-- ==== Sys2Proof/Machine/Motion.lean ====
section
/-! DEFINITION. The motion engine (R280-R300, R312, R313): speed limits, plans, the start, the end and the replacement of
motions, and the outcomes of the power ration. Homing, reversals and the commands stand in the files after it. -/

namespace Sys2Proof.Machine

/-- One position unit in the engine, as a natural number. -/
def fineN : Nat := 2 ^ 20

/-- The limits of a parameter set (R282), with another deceleration where one applies. -/
def State.setBounds (s : State) (p set : Nat) (dec : Option Nat := none) : Bounds :=
  { acc := s.fld p Ax.SET_ACC_ACC set * 1000 * fineN
    dec := dec.getD (s.fld p Ax.SET_DEC set) * 1000 * fineN
    jerk := s.fld p Ax.SET_JERK set * 1000000 * fineN }

/-- Trapezoidal limits of one acceleration and one deceleration in 1,000 units/s². -/
def flatBounds (acc dec : Nat) : Bounds := ⟨acc * 1000 * fineN, dec * 1000 * fineN, 0⟩

/-- The kinetic-energy speed in units/s (R288): √(2 × KE_MAX_MJ / MASS_G) m/s, rounded down. -/
def State.keSpeed (s : State) (p : Nat) : Nat :=
  isqrt (2 * s.fld p Ax.KE_CFG_KE_MAX_MJ * 10 ^ 12 / s.fld p Ax.MASS_G)

/-- Whether the kinetic-energy speed applies in a direction (R284, R288). -/
def State.keApplies (s : State) (p : Nat) (d : Int) : Bool :=
  s.fld p Ax.KE_CFG_KE_MAX_MJ != 0 && !rotary p && d != 0 &&
    bitAt (s.fld p Ax.KE_CFG_DIR) (if d < 0 then 0 else 1)

/-- The lower of two limits with their LIMITING codes; of equal ones the lower code (R284). -/
def lowerLimit (x y : Nat × Nat) : Nat × Nat :=
  if y.1 < x.1 ∨ (y.1 = x.1 ∧ y.2 < x.2) then y else x

/-- The speed that begins the limits of a motion: VMAX of its set, or the speed of its homing or reversal. -/
def State.ownSpeed (s : State) (p : Nat) (m : Motion) : Nat :=
  if m.opc = 0 then (s.axis p).force.rev.v
  else if m.opc = 0x10 then
    if s.fld p Ax.HOME_STATUS_PHASE = 2 ∧ 5 ≤ s.fld p Ax.HOME_CFG_METHOD then s.fld p Ax.HOME_V2 else s.fld p Ax.HOME_V1
  else s.fld p Ax.SET_VMAX m.set

/-- VLIM_EFF and LIMITING of a motion that moves in direction `d` (R284, R336). -/
def State.vlim (s : State) (p : Nat) (m : Motion) (d : Int) : Nat × Nat :=
  let l := (s.ownSpeed p m, 0)
  let corner := s.fld p Ax.CORNER_VLIM
  let l := if corner ≠ 0 then lowerLimit l (corner, 1) else l
  let l := if s.keApplies p d then lowerLimit l (s.keSpeed p, 2) else l
  let l := if m.opc ≠ 0x10 ∧ !s.referenced p then lowerLimit l (s.fld p Ax.UNREF_VMAX, 4) else l
  if m.stretch = 0 then l else lowerLimit l (l.1 * (100 - m.stretch) / 100, 3)

/-- Whether the virtual limits bound the setpoint (R291). -/
def State.limitsApply (s : State) (p : Nat) : Bool := !s.wraps p && s.referenced p

/-- A plan begun from the present setpoint, with its goal and its final velocity. -/
def State.setPlan (s : State) (p : Nat) (g : List Seg) (goal : Option Int) (endV : Int) : State :=
  s.modAxis p fun x => { x with start := x.kin, segs := g, elapsed := 0, goal := goal, endV := endV, inpos := none }

/-- The plan to stand still (R311, R294). -/
def State.planStop (s : State) (p : Nat) (b : Bounds) : State :=
  let k := (s.axis p).kin
  s.setPlan p (toSpeed b k.v k.a 0) none 0

/-- The plan to a position in units (R283, R285). -/
def State.planTo (s : State) (p : Nat) (b : Bounds) (v : Nat) (target : Int) : State :=
  let k := (s.axis p).kin
  s.setPlan p (placeSegs b (v * fineN) k.v k.a (target * fine - k.p)) (some (target * fine)) 0

/-- The virtual limit ahead of a direction, in units. -/
def State.limitAhead (s : State) (p : Nat) (d : Int) : Int :=
  if d < 0 then s.sfld p Ax.LIMIT_NEG else s.sfld p Ax.LIMIT_POS

/-- The plan of a velocity motion (R291): to its speed, and, where virtual limits apply, to rest at the limit ahead, or
where the setpoint already stands at or past it. -/
def State.planSpeed (s : State) (p : Nat) (b : Bounds) (v : Nat) (speed : Int) (limit : Bool) : State :=
  let k := (s.axis p).kin
  let want : Int := sign speed * (min speed.natAbs v : Nat)
  if limit && speed != 0 then
    let g := s.limitAhead p speed * fine
    if sign (g - k.p) = sign speed then
      s.setPlan p (placeSegs b (want.natAbs * fineN) k.v k.a (g - k.p)) (some g) 0
    else
      let g := toSpeed b k.v k.a 0
      s.setPlan p g (some (k.p + planWay k.v k.a g)) 0
  else s.setPlan p (toSpeed b k.v k.a (want * fine)) none (want * fine)

/-- VLIM_EFF and LIMITING shown, and noted as those of the plan. -/
def State.showLimit (s : State) (p : Nat) (l : Nat × Nat) : State :=
  ((s.modAxis p fun x => { x with planV := l.1 }).setFld p Ax.VLIM_EFF l.1).setFld p Ax.MOT_STATUS_LIMITING l.2

/-- The plan of a motion in MOVING, from the present setpoint (R283-R285, R291). -/
def State.planMove (s : State) (p : Nat) (m : Motion) : State :=
  let b := s.setBounds p m.set
  let k := (s.axis p).kin
  let target := m.limit.getD m.target
  let d := if m.opc = 3 then sign m.speed else sign (target * fine - k.p)
  let l := s.vlim p m d
  let s := s.showLimit p l
  if m.opc = 3 then s.planSpeed p b l.1 m.speed (s.limitsApply p) else s.planTo p b l.1 target

/-- POS_SET and VEL_SET of a setpoint (R293, R309): modulo 2^24 in WRAP. -/
def State.showSetpoint (s : State) (p : Nat) : State :=
  let k := (s.axis p).kin
  (s.setSfld p Ax.POS_SET (s.shownPos p k.units)).setSfld p Ax.VEL_SET k.speed

/-- The setpoint put at the measured position with a velocity in units/s. -/
def State.setpointHere (s : State) (p : Nat) (v : Int) : State :=
  (s.modAxis p fun x => { x with kin := ⟨s.place p * fine, v * fine, 0⟩, segs := [], goal := none, endV := 0,
                                 lastTick := s.now, elapsed := 0, held := false, integral := 0 }).showSetpoint p

/-- The final result of the command of a requester on a page, if it is open. -/
def State.finishCmd (s : State) (p : Nat) (code : Option Nat) (result : Nat) : State :=
  match code with
  | none => s
  | some c =>
    match s.opens.find? fun o => o.page == p && o.code == c && (o.opc ≤ 0x10 || o.opc == 0x23) with
    | some o => s.complete o result
    | none => s

/-- The final result that a reason of R286 gives. -/
def endResult (reason : Nat) : Nat := if reason = 0 ∨ reason = 1 ∨ reason = 9 then RC.done else RC.aborted

/-- The end of the motion in progress (R286, R339): LAST_END, MOTION_END, the final result, the charge, the SPEED
corner, the curd record and the pass; a derated drive then enters FAULT_SENSE (R332). -/
def State.endMotion (s : State) (p reason : Nat) : State :=
  match (s.axis p).mot with
  | none => s
  | some m =>
    let set := if m.opc = 0 then 0xF else m.set
    let s := s.setReg p Ax.LAST_END_TAG.off (BitVec.ofNat 32 (m.tag % 2 ^ 16 * 2 ^ 16 + set * 2 ^ 8 + reason))
    let s := s.modAxis p fun x => { x with mot := none, inpos := none }
    let s := (s.setCharge p 0 0).setFld p Ax.CORNER_VLIM 0
    let s := s.setFld p Ax.OBS_STATUS_FLOOD_CLOSE 0
    let s := if (reason = 0 ∨ reason = 1) ∧ 1 ≤ m.cls ∧ m.opc ≠ 0 then s.learnPass p
      else s.modForce p fun f => { f with pass := [] }
    let s := if reason = 7 then s else (s.curdClose p (if m.opc = 0 then 7 else reason)).capturePost p
    let s := (s.raise p 0 (set * 2 ^ 8 + reason)).finishCmd p m.code (endResult reason)
    if s.pstate p = 5 ∧ reason ≠ 7 then s.setDrive p 6 8 else s

/-- A homing's figures and HOME_END (R308): the result, the duration and the count. -/
def State.endHoming (s : State) (p result : Nat) : State :=
  let h := (s.axis p).home
  let s := (s.setFld p Ax.HOME_STATUS_RESULT result).setFld p Ax.HOME_STATUS_PHASE 0
  let s := (s.bump p Ax.HOME_COUNT).setFld p Ax.HOME_TIME_MS (saturate 32 ((s.now - h.startAt) / 1000000))
  let s := s.modAxis p fun x => { x with homeResult := 0 }
  (s.raise p 2 (s.fld p Ax.HOME_STATUS_EDGES * 2 ^ 8 + result)).endMotion p (if result ≤ 2 then 9 else 10)

/-- LIMIT_HIT (R313): counted, with its argument. -/
def State.limitHit (s : State) (p arg : Nat) : State := (s.bump p Ax.LIMIT_HITS).raise p 3 arg

/-- The measured speed of a start from FREE (R299): of the port, or of the back-EMF. -/
def State.startSpeed (s : State) (p : Nat) : Int :=
  if s.flag p Ax.FB_CFG_ENA && s.fbState p != 4 then s.sfld p Ax.SPEED else s.sfld p Ax.SPEED_EST

/-- A quick stop of the axis (R294, R311, R334): class 0, its own charge, QS_DEC, and the reason it will end with. -/
def State.quickStop (s : State) (p reason : Nat) : State :=
  let s := (s.setCharge p 0 0).chargeZero p (s.fld p Ax.QS_PEAK_W)
  let s := s.outcome p 0 .admitted
  let s := if s.mstate p = 10 then s.setpointHere p 0 else if s.mstate p = 5 then s.setpointHere p (s.startSpeed p) else s
  let s := s.modAxis p fun x =>
    { x with stopReason := reason, mot := x.mot.map fun m => { m with cls := if m.opc = 0x10 then m.cls else 0 }
             force := { x.force with clean := false } }
  let s := (s.setMstate p 8).setFld p Ax.MOT_STATUS_CLASS 0
  s.planStop p (flatBounds (s.fld p Ax.QS_DEC) (s.fld p Ax.QS_DEC))

/-- The motion in progress and every request of an axis ended because torque is removed (R312, R338): DISABLED. -/
def State.dropMotion (s : State) (p : Nat) : State :=
  if s.mstate p = 0 then s
  else
    let x := s.axis p
    let s := s.unqueue p
    let s := match x.next with
      | some m => (s.modAxis p fun x => { x with next := none }).finishCmd p m.code RC.aborted
      | none => s
    let s := if s.mstate p = 11 ∨ x.homeResult ≠ 0 then s.endHoming p 7 else s.endMotion p 8
    let s := x.stopCmds.foldl (fun s c => s.finishCmd p (some c) RC.aborted) s
    let s := s.modAxis p fun x => { x with stopCmds := [], segs := [], goal := none, kin := { x.kin with v := 0, a := 0 } }
    let s := ((s.setCharge p 0 0).setSfld p Ax.VEL_SET 0).setFld p Ax.OBS_STATUS_REV_PHASE 0
    s.setMstate p 0

/-- A phase test or an identification that ends without its end (R327, R333): its command is ABORTED and its charge
released. -/
def State.dropTest (s : State) (p : Nat) : State :=
  let s := s.completeAll (fun o => o.page == p && (o.opc == 0x20 && s.pstate p == 2 || o.opc == 0x23 && s.pstate p == 4)) RC.aborted
  if s.pstate p = 4 then (s.setFld p Ax.ID_STATUS_RESULT 5).setCharge p 0 0 else s

/-- The phases of a motor that are still connected (R318, R329): bit 0 U to bit 2 W, those the motor has without an open one. -/
def State.phases (s : State) (p : Nat) : Nat :=
  let all := match s.fld p Ax.DRV_CFG_MOTOR_TYPE with
    | 0 => 0
    | 1 => 7
    | _ => 3
  match s.fld p Ax.DRV_STATUS_PHASE_OPEN with
  | 0 => all
  | k + 1 => all &&& (7 - 2 ^ k)

/-- The switches of an inverter whose torque is removed (R328, R329): all six open in COAST and after an overcurrent, and in
SHORT the low-side switches of the phases still connected closed. -/
def State.letGo (s : State) (p cause : Nat) : State :=
  s.modAxis p fun x => { x with low := if cause = 1 ∨ !s.flag p Ax.DRV_CFG_DB_MODE then 0 else s.phases p }

/-- Torque removed by the drive with a cause (R328, R329, R312): the motion ends, then the drive state changes. -/
def State.removeTorque (s : State) (p state cause : Nat) : State :=
  let s := s.noteCause p cause
  (((s.dropMotion p).dropTest p).letGo p cause).setDrive p state cause

/-- A homing or a motion begins to be followed (R282, R309): the set, class and target are shown, it is counted, and its
curd record, its pass and its AUTO capture begin. -/
def State.openMotion (s : State) (p : Nat) (m : Motion) : State :=
  let s := s.modAxis p fun x => { x with mot := some { m with begun := true }, inpos := none, relimit := false }
  let s := (s.setFld p Ax.MOT_STATUS_SET m.set).setFld p Ax.MOT_STATUS_CLASS m.cls
  let s := if m.opc = 3 ∨ m.opc = 0x10 then s else s.setSfld p Ax.TARGET (s.shownPos p m.target)
  let s := if m.opc = 0 then s else s.bump p Ax.MOVES
  let s := s.modForce p fun f => { f with pass := [], clean := s.pstate p == 3 && s.referenced p && m.opc != 0x10, tripped := false }
  let s := if m.opc ≠ 0 ∧ s.motionDir p m = s.closeDir p then s.setReg p Ax.PEAK_EXCESS.off 0 else s
  let s := s.curdOpen p m
  if m.opc ≠ 0 ∧ 1 ≤ m.cls ∧ s.flag (vatPage (laneNum (s.owner p))) Vt.CAP_AXIS_AUTO (p - 0x10) then s.captureStart p 1 else s

/-- A motion in MOVING from the present setpoint. -/
def State.goMoving (s : State) (p : Nat) (m : Motion) : State := (s.setMstate p 7).planMove p m

/-- Whether the presence inputs let a closing motion go (R384). -/
def State.mayClose (s : State) (p : Nat) (m : Motion) : Bool :=
  let c := s.closeDir p
  c == 0 || s.motionDir p m != c || !s.notClear p || m.cls == 0 ||
    (s.fallbackOnly p && m.set == s.fld p Ax.FALLBACK_FB_SET)

/-- What follows a closing start while a beam is FLOODED (R392), and an armed start whose permission has gone (R384): the
inputs that refuse it wait for the first sample. -/
def State.closingStart (s : State) (p : Nat) (m : Motion) : State :=
  if s.closeDir p = 0 ∨ s.motionDir p m ≠ s.closeDir p ∨ !s.notClear p then s
  else if s.mayClose p m then (s.setFld p Ax.OBS_STATUS_FLOOD_CLOSE 1).curdFlag p 0
  else
    let es := (List.range 32).filter fun k => bitAt (s.fld p Ax.PRESENCE_EDGES) k
    let bs := (List.range 32).filter fun k => bitAt (s.fld p Ax.PRESENCE_BEAMS) k
    s.modForce p fun f => { f with fell := f.fell ++ (es.map fun k => (2, k)) ++ (bs.map fun k => (3, k)) }

/-- A homing phase begun at a signed speed (R301, R303): trapezoidal at HOME_ACC. -/
def State.homePhase (s : State) (p phase : Nat) (speed : Int) : State :=
  let s := s.setFld p Ax.HOME_STATUS_PHASE phase
  let b := flatBounds (s.fld p Ax.HOME_ACC) (s.fld p Ax.HOME_ACC)
  let m := (s.axis p).mot.getD { opc := 0x10, code := none }
  let l := s.vlim p m (sign speed)
  (s.showLimit p l).planSpeed p b (min l.1 speed.natAbs) speed false

/-- Homing begins to move (R303, R304, R307): away from an active target switch, or searching. -/
def State.homeGo (s : State) (p : Nat) : State :=
  let method := s.fld p Ax.HOME_CFG_METHOD
  let d := homeDir method
  let s := (s.setMstate p 11).modAxis p fun x =>
    { x with home := { startAt := s.now, startPos := s.place p, dir := d } }
  let s := (s.setReg p Ax.HOME_STATUS_EDGES.off 0)
  if s.homeAway p then s.homePhase p 1 (-d * s.fld p Ax.HOME_V1)
  else s.homePhase p 2 (d * (if method ≤ 4 then s.fld p Ax.HOME_V1 else s.fld p Ax.HOME_V2))

/-- A motion or homing set going from the present setpoint. -/
def State.goMotion (s : State) (p : Nat) (m : Motion) : State :=
  if m.opc = 0x10 then s.homeGo p else s.goMoving p m

/-- The start from a measured speed (R300). -/
def State.flyStart (s : State) (p : Nat) (m : Motion) : State :=
  let v := s.startSpeed p
  let s := s.setSfld p Ax.FLY_SPEED v
  if v = 0 ∨ v.natAbs < s.fld p Ax.FLY_THRESH then (s.setpointHere p 0).goMotion p m
  else
    let s := (s.setpointHere p v).raise p 1 (patternOf 32 (saturateSigned 32 v))
    let s := (s.curdFlag p 7).modCurd p fun c => { c with flySpeed := v }
    if sign v = s.motionDir p m then s.goMotion p m
    else (s.setMstate p 6).planStop p (flatBounds (s.fld p Ax.FLY_DEC) (s.fld p Ax.FLY_DEC))

/-- An admitted identification begins (R327): all steps from the present position. -/
def State.beginIdentify (s : State) (p : Nat) : State :=
  let s := s.modAxis p fun x => { x with testAt := s.now, idStart := s.place p }
  (s.setReg p Ax.ID_STATUS_RESULT.off 0).setDrive p 4 0

/-- An admitted request begins (R299, R312): from FREE it measures for 2 ms, an armed motion has measured already; from
elsewhere it goes at once, in place of a motion in progress from the setpoint of the tick within whose period it is decided
(R285). The members of a group take the rise of its start line for their time origin (R297). `from` is the state it begins
from. -/
def State.beginMotion (s : State) (p : Nat) (m : Motion) (from_ : Nat) (armed : Bool) : State :=
  if m.opc = 0x23 then s.beginIdentify p
  else
  let s := if m.opc = 0x10 then s.setFld p Ax.MOT_STATUS_REF_VALID 0 else s
  let s := (s.openMotion p m).closingStart p m
  let s := s.modAxis p fun x => { x with stopCmds := [] }
  if from_ = 1 then
    if armed then (s.flyStart p m).modAxis p fun x => { x with lastTick := m.origin.getD s.now }
    else (s.setMstate p 5).modAxis p fun x => { x with measureAt := s.now }
  else if from_ = 9 ∨ from_ = 10 then (s.setpointHere p 0).goMotion p m
  else if 6 ≤ from_ then s.goMotion p m
  else (s.modAxis p fun x => { x with lastTick := m.origin.getD s.now }).goMotion p m

/-- The state a request begins from: that before arming or waiting. -/
def State.fromState (s : State) (p : Nat) : Nat :=
  let st := s.mstate p
  if st = 3 ∨ st = 4 then (s.axis p).prior else if st = 5 then 1 else st

/-- The commands of a stop that a new motion replaces end with it (R285, R286). -/
def State.dropStops (s : State) (p : Nat) : State :=
  let cs := (s.axis p).stopCmds
  cs.foldl (fun s c => s.finishCmd p (some c) RC.aborted) (s.modAxis p fun x => { x with stopCmds := [] })

/-- A waiting request of an axis given up because another takes its place (R285, R338). -/
def State.dropWaiting (s : State) (p : Nat) : State :=
  match (s.axis p).next with
  | none => s
  | some m =>
    let s := (s.unqueue p).modAxis p fun x => { x with next := none }
    let s := s.finishCmd p m.code RC.aborted
    if s.mstate p = 4 then s.setMstate p (s.axis p).prior else s

/-- The motion in progress or armed replaced by another (R285, R296); a homing that is stopping because it has failed ends with
its result. -/
def State.supersede (s : State) (p : Nat) : State :=
  let from_ := s.fromState p
  let armed := decide (s.mstate p = 3)
  let r := (s.axis p).homeResult
  let s := (if r ≠ 0 then s.endHoming p r else s.endMotion p 4).dropStops p
  if armed then s.setMstate p from_ else s

/-- The request of a motion granted (R336, R339, R341): its charge, its outcome, and its beginning. -/
def State.grant (s : State) (p : Nat) (m : Motion) (w : Nat) (g : Grant) (armed : Bool) : State :=
  let from_ := s.fromState p
  let s := if armed then s else s.supersede p
  let s := if m.cls = 0 then s.chargeZero p w else s.setCharge p (g.charge w) 0
  let s := s.outcome p m.cls g
  s.beginMotion p { m with stretch := g.pct } from_ armed

/-- The charge of a motion or a homing (R334). -/
def State.motionCharge (s : State) (p : Nat) (m : Motion) : Nat :=
  if m.opc = 0x10 then s.fld p Ax.HOME_PEAK_W else if m.opc = 0x23 then 100 else s.fld p Ax.PEAK_W m.set

/-- A request of an axis presented to its arbiter (R336, R338, R341), and the result it gives the command. -/
def State.present (s : State) (p : Nat) (m : Motion) : State × Nat :=
  let b := busOf p
  let w := s.motionCharge p m
  match s.decideRequest b m.cls w (s.axis p).genW with
  | .refused r => (s.outcome p m.cls (.refused r), RC.ration)
  | .delayed =>
    let s := s.dropWaiting p
    let s := if s.mstate p = 3 then s.supersede p else s
    let s := s.outcome p m.cls .delayed
    let s := s.enqueueReq b ⟨[p], m.cls, w, s.now, none⟩
    let s := s.modAxis p fun x => { x with next := some m, prior := if s.mstate p = 1 ∨ s.mstate p = 2 ∨ s.mstate p = 9 then s.mstate p else x.prior }
    let st := s.mstate p
    (if st = 1 ∨ st = 2 ∨ st = 9 then s.setMstate p 4 else s, RC.delayed)
  | g => ((s.dropWaiting p).grant p m w g false, RC.accepted)

/-- The members' shares of a group's charge (R336, R339): ⌈k × own charge⌉, the last member taking what is left. -/
def shares (total : Nat) (k : Nat) : List Nat → List Nat
  | [] => []
  | [_] => [total]
  | w :: rest =>
    let x := min total (((100 - k) * w + 99) / 100)
    x :: shares (total - x) k rest

/-- A waiting request admitted (R337, R341): DELAY_MS, its charge, its outcome and its beginning; a group's members
together. -/
def State.admitWaiting (s : State) (r : WaitReq) (g : Grant) : State :=
  let ws := r.pages.map fun p => match (s.axis p).next with
    | some m => s.motionCharge p m
    | none => 0
  let ms := (s.now - r.since) / 1000000
  (r.pages.zip (shares (g.charge r.charge) g.pct ws)).foldl (fun s (p, w) =>
    match (s.axis p).next with
    | none => s
    | some m =>
      let s := (s.setFld p Ax.DELAY_MS (saturate 16 ms)).modAxis p fun x => { x with next := none }
      let from_ := s.fromState p
      let s := if s.mstate p = 4 then s.setMstate p from_ else s.supersede p
      let s := (s.setCharge p w 0).outcome p r.cls g
      s.beginMotion p { m with stretch := g.pct } from_ r.group.isSome) s

/-- The waiting requests of a bus re-examined in order (R337): up to the first that cannot be admitted. -/
def State.reexamine (s : State) (b : Nat) : Nat → State
  | 0 => s
  | n + 1 =>
    match firstWaiting (s.bus b).waiting with
    | none => s
    | some r =>
      if s.fld 0x0E Ra.BUS_STATUS_STATE b ≠ 2 then s
      else
        match s.fits b r.cls r.charge ((r.pages.map fun p => (s.axis p).genW).sum) with
        | none => s
        | some g =>
          let s := s.setBus b { s.bus b with waiting := (s.bus b).waiting.erase r }
          (s.admitWaiting r g).reexamine b n

/-- A bus settled after anything that may have released a charge (R337, R340). -/
def State.settle (s : State) (b : Nat) : State := (s.reexamine b (s.bus b).waiting.length).showCharges b

/-- A waiting request refused with a reason (R338, R347): every member's command ends RATION_REFUSED. -/
def State.refuseWaiting (s : State) (b : Nat) (r : WaitReq) (reason : Nat) : State :=
  let s := s.setBus b { s.bus b with waiting := (s.bus b).waiting.erase r }
  r.pages.foldl (fun s p =>
    match (s.axis p).next with
    | none => s
    | some m =>
      let s := (s.modAxis p fun x => { x with next := none }).outcome p r.cls (.refused reason)
      let s := if s.mstate p = 4 then s.setMstate p (s.axis p).prior else s
      s.finishCmd p m.code RC.ration) s

end Sys2Proof.Machine
end

