-- ==== Sys2Proof/Machine/Engine.lean ====
section
/-! DEFINITION. Homing (R301-R308), the obstacle reversal (R381-R383), corners on a motion (R265, R266, R287) and the
position-loop tick (R280, R322). -/

namespace Sys2Proof.Machine

/-- The homing of an axis changed. -/
def State.modHome (s : State) (p : Nat) (f : HomeRec → HomeRec) : State := s.modAxis p fun x => { x with home := f x.home }

/-- The stop of a homing that fails (R301, R306): its result is kept until standstill. -/
def State.failHoming (s : State) (p result : Nat) (quick : Bool) : State :=
  let s := if result = 3 then s.setFld p Ax.MOT_STATUS_REF_VALID 0 else s
  let s := s.modAxis p fun x => { x with homeResult := result }
  let s := s.setFld p Ax.HOME_STATUS_RESULT result
  if quick then s.quickStop p 10
  else
    let s := (s.setMstate p 8).modAxis p fun x => { x with stopReason := 10 }
    s.planStop p (flatBounds (s.fld p Ax.HOME_ACC) (s.fld p Ax.HOME_ACC))

/-- Whether the chatter window of a homing is over (R305). -/
def State.chatterOver (s : State) (p : Nat) : Bool :=
  match (s.axis p).home.chatterEnd with
  | none => true
  | some _ => false

/-- The end of a homing that succeeded (R305, R308): HOMED_CHATTER with three or more edges. -/
def State.homingDone (s : State) (p : Nat) : State :=
  let s := (s.endHoming p (if 3 ≤ (s.axis p).home.edges then 2 else 1)).modAxis p fun x => { x with kin := { x.kin with v := 0, a := 0 } }
  s.setMstate p 2

/-- The plan of the park move (R308), to PARK_POS within the limits of R284. -/
def State.planPark (s : State) (p : Nat) : State :=
  let k := (s.axis p).kin
  let goal := s.inFrame p k.units (s.sfld p Ax.PARK_POS)
  let l := s.vlim p ((s.axis p).mot.getD { opc := 0x10, code := none }) (sign (goal - k.units))
  (s.showLimit p l).planTo p (flatBounds (s.fld p Ax.HOME_ACC) (s.fld p Ax.HOME_ACC)) l.1 goal

/-- The reference of a homing set at C (R303), then the park move (R308), or the end once the window is over. -/
def State.setReference (s : State) (p : Nat) : State :=
  let x := s.axis p
  let c := x.home.cap.getD (s.position p)
  let d := s.sfld p Ax.HOME_POS - c
  let s := (s.rereference p d).setSfld p Ax.HOME_SHIFT d
  let s := s.modHome p fun h => { h with referenced := true }
  if s.flag p Ax.HOME_CFG_PARK then
    let s := s.setFld p Ax.HOME_STATUS_PHASE 5
    s.planPark p
  else if s.chatterOver p then s.homingDone p
  else s

/-- C taken (R303, R307): written to HOME_CAPTURE, and the axis stops. -/
def State.takeCapture (s : State) (p : Nat) (c : Int) (chatter : Option Nat) : State :=
  let s := s.modHome p fun h => { h with cap := some c, chatterEnd := chatter }
  let s := (s.setSfld p Ax.HOME_CAPTURE c).setFld p Ax.HOME_STATUS_PHASE 3
  s.planStop p (flatBounds (s.fld p Ax.HOME_ACC) (s.fld p Ax.HOME_ACC))

/-- The charge and the beginning of a reversal's record (R334, R382). -/
def State.reverseCharge (s : State) (p : Nat) : State :=
  let s := (s.setCharge p 0 0).chargeZero p (s.fld p Ax.QS_PEAK_W)
  s.outcome p 0 .admitted

/-- What a trip reports (R394, R395): OBSTACLE, the last source, channel and position, and the counts. -/
def State.reportTrip (s : State) (p src ch excess : Nat) (injected : Bool) : State :=
  let arg := src * 2 ^ 28 + bool01 injected * 2 ^ 24 + ch * 2 ^ 16 + excess
  let s := (s.setFld p Ax.OBS_STATUS_LAST_SRC src).setFld p Ax.OBS_STATUS_LAST_CH ch
  let s := s.setSfld p Ax.LAST_OBS_POS (s.position p)
  let s := if src = 1 then s.bump p Ax.OBS_COUNTS_FORCE else s.bump p Ax.OBS_COUNTS_PRESENCE
  let s := s.modCurd p fun c => { c with obstacle := src * 2 ^ 28 + ch * 2 ^ 16 + excess, obsPos := s.position p,
                                         flags := setBit c.flags 2 true }
  s.raise p 10 arg

/-- The REV_* fields as they stand, for the reversal that begins now (R394). -/
def State.revNow (s : State) (p : Nat) : RevSet :=
  { mode := s.fld p Ax.OBS_CFG_REV_MODE, dist := s.fld p Ax.REV_DIST, target := s.sfld p Ax.REV_TARGET, v := s.fld p Ax.REV_V,
    acc := s.fld p Ax.REV_ACC, dec := s.fld p Ax.REV_DEC }

/-- Motion states 2 to 11 left for REVERSAL (R312, R382): the motion and every request of the axis end. -/
def State.yieldMotion (s : State) (p : Nat) : State :=
  let x := s.axis p
  let s := match x.mot, x.next with
    | none, some m => (s.unqueue p).modAxis p fun x => { x with mot := some m, next := none }
    | some _, some _ => s.dropWaiting p
    | _, none => s
  let s := if s.mstate p = 11 ∨ x.homeResult ≠ 0 then s.endHoming p 7 else s.endMotion p 7
  let s := x.stopCmds.foldl (fun s c => s.finishCmd p (some c) RC.aborted) s
  s.modAxis p fun x => { x with stopCmds := [] }

/-- An obstacle decision or trip takes the axis over (R382): REVERSAL in phase BRAKE. -/
def State.reverse (s : State) (p : Nat) : State :=
  let st := s.mstate p
  let dir := sign (s.axis p).kin.v
  let s := s.yieldMotion p
  let s := if st = 9 ∨ st = 10 ∨ st = 3 ∨ st = 4 ∨ st = 5 then s.setpointHere p 0 else s
  let s := (s.reverseCharge p).bump p Ax.REVERSALS
  let s := (s.setMstate p 12).setFld p Ax.OBS_STATUS_REV_PHASE 1
  let s := s.modAxis p fun x => { x with mot := some { opc := 0, code := none, set := 0xF, speed := dir, begun := true }, stopReason := 2,
                                         force := { x.force with tripped := true, fell := [], ticks := 0, rev := s.revNow p } }
  let s := s.setFld p Ax.MOT_STATUS_CLASS 0
  s.planStop p (flatBounds (s.fld p Ax.REV_DEC) (s.fld p Ax.REV_DEC))

/-- A reversal that is now only to stop, with the reason it will end with (R292, R294, R382). -/
def State.brakeReversal (s : State) (p reason : Nat) (b : Bounds) : State :=
  let s := s.modAxis p fun x => { x with mot := x.mot.map (fun m => { m with atLimit := true }), stopReason := reason }
  (s.setFld p Ax.OBS_STATUS_REV_PHASE 1).planStop p b

/-- A trip or force decision of an axis (R381-R383): in the RETURN phase a force decision only stops it; a force decision
trips the partner. -/
def State.trip (s : State) (p src ch excess : Nat) (injected : Bool) : State :=
  let st := s.mstate p
  if st < 2 then s
  else
    let s := s.reportTrip p src ch excess injected
    let s := if src = 1 ∧ s.flag p Ax.PARTNER_ENA ∧ axisPage (s.fld p Ax.PARTNER_AXIS) ≠ p
        ∧ s.closing (axisPage (s.fld p Ax.PARTNER_AXIS)) then
        s.modForce (axisPage (s.fld p Ax.PARTNER_AXIS)) fun f => { f with fell := f.fell ++ [(4, p - 0x10)] }
      else s
    if st = 12 then s.brakeReversal p 2 (flatBounds (s.axis p).force.rev.dec (s.axis p).force.rev.dec) else s.reverse p

/-- The end of a reversal in HOLD (R382). -/
def State.endReversal (s : State) (p reason : Nat) : State :=
  let s := (s.endMotion p reason).setFld p Ax.OBS_STATUS_REV_PHASE 0
  (s.modAxis p fun x => { x with kin := { x.kin with v := 0, a := 0 } }).setMstate p 2

/-- The RETURN phase of a reversal (R382): BACK by REV_DIST against the closing direction (against the motion where the axis
has none, log entry 14), FULL to REV_TARGET, both within the virtual limits. -/
def State.goReturn (s : State) (p : Nat) (m : Motion) : State :=
  let k := (s.axis p).kin
  let r := (s.axis p).force.rev
  let c := if s.closeDir p = 0 then m.speed else s.closeDir p
  let goal := if r.mode = 1 then k.units - c * r.dist else s.inFrame p k.units r.target
  let goal := if s.limitsApply p then clampInt goal (s.sfld p Ax.LIMIT_NEG) (s.sfld p Ax.LIMIT_POS) else goal
  let s := s.modAxis p fun x => { x with mot := some { m with target := goal } }
  let s := (s.setFld p Ax.OBS_STATUS_REV_PHASE 2).setSfld p Ax.TARGET (s.shownPos p goal)
  let l := s.vlim p m (sign (goal - k.units))
  (s.showLimit p l).planTo p (flatBounds r.acc r.dec) l.1 goal

/-- Whether an axis has a motion in progress that a SPEED, LOCK_PUSH or QUICK_STOP corner may act on (R266): not of class
0, not a quick stop, not a reversal, not the stop of a homing that has failed. -/
def State.cornerMay (s : State) (p : Nat) : Bool :=
  let st := s.mstate p
  match (s.axis p).mot with
  | some m => m.cls != 0 && m.opc != 0 && (5 ≤ st && st ≤ 11 && st != 9) && !(st == 8 && s.fld p Ax.MOT_STATUS_CLASS == 0)
      && (s.axis p).homeResult == 0
  | none => false

/-- A SPEED corner (R265, R284): the argument in axis units, to the nearest. -/
def State.cornerSpeed (s : State) (p arg : Nat) : State :=
  s.setFld p Ax.CORNER_VLIM (if rotary p then (arg * 2 ^ 24 + 50) / 100 else arg * 1000)

/-- A LOCK_PUSH corner (R264, R265, R287): the profile of the motion in progress ends, whatever its state, and the axis
pushes at the lower of the argument and the ceiling for PUSH_MS from now; of several such corners the last prevails
(log entry 123). The commands of a stop that the push replaces end with it. -/
def State.cornerPush (s : State) (p arg : Nat) : State :=
  match (s.axis p).mot with
  | none => s
  | some m =>
    let d := s.motionDir p m
    let v := sign (s.axis p).kin.v
    let dir := if s.mstate p = 10 then (s.axis p).pushDir else if v = 0 then d else v
    let force := match s.ceiling p (s.position p) with
      | some c => min arg c
      | none => arg
    let s := if s.mstate p = 8 then s.dropStops p else s
    let s := if s.mstate p = 11 then s.setFld p Ax.HOME_STATUS_PHASE 0 else s
    let s := s.modAxis p fun x => { x with pushAt := s.now, pushDir := dir, pushForce := force,
                                           segs := [], goal := none, kin := { x.kin with v := 0, a := 0 } }
    (s.setSfld p Ax.VEL_SET 0).setMstate p 10

/-- A corner's action on the motion in progress (R265): SPEED, LOCK_PUSH or QUICK_STOP. -/
def State.cornerMove (s : State) (p action arg : Nat) : State :=
  match action with
  | 3 => s.cornerSpeed p arg
  | 4 => s.cornerPush p arg
  | 8 => if s.mstate p = 11 then s.failHoming p 6 true else s.quickStop p 3
  | _ => s

/-- A corner's action noted among those of this instant (R267). -/
def State.noteCorner (s : State) (p action arg : Nat) : State :=
  s.modAxis p fun x => { x with corners := x.corners.filter (fun c => c.1 == s.now) ++ [(s.now, action, arg)] }

/-- The corners of this instant applied after a command of the owner lane (R267): they set their targets last. -/
def State.cornersAgain (s : State) (p : Nat) : State :=
  ((s.axis p).corners.filter fun c => c.1 == s.now).foldl (fun s c => if s.cornerMay p then s.cornerMove p c.2.1 c.2.2 else s) s

/-- The hold on the profile while the axis is LIMITED (R322). -/
def State.updateHeld (s : State) (p : Nat) : State :=
  let e := (s.sfld p Ax.FOLLOW_ERR).natAbs
  let lim := s.fld p Ax.FE_LIMIT
  s.modAxis p fun x =>
    { x with held := s.flag p Ax.DRV_STATUS_LIMITED && (decide (lim ≤ 2 * e) || (x.held && decide (lim ≤ 4 * e))) }

/-- A setpoint that has not passed a virtual limit: it is held at the limit with no velocity, or where the plan began if that
is beyond the limit already (R291, R292). -/
def Kin.within (k : Kin) (lo hi : Int) : Kin := if k.p < lo then ⟨lo, 0, 0⟩ else if hi < k.p then ⟨hi, 0, 0⟩ else k

/-- The setpoint of this tick (R280, R283), and whether the plan has ended: a motion that reaches its goal stands on it
exactly, and none passes a virtual limit. -/
def State.moveSetpoint (s : State) (p : Nat) : State × Bool :=
  let x := s.axis p
  let e := x.elapsed + (if x.held then 0 else s.now - x.lastTick)
  let done := decide (planTime x.segs ≤ e)
  let k := x.start.along x.segs e
  let k : Kin := if done then { p := x.goal.getD k.p, v := x.endV, a := 0 } else k
  let k := if s.limitsApply p then
      k.within (min (s.sfld p Ax.LIMIT_NEG * fine) x.start.p) (max (s.sfld p Ax.LIMIT_POS * fine) x.start.p)
    else k
  ((s.setAxis p { x with kin := k, elapsed := e, lastTick := s.now }).showSetpoint p, done)

/-- Since when the measured position has stayed within INPOS.WINDOW of the goal the setpoint has reached (R283). -/
def State.trackInpos (s : State) (p : Nat) (done : Bool) : State :=
  s.modAxis p fun x =>
    match x.goal with
    | some g =>
      let err := s.inFrame p 0 (s.position p - g / fine)
      if done ∧ err.natAbs ≤ s.fld p Ax.INPOS_WINDOW then { x with inpos := x.inpos.orElse fun _ => some s.now }
      else { x with inpos := none }
    | none => { x with inpos := none }

/-- A motion at rest on a virtual limit ends SOFT_LIMIT (R291, R292). -/
def State.softLimit (s : State) (p : Nat) (up : Bool) : State :=
  let s := (s.endMotion p 5).limitHit p (bool01 up)
  s.setMstate p 2

/-- What a motion becomes whose goal a write of the limits has put beyond one (R292, log entry 124): it goes to the limit
where its own deceleration `b.dec` can stop it there; otherwise it slows at QS_DEC, and where that cannot stop it either the
setpoint is held at the limit when it comes there. A reversal stays a reversal until its end. -/
def State.toLimit (s : State) (p : Nat) (m : Motion) (b : Bounds) (up : Bool) : State :=
  let k := (s.axis p).kin
  let lim := if up then s.sfld p Ax.LIMIT_POS else s.sfld p Ax.LIMIT_NEG
  let d : Int := if up then 1 else -1
  let room := d * (lim * fine - k.p)
  let qs := flatBounds (s.fld p Ax.QS_DEC) (s.fld p Ax.QS_DEC)
  let fits (c : Bounds) (a : Int) : Bool := decide (d * planWay k.v a (toSpeed c k.v a 0) ≤ room)
  let s := s.modAxis p fun x => { x with mot := some { m with limit := some lim } }
  if fits b k.a then
    if m.opc = 0 then s.planTo p b (s.vlim p m d).1 lim else s.planMove p { m with limit := some lim }
  else
    let hold := !fits qs 0
    let s := s.limitHit p (bool01 up + 4 * bool01 hold)
    let s := if room < 0 then s.modAxis p fun x => { x with kin := ⟨lim * fine, 0, 0⟩ } else s
    if m.opc = 0 then s.brakeReversal p 5 qs else s.quickStop p 5

/-- A motion after a write of the limits (R292): re-planned where its goal now lies outside them; a MOVE_VEL is bound for the
limit ahead. -/
def State.replanLimit (s : State) (p : Nat) (m : Motion) (b : Bounds) : State :=
  let s := s.modAxis p fun x => { x with relimit := false }
  let goal := m.limit.getD m.target
  let up := decide (s.sfld p Ax.LIMIT_POS < goal)
  if !s.limitsApply p then s
  else if m.opc = 3 then
    let k := (s.axis p).kin
    let up := decide (0 < m.speed)
    let room := (if up then 1 else -1) * (s.limitAhead p m.speed * fine - k.p)
    if m.speed ≠ 0 ∧ room < (if up then 1 else -1) * planWay k.v k.a (toSpeed b k.v k.a 0) then s.toLimit p m b up
    else s.planMove p m
  else if up || decide (goal < s.sfld p Ax.LIMIT_NEG) then s.toLimit p m b up
  else s

/-- A tick in MOVING (R283-R285, R291). -/
def State.tickMoving (s : State) (p : Nat) (m : Motion) : State :=
  let s := if (s.axis p).relimit then s.replanLimit p m (s.setBounds p m.set) else s
  if s.mstate p ≠ 7 then s
  else
    let m := ((s.axis p).mot).getD m
    let k := (s.axis p).kin
    let target := m.limit.getD m.target
    let d := if k.v = 0 then (if m.opc = 3 then sign m.speed else sign (target * fine - k.p)) else sign k.v
    let l := s.vlim p m d
    let s := if l.1 ≠ (s.axis p).planV then s.planMove p m else s.setFld p Ax.MOT_STATUS_LIMITING l.2
    let (s, done) := s.moveSetpoint p
    if m.opc = 3 then
      let s := if m.code.isSome ∧ (s.axis p).kin.speed = m.speed then
          (s.modAxis p fun x => { x with mot := some { m with code := none } }).finishCmd p m.code RC.done
        else s
      if done ∧ (s.axis p).goal.isSome then s.softLimit p (decide (0 < m.speed)) else s
    else if done ∧ m.limit.isSome then s.softLimit p (decide (m.limit.getD 0 < m.target))
    else s.trackInpos p done

/-- The standstill of a stop (R286, R311, R312): the motion ends with the stop's reason, the stop commands are DONE. -/
def State.finishStop (s : State) (p : Nat) : State :=
  let x := s.axis p
  let s := if x.homeResult ≠ 0 then s.endHoming p x.homeResult else s.endMotion p x.stopReason
  let s := x.stopCmds.foldl (fun s c => s.finishCmd p (some c) RC.done) s
  ((s.setCharge p 0 0).modAxis p fun x => { x with stopCmds := [], kin := { x.kin with v := 0, a := 0 } }).setMstate p 2

/-- A tick in STOPPING. -/
def State.tickStopping (s : State) (p : Nat) : State :=
  let (s, done) := s.moveSetpoint p
  if done then s.finishStop p else s

/-- A tick in FLY_BRAKE (R300): at zero speed the profile starts from standstill. -/
def State.tickBrake (s : State) (p : Nat) (m : Motion) : State :=
  let (s, done) := s.moveSetpoint p
  if done then s.goMotion p m else s

/-- Whether the creep of a hard-stop homing has met its stop (R307). -/
def State.atHardStop (s : State) (p : Nat) : Bool :=
  decide ((s.sfld p Ax.SPEED).natAbs * 100 < s.fld p Ax.HOME_V2)
    && decide (9 * s.fld p Ax.HARD_STOP_FORCE_N ≤ (s.sfld p Ax.F_EST).natAbs)

/-- What a homing run does in its phase once the setpoint has moved, done telling that the move is at its end (R303-R308). -/
def State.homingPhase (s : State) (p : Nat) (h : HomeRec) (done : Bool) : State :=
  let method := s.fld p Ax.HOME_CFG_METHOD
  match s.fld p Ax.HOME_STATUS_PHASE with
  | 1 => if done ∧ (s.axis p).endV = 0 then s.homePhase p 2 (h.dir * s.fld p Ax.HOME_V1) else s
  | 2 =>
    if (method = 7 ∨ method = 8) ∧ s.atHardStop p then
      (s.modHome p fun h => { h with dwellAt := some s.now }).setFld p Ax.HOME_STATUS_PHASE 4
    else s
  | 3 => if done ∧ !h.referenced then s.setReference p else if h.referenced ∧ s.chatterOver p then s.homingDone p else s
  | 4 => if s.atHardStop p then s else (s.modHome p fun h => { h with dwellAt := none }).setFld p Ax.HOME_STATUS_PHASE 2
  | 5 => s.trackInpos p done
  | _ => s

/-- The speed limit of a homing followed while it moves (R284): a phase at speed and the park move are planned again when it
changes, the park move also when a write of the limits has moved PARK_POS. -/
def State.homeLimit (s : State) (p : Nat) : State :=
  let x := s.axis p
  let phase := s.fld p Ax.HOME_STATUS_PHASE
  match x.mot with
  | none => s
  | some m =>
    let d := sign (if x.kin.v ≠ 0 then x.kin.v else if phase = 5 then (x.goal.getD x.kin.p) - x.kin.p else x.endV)
    let l := s.vlim p m d
    if phase = 5 ∧ (x.relimit ∨ l.1 ≠ x.planV) then (s.modAxis p fun x => { x with relimit := false }).planPark p
    else if (phase = 1 ∨ phase = 2) ∧ x.endV ≠ 0 ∧ l.1 ≠ x.planV then s.homePhase p phase (sign x.endV * s.ownSpeed p m)
    else s.setFld p Ax.MOT_STATUS_LIMITING l.2

/-- A tick in HOMING (R301, R303-R307). -/
def State.tickHoming (s : State) (p : Nat) : State :=
  let h := (s.axis p).home
  let travel := s.fld p Ax.HOME_MAX_TRAVEL
  if s.flag p Ax.FB_CFG_ENA && s.fbState p == 4 then s.failHoming p 7 false
  else if travel ≠ 0 ∧ !h.referenced ∧ travel < (s.place p - h.startPos).natAbs then s.failHoming p 5 false
  else
    let r := (s.homeLimit p).moveSetpoint p
    r.1.homingPhase p h r.2

/-- A tick in REVERSAL (R292, R382, R383): a return that a limit has cut short ends SOFT_LIMIT. -/
def State.tickReversal (s : State) (p : Nat) (m : Motion) : State :=
  let s := if (s.axis p).relimit ∧ s.fld p Ax.OBS_STATUS_REV_PHASE = 2 then
      s.replanLimit p m (flatBounds (s.axis p).force.rev.acc (s.axis p).force.rev.dec)
    else s
  let m := ((s.axis p).mot).getD m
  let (s, done) := s.moveSetpoint p
  if s.fld p Ax.OBS_STATUS_REV_PHASE = 1 then
    if !done then s
    else if (s.axis p).force.rev.mode = 0 ∨ m.atLimit then s.endReversal p (s.axis p).stopReason
    else s.goReturn p m
  else if done ∧ m.limit.isSome then (s.limitHit p (bool01 (decide (m.limit.getD 0 < m.target)))).endReversal p 5
  else s.trackInpos p done

/-- FOLLOW_ERR, CEIL_EFF and the time of the following error (R289, R323): setpoint minus measured position. -/
def State.showFollow (s : State) (p : Nat) : State :=
  let st := s.mstate p
  let e := s.sfld p Ax.POS_SET - s.loopPosition p
  let e := if s.wraps p then signedOf 24 (e % 2 ^ 24).toNat else e
  let e := if st = 0 ∨ st = 1 ∨ st = 5 ∨ st = 9 ∨ st = 10 then 0 else saturateSigned 32 e
  let s := s.setSfld p Ax.FOLLOW_ERR e
  let s := s.setFld p Ax.CEIL_EFF ((s.ceiling p (s.position p)).getD 4000)
  let beyond := decide (s.fld p Ax.FE_LIMIT < e.natAbs) && !s.flag p Ax.DRV_STATUS_LIMITED
  s.modAxis p fun x => { x with feSince := if beyond then x.feSince.orElse fun _ => some s.now else none }

/-- An interim curd record after each 600 s of an unbroken MOVE_VEL (R550). -/
def State.interimCurd (s : State) (p : Nat) (m : Motion) : State :=
  match (s.axis p).curd with
  | some c =>
    if m.opc = 3 ∧ c.since + 600000000000 ≤ s.now then
      (s.keepCurd p (s.interimOf p c)).modAxis p fun x =>
        { x with curd := some { c with tStart := s.time, since := s.now, posStart := s.position p, samples := [] } }
    else s
  | none => s

/-- The position-loop tick of an axis (R280, R312). -/
def State.tick (s : State) (p : Nat) : State :=
  let s := s.updateHeld p
  let s :=
    match s.mstate p, (s.axis p).mot with
    | 6, some m => s.tickBrake p m
    | 7, some m => (s.tickMoving p m).interimCurd p m
    | 8, _ => s.tickStopping p
    | 11, some _ => s.tickHoming p
    | 12, some m => s.tickReversal p m
    | _, _ => s.modAxis p fun x => { x with lastTick := s.now }
  (s.showFollow p).showPermit p

end Sys2Proof.Machine
end

