-- ==== Sys2Proof/Machine/MotionCmds.lean ====
section
/-! DEFINITION. The motion and homing commands of the axis page (R311) and what happens to an axis at an instant (R283,
R287, R292, R295-R307). -/

namespace Sys2Proof.Machine

/-- A command of an axis page, after which the corners of the same clock set their targets, where the owner lane commanded it
(R267), and the queue of its motor bus is re-examined (R337). -/
def State.axisCommand (s : State) (q : Req) (c : Cmd) : State :=
  let s := s.command q c
  if pageKind q.page = .axis then (if s.owner q.page = q.code then s.cornersAgain q.page else s).settle (busOf q.page) else s

/-- Something that happens at an axis stage, after which the queue of its motor bus is re-examined. -/
def State.atAxis (s : State) (a : Fin 32) (f : State → Nat → State) : State :=
  let p := axisPage a.val
  (f s p).settle (busOf p)

/-- Whether an axis is sensorless (R319). -/
def State.sensorless (s : State) (p : Nat) : Bool :=
  s.fld p Ax.DRV_CFG_MOTOR_TYPE == 1 && s.fld p Ax.DRV_CFG_ANGLE_SRC == 2

/-- A signed argument. -/
def argInt (a : Nat) : Int := signedOf 32 a

/-- The base of a relative move (R311): the target of the motion in progress, otherwise the position. -/
def State.moveBase (s : State) (p : Nat) : Int :=
  match (s.axis p).mot with
  | some m => if s.mstate p = 7 ∧ m.opc ≠ 3 then m.target else s.place p
  | none => s.place p

/-- The setpoint from which a wrapped target is reached. -/
def State.wrapBase (s : State) (p : Nat) : Int :=
  let st := s.mstate p
  if st = 1 ∨ st = 9 ∨ st = 10 ∨ st = 5 then s.place p else (s.axis p).kin.units

/-- The distance to a target on a circle (R293): the short way, in the positive or in the negative direction. -/
def wrapWay (dir : Nat) (d : Int) : Int :=
  if dir = 1 then d % 2 ^ 24
  else if dir = 2 then -((-d) % 2 ^ 24)
  else signedOf 24 (d % 2 ^ 24).toNat

/-- The motion that a move command asks for (R282, R293, R311). -/
def State.motionOf (s : State) (q : Req) (opc a0 a1 : Nat) : Motion :=
  let p := q.page
  let set := a1 % 4
  let target : Int :=
    if opc = 1 then
      if s.wraps p then s.wrapBase p + wrapWay (a1 / 2 ^ 10 % 4) (argInt a0 - s.wrapBase p) else argInt a0
    else if opc = 2 then s.moveBase p + argInt a0
    else 0
  { opc := opc, code := some q.code, tag := q.tag, set := set, cls := s.fld p Ax.SET_ACC_CLASS set,
    target := target, speed := if opc = 3 then argInt a0 else 0 }

/-- The range of a move's arguments (R291, R311). -/
def State.moveInRange (s : State) (p opc a0 a1 : Nat) : Bool :=
  let t := if opc = 2 then s.moveBase p + argInt a0 else argInt a0
  let inside := decide (s.sfld p Ax.LIMIT_NEG ≤ t ∧ t ≤ s.sfld p Ax.LIMIT_POS)
  match opc with
  | 1 => a1 / 2 ^ 10 % 4 != 3 && (if s.wraps p then decide (a0 ≤ 16777215) else !s.limitsApply p || inside)
  | 2 => a1 / 2 ^ 10 % 4 != 3 && (!s.limitsApply p || inside)
  | _ => decide ((argInt a0).natAbs ≤ s.fld p Ax.SET_VMAX (a1 % 4))

/-- Whether a move in a direction meets a limit switch or a virtual limit passed by hand (R291, R294). -/
def State.blockedAhead (s : State) (p : Nat) (m : Motion) : Bool :=
  let d := s.motionDir p m
  s.flag p Ax.MOT_CFG_HW_LIMITS && (decide (d < 0) && s.roleActive p 1 || decide (0 < d) && s.roleActive p 2)
    || m.opc == 3 && (decide (m.speed < 0) && s.flag p Ax.MOT_STATUS_BEYOND_NEG
        || decide (0 < m.speed) && s.flag p Ax.MOT_STATUS_BEYOND_POS)

/-- Whether the state of an axis lets a new motion start (R184, R311, R332). -/
def State.motionState (s : State) (p : Nat) : Bool :=
  let st := s.mstate p
  st != 0 && st != 11 && st != 12 && s.pstate p != 5 && s.pstate p != 6 && !(s.axis p).noMotion

/-- Whether the motion in progress is of class 0 (R285). -/
def State.classZeroRuns (s : State) (p : Nat) : Bool :=
  match (s.axis p).mot with
  | some m => m.begun && (m.cls == 0 || s.mstate p == 8 && s.fld p Ax.MOT_STATUS_CLASS == 0)
  | none => false

/-- Check 7 for a move (R285, R291, R294, R296, R311, R319, R384). -/
def State.moveAdmitted (s : State) (p : Nat) (m : Motion) (arm : Bool) : Bool :=
  let st := s.mstate p
  s.motionState p && (m.opc != 1 || s.referenced p) && !(s.classZeroRuns p && m.cls != 0)
    && !s.blockedAhead p m && (m.opc == 3 || !s.sensorless p) && s.mayClose p m
    && (!arm || s.flag p Ax.GROUP_CFG_MEMBER && (st == 1 || st == 2 || st == 9 || st == 3 || st == 4))

/-- A move accepted with ARM (R296): the axis waits in ARMED for its start line. -/
def State.arm (s : State) (p : Nat) (m : Motion) : State :=
  let s := s.dropWaiting p
  let s := if s.mstate p = 3 then s.supersede p else s
  let st := s.mstate p
  let s := s.modAxis p fun x => { x with mot := some m, prior := st, measureAt := s.now }
  ((s.setFld p Ax.MOT_STATUS_SET m.set).setFld p Ax.MOT_STATUS_CLASS m.cls).setMstate p 3

/-- A move command (R311): its opcode is 1 MOVE_ABS, 2 MOVE_REL or 3 MOVE_VEL. -/
def cmdMove (p opc : Nat) : Cmd where
  opc := opc
  kinds := (· == .axis)
  range := fun s ch a0 a1 => ch == 0 && s.moveInRange p opc a0 a1
  allow := fun s q a0 a1 =>
    if s.moveAdmitted p (s.motionOf q opc a0 a1) (bitAt a1 8) then 0 else RC.state
  act := fun s q a0 a1 =>
    let m := s.motionOf q opc a0 a1
    if bitAt a1 8 then (s.arm p m, RC.accepted) else s.present p m

/-- STOP (R285, R286, R311). -/
def cmdStop (p : Nat) : Cmd where
  opc := 0x04
  kinds := (· == .axis)
  allow := fun s _ _ _ =>
    let st := s.mstate p
    if (st = 7 ∨ st = 6 ∨ st = 10) ∧ !s.classZeroRuns p then 0 else RC.state
  act := fun s q _ _ =>
    let set := s.fld p Ax.MOT_STATUS_SET
    let s := if s.mstate p = 10 then s.setpointHere p 0 else s
    let s := (s.setMstate p 8).modAxis p fun x => { x with stopReason := 2, stopCmds := x.stopCmds ++ [q.code] }
    (s.planStop p (s.setBounds p set), RC.accepted)

/-- QUICK_STOP (R285, R301, R311): during a homing the homing fails HOME_STOPPED. -/
def cmdQuickStop (p : Nat) : Cmd where
  opc := 0x05
  kinds := (· == .axis)
  allow := fun s _ _ _ =>
    let st := s.mstate p
    if st = 6 ∨ st = 7 ∨ st = 8 ∨ st = 10 ∨ st = 11 then 0 else RC.state
  act := fun s q _ _ =>
    let s := if s.mstate p = 11 then s.failHoming p 6 true
      else s.quickStop p (if (s.axis p).homeResult ≠ 0 then 10 else 3)
    (s.modAxis p fun x => { x with stopCmds := x.stopCmds ++ [q.code] }, RC.accepted)

/-- Whether an axis is an armed member of a group (R296, R297). -/
def State.armedIn (s : State) (g p : Nat) : Bool :=
  s.mstate p == 3 && s.flag p Ax.GROUP_CFG_MEMBER && s.fld p Ax.GROUP_CFG_GROUP == g

/-- GROUP_GO (R297): the start line of the group in CHANNEL is asserted; it rises within 0.2 µs. A command of the same
requester that waits armed does not hold it back (log entry 15). -/
def cmdGroupGo : Cmd where
  opc := 0x06
  kinds := (· == .axis)
  range := fun _ ch _ _ => decide (ch < 8)
  allow := fun s q _ _ => if (List.range' 0x10 32).any (fun p => s.armedIn q.chan p) then 0 else RC.state
  act := fun s q _ _ => ((s.putLines (if s.lines.contains q.chan then s.lines else s.lines ++ [q.chan])), RC.done)
  busy := false

/-- DISARM (R296, R311). -/
def cmdDisarm (p : Nat) : Cmd where
  opc := 0x07
  kinds := (· == .axis)
  allow := fun s _ _ _ => if s.mstate p = 3 then 0 else RC.state
  act := fun s _ _ _ =>
    let from_ := s.fromState p
    ((s.endMotion p 11).setMstate p from_, RC.done)

/-- RELEASE (R311): torque removed, FREE. -/
def cmdRelease (p : Nat) : Cmd where
  opc := 0x08
  kinds := (· == .axis)
  allow := fun s _ _ _ => if s.mstate p = 2 ∨ s.mstate p = 9 then 0 else RC.state
  act := fun s _ _ _ => (s.setMstate p 1, RC.done)

/-- ENGAGE (R311, R312): the present position is held. -/
def cmdEngage (p : Nat) : Cmd where
  opc := 0x09
  kinds := (· == .axis)
  allow := fun s _ _ _ => if s.mstate p = 1 ∧ !s.sensorless p then 0 else RC.state
  act := fun s _ _ _ => ((s.setpointHere p 0).setMstate p 2, RC.done)

/-- SET_POSITION (R290, R311). -/
def cmdSetPosition (p : Nat) : Cmd where
  opc := 0x0A
  kinds := (· == .axis)
  range := fun s ch a _ => ch == 0 && (!s.wraps p || decide (a ≤ 16777215))
  allow := fun s _ _ _ =>
    let st := s.mstate p
    if (st = 1 ∨ st = 2 ∨ st = 9) ∧ !s.sensorless p then 0 else RC.state
  act := fun s _ a _ => (s.rereference p (argInt a - s.position p), RC.done)

/-- Whether a homing method has what it needs (R302). -/
def State.homingNeeds (s : State) (p : Nat) : Bool :=
  match s.fld p Ax.HOME_CFG_METHOD with
  | 0 => false
  | 1 => (s.roleInput p 1).isSome
  | 2 => (s.roleInput p 2).isSome
  | 3 | 4 => (s.roleInput p 3).isSome
  | 5 | 6 => s.fld p Ax.FB_STATUS_DETECTED == 1
  | 7 | 8 => !rotary p
  | _ => true

/-- The method HERE (R307): the present position is C; DONE at its decision with result HOMED. -/
def State.homeHere (s : State) (p : Nat) (m : Motion) : State :=
  let c := s.position p
  let d := s.sfld p Ax.HOME_POS - c
  let s := s.setFld p Ax.MOT_STATUS_REF_VALID 0
  let s := s.modAxis p fun x => { x with home := { startAt := s.now, startPos := c, cap := some c }, mot := some { m with code := none } }
  let s := (s.curdOpen p m).setReg p Ax.HOME_STATUS_EDGES.off 0
  let s := (s.setSfld p Ax.HOME_CAPTURE c).setSfld p Ax.HOME_SHIFT d
  (s.rereference p d).endHoming p 1

/-- HOME (R301, R302, R311). -/
def cmdHome (p : Nat) : Cmd where
  opc := 0x10
  kinds := (· == .axis)
  allow := fun s _ _ _ =>
    let st := s.mstate p
    if s.homingNeeds p ∧ (st = 1 ∨ st = 2 ∨ st = 9) ∧ s.motionState p ∧ !s.sensorless p ∧ !s.classZeroRuns p then 0 else RC.state
  act := fun s q _ _ =>
    let m : Motion := { opc := 0x10, code := some q.code, tag := q.tag, cls := s.fld p Ax.HOME_CFG_CLASS }
    if s.fld p Ax.HOME_CFG_METHOD = 9 then (s.homeHere p m, RC.done) else s.present p m

def execMoveAbs (t : Nat) (q : Req) (s : State) : Host.Outcome State Fault Refusal :=
  .next ((s.start t).axisCommand q (cmdMove q.page 1))
def execMoveRel (t : Nat) (q : Req) (s : State) : Host.Outcome State Fault Refusal :=
  .next ((s.start t).axisCommand q (cmdMove q.page 2))
def execMoveVel (t : Nat) (q : Req) (s : State) : Host.Outcome State Fault Refusal :=
  .next ((s.start t).axisCommand q (cmdMove q.page 3))
def execMotionStop (t : Nat) (q : Req) (s : State) : Host.Outcome State Fault Refusal :=
  .next ((s.start t).axisCommand q (cmdStop q.page))
def execQuickStop (t : Nat) (q : Req) (s : State) : Host.Outcome State Fault Refusal :=
  .next ((s.start t).axisCommand q (cmdQuickStop q.page))
def execGroupGo (t : Nat) (q : Req) (s : State) : Host.Outcome State Fault Refusal :=
  .next ((s.start t).axisCommand q cmdGroupGo)
def execDisarm (t : Nat) (q : Req) (s : State) : Host.Outcome State Fault Refusal :=
  .next ((s.start t).axisCommand q (cmdDisarm q.page))
def execReleaseAxis (t : Nat) (q : Req) (s : State) : Host.Outcome State Fault Refusal :=
  .next ((s.start t).axisCommand q (cmdRelease q.page))
def execEngageAxis (t : Nat) (q : Req) (s : State) : Host.Outcome State Fault Refusal :=
  .next ((s.start t).axisCommand q (cmdEngage q.page))
def execSetPosition (t : Nat) (q : Req) (s : State) : Host.Outcome State Fault Refusal :=
  .next ((s.start t).axisCommand q (cmdSetPosition q.page))
def execHomeAxis (t : Nat) (q : Req) (s : State) : Host.Outcome State Fault Refusal :=
  .next ((s.start t).axisCommand q (cmdHome q.page))

/-- START_LINE (R297, R298): the start line of a group, once asserted, rises; a member whose drive has no torque ends
DRIVE_FAULT, and the others present their request to the arbiters of their buses as part of the group. -/
def execStartLine (t : Nat) (g : Fin 8) (s : State) : Host.Outcome State Fault Refusal :=
  let s := s.start t
  if !s.lines.contains g.val then .next s
  else
    let s := (s.putLines (s.lines.filter (· != g.val)))
    let ms := (List.range' 0x10 32).filter fun p => s.armedIn g p
    let dead := ms.filter fun p => !s.driveEnabled p
    let s := s.each dead fun s p => (s.endMotion p 8).setMstate p 0
    let live := ms.filter fun p => s.driveEnabled p
    let s := s.each live fun s p => s.modAxis p fun x => { x with mot := x.mot.map fun m => { m with origin := some s.now } }
    .next (s.each [0, 1] fun s b =>
      let mine := live.filter fun p => busOf p == b
      if mine = [] then s else s.setBus b { s.bus b with asked := (s.bus b).asked ++ [(g.val, mine)] })

/-- The decision on a group start (R298): one request, the lowest class of its members, one outcome for all. -/
def State.decideGroup (s : State) (b g : Nat) (ms : List Nat) : State :=
  let ms := ms.filter fun p => s.armedIn g p
  let mot (p : Nat) : Motion := ((s.axis p).mot).getD { opc := 1, code := none }
  match ms with
  | [] => s
  | p0 :: _ =>
    let cls := ms.foldl (fun c p => min c (mot p).cls) (mot p0).cls
    let ws := ms.map fun p => s.motionCharge p (mot p)
    match s.decideRequest b cls ws.sum 0 with
    | .refused r => s.each ms fun s p =>
        let m := mot p
        let from_ := s.fromState p
        let s := ((s.modAxis p fun x => { x with mot := none }).outcome p cls (.refused r)).setMstate p from_
        s.finishCmd p m.code RC.ration
    | .delayed =>
        let s := s.enqueueReq b ⟨ms, cls, ws.sum, s.now, some g⟩
        s.each ms fun s p =>
          ((s.modAxis p fun x => { x with mot := none, next := some { mot p with origin := none } }).outcome p cls .delayed).setMstate p 4
    | gr =>
        (ms.zip (shares (gr.charge ws.sum) gr.pct ws)).foldl (fun s (p, w) =>
          let m := mot p
          let from_ := s.fromState p
          let s := if cls = 0 then s.chargeZero p w else s.setCharge p w 0
          (s.outcome p cls gr).beginMotion p { m with stretch := gr.pct } from_ true) s

/-- RATION_REQUEST (R334, R336): the arbiter of a bus decides the requests presented to it, in the order of their
arrival. A request of a command is decided with the command; these are the group starts. -/
def execRationRequest (t : Nat) (b : Fin 2) (s : State) : Host.Outcome State Fault Refusal :=
  let s := s.start t
  let asked := (s.bus b).asked
  let s := s.setBus b { s.bus b with asked := [] }
  .next ((asked.foldl (fun s x => s.decideGroup b x.1 x.2) s).settle b)

/-- RATION_TIMEOUT (R338): requests of the bus that have waited MAX_DELAY_MS of their class are refused TIMEOUT. -/
def execRationTimeout (t : Nat) (b : Fin 2) (s : State) : Host.Outcome State Fault Refusal :=
  let s := s.start t
  let due := (s.bus b).waiting.filter fun r =>
    decide (r.since + s.fld 0x0E Ra.CLASS_CFG_MAX_DELAY_MS b (r.cls - 1) * 1000000 ≤ s.now)
  .next ((due.foldl (fun s r => s.refuseWaiting b r 2) s).settle b)

/-- POSITION_LOOP_TICK (R280): the motion engine of an axis computes its next setpoint and advances its states. -/
def execPositionLoopTick (t : Nat) (a : Fin 32) (s : State) : Host.Outcome State Fault Refusal :=
  .next ((s.start t).atAxis a State.tick)

/-- The in-position time over (R283, R308, R382): the motion ends TARGET, the park move its homing, the RETURN its
reversal. -/
def State.inposReached (s : State) (p : Nat) : State :=
  match (s.axis p).inpos with
  | none => s
  | some x =>
    if s.now < x + s.fld p Ax.INPOS_TIME_MS * 1000000 then s
    else
      match s.mstate p with
      | 7 => (s.endMotion p 0).setMstate p 2
      | 11 => if s.chatterOver p then s.homingDone p else s
      | 12 => s.endReversal p 0
      | _ => s

/-- INPOS_REACHED (R283). -/
def execInposReached (t : Nat) (a : Fin 32) (s : State) : Host.Outcome State Fault Refusal :=
  .next ((s.start t).atAxis a State.inposReached)

/-- FLY_MEASURE_DONE (R299, R300): 2 ms of measurement are over. -/
def execFlyMeasureDone (t : Nat) (a : Fin 32) (s : State) : Host.Outcome State Fault Refusal :=
  .next ((s.start t).atAxis a fun s p =>
    match (s.axis p).mot with
    | some m => if s.mstate p = 5 ∧ (s.axis p).measureAt + 2000000 ≤ s.now then s.flyStart p m else s
    | none => s)

/-- PUSH_DONE (R287): PUSH_MS after the push began the motion ends PUSHED, into FREE or PRESSING. -/
def execPushDone (t : Nat) (a : Fin 32) (s : State) : Host.Outcome State Fault Refusal :=
  .next ((s.start t).atAxis a fun s p =>
    if s.mstate p = 10 ∧ (s.axis p).pushAt + s.fld p Ax.PUSH_CFG_PUSH_MS * 1000000 ≤ s.now then
      let s := s.endMotion p 1
      s.setMstate p (if s.fld p Ax.PUSH_CFG_HOLD_N = 0 then 1 else 9)
    else s)

/-- What a write of a virtual limit does (R292, R309): a motion whose goal lies outside is re-planned at the next tick, and
PARK_POS is held inside with the clamp reported under requester code 0. -/
def State.afterLimit (s : State) (p : Nat) : State :=
  let s := s.modAxis p fun x => { x with relimit := true }
  let v := s.sfld p Ax.PARK_POS
  let w := clampInt v (s.sfld p Ax.LIMIT_NEG) (s.sfld p Ax.LIMIT_POS)
  let s := if v = w then s
    else ((s.setSfld p Ax.PARK_POS w).reportClamp 0 p Ax.PARK_POS.off 0 (patternOf 32 v) (patternOf 32 w)).raise p 13
  s.showBeyond p

/-- LIMIT_WRITE (R292): a write of LIMIT_NEG (`pos` false) or LIMIT_POS. -/
def execLimitWrite (t : Nat) (code gen : Nat) (a : Fin 32) (pos : Bool) (value : Word) (s : State) :
    Host.Outcome State Fault Refusal :=
  let p := axisPage a.val
  .next ((s.start t).write ⟨code, gen, p, if pos then 0x108 else 0x104, value⟩ fun s => s.afterLimit p)

/-- Whether a switch input is the target of the homing method (R302). -/
def State.homeTarget (s : State) (p k : Nat) : Bool :=
  decide (s.fld p Ax.HOME_CFG_METHOD ≤ 4) && s.roleInput p (homeRole (s.fld p Ax.HOME_CFG_METHOD)) == some k

/-- A raw transition of a switch input (R295): a transition into its active level captures the position; during the
chatter window of a homing it is counted on the target input (R305). -/
def State.switchRaw (s : State) (p k : Nat) (high : Bool) : State :=
  let act := high != bitAt (s.fld p Ax.SW_MAP_INVERT) k
  let sw := s.switch p k
  let s := s.setFld p Ax.INPUTS_SW_RAW (setBit (s.fld p Ax.INPUTS_SW_RAW) k high)
  if sw.raw = act then s
  else
    let first := if act && !sw.active then sw.first.orElse (fun _ => some (s.position p)) else sw.first
    let s := s.modAxis p fun x =>
      { x with switches := x.switches.wr {} k { sw with raw := act, since := s.now, first := first } }
    let h := (s.axis p).home
    if s.mstate p = 11 ∧ s.homeTarget p k ∧ s.fld p Ax.HOME_STATUS_PHASE ≠ 1
        ∧ (h.chatterEnd.isSome ∨ h.edges = 0) then
      let n := if h.edges = 0 ∧ !act then 0 else saturate 8 (h.edges + 1)
      let till := s.now + s.fld p Ax.SW_TIMING_CHATTER_MS * 1000000
      let s := s.modHome p fun h =>
        { h with edges := n, chatterEnd := if h.edges = 0 ∧ act then some till else h.chatterEnd }
      s.setFld p Ax.HOME_STATUS_EDGES n
    else s

/-- SWITCH_RAW_EDGE (R295): switch input `k` of an axis goes to a level. -/
def execSwitchRawEdge (t : Nat) (a : Fin 32) (k : Fin 3) (high : Bool) (s : State) :
    Host.Outcome State Fault Refusal :=
  .next ((s.start t).atAxis a fun s p => s.switchRaw p k high)

/-- MOT_STATUS.SW_NEG, SW_POS and SW_HOME (R295). -/
def State.showSwitches (s : State) (p : Nat) : State :=
  ((s.setFld p Ax.MOT_STATUS_SW_NEG (bool01 (s.roleActive p 1))).setFld p Ax.MOT_STATUS_SW_POS
    (bool01 (s.roleActive p 2))).setFld p Ax.MOT_STATUS_SW_HOME (bool01 (s.roleActive p 3))

/-- A qualified active edge outside homing (R294): a limit switch in the direction of the motion quick-stops the axis, whatever
the class; a reversal is stopped so as well, and ends with that reason. -/
def State.hwLimit (s : State) (p role : Nat) : State :=
  let v := (s.axis p).kin.v
  let st := s.mstate p
  if s.flag p Ax.MOT_CFG_HW_LIMITS ∧ (6 ≤ st ∧ st ≤ 8 ∨ st = 12) ∧ (role = 1 ∧ v < 0 ∨ role = 2 ∧ 0 < v) then
    (if st = 12 then s.brakeReversal p 6 (flatBounds (s.fld p Ax.QS_DEC) (s.fld p Ax.QS_DEC)) else s.quickStop p 6).limitHit p
      (2 + bool01 (decide (role = 2)))
  else s

/-- A qualified active edge during homing (R302, R303, R306): the target gives C, the limit ahead may reverse the search
once, everything else foreign ends the homing. -/
def State.homeEdge (s : State) (p k role : Nat) : State :=
  let method := s.fld p Ax.HOME_CFG_METHOD
  let h := (s.axis p).home
  let phase := s.fld p Ax.HOME_STATUS_PHASE
  let part := if method = 3 then 1 else 2
  if method ≤ 4 ∧ role = homeRole method then
    if phase = 2 then s.takeCapture p ((s.switch p k).first.getD (s.position p)) h.chatterEnd else s
  else if (method = 3 ∨ method = 4) ∧ role = part ∧ s.flag p Ax.HOME_CFG_REVERSE_AT_LIMIT then
    if phase = 2 ∧ !h.turned then
      let s := s.modHome p fun h => { h with dir := -h.dir, turned := true }
      s.homePhase p 2 (-h.dir * s.fld p Ax.HOME_V1)
    else s
  else s.failHoming p 3 true

/-- A switch input qualified (R295, R304): its level has lasted FILT_US. -/
def State.switchQualified (s : State) (p k : Nat) : State :=
  let sw := s.switch p k
  if s.now < sw.since + s.fld p Ax.SW_TIMING_FILT_US * 1000 then s
  else if sw.raw = sw.active then
    if sw.raw then s
    else
      let s := s.modAxis p fun x => { x with switches := x.switches.wr {} k { sw with first := none } }
      -- a touch too short to qualify is no raw first edge: its count begins anew (R295, R305)
      if s.mstate p = 11 ∧ s.fld p Ax.HOME_STATUS_PHASE = 2 ∧ s.homeTarget p k then
        (s.modHome p fun h => { h with edges := 0, chatterEnd := none }).setFld p Ax.HOME_STATUS_EDGES 0
      else s
  else
    let s := s.modAxis p fun x =>
      { x with switches := x.switches.wr {} k { sw with active := sw.raw, first := if sw.raw then sw.first else none } }
    let s := s.showSwitches p
    let role := s.swRole p k
    if sw.raw then
      if role = 0 then s
      else if s.mstate p = 11 then s.homeEdge p k role
      else s.hwLimit p role
    else if s.mstate p = 11 ∧ s.fld p Ax.HOME_STATUS_PHASE = 1 ∧ role = homeRole (s.fld p Ax.HOME_CFG_METHOD) then
      s.planStop p (flatBounds (s.fld p Ax.HOME_ACC) (s.fld p Ax.HOME_ACC))
    else s

/-- SWITCH_QUALIFIED (R294, R295, R303, R306). -/
def execSwitchQualified (t : Nat) (a : Fin 32) (k : Fin 3) (s : State) : Host.Outcome State Fault Refusal :=
  .next ((s.start t).atAxis a fun s p => s.switchQualified p k)

/-- HOME_CHATTER_END (R305, R308): the chatter window closes, and a homing that waited in its park position for that ends. -/
def execHomeChatterEnd (t : Nat) (a : Fin 32) (s : State) : Host.Outcome State Fault Refusal :=
  .next ((s.start t).atAxis a fun s p =>
    match (s.axis p).home.chatterEnd with
    | some e =>
      if s.now < e then s
      else
        let s := s.modHome p fun h => { h with chatterEnd := none }
        if s.mstate p = 11 then s.inposReached p else s
    | none => s)

/-- HOME_DWELL_DONE (R307): after DWELL_MS at the stop the present position is C; the axis holds it with no push. -/
def execHomeDwellDone (t : Nat) (a : Fin 32) (s : State) : Host.Outcome State Fault Refusal :=
  .next ((s.start t).atAxis a fun s p =>
    match (s.axis p).home.dwellAt with
    | some x =>
      if s.mstate p = 11 ∧ s.fld p Ax.HOME_STATUS_PHASE = 4 ∧ x + s.fld p Ax.HARD_STOP_DWELL_MS * 1000000 ≤ s.now then
        let c := s.position p
        State.setReference ((s.setpointHere p 0).takeCapture p c none) p
      else s
    | none => s)

/-- HOME_TIMEOUT (R301): TIMEOUT_S after the start the homing fails. -/
def execHomeTimeout (t : Nat) (a : Fin 32) (s : State) : Host.Outcome State Fault Refusal :=
  .next ((s.start t).atAxis a fun s p =>
    if s.mstate p = 11 ∧ (s.axis p).home.startAt + s.fld p Ax.HOME_LIMITS_TIMEOUT_S * 1000000000 ≤ s.now then
      s.failHoming p 4 false
    else s)

end Sys2Proof.Machine
end

