-- ==== Sys2Proof/Machine/Avenue.lean ====
section
/-! DEFINITION. The Avenue unit (chapter 09): sources, corners, jumps and faults, and the commands of pages 0x0C and 0x0D.
Avenue `a` keeps its corners under page 0x80 + a. -/

namespace Sys2Proof.Machine

/-- An avenue and its parts. -/
def State.av (s : State) (a : Nat) : AvRec := s.avenues.rd {} a
def State.modAv (s : State) (a : Nat) (f : AvRec → AvRec) : State := { s with avenues := s.avenues.wr {} a (f (s.av a)) }
def State.avKind (s : State) (a : Nat) : Nat := s.fld 0x0C Av.AV_SRC_KIND a
def State.avState (s : State) (a : Nat) : Nat := s.fld 0x0C Av.AV_STATE_STATE a

/-- The page under which the corners of an avenue are kept. -/
def cornerPage (a : Nat) : Nat := 0x80 + a

/-- The page of the host stage of an avenue (R259, R260); 0 for the common section. -/
def State.avHost (s : State) (a : Nat) : Nat :=
  let r := s.fld 0x0C Av.AV_SRC_RES a
  match s.avKind a with
  | 1 | 2 => 0x10 + r
  | 3 => 0x4C + r
  | 4 => 0x30 + r
  | _ => 0

/-- The writer lane of an avenue (R271). -/
def State.writerLane (s : State) (a : Nat) : Nat :=
  if s.avHost a = 0 then (if s.fld 0x0C Av.AV_SRC_LANE a = 2 then 2 else 1) else s.owner (s.avHost a)

/-- Whether a requester may write the corners of an avenue (R35, R271): the owner of the resource it is bound to, or, where it is
bound to none, the lane named for it, or the other lane while that is ALONE. -/
def State.isWriter (s : State) (code a : Nat) : Bool :=
  (code == 1 || code == 2) && (s.writerLane a == code || (s.avHost a == 0 && s.laneState (laneNum code) == 3))

/-- A difference on a circle of 2^24, the short way round (R261). -/
def wrap24 (x : Int) : Int := (x + 8388608) % 16777216 - 8388608

/-- A relative value or a step of an avenue (R261). -/
def avDiff (circ : Bool) (x : Int) : Int := if circ then wrap24 x else x

/-- The limit beyond which a step is a jump (R260, R269, R275). -/
def State.jumpLimit (s : State) (a : Nat) : Nat :=
  let f := s.fld 0x0C Av.AV_LIMITS_JUMP_LIMIT a
  if f ≠ 0 then 2 * f
  else match s.avKind a with
    | 1 => 4000
    | 2 => 16384
    | 3 | 4 => 49152
    | 5 => 65534
    | _ => 10000

/-- What a source gives at a sample instant: nothing, a value, or the cause of R270 that is present. -/
inductive AvRead where
  | nothing
  | value (v : Int)
  | cause (c : Nat)
  deriving DecidableEq, Repr

/-- The phase of a MAINS_FIELD source (R260, R262): interpolated over the period between the last two rising crossings. -/
def State.mainsField (s : State) (a : Nat) : AvRead :=
  let k := s.fld 0x0C Av.AV_SRC_CH a
  let c := s.ch (s.avHost a) k
  if c.mode ≠ 1 ∧ c.mode ≠ 2 then .cause 5
  else if max (s.av a).startAt (c.rise1.getD 0) + 50000000 ≤ s.now then .cause 3
  else
    match c.rise1, c.rise2 with
    | some r1, some r2 =>
      let period := r1 - r2
      if period * 40 ≤ 1000000000 ∧ 1000000000 ≤ period * 70 then .value (((s.now - r1) * 16777216 / period : Nat) : Int)
      else .cause 2
    | _, _ => .nothing

/-- The phase of a MAINS_LOOP source (R262, R458). -/
def State.mainsLoop (s : State) (a : Nat) : AvRead :=
  let p := s.avHost a
  let k := s.fld 0x0C Av.AV_SRC_CH a
  if bitAt (s.fld p Lp.GRP_STATUS_PAIR_VALID) k then .value (s.fld p Lp.PHASE k)
  else if s.fld p Lp.LP_STATUS_MODE k = 3 ∧ s.fld p Lp.LP_STATUS_MODE (k + 1) = 3
      ∧ (s.sfld p Lp.FREQ k < 40000 ∨ 70000 < s.sfld p Lp.FREQ k) then .cause 2
  else .cause 3

/-- The train line position (R260): AV_IN extrapolated at AV_IN_RATE from the instant of the write. -/
def State.lineValue (s : State) (a : Nat) (since : Nat) : Int :=
  s.sfld 0x0C Av.AV_IN a + s.sfld 0x0C Av.AV_IN_RATE a * ((s.now - since : Nat) : Int) / 1000000000

/-- The source of an avenue at this instant (R260, R262, R270); a VIRTUAL source is sampled by its write alone. -/
def State.avSource (s : State) (a : Nat) : AvRead :=
  let p := s.avHost a
  if !s.power.common then .cause 5
  else match s.avKind a with
    | 1 =>
      if s.fbFaulty p then .cause 1 else if s.serial p && (s.axis p).fb.bad != 0 then .nothing else .value (s.sfld p Ax.POSITION)
    | 2 =>
      if s.fbFaulty p then .cause 1
      else if (s.serial p && (s.axis p).fb.bad != 0) || !s.flag p Ax.FB_STATUS_ANGLE_VALID then .nothing
      else .value (s.fld p Ax.ANGLE)
    | 3 => s.mainsLoop a
    | 4 => s.mainsField a
    | 6 =>
      if max (s.av a).startAt ((s.av a).inAt.getD 0) + s.fld 0x0C Av.LINE_TIMEOUT_MS * 1000000 ≤ s.now then .cause 4
      else match (s.av a).inAt with
        | some x => .value (s.lineValue a x)
        | none => .nothing
    | _ => .nothing

/-- The counts of AVU_STATUS and the level of AV_FAULT (R275, R277). -/
def State.showAvenues (s : State) (arg : Nat) : State :=
  let inState (f : Nat → Bool) : Nat := ((List.range 64).filter fun a => f (s.avState a)).length
  let bad := inState (· == 3)
  let s := s.setFld 0x0C Av.AVU_STATUS_ENABLED (inState (· != 0))
  (s.setFld 0x0C Av.AVU_STATUS_IN_FAULT bad).level 0x0C 0 (bad != 0) arg

/-- An avenue enters a state. -/
def State.setAvState (s : State) (a v arg : Nat) : State :=
  let s := s.setFld 0x0C Av.AV_STATE_STATE v a
  let s := if v = 3 then s else s.setFld 0x0C Av.AV_STATE_FAULT_CAUSE 0 a
  s.showAvenues arg

/-- AV_STATE.CORNERS (R275). -/
def State.showCorners (s : State) (a : Nat) : State :=
  s.setFld 0x0C Av.AV_STATE_CORNERS (((List.range 64).filter fun c => s.flag (cornerPage a) Cn.CN_CTRL_ENA c).length) a

/-- An avenue enters FAULT with a cause (R270, R276). -/
def State.avFault (s : State) (a cause : Nat) : State :=
  let st := s.avState a
  if st = 0 then s
  else
    let s := s.setFld 0x0C Av.AV_STATE_FAULT_CAUSE cause a
    if st = 3 then s else (s.bump 0x0C Av.AV_COUNTS_FAULTS a).setAvState a 3 (cause * 256 + a)

/-- Whether the target of a corner takes its action now (R266). -/
def State.cornerTakes (s : State) (p action arg : Nat) : Bool :=
  match action with
  | 2 => true
  | 3 | 4 | 8 => s.cornerMay p
  | 5 => (s.captureOf p).isNone
  | 6 | 7 => (s.captureOf p).isSome
  | _ => s.isOutput p (arg % 16) && !s.feSafe p

/-- The effect of an action at its target (R265). -/
def State.cornerAct (s : State) (a p action arg : Nat) (falling : Bool) : State :=
  match action with
  | 2 => s.setFld p Ax.THRESH_EFF arg
  | 3 | 4 | 8 => ((s.cornerMove p action arg).noteCorner p action arg).settle (busOf p)
  | 5 => s.captureStart p 2
  | 6 => s.captureMark p arg a falling
  | 7 => match s.captureOf p with
    | some (l, _) => s.captureEnd l (p - 0x10) 2
    | none => s
  | 9 => s.cornerOut p (arg % 16) (bitAt arg 4) none
  | 10 => s.cornerOut p (arg % 16) true (some (10 * (arg / 16)))
  | _ => s

/-- The counts of a firing (R264, R273, R275): CN_COUNT, CN_TIME, FIRED, FIRE_TOTAL, the ages and the motion's record. -/
def State.countFire (s : State) (a c : Nat) (falling : Bool) : State :=
  let cp := cornerPage a
  let s := (s.bump cp Cn.CN_COUNT c).setFld64 cp Cn.CN_TIME_LO s.time c
  let s := s.setFld cp Cn.CN_STATUS_LAST_DIR (bool01 falling) c
  let s := s.setFld64 0x0C Av.FIRED_LO (setBit (s.fld64 0x0C Av.FIRED_LO a) c true) a
  let s := s.setFld64 0x0C Av.FIRE_TOTAL_LO ((s.fld64 0x0C Av.FIRE_TOTAL_LO + 1) % 2 ^ 64)
  let s := s.modAv a fun x => { x with firstAt := some (x.firstAt.getD s.now), lastAt := some s.now }
  let p := s.avHost a
  if pageKind p = .axis then
    s.modAxis p fun x => { x with curd := x.curd.map fun k => { k with corners := saturate 16 (k.corners + 1) } }
  else s

/-- A corner fires (R263-R266). -/
def State.cornerFire (s : State) (a c : Nat) (falling : Bool) : State :=
  let cp := cornerPage a
  let p := s.avHost a
  let action := s.fld cp Cn.CN_CTRL_ACTION c
  let arg := s.fld cp Cn.CN_CTRL_ACT_ARG c
  let place := bool01 falling * 2 ^ 14 + a * 2 ^ 8 + c
  let s := s.countFire a c falling
  let s := if s.flag cp Cn.CN_CTRL_ONESHOT c then
      ((s.setFld cp Cn.CN_CTRL_ENA 0 c).showCorners a).raise 0x0D 1 (a * 2 ^ 8 + c)
    else s
  if action = 0 then s.setFld cp Cn.CN_STATUS_LAST_RESULT 1 c
  else if action = 1 then (s.setFld cp Cn.CN_STATUS_LAST_RESULT 1 c).raise 0x0C 2 (arg * 2 ^ 16 + place)
  else if s.cornerTakes p action arg then (s.setFld cp Cn.CN_STATUS_LAST_RESULT 0 c).cornerAct a p action arg falling
  else ((s.setFld cp Cn.CN_STATUS_LAST_RESULT 2 c).bump 0x0C Av.IGNORED_TOTAL).raise 0x0C 3 place

/-- The arms of a corner set from a value (R263). -/
def State.setArms (s : State) (a c : Nat) (v : Int) : State :=
  let cp := cornerPage a
  let r := avDiff (s.avCirc a) (v - s.sfld cp Cn.CN_POS c)
  let h : Int := s.fld 0x0C Av.AV_LIMITS_HYST a
  (s.setFld cp Cn.CN_STATUS_ARM_R (bool01 (decide (r < -h))) c).setFld cp Cn.CN_STATUS_ARM_F (bool01 (decide (h < r))) c

/-- The enabled corners of an avenue. -/
def State.cornersOn (s : State) (a : Nat) : List Nat := (List.range 64).filter fun c => s.flag (cornerPage a) Cn.CN_CTRL_ENA c

/-- A corner evaluated on a step of an avenue (R263): the new arms, and, when it fires, how far the path runs to it and
whether it falls. -/
def State.evalCorner (s : State) (a c : Nat) (old new : Int) : State × Option (Nat × Nat × Bool) :=
  let cp := cornerPage a
  let circ := s.avCirc a
  let h : Int := s.fld 0x0C Av.AV_LIMITS_HYST a
  let r0 := avDiff circ (old - s.sfld cp Cn.CN_POS c)
  let r1 := avDiff circ (new - s.sfld cp Cn.CN_POS c)
  let crossed := r1 - r0 == avDiff circ (new - old)
  let dir := s.fld cp Cn.CN_CTRL_DIR c
  let up := s.flag cp Cn.CN_STATUS_ARM_R c && crossed && decide (r0 < 0 ∧ 0 ≤ r1)
  let down := s.flag cp Cn.CN_STATUS_ARM_F c && crossed && decide (0 < r0 ∧ r1 ≤ 0)
  let armR := decide (r1 < -h) || (s.flag cp Cn.CN_STATUS_ARM_R c && !up)
  let armF := decide (h < r1) || (s.flag cp Cn.CN_STATUS_ARM_F c && !down)
  let s := (s.setFld cp Cn.CN_STATUS_ARM_R (bool01 armR) c).setFld cp Cn.CN_STATUS_ARM_F (bool01 armF) c
  (s, if (up && bitAt dir 0) || (down && bitAt dir 1) then some (r0.natAbs, c, down) else none)

/-- A firing put in its place on the path: by distance, then by corner number (R264). -/
def insertFire (x : Nat × Nat × Bool) : List (Nat × Nat × Bool) → List (Nat × Nat × Bool)
  | [] => [x]
  | y :: r => if x.1 < y.1 ∨ (x.1 = y.1 ∧ x.2.1 < y.2.1) then x :: y :: r else y :: insertFire x r

/-- Corners evaluated one after the other; the firings in the order of R264. -/
def State.evalCorners (s : State) (a : Nat) (old new : Int) : List Nat → State × List (Nat × Nat × Bool)
  | [] => (s, [])
  | c :: rest =>
    let (s, f) := s.evalCorner a c old new
    let (s, fs) := s.evalCorners a old new rest
    (s, match f with
      | some x => insertFire x fs
      | none => fs)

/-- AV_VALUE after a sample (R261); a value beyond 32 bits is stated nowhere. -/
def State.showValue (s : State) (a : Nat) (v : Int) : State :=
  if saturateSigned 32 v = v ∨ (0 ≤ v ∧ v < 2 ^ 32 ∧ s.avCirc a) then s.setSfld 0x0C Av.AV_VALUE v a
  else
    let (w, s) := s.free
    s.setFld 0x0C Av.AV_VALUE (w.toNat % 2 ^ 32) a

/-- A valid sample of an avenue that runs (R261, R263, R264, R269): `line` avenues jump only at a write. -/
def State.avStep (s : State) (a : Nat) (v : Int) : State :=
  let x := s.av a
  let circ := s.avCirc a
  let d := avDiff circ (v - x.value)
  let s := s.modAv a fun x => { x with value := v, fresh := [], reref := false }
  if x.reref || (decide (s.jumpLimit a < d.natAbs) && s.avKind a != 6) then
    let s := ((s.bump 0x0C Av.AV_COUNTS_JUMPS a).bump 0x0C Av.JUMP_TOTAL).raise 0x0C 1 a
    (s.cornersOn a).foldl (fun s c => s.setArms a c v) s
  else
    let on := s.cornersOn a
    let s := (on.filter x.fresh.contains).foldl (fun s c => s.setArms a c v) s
    let (s, fires) := s.evalCorners a x.value v (on.filter fun c => !x.fresh.contains c)
    fires.foldl (fun s f => s.cornerFire a f.2.1 f.2.2) s

/-- A sample of an avenue (R261, R270, R276): the source value plus AV_OFFSET. -/
def State.avSample (s : State) (a : Nat) (src : Int) : State :=
  let off := if s.avCirc a then (s.fld 0x0C Av.AV_OFFSET a : Int) else s.sfld 0x0C Av.AV_OFFSET a
  let v := if s.avCirc a then (src + off) % 16777216 else src + off
  let st := s.avState a
  if st = 0 then s
  else
    let s := s.showValue a v
    if st = 2 then s.avStep a v
    else
      let s := (s.modAv a fun x => { x with value := v, fresh := [], reref := false }).setAvState a 2 0
      (s.cornersOn a).foldl (fun s c => s.setArms a c v) s

/-- The cause of a fault has ended (R276): WAIT until the first valid sample. -/
def State.avCauseEnds (s : State) (a : Nat) : State := if s.avState a = 3 then s.setAvState a 1 0 else s

/-- AVENUE_SAMPLE (R260-R266, R269, R270, R276). -/
def execAvenueSample (t : Nat) (a : Fin 64) (s : State) : Host.Outcome State Fault Refusal :=
  let s := s.start t
  .next (if s.avState a = 0 then s
    else match s.avSource a with
      | .nothing => s.avCauseEnds a
      | .value v => (s.avCauseEnds a).avSample a v
      | .cause c => s.avFault a c)

/-- LINE_TIMEOUT (R270, cause 4). -/
def execLineTimeout (t : Nat) (a : Fin 64) (s : State) : Host.Outcome State Fault Refusal :=
  let s := s.start t
  .next (if s.avKind a = 6 ∧ s.avSource a = .cause 4 then s.avFault a 4 else s)

/-- MAINS_CROSSING_TIMEOUT (R270, cause 3). -/
def execMainsCrossingTimeout (t : Nat) (a : Fin 64) (s : State) : Host.Outcome State Fault Refusal :=
  let s := s.start t
  .next (if (s.avKind a = 3 ∨ s.avKind a = 4) ∧ s.avSource a = .cause 3 then s.avFault a 3 else s)

/-- Corners whose action the host stage does not permit take FLAG, which page 0x0D reports with requester code 0 (R265). -/
def State.flagCorners (s : State) (a : Nat) : State :=
  let bad := (List.range 64).filter fun c => !s.avAction a (s.fld (cornerPage a) Cn.CN_CTRL_ACTION c)
  let s := bad.foldl (fun s c =>
    let off := Cn.CN_CTRL_ACTION.pos c
    let old := s.fld (cornerPage a) Cn.CN_CTRL_ACTION c
    ((s.setFld (cornerPage a) Cn.CN_CTRL_ACTION 0 c).setFld (cornerPage a) Cn.CN_CTRL_ACT_ARG 0 c).reportClamp 0 0x0D off 16 old 0) s
  if bad.isEmpty then s else s.raise 0x0D 13

/-- A restart of an avenue (R272, R276): every corner is re-armed by the next sample. -/
def State.restartAvenue (s : State) (a why : Nat) : State :=
  let st := s.avState a
  let on := s.flag 0x0C Av.AV_SRC_ENA a && s.avKind a != 0
  let s := s.modAv a fun x => { x with fresh := [], reref := false, startAt := s.now }
  let s := s.setFld 0x0C Av.AV_STATE_CIRC (bool01 (s.avCirc a)) a
  let s := s.setAvState a (if on then 1 else 0) 0
  if on ∧ st ≠ 0 then s.raise 0x0C 4 (why * 2 ^ 8 + a) else s

/-- AV_SRC_WRITE (R265, R272, R276). -/
def execAvSrcWrite (t code gen : Nat) (a : Fin 64) (value : Word) (s : State) : Host.Outcome State Fault Refusal :=
  .next ((s.start t).write ⟨code, gen, 0x0C, Av.AV_SRC_ENA.pos a, value⟩ fun s =>
    ((s.flagCorners a).restartAvenue a 1).showCorners a)

/-- A write of AV_IN applied (R260, R269): a sample of a VIRTUAL avenue; on a LINE avenue a jump where it differs too much
from the value extrapolated at that instant. -/
def State.avIn (s : State) (a : Nat) (old : Int) : State :=
  let had := (s.av a).inAt.isSome
  let s := s.modAv a fun x => { x with inAt := some s.now }
  match s.avKind a with
  | 5 => s.avSample a (if s.avCirc a then (s.fld 0x0C Av.AV_IN a : Int) else s.sfld 0x0C Av.AV_IN a)
  | 6 =>
    if had ∧ s.jumpLimit a < (s.sfld 0x0C Av.AV_IN a - old).natAbs then s.modAv a fun x => { x with reref := true } else s
  | _ => s

/-- AV_IN_WRITE (R260, R274): AV_IN, or AV_IN_RATE where `rate` is true, from the writer lane. -/
def execAvInWrite (t code gen : Nat) (a : Fin 64) (rate : Bool) (value : Word) (s : State) : Host.Outcome State Fault Refusal :=
  let off := (if rate then Av.AV_IN_RATE else Av.AV_IN).pos a
  .next ((s.start t).writeGuard ⟨code, gen, 0x0C, off, value⟩ (fun s => if s.isWriter code a then 0 else RC.owner) fun s =>
    let old := match (s.av a).inAt with
      | some x => s.lineValue a x
      | none => 0
    let s := s.store code 0x0C off value
    if rate then s else s.avIn a old)

/-- A corner changed (R268, R279): the next sample sets its arms. -/
def State.cornerChanged (s : State) (a c : Nat) : State :=
  let s := s.modAv a fun x => if x.fresh.contains c then x else { x with fresh := x.fresh ++ [c] }
  (s.showCorners a).raise 0x0D 0 (a * 2 ^ 8 + c)

/-- CORNER_WINDOW_WRITE (R268, R278): CN_POS, or CN_CTRL where `ctrl` is true, of corner `c` of the requester's avenue. -/
def execCornerWindowWrite (t code gen : Nat) (c : Fin 64) (ctrl : Bool) (value : Word) (s : State) :
    Host.Outcome State Fault Refusal :=
  let off := (if ctrl then Cn.CN_CTRL_ENA else Cn.CN_POS).pos c
  let sel (s : State) : Nat := bitsOf (s.reg 0x0D Cn.WIN_SEL_AVENUE.off (code % 8)) 5 0
  .next ((s.start t).writeGuard ⟨code, gen, 0x0D, off, value⟩ (fun s => if s.isWriter code (sel s) then 0 else RC.owner) fun s =>
    (s.store code (cornerPage (sel s)) off value 0x0D).cornerChanged (sel s) c)

/-- Whether CORNER_SET's arguments are permitted (R265, R279). -/
def State.cornerArgs (s : State) (a : Nat) (x : Word) (pos : Nat) : Bool :=
  let action := bitsOf x 15 12
  bitsOf x 7 6 != 0 && s.avAction a action && action < 11 && actArg action (bitsOf x 31 16) == bitsOf x 31 16
    && !(s.avCirc a && 16777216 ≤ pos)

/-- The checks of CORNER_SET and CORNER_CLEAR (R279): owner before range before state. -/
def State.cornerAdmit (s : State) (q : Req) (set : Bool) (a0 a1 : Nat) : Nat :=
  if 64 ≤ q.chan then RC.range
  else if !s.isWriter q.code q.chan then RC.owner
  else if set && !s.cornerArgs q.chan (BitVec.ofNat 32 a0) a1 then RC.range
  else if set && s.avKind q.chan == 0 then RC.state
  else 0

/-- CORNER_SET (R279). -/
def cmdCornerSet : Cmd where
  opc := 0x01
  kinds := (· == .corner)
  who := .hostsAndLanes
  range := fun _ _ _ _ => true
  allow := fun s q a0 a1 => s.cornerAdmit q true a0 a1
  act := fun s q a0 a1 =>
    let x := BitVec.ofNat 32 a0
    let cp := cornerPage q.chan
    let c := bitsOf x 5 0
    let w := bitsOf x 9 9 * 2 ^ 31 + bitsOf x 8 8 * 2 ^ 28 + bitsOf x 7 6 * 2 ^ 24 + bitsOf x 15 12 * 2 ^ 16 + bitsOf x 31 16
    let s := s.setReg cp (Cn.CN_POS.pos c) (BitVec.ofNat 32 a1)
    ((s.setReg cp (Cn.CN_CTRL_ENA.pos c) (BitVec.ofNat 32 w)).cornerChanged q.chan c, RC.done)

def execCornerSet (t : Nat) (q : Req) (s : State) : Host.Outcome State Fault Refusal :=
  .next ((s.start t).command q cmdCornerSet)

/-- CORNER_CLEAR (R279). -/
def cmdCornerClear : Cmd where
  opc := 0x02
  kinds := (· == .corner)
  who := .hostsAndLanes
  range := fun _ _ _ _ => true
  allow := fun s q a0 a1 => s.cornerAdmit q false a0 a1
  act := fun s q a0 a1 =>
    let on := (s.cornersOn q.chan).filter fun c => bitAt (a0 + a1 * 2 ^ 32) c
    (on.foldl (fun s c => (s.setFld (cornerPage q.chan) Cn.CN_CTRL_ENA 0 c).cornerChanged q.chan c) s, RC.done)

def execCornerClear (t : Nat) (q : Req) (s : State) : Host.Outcome State Fault Refusal :=
  .next ((s.start t).command q cmdCornerClear)

/-- COUNTERS_CLEAR of page 0x0C (R277). -/
def cmdAvenueClear : Cmd where
  opc := 0x01
  kinds := (· == .avenue)
  who := .cfgHost
  act := fun s _ _ _ =>
    let s := (s.setFld 0x0C Av.JUMP_TOTAL 0).setFld 0x0C Av.IGNORED_TOTAL 0
    (s.each (List.range 64) fun s a => s.setReg 0x0C (Av.AV_COUNTS_JUMPS.pos a) 0, RC.done)

def execAvenueCountersClear (t : Nat) (q : Req) (s : State) : Host.Outcome State Fault Refusal :=
  .next ((s.start t).command q cmdAvenueClear)

/-- The avenues that a stage hosts. -/
def State.hosted (s : State) (p : Nat) : List Nat := (List.range 64).filter fun a => s.avKind a != 0 && s.avHost a == p

end Sys2Proof.Machine
end

