-- ==== Sys2Proof/Machine/Drive.lean ====
section
/-! DEFINITION. The drive states, identification, faults under load (R326-R333, R344) and the motor buses (R314-R317,
R340, R341, R630). -/

namespace Sys2Proof.Machine

/-- The state of an axis's motor bus (R347): 0 OFF, 1 PRECHARGE, 2 READY, 3 OVERVOLT. -/
def State.busState (s : State) (p : Nat) : Nat := s.fld 0x0E Ra.BUS_STATUS_STATE (busOf p)

/-- Whether the drive of an axis switches (R333): TESTING, ENABLED, IDENTIFYING, DERATED or FAULT_SENSE. -/
def State.switching (s : State) (p : Nat) : Bool := decide (2 ≤ s.pstate p ∧ s.pstate p ≤ 6)

/-- Whether the angle source of an axis reports FAULT (R328, R352, R354, R356). -/
def State.angleLost (s : State) (p : Nat) : Bool :=
  s.fld p Ax.DRV_CFG_MOTOR_TYPE == 1 &&
    match s.fld p Ax.DRV_CFG_ANGLE_SRC with
    | 0 => s.fbFaulty p || !s.flag p Ax.FB_STATUS_COMM_VALID
    | 1 => s.fbFaulty p || s.flag p Ax.FB_STATUS_HALL_FAULT
    | _ => false

/-- ENABLE (R333, R344): the phase test begins. -/
def cmdEnable (p : Nat) : Cmd where
  opc := 0x20
  kinds := (· == .axis)
  allow := fun s _ _ _ => if s.pstate p = 1 ∧ s.busState p = 2 then 0 else RC.state
  act := fun s _ _ _ =>
    (((s.dropWaiting p).modAxis p fun x => { x with testAt := s.now }).setDrive p 2 0, RC.accepted)

/-- The end of the phase test of an axis (R333): an open phase 1 to 3, 0 for none, and the sensors that failed. -/
def State.testEnd (s : State) (p open_ failed : Nat) : State :=
  let n := popCount 3 failed
  let s := (s.setFld p Ax.DRV_STATUS_PHASE_OPEN open_).setFld p Ax.DRV_STATUS_SENSE_FAILED
    (if n = 1 then (lowestBit 3 0 failed).getD 0 + 1 else 0)
  let s :=
    if open_ ≠ 0 then s.setDrive p 7 7
    else if n = 1 then s.setDrive p 6 8
    else if n ≠ 0 then s.setDrive p 8 2
    else (s.setDrive p 3 0).setMstate p 1
  s.completeAll (fun o => o.page == p && o.opc == 0x20) (if open_ = 0 ∧ n = 0 then RC.done else RC.aborted)

/-- DISABLE (R333, R344): in FAULT_SENSE torque is removed and the state stays. -/
def cmdDisable (p : Nat) : Cmd where
  opc := 0x21
  kinds := (· == .axis)
  allow := fun s _ _ _ => if s.pstate p = 2 ∨ s.pstate p = 3 ∨ s.pstate p = 5 ∨ s.pstate p = 6 then 0 else RC.state
  act := fun s _ _ _ => (if s.pstate p = 6 then (s.dropMotion p).letGo p 0 else s.removeTorque p 1 0, RC.done)

/-- Whether the cause of a fault is still there (R326, R333): the causes that the stage can see without torque. -/
def State.causePersists (s : State) (p : Nat) : Bool :=
  match s.fld p Ax.DRV_STATUS_CAUSE with
  | 3 => decide (1050 ≤ s.sfld p Ax.STAGE_TEMP)
  | 5 => s.busState p == 0
  | 6 => s.busState p == 3
  | 10 => s.angleLost p
  | _ => false

/-- FAULT_RESET (R333, R344). -/
def cmdFaultReset (p : Nat) : Cmd where
  opc := 0x22
  kinds := (· == .axis)
  allow := fun s _ _ _ => if (6 ≤ s.pstate p ∧ s.pstate p ≤ 8) ∧ !s.causePersists p then 0 else RC.state
  act := fun s _ _ _ => ((if s.pstate p = 6 ∧ s.mstate p ≠ 0 then (s.dropMotion p).letGo p 0 else s.dropMotion p).setDrive p 1 0, RC.done)

/-- IDENTIFY (R327, R344): its request is of class 3 and charges 100 W. -/
def cmdIdentify (p : Nat) : Cmd where
  opc := 0x23
  kinds := (· == .axis)
  range := fun s ch a _ =>
    let moves := bitAt a 2 || bitAt a 3
    ch == 0 && a % 16 != 0 && !(bitAt a 2 && s.fld p Ax.DRV_CFG_ANGLE_SRC == 2)
      && !(moves && s.fld p Ax.DRV_CFG_MOTOR_TYPE == 2)
  allow := fun s _ _ _ => if s.pstate p = 1 ∧ s.busState p = 2 then 0 else RC.state
  act := fun s q a _ =>
    (s.modAxis p fun x => { x with idArg := a }).present p { opc := 0x23, code := some q.code, tag := q.tag, cls := 3 }

/-- The results of the identification steps in a mask, as the ID registers show them (R327, R342). -/
def State.showFound (s : State) (p : Nat) (m : Nat) (r : IdFound) : State :=
  let s := if bitAt m 0 then s.setFld p Ax.ID_R_S (saturate 16 r.rs) else s
  let s := if bitAt m 1 then (s.setFld p Ax.ID_L_DQ_L_D (saturate 16 r.ld)).setFld p Ax.ID_L_DQ_L_Q (saturate 16 r.lq) else s
  let s := if bitAt m 2 then (s.setFld p Ax.ID_POLES (saturate 8 r.poles)).setFld p Ax.ID_OFFSET r.offset else s
  let s := if bitAt m 2 && s.fld p Ax.DRV_CFG_ANGLE_SRC == 1 then s.setFld p Ax.ID_HALL r.hall else s
  if bitAt m 3 then s.setFld p Ax.ID_KE (saturate 16 r.ke) else s

/-- Whether a value found lies outside the range of its field (R327, R342). -/
def foundOutside (r : IdFound) (m : Nat) : Bool :=
  let out (v lo hi : Nat) : Bool := decide (v < lo ∨ hi < v)
  bitAt m 0 && out r.rs 10 50000 || bitAt m 1 && (out r.ld 10 50000 || out r.lq 10 50000)
    || bitAt m 2 && out r.poles 1 32 || bitAt m 3 && out r.ke 1 10000

/-- The results written to their configuration fields as writes by the lane or host that issued IDENTIFY (R327). -/
def State.applyFound (s : State) (code p m : Nat) : State :=
  let s := if bitAt m 0 then s.store code p Ax.R_S.off (s.reg p Ax.ID_R_S.off) else s
  let s := if bitAt m 1 then s.store code p Ax.L_DQ_L_D.off (s.reg p Ax.ID_L_DQ_L_D.off) else s
  let s := if bitAt m 2 then
      (s.store code p Ax.POLE_PAIRS.off (s.reg p Ax.ID_POLES.off)).store code p Ax.ANGLE_OFFSET.off (s.reg p Ax.ID_OFFSET.off)
    else s
  let s := if bitAt m 2 && s.fld p Ax.DRV_CFG_ANGLE_SRC == 1 then s.store code p Ax.HALL_TABLE.off (s.reg p Ax.ID_HALL.off) else s
  if bitAt m 3 then s.store code p Ax.KE.off (s.reg p Ax.ID_KE.off) else s

/-- The end of an identification (R327): result 2 on travel, 5 at the time limit of 10 s, 3 without motion, 4 for a value
out of range, 1 when all is done. -/
def State.identifyEnd (s : State) (p : Nat) (r : IdFound) : State :=
  if s.pstate p ≠ 4 then s
  else
    let x := s.axis p
    let asked := x.idArg % 16
    let m := asked &&& r.mask.val
    let far := decide (s.fld p Ax.ID_MAX_TRAVEL < (s.place p - x.idStart).natAbs)
    let res :=
      if far then 2
      else if x.testAt + 10000000000 ≤ s.now then 5
      else if (bitAt m 2 || bitAt m 3) && !r.moved then 3
      else if foundOutside r m then 4
      else if m = asked then 1 else 5
    let s := (s.showFound p m r).setFld p Ax.ID_STATUS_DONE_MASK m
    let s := s.setFld p Ax.ID_STATUS_RESULT res
    let o := s.openOf p 0x23
    let s := match o with
      | some o => if bitAt x.idArg 8 then s.applyFound o.code p m else s
      | none => s
    let s := (s.setCharge p 0 0).setDrive p 1 0
    s.completeAll (fun o => o.page == p && o.opc == 0x23) (if res = 1 then RC.done else RC.aborted)

def execEnableAxis (t : Nat) (q : Req) (s : State) : Host.Outcome State Fault Refusal :=
  .next ((s.start t).axisCommand q (cmdEnable q.page))

/-- PHASE_TEST_DONE (R333): 10 ms after its start the test ends. -/
def execPhaseTestDone (t : Nat) (a : Fin 32) (open_ : Fin 4) (failed : Fin 8) (s : State) : Host.Outcome State Fault Refusal :=
  .next ((s.start t).atAxis a fun s p =>
    if s.pstate p = 2 ∧ (s.axis p).testAt + 10000000 ≤ s.now then s.testEnd p open_.val failed.val else s)

def execDisableAxis (t : Nat) (q : Req) (s : State) : Host.Outcome State Fault Refusal :=
  .next ((s.start t).axisCommand q (cmdDisable q.page))
def execFaultReset (t : Nat) (q : Req) (s : State) : Host.Outcome State Fault Refusal :=
  .next ((s.start t).axisCommand q (cmdFaultReset q.page))
def execIdentify (t : Nat) (q : Req) (s : State) : Host.Outcome State Fault Refusal :=
  .next ((s.start t).axisCommand q (cmdIdentify q.page))

/-- IDENTIFY_DONE (R327). -/
def execIdentifyDone (t : Nat) (a : Fin 32) (r : IdFound) (s : State) : Host.Outcome State Fault Refusal :=
  .next ((s.start t).atAxis a fun s p => s.identifyEnd p r)

/-- OVERCURRENT (R328): a phase current above 35 A opens all switches, whatever DB_MODE. -/
def execOvercurrent (t : Nat) (a : Fin 32) (s : State) : Host.Outcome State Fault Refusal :=
  .next ((s.start t).atAxis a fun s p => if s.switching p then s.removeTorque p 8 1 else s)

/-- Whether a motion is in progress (R312, R332): it has begun and has not ended. -/
def State.motionRuns (s : State) (p : Nat) : Bool :=
  match (s.axis p).mot with
  | some m => m.begun
  | none => false

/-- A current sensor set aside (R328, R331, R332): the axis finishes the motion in progress and begins none, so that a request
that waits and an armed motion end (log entry 128). -/
def State.senseOne (s : State) (p sensor : Nat) : State :=
  let runs := s.motionRuns p
  let s := s.dropWaiting p
  let s := if s.mstate p = 3 then
      let from_ := s.fromState p
      (s.endMotion p 8).setMstate p from_
    else s
  (s.setFld p Ax.DRV_STATUS_SENSE_FAILED sensor).setDrive p (if runs then 5 else 6) 8

/-- SENSE_FAILURE (R331): the candidates that agree within 0.5 A after four failed sums; exactly one is set aside. -/
def execSenseFailure (t : Nat) (a : Fin 32) (agree : Fin 8) (s : State) : Host.Outcome State Fault Refusal :=
  .next ((s.start t).atAxis a fun s p =>
    if s.pstate p ≠ 3 then s
    else
      match lowestBit 3 0 agree.val with
      | some k => if popCount 3 agree.val = 1 then s.senseOne p (k + 1) else s.removeTorque p 8 2
      | none => s.removeTorque p 8 2)

/-- PHASE_OPEN (R330): phase 1 to 3 found open in motion. -/
def execPhaseOpen (t : Nat) (a : Fin 32) (phase : Fin 3) (s : State) : Host.Outcome State Fault Refusal :=
  .next ((s.start t).atAxis a fun s p =>
    if s.pstate p = 3 ∨ s.pstate p = 5 then (s.setFld p Ax.DRV_STATUS_PHASE_OPEN (phase.val + 1)).removeTorque p 7 7 else s)

/-- STAGE_OVERTEMP (R326): the stage temperature in 0.1 °C. -/
def execStageOvertemp (t : Nat) (a : Fin 32) (temp : Int) (s : State) : Host.Outcome State Fault Refusal :=
  .next ((s.start t).atAxis a fun s p =>
    let s := s.setSfld p Ax.STAGE_TEMP (saturateSigned 16 temp)
    if 1250 < temp ∧ s.switching p then s.removeTorque p 8 3 else s)

/-- FOLLOWING_ERROR (R323). -/
def execFollowingError (t : Nat) (a : Fin 32) (s : State) : Host.Outcome State Fault Refusal :=
  .next ((s.start t).atAxis a fun s p =>
    match (s.axis p).feSince with
    | some x =>
      if s.driveEnabled p ∧ !s.flag p Ax.DRV_STATUS_LIMITED ∧ x + s.fld p Ax.FE_TIME_MS * 1000000 ≤ s.now then
        s.removeTorque p 8 4
      else s
    | none => s)

/-- ANGLE_LOST (R328). -/
def execAngleLost (t : Nat) (a : Fin 32) (s : State) : Host.Outcome State Fault Refusal :=
  .next ((s.start t).atAxis a fun s p => if s.driveEnabled p ∧ s.angleLost p then s.removeTorque p 8 10 else s)

/-- A level event of page 0x0E (R348): a flag of either bus; its argument names the bus. -/
def State.busLevel (s : State) (b bit : Nat) (f : Field) : State :=
  s.level 0x0E bit (s.flag 0x0E f 0 || s.flag 0x0E f 1) (b * 2 ^ 8)

/-- The chopper of a bus locked or unlocked (R315). -/
def State.lockChopper (s : State) (b : Nat) (on : Bool) : State :=
  let s := s.setFld 0x0E Ra.BUS_STATUS_CHOPPER_LOCKED (bool01 on) b
  (if on then s.setFld 0x0E Ra.BUS_STATUS_CHOPPER_ON 0 b else s).busLevel b 3 Ra.BUS_STATUS_CHOPPER_LOCKED

/-- BRAKE_CHOPPER (R315): the bus voltage in mV; the switch closes at BR_ON_V and opens at BR_OFF_V, and locks open when the
resistor's model reaches 100 %. -/
def execBrakeChopper (t : Nat) (b : Fin 2) (mv : Nat) (s : State) : Host.Outcome State Fault Refusal :=
  let s := (s.start t).settleHeat b
  let s := s.setBus b { s.bus b with mv := mv }
  let s := if 100 ≤ s.fld 0x0E Ra.BR_LOAD_BR_TEMP_PCT b then s.lockChopper b true else s
  let s :=
    if s.flag 0x0E Ra.BUS_STATUS_CHOPPER_LOCKED b then s
    else if s.fld 0x0E Ra.BRAKE_V_BR_ON_V b * 1000 ≤ mv then s.setFld 0x0E Ra.BUS_STATUS_CHOPPER_ON 1 b
    else if mv ≤ s.fld 0x0E Ra.BRAKE_V_BR_OFF_V b * 1000 then s.setFld 0x0E Ra.BUS_STATUS_CHOPPER_ON 0 b
    else s
  .next s

/-- CHOPPER_OVERCURRENT (R630): the chopper opens and locks until its bus next enters OFF. -/
def execChopperOvercurrent (t : Nat) (b : Fin 2) (s : State) : Host.Outcome State Fault Refusal :=
  let s := (s.start t).settleHeat b
  .next ((s.setBus b { s.bus b with hardLock := true }).lockChopper b true)

/-- CHOPPER_MODEL_COOLED (R315): the model at 50 % or below unlocks a chopper that the model locked. -/
def execChopperModelCooled (t : Nat) (b : Fin 2) (s : State) : Host.Outcome State Fault Refusal :=
  let s := (s.start t).settleHeat b
  .next (if s.resistorCooled b ∧ !(s.bus b).hardLock then s.lockChopper b false else s)

/-- DRIVE_LIMIT brought to its condition (R345). -/
def State.driveLimit (s : State) (p : Nat) : State :=
  s.level p 6 (s.flag p Ax.DRV_STATUS_FOLDBACK || s.flag p Ax.DRV_STATUS_TEMP_DERATE || s.flag p Ax.DRV_STATUS_REGEN_LIMITED)

/-- REGEN_LIMITED (R316): at BR_ON_V + 4 V every axis that returns power is limited, until the voltage, in mV, is
below BR_ON_V + 2 V. -/
def execRegenLimited (t : Nat) (b : Fin 2) (mv : Nat) (s : State) : Host.Outcome State Fault Refusal :=
  let s := (s.start t).settleHeat b
  let s := s.setBus b { s.bus b with mv := mv }
  let on := s.fld 0x0E Ra.BRAKE_V_BR_ON_V b * 1000
  let axes (s : State) (f : Nat → Bool) : State := s.each (busPages b) fun s p =>
    (s.setFld p Ax.DRV_STATUS_REGEN_LIMITED (bool01 (f p))).driveLimit p
  let s :=
    if on + 4000 ≤ mv then axes s fun p => s.flag p Ax.DRV_STATUS_REGEN_LIMITED || decide (s.sfld p Ax.I_W_DC_I_DC < 0)
    else if mv < on + 2000 then axes s fun _ => false
    else s
  let any := (busPages b).any fun p => s.flag p Ax.DRV_STATUS_REGEN_LIMITED
  .next ((s.setFld 0x0E Ra.BUS_STATUS_REGEN_LIMITED (bool01 any) b).busLevel b 2 Ra.BUS_STATUS_REGEN_LIMITED)

/-- RATION_CONFIG_WRITE (R340): register 0 CAP_W, 1 RESERVE, 2 to 4 CLASS_CFG of class 1 to 3; the queue is re-examined. -/
def execRationConfigWrite (t code gen : Nat) (b : Fin 2) (reg : Fin 5) (value : Word) (s : State) : Host.Outcome State Fault Refusal :=
  .next ((s.start t).write ⟨code, gen, 0x0E, 0x400 + 0x80 * b.val + 4 * reg.val, value⟩ fun s => s.settle b)

/-- BUS_OVERLOAD (R341, R346): the supply input power in W and current in 0.1 A; power above CAP_W for 100 ms. -/
def execBusOverload (t : Nat) (b : Fin 2) (watts amps : Int) (s : State) : Host.Outcome State Fault Refusal :=
  let s := s.start t
  let s := (s.setSfld 0x0E Ra.BUS_P_P_IN_W (saturateSigned 16 watts) b).setSfld 0x0E Ra.BUS_P_I_IN_DA (saturateSigned 16 amps) b
  let s := s.setFld 0x0E Ra.PEAK_P_W (max (s.fld 0x0E Ra.PEAK_P_W b) (saturate 16 watts.toNat)) b
  let beyond := decide ((s.fld 0x0E Ra.CAP_W b : Int) < watts)
  let since := if beyond then some ((s.bus b).overSince.getD s.now) else none
  let s := s.setBus b { s.bus b with overSince := since }
  let long (k : Nat) : Bool :=
    match (s.bus k).overSince with
    | some x => decide (x + 100000000 ≤ s.now)
    | none => false
  .next (s.level 0x0E 4 (long 0 || long 1) (b.val * 2 ^ 8))

end Sys2Proof.Machine
end

