-- ==== Sys2Proof/Machine/Flags.lean ====
section
/-! DEFINITION. The flags of the integer instructions (R202, R215, R216): Z zero or equal, N negative or less, C carry
or greater, V overflow or unordered. -/

namespace Sys2Proof.Machine

/-- Z and N from a result. -/
def TaskRec.setZN (k : TaskRec) (r : Word) : TaskRec := { k with z := r == 0, n := r.msb }

/-- The flags of an addition: C is the carry out, V the signed overflow. -/
def TaskRec.flagsAdd (k : TaskRec) (a b : Word) : TaskRec :=
  let r := a + b
  { k.setZN r with c := decide (2 ^ 32 ≤ a.toNat + b.toNat), v := decide (r.toInt ≠ a.toInt + b.toInt) }

/-- The flags of a subtraction: C is 1 when no borrow occurred (R215), V the signed overflow. -/
def TaskRec.flagsSub (k : TaskRec) (a b : Word) : TaskRec :=
  let r := a - b
  { k.setZN r with c := decide (b.toNat ≤ a.toNat), v := decide (r.toInt ≠ a.toInt - b.toInt) }

/-- The flags of a shift by `n`: Z and N from the result; C the last bit shifted out, unchanged for 0 (R216). -/
def TaskRec.flagsShift (k : TaskRec) (r : Word) (n : Nat) (lastOut : Bool) : TaskRec :=
  let k' := k.setZN r
  if n = 0 then k' else { k' with c := lastOut }

/-- The conditions of Bcc (R215); condition 0xF is illegal. -/
def TaskRec.cond (k : TaskRec) (code : Nat) : Option Bool :=
  match code with
  | 0x0 => some k.z
  | 0x1 => some (!k.z)
  | 0x2 => some (k.n != k.v)
  | 0x3 => some (k.n == k.v)
  | 0x4 => some (k.z || k.n != k.v)
  | 0x5 => some (!k.z && k.n == k.v)
  | 0x6 => some (!k.c)
  | 0x7 => some k.c
  | 0x8 => some k.n
  | 0x9 => some (!k.n)
  | 0xA => some k.v
  | 0xB => some (!k.v)
  | 0xC => some k.acc
  | 0xD => some (!k.acc)
  | 0xE => some true
  | _ => none

end Sys2Proof.Machine
end

