-- ==== Sys2Proof/Machine/Operands.lean ====
section
/-! DEFINITION. The operand forms of the CLE (R205, R208, R210-R212, R221): instruction fields, registers, the data
address space, bit operands and instances. -/

namespace Sys2Proof.Machine

/-- The first 32 bits of an image's digest (R3, R198), whose byte 0 is the least significant of the number. -/
def ProgImage.ref (i : ProgImage) : Word := BitVec.ofNat 32 i.digest

/-- The low 24 bits of an instruction word (R211). -/
abbrev Fields := BitVec 24

/-- The fields of the formats of R211. -/
def fD (f : Fields) : Nat := f.toNat / 2 ^ 20
def fA (f : Fields) : Nat := f.toNat / 2 ^ 16 % 16
def fB (f : Fields) : Nat := f.toNat / 2 ^ 12 % 16
def fC (f : Fields) : Nat := f.toNat / 2 ^ 8 % 16
def fImm (f : Fields) : Nat := f.toNat % 2 ^ 16
def fP (f : Fields) : Bool := bitAt f.toNat 0
/-- The sign-extended 16-bit immediate or offset. -/
def fSimm (f : Fields) : Word := BitVec.ofInt 32 (signedOf 16 (fImm f))

/-- General register `i` (R202). -/
def TaskRec.G (k : TaskRec) (i : Nat) : Word := k.g.rd 0 i
/-- The task with general register `i` set. -/
def TaskRec.setG (k : TaskRec) (i : Nat) (w : Word) : TaskRec := { k with g := k.g.wr 0 i w }
/-- NCP register `i`. -/
def TaskRec.X (k : TaskRec) (i : Nat) : DWord := k.x.rd 0 i
/-- The task with NCP register `i` set. -/
def TaskRec.setX (k : TaskRec) (i : Nat) (v : DWord) : TaskRec := { k with x := k.x.wr 0 i v }

/-- What an instruction does: the engine and the task after it, or the cause of a program fault (R232). -/
inductive Eff where
  | ok (c : CleRec) (k : TaskRec)
  | fault (cause : Nat)

/-- The causes of R196 and R232. -/
def Cause.overrun : Nat := 1
def Cause.stall : Nat := 2
def Cause.illegal : Nat := 3
def Cause.address : Nat := 4
def Cause.memory : Nat := 5

/-- Whether the bytes from `a` lie within a region. -/
def Region.holds (r : Region) (a n : Nat) : Bool := decide (r.base ≤ a ∧ a + n ≤ r.base + r.size)

/-- The byte of a sparse memory; an unlisted byte is 0 (R539). -/
def memByte (m : List Host.Cell) (a : Nat) : Byte := Sparse.get (fun _ => 0) m a

/-- The memory with one byte written. -/
def memPut (m : List Host.Cell) (a : Nat) (b : Byte) : List Host.Cell := Sparse.set (fun _ => 0) m a b

/-- The number spelled by `n` bytes from `a`, least significant first. -/
def memRead (m : List Host.Cell) (a : Nat) : Nat → Nat
  | 0 => 0
  | n + 1 => (memByte m a).toNat + 256 * memRead m (a + 1) n

/-- The memory with `n` bytes from `a` replaced by a number's, least significant first. -/
def memWrite (m : List Host.Cell) (a v : Nat) : Nat → List Host.Cell
  | 0 => m
  | n + 1 => memWrite (memPut m a (BitVec.ofNat 8 v)) (a + 1) (v / 256) n

/-- The canonical form of a memory. -/
abbrev Memory.wf (m : List Host.Cell) : Bool := Sparse.wf (fun _ => (0 : Byte)) m

/-- The image of an engine, the empty one while none is loaded. -/
def CleRec.img (c : CleRec) : ProgImage := c.image.getD {}

/-- The bases of the address spaces of R205. -/
def dataSize : Nat := 0x800000
def constBase : Nat := 0x10000000
def windowBase : Nat := 0x20000000
def windowSize : Nat := 0x80000

/-- Whether a data address lies in the register window. -/
def inWindow (a : Nat) : Bool := decide (windowBase ≤ a ∧ a < windowBase + windowSize)

/-- The value a load of a window word returns (R208): the input image for a word in the input map, else the value
last staged for one in the output map; none for a word in neither map. -/
def CleRec.windowWord (c : CleRec) (a : Nat) : Option Word :=
  let w := a - windowBase
  if c.img.inMap.contains w then some (c.inputs.rd {} w).value
  else if c.img.outMap.contains w then some (c.outVals.rd 0 w)
  else none

/-- `n` bytes (1, 2, 4 or 8) at a data address (R205): none is an ADDRESS fault. -/
def CleRec.load (c : CleRec) (a n : Nat) : Option Nat :=
  if a % n ≠ 0 then none
  else if a < dataSize then
    if c.img.data.holds a n || c.img.retain.holds a n then some (memRead c.data a n) else none
  else if constBase ≤ a ∧ a < constBase + 0x400000 then
    if c.img.const.holds (a - constBase) n then some (memRead c.img.program (a - constBase) n) else none
  else if inWindow a then
    match c.windowWord (a / 4 * 4) with
    | none => none
    | some lo =>
      if n = 8 then
        match (if inWindow (a + 4) then c.windowWord (a + 4) else none) with
        | some hi => some (lo.toNat + 2 ^ 32 * hi.toNat)
        | none => none
      else some (lo.toNat / 256 ^ (a % 4) % 256 ^ n)
  else none

/-- Whole words written at `n` bytes of a data address have fresh check bits (R529). -/
def CleRec.wrote (c : CleRec) (a n : Nat) : CleRec := { c with upset := c.upset.filter fun u => !decide (a ≤ u.1 ∧ u.1 + 4 ≤ a + n) }

/-- A word staged for the register window (R168, R208). -/
def CleRec.stage (c : CleRec) (w : Nat) (v : Word) : CleRec :=
  { c with staged := c.staged ++ [⟨w, v, 0⟩], outVals := c.outVals.wr 0 w v }

/-- A number stored at `n` bytes of a data address (R205, R208): none is an ADDRESS fault. A halfword or byte store
to the window merges into the word as a load would return it. -/
def CleRec.store (c : CleRec) (a v n : Nat) : Option CleRec :=
  if a % n ≠ 0 then none
  else if a < dataSize then
    if c.img.data.holds a n || c.img.retain.holds a n then some ({ c with data := memWrite c.data a v n }.wrote a n) else none
  else if inWindow a then
    let w := a / 4 * 4 - windowBase
    if !c.img.outMap.contains w then none
    else if n = 8 then
      if c.img.outMap.contains (w + 4) then some ((c.stage w (lowWord v)).stage (w + 4) (highWord v)) else none
    else
      let old := ((c.windowWord (a / 4 * 4)).getD 0).toNat
      let sh := 256 ^ (a % 4)
      let merged := old - old / sh % 256 ^ n * sh + v % 256 ^ n * sh
      some (c.stage w (BitVec.ofNat 32 merged))
  else none

/-- The address of format M: G[a] plus the signed offset. -/
def addrM (k : TaskRec) (f : Fields) : Nat := (k.G (fA f) + fSimm f).toNat
/-- The address of format MI: INST plus the unsigned offset. -/
def addrMI (k : TaskRec) (f : Fields) : Nat := (k.inst + BitVec.ofNat 32 (fImm f)).toNat

/-- A BIT operand (R212): the word address and the bit; SEL 3 is illegal. -/
def bitOperand (k : TaskRec) (f : Fields) : Option (Nat × Nat) :=
  let off := 4 * (f.toNat % 2 ^ 17)
  let bit := f.toNat / 2 ^ 17 % 32
  match f.toNat / 2 ^ 22 with
  | 0 => some ((k.inst + BitVec.ofNat 32 off).toNat, bit)
  | 1 => some (off, bit)
  | 2 => some (windowBase + off, bit)
  | _ => none

/-- An FB operand (R212): the address of the instance, or the cause of the fault. SEL 2 needs a general register and
is illegal in bit-logic mode (R216, R218). -/
def fbOperand (k : TaskRec) (bitMode : Bool) (f : Fields) : Except Nat Nat :=
  let off := f.toNat % 2 ^ 17
  let a := f.toNat / 2 ^ 18 % 16
  if bitAt f.toNat 17 then .error Cause.illegal
  else
    match f.toNat / 2 ^ 22 with
    | 0 => if a = 0 then .ok (k.inst + BitVec.ofNat 32 (4 * off)).toNat else .error Cause.illegal
    | 1 => if a = 0 then .ok (4 * off) else .error Cause.illegal
    | 2 => if bitMode ∨ off ≠ 0 then .error Cause.illegal else .ok (k.G a).toNat
    | _ => .error Cause.illegal

/-- The instance of an intrinsic (R221): aligned to 8 bytes, wholly in DATA or wholly in RETAIN (cause 4 otherwise),
of the intrinsic's type (cause 3 otherwise). -/
def CleRec.instance? (c : CleRec) (k : TaskRec) (bitMode : Bool) (f : Fields) (code size : Nat) : Except Nat Nat :=
  match fbOperand k bitMode f with
  | .error e => .error e
  | .ok a =>
    if a % 8 ≠ 0 ∨ !(c.img.data.holds a size || c.img.retain.holds a size) then .error Cause.address
    else if memRead c.data (a + 8) 2 ≠ code then .error Cause.illegal
    else .ok a

/-- A lane's engine. -/
def State.cle (s : State) (l : Lane) : CleRec := s.cles.of l

/-- The state with a lane's engine replaced. -/
def State.setCle (s : State) (l : Lane) (c : CleRec) : State := { s with cles := s.cles.set l c }

end Sys2Proof.Machine
end

