-- ==== Sys2Proof/Machine/Memory.lean ====
section
/-! DEFINITION. The memory system of a lane (R524-R545): errors, collisions, retention, the background test, the
secure region. -/

namespace Sys2Proof.Machine

/-- The memory page of a lane (R40). -/
def memPage : Lane → Nat
  | .a => 0x64
  | .b => 0x65

/-- A lane's memory record. -/
def State.mem (s : State) (l : Lane) : MemRec := s.mems.of l

/-- The state with a lane's memory record replaced. -/
def State.setMem (s : State) (l : Lane) (m : MemRec) : State := s.putMem l m

/-- The SRAM byte address of a CLE data address (R524): data memory in segments 4-11, program memory in 0-3. -/
def sramAddr (a : Nat) : Nat := if a < 0x800000 then 0x400000 + a else a % 0x400000

/-- A single-bit error met by a read (R529): corrected, counted, and reported at most once per second with the
corrections since the last report (log entry 10). -/
def State.eccCorrected (s : State) (l : Lane) : State :=
  let s := s.bump (memPage l) Mm.ECC_CORR
  let m := s.mem l
  let n := m.eccCount + 1
  let due := match m.eccAt with
    | some t => decide (t + 1000000000 ≤ s.now)
    | none => true
  if due then (s.setMem l { m with eccAt := some s.now, eccCount := 0 }).raise (memPage l) 0 n
  else s.setMem l { m with eccCount := n }

/-- A double-bit error met by a read of a port at an SRAM address (R529). -/
def State.eccUncorrected (s : State) (l : Lane) (port addr : Nat) : State :=
  let p := memPage l
  let s := s.bump p Mm.ECC_UNCORR
  let w := 2 ^ 31 + port % 4 * 2 ^ 28 + addr % 2 ^ 24
  (s.setReg p Mm.ECC_LAST_UNCORR.off (BitVec.ofNat 32 w)).raise p 1 w

/-- A write of a port discarded because a lower-numbered port wrote the same word in the same clock (R527). -/
def State.collision (s : State) (l : Lane) (winner loser addr : Nat) : State :=
  let p := memPage l
  let s := s.bump p Mm.COLLIDE_COUNT
  let w := loser % 4 * 2 ^ 30 + winner % 4 * 2 ^ 28 + addr % 2 ^ 24
  (s.setReg p Mm.COLLIDE_LAST_LOSER.off (BitVec.ofNat 32 w)).raise p 2 w

/-- The counts of clocks lost brought to a second (R540). -/
def MemRec.rolled (m : MemRec) (second : Nat) : MemRec :=
  if second = m.second then m
  else { m with second := second, before := if second = m.second + 1 then m.lost else (0, 0), lost := (0, 0) }

/-- CONFLICTS (R540): the clocks that each processor port lost in the last second. -/
def State.conflicts (s : State) (l : Lane) : Nat :=
  let m := (s.mem l).rolled (s.now / 1000000000)
  saturate 16 m.before.2 * 2 ^ 16 + saturate 16 m.before.1

/-- The port that takes a bank in a clock (R526): a processor before DMA, of two processors the one that lost that bank's previous
conflict, with port 0 after reset, and port 2 before port 3. -/
def MemRec.takes (m : MemRec) (x : BankClock) : Nat :=
  if x.p0 && x.p1 then (if m.lost1.contains x.bank.val then 1 else 0) else x.ports.headD 0

/-- A clock of a bank for which ports compete (R526): the loser of two processors is remembered and counted, and a DMA port that
does not get the bank waits. -/
def State.bankClash (s : State) (l : Lane) (x : BankClock) : State :=
  let p := memPage l
  let m := (s.mem l).rolled (s.now / 1000000000)
  let win := m.takes x
  let b := x.bank.val
  let rest := m.lost1.filter (· != b)
  let m := if x.p0 && x.p1 then
      { m with lost1 := if win = 0 then rest ++ [b] else rest
               lost := if win = 0 then (m.lost.1, m.lost.2 + 1) else (m.lost.1 + 1, m.lost.2) }
    else m
  let w2 := if !x.p2 then m.wait2 else if win = 2 then 0 else m.wait2 + 1
  let w3 := if !x.p3 then m.wait3 else if win = 3 then 0 else m.wait3 + 1
  let s := s.setMem l { m with wait2 := w2, wait3 := w3 }
  let s := s.setFld p Mm.DMA_WAIT_MAX_P2 (max (s.fld p Mm.DMA_WAIT_MAX_P2) (saturate 16 w2))
  s.setFld p Mm.DMA_WAIT_MAX_P3 (max (s.fld p Mm.DMA_WAIT_MAX_P3) (saturate 16 w3))

/-- An error of the snapshot buffers that a read of the MRAM meets (R532): single-bit errors are corrected and counted; a double-bit
error is reported, with port 1, and makes its snapshot fail. -/
def State.readMram (s : State) (l : Lane) : State :=
  let p := memPage l
  let one (s : State) (b : SnapBuf) : State := b.flips.foldl (fun s x =>
    if x.2 then
      let s := s.bump p Mm.ECC_UNCORR
      let w := 2 ^ 31 + 2 ^ 30 + 2 ^ 28 + x.1 % 2 ^ 24
      (s.setReg p Mm.ECC_LAST_UNCORR.off (BitVec.ofNat 32 w)).raise p 1 w
    else s.bump p Mm.MRAM_ECC_CORR) s
  let left (b : SnapBuf) : SnapBuf := { b with flips := b.flips.filter (·.2) }
  let c := s.cle l
  let s := one (one s c.snap0) c.snap1
  s.setCle l { s.cle l with snap0 := left c.snap0, snap1 := left c.snap1 }

/-- Errors that have come about in the MRAM of a lane (R532). -/
def CleRec.upsetMram (c : CleRec) (x : MramUpset) : CleRec :=
  let add (b : SnapBuf) : SnapBuf := { b with flips := (b.flips.filter fun y => y.1 != x.addr) ++ [(x.addr, x.double)] }
  if x.buf.val = 0 then { c with snap0 := add c.snap0 } else { c with snap1 := add c.snap1 }

/-- Whether an SRAM byte address lies in a region of an image (R206, R524). -/
def ProgImage.usesSram (i : ProgImage) (a : Nat) : Bool :=
  if a < 0x400000 then i.code.holds a 1 || i.const.holds a 1
  else i.data.holds (a - 0x400000) 1 || i.retain.holds (a - 0x400000) 1

/-- Whether a segment of 1 MB holds a byte of a region of an image. -/
def ProgImage.usesSegment (i : ProgImage) (seg : Nat) : Bool :=
  let meets (r : Region) (base : Nat) : Bool :=
    r.size != 0 && decide (base + r.base < (seg + 1) * 0x100000 ∧ seg * 0x100000 < base + r.base + r.size)
  meets i.code 0 || meets i.const 0 || meets i.data 0x400000 || meets i.retain 0x400000

/-- SEG_USE (R531): segments 12 to 15, and those of the image in force and of an image loaded for an online change. -/
def State.segUse (s : State) (l : Lane) : Nat :=
  let uses (i : Option ProgImage) (k : Nat) : Bool := match i with
    | some i => i.usesSegment k
    | none => false
  let loaded := (s.oc.pkg.of l).bind (·.program)
  ((List.range 16).map fun k => if 12 ≤ k ∨ uses (s.cle l).image k ∨ uses loaded k then 2 ^ k else 0).sum

/-- A segment woken in `us` µs (R530). -/
def State.wakeSegment (s : State) (l : Lane) (seg us : Nat) : State :=
  let p := memPage l
  let ret := s.fld p Mm.SEG_RET
  if bitAt ret seg then
    ((s.setFld p Mm.SEG_RET (setBit ret seg false)).bump p Mm.WAKE_COUNT).setFld p Mm.WAKE_MAX_US (max (s.fld p Mm.WAKE_MAX_US) us)
  else s

/-- Every segment that is in use woken before it is written (R531); how long each wake takes, at most 40 µs, is open. -/
def State.wakeUsed (s : State) (l : Lane) : State :=
  let seg := s.segUse l &&& s.fld (memPage l) Mm.SEG_RET
  s.each ((List.range 16).filter fun k => bitAt seg k) fun s k =>
    let (w, s) := s.free
    s.wakeSegment l k (w.toNat % 41)

/-- SEGMENT_WAKE (R530): a retained segment wakes in `us` µs, at most 40. -/
def execSegmentWake (t : Nat) (l : Lane) (seg : Fin 16) (us : Fin 41) (s : State) : Host.Outcome State Fault Refusal :=
  .next ((s.start t).wakeSegment l seg.val us.val)

/-- SEGMENT_RETENTION (R531): a segment that no port has accessed for `idleMs`. -/
def execSegmentRetention (t : Nat) (l : Lane) (seg : Fin 16) (idleMs : Nat) (s : State) : Host.Outcome State Fault Refusal :=
  let s := s.start t
  let p := memPage l
  .next (if s.flag p Mm.RET_CFG_ENA ∧ !bitAt (s.segUse l) seg ∧ s.fld p Mm.RET_CFG_RET_IDLE_MS ≤ idleMs then
      s.setFld p Mm.SEG_RET (setBit (s.fld p Mm.SEG_RET) seg true)
    else s)

/-- COUNTERS_CLEAR of a memory page (R542). -/
def cmdMemClear : Cmd where
  opc := 0x01
  kinds := (· == .memory)
  act := fun s q _ _ =>
    let s := [Mm.CONFLICTS_P0.off, Mm.DMA_WAIT_MAX_P2.off, Mm.COLLIDE_COUNT.off, Mm.ECC_CORR.off, Mm.ECC_UNCORR.off, Mm.MRAM_ECC_CORR.off,
      Mm.WAKE_COUNT.off, Mm.WAKE_MAX_US.off, Mm.BT_YIELDS.off, Mm.BT_DEFECTS_CORR.off].foldl (fun s off => s.setReg q.page off 0) s
    let l := if q.page = 0x65 then Lane.b else Lane.a
    (s.setMem l { s.mem l with lost := (0, 0), before := (0, 0) }, RC.done)

def execMemCountersClear (t : Nat) (q : Req) (s : State) : Host.Outcome State Fault Refusal :=
  .next ((s.start t).command q cmdMemClear)

/-- The lane of a memory page. -/
def memLane (p : Nat) : Lane := if p = 0x65 then .b else .a

/-- BT_RESTART (R542). -/
def cmdBtRestart : Cmd where
  opc := 0x02
  kinds := (· == .memory)
  allow := fun s q _ _ => if s.flag q.page Mm.BT_CFG_ENA then 0 else RC.state
  act := fun s q _ _ =>
    let l := memLane q.page
    ((s.setFld q.page Mm.BT_POS 0).setMem l { s.mem l with passAt := s.now, skipped := 0 }, RC.done)

def execBtRestart (t : Nat) (q : Req) (s : State) : Host.Outcome State Fault Refusal :=
  .next ((s.start t).command q cmdBtRestart)

/-- The field of SEC_STATUS of a lane, and its place in pairs of bits. -/
def secField : Lane → Field
  | .a => Sr.SEC_STATUS_A
  | .b => Sr.SEC_STATUS_B

/-- SEC_NOT_LOADED (R545): a lane in ALIGNED or ALONE has a region that is not LOADED. -/
def State.showSecLoaded (s : State) : State :=
  let bad (l : Lane) : Bool := (s.laneState l == 3 || s.laneState l == 4) && s.fld 0x66 (secField l) != 1
  s.level 0x66 1 (bad .a || bad .b) (bool01 (bad .a) + 2 * bool01 (bad .b))

/-- Secure regions wiped with a cause (R534, R535): they enter `state`; how long it takes, at most 50 µs, is open. -/
def State.wipe (s : State) (a b : Bool) (cause state : Nat) : State :=
  let one (s : State) (on : Bool) (st us used : Field) : State :=
    if on then
      let (w, s) := s.free
      let s := s.setFld (if st = Sr.SEC_STATUS_A then 0x68 else 0x69) Vt.VAT_STATUS_SEALING 0
      ((s.setFld 0x66 st state).setFld 0x66 us (w.toNat % 51)).setFld 0x66 used 0
    else s
  let s := one (one s a Sr.SEC_STATUS_A Sr.WIPE_US_A Sr.SEC_USED_KB_A) b Sr.SEC_STATUS_B Sr.WIPE_US_B Sr.SEC_USED_KB_B
  if !a && !b then s
  else
    let s := (s.bump 0x66 Sr.WIPE_COUNT).setFld64 0x66 Sr.WIPE_TIME_LO s.time
    let w := cause * 2 ^ 8 + 2 * bool01 b + bool01 a
    ((s.setReg 0x66 Sr.LAST_WIPE_A.off (BitVec.ofNat 32 w)).raise 0x66 0 w).showSecLoaded

/-- Whether a lane's region is powered (R535). -/
def State.secPowered (s : State) (l : Lane) : Bool := s.fld 0x66 (secField l) != 3

/-- SECURE_WIPE (R534, R545): an unpowered region holds nothing. -/
def cmdSecureWipe : Cmd where
  opc := 0x01
  kinds := (· == .secure)
  who := .admin
  range := fun _ ch _ _ => decide (ch ≤ 2)
  act := fun s q _ _ => (s.wipe (q.chan != 2 && s.secPowered .a) (q.chan != 1 && s.secPowered .b) 3 2, RC.done)

def execSecureWipe (t : Nat) (q : Req) (s : State) : Host.Outcome State Fault Refusal :=
  .next ((s.start t).command q cmdSecureWipe)

end Sys2Proof.Machine
end

