-- ==== Sys2Proof/Machine/Vat.lean ====
section
/-! DEFINITION. The Vat of a lane (R546-R571): states, curd records and their mirroring, capture samples, write units,
mounting and wear. -/

namespace Sys2Proof.Machine

/-- VAT_STATUS.STATE of a lane (R567), and its change with VAT_STATE (R571). -/
def State.vatState (s : State) (l : Lane) : Nat := s.fld (vatPage l) Vt.VAT_STATUS_STATE
def State.setVatState (s : State) (l : Lane) (n : Nat) : State :=
  let p := vatPage l
  let old := s.vatState l
  if old = n then s
  else ((s.setFld p Vt.VAT_STATUS_STATE n).setPstate p n).raise p 0 (old * 2 ^ 8 + n)

/-- MIRROR_LAG of a lane brought up to date (R553): the records it has originated that the other lane has not confirmed. -/
def State.showLag (s : State) (l : Lane) : State :=
  let p := vatPage l
  let v := s.vat l
  let lag := v.curdSeq - v.report
  let s := s.setFld p Vt.MIRROR_LAG (saturate 24 lag)
  if lag = 0 then (s.setVat l { v with lagSince := none }).level p 3 false
  else s.setVat l { v with lagSince := some (v.lagSince.getD s.now) }

/-- A record kept for partition 0 (R546); a Vat that writes nothing more keeps at most 4096 unconfirmed records of its
own and loses the oldest (R553). -/
def State.storeCurd (s : State) (l : Lane) (r : VatCurd) : State :=
  let v := s.vat l
  if s.vatTakes l then
    let v := v.hand 0 2048
    (s.setVat l { v with curds := v.curds ++ [{ r with pos := (v.part 0).handed }] }).showCurdFill l
  else if r.origin ≠ l.num then s
  else if v.backlog.length < 4096 then s.setVat l { v with backlog := v.backlog ++ [r] }
  else (s.setVat l { v with backlog := v.backlog.drop 1 ++ [r] }).bump (vatPage l) Vt.MIRROR_LOST

/-- The capture that a curd record names takes the record's number (R555). -/
def State.linkCapture (s : State) (c : Curd) (seq : Nat) : State :=
  match c.captureSeq with
  | none => s
  | some k =>
    let l := laneNum c.captureLane
    let v := s.vat l
    let f (x : Capture) : Capture := if x.seq = k then { x with curdSeq := some seq } else x
    s.setVat l { v with captures := v.captures.map f, stored := v.stored.map f }

/-- A lane originates a curd record (R551, R553): the next ORIGIN_SEQ, its own partition 0, and the mirror. -/
def State.originate (s : State) (l : Lane) (c : Curd) : State :=
  let v := s.vat l
  let seq := v.curdSeq
  let c := { c with flags := setBit c.flags 11 (bitAt c.flags 11 || c.owner != l.num) }
  let s := s.setVat l { v with curdSeq := seq + 1 }
  let s := s.setFld (vatPage l) Vt.CURD_SEQ ((seq + 1) % 2 ^ 32)
  let s := s.linkCapture c seq
  ((s.storeCurd l ⟨l.num, seq, s.bootCount, 0, c⟩).send .vatRecord [l.num, 0, seq]).showLag l

/-- CURD_RECORD (R550): an axis stage hands its oldest finished record to the lane that owns the axis, while that lane's
heartbeat is present. -/
def execCurdRecord (t : Nat) (axis : Fin 32) (s : State) : Host.Outcome State Fault Refusal :=
  let s := s.start t
  let p := 0x10 + axis.val
  let l := laneNum (s.owner p)
  .next <|
    match (s.axis p).curds with
    | [] => s
    | c :: rest =>
      if !(s.beat p l).present then s
      else (s.modAxis p fun x => { x with curds := rest }).originate l c

/-- The oldest record of a lane's own that it has not sent since the number `n` (R553). -/
def VatRec.nextMirror (v : VatRec) (l : Lane) (n : Nat) : Option VatCurd :=
  (v.curds ++ v.backlog).foldl (fun best r =>
    if r.origin = l.num ∧ n ≤ r.seq then
      match best with
      | some b => if r.seq < b.seq then some r else some b
      | none => some r
    else best) none

/-- The first number of the other lane's records that a lane lacks, once `n` has come (R553). -/
def advanceGot : Nat → Nat → List Nat → Nat × List Nat
  | 0, n, above => (n, above)
  | k + 1, n, above => if above.contains n then advanceGot k (n + 1) (above.filter (· != n)) else (n, above)

/-- A record received in a MIRROR frame (R553): written unless it is already held. -/
def State.receiveMirror (s : State) (l : Lane) (r : VatCurd) : State :=
  let p := vatPage l
  let s := s.bump p Vt.MIRROR_RX
  let v := s.vat l
  if r.seq < v.gotNext ∨ v.gotAbove.contains r.seq then s.bump p Vt.MIRROR_DUPS
  else
    let s := s.storeCurd l r
    let v := s.vat l
    let (n, above) := advanceGot (v.gotAbove.length + 1) v.gotNext (r.seq :: v.gotAbove)
    s.setVat l { v with gotNext := n, gotAbove := above }

/-- The report of a MIRROR frame (R553): the origin's records up to it are confirmed. -/
def State.mirrorReport (s : State) (l : Lane) (n : Nat) : State :=
  let v := s.vat l
  if v.report < n then
    let v := { v with report := n, reportAt := s.now, backlog := v.backlog.filter fun r => n ≤ r.seq }
    (s.setVat l v).showLag l
  else s

/-- The lane sends again from its first unconfirmed record (R553). -/
def State.mirrorAgain (s : State) (l : Lane) : State :=
  let v := s.vat l
  s.setVat l { v with sendNext := v.report, reportAt := s.now }

/-- MIRROR_RESEND (R553): a report that has not advanced for 1 s while MIRROR_LAG is above 0. -/
def execMirrorResend (t : Nat) (l : Lane) (s : State) : Host.Outcome State Fault Refusal :=
  let s := s.start t
  let v := s.vat l
  .next <|
    match v.lagSince with
    | some since => if max v.reportAt since + 1000000000 ≤ s.now then s.mirrorAgain l else s
    | none => s

/-- MIRROR_BEHIND_TIMEOUT (R571): MIRROR_LAG above 0 for 10 s. -/
def execMirrorBehindTimeout (t : Nat) (l : Lane) (s : State) : Host.Outcome State Fault Refusal :=
  let s := s.start t
  .next <|
    match (s.vat l).lagSince with
    | some since => if since + 10000000000 ≤ s.now then s.level (vatPage l) 3 true else s
    | none => s

/-- A running capture ends because the buffer has reached DROP_PCT (R557). -/
def State.dropCapture (s : State) (l : Lane) (axis : Nat) : State :=
  let p := vatPage l
  let s := (s.captureEnd l axis 4).bump p Vt.DROPPED
  (s.raise p 2 axis).modAxis (0x10 + axis) fun x => { x with curd := x.curd.map fun c => { c with flags := setBit c.flags 5 true } }

/-- A running capture begins to keep every second sample (R557). -/
def State.halveCapture (s : State) (l : Lane) (c : Capture) : State :=
  let p := vatPage l
  let s := s.modCapture l c.axis fun c =>
    { c with halving := true, skip := false, decimated := true, steps := (c.steps ++ [(c.samples.length, 2)]).take 64 }
  let s := if c.decimated then s else (s.bump p Vt.DECIMATED).raise p 1 c.axis
  s.modAxis (0x10 + c.axis) fun x => { x with curd := x.curd.map fun k => { k with flags := setBit k.flags 4 true } }

/-- The capture buffer acts on its fill (R557). -/
def State.fillActions (s : State) (l : Lane) : State :=
  let p := vatPage l
  let s := s.showFill l
  let v := s.vat l
  let pct := v.waiting 4 * 100 / captureBuffer
  let decim := s.fld p Vt.VAT_CFG_DECIM_PCT
  if s.fld p Vt.VAT_CFG_DROP_PCT ≤ pct then
    let s := v.captures.foldl (fun s c => s.dropCapture l c.axis) s
    s.setVat l { s.vat l with shut := true }
  else if decim ≤ pct then (v.captures.filter fun c => !c.halving).foldl (fun s c => s.halveCapture l c) s
  else
    let s := s.setVat l { v with shut := false }
    if pct + 10 < decim then
      (v.captures.filter fun c => c.halving).foldl (fun s c => s.modCapture l c.axis fun c =>
        { c with halving := false, skip := false, steps := (c.steps ++ [(c.samples.length, 1)]).take 64 }) s
    else s

/-- One sample streamed into a running capture (R554, R555, R557). -/
def State.captureTake (s : State) (l : Lane) (c : Capture) (sig : List Int) : State :=
  if 10 * c.rate ≤ c.taken then s
  else
    let store := !c.halving || !c.skip
    let s := s.modCapture l c.axis fun c =>
      { c with taken := c.taken + 1, samples := if store then c.samples ++ [sig] else c.samples, skip := c.halving && store }
    if store then (s.setVat l ((s.vat l).hand 4 48)).fillActions l else s

/-- The samples per second at which a stage samples for captures (R32, R70, R554): the running capture's, else the setting of
its owner's lane where R30 permits it. -/
def State.sampleRate (s : State) (p : Nat) : Nat :=
  match s.captureOf p with
  | some (_, c) => c.rate
  | none =>
    let l := laneNum (s.owner p)
    let ok := s.captureRates l
    let want := s.captureSetting l
    1000 * (if ok.contains want then want else (ok.filter (· < want)).foldl max 0)

/-- CAPTURE_SAMPLE (R555): the stage takes a sample of the 24 signals into its ring, and into the running capture. -/
def execCaptureSample (t : Nat) (axis : Fin 32) (s : State) : Host.Outcome State Fault Refusal :=
  let s := s.start t
  let p := 0x10 + axis.val
  let rate := s.sampleRate p
  .next <|
    if rate = 0 ∨ s.now < (s.axis p).ringAt + 1000000000 / rate then s
    else
      let aux := match s.captureOf p with
        | some (_, c) => c.aux
        | none => (s.reg (vatPage (laneNum (s.owner p))) (Vt.CAP_AXIS_AUTO.pos axis.val)).toNat % 2 ^ 24
      let sig := s.signals p aux
      let s := s.modAxis p fun x => { x with ring := (sig :: x.ring).take 8000, ringAt := s.now }
      match s.captureOf p with
      | some (l, c) => s.captureTake l c sig
      | none => s

/-- CAPTURE_END (R554): POST_MS after the end of the motion, or at 10 s of samples. -/
def execCaptureEnd (t : Nat) (axis : Fin 32) (s : State) : Host.Outcome State Fault Refusal :=
  let s := s.start t
  .next <|
    match s.captureOf (0x10 + axis.val) with
    | some (l, c) =>
      if 10 * c.rate ≤ c.taken then s.captureEnd l c.axis 3
      else
        match c.endAt with
        | some n => if n ≤ s.now then s.captureEnd l c.axis 1 else s
        | none => s
    | none => s

/-- HEARTBEAT_LAPSE (R86, R554): 500 µs without an advanced heartbeat makes the lane absent at the resource; the capture it
takes from an axis ends. -/
def execHeartbeatLapse (t : Nat) (l : Lane) (page : Nat) (s : State) : Host.Outcome State Fault Refusal :=
  let s := s.start t
  let b := s.beat page l
  .next <|
    if b.present ∧ b.last + 500000 ≤ s.now then
      let s := s.setBeat page l { b with present := false, since := s.now }
      if pageKind page = .axis ∧ (s.vat l).captures.any fun c => c.axis == page - 0x10 then s.captureEnd l (page - 0x10) 5
      else s
    else s

/-- Whether a record of `len` bytes that ends at `pos` is still held in a partition programmed up to `n` bytes (R546): the
oldest bytes are overwritten when it is full. -/
def stillHeld (p n pos len : Nat) : Bool := decide (n + len ≤ pos + partSize p)

/-- The records that the bytes programmed have overwritten are gone (R546); in partition 2 the active and previous
configuration containers and the images of both program slots stay. -/
def VatRec.overwrite (v : VatRec) (p : Nat) (keep : List Nat) : VatRec :=
  let n := (v.part p).programmed
  match p with
  | 0 => { v with curds := v.curds.filter fun r => stillHeld 0 n r.pos 2048 }
  | 1 => { v with log := v.log.filter fun r => stillHeld 1 n r.pos 64 }
  | 2 => { v with history := v.history.filter fun r => stillHeld 2 n r.pos (64 + r.length) || keep.contains r.digest }
  | 4 => { v with stored := v.stored.filter fun c => stillHeld 4 n c.pos (4096 + 48 * c.samples.length) }
  | _ => v

/-- The digests that partition 2 keeps (R546). -/
def State.keptDigests (s : State) (l : Lane) : List Nat :=
  [(s.power.active.of l).digest, (s.power.previous.of l).digest] ++ ((s.cles.of l).image.map (·.digest)).toList

/-- Bytes written and read, kept for the last whole second (RATES of R569). -/
def VatRec.tick (v : VatRec) (sec wrote read : Nat) : VatRec :=
  if v.second = sec then { v with wrote := v.wrote + wrote, read := v.read + read }
  else if v.second + 1 = sec then
    { v with second := sec, wroteLast := v.wrote, readLast := v.read, wrote := wrote, read := read }
  else { v with second := sec, wroteLast := 0, readLast := 0, wrote := wrote, read := read }

/-- What the controller reports taken over (R548, R566, R567). -/
def State.nand (s : State) (l : Lane) (h : NandReport) : State :=
  let p := vatPage l
  let s := s.bump p Vt.WEAR_BAD_BLOCKS 0 0 h.badBlocks
  let s := (s.setFld p Vt.WEAR_SPARE_PCT (min 100 h.spare)).setFld p Vt.PE_PE_AVG (saturate 16 h.peAvg)
  let s := (s.setFld p Vt.PE_PE_MAX (saturate 16 h.peMax)).setFld p Vt.WEAR_WEAR_PCT (saturate 8 (h.peAvg * 100 / 3000))
  let s := (s.bump p Vt.DIES_DIES_FAILED 0 0 h.badDies).bump p Vt.ECC_BITS 0 0 h.bits
  let s := h.lost.foldl (fun s u =>
    let v := s.vat l
    let r := v.part u.1
    ((s.setVat l (v.setPart u.1 { r with lost := u.2 :: r.lost })).bump p Vt.UNITS_LOST).raise p 4 u.1) s
  let s := s.setVat l { s.vat l with scarce := decide (h.spare < 10) }
  let s := s.showWear l
  let st := s.vatState l
  if st = 0 then s
  else if h.failed ∨ 8 < s.fld p Vt.DIES_DIES_FAILED then s.setVatState l 5
  else if (st = 2 ∨ st = 3) ∧ h.noSpare then s.setVatState l 4
  else if st = 2 ∧ (0 < s.fld p Vt.DIES_DIES_FAILED ∨ h.spare < 10) then s.setVatState l 3
  else s

/-- Whether a partition's write is the next to be served (R556): curd records and event entries, then a dump, then
partition 2, then captures. -/
def State.servesPart (s : State) (l : Lane) (p : Nat) : Bool :=
  let v := s.vat l
  let urgent := v.waiting 0 + v.waiting 1 != 0
  let dump := match v.dumping with
    | some j => j.toVat
    | none => false
  match p with
  | 0 | 1 => v.waiting p != 0
  | 3 => !urgent && dump
  | 2 => !urgent && !dump && v.waiting 2 != 0
  | _ => !urgent && !dump && v.waiting 2 == 0 && v.waiting 4 != 0

/-- Bytes of a partition programmed (R547, R548): its tag is all zero without the key, and the oldest units are
overwritten when the partition is full. -/
def State.program (s : State) (l : Lane) (p n : Nat) : State :=
  let page := vatPage l
  let v := s.vat l
  let r := v.part p
  let done := r.programmed + n
  let beyond := (done - partSize p + unitBytes - 1) / unitBytes
  let v := (v.setPart p { r with programmed := done, overwritten := beyond }).tick (s.now / 1000000000) n 0
  let s := s.setVat l (v.overwrite p (s.keptDigests l))
  let s := s.setFld page Vt.OVERWRITES (saturate 32 beyond) p
  if p ≠ 2 ∧ !s.vatSealed l then (s.bump page Vt.UNSEALED 0 0 ((n + unitBytes - 1) / unitBytes)).level page 6 true else s.level page 6 false

/-- VAT_UNIT_PROGRAMMED (R547, R556, R566): a write unit of the partition that is served next. -/
def execVatUnitProgrammed (t : Nat) (l : Lane) (part : Fin 5) (h : NandReport) (s : State) : Host.Outcome State Fault Refusal :=
  let s := s.start t
  let st := s.vatState l
  .next <|
    if !(st == 2 || st == 3) || !s.servesPart l part.val then s
    else
      let n := if part.val = 3 then unitBytes else min unitBytes ((s.vat l).waiting part.val)
      let s := if part.val = 3 then s.setVat l ((s.vat l).hand 3 n) else s
      (((s.program l part.val n).nand l h).showCurdFill l).fillActions l

/-- VAT_MOUNT_DONE (R559, R567): without a shutdown marker the units that failed their CRC are discarded. -/
def execVatMountDone (t : Nat) (l : Lane) (h : NandReport) (s : State) : Host.Outcome State Fault Refusal :=
  let s := s.start t
  let p := vatPage l
  .next <|
    if s.vatState l ≠ 1 ∨ s.laneState l < 2 then s
    else
      let v := s.vat l
      let h := if v.marker then { h with lost := [] } else h
      let s := (s.setFld p Vt.VAT_STATUS_MOUNT_CLEAN (bool01 v.marker)).setFld p Vt.LOST_AT_MOUNT (saturate 16 h.lost.length)
      let s := s.setVat l { v with marker := false, scrubAt := s.now }
      let s := s.nand l h
      if s.vatState l ≠ 1 then s
      else
        let weak := 0 < s.fld p Vt.DIES_DIES_FAILED || h.spare < 10
        (s.setVatState l (if weak then 3 else 2)).raise p 7 (s.fld p Vt.LOST_AT_MOUNT)

/-- VAT_SCRUB (R566): every 30 days all written units are read and weak ones rewritten. -/
def execVatScrub (t : Nat) (l : Lane) (h : NandReport) (s : State) : Host.Outcome State Fault Refusal :=
  let s := s.start t
  let st := s.vatState l
  .next <|
    if (st = 2 ∨ st = 3) ∧ (s.vat l).scrubAt + 30 * 86400 * 1000000000 ≤ s.now then
      (s.setVat l { s.vat l with scrubAt := s.now }).nand l h
    else s

/-- The lane of a Vat page. -/
def vatLane (p : Nat) : Lane := if p = 0x69 then .b else .a

/-- FLUSH (R570). -/
def cmdFlush : Cmd where
  opc := 0x01
  kinds := (· == .vat)
  allow := fun s q _ _ => if s.vatState (vatLane q.page) = 2 ∨ s.vatState (vatLane q.page) = 3 then 0 else RC.state
  act := fun s _ _ _ => (s, RC.accepted)

def execFlushVat (t : Nat) (q : Req) (s : State) : Host.Outcome State Fault Refusal :=
  .next ((s.start t).command q cmdFlush)

/-- FLUSH_DONE (R570): every buffer is empty. -/
def execFlushDone (t : Nat) (l : Lane) (s : State) : Host.Outcome State Fault Refusal :=
  let s := s.start t
  let v := s.vat l
  .next <|
    if [0, 1, 2, 4].all fun p => v.waiting p == 0 then
      s.completeAll (fun o => o.page == vatPage l && o.opc == 0x01) RC.done
    else s

/-- COUNTERS_CLEAR of a Vat page (R570). -/
def cmdVatClear : Cmd where
  opc := 0x02
  kinds := (· == .vat)
  act := fun s q _ _ =>
    let s := [Vt.DECIMATED, Vt.DROPPED, Vt.NOT_STARTED, Vt.MIRROR_DUPS, Vt.MIRROR_LOST, Vt.UNSEALED, Vt.HELD_HELD_DROPS,
      Vt.LOST_AT_MOUNT, Vt.TAG_FAILS].foldl (fun s f => s.setFld q.page f 0) s
    (s, RC.done)

def execVatCountersClear (t : Nat) (q : Req) (s : State) : Host.Outcome State Fault Refusal :=
  .next ((s.start t).command q cmdVatClear)

end Sys2Proof.Machine
end

