-- ==== Sys2Proof/Machine/Dumps.lean ====
section
/-! DEFINITION. Dumps (R563-R565, R572, R573). -/

namespace Sys2Proof.Machine

/-- The minimal dumps in management flash changed (R565): MINI_STATUS and MINI_FULL follow. -/
def State.setMini (s : State) (ms : List (Nat × DumpRec)) : State :=
  let s := (s.putDumpStore { s.dumpStore with mini := ms })
  (s.setFld 0x7F Dp.MINI_STATUS_USED ms.length).level 0x7F 2 (decide (8 ≤ ms.length))

/-- The slot of management flash that the next minimal dump takes (R565): after the newest, or that of the oldest. -/
def State.miniSlot (s : State) : Nat := (s.fld 0x7F Dp.MINI_STATUS_OLDEST + s.dumpStore.mini.length) % 8

/-- A dump of a lane as it stands now (R564): the six pages it copies are the lane, CLE, memory and Vat pages and pages
0x03 and 0x60. -/
def State.dumpOf (s : State) (l : Lane) (cause task pc : Nat) : DumpRec :=
  let c := s.cle l
  let pages := [lanePage l, clePage l, memPage l, vatPage l, 0x03, 0x60]
  { cause := cause, boot := s.bootCount, time := s.time, cycle := c.cycle, pc := pc, task := task,
    progRef := s.fld (clePage l) Ce.PROG_REF, inst := (c.tasks.rd {} task).inst.toNat, data := c.data,
    program := c.img.program
    bad := (c.upset.filter (·.2)).map fun u => if u.1 < 0x10000000 then 0x20000 + u.1 else 0x820000 + (u.1 - 0x10000000)
    regs := Sparse.restrict (fun k => pages.contains (k / 8 / 4096)) s.regs }

/-- A dump begun (R563): into the Vat while it is READY or DEGRADED, else into management flash; one that comes while
another is written is suppressed. `fatal` holds a fatal reset back until the dump has ended. -/
def State.dumpStart (s : State) (l : Lane) (cause task pc : Nat) (fatal : Bool) : State × Bool :=
  let v := s.vat l
  let n := l.num - 1
  if v.dumping.isSome then ((s.bump 0x7F Dp.DUMPS_SUPPRESSED n).raise 0x7F 1 l.num, false)
  else
    let s := if fatal then v.captures.foldl (fun s c => s.captureEnd l c.axis 6) s else s
    let v := s.vat l
    let d := s.dumpOf l cause task pc
    let ok := s.vatState l == 2 || s.vatState l == 3
    if ok ∨ s.mgmtRuns then
      (s.setVat l { v with dumping := some ⟨s.now, { d with slot := if ok then v.nextSlot else s.miniSlot }, ok, fatal⟩ }, true)
    else (s.setVat l { v with lostSummary := some d }, false)

/-- LAST_DUMP and what stands with it (R572): where 1 Vat, 2 management flash, 3 abandoned. -/
def State.showDump (s : State) (l : Lane) (d : DumpRec) (place : Nat) : State :=
  let n := l.num - 1
  let s := ((s.setFld 0x7F Dp.LAST_DUMP_SLOT d.slot n).setFld 0x7F Dp.LAST_DUMP_CAUSE d.cause n).setFld 0x7F Dp.LAST_DUMP_WHERE place n
  let s := (s.setFld64 0x7F Dp.LAST_TIME d.time n).setFld 0x7F Dp.LAST_PC (d.pc % 2 ^ 22) n
  s.setFld 0x7F Dp.LAST_CYCLE (d.cycle % 2 ^ 32) n

/-- The DUMP_REQUEST of a lane ends (R573). -/
def State.endDumpRequest (s : State) (l : Lane) (result : Nat) : State :=
  s.completeAll (fun o => o.page == 0x7F && o.opc == 0x01 && o.chan == l.num) result

/-- A dump has been written (R563-R565, R573). -/
def State.dumpWritten (s : State) (l : Lane) (j : DumpJob) : State :=
  let d := { j.dump with whole := true, slot := if j.toVat then j.dump.slot else s.miniSlot }
  let v := s.vat l
  let s :=
    if j.toVat then
      s.setVat l { v with dumping := none, nextSlot := (v.nextSlot + 1) % 2980, dumps := (v.dumps.filter fun x => x.slot != d.slot) ++ [d] }
    else
      let ms := s.dumpStore.mini
      let s := if 8 ≤ ms.length then s.setFld 0x7F Dp.MINI_STATUS_OLDEST ((s.fld 0x7F Dp.MINI_STATUS_OLDEST + 1) % 8) else s
      (s.setVat l { v with dumping := none }).setMini ((if 8 ≤ ms.length then ms.drop 1 else ms) ++ [(l.num, d)])
  let place := if j.toVat then 1 else 2
  let s := ((s.bump 0x7F Dp.DUMP_COUNT (l.num - 1)).showDump l d place).raise 0x7F 0 (d.cause * 2 ^ 8 + place * 2 ^ 4 + l.num)
  if d.cause = 32 then s.endDumpRequest l RC.done else s

/-- A dump is abandoned (R563): its slot is marked incomplete. -/
def State.dumpAbandoned (s : State) (l : Lane) (j : DumpJob) : State :=
  let v := s.vat l
  let d := j.dump
  let dumps := if j.toVat then (v.dumps.filter fun x => x.slot != d.slot) ++ [d] else v.dumps
  let next := if j.toVat then (v.nextSlot + 1) % 2980 else v.nextSlot
  let s := s.setVat l { v with dumping := none, dumps := dumps, nextSlot := next }
  let s := (s.showDump l d 3).bump 0x7F Dp.ABANDONED (l.num - 1)
  if d.cause = 32 then s.endDumpRequest l RC.aborted else s

/-- DUMP_REQUEST (R573). -/
def cmdDumpRequest : Cmd where
  opc := 0x01
  kinds := (· == .dump)
  range := fun _ ch _ _ => ch == 1 || ch == 2
  allow := fun s q _ _ =>
    let st := s.pstate (clePage (laneNum q.chan))
    if st = 1 ∨ st = 3 ∨ st = 4 then 0 else RC.state
  act := fun s _ _ _ => (s, RC.accepted)
  after := fun s q =>
    let l := laneNum q.chan
    let r := s.dumpStart l 32 0xFF 0 false
    if r.2 then r.1 else r.1.endDumpRequest l RC.aborted

def execDumpRequest (t : Nat) (q : Req) (s : State) : Host.Outcome State Fault Refusal :=
  .next ((s.start t).command q cmdDumpRequest)

/-- MINI_CLEAR (R573). -/
def cmdMiniClear : Cmd where
  opc := 0x02
  kinds := (· == .dump)
  who := .admin
  act := fun s _ _ _ => ((s.setMini []).setFld 0x7F Dp.MINI_STATUS_OLDEST 0, RC.done)

def execMiniClear (t : Nat) (q : Req) (s : State) : Host.Outcome State Fault Refusal :=
  .next ((s.start t).command q cmdMiniClear)

/-- COUNTERS_CLEAR of page 0x7F (R573). -/
def cmdDumpClear : Cmd where
  opc := 0x03
  kinds := (· == .dump)
  act := fun s _ _ _ =>
    (s.each [0, 1] fun s n => (s.setFld 0x7F Dp.DUMPS_SUPPRESSED 0 n).setFld 0x7F Dp.ABANDONED 0 n, RC.done)

def execDumpCountersClear (t : Nat) (q : Req) (s : State) : Host.Outcome State Fault Refusal :=
  .next ((s.start t).command q cmdDumpClear)

end Sys2Proof.Machine
end

