-- ==== Sys2Proof/Machine/Loads.lean ====
section
/-! DEFINITION. The load-switch groups (R424-R433, R441-R444). -/

namespace Sys2Proof.Machine

/-- A group and its channels. -/
def State.group (s : State) (p : Nat) : LsRec := s.groups.rd {} p
def State.modGroup (s : State) (p : Nat) (f : LsRec → LsRec) : State := { s with groups := s.groups.wr {} p (f (s.group p)) }
def State.ls (s : State) (p k : Nat) : LsChan := (s.group p).chans.rd {} k
def State.setLs (s : State) (p k : Nat) (c : LsChan) : State := s.modGroup p fun g => { g with chans := g.chans.wr {} k c }

/-- Whether the rail of a group is present (R424): LS-A feeds groups 0 to 3, LS-B groups 4 to 7. -/
def State.railOf (s : State) (p : Nat) : Bool := if p < 0x44 then s.power.rail.a else s.power.rail.b

/-- The load-switch channel number of a group's channel. -/
def lsNumber (p k : Nat) : Nat := 8 * (p - 0x40) + k

/-- LS_CMD of a channel as written. -/
def State.lsCommand (s : State) (p k : Nat) : Nat := bitsOf (s.reg p Ls.LS_CMD_0.off) (2 * k + 1) (2 * k)

/-- A channel in PWM brought to the period it is in now: a new DUTY and PERIOD hold from the next period start (R426). -/
def State.pwmNow (s : State) (p k : Nat) : LsChan :=
  let c := s.ls p k
  let len := c.period * 100000
  if c.cmd ≠ 2 ∨ s.now < c.pwmAt + len then c
  else
    let start := c.pwmAt + len
    let per := s.fld p Ls.CH_PWM_PERIOD k
    let n := (s.now - start) / (per * 100000)
    { c with pwmAt := start + n * per * 100000, duty := s.fld p Ls.CH_PWM_DUTY k, period := per }

/-- The level of the pulse unit (R426). -/
def State.pulseUnit (s : State) (c : LsChan) : Bool :=
  c.cmd == 1 || c.cmd == 2 && decide (s.now - c.pwmAt < c.duty * c.period * 100)

/-- The level of a channel's source and whether the kerb drives it: rows 3 to 6 of R425, and R437. -/
def State.lsSource (s : State) (p k : Nat) (c : LsChan) : Bool × Bool :=
  let n := lsNumber p k
  let unit := s.pstate p != 0 && (s.group p).written && s.pulseUnit c
  if s.kact then
    if s.kerbMapped 0 n then (s.kerbLevel 0 n, true)
    else if s.flag 0x48 Kb.KERB_STATUS_BY_SILENCE then (c.held.getD false, false)
    else (unit, false)
  else
    match c.kerbHold with
    | some v => (v, true)
    | none => (unit, false)

/-- 150 ms in ns. -/
def inrushNs : Nat := 150000000

/-- When the line of a channel last changed (R432): the edges of PWM are those of its period. -/
def State.lineEdge (s : State) (c : LsChan) (line kerb dipped : Bool) : Nat :=
  if c.cmd = 2 ∧ !kerb then
    if line then (if dipped then c.pwmAt else if c.line then c.lineAt else max c.lineAt c.pwmAt)
    else if !s.pulseUnit c then c.pwmAt + c.duty * c.period * 100
    else if c.line then s.now else c.lineAt
  else if line = c.line then c.lineAt else s.now

/-- One channel of a group driven under R425: `open_` opens its inrush window (R429). A period of PWM that has begun since the
channel was last looked at has had its low part, as a source that is low has (R428, R429). -/
def State.driveLs (s : State) (p k : Nat) (open_ : Bool) : State :=
  let was := s.ls p k
  let c := s.pwmNow p k
  let (src, kerb) := s.lsSource p k c
  let dipped := !kerb && c.cmd == 2 && c.pwmAt != was.pwmAt && decide (was.duty < 1000)
  let rise := src && !c.src && (open_ || kerb)
  let c := if src && !dipped then c else { c with inrushEnd := none, pending := false, restarts := 0, latched := false }
  let c := if rise then { c with inrushEnd := some (s.now + inrushNs), restarts := 0 } else c
  let hold := if !s.kact then c.kerbHold else if kerb then some src else none
  let line := src && s.railOf p && !c.thermal && !c.latched && !c.locked
  s.setLs p k { c with src := src, kerb := kerb, kerbHold := hold, line := line, lineAt := s.lineEdge c line kerb dipped }

/-- CH_STATUS of a channel (R441). -/
def State.showLs (s : State) (p k : Nat) : State :=
  let c := s.ls p k
  let w := s.fld p Ls.CH_STATUS_LAST_CAUSE k * 2 ^ 24 + bool01 c.line * 128 + bool01 c.kerb * 64 + bool01 c.thermal * 32
    + bool01 c.latched * 16 + bool01 c.locked * 8 + bool01 c.inrushEnd.isSome * 4 + c.cmd
  s.setReg p (Ls.CH_STATUS_CMD.pos k) (BitVec.ofNat 32 w)

/-- The bits of a group's channels that pass a test. -/
def State.lsMask (s : State) (p : Nat) (f : LsChan → Bool) : Nat :=
  (List.range 8).foldl (fun m k => if f (s.ls p k) then m + 2 ^ k else m) 0

/-- GRP_STATUS and the level events of a group (R441, R444). -/
def State.showGroup (s : State) (p : Nat) : State :=
  let s := s.each (List.range 8) fun s k => s.showLs p k
  let kerb := s.lsMask p (·.kerb)
  let s := (s.setFld p Ls.GRP_STATUS_KERB kerb).setFld p Ls.GRP_STATUS_LOCKED (s.lsMask p fun c => c.latched || c.locked)
  let s := s.setFld p Ls.GRP_STATUS_LINE (s.lsMask p (·.line))
  let s := s.level p 1 (s.lsMask p (fun c => c.thermal || c.latched) != 0)
  let s := s.level p 2 (s.lsMask p (·.locked) != 0)
  let s := (s.setFld p Ls.RAIL_PRESENT (bool01 (s.railOf p))).level p 5 (!s.railOf p)
  s.level p 6 (kerb != 0)

/-- Every channel of a group driven, without opening a window for its command. -/
def State.driveGroup (s : State) (p : Nat) : State := (s.each (List.range 8) fun s k => s.driveLs p k false).showGroup p

/-- The commands of a group taken over from LS_CMD (R426, R429): a change to PWM starts a period. -/
def State.takeCommands (s : State) (p : Nat) : State :=
  (s.each (List.range 8) fun s k =>
    let c := s.pwmNow p k
    let n := s.lsCommand p k
    if n = c.cmd then s.driveLs p k false
    else
      let c' : LsChan := { c with cmd := n, pwmAt := s.now, duty := s.fld p Ls.CH_PWM_DUTY k, period := s.fld p Ls.CH_PWM_PERIOD k }
      (s.setLs p k c').driveLs p k (c.cmd == 0)).showGroup p

/-- An owner's write of LS_CMD or CH_PWM (R437, R443): it releases what the kerb left once KACT is low. -/
def State.ownerWrote (s : State) (p : Nat) : State :=
  if s.kact then s.modGroup p fun g => { g with written := true }
  else
    let s := s.modGroup p fun g => { g with written := true, chans := g.chans.map fun e => (e.1, { e.2 with kerbHold := none, held := none }) }
    if s.pstate p = 0 ∨ s.pstate p = 2 then s.setPstate p 1 else s

/-- A write of process data of a group by a requester: by its owner lane it is the owner's (R437, R443). -/
def State.groupWritten (s : State) (p code : Nat) : State :=
  if (code = 1 ∨ code = 2) ∧ s.owner p = code then s.ownerWrote p else s

/-- LS_CMD_WRITE (R426). -/
def execLsCmdWrite (t code gen : Nat) (g : Fin 8) (value : Word) (s : State) : Host.Outcome State Fault Refusal :=
  let p := 0x40 + g.val
  .next ((s.start t).write ⟨code, gen, p, Ls.LS_CMD_0.off, value⟩ fun s => (s.groupWritten p code).takeCommands p)

/-- CH_PWM_WRITE (R426): the period in progress is brought up to date first. -/
def execChPwmWrite (t code gen : Nat) (g : Fin 8) (k : Fin 8) (value : Word) (s : State) : Host.Outcome State Fault Refusal :=
  let p := 0x40 + g.val
  let s := s.start t
  let s := s.setLs p k.val (s.pwmNow p k.val)
  .next (s.write ⟨code, gen, p, Ls.CH_PWM_DUTY.pos k.val, value⟩ fun s => (s.groupWritten p code).driveGroup p)

/-- LAST_CAUSE and CH_FAULT (R441, R444). -/
def State.lsFault (s : State) (p k cause : Nat) : State :=
  (s.setFld p Ls.CH_STATUS_LAST_CAUSE cause k).raise p 0 (cause * 2 ^ 8 + k)

/-- THERMAL_SHUTDOWN (R427-R429): the junction of a switch that is on reaches 165 °C. -/
def State.thermalShutdown (s : State) (p k : Nat) : State :=
  let s := s.driveLs p k false
  let c := s.ls p k
  if !c.line then s
  else
    let inWindow := c.inrushEnd.isSome && decide (c.restarts < s.fld p Ls.CH_CFG_INRUSH_N k)
    let c := { c with thermal := true, line := false, pending := inWindow,
                      latched := !inWindow && s.flag p Ls.CH_CFG_RESTART k }
    ((((s.setLs p k c).bump p Ls.CH_COUNTS_SHUTDOWNS k).lsFault p k 1)).showGroup p

def execThermalShutdown (t : Nat) (g : Fin 8) (k : Fin 8) (s : State) : Host.Outcome State Fault Refusal :=
  .next ((s.start t).thermalShutdown (0x40 + g.val) k.val)

/-- THERMAL_COOLED (R428, R429): the junction falls below 145 °C. -/
def State.thermalCooled (s : State) (p k : Nat) : State :=
  let c := s.ls p k
  if !c.thermal then s
  else
    let s := s.setLs p k { c with thermal := false, pending := false, restarts := c.restarts + bool01 c.pending }
    let s := s.driveLs p k false
    let s := if c.pending && (s.ls p k).src then
        (s.bump p Ls.CH_COUNTS_RETRIES k).raise p 3 ((c.restarts + 1) * 2 ^ 4 + k)
      else s
    s.showGroup p

def execThermalCooled (t : Nat) (g : Fin 8) (k : Fin 8) (s : State) : Host.Outcome State Fault Refusal :=
  .next ((s.start t).thermalCooled (0x40 + g.val) k.val)

/-- INRUSH_WINDOW_END (R429). -/
def execInrushWindowEnd (t : Nat) (g : Fin 8) (k : Fin 8) (s : State) : Host.Outcome State Fault Refusal :=
  let s := s.start t
  let p := 0x40 + g.val
  let c := s.ls p k.val
  .next (match c.inrushEnd with
    | some x => if x ≤ s.now then (s.setLs p k.val { c with inrushEnd := none }).showGroup p else s
    | none => s)

/-- SUM_MJ of a channel from the estimates it holds (R430). -/
def State.showSum (s : State) (p k : Nat) : State :=
  s.setFld p Ls.CH_CLAMP_SUM_MJ (saturate 16 ((s.ls p k).sums.map (·.2)).sum) k

/-- CLAMP_END (R430): the clamp of a switch-off has been active for `us` µs. Every switch-off ends with one, of 0 µs where the
load returned nothing. -/
def State.clampEnd (s : State) (p k us : Nat) : State :=
  let ma := if s.flag p Ls.SENSE_STATUS_FAULT then 10000 else s.fld p Ls.CH_I_I_ON k
  -- 48 V × mA × µs / 2 in nJ
  let e := (24 * ma * us + 500000) / 1000000
  let s := s.driveLs p k false
  let c := s.ls p k
  let live := c.sums.filter fun x => decide (s.now < x.1 + 10000000000)
  let s := s.setLs p k { c with sums := live ++ [(s.now - us * 1000, e)] }
  let s := ((s.setFld p Ls.CH_CLAMP_LAST_MJ (saturate 16 e) k).showSum p k).bump p Ls.SWITCH_OFFS k
  let tooMuch := decide (150000000 < 24 * ma * us)
  let s := if tooMuch then s.raise p 7 (saturate 16 e * 2 ^ 16 + k) else s
  if !c.locked ∧ (tooMuch ∨ 3000 ≤ s.fld p Ls.CH_CLAMP_SUM_MJ k) then
    let s := s.setLs p k { s.ls p k with locked := true, line := false }
    ((s.bump p Ls.LOCKS k).lsFault p k 2).showGroup p
  else s.showGroup p

def execClampEnd (t : Nat) (g : Fin 8) (k : Fin 8) (us : Nat) (s : State) : Host.Outcome State Fault Refusal :=
  .next ((s.start t).clampEnd (0x40 + g.val) k.val us)

/-- CLAMP_SUM_EXPIRY (R430): estimates leave the sum 10 s after their switch-off. -/
def execClampSumExpiry (t : Nat) (g : Fin 8) (k : Fin 8) (s : State) : Host.Outcome State Fault Refusal :=
  let s := s.start t
  let p := 0x40 + g.val
  let c := s.ls p k.val
  .next ((s.setLs p k.val { c with sums := c.sums.filter fun x => decide (s.now < x.1 + 10000000000) }).showSum p k.val)

/-- The end of a round of the sense multiplexer (R433). -/
def State.senseRound (s : State) (p : Nat) : State :=
  let g := s.group p
  let bad := if g.badNow then g.badRounds + 1 else 0
  let good := if g.badNow then 0 else g.goodRounds + 1
  let s := s.modGroup p fun g => { g with badNow := false, badRounds := bad, goodRounds := good }
  let s := s.bump p Ls.SENSE_ROUNDS
  let on := decide (8 ≤ bad) || (s.flag p Ls.SENSE_STATUS_FAULT && decide (good < 8))
  (s.setFld p Ls.SENSE_STATUS_FAULT (bool01 on)).level p 4 on

/-- SENSE_SLOT (R432): the reading of a channel in mA. -/
def State.senseSlot (s : State) (p k ma : Nat) : State :=
  let s := s.driveLs p k false
  -- the line as it was when the conversion began, 8 µs ago
  let c := s.ls p k
  let high := if c.lineAt + 8000 ≤ s.now then c.line else !c.line
  let v := min ma 12000
  let s := s.setFld p Ls.CH_I_I_LAST (if high then v else 0) k
  let s := if high then s.setFld p Ls.CH_I_I_ON v k else s
  let s := s.setFld p Ls.GRP_I (((List.range 8).map fun i => s.fld p Ls.CH_I_I_LAST i).sum)
  let s := if !high && decide (100 < ma) then s.modGroup p fun g => { g with badNow := true } else s
  if k = 7 then s.senseRound p else s

def execSenseSlot (t : Nat) (g : Fin 8) (k : Fin 8) (ma : Nat) (s : State) : Host.Outcome State Fault Refusal :=
  .next ((s.start t).senseSlot (0x40 + g.val) k.val ma)

/-- What FAULT_CLEAR would release on a channel (R428, R430). -/
def State.lsReleasable (s : State) (p k : Nat) : Bool :=
  let c := s.ls p k
  c.latched && !c.thermal || c.locked && decide (s.fld p Ls.CH_CLAMP_SUM_MJ k < 1500)

/-- FAULT_CLEAR of a group (R442). -/
def cmdLsFaultClear (p : Nat) : Cmd where
  opc := 0x01
  kinds := (· == .lsGroup)
  range := fun _ ch _ _ => decide (ch < 8) || ch == 0xFF
  allow := fun s q _ _ => if (if q.chan = 0xFF then List.range 8 else [q.chan]).any fun k => s.lsReleasable p k then 0 else RC.state
  act := fun s q _ _ =>
    let s := s.each (if q.chan = 0xFF then List.range 8 else [q.chan]) fun s k =>
      let c := s.ls p k
      s.setLs p k { c with latched := c.latched && c.thermal
                           locked := c.locked && decide (1500 ≤ s.fld p Ls.CH_CLAMP_SUM_MJ k) }
    (s.driveGroup p, RC.done)

def execLsFaultClear (t : Nat) (q : Req) (s : State) : Host.Outcome State Fault Refusal :=
  .next ((s.start t).command q (cmdLsFaultClear q.page))

/-- COUNTERS_CLEAR of a group (R442). -/
def cmdLsCountersClear (p : Nat) : Cmd where
  opc := 0x02
  kinds := (· == .lsGroup)
  act := fun s _ _ _ =>
    let s := s.setFld p Ls.SENSE_ROUNDS 0
    (s.each (List.range 8) fun s k =>
      ((s.setReg p (Ls.CH_COUNTS_SHUTDOWNS.pos k) 0).setFld p Ls.SWITCH_OFFS 0 k).setFld p Ls.LOCKS 0 k, RC.done)

def execLsCountersClear (t : Nat) (q : Req) (s : State) : Host.Outcome State Fault Refusal :=
  .next ((s.start t).command q (cmdLsCountersClear q.page))

/-- The rail of a group lost (R428, R443): every switch is off and latched shutdowns are released. -/
def State.groupRailLost (s : State) (p : Nat) : State :=
  let s := s.each (List.range 8) fun s k =>
    let c := s.ls p k
    let s := s.setLs p k { c with latched := false, pending := false, inrushEnd := none, src := false }
    if c.line then s.setFld p Ls.CH_STATUS_LAST_CAUSE 3 k else s
  (s.setPstate p 3).driveGroup p

/-- The rail of a group back (R429, R443): the stored commands apply and inrush windows open. -/
def State.groupRailBack (s : State) (p : Nat) : State :=
  if s.pstate p ≠ 3 then (if s.kact then s.setPstate p 2 else s).driveGroup p
  else
    let s := s.setPstate p (if s.kact then 2 else if (s.group p).written then 1 else 0)
    (s.each (List.range 8) fun s k => (s.setLs p k { s.ls p k with src := false }).driveLs p k true).showGroup p

/-- KACT seen by a group (R425, R437, R443); as silence begins, the values that unmapped channels hold are taken. -/
def State.groupKact (s : State) (p : Nat) (rise silent : Bool) : State :=
  let s := if rise && decide (s.pstate p < 2) then s.setPstate p 2 else s
  let s := if silent then s.each (List.range 8) fun s k =>
      let c := s.ls p k
      s.setLs p k { c with held := if s.flag p Ls.CH_CFG_UNMAPPED_HOLD k then some (s.pulseUnit (s.pwmNow p k)) else none }
    else s
  s.driveGroup p

end Sys2Proof.Machine
end

