-- ==== Sys2Proof/Machine/Kerb.lean ====
section
/-! DEFINITION. The kerb supervisor (R435-R440, R445, R446). -/

namespace Sys2Proof.Machine

/-- The groups and the banks. -/
def groupPages : List Nat := List.range' 0x40 8
def bankPages : List Nat := List.range' 0x30 16

/-- Every switch and output that the kerb may drive brought up to date. -/
def State.driveAll (s : State) : State := s.each bankPages State.driveBank

/-- The causes of the kerb changed (R436): KACT, its events, its counts and what follows it. -/
def State.setKerb (s : State) (pin silence : Bool) : State :=
  let was := s.kact
  let bySilence := s.flag 0x48 Kb.KERB_STATUS_BY_SILENCE
  let now_ := pin || silence
  let s := if pin && !s.flag 0x48 Kb.KERB_STATUS_BY_PIN then s.bump 0x48 Kb.KERB_COUNT_BY_PIN else s
  let s := if silence && !bySilence then s.bump 0x48 Kb.KERB_COUNT_BY_SILENCE else s
  let s := (s.setFld 0x48 Kb.KERB_STATUS_BY_PIN (bool01 pin)).setFld 0x48 Kb.KERB_STATUS_BY_SILENCE (bool01 silence)
  let s := (s.setFld 0x48 Kb.KERB_STATUS_ACTIVE (bool01 now_)).level 0x48 0 now_ (bool01 pin * 2 + bool01 silence)
  let s := if now_ && !was then (s.putKerb { s.kerb with activeAt := s.now }) else s
  let s := if was && !now_ then s.setFld 0x48 Kb.LAST_ACTIVE_MS (saturate 32 ((s.now - s.kerb.activeAt) / 1000000)) else s
  (s.each groupPages fun s p => s.groupKact p (now_ && !was) (silence && !bySilence)).driveAll

/-- Whether the supervisor has a supply (R435). -/
def State.kerbPowered (s : State) : Bool := s.anyRail

/-- KEN_QUALIFIED (R435, R436). -/
def execKenQualified (t : Nat) (high : Bool) (s : State) : Host.Outcome State Fault Refusal :=
  let s := s.start t
  .next (if !s.kerbPowered then s
    else (s.setFld 0x48 Kb.KERB_STATUS_KEN (bool01 high)).setKerb high (s.flag 0x48 Kb.KERB_STATUS_BY_SILENCE))

/-- KIN_QUALIFIED (R435, R436). -/
def execKinQualified (t : Nat) (i : Fin 8) (high : Bool) (s : State) : Host.Outcome State Fault Refusal :=
  let s := s.start t
  let old := s.fld 0x48 Kb.KERB_STATUS_INPUTS
  .next (if !s.kerbPowered ∨ bitAt old i.val = high then s
    else
      let s := (s.setFld 0x48 Kb.KERB_STATUS_INPUTS (setBit old i.val high)).bump 0x48 Kb.KIN_EDGES i.val
      let s := s.raise 0x48 1 (i.val * 2 ^ 4 + bool01 high)
      (s.each groupPages State.driveGroup).driveAll)

/-- KERB_SILENCE_TIMEOUT (R436). -/
def execKerbSilenceTimeout (t : Nat) (s : State) : Host.Outcome State Fault Refusal :=
  let s := s.start t
  .next (match s.silentFor with
    | some d =>
      if s.fld 0x48 Kb.KERB_CFG_TIMEOUT_MS * 1000000 ≤ d ∧ !s.flag 0x48 Kb.KERB_STATUS_BY_SILENCE then
        s.setKerb (s.flag 0x48 Kb.KERB_STATUS_BY_PIN) true
      else s
    | none => s)

/-- KERB_SILENCE_END (R436): a heartbeat present for 100 ms. -/
def execKerbSilenceEnd (t : Nat) (s : State) : Host.Outcome State Fault Refusal :=
  let s := s.start t
  let r := s.resRec 0x48
  let long (b : Beat) : Bool := b.present && decide (b.since + 100000000 ≤ s.now)
  .next (if s.flag 0x48 Kb.KERB_STATUS_BY_SILENCE ∧ (long r.beatA ∨ long r.beatB) then
      s.setKerb (s.flag 0x48 Kb.KERB_STATUS_BY_PIN) false
    else s)

/-- The life-cycle state of page 0x74 (R616): 0 MANUFACTURE, 1 PROVISIONING, 2 OPERATIONAL, 3 ERASED, 4 RETIRED. -/
def State.lifeCycle (s : State) : Nat := s.fld 0x74 Lc.LC_STATUS_STATE

/-- What follows a map write (R435, R440): it takes effect at once and is copied to the stages. -/
def State.mapWritten (s : State) : State :=
  let s := s.raise 0x48 3 (s.mapCrc % 2 ^ 16)
  (s.each groupPages State.driveGroup).driveAll

/-- KMAP_WRITE (R440): word `j` of kerb input `i`. -/
def execKmapWrite (t code gen : Nat) (i : Fin 8) (j : Fin 4) (value : Word) (s : State) : Host.Outcome State Fault Refusal :=
  let off := 0x400 + 0x40 * i.val + 4 * j.val
  .next ((s.start t).writeWith ⟨code, gen, 0x48, off, value⟩ (fun s => s.lifeCycle == 1) fun s => (s.store code 0x48 off value).mapWritten)

/-- COUNTERS_CLEAR of page 0x48 (R446). -/
def cmdKerbClear : Cmd where
  opc := 0x01
  kinds := (· == .kerb)
  act := fun s _ _ _ =>
    let s := (s.setReg 0x48 Kb.KERB_COUNT_BY_PIN.off 0).setReg 0x48 Kb.LAST_ACTIVE_MS.off 0
    (s.each (List.range 8) fun s i => s.setFld 0x48 Kb.KIN_EDGES 0 i, RC.done)

def execKerbCountersClear (t : Nat) (q : Req) (s : State) : Host.Outcome State Fault Refusal :=
  .next ((s.start t).command q cmdKerbClear)

/-- A load-switch rail as the supervisor and its groups see it (R435, R438, R443): silence counts from the supply; without one
it sees no pin and no heartbeat. -/
def State.railChanged (s : State) (l : Lane) (on : Bool) : State :=
  let s := (s.putPower { s.power with rail := s.power.rail.set l on })
  let ps := if l = .a then List.range' 0x40 4 else List.range' 0x44 4
  let s := s.each ps fun s p => if on then s.groupRailBack p else s.groupRailLost p
  if s.anyRail then (if s.kerb.supplyAt.isNone then (s.putKerb { s.kerb with supplyAt := some s.now }) else s)
  else
    let s := (s.putKerb { s.kerb with supplyAt := none })
    let s := (s.setFld 0x48 Kb.KERB_STATUS_INPUTS 0).setFld 0x48 Kb.KERB_STATUS_KEN 0
    let s := ((s.setRes 0x48 {}).setFld 0x48 Kb.KERB_STATUS_HB_A 0).setFld 0x48 Kb.KERB_STATUS_HB_B 0
    if s.kact then s.setKerb false false else s

end Sys2Proof.Machine
end

