-- ==== Sys2Proof/Machine/Obstacle.lean ====
section
/-! DEFINITION. Trip lines at an axis, the commands of the force section and the force map window (R373, R378-R381, R394,
R395). -/

namespace Sys2Proof.Machine

/-- CLEAR_LINE_FALL (R373, R381): the lines that have fallen are decided at this current-loop sample: in a closing motion the
first of them trips the axis. A start that still measures its speed decides them at its first sample. -/
def State.lineFall (s : State) (p : Nat) : State :=
  match (s.axis p).force.fell with
  | [] => s
  | (src, ch) :: _ =>
    if s.mstate p = 5 then s
    else if s.closing p then s.trip p src ch 0 false
    else s.modForce p fun f => { f with fell := [] }

/-- Whether a motion is in progress for the force section (R395). -/
def State.forceBusy (s : State) (p : Nat) : Bool :=
  match (s.axis p).mot with
  | some m => m.begun
  | none => false

/-- FM_TEACH (R378, R395): it has no effect while the model is TEACHING. -/
def cmdFmTeach (p : Nat) : Cmd where
  opc := 0x30
  kinds := (· == .axis)
  allow := fun s _ _ _ => if s.forceBusy p then RC.state else 0
  act := fun s _ _ _ =>
    if s.fld p Ax.OBS_STATUS_MODEL_STATE = 1 then (s, RC.done)
    else
      let s := (s.setFld p Ax.OBS_STATUS_MODEL_STATE 1).setFld p Ax.TEACH_LEFT (s.fld p Ax.LEARN_CFG_TEACH_N)
      let s := s.modForce p fun f => { f with map := f.map.map fun e => (e.1, { e.2 with samples := 0 }) }
      (s.showModel p, RC.done)

/-- FM_REBASE (R378, R395). -/
def cmdFmRebase (p : Nat) : Cmd where
  opc := 0x31
  kinds := (· == .axis)
  allow := fun s _ _ _ => if s.fld p Ax.OBS_STATUS_MODEL_STATE = 2 then 0 else RC.state
  act := fun s _ _ _ =>
    let s := s.modForce p fun f => { f with map := f.map.map fun e =>
      (e.1, { e.2 with basePos := e.2.fricPos, baseNeg := e.2.fricNeg, frozenPos := false, frozenNeg := false }) }
    (s.showModel p, RC.done)

/-- FM_CLEAR (R378, R395). -/
def cmdFmClear (p : Nat) : Cmd where
  opc := 0x32
  kinds := (· == .axis)
  allow := fun s _ _ _ => if s.forceBusy p then RC.state else 0
  act := fun s _ _ _ =>
    let s := (s.setFld p Ax.OBS_STATUS_MODEL_STATE 0).setFld p Ax.TEACH_LEFT 0
    ((s.modForce p fun f => { f with map := [] }).showModel p, RC.done)

/-- Whether the safety unit is in MAINTENANCE (R486). -/
def State.maintenance (s : State) : Bool := s.pstate 0x60 == 5

/-- OBS_INJECT (R395). -/
def cmdObsInject (p : Nat) : Cmd where
  opc := 0x33
  kinds := (· == .axis)
  allow := fun s _ _ _ => if s.maintenance ∧ s.closing p then 0 else RC.state
  act := fun s _ _ _ => (s.modForce p fun f => { f with inject := true }, RC.done)

/-- CLEAR_LINE_FALL (R381). -/
def execClearLineFall (t : Nat) (a : Fin 32) (s : State) : Host.Outcome State Fault Refusal :=
  let s := (s.start t).lineFall (axisPage a.val)
  .next (s.settle (busOf (axisPage a.val)))

def execFmTeach (t : Nat) (q : Req) (s : State) : Host.Outcome State Fault Refusal :=
  .next ((s.start t).command q (cmdFmTeach q.page))
def execFmRebase (t : Nat) (q : Req) (s : State) : Host.Outcome State Fault Refusal :=
  .next ((s.start t).command q (cmdFmRebase q.page))
def execFmClear (t : Nat) (q : Req) (s : State) : Host.Outcome State Fault Refusal :=
  .next ((s.start t).command q (cmdFmClear q.page))
def execObsInject (t : Nat) (q : Req) (s : State) : Host.Outcome State Fault Refusal :=
  .next ((s.start t).command q (cmdObsInject q.page))

/-- A word written to a bin (R378, R394): friction with its baselines, or mass; the bin is LEARNED and the model ACTIVE. -/
def State.writeBin (s : State) (p n : Nat) (mass : Bool) (value : Word) : State :=
  if s.fld p Ax.MAP_CFG_MAP_BINS ≤ n then s
  else
    let b := s.bin p n
    let b :=
      if mass then { b with mass := bitsOf value 11 0 }
      else
        let fp := signedOf 16 (bitsOf value 31 16)
        let fn := signedOf 16 (bitsOf value 15 0)
        { b with fricPos := fp, fricNeg := fn, basePos := fp, baseNeg := fn }
    let s := s.setBin p n { b with learned := true, frozenPos := false, frozenNeg := false }
    let s := if s.fld p Ax.OBS_STATUS_MODEL_STATE = 0 then s.setFld p Ax.OBS_STATUS_MODEL_STATE 2 else s
    s.showModel p

/-- Whether the motion engine lets the window be written (R394). -/
def State.mapOpen (s : State) (p : Nat) : Bool := decide (s.mstate p ≤ 2)

/-- The first bin in a requester's window (R394). -/
def State.mapBase (s : State) (code p : Nat) : Nat := bitsOf (s.reg p Ax.MAP_BASE.off (code % 8)) 11 0

/-- FORCE_MAP_WRITE (R378, R394): MAP_FRIC[j] or MAP_MASS[j] of the window. -/
def execForceMapWrite (t code gen : Nat) (a : Fin 32) (j : Fin 128) (mass : Bool) (value : Word) (s : State) :
    Host.Outcome State Fault Refusal :=
  let p := axisPage a.val
  let w : WriteReq := ⟨code, gen, p, 0x600 + 0x10 * j.val + (if mass then 8 else 0), value⟩
  .next ((s.start t).writeWith w (fun s => s.mapOpen p) fun s => s.writeBin p (s.mapBase code p + j.val) mass value)

/-- OBS_THRESH_WRITE (R380). -/
def execObsThreshWrite (t code gen : Nat) (a : Fin 32) (value : Word) (s : State) : Host.Outcome State Fault Refusal :=
  let p := axisPage a.val
  .next ((s.start t).write ⟨code, gen, p, Ax.OBS_THRESH.off, value⟩ fun s => s.setFld p Ax.THRESH_EFF (s.fld p Ax.OBS_THRESH))

end Sys2Proof.Machine
end

