-- ==== Sys2Proof/Machine/Sessions.lean ====
section
/-! DEFINITION. Host ports and sessions (R126-R134, R145, R150, R155-R162): links, addresses, announcements,
handshakes, slots, the configuration-owner claim, consist reports. -/

namespace Sys2Proof.Machine

/-- The claim passes to a slot, or to none (R150, R161): CFG_HOLDER, the page state and each SLOT_STATE follow, and
CFG_OWNER_CHANGED carries the old and the new slot. -/
def State.setHolder (s : State) (h : Option Nat) : State :=
  let old := s.host.holder
  if old = h then s
  else
    let num := fun (o : Option Nat) => o.getD 0xFF
    let s := (s.putHost { s.host with holder := h })
    let s := s.setFld 6 Ss.CFG_HOLDER_SLOT (num h)
    let s := s.bump 6 Ss.CFG_HOLDER_CHANGES
    let s := s.each (List.range 4) fun s k => s.setFld 6 Ss.SLOT_STATE_CFG_OWNER (bool01 (h == some k)) k
    let s := s.setPstate 6 (if h.isSome then 1 else 0)
    s.raise 6 3 (num old * 2 ^ 8 + num h)

/-- The reasons of R145. -/
def Reason.hostClosed : Nat := 0
def Reason.idle : Nat := 1
def Reason.replaced : Nat := 2
def Reason.admin : Nat := 3
def Reason.expired : Nat := 4
def Reason.full : Nat := 6
def Reason.authFailed : Nat := 7

/-- SESSION_END to the host of a slot, or, where it has none, with SLOT 0xFF (R135, R145). -/
def sessionEndMsg (slot reason : Nat) : OutMsg := unsolicited .sessionEnd 0x09 13 slot [reason]

/-- The registers of a slot that describe its session, cleared when it ends. -/
def State.clearSlotRegs (s : State) (k : Nat) : State :=
  let s := s.setReg 6 (0x200 + 0x40 * k) 0
  let s := s.setFld 6 Ss.PEER_IP 0 k
  let s := s.setFld 6 Ss.PEER_UDP 0 k
  s.setFld 6 Ss.SUBJECT_REF 0 k

/-- The requests of a session that wait for management go with it (R134, R579). -/
def State.dropRequests (s : State) (k : Nat) : State :=
  let q := s.mgmt.queue.filter fun x => x.1 != k
  ((s.putMgmt { s.mgmt with queue := q }) : State).setFld 0x70 Mg.HOST_QUEUE_DEPTH q.length

/-- A session ends (R134): its queue is discarded, its handles close, its open commands run on without a
COMPLETION, the claim is released, and HOST_DETACHED carries reason and slot. A message is sent unless the host
closed the session itself or the module reset ended it. -/
def State.endSession (s : State) (k reason : Nat) (tell : Bool := true) : State :=
  if !(s.slot k).active then s
  else
    let s := if tell && reason != Reason.hostClosed then s.tell k (sessionEndMsg k reason) else s
    let s := s.setSlot k {}
    let s := (s.setDest k {}).queueHigh.clearSlotRegs k
    let s := s.setFld 6 Ss.LAST_END_REASON reason k
    let s := s.dropRequests k
    let s := (s.putOpens (s.opens.map fun (o : OpenCmd) => if o.code = 4 + k then { o with reqNo := none } else o))
    let s := if s.host.holder = some k then s.setHolder none else s
    let s := s.putHost { s.host with freedAt := some s.now }
    s.raise 6 1 (reason * 2 ^ 8 + k)

/-- The bandwidth class of a role (R152, R159). -/
def State.roleClass (s : State) (role : Nat) : Nat := (s.reg 6 Ss.ROLE_CLASS_OPERATOR.off).toNat / 4 ^ role % 4

/-- Register requests per second, and LOG_READ bytes per second, of a bandwidth class (R152). -/
def classRate (c : Nat) : Nat := if c = 0 then 8000 else if c = 1 then 4000 else if c = 2 then 2000 else 1000
def classData (c : Nat) : Nat :=
  if c = 0 then 2000000 else if c = 1 then 8000000 else if c = 2 then 40000000 else 80000000

/-- The depths of the two token buckets in thousand-millionths (R152): the 64 KB of the second are 64,000 bytes, as data rates
are counted (DESIGN CHOICE, log entry 105). -/
def reqDepth : Nat := 32 * 1000000000
def dataDepth : Nat := 64000 * 1000000000

/-- A session opened in a slot (R133, R141, R152): the buckets start full and the event stream is stopped. -/
def State.openSession (s : State) (k : Nat) (x : Session) (ref : Nat) : State :=
  let x := { x with active := true, lastDatagram := s.now, keyAt := s.now, reqTok := reqDepth, dataTok := dataDepth, tokAt := s.now }
  let s := s.setSlot k x
  let s := s.setFld 6 Ss.SLOT_STATE_STATE 1 k
  let s := s.setFld 6 Ss.SLOT_STATE_ROLE x.role k
  let s := s.setFld 6 Ss.SLOT_STATE_CLASS (s.roleClass x.role) k
  let s := s.setFld 6 Ss.SLOT_STATE_PORT x.port k
  let s := s.setFld 6 Ss.SLOT_STATE_TIME_UNVERIFIED (bool01 x.unverified) k
  let s := s.setFld 6 Ss.PEER_IP x.ip k
  let s := s.setFld 6 Ss.PEER_UDP x.udp k
  let s := s.setFld 6 Ss.SUBJECT_REF ref k
  let s := s.setFld 6 Ss.REQUESTS 0 k
  let s := s.setFld 6 Ss.BUSY_COUNT 0 k
  let s := s.setFld 6 Ss.SKIPPED_COUNT 0 k
  s.setFld64 6 Ss.OPENED_LO s.time k

/-- A session given a slot by the first rule of R133 that applies; a refused one is told SLOT 0xFF (DESIGN CHOICE, log entry
108). -/
def State.admitSession (s : State) (x : Session) (ref : Nat) : State :=
  match (List.range 4).find? fun k => (s.slot k).active && (s.slot k).subject == x.subject with
  | some k => (s.endSession k Reason.replaced).openSession k x ref
  | none =>
    match (List.range 4).find? fun k => !(s.slot k).active with
    | some k => (s.openSession k x ref).raise 6 0 (x.port * 2 ^ 12 + x.role * 2 ^ 8 + k)
    | none =>
      let s := s.sendOn x.port x.ip x.udp (sessionEndMsg 0xFF Reason.full)
      (s.bump 6 Ss.SLOTS_FULL_COUNT).raise 6 2 (x.port * 2 ^ 12 + Reason.full)

/-- The active address of a port set (R157, R158): ADDRESS_CHANGED when it changes, and the port's sessions, which can go on only
with the address they were opened to, end as those that no datagram reaches (DESIGN CHOICE, log entry 110). -/
def State.setAddress (s : State) (p addr : Nat) : State :=
  if s.fld 5 Pt.IP_ACTIVE p = addr % 2 ^ 32 then s
  else
    let s := (s.setFld 5 Pt.IP_ACTIVE addr p).raise 5 2 p
    s.each ((List.range 4).filter fun k => (s.slot k).active && (s.slot k).port == p) fun s k => s.endSession k Reason.idle false

/-- A port's IEEE 802.1AS role set (R158): PTP_ROLE when it changes. -/
def State.setPtpRole (s : State) (p role : Nat) : State :=
  if s.fld 5 Pt.PTP_PORT_ROLE p = role then s
  else (s.setFld 5 Pt.PTP_PORT_ROLE role p).raise 5 3 (p + role * 2 ^ 8)

/-- The roles of the ports 0 to 3 (R129, R156): slave is the port that carries the grandmaster while one is present, passive
every other selected port with link, disabled the rest, which are not known to be gPTP capable. -/
def State.ptpRoles (s : State) : State :=
  s.each (List.range 4) fun s p =>
    let source := s.flag 0 Dev.TIME_STATUS_GM_PRESENT && s.fld 0 Dev.TIME_STATUS_PORT == p
    if bitAt (s.fld 5 Pt.PTP_CFG_PORT_MASK) p && (s.flag 5 Pt.LINK_UP p || source) then s.setPtpRole p (if source then 1 else 2)
    else (s.setFld 5 Pt.PTP_PORT_AS_CAPABLE 0 p).setPtpRole p 0

/-- A port takes its written configuration into force (R156, R157): a static address takes effect, and DHCP asks anew while the
address in use stays until it answers. -/
def State.takePort (s : State) (p : Nat) : State :=
  let c : PortInForce := ⟨s.reg 5 (Pt.PORT_CFG_ENA.pos p), s.fld 5 Pt.IP_STATIC p, s.fld 5 Pt.PREFIX_LEN p, s.fld 5 Pt.GATEWAY p⟩
  let s := (s.putHost { s.host with ports := s.host.ports.wr none p (some c) })
  if s.flag 5 Pt.PORT_CFG_DHCP p then s else s.setAddress p c.ip

/-- The configuration of a port in force, taken as written where the port trains for the first time since power-on. -/
def State.portInForce (s : State) (p : Nat) : State := if (s.host.ports.rd none p).isSome then s else s.takePort p

/-- A bit of PORT_CFG in force. -/
def State.portBit (s : State) (p : Nat) (f : Field) : Bool := bitsOf (s.portCfg p) f.hi f.lo == 1

/-- A port loses its link (R129, R158). -/
def State.linkLost (s : State) (p : Nat) : State :=
  if !s.flag 5 Pt.LINK_UP p then s
  else
    let s := ((s.setFld 5 Pt.LINK_UP 0 p).setFld 5 Pt.LINK_SPEED 0 p).bump 5 Pt.LINK_DOWNS p
    let s := s.raise 5 1 p
    if p = 4 then s.level 5 5 false else s.ptpRoles

/-- PORT_LINK_UP (R156, R158): an enabled port gains link, on ports 0 to 3 at 1000 Mbit/s where `fast` says so. -/
def execPortLinkUp (t : Nat) (port : Fin 5) (fast : Bool) (s : State) : Host.Outcome State Fault Refusal :=
  let p := port.val
  let s := (s.start t).portInForce p
  .next <|
    if s.flag 5 Pt.LINK_UP p || !s.portBit p Pt.PORT_CFG_ENA then s
    else
      let s := (s.setFld 5 Pt.LINK_UP 1 p).setFld 5 Pt.LINK_SPEED (if fast && p != 4 then 2 else 1) p
      let s := s.raise 5 0 p
      if p = 4 then s.level 5 5 true else s.ptpRoles

/-- PORT_LINK_DOWN (R158): a port loses link, counted in LINK_DOWNS. -/
def execPortLinkDown (t : Nat) (port : Fin 5) (s : State) : Host.Outcome State Fault Refusal :=
  .next ((s.start t).linkLost port.val)

/-- ADDRESS_CHANGED (R156, R158): DHCP gives the port another IPv4 address, or takes it back. -/
def execAddressChanged (t : Nat) (port : Fin 5) (addr : Word) (s : State) : Host.Outcome State Fault Refusal :=
  let s := s.start t
  .next (if s.portBit port.val Pt.PORT_CFG_DHCP then s.setAddress port.val addr.toNat else s)

/-- The value of a unit's own register (log entry 4). -/
def unitReg (page off : Nat) : Nat := (Config.unitValue (Reg.key page off 0)).toNat

/-- Whether a port's announcement is due (R113, R130): once announcements run, 1 s ± 10 ms after its last one, or once a slot has
become free since. -/
def State.announceDue (s : State) (p : Nat) : Bool :=
  let h := s.host
  let last := h.announced.rd 0 p
  decide (h.announceFrom ≤ s.now) &&
    (last == 0 || decide (last + 990000000 ≤ s.now + 1) || (match h.freedAt with | some a => decide (last ≤ a + 1) | none => false))

/-- ANNOUNCE (R130): a port with link and an address sends the announcement, its fields in the order of R130, from UDP port 47101
to the same port of the group. -/
def execAnnounce (t : Nat) (port : Fin 5) (s : State) : Host.Outcome State Fault Refusal :=
  let s := s.start t
  let p := port.val
  .next <|
    if s.flag 5 Pt.ANNOUNCE_ENA && s.flag 5 Pt.LINK_UP p && s.fld 5 Pt.IP_ACTIVE p != 0 && s.announceDue p then
      let free := (List.range 4).foldl (fun m k => if (s.slot k).active then m else m + 2 ^ k) 0
      let s := s.putHost { s.host with announced := s.host.announced.wr 0 p (s.now + 1) }
      let ws := [1, 0xA0, 32, 0x3256, unitReg 0 0x108, unitReg 0 0x10C, s.certRef % 2 ^ 32, s.bootCount,
        free, p, s.laneState .a + 16 * s.laneState .b, s.pstate 0x74, s.fld 4 Pw.CFG_SEQ]
      s.sendOn p (s.fld 5 Pt.MCAST_GROUP) 47101 { kind := .announce, words := ws } 1
    else s

/-- Whether an anchor is trusted for a port (R609): the host anchor on every port, the factory anchor on the service port. -/
def State.portTrusted (s : State) (port : Nat) : Bool :=
  s.flag 0x74 Lc.ANCHORS_HOST || port == 4 && s.flag 0x74 Lc.ANCHORS_FACTORY

/-- A DTLS message to a host that has no slot yet (R131). -/
def dtls (port n : Nat) : OutMsg := { kind := .handshake, words := [port, n] }

/-- CLIENT_HELLO (R131, R609): without the cookie the module answers with one and keeps nothing; with it a handshake
starts, at most 8 at once, and one that asks for what the profile has not is refused. -/
def execClientHello (t : Nat) (port : Fin 5) (ip udp : Nat) (cookie : Bool) (o : DtlsOffer) (s : State) :
    Host.Outcome State Fault Refusal :=
  let s := s.start t
  .next <|
    if !s.portTrusted port.val then s
    else if !o.profile then s.sendOn port.val ip udp (dtls port.val 2)
    else if !cookie then s.sendOn port.val ip udp (dtls port.val 0)
    else if s.host.handshakes.length < 8 then
      let h : Handshake := ⟨port.val, ip, udp, s.now⟩
      let s := (s.putHost { s.host with handshakes := s.host.handshakes ++ [h] })
      s.sendOn port.val ip udp (dtls port.val 1)
    else s

/-- HANDSHAKE_TIMEOUT (R131): handshakes not complete within 5 s are abandoned. -/
def execHandshakeTimeout (t : Nat) (s : State) : Host.Outcome State Fault Refusal :=
  let s := s.start t
  .next (s.putHost { s.host with handshakes := s.host.handshakes.filter fun h => s.now < h.since + 5000000000 })

/-- SESSION_IDLE_TIMEOUT (R134): no datagram for SESSION_TIMEOUT_S ends the session. -/
def execSessionIdleTimeout (t : Nat) (slot : Fin 4) (s : State) : Host.Outcome State Fault Refusal :=
  let s := s.start t
  let x := s.slot slot.val
  .next <|
    if x.active ∧ x.lastDatagram + s.fld 6 Ss.SESSION_TIMEOUT_S * 1000000000 ≤ s.now then
      s.endSession slot.val Reason.idle
    else s

/-- Whether a session's certificate is outside its validity at the present time (R132, R134). -/
def State.certInvalid (s : State) (k : Nat) : Bool :=
  let x := s.slot k
  x.active && !s.clockUnset && (decide (x.notAfter < s.time) || decide (s.time < x.notBefore))

/-- CERT_EXPIRY (R134): a session whose certificate is past its validity ends. -/
def execCertExpiry (t : Nat) (slot : Fin 4) (s : State) : Host.Outcome State Fault Refusal :=
  let s := s.start t
  .next (if s.certInvalid slot.val then s.endSession slot.val Reason.expired else s)

/-- Sessions opened while the clock was unset are checked once the time is known (R132). -/
def State.verifySessions (s : State) : State :=
  if s.clockUnset then s
  else
    s.each (List.range 4) fun s k =>
      if (s.slot k).active && (s.slot k).unverified then
        if s.certInvalid k then s.endSession k Reason.expired
        else (s.setSlot k { s.slot k with unverified := false }).setFld 6 Ss.SLOT_STATE_TIME_UNVERIFIED 0 k
      else s

/-- What one IEEE 802.1AS synchronisation measured (R129): the port, the gPTP domain, the link delay, the grandmaster's identity and
its time at the instant of the command. -/
structure SyncReport where
  port : Nat
  domain : Nat
  delayNs : Nat
  gmId : Nat
  gmTime : Nat
  deriving DecidableEq, Repr

/-- A synchronisation applied (R68, R71, R129): the time of day takes the grandmaster's, and the status follows. TIME_OFFSET is
local time less grandmaster time (DESIGN CHOICE, log entry 103). -/
def State.timeSync (s : State) (r : SyncReport) : State :=
  if r.port ≥ 4 ∨ !bitAt (s.fld 5 Pt.PTP_CFG_PORT_MASK) r.port ∨ r.domain ≠ s.fld 5 Pt.PTP_CFG_DOMAIN then s
  else
    let off : Int := (s.time : Int) - (r.gmTime : Int)
    let s := (s.putClock ((r.gmTime : Int) - (s.now : Int)) false).putHost { s.host with gmLost := none }
    let s := s.setSfld 0 Dev.TIME_OFFSET (saturateSigned 32 off)
    let s := (s.setFld 0 Dev.TIME_STATUS_SYNCED 1).setFld 0 Dev.TIME_STATUS_GM_PRESENT 1
    let s := (s.setFld 0 Dev.TIME_STATUS_FROM_RTC 0).setFld 0 Dev.TIME_STATUS_PORT r.port
    let s := s.timeStep (-off)
    let s := if s.fld64 0 Dev.GM_ID_LO = r.gmId % 2 ^ 64 then s else (s.setFld64 0 Dev.GM_ID_LO r.gmId).raise 0 4
    let s := (s.setFld 5 Pt.PTP_PORT_PDELAY_NS r.delayNs r.port).setFld 5 Pt.PTP_PORT_AS_CAPABLE 1 r.port
    (s.ptpRoles.level 0 1 true).verifySessions

/-- EVENT_RESEND (R141): the records not acknowledged 200 ms after they were sent go again, at most 48 to a
message. -/
def execEventResend (t : Nat) (slot : Fin 4) (s : State) : Host.Outcome State Fault Refusal :=
  let s := s.start t
  let q := s.dest slot.val
  let due := (q.recs.filter fun r => r.sentAt + 200000000 ≤ s.now).take 48
  .next <|
    if due = [] ∨ !(s.slot slot.val).active then s
    else
      let q := { q with recs := q.recs.map fun r => if due.contains r then { r with sentAt := s.now } else r }
      (s.setDest slot.val q).sendEvents slot.val (due.map (·.record))

/-- LOG_HANDLE_IDLE (R562): a handle with no LOG_READ for 60 s closes. -/
def execLogHandleIdle (t : Nat) (slot : Fin 4) (s : State) : Host.Outcome State Fault Refusal :=
  let s := s.start t
  let x := s.slot slot.val
  .next (s.setSlot slot.val { x with handles := x.handles.filter fun h => s.now < h.lastUse + 60000000000 })

/-- PORT_RESTART (R156, R157): the port takes its configuration, its link is negotiated anew, which a disabled port does not come
back from, and DHCP asks anew. -/
def cmdPortRestart : Cmd where
  opc := 0x01
  kinds := (· == .hostPorts)
  range := fun _ ch _ _ => ch ≤ 4
  allow := fun s q _ _ =>
    if q.code ≥ 4 ∧ (s.slot (q.code - 4)).active ∧ (s.slot (q.code - 4)).port = q.chan then RC.state else 0
  act := fun s q _ _ => ((s.linkLost q.chan).takePort q.chan, RC.done)

def execPortRestart (t : Nat) (q : Req) (s : State) : Host.Outcome State Fault Refusal :=
  .next ((s.start t).command q cmdPortRestart)

/-- CONSIST_REPORT (R155, R157): a report with another topology counter is stored and raises CONSIST_CHANGED. -/
def cmdConsistReport : Cmd where
  opc := 0x02
  kinds := (· == .hostPorts)
  range := fun _ ch _ b =>
    let pos := b / 2 ^ 8 % 2 ^ 8
    let n := b % 2 ^ 8
    ch == 0 && decide (1 ≤ pos ∧ pos ≤ 63 ∧ 1 ≤ n ∧ n ≤ 63 ∧ pos ≤ n)
  act := fun s _ a b =>
    if s.fld 5 Pt.CONSIST_TOPO = a then (s, RC.done)
    else
      let s := s.setFld 5 Pt.CONSIST_TOPO a
      let s := s.setReg 5 Pt.CONSIST_INFO_COUNT.off (BitVec.ofNat 32 (b % 2 ^ 17))
      (s.raise 5 4 a, RC.done)

def execConsistReport (t : Nat) (q : Req) (s : State) : Host.Outcome State Fault Refusal :=
  .next ((s.start t).command q cmdConsistReport)

/-- CFG_CLAIM (R150, R160, R161): the requester becomes claim holder; FORCE needs the role ADMINISTRATOR. -/
def cmdCfgClaim : Cmd where
  opc := 0x01
  kinds := (· == .hostRights)
  rights := fun s q a => a % 2 == 0 || s.hostRole q.code 2
  allow := fun s q a _ =>
    if s.host.holder.isSome ∧ !s.hasClaim q.code ∧ a % 2 = 0 then RC.state
    else 0
  act := fun s q _ _ => (s.setHolder (some (q.code - 4)), RC.done)

def execCfgClaim (t : Nat) (q : Req) (s : State) : Host.Outcome State Fault Refusal :=
  .next ((s.start t).command q cmdCfgClaim)

/-- CFG_RELEASE (R160, R161): the holder gives the claim up. -/
def cmdCfgRelease : Cmd where
  opc := 0x02
  kinds := (· == .hostRights)
  allow := fun s q _ _ => if s.hasClaim q.code then 0 else RC.state
  act := fun s _ _ _ => (s.setHolder none, RC.done)

def execCfgRelease (t : Nat) (q : Req) (s : State) : Host.Outcome State Fault Refusal :=
  .next ((s.start t).command q cmdCfgRelease)

/-- SESSION_CLOSE (R160): an administrator ends the session of a slot, after the reply. -/
def cmdSessionClose : Cmd where
  opc := 0x03
  kinds := (· == .hostRights)
  who := .admin
  range := fun _ ch _ _ => ch ≤ 3
  allow := fun s q _ _ => if (s.slot q.chan).active then 0 else RC.state
  act := fun s _ _ _ => (s, RC.done)
  after := fun s q => s.endSession q.chan Reason.admin

def execSessionClose (t : Nat) (q : Req) (s : State) : Host.Outcome State Fault Refusal :=
  .next ((s.start t).command q cmdSessionClose)

/-- COUNTERS_CLEAR of page 0x06 (R160). -/
def cmdHostClear : Cmd where
  opc := 0x04
  kinds := (· == .hostRights)
  act := fun s _ _ _ =>
    (((s.setFld 6 Ss.SLOTS_FULL_COUNT 0).setFld 6 Ss.AUTH_FAIL_COUNT 0).setReg 6 Ss.LAST_AUTH_FAIL_PORT.off 0, RC.done)

def execHostCountersClear (t : Nat) (q : Req) (s : State) : Host.Outcome State Fault Refusal :=
  .next ((s.start t).command q cmdHostClear)

/-- TIME_SYNC (R129): a synchronisation from the grandmaster updates time of day and TIME_STATUS. -/
def execTimeSync (t : Nat) (port : Fin 4) (domain delayNs gmId gmTime : Nat) (s : State) : Host.Outcome State Fault Refusal :=
  .next ((s.start t).timeSync ⟨port.val, domain, delayNs, gmId, gmTime⟩)

/-- GRANDMASTER_LOST (R68, R129): GM_PRESENT falls, no port is slave, and the holdover begins. -/
def execGrandmasterLost (t : Nat) (s : State) : Host.Outcome State Fault Refusal :=
  let s := s.start t
  .next <|
    if s.flag 0 Dev.TIME_STATUS_GM_PRESENT then
      (((s.setFld 0 Dev.TIME_STATUS_GM_PRESENT 0).putHost { s.host with gmLost := some s.now }) : State).ptpRoles
    else s

/-- RTC_SET (R72, R132): the internal real-time clock is set while not synchronised; sessions whose certificates could not be
checked against the time are checked now. -/
def cmdRtcSet : Cmd where
  opc := 0x02
  kinds := (· == .device)
  who := .cfgHost
  allow := fun s _ _ _ => if s.flag 0 Dev.TIME_STATUS_SYNCED then RC.state else 0
  act := fun s _ a b => (s.setTime (a + 2 ^ 32 * b), RC.done)
  after := fun s _ => s.verifySessions

def execRtcSet (t : Nat) (q : Req) (s : State) : Host.Outcome State Fault Refusal :=
  .next ((s.start t).command q cmdRtcSet)

end Sys2Proof.Machine
end

