-- ==== Sys2Proof/Machine/Slots.lean ====
section
/-! DEFINITION. The slots of the update targets (R587, R591, R601). -/

namespace Sys2Proof.Machine

/-- The container in the active and in the other slot of an instance, 0 LANE_FW A to 6 CONFIG B (R601). -/
def State.activeSlot (s : State) (n : Nat) : Option Container := s.mgmt.active.rd none n
def State.otherSlot (s : State) (n : Nat) : Option Container := s.mgmt.other.rd none n

/-- The unit's own firmware version of an instance (log entry 4). -/
def unitVersion (n : Nat) : Nat := (Config.unitValue (Reg.key 0 (0x110 + 4 * n) 0)).toNat

/-- The version of the firmware that an instance runs (FW_VER of R68): that of the slot it has booted. -/
def State.fwVersion (s : State) (n : Nat) : Nat := (s.mgmt.running.rd none n).getD (unitVersion n)

/-- TRIAL and VERSION_MIXED of page 0x73 brought to their conditions (R603). -/
def State.showTrials (s : State) : State :=
  let trial := (List.range 7).any fun n => s.flag 0x73 Up.SLOT_STATE_TRIAL n
  (s.level 0x73 3 trial).level 0x73 4 (s.fwVersion 0 != s.fwVersion 1)

/-- An instance has booted its active slot, whose version runs from now on (R68, R603). -/
def State.fwBoots (s : State) (n : Nat) : State :=
  let m := s.mgmt
  (s.putMgmt { m with running := m.running.wr none n ((s.activeSlot n).map fun c => c.version % 2 ^ 32) }).showTrials

/-- What the two slots of an instance hold (R601). -/
def State.setSlots (s : State) (n : Nat) (active other : Option Container) : State :=
  let m := s.mgmt
  (s.putMgmt { m with active := m.active.wr none n active, other := m.other.wr none n other })

/-- The slots of an instance change places (R590, R602). -/
def State.swapSlots (s : State) (n : Nat) : State :=
  let va := s.fld 0x73 Up.VER_ACTIVE n
  let vo := s.fld 0x73 Up.VER_OTHER n
  let s := s.setSlots n (s.otherSlot n) (s.activeSlot n)
  let s := (s.setFld 0x73 Up.VER_ACTIVE vo n).setFld 0x73 Up.VER_OTHER va n
  s.setFld 0x73 Up.SLOT_STATE_ACTIVE (1 - s.fld 0x73 Up.SLOT_STATE_ACTIVE n) n

/-- The other slot of an instance marked invalid (R591). -/
def State.spoilOther (s : State) (n : Nat) : State :=
  (s.setSlots n (s.activeSlot n) none).setFld 0x73 Up.SLOT_STATE_OTHER_VALID 0 n

/-- The state of page 0x73 changed, with UPD_STATE (R603). -/
def State.setUpd (s : State) (n : Nat) : State :=
  let old := s.pstate 0x73
  if old = n then s else (s.setPstate 0x73 n).raise 0x73 0 (old * 2 ^ 8 + n)

/-- The UPDATE entry of the management log (R580). -/
def State.updLog (s : State) (result : Nat) : State :=
  s.mlog 3 ((leBytes 4 (s.fld 0x73 Up.UPD_SESSION_TARGET)) ++ leBytes 4 (s.fld 0x73 Up.UPD_SESSION_STEP) ++ leBytes 4 result
    ++ leBytes 4 (s.fld 0x73 Up.UPD_VERSION_VERSION))

/-- An update session ended (R602, R603): RESULT and STEP, the event, and the open command's result. -/
def State.endUpdate (s : State) (result : Nat) : State :=
  let step := s.fld 0x73 Up.UPD_SESSION_STEP
  let target := s.fld 0x73 Up.UPD_SESSION_TARGET
  let s := ((s.setFld 0x73 Up.UPD_RESULT_RESULT result).setFld 0x73 Up.UPD_RESULT_STEP step).updLog result
  let s := (s.putMgmt { s.mgmt with
    staged := none, staging := [], chunks := [], activating := [], rollback := false })
  let s := (s.setFld 0x73 Up.UPD_SESSION_STEP 0).setUpd 0
  let s := if result = 1 then s.raise 0x73 1 target else if result = 9 then s else s.raise 0x73 2 (step * 2 ^ 8 + result)
  s.completeAll (fun o => o.page == 0x73) (if result = 1 then RC.done else RC.aborted)

/-- An activation in progress ended by a reset of its part of the module (R594). -/
def State.resetEndsUpdate (s : State) : State :=
  if s.pstate 0x73 = 4 ∧ (List.range 3).any (fun n => s.flag 0x73 Up.SLOT_STATE_TRIAL n) then s.endUpdate 8 else s

/-- A slot on trial abandoned (R591): the instance returns to the slot it ran before, and the abandoned slot is invalid. -/
def State.trialAbandon (s : State) (n : Nat) : State :=
  if s.flag 0x73 Up.SLOT_STATE_TRIAL n then
    (((s.setFld 0x73 Up.SLOT_STATE_TRIAL 0 n).swapSlots n).spoilOther n).showTrials
  else s

/-- The slot that passes management's check (R113): the other one where the active one fails its check, which is invalid from then on.
Where neither passes, management does not start (DESIGN CHOICE, log entry 95). -/
def State.chooseMgmt (s : State) (f : SlotFound) : State :=
  if f.active then s
  else if !f.other then s.putMgmt { s.mgmt with fwBad := true }
  else if s.flag 0x73 Up.SLOT_STATE_TRIAL 2 then s.trialAbandon 2
  else ((s.swapSlots 2).spoilOther 2).showTrials

/-- Management boots the slot that passes its check (R113, R592). -/
def State.bootMgmt (s : State) (f : SlotFound) : State := (s.chooseMgmt f).fwBoots 2

end Sys2Proof.Machine
end

