-- ==== Sys2Proof/Machine/LifeCycle.lean ====
section
/-! DEFINITION. Identity, life cycle and the rind (R604-R622). -/

namespace Sys2Proof.Machine

/-- The anchors trusted in the present state (R609), from the anchors held, and the deny list's length. -/
def State.showAnchors (s : State) (host content : Bool) : State :=
  let st := s.lifeCycle
  let s := s.setFld 0x74 Lc.ANCHORS_HOST (bool01 (host && (st == 1 || st == 2)))
  let s := s.setFld 0x74 Lc.ANCHORS_CONTENT (bool01 (content && st != 4))
  let s := s.setFld 0x74 Lc.ANCHORS_FACTORY (bool01 (st == 0 || st == 1 || st == 3))
  s.setFld 0x74 Lc.ANCHORS_DENY_COUNT (min 192 s.lc.deny.length)

/-- The anchors held, kept across states by their references: an anchor that is held has one. -/
def State.hostAnchor (s : State) : Bool := s.lc.hostAnchor
def State.contentAnchor (s : State) : Bool := s.lc.contentAnchor

/-- What is armed in a state (R612). -/
def State.showArmed (s : State) : State :=
  let st := s.lifeCycle
  (s.setFld 0x74 Lc.RIND_STATUS_ARMED (bool01 (decide (1 ≤ st ∧ st ≤ 3)))).setFld 0x74 Lc.RIND_STATUS_SEAL_ARMED (bool01 (st == 2))

/-- COMMIT_PENDING (R616) and its level event. -/
def State.setCommit (s : State) (on : Bool) : State :=
  let s := (s.putLc { s.lc with commitAt := if on then some s.now else none })
  (s.setFld 0x74 Lc.LC_STATUS_COMMIT_PENDING (bool01 on)).level 0x74 3 on

/-- The life-cycle state changed (R616): page and status, what is armed and trusted, LC_ERASED; a transition wipes both
secure regions (R534). -/
def State.enterLc (s : State) (st : Nat) : State :=
  let old := s.lifeCycle
  let s := (s.setFld 0x74 Lc.LC_STATUS_STATE st).setPstate 0x74 st
  let s := (s.showArmed.showAnchors s.hostAnchor s.contentAnchor).level 0x74 2 (st == 3)
  if old = st then s else s.wipe (s.secPowered .a) (s.secPowered .b) 2 2

/-- A transition that is reported at once (R622). -/
def State.changeLc (s : State) (st : Nat) : State :=
  let old := s.lifeCycle
  let s := s.enterLc st
  if old = st then s else s.raise 0x74 0 (old * 2 ^ 8 + st)

/-- PROV_COMMIT given up (R616). -/
def State.dropCommit (s : State) : State :=
  if s.flag 0x74 Lc.LC_STATUS_COMMIT_PENDING then
    (s.setCommit false).completeAll (fun o => o.page == 0x74 && o.opc == 0x05) RC.aborted
  else s

/-- An image of an old Vat key is no image any more (R614). -/
def ConfigImage.unreadable (i : ConfigImage) : ConfigImage := { i with valid := false }
def Container.unreadable (c : Container) : Container := 
  { c with program := c.program.map (fun i => { i with valid := false }), config := c.config.map (·.unreadable) }

/-- What partition 2 held under the old Vat keys can no longer be read (R546, R614): the configuration images and those of the
program slots, none of which is valid. -/
def State.dropImages (s : State) : State :=
  let p := s.power
  let both (x : PerLane ConfigImage) : PerLane ConfigImage := ⟨x.a.unreadable, x.b.unreadable⟩
  let s := s.putPower { p with active := both p.active, previous := both p.previous }
  s.each [3, 4, 5, 6] fun s n =>
    (s.setSlots n ((s.activeSlot n).map (·.unreadable)) ((s.otherSlot n).map (·.unreadable))).setFld 0x73 Up.SLOT_STATE_OTHER_VALID 0 n

/-- The breaches whose report was still due, reported (R613, R622). -/
def State.tellBreaches (s : State) : State :=
  let st := s.lifeCycle
  s.lc.breach.foldl (fun s x =>
    let s := if x.1 = st then s else s.raise 0x74 0 (x.1 * 2 ^ 8 + st)
    if x.2 ≤ 5 then s.raise 0x74 1 (2 ^ 8 + x.2) else s) (s.putLc { s.lc with breach := [] })

/-- The erase sequence (R608, R613, R614): the key store and the secure regions, the anchors, every session without a
message; the events and the new keys follow (R617). `us` is how long zeroising took. -/
def State.erase (s : State) (cause us dest_ : Nat) : State :=
  let old := s.lifeCycle
  let s := s.dropCommit
  let s := if cause ≤ 5 then s.wipe (s.secPowered .a) (s.secPowered .b) 1 2
    else if old = dest_ then s.wipe (s.secPowered .a) (s.secPowered .b) 2 2 else s
  let s := (s.setFld 0x74 Lc.RIND_STATUS_KEYSTORE_VALID 0).setFld 0x74 Lc.ERASE_US (saturate 16 us)
  let s := (s.putLc { s.lc with deny := [], hostAnchor := false, contentAnchor := false, keysDue := dest_ == 3, fromErased := true })
  let s := ((s.setFld 0x74 Lc.HOST_ANCHOR_REF 0).setFld 0x74 Lc.CONTENT_ANCHOR_REF 0).enterLc dest_
  let s := (s.bump 0x74 Lc.ERASE_COUNT).setFld 0x74 Lc.LC_STATUS_ERASE_CAUSE cause
  let s := s.setFld64 0x74 Lc.ERASE_TIME_LO s.time
  let s := (s.putHost { s.host with handshakes := [] })
  let s := s.each (List.range 4) fun s k => s.endSession k Reason.hostClosed false
  let s := (s.putLc { s.lc with breach := s.lc.breach ++ [(old, cause)] }).dropImages
  if dest_ = 3 then s else s.tellBreaches

/-- Whether a cause is armed in the present state (R612); the key store is checked at boot. -/
def State.rindArmed (s : State) (cause : Nat) : Bool :=
  let st := s.lifeCycle
  if cause = 3 then st == 2
  else if cause = 5 then st == 1 || st == 2
  else if cause = 4 then decide (1 ≤ st ∧ st ≤ 3) && s.flag 0x74 Lc.RIND_CFG_COLD_ENA
  else decide (1 ≤ st ∧ st ≤ 3)

/-- The inputs of the rind as the monitor finds them (R612, R620): both traces of the mesh at 20 to 45 kΩ, in 100 Ω; the lid switches
and the seal, bits 1 to 3 of `switches`; the standby sensor in 0.1 °C. -/
def State.showInputs (s : State) (switches traceA traceB : Nat) (temp : Int) : State :=
  let mesh := decide (200 ≤ traceA ∧ traceA ≤ 450 ∧ 200 ≤ traceB ∧ traceB ≤ 450)
  let s := (s.setFld 0x74 Lc.RIND_STATUS_MESH_OK (bool01 mesh)).setFld 0x74 Lc.RIND_STATUS_LID1_OK (bool01 (bitAt switches 1))
  let s := (s.setFld 0x74 Lc.RIND_STATUS_LID2_OK (bool01 (bitAt switches 2))).setFld 0x74 Lc.RIND_STATUS_SEAL_OK (bool01 (bitAt switches 3))
  let s := s.setFld 0x74 Lc.RIND_STATUS_TEMP_OK (bool01 (decide (-600 ≤ temp)))
  ((s.setFld 0x74 Lc.MESH_R_TRACE_A (saturate 16 traceA)).setFld 0x74 Lc.MESH_R_TRACE_B (saturate 16 traceB)).setSfld 0x74
    Lc.RIND_TEMP (saturateSigned 16 temp)

/-- Whether an input is outside its normal condition (R612); the check word of the key store is verified with the cause. -/
def State.rindOpen (s : State) (cause : Nat) : Bool :=
  match cause with
  | 1 => !s.flag 0x74 Lc.RIND_STATUS_MESH_OK
  | 2 => !s.flag 0x74 Lc.RIND_STATUS_LID1_OK || !s.flag 0x74 Lc.RIND_STATUS_LID2_OK
  | 3 => !s.flag 0x74 Lc.RIND_STATUS_SEAL_OK
  | 4 => !s.flag 0x74 Lc.RIND_STATUS_TEMP_OK && s.flag 0x74 Lc.RIND_CFG_COLD_ENA
  | _ => true

/-- RIND_BREACH (R612, R613): an input has been outside its normal condition for 10 µs, or the cold sensor at two samples; of two that
qualify together the one with the lower code. Where what is found is normal, nothing but the display follows. -/
def execRindBreach (t : Nat) (cause : Fin 5) (inputs : Fin 32) (traceA traceB : Nat) (temp : Int) (us : Nat) (s : State) :
    Host.Outcome State Fault Refusal :=
  let s := (s.start t).showInputs inputs.val traceA traceB temp
  let c := cause.val + 1
  .next <|
    if !s.rindOpen c then s
    else
      let s := s.bump 0x74 Lc.BREACH_COUNT
      if s.rindArmed c then s.erase c us 3 else s.raise 0x74 1 c

/-- KEY_GENERATION_DONE (R617, R613): new root, identity, Vat and content keys while the common rail is present. -/
def execKeyGenerationDone (t : Nat) (s : State) : Host.Outcome State Fault Refusal :=
  let s := s.start t
  .next <|
    if !s.lc.keysDue || !s.power.common then s
    else
      let s1 := (s.setFld 0x74 Lc.IDENTITY_GEN ((s.fld 0x74 Lc.IDENTITY_GEN + 1) % 2 ^ 16)).setFld 0x74 Lc.IDENTITY_PROVISIONAL 1
      let s1 := s1.setFld 0x74 Lc.RIND_STATUS_KEYSTORE_VALID 1
      (s1.putLc { s1.lc with keysDue := false, vatKeyGen := (s1.lc.vatKeyGen + 1) % 2 ^ 16 }).tellBreaches

/-- SEAL_CLOSED (R616): the seal has been closed for 1 s. -/
def execSealClosed (t : Nat) (s : State) : Host.Outcome State Fault Refusal :=
  let s := s.start t
  let s := s.setFld 0x74 Lc.RIND_STATUS_SEAL_OK 1
  .next <|
    if s.lifeCycle = 1 ∧ s.flag 0x74 Lc.LC_STATUS_COMMIT_PENDING then
      ((s.setCommit false).changeLc 2).completeAll (fun o => o.page == 0x74 && o.opc == 0x05) RC.done
    else s

/-- SEAL_WAIT_EXPIRY (R616). -/
def execSealWaitExpiry (t : Nat) (s : State) : Host.Outcome State Fault Refusal :=
  let s := s.start t
  .next <|
    match s.lc.commitAt with
    | some at_ => if at_ + s.fld 0x74 Lc.RIND_CFG_SEAL_WAIT_S * 1000000000 ≤ s.now then s.dropCommit else s
    | none => s

/-- FACTORY_CLOSE (R616, R619, R621). -/
def cmdFactoryClose : Cmd where
  opc := 0x01
  kinds := (· == .lifeCycle)
  who := .factory
  allow := fun s _ _ _ => if s.lifeCycle = 0 ∧ !s.flag 0x74 Lc.IDENTITY_PROVISIONAL then 0 else RC.state
  act := fun s _ _ _ => ((s.bump 0x74 Lc.PROV_COUNT).changeLc 1, RC.done)

def execFactoryClose (t : Nat) (q : Req) (s : State) : Host.Outcome State Fault Refusal :=
  .next ((s.start t).command q cmdFactoryClose)

/-- PROV_BEGIN (R616, R619, R621). -/
def cmdProvBegin : Cmd where
  opc := 0x02
  kinds := (· == .lifeCycle)
  who := .factory
  allow := fun s _ _ _ => if s.lifeCycle = 3 ∧ !s.lc.keysDue then 0 else RC.state
  act := fun s _ _ _ => ((s.bump 0x74 Lc.PROV_COUNT).changeLc 1, RC.done)

def execProvBegin (t : Nat) (q : Req) (s : State) : Host.Outcome State Fault Refusal :=
  .next ((s.start t).command q cmdProvBegin)

/-- Whether R618 admits CERT_INSTALL or the deny list in the present state: PROVISIONING, or OPERATIONAL from an
administrator. -/
def State.certState (s : State) (code : Nat) : Bool := s.lifeCycle == 1 || s.lifeCycle == 2 && s.hostRole code 2

/-- CERT_INSTALL (R605, R606, R621): `c` is what the certificate in the window is found to be. -/
def cmdCertInstall (c : CertFound) : Cmd where
  opc := 0x03
  kinds := (· == .lifeCycle)
  who := .rolesClaim 12
  range := fun s ch _ _ => ch == 0 && s.fld 0x74 Lc.WIN_CTRL_KIND == 2 && c.ok
  allow := fun s q _ _ => if s.certState q.code then 0 else RC.state
  act := fun s _ _ _ =>
    let s := (s.putLc { s.lc with ownRef := some (c.ref % 2 ^ 64) })
    let s := (s.setFld 0x74 Lc.IDENTITY_PROVISIONAL 0).setFld64 0x74 Lc.CERT_NOT_AFTER_LO (c.notAfter % 2 ^ 64)
    (s.raise 0x74 4 (c.ref % 2 ^ 16), RC.done)

def execCertInstall (t : Nat) (q : Req) (c : CertFound) (s : State) : Host.Outcome State Fault Refusal :=
  .next ((s.start t).command q (cmdCertInstall c))

/-- The 16-byte entries of the window as numbers (R620). -/
def State.winEntries (s : State) (n : Nat) : List Nat :=
  (List.range (n / 16)).map fun i => (List.range 4).foldr (fun j v => (s.fld 0x74 Lc.LC_WIN (4 * i + j)) + 2 ^ 32 * v) 0

/-- ANCHOR_SET (R618, R621): `c` is what the certificate in the window is found to be, for KIND 3 and 4. -/
def cmdAnchorSet (c : CertFound) : Cmd where
  opc := 0x04
  kinds := (· == .lifeCycle)
  who := .rolesClaim 12
  range := fun s ch _ _ =>
    let k := s.fld 0x74 Lc.WIN_CTRL_KIND
    ch == 0 && ((k == 3 || k == 4) && c.ok || k == 5 && s.fld 0x74 Lc.WIN_CTRL_LEN % 16 == 0)
  allow := fun s q _ _ =>
    if s.fld 0x74 Lc.WIN_CTRL_KIND = 5 then (if s.certState q.code then 0 else RC.state)
    else if s.lifeCycle = 1 then 0 else RC.state
  act := fun s _ _ _ =>
    let k := s.fld 0x74 Lc.WIN_CTRL_KIND
    let s := match k with
      | 3 => (s.putLc { s.lc with hostAnchor := true })
      | 4 => (s.putLc { s.lc with contentAnchor := true })
      | _ => (s.putLc { s.lc with deny := s.winEntries (s.fld 0x74 Lc.WIN_CTRL_LEN) })
    let s := match k with
      | 3 => s.setFld 0x74 Lc.HOST_ANCHOR_REF (c.ref % 2 ^ 32)
      | 4 => s.setFld 0x74 Lc.CONTENT_ANCHOR_REF (c.ref % 2 ^ 32)
      | _ => s
    (s.showAnchors s.hostAnchor s.contentAnchor, RC.done)

def execAnchorSet (t : Nat) (q : Req) (c : CertFound) (s : State) : Host.Outcome State Fault Refusal :=
  .next ((s.start t).command q (cmdAnchorSet c))

/-- PROV_COMMIT (R616, R621). -/
def cmdProvCommit : Cmd where
  opc := 0x05
  kinds := (· == .lifeCycle)
  who := .rolesClaim 12
  allow := fun s _ _ _ =>
    if s.lifeCycle = 1 ∧ !s.flag 0x74 Lc.IDENTITY_PROVISIONAL ∧ s.hostAnchor ∧ s.contentAnchor then 0 else RC.state
  act := fun s _ _ _ => (s.setCommit true, RC.accepted)

def execProvCommit (t : Nat) (q : Req) (s : State) : Host.Outcome State Fault Refusal :=
  .next ((s.start t).command q cmdProvCommit)

/-- REPROVISION (R616, R619, R621): identity and anchors are kept. -/
def cmdReprovision : Cmd where
  opc := 0x06
  kinds := (· == .lifeCycle)
  who := .admin
  allow := fun s _ _ _ => if s.lifeCycle = 2 ∧ s.maintenance then 0 else RC.state
  act := fun s _ _ _ =>
    (((s.putLc { s.lc with fromErased := false }).bump 0x74 Lc.PROV_COUNT).changeLc 1, RC.done)

def execReprovision (t : Nat) (q : Req) (s : State) : Host.Outcome State Fault Refusal :=
  .next ((s.start t).command q cmdReprovision)

/-- ERASE (R613, R621): the result is written before the sessions end. -/
def cmdErase (us : Nat) : Cmd where
  opc := 0x07
  kinds := (· == .lifeCycle)
  who := .admin
  allow := fun s _ _ _ => if s.lifeCycle = 0 ∨ s.lifeCycle = 4 then RC.state else 0
  act := fun s _ _ _ => (s, RC.done)
  after := fun s _ => s.erase 6 us 3

def execEraseKeys (t : Nat) (q : Req) (us : Nat) (s : State) : Host.Outcome State Fault Refusal :=
  .next ((s.start t).command q (cmdErase us))

/-- RETIRE (R616, R619, R621): the serial number confirms it. -/
def cmdRetire (us : Nat) : Cmd where
  opc := 0x08
  kinds := (· == .lifeCycle)
  who := .admin
  range := fun _ ch a b => ch == 0 && a == unitReg 0 Dev.SERIAL_LO.off && b == unitReg 0 Dev.SERIAL_HI.off
  act := fun s _ _ _ => (s, RC.done)
  after := fun s _ => s.erase 7 us 4

def execRetire (t : Nat) (q : Req) (us : Nat) (s : State) : Host.Outcome State Fault Refusal :=
  .next ((s.start t).command q (cmdRetire us))

end Sys2Proof.Machine
end

