-- ==== Sys2Proof/Machine/SafeUnit.lean ====
section
/-! DEFINITION. The safety unit (chapter 18): its states, its halves and the safe outputs. -/

namespace Sys2Proof.Machine

/-- The safety unit and a lane's half. -/
def State.modSafe (s : State) (f : SafeRec → SafeRec) : State := { s with safe := f s.safe }
def State.half (s : State) (l : Lane) : HalfRec := s.safe.halves.of l
def State.setHalf (s : State) (l : Lane) (h : HalfRec) : State := s.modSafe fun x => { x with halves := x.halves.set l h }

/-- A safe output. -/
def State.so (s : State) (k : Nat) : SoRec := s.safe.outs.rd {} k
def State.setSo (s : State) (k : Nat) (o : SoRec) : State := s.modSafe fun x => { x with outs := x.outs.wr {} k o }

/-- The state of an output (R498). -/
def State.soState (s : State) (k : Nat) : Nat := s.fld 0x62 So.SO_STATUS_STATE k

/-- The enable of an output as the stage reads it (R487). -/
def State.enable (s : State) (l : Lane) (k : Nat) : Bool :=
  (bitAt (s.half l).drive k || bitAt (s.half l).stuck k) && !bitAt (s.half l).lost k

/-- Gate 3 of R493. -/
def State.gate3 (s : State) (k : Nat) : Bool := s.pstate 0x60 == 1 || (s.pstate 0x60 == 5 && s.flag 0x62 So.SO_CFG_MAINT_ENA k)

/-- SO_SUMMARY and SO_FAULT (R521, R523). -/
def State.showOutputs (s : State) (arg : Nat) : State :=
  let mask (f : Nat → Bool) : Nat := ((List.range 8).map fun k => bool01 (f k) * 2 ^ k).sum
  let bad := mask fun k => s.soState k == 2
  let s := (s.setFld 0x62 So.SO_SUMMARY_FAULT bad).setFld 0x62 So.SO_SUMMARY_ON (mask fun k => s.soState k == 1)
  let s := (s.setFld 0x62 So.SO_SUMMARY_ENA_A (mask (s.enable .a))).setFld 0x62 So.SO_SUMMARY_ENA_B (mask (s.enable .b))
  s.level 0x62 1 (bad != 0) arg

/-- An output enters a state (R498, R523); its coils are energised in ON alone. -/
def State.setSoState (s : State) (k v arg : Nat) : State :=
  let old := s.soState k
  if old = v then s
  else
    let s := (s.setFld 0x62 So.SO_STATUS_STATE v k).raise 0x62 0 (k * 2 ^ 8 + old * 2 ^ 4 + v)
    let s := if v = 1 then
        (s.bump 0x62 So.SWITCHINGS k).setSo k { s.so k with coilAt := some s.now, onAt := s.now, pulled := false, dropAt := none, releaseAt := none }
      else if old = 1 then s.setSo k { s.so k with coilAt := some s.now, dropAt := some s.now, releaseAt := some s.now }
      else s
    s.showOutputs arg

/-- A failed check (R496-R498). -/
def State.soFault (s : State) (k cause : Nat) : State :=
  if s.soState k = 2 then s
  else
    let s := (s.setFld 0x62 So.SO_STATUS_CAUSE cause k).bump 0x62 So.FAULT_COUNT k
    let s := if s.soState k = 1 then s.setFld 0x62 So.LAST_OFF_CAUSE 5 k else s
    s.setSoState k 2 (k * 2 ^ 8 + cause)

/-- Why an output that is ON must go off (R521), 0 while every gate is true. -/
def State.offCause (s : State) (k : Nat) : Nat :=
  match s.enable .a k, s.enable .b k with
  | false, false => 3
  | false, true => 1
  | true, false => 2
  | true, true => if s.gate3 k then 0 else 4

/-- An output brought to what its gates give (R493, R495, R497, R498). -/
def State.driveSo (s : State) (k : Nat) : State :=
  let a := s.enable .a k
  let b := s.enable .b k
  let s := (s.setFld 0x62 So.SO_STATUS_ENA_A (bool01 a) k).setFld 0x62 So.SO_STATUS_ENA_B (bool01 b) k
  let o := s.so k
  let s := s.setSo k { o with discAt := if a != b then some (o.discAt.getD s.now) else none }
  let c := s.offCause k
  let st := s.soState k
  let s :=
    if st = 1 ∧ c ≠ 0 then (s.setFld 0x62 So.LAST_OFF_CAUSE c k).setSoState k 0 0
    else if st = 0 ∧ c = 0 then
      if s.flag 0x62 So.SO_CFG_EDM_ENA k && !s.flag 0x62 So.SO_STATUS_EDM k then s.soFault k 4 else s.setSoState k 1 0
    else s
  s.showOutputs 0

/-- Every output brought to what its gates give. -/
def State.driveOutputs (s : State) : State := s.each (List.range 8) State.driveSo

/-- The unit enters a state (R488, R516): `cause` is 0 where no trip is. -/
def State.setSafeState (s : State) (v cause : Nat) : State :=
  let old := s.pstate 0x60
  if old = v then s
  else
    let s := ((s.setPstate 0x60 v).setFld 0x60 Sf.SAFE_STATUS_STATE v).raise 0x60 0 (cause * 2 ^ 16 + old * 2 ^ 8 + v)
    let s := if v = 2 then
        ((s.bump 0x60 Sf.TRIP_COUNT).setFld64 0x60 Sf.TRIP_TIME_LO s.time).setFld 0x60 Sf.SAFE_STATUS_TRIP_CAUSE cause
      else s
    let s := s.modSafe fun x => { x with
      trips := if v = 2 then 2 ^ cause else 0
      maintAt := if v = 5 then s.now else x.maintAt
      keyLost := 0
      outs := if v = 1 then x.outs.map fun o => (o.1, { o.2 with discAt := o.2.discAt.map fun _ => s.now }) else x.outs }
    ((s.level 0x60 1 (v == 2) cause).level 0x60 2 (v == 5)).driveOutputs

/-- ACK_OWED (R490). -/
def State.setAckOwed (s : State) (on : Bool) : State := s.setFld 0x60 Sf.SAFE_STATUS_ACK_OWED (bool01 on)

/-- CAUSE_SEEN at the onset of a cause (R516). -/
def State.causeSeen (s : State) (c : Nat) : State :=
  let s := s.modSafe fun x => { x with found := setBit x.found c true }
  if bitAt s.safe.seen c then s else (s.modSafe fun x => { x with seen := setBit x.seen c true }).raise 0x60 4 c

/-- At a boundary of the serving lane the causes not found since the last one have gone (R516); a CLE that stays in STOP_FAULT
and an output that stays discrepant are found again. -/
def State.causesOver (s : State) : State :=
  let stays (c : Nat) : Bool := bitAt s.safe.found c || (c == 3 && (s.pstate 0x08 == 4 || s.pstate 0x09 == 4))
    || (c == 4 && s.safe.outs.any fun o => o.2.discAt.isSome)
  s.modSafe fun x => { x with
    seen := ((List.range 10).map fun c => bool01 (bitAt x.seen c && stays c) * 2 ^ c).sum, found := 0 }

/-- A trip with a cause from a state that can be tripped; CLEAN starts again (R488). -/
def State.trip60 (s : State) (cause : Nat) : State := (s.setFld 0x60 Sf.SAFE_STATUS_CLEAN 0).setSafeState 2 cause

/-- A cause 1 to 5 or 8 (R488): causes 1 to 5 trip from NORMAL alone, cause 8 from MAINTENANCE too. -/
def State.safetyCause (s : State) (c : Nat) : State :=
  let s := s.causeSeen c
  let st := s.pstate 0x60
  if c = 8 then
    if st = 2 then s.modSafe fun x => { x with trips := setBit x.trips c true }
    else
      let s := s.setAckOwed true
      if st = 1 ∨ st = 5 then s.trip60 8
      else (s.setFld 0x60 Sf.SAFE_STATUS_CLEAN 0).setFld 0x60 Sf.SAFE_STATUS_TRIP_CAUSE 8
  else if st = 1 then s.trip60 c
  else if st = 2 then s.modSafe fun x => { x with trips := setBit x.trips c true }
  else s

/-- The end of a cycle (R488, R489): clean or not. -/
def State.safetyCycle (s : State) (clean : Bool) : State :=
  if !clean then s.setFld 0x60 Sf.SAFE_STATUS_CLEAN 0
  else
    let n := min 16 (s.fld 0x60 Sf.SAFE_STATUS_CLEAN + 1)
    let s := s.setFld 0x60 Sf.SAFE_STATUS_CLEAN n
    match s.pstate 0x60 with
    | 0 => s.setSafeState 1 0
    | 3 => if s.flag 0x60 Sf.SAFE_STATUS_ACK_OWED then s.setSafeState 2 10 else s.setSafeState 1 0
    | 2 => if n = 16 ∧ s.flag 0x60 Sf.SAFE_CFG_AUTO_RESUME ∧ s.safe.trips = 2 ^ 2 then s.setSafeState 1 0 else s
    | _ => s

/-- A lane enters ALONE (3) or SPLIT (5) (R488). -/
def State.safetyLane (s : State) (laneState : Nat) : State :=
  let st := s.pstate 0x60
  let v := if laneState = 3 then 3 else 4
  if st = 1 then s.setSafeState v 0
  else if st = 2 ∨ st = 5 then (s.setAckOwed true).setSafeState v 0
  else if laneState = 3 ∧ (st = 0 ∨ st = 4) then s.setSafeState 3 0
  else s

/-- ACK_REJOIN accepted (R94, R488). -/
def State.safetyRejoin (s : State) : State :=
  if s.pstate 0x60 ≠ 4 then s
  else if s.flag 0x60 Sf.SAFE_STATUS_ACK_OWED then s.setSafeState 2 10 else s.setSafeState 1 0

/-- A stage reset or power-on (R488): STARTING, every output off. -/
def State.safetyReset (s : State) : State :=
  let s := s.modSafe fun x => { x with outs := [], seen := 0, trips := 0, keyLost := 0 }
  let s := (s.setAckOwed false).setFld 0x60 Sf.SAFE_STATUS_CLEAN 0
  let s := s.each (List.range 8) fun s k => s.setFld 0x62 So.SO_STATUS_STATE 0 k
  (s.setSafeState 0 0).driveOutputs

/-- Whether the maintenance key reads 1 with quality GOOD in lane A's image (R491). -/
def State.keyReads (s : State) : Bool :=
  let c := s.cle .a
  let n := s.fld 0x60 Sf.MAINT_KEY_CHANNEL
  let p := 0x30 + n / 16
  let w := p * 4096 + Bk.CH_STATE_STATE.pos (n % 16)
  let v := p * 4096 + Bk.IN_STATE.off
  if c.img.inMap.contains w then (c.latched.rd {} w).qual == 0 && bitAt (c.latched.rd {} w).value.toNat Bk.CH_STATE_STATE.lo
  else c.img.inMap.contains v && (c.latched.rd {} v).qual == 0 && bitAt (c.latched.rd {} v).value.toNat (n % 16)

/-- The key at a boundary of lane A (R491, R514). -/
def State.watchKey (s : State) : State :=
  let on := s.keyReads
  let s := s.setFld 0x60 Sf.SAFE_STATUS_KEY (bool01 on)
  let bad := s.pstate 0x60 == 5 && s.flag 0x60 Sf.MAINT_KEY_ENA && !on
  s.modSafe fun x => { x with keyLost := if bad then min 2 (x.keyLost + 1) else 0 }

/-- The outputs that a half's guard holds off by its latched image, with the axis that does it (R499). -/
def State.guards (s : State) (l : Lane) : List (Nat × Nat) :=
  let c := s.cle l
  let bad (a : Nat) : Bool :=
    let w := (0x10 + a) * 4096 + Ax.MOT_STATUS_STATE.off
    let i := c.latched.rd {} w
    let st := bitsOf i.value Ax.MOT_STATUS_STATE.hi Ax.MOT_STATUS_STATE.lo
    !c.img.inMap.contains w || i.qual != 0 || !(st == 0 || st == 1 || st == 2 || st == 9)
      || bitsOf i.value Ax.MOT_STATUS_REF_VALID.hi Ax.MOT_STATUS_REF_VALID.lo == 0
  (List.range 8).filterMap fun k =>
    if s.flag 0x62 So.SO_CFG_ROLE k then
      ((List.range 32).find? fun a => bitAt (s.reg 0x62 (So.LOOP_AXES.pos k)).toNat a && bad a).map fun a => (k, a)
    else none

/-- LOOP_GUARD (R499, R523) for every output that a half's guard begins to hold off while its demand asks for ON. -/
def State.showGuards (s : State) : State :=
  let held (l : Lane) : List (Nat × Nat) :=
    (s.half l).guards.filter fun x => bitAt (s.half l).demand x.1 && s.pstate (clePage l) == 2
  let all := held .a ++ (held .b).filter fun x => !(held .a).any fun y => y.1 == x.1
  let new := all.filter fun x => !bitAt s.safe.guarded x.1
  (new.foldl (fun s x => s.raise 0x62 3 (x.2 * 2 ^ 8 + x.1)) s).modSafe fun x => { x with guarded := (all.map fun x => 2 ^ x.1).sum }

/-- A half drives its enables (R185, R493, R494, R499), a lane that writes the dump of a fatal error none (R563). -/
def State.driveHalf (s : State) (l : Lane) : State :=
  let h := s.half l
  let mask := (h.guards.map fun x => 2 ^ x.1).sum
  let run := s.pstate (clePage l) == 2 && !(s.vat l).dumping.any (·.fatal)
  let s := s.setHalf l { h with drive := if run && !h.stopped then h.demand &&& (255 - mask) else 0 }
  s.showGuards.driveOutputs

/-- A half judges its guards by the image of its boundary once the exchange is over (R499). -/
def State.judgeGuards (s : State) (l : Lane) : State := (s.setHalf l { s.half l with guards := s.guards l }).driveHalf l

/-- A half stops its enables at once when it finds a cause itself (R493). -/
def State.halfStops (s : State) (l : Lane) : State :=
  (s.setHalf l { s.half l with stopped := true, dirty := true, drive := 0 }).driveOutputs

/-- A half reads back its own enables at a boundary (R514, cause 8). -/
def State.readBack (s : State) (l : Lane) : State :=
  let h := s.half l
  if (List.range 8).any fun k => s.enable l k != bitAt h.drive k then s.safetyCause 8 else s

/-- ENABLE_WAVE_LOSS (R487, R514): how the wave of an enable runs from now on. -/
def execEnableWaveLoss (t : Nat) (l : Lane) (k : Fin 8) (wave : EnableWave) (s : State) : Host.Outcome State Fault Refusal :=
  let s := s.start t
  let h := s.half l
  .next ((s.setHalf l { h with lost := setBit h.lost k.val (wave == .lost), stuck := setBit h.stuck k.val (wave == .running) }).driveOutputs)

/-- OUT_DISC (R495). -/
def execOutDisc (t : Nat) (k : Fin 8) (s : State) : Host.Outcome State Fault Refusal :=
  let s := s.start t
  .next (match (s.so k.val).discAt with
    | some x =>
      if s.pstate 0x60 = 1 ∧ x + s.fld 0x62 So.DISC_MS * 1000000 ≤ s.now then
        ((s.raise 0x62 2 (k.val * 2 ^ 8 + (if s.enable .a k.val then 1 else 2))).modSafe fun x => { x with disc := true }).safetyCause 4
      else s
    | none => s)

/-- MIRROR_CHECK (R496): which mirrors are closed; each relay is judged once 20 ms have passed since its coil changed. -/
def execMirrorCheck (t : Nat) (k : Fin 8) (m1 m2 : Bool) (s : State) : Host.Outcome State Fault Refusal :=
  let s := s.start t
  let k := k.val
  let s := (s.setFld 0x62 So.SO_STATUS_MIRROR_K1 (bool01 m1) k).setFld 0x62 So.SO_STATUS_MIRROR_K2 (bool01 m2) k
  let o := s.so k
  let s := (match o.dropAt with
    | some x =>
      if m1 ∧ m2 then (s.setFld 0x62 So.DROP_US (saturate 16 ((s.now - x) / 1000)) k).setSo k { o with dropAt := none } else s
    | none => s)
  let on := s.soState k == 1
  .next (match o.coilAt with
    | some x =>
      if s.now < x + 20000000 then s
      else if m1 = on then s.soFault k 1
      else if m2 = on then s.soFault k 2
      else s
    | none => s)

/-- EDM judged (R497). -/
def State.judgeEdm (s : State) (k : Nat) : State :=
  let o := s.so k
  let edm := s.flag 0x62 So.SO_STATUS_EDM k
  let ms := s.fld 0x62 So.SO_EDM_EDM_MS k * 1000000
  if !s.flag 0x62 So.SO_CFG_EDM_ENA k then s
  else if s.soState k = 1 then
    if !edm then s.setSo k { o with pulled := true }
    else if !o.pulled ∧ o.onAt + ms ≤ s.now then s.soFault k 3
    else if o.pulled ∧ o.edmAt + ms ≤ s.now then s.soFault k 5
    else s
  else
    match o.releaseAt with
    | some x =>
      if edm then s.setSo k { o with releaseAt := none }
      else if x + ms ≤ s.now then (s.setSo k { o with releaseAt := none }).soFault k 4
      else s
    | none => s

/-- EDM_CHECK (R492, R497): what EDM reads. -/
def execEdmCheck (t : Nat) (k : Fin 8) (edm : Bool) (s : State) : Host.Outcome State Fault Refusal :=
  let s := s.start t
  let o := s.so k.val
  let s := if s.flag 0x62 So.SO_STATUS_EDM k.val = edm then s else s.setSo k.val { o with edmAt := s.now }
  .next (((s.setFld 0x62 So.SO_STATUS_EDM (bool01 edm) k.val).judgeEdm k.val).driveSo k.val)

/-- SO_DEMAND_WRITE (R494): a lane stages its own demand; every host is refused. -/
def execSoDemandWrite (t code gen : Nat) (value : Word) (s : State) : Host.Outcome State Fault Refusal :=
  .next ((s.start t).writeGuard ⟨code, gen, 0x62, So.SO_DEMAND.off, value⟩ (fun _ => if code = 1 ∨ code = 2 then 0 else RC.rights) fun s =>
    match laneOf? code with
    | some l => s.setHalf l { s.half l with demand := bitsOf value 7 0 }
    | none => s)

/-- Whether an output can leave FAULT (R498). -/
def State.soReady (s : State) (k : Nat) : Bool :=
  s.soState k == 2 && s.flag 0x62 So.SO_STATUS_MIRROR_K1 k && s.flag 0x62 So.SO_STATUS_MIRROR_K2 k
    && (!s.flag 0x62 So.SO_CFG_EDM_ENA k || s.flag 0x62 So.SO_STATUS_EDM k)

/-- The outputs that a channel names (R522). -/
def namedOutputs (ch : Nat) : List Nat := if ch = 0xFF then List.range 8 else [ch]

/-- SO_RESET (R522). -/
def cmdSoReset : Cmd where
  opc := 0x01
  kinds := (· == .safeOut)
  range := fun _ ch _ _ => decide (ch < 8 ∨ ch = 0xFF)
  allow := fun s q _ _ => if (namedOutputs q.chan).any s.soReady then 0 else RC.state
  act := fun s q _ _ =>
    (((namedOutputs q.chan).filter s.soReady).foldl (fun s k =>
      ((s.setFld 0x62 So.SO_STATUS_CAUSE 0 k).setSoState k 0 0).driveSo k) s, RC.done)

def execSoReset (t : Nat) (q : Req) (s : State) : Host.Outcome State Fault Refusal :=
  .next ((s.start t).command q cmdSoReset)

/-- COUNTERS_CLEAR of page 0x62 (R522). -/
def cmdSoClear : Cmd where
  opc := 0x02
  kinds := (· == .safeOut)
  act := fun s _ _ _ => (s.each (List.range 8) fun s k => s.setFld 0x62 So.FAULT_COUNT 0 k, RC.done)

def execSoCountersClear (t : Nat) (q : Req) (s : State) : Host.Outcome State Fault Refusal :=
  .next ((s.start t).command q cmdSoClear)

/-- MAINT_ENTER (R491, R515). -/
def cmdMaintEnter : Cmd where
  opc := 0x01
  kinds := (· == .safety)
  allow := fun s _ _ _ =>
    if (s.pstate 0x60 = 1 ∨ s.pstate 0x60 = 2) ∧ (!s.flag 0x60 Sf.MAINT_KEY_ENA ∨ s.keyReads) then 0 else RC.state
  act := fun s _ _ _ => (s.setSafeState 5 0, RC.done)

def execMaintEnter (t : Nat) (q : Req) (s : State) : Host.Outcome State Fault Refusal :=
  .next ((s.start t).command q cmdMaintEnter)

/-- MAINT_EXIT (R488, R515). -/
def cmdMaintExit : Cmd where
  opc := 0x02
  kinds := (· == .safety)
  allow := fun s _ _ _ =>
    if s.pstate 0x60 = 5 ∧ s.laneState .a = 4 ∧ s.laneState .b = 4 ∧ s.pstate 0x08 = 2 ∧ s.pstate 0x09 = 2
      ∧ s.fld 0x60 Sf.SAFE_STATUS_CLEAN = 16 then 0 else RC.state
  act := fun s _ _ _ => ((s.setAckOwed false).setSafeState 1 0, RC.done)

def execMaintExit (t : Nat) (q : Req) (s : State) : Host.Outcome State Fault Refusal :=
  .next ((s.start t).command q cmdMaintExit)

/-- TRIP_ACK (R488, R515). -/
def cmdTripAck : Cmd where
  opc := 0x03
  kinds := (· == .safety)
  allow := fun s _ _ _ => if s.pstate 0x60 = 2 ∧ s.fld 0x60 Sf.SAFE_STATUS_CLEAN = 16 then 0 else RC.state
  act := fun s _ _ _ => ((s.setAckOwed false).setSafeState 1 0, RC.done)

def execTripAck (t : Nat) (q : Req) (s : State) : Host.Outcome State Fault Refusal :=
  .next ((s.start t).command q cmdTripAck)

/-- A trip with cause 9 (R488). -/
def State.safeTrip (s : State) : State :=
  let st := s.pstate 0x60
  let s := s.setAckOwed true
  if st = 1 then s.trip60 9
  else if st = 5 then s.setSafeState 2 9
  else if st = 2 then (s.setFld 0x60 Sf.SAFE_STATUS_TRIP_CAUSE 9).modSafe fun x => { x with trips := setBit x.trips 9 true }
  else s.setFld 0x60 Sf.SAFE_STATUS_TRIP_CAUSE 9

/-- SAFE_TRIP (R488, R515). -/
def cmdSafeTrip : Cmd where
  opc := 0x04
  kinds := (· == .safety)
  act := fun s _ _ _ => (s.safeTrip, RC.done)

def execSafeTrip (t : Nat) (q : Req) (s : State) : Host.Outcome State Fault Refusal :=
  .next ((s.start t).command q cmdSafeTrip)

/-- MAINT_TIMEOUT (R488). -/
def execMaintTimeout (t : Nat) (s : State) : Host.Outcome State Fault Refusal :=
  let s := s.start t
  let lim := s.fld 0x60 Sf.SAFE_CFG_MAINT_LIMIT_MIN
  .next (if s.pstate 0x60 = 5 ∧ lim ≠ 0 ∧ s.safe.maintAt + lim * 60000000000 ≤ s.now then s.setSafeState 2 7 else s)

/-- MAINT_KEY_LOST (R488, R491): lost at two consecutive boundaries of lane A. -/
def execMaintKeyLost (t : Nat) (s : State) : Host.Outcome State Fault Refusal :=
  let s := s.start t
  .next (if s.pstate 0x60 = 5 ∧ s.safe.keyLost = 2 then s.setSafeState 2 6 else s)

/-- The part of a reaction time that an input gives (R510). -/
def State.reactionIn (s : State) (kind i period : Nat) : Nat :=
  match kind with
  | 1 =>
    let p := 0x30 + i / 16
    max (s.fld p Bk.CH_FILT_ON_US (i % 16)) (s.fld p Bk.CH_FILT_OFF_US (i % 16)) + period + 2000
  | 2 => 1000 * s.fld (0xC0 + i) Sc.CONN_TIMING_WDT_MS + period
  | 3 =>
    let p := 0x4C + i / 8
    1000 * (s.fld p Lp.LP_FILT_FILT_MS (i % 8) + s.fld p Lp.LP_SUPPLY_BAND_MS (i % 8)) + 1000 + period + 2000
  | _ => 0

/-- The reaction times published (R510, R512); functions beyond those declared read 0. -/
def State.showReactions (s : State) : State :=
  let l := s.servingLane
  let period := s.fld (clePage l) Ce.CYCLE_ACT_PERIOD_US
  let logic := period + s.fld (clePage l) Ce.CYCLE_ACT_GRACE * period / 100
  let defs := (s.cle l).img.functions
  let s := s.setFld 0x60 Sf.RT_LOGIC_US logic
  let s := s.each (List.range 32) fun s f =>
    let w := BitVec.ofNat 32 (defs.getD f 0)
    let s := s.setReg 0x60 (Sf.SF_DEF_IN_KIND.pos f) w
    let out := if bitsOf w 15 12 = 1 then 10050 else if bitsOf w 15 12 = 2 then 500 else 0
    let rt := if bitsOf w 31 28 = 0 then 0 else s.reactionIn (bitsOf w 31 28) (bitsOf w 27 16) period + logic + out
    let pst := s.fld 0x60 Sf.SF_PST_MS f
    (s.setFld 0x60 Sf.SF_RT_US rt f).setFld 0x60 Sf.SF_STATUS_EXCEEDS (bool01 (pst != 0 && decide (1000 * pst < rt))) f
  let bad := (List.range 32).filter fun f => s.flag 0x60 Sf.SF_STATUS_EXCEEDS f
  s.level 0x60 3 (!bad.isEmpty) (bad.headD 0)

/-- The safety CRC of R502 over bytes. -/
def safetyCrc (bs : List Nat) : Nat := crcMsb 0xF4ACFB13 0xFFFFFFFF (bs.map (BitVec.ofNat 8)) ^^^ 0xFFFFFFFF

/-- The four bytes of a word, least significant first. -/
def bytes4 (w : Nat) : List Nat := [w % 256, w / 2 ^ 8 % 256, w / 2 ^ 16 % 256, w / 2 ^ 24 % 256]

/-- The configuration words of pages 0x60 to 0x62 in the order of SAFE_CFG_REF (R514). -/
def State.safeCfgWords (s : State) : List Nat :=
  let w (p off : Nat) : Nat := (s.reg p off).toNat
  [w 0x60 0x100, w 0x60 0x104] ++ (List.range 32).map (fun f => w 0x60 (Sf.SF_PST_MS.pos f)) ++ [w 0x61 0x104]
    ++ (List.range 64).flatMap (fun c => (List.range 7).map fun j => w (0xC0 + c) (0x400 + 4 * j)) ++ [w 0x62 0x104]
    ++ (List.range 8).flatMap (fun k => (List.range 3).map fun j => w 0x62 (0x400 + 0x40 * k + 4 * j))

/-- SAFE_CFG_REF brought up to date (R514, R516). -/
def State.showSafeCfg (s : State) : State :=
  let c := safetyCrc (s.safeCfgWords.flatMap bytes4)
  if (s.reg 0x60 Sf.SAFE_CFG_REF.off).toNat = c then s
  else (s.setFld 0x60 Sf.SAFE_CFG_REF c).raise 0x60 5 (c % 2 ^ 16)

end Sys2Proof.Machine
end

