-- ==== Sys2Proof/Machine/LaneReset.lean ====
section
/-! DEFINITION. The states of a lane and of its CLE as they change (R84, R98, R181), and the resets of a lane (R105, R109,
R110, R558, R563). -/

namespace Sys2Proof.Machine

/-- The state of page 0x0A changed, with STATE_CHANGED (R258). -/
def State.setOc (s : State) (n : Nat) : State :=
  let old := s.pstate 0x0A
  if old = n then s else (s.setPstate 0x0A n).raise 0x0A 0 (old * 2 ^ 8 + n)

/-- The loaded image discarded; the report of the last change stays (R254, R257). -/
def State.dropPackage (s : State) : State := (s.putOc { report := s.oc.report })

/-- A change abandoned or discarded (R245, R257): REASON, OC_ABANDONED, and the open command ends ABORTED. -/
def State.ocAbandon (s : State) (reason : Nat) : State :=
  let st := s.pstate 0x0A
  if 1 ≤ st ∧ st ≤ 4 then
    let s := ((s.setOc 0).setFld 0x0A Oc.OC_STATUS_REASON reason).dropPackage
    (s.raise 0x0A 4 reason).completeAll (fun o => o.page == 0x0A) RC.aborted
  else s

/-- A lane or its CLE leaves the state that a change needs (R245): both lanes know of it, unless the lane is being reset, when the
other abandons once it finds the Crossing lost. -/
def State.ocLeft (s : State) (l : Lane) : State :=
  if (s.lane l).phase == .running || !((s.lane l.other).phase == .running) then s.ocAbandon 3
  else s.putOc { s.oc with pkg := s.oc.pkg.set l none }

/-- A half's enables demand OFF (R185). -/
def State.enablesOff (s : State) (l : Lane) : State := (s.setHalf l { s.half l with drive := 0 }).driveOutputs

/-- The bits of HOLD_STATUS that a lane has (R199). -/
def heldField : Lane → Field
  | .a => Db.HOLD_STATUS_HELD_A
  | .b => Db.HOLD_STATUS_HELD_B
def whereField : Lane → Field
  | .a => Db.HOLD_STATUS_WHERE_A
  | .b => Db.HOLD_STATUS_WHERE_B

/-- HOLD_STATUS and HELD of page 0x0B follow a lane's CLE (R199, R201). -/
def State.showHeld (s : State) (l : Lane) : State :=
  let held := s.pstate (clePage l) == 3
  let s := s.setFld 0x0B (heldField l) (bool01 held)
  let s := if held then s else s.setFld 0x0B (whereField l) 0
  s.level 0x0B 0 (s.pstate 0x08 == 3 || s.pstate 0x09 == 3)

/-- The lanes that CHANNEL of page 0x0B names (R199). -/
def holdTargets (ch : Nat) : List Lane := if ch = 1 then [.a] else if ch = 2 then [.b] else [.a, .b]

/-- Commands of run control that a CLE leaving RUN and HOLD can no longer carry out end ABORTED: those of page 0x0B that
act on the lane and, in STOP_FAULT, STOP of its page. -/
def State.runAborted (s : State) (l : Lane) (n : Nat) : State :=
  if n = 2 ∨ n = 3 then s
  else
    let s := s.completeAll (fun o => o.page == 0x0B && (holdTargets o.chan).contains l) RC.aborted
    if n = 4 then s.completeAll (fun o => o.page == clePage l && o.opc == 0x02) RC.aborted else s

/-- The run state of a lane's CLE changed (R181, R185, R198, R245): posts are kept only in RUN and HOLD (R67). -/
def State.setCleState (s : State) (l : Lane) (n : Nat) : State :=
  let p := clePage l
  let old := s.pstate p
  if old = n then s
  else
    let s := (((s.setPstate p n).raise p 0 (old * 2 ^ 8 + n)).level p 9 (n == 4)).showHeld l
    let s := if n = 2 ∨ n = 3 then s else s.putPosts (s.clePosts.set l [])
    let s := s.runAborted l n
    if old = 2 then (s.enablesOff l).ocLeft l else s

/-- The clean count of REJOINED starts again (R94). -/
def State.clearRejoin (s : State) : State :=
  ((s.setFld 3 Xg.REJOIN_STATUS_READY 0).setFld 3 Xg.REJOIN_STATUS_CLEAN 0).level 3 3 false

/-- What follows a change of lane state on pages 0x03 and 0x60 (R84, R93, R94, R99, R488). -/
def State.afterLaneState (s : State) (l : Lane) (n : Nat) : State :=
  let s := s.setPstate 3 (s.laneState s.servingLane)
  let s := s.level 3 2 (s.laneState .a == 5 || s.laneState .b == 5)
  let s := if n = 5 ∧ l = s.servingLane then s.bump 3 Xg.SPLIT_COUNT else s
  let s := if n = 7 then s.clearRejoin else s
  if n = 3 ∨ n = 5 then s.safetyLane n else s

/-- A lane's state changed (R84, R98): a lane that leaves ALIGNED ends the moves and the online change (R97, R245), and entry
to ALONE from a state of two lanes raises PARTNER_LOST. -/
def State.setLaneState (s : State) (l : Lane) (n : Nat) : State :=
  let p := lanePage l
  let old := s.laneState l
  if old = n then s
  else
    let s := (s.setPstate p n).raise p 0 (old * 2 ^ 8 + n)
    let s := if n = 4 then s.setLane l { s.lane l with alignedAt := s.now } else s
    let s := if old = 4 then s.abortErrands.ocLeft l else s
    let s := if old = 7 then s.clearRejoin else s
    let s := if n = 3 ∧ 4 ≤ old then s.raise p 1 else s
    s.afterLaneState l n

/-- A lane stops its heartbeats (R86, R98). -/
def State.hbStop (s : State) (l : Lane) (cause : Nat) : State :=
  let r := s.lane l
  if !r.heartbeats then s
  else ((s.setLane l { r with heartbeats := false }).bump (lanePage l) Ln.HB_STOPS).raise (lanePage l) 4 cause

/-- A lane's heartbeats begin (R86), not while the module is prepared for its power-down (R123). -/
def State.hbStart (s : State) (l : Lane) : State :=
  let r := s.lane l
  if r.heartbeats || s.laneState l < 2 || s.pstate 4 == 3 then s else s.setLane l { r with heartbeats := true }

/-- The heartbeats of a lane whose CLE is in STOP_FAULT, as HB_POLICY.STOP_ON_FAULT has them (R86). -/
def State.hbFault (s : State) (l : Lane) : State :=
  if s.pstate (clePage l) ≠ 4 then s
  else if s.flag (lanePage l) Ln.HB_POLICY_STOP_ON_FAULT then s.hbStop l 6
  else s.hbStart l

/-- LANE_INFO.CAUSE of a reset code of R109. -/
def laneCause (code : Nat) : Nat :=
  match code with
  | 0 => 0
  | 2 => 2
  | 3 => 1
  | 5 => 4
  | 6 => 5
  | _ => 3

/-- RESET_LOG and RESET_TIME (R122) of a reset of the named part. -/
def State.logReset (s : State) (code : Nat) (part : List Field) : State :=
  let s := (s.setFld 4 Pw.RESET_LOG_SOURCE code).setFld64 4 Pw.RESET_TIME_LO s.time
  part.foldl (fun s f => s.setFld 4 f code) s
def laneSrc : Lane → Field
  | .a => Pw.RESET_LOG_LANE_A_SRC
  | .b => Pw.RESET_LOG_LANE_B_SRC

/-- The cycle in progress abandoned (R105): nothing of it runs on and nothing staged is kept. -/
def CleRec.abandon (c : CleRec) : CleRec :=
  { c with phase := .idle, running := none, staged := [], ready := [], runCmds := [], steps := none, heldAtBreak := false,
           late := false, waiting := false, starting := none, primes := [] }

/-- The instance of a lane's firmware slots (R601). -/
def fwInstance (l : Lane) : Nat := l.num - 1

/-- A reset of a lane by a code of R109 begins (R110): heartbeats and enables first, then the lane is DOWN and sends only IDLE
frames. `trial` is the reset that starts a trial; any other abandons one (R591). -/
def State.laneReset (s : State) (l : Lane) (code : Nat) (trial : Bool := false) : State :=
  let r := s.lane l
  if !(r.phase == .running || r.phase == .booting) then s
  else
    let s := s.hbStop l (laneCause code)
    let s := (s.setHalf l { lost := (s.half l).lost, stuck := (s.half l).stuck }).driveOutputs
    let s := s.modSafe fun x => { x with conns := x.conns.set l [], cfgs := x.cfgs.set l [] }
    let s := match (s.vat l).dumping with
      | some j => s.dumpAbandoned l j
      | none => s
    let s := s.setLane l { s.lane l with phase := .stopping }
    let s := (s.setCle l (s.cle l).abandon).setCleState l 0
    let s := s.setLaneState l 0
    let s := if trial then s else s.trialAbandon (fwInstance l)
    let r := s.lane l
    let s := s.setLane l { r with
      phase := if code = 2 then .shutdown else .stopping, resetAt := s.now, resetCode := code, bootDone := none, join := {}
      shutAt := r.absentAt, fromPowerOn := false, loaded := false, stay := false
      causeEnd := if code = 2 then (if r.supply then some s.now else none) else if code = 6 then none else some s.now }
    s.logReset code [laneSrc l]

/-- The snapshot buffers as a reset leaves them (R191): a commit that runs leaves its buffer invalid. -/
def CleRec.keptSnaps (c : CleRec) : CleRec :=
  let bad (k : Nat) (b : SnapBuf) : SnapBuf :=
    match c.commit with
    | some m => if m.buf = k then { b with valid := false } else b
    | none => b
  { snap0 := bad 0 c.snap0, snap1 := bad 1 c.snap1 }

/-- Registers of a lane's pages that a lane reset keeps: HB_STOPS, counted since power-on (R96), MRAM_WRITES, what the Vat's medium holds, the lane number. -/
def State.keptWords (l : Lane) : List (Nat × Nat) :=
  let m := memPage l
  let v := vatPage l
  [(lanePage l, Ln.LANE_INFO_LANE.off), (lanePage l, Ln.HB_STOPS.off), (m, Mm.MRAM_WRITES_LO.off), (m, Mm.MRAM_WRITES_HI.off), (v, Vt.CURD_SEQ.off),
   (v, Vt.WEAR_WEAR_PCT.off), (v, Vt.PE_PE_AVG.off), (v, Vt.DIES_DIES.off), (v, Vt.ECC_BITS.off), (v, Vt.UNITS_LOST.off)]

/-- A page reset that keeps some of its words. -/
def State.resetKeeping (s : State) (page : Nat) (keep : List (Nat × Nat)) : State :=
  let ks := keep.filter fun k => k.1 == page
  let old := ks.map fun k => (k.2, s.reg page k.2)
  old.foldl (fun s k => s.setReg page k.1 k.2) (s.resetPage page)

/-- What a Vat keeps through a reset of its lane: what has been programmed, its numbers, and the summary of a dump that
nothing took (R558, R563); what waited in the buffers is lost. -/
def VatRec.kept (v : VatRec) : VatRec :=
  let durable (p pos len : Nat) : Bool := decide (pos + len ≤ (v.part p).programmed)
  let parts := (List.range 5).foldl (fun (t : Tab PartRec) p =>
    let r := v.part p
    t.wr {} p { r with handed := r.programmed }) v.parts
  { parts := parts, stored := v.stored.filter fun c => durable 4 c.pos 0
    curds := v.curds.filter fun c => durable 0 c.pos 2048, log := v.log.filter fun e => durable 1 e.pos 64
    history := v.history.filter fun e => durable 2 e.pos (64 + e.length), dumps := v.dumps, nextSlot := v.nextSlot
    capSeq := v.capSeq, curdSeq := v.curdSeq, report := v.report, sendNext := v.report, gotNext := v.gotNext
    gotAbove := v.gotAbove, scrubAt := v.scrubAt, lostSummary := v.lostSummary, marker := v.marker, flushMs := v.flushMs }

/-- The lane is held in reset (R109, R110): its four pages reset; its memories lose what they hold, but for the MRAM and the
Vat's medium. The secure region loses its power with the lane supply (R535). -/
def State.holdLane (s : State) (l : Lane) : State :=
  let keep := State.keptWords l
  let s := s.setVatState l 0
  let s := [lanePage l, clePage l, memPage l, vatPage l].foldl (fun s p => s.resetKeeping p keep) s
  let s := s.setVat l (s.vat l).kept
  let s := s.setCle l (s.cle l).keptSnaps
  let s := s.putMem l {}
  let r := s.lane l
  let s := s.setLane l { r with
    phase := .held, heldAt := s.now, sending := false, link0 := {}, link1 := {}, errands := [], fwBad := false, hello := none, prevGen := none }
  let s := if r.supply then s else s.setFld 0x66 (secField l) 3
  (s.setPstate 3 (s.laneState s.servingLane)).showSecLoaded

/-- A fatal error of a lane (R109, R563): it stops heartbeats and enables at once, writes its dump, and resets with code 5
when the dump has ended. Causes: 16 firmware, 17 WR_COLLIDE, 18 port-1 ECC, 19 SRAM defect. -/
def State.laneFatal (s : State) (l : Lane) (cause : Nat) : State :=
  if !((s.lane l).phase == .running || (s.lane l).phase == .booting) then s
  else
    let s := (s.hbStop l 4).enablesOff l
    let r := s.dumpStart l cause 0xFF 0 true
    if r.2 then r.1
    else
      match (r.1.vat l).dumping with
      | some j => r.1.setVat l { r.1.vat l with dumping := some { j with fatal := true } }
      | none => r.1.laneReset l 5

/-- LANE_WATCHDOG (R109): 50 ms without service. -/
def execLaneWatchdog (t : Nat) (l : Lane) (s : State) : Host.Outcome State Fault Refusal :=
  .next ((s.start t).laneReset l 3)

/-- LANE_OVERTEMP (R109): the die above 125 °C; the lane is held in reset until it is below 110 °C. -/
def execLaneOvertemp (t : Nat) (l : Lane) (s : State) : Host.Outcome State Fault Refusal :=
  let s := s.start t
  let r := s.lane l
  let s := s.setLane l { r with overTemp := true, causeEnd := if r.phase == .running || r.phase == .booting then r.causeEnd else none }
  .next (s.laneReset l 6)

/-- The conditions that hold a lane in reset are over since now, when they are (R110). -/
def State.causeOver (s : State) (l : Lane) : State :=
  let r := s.lane l
  if r.supply && !r.overTemp && r.causeEnd.isNone then s.setLane l { r with causeEnd := some s.now } else s

/-- LANE_TEMP_RECOVER (R109, R110): the die below 110 °C. -/
def execLaneTempRecover (t : Nat) (l : Lane) (s : State) : Host.Outcome State Fault Refusal :=
  let s := s.start t
  .next ((s.setLane l { s.lane l with overTemp := false }).causeOver l)

/-- CROSSING_STOP (R105, R110): 1.5 ms after the reset the sequencer stops sending on both links; a lane that is not shutting
down is then held in reset. -/
def execCrossingStop (t : Nat) (l : Lane) (s : State) : Host.Outcome State Fault Refusal :=
  let s := s.start t
  let r := s.lane l
  .next <|
    if !(r.phase == .shutdown || r.phase == .stopping) || !r.sending || s.now < r.resetAt + 1500000 then s
    else
      let s := s.setLane l { r with sending := false }
      if r.phase == .stopping then s.holdLane l else s

/-- The interim records of a lane that shuts down (R550, R558): one with POWER_LOSS for each axis it owns whose motion runs,
from the stage's figures. -/
def State.shutdownCurds (s : State) (l : Lane) : State :=
  ((List.range' 0x10 32).filter fun p => s.owner p == l.num).foldl (fun s p =>
    match (s.axis p).curd with
    | some c => s.originate l { s.interimOf p c with flags := setBit c.flags 1 true }
    | none => s) s

/-- The buffers of a Vat programmed in the order of R558, while it takes records. -/
def State.flushVat (s : State) (l : Lane) : State :=
  if s.vatState l = 2 ∨ s.vatState l = 3 then
    [0, 1, 2, 4].foldl (fun s p =>
      let n := (s.vat l).waiting p
      if n = 0 then s else s.program l p n) s
  else s

/-- The flush and the marker of a shutdown (R558). -/
def State.shutdownVat (s : State) (l : Lane) (ms : Nat) : State :=
  let s := s.shutdownCurds l
  let s := (s.vat l).captures.foldl (fun s c => s.captureEnd l c.axis 7) s
  let s := s.flushVat l
  s.setVat l { s.vat l with marker := s.vatState l == 2 || s.vatState l == 3, flushMs := ms }

/-- LANE_SHUTDOWN_DONE (R105, R558): 50 ms after the supply became absent, with FLUSH_MS as measured. -/
def execLaneShutdownDone (t : Nat) (l : Lane) (flushMs : Fin 40) (s : State) : Host.Outcome State Fault Refusal :=
  let s := s.start t
  let r := s.lane l
  .next <|
    if r.phase == .shutdown && !r.sending && decide (r.shutAt + 50000000 ≤ s.now) then (s.shutdownVat l flushMs.val).holdLane l
    else s

/-- A dump that ends while a fatal reset waits for it (R563). -/
def State.afterDump (s : State) (l : Lane) (j : DumpJob) : State := if j.fatal then s.laneReset l 5 else s

/-- DUMP_DONE (R563): the dump of a lane is complete. -/
def execDumpDone (t : Nat) (l : Lane) (s : State) : Host.Outcome State Fault Refusal :=
  let s := s.start t
  .next (match (s.vat l).dumping with
    | some j => (s.dumpWritten l j).afterDump l j
    | none => s)

/-- DUMP_ABANDON (R563): a dump not complete within DUMP_LIMIT_MS. -/
def execDumpAbandon (t : Nat) (l : Lane) (s : State) : Host.Outcome State Fault Refusal :=
  let s := s.start t
  .next (match (s.vat l).dumping with
    | some j =>
      if j.since + s.fld 0x7F Dp.DUMP_CFG_DUMP_LIMIT_MS * 1000000 ≤ s.now then (s.dumpAbandoned l j).afterDump l j else s
    | none => s)

end Sys2Proof.Machine
end

