-- ==== Sys2Proof/Machine/Transcend.lean ====
section
/-! DEFINITION. The transcendental operations of the NCP (R229, R230): each returns the correctly rounded result of
the exact function. A value is enclosed between two integers over a power of two; when both ends round alike,
that is the result, and otherwise the enclosure is taken again with more bits (log entry 9). -/

namespace Sys2Proof.Machine

/-- An enclosure at scale `2^-q`: the true value times `2^q` lies within `err` of `mid`. -/
structure Ball where
  mid : Int
  err : Nat
  deriving DecidableEq, Repr

/-- The sum of a series whose terms are each the last one times `num / den` over a factor: `n` terms, at scale `2^q`.
`step` gives term `k + 1` from term `k`. -/
def seriesSum (step : Nat → Int → Int) (weigh : Nat → Int → Int) : Nat → Nat → Int → Int → Int
  | 0, _, _, acc => acc
  | n + 1, k, t, acc => if t = 0 then acc else seriesSum step weigh n (k + 1) (step k t) (acc + weigh k t)

/-- The inverse tangent of `1/d` times `2^q`: alternating series. -/
def atanInv (q d : Nat) : Int :=
  seriesSum (fun _ t => -(Int.tdiv t (d * d))) (fun k t => Int.tdiv t (2 * k + 1)) (q + 4) 0 ((2 ^ q : Nat) / d : Nat) 0

/-- π times `2^q`, within 2: Machin's formula with guard bits. -/
def piAt (q : Nat) : Int := (16 * atanInv (q + 32) 5 - 4 * atanInv (q + 32) 239) / 2 ^ 32

/-- ln 2 times `2^q`, within 2. -/
def ln2At (q : Nat) : Int :=
  (2 * seriesSum (fun _ t => Int.tdiv t 9) (fun k t => Int.tdiv t (2 * k + 1)) (q + 34) 0 ((2 ^ (q + 32) : Nat) / 3 : Nat) 0)
    / 2 ^ 32

/-- An exact value `m * 2^e` times `2^q`, rounded down, as an integer within 1. -/
def scaleAt (q : Nat) (m : Nat) (e : Int) : Int :=
  if e + q ≥ 0 then (m * 2 ^ (e + q).toNat : Nat) else (m / 2 ^ (-(e + q)).toNat : Nat)

/-- The sine and the cosine of `r * 2^-q`, for r below 1 in size: Taylor series. -/
def sinTaylor (q : Nat) (r : Int) : Int :=
  seriesSum (fun k t => -(Int.tdiv (Int.tdiv (Int.tdiv (t * r) (2 ^ q) * r) (2 ^ q)) ((2 * k + 2) * (2 * k + 3))))
    (fun _ t => t) (q + 4) 0 r 0
def cosTaylor (q : Nat) (r : Int) : Int :=
  seriesSum (fun k t => -(Int.tdiv (Int.tdiv (Int.tdiv (t * r) (2 ^ q) * r) (2 ^ q)) ((2 * k + 1) * (2 * k + 2))))
    (fun _ t => t) (q + 4) 0 (2 ^ q : Nat) 0

/-- The sine (`shift` 0) or cosine (`shift` 1) of `±m * 2^e`, enclosed at scale `2^-q`. -/
def sinBall (shift : Nat) (q : Nat) (neg : Bool) (m : Nat) (e : Int) : Ball :=
  let big := (e + (bitLen m : Int)).toNat
  let g := q + big + 40
  let x : Int := signedNum neg (scaleAt g m e).natAbs
  let pi := piAt (g + big)
  let half := pi / 2 / 2 ^ big
  let k := (2 * x + half) / (2 * half)
  let r := (x - Int.tdiv (k * pi) (2 ^ (big + 1)))
  let i := ((k + shift) % 4).toNat
  let v := if i = 0 then sinTaylor g r else if i = 1 then cosTaylor g r else if i = 2 then -sinTaylor g r else -cosTaylor g r
  ⟨v / 2 ^ (g - q), 2⟩

/-- e to the power of `±m * 2^e`, enclosed at scale `2^-q` after division by `2^k`: the ball and `k`. -/
def expBall (q : Nat) (neg : Bool) (m : Nat) (e : Int) : Ball × Int :=
  let g := q + 40
  let x : Int := signedNum neg (scaleAt (g + 16) m e).natAbs
  let l := ln2At (g + 16)
  let k := x / l
  let r := (x - k * l) / 2 ^ 16
  let v := seriesSum (fun n t => Int.tdiv (t * r) ((n + 1) * 2 ^ g)) (fun _ t => t) (g + 4) 0 (2 ^ g : Nat) 0
  (⟨v / 2 ^ (g - q), 2⟩, k)

/-- The natural logarithm of `m * 2^e`, enclosed at scale `2^-q`. -/
def lnBall (q : Nat) (m : Nat) (e : Int) : Ball :=
  let g := q + 40
  let b := bitLen m
  -- the significand brought between 3/4 and 3/2
  let low := decide (4 * m < 3 * 2 ^ b)
  let d : Nat := if low then 2 ^ (b - 1) else 2 ^ b
  let ex : Int := e + (b : Int) - (if low then 1 else 0)
  let z : Int := Int.tdiv (((m : Int) - d) * 2 ^ g) (m + d)
  let z2 := z * z / 2 ^ g
  let a := seriesSum (fun _ t => Int.tdiv (t * z2) (2 ^ g)) (fun k t => Int.tdiv t (2 * k + 1)) (g + 4) 0 z 0
  ⟨(2 * a + ex * ln2At (g + 16) / 2 ^ 16) / 2 ^ (g - q), 2⟩

/-- The inverse tangent of `num / den` at most 1, enclosed at scale `2^-q`: Euler's series. -/
def atanBall (q num den : Nat) : Ball :=
  let g := q + 40
  let z : Int := (num * 2 ^ g / den : Nat)
  let w := z * z * 2 ^ g / ((2 ^ (2 * g) : Nat) + z * z)
  let t0 : Int := z * 2 ^ (2 * g) / ((2 ^ (2 * g) : Nat) + z * z)
  let v := seriesSum (fun k t => Int.tdiv (Int.tdiv (t * w) (2 ^ g) * (2 * k + 2)) (2 * k + 3)) (fun _ t => t) (2 * g + 8) 0 t0 0
  ⟨v / 2 ^ (g - q), 4⟩

/-- Both ends of an enclosure rounded; the result when they agree. -/
def FloatFmt.settle (f : FloatFmt) (b : Ball) (e : Int) : Option (Nat × Nat) :=
  let lo := b.mid - b.err
  let hi := b.mid + b.err
  let r := fun (i : Int) => (f.round (decide (i < 0)) i.natAbs e true)
  if decide (lo < 0) != decide (hi < 0) ∨ lo = 0 ∨ hi = 0 then none
  else if (r lo).1 = (r hi).1 then some (r lo) else none

/-- The first precision whose enclosure settles the result; the last one's lower end when none does. -/
def FloatFmt.refine (f : FloatFmt) (ball : Nat → Ball × Int) : List Nat → Nat × Nat
  | [] => let (b, e) := ball 4096; f.round (decide (b.mid < 0)) b.mid.natAbs e true
  | q :: qs =>
    let (b, e) := ball q
    match f.settle b e with
    | some r => r
    | none => f.refine ball qs

/-- The precisions tried, in bits beyond the size of the result. -/
def precisions : List Nat := [128, 200, 320, 640, 1400]

/-- A value just below (`up` false) or just above `m * 2^e` in size, rounded. -/
def FloatFmt.roundNear (f : FloatFmt) (neg : Bool) (m : Nat) (e : Int) (up : Bool) : Nat × Nat :=
  if up then f.round neg (m * 2 ^ 64) (e - 64) true else f.round neg (m * 2 ^ 64 - 1) (e - 64) true

/-- The exponent of the leading bit of `m * 2^e`. -/
def leadExp (m : Nat) (e : Int) : Int := e + (bitLen m : Int) - 1

/-- sin, in radians. -/
def FloatFmt.sin (f : FloatFmt) (x : Num) : Nat × Nat :=
  match x with
  | .nan a => f.nanOf [.nan a]
  | .inf _ => f.invalid
  | .fin n m e =>
    if m = 0 then (f.zero n, 0)
    else if leadExp m e < -58 then f.roundNear n m e false
    else f.refine (fun q => (sinBall 0 (q + 60) n m e, -((q : Int) + 60))) precisions

/-- cos, in radians. -/
def FloatFmt.cos (f : FloatFmt) (x : Num) : Nat × Nat :=
  match x with
  | .nan a => f.nanOf [.nan a]
  | .inf _ => f.invalid
  | .fin n m e =>
    if m = 0 then f.ofInt 1
    else if leadExp m e < -58 then f.roundNear false 1 0 false
    else f.refine (fun q => (sinBall 1 (q + 60) n m e, -((q : Int) + 60))) precisions

/-- e to the power of a number. -/
def FloatFmt.exp (f : FloatFmt) (x : Num) : Nat × Nat :=
  match x with
  | .nan a => f.nanOf [.nan a]
  | .inf n => (if n then f.zero false else f.infinity false, 0)
  | .fin n m e =>
    if m = 0 then f.ofInt 1
    else if leadExp m e ≥ 12 then
      (if n then f.round false 1 (f.qmin * 4) true else (f.infinity false, Xsr.overflow + Xsr.inexact))
    else if leadExp m e < -62 then f.roundNear false 1 0 (!n)
    else f.refine (fun q => let (b, k) := expBall q n m e; (b, k - (q : Int))) precisions

/-- The natural logarithm. -/
def FloatFmt.ln (f : FloatFmt) (x : Num) : Nat × Nat :=
  match x with
  | .nan a => f.nanOf [.nan a]
  | .inf n => if n then f.invalid else (f.infinity false, 0)
  | .fin n m e =>
    if m = 0 then (f.infinity true, Xsr.divzero)
    else if n then f.invalid
    else if e ≤ 0 ∧ m = 2 ^ (-e).toNat then (f.zero false, 0)
    else f.refine (fun q => (lnBall (q + 64) m e, -((q : Int) + 64))) precisions

/-- π times a quarter count over four (an exact multiple of π/4), rounded with a sign. -/
def FloatFmt.piQuarters (f : FloatFmt) (neg : Bool) (k : Nat) : Nat × Nat :=
  let (r, x) := f.round neg (k * (piAt 256).toNat) (-258) true
  (r, x)

/-- atan2 of y over x, for both finite and not zero. -/
def FloatFmt.atanFin (f : FloatFmt) (yn : Bool) (ym : Nat) (ye : Int) (xn : Bool) (xm : Nat) (xe : Int) : Nat × Nat :=
  let e := min ye xe
  let num := ym * 2 ^ (ye - e).toNat
  let den := xm * 2 ^ (xe - e).toNat
  let small := decide (num ≤ den)
  -- how many bits the smaller ratio has in front of it
  let lead := if small then bitLen den - bitLen num else bitLen num - bitLen den
  if small && !xn then
    if lead > 82 then
      let k := f.p + 20 + bitLen den
      let q := num * 2 ^ k / den
      if num * 2 ^ k % den = 0 then f.roundNear yn q (-(k : Int)) false else f.round yn q (-(k : Int)) true
    else f.refine (fun q => (⟨signedNum yn (atanBall (q + lead) num den).mid.natAbs, 4⟩, -((q : Int) + lead))) precisions
  else
    f.refine (fun q =>
      let a := if small then (atanBall q num den).mid else piAt q / 2 - (atanBall q den num).mid
      let v := if xn then piAt q - a else a
      (⟨signedNum yn v.natAbs, 16⟩, -(q : Int))) precisions

/-- The angle of the point (x, y). -/
def FloatFmt.atan2 (f : FloatFmt) (y x : Num) : Nat × Nat :=
  if y.isNan || x.isNan then f.nanOf [y, x]
  else
    match y, x with
    | .inf yn, .inf xn => f.piQuarters yn (if xn then 3 else 1)
    | .inf yn, _ => f.piQuarters yn 2
    | .fin yn ym ye, .inf xn => if xn then f.piQuarters yn 4 else (let _ := (ym, ye); (f.zero yn, 0))
    | .fin yn ym ye, .fin xn xm xe =>
      if ym = 0 then (if xn then f.piQuarters yn 4 else (f.zero yn, 0))
      else if xm = 0 then f.piQuarters yn 2
      else f.atanFin yn ym ye xn xm xe
    | _, _ => f.invalid

end Sys2Proof.Machine
end

