-- ==== Sys2Proof/Machine/LoopIo.lean ====
section
/-! DEFINITION. Current-loop channels (chapter 16): pages 0x4C to 0x4F, eight channels each. -/

namespace Sys2Proof.Machine

/-- A channel of a loop-group page. -/
def State.loop (s : State) (p k : Nat) : LoopChan := s.loops.rd {} (8 * (p - 0x4C) + k)
def State.setLoop (s : State) (p k : Nat) (c : LoopChan) : State := { s with loops := s.loops.wr {} (8 * (p - 0x4C) + k) c }

/-- The mode in force (R448) and the present cause (R454). -/
def State.loopMode (s : State) (p k : Nat) : Nat := s.fld p Lp.LP_STATUS_MODE k
def State.loopCause (s : State) (p k : Nat) : Nat := s.fld p Lp.LP_STATUS_CAUSE k

/-- One bit of a field of GRP_STATUS. -/
def State.groupBit (s : State) (p : Nat) (f : Field) (k : Nat) (on : Bool) : State := s.setFld p f (setBit (s.fld p f) k on)

/-- LOOP_CHANGE (R461). For kinds 3 and 4 the manual puts kind and cause into the same bits: [15:8] is left open. -/
def State.loopChange (s : State) (p k kind : Nat) : State :=
  if kind < 3 then s.raise p 1 (kind * 2 ^ 8 + k)
  else
    let (w, s) := s.free
    s.raise p 1 (w.toNat % 2 ^ 8 * 2 ^ 8 + k)

/-- The cause of a channel replaced (R454): its bits, its counts and LOOP_FAULT. -/
def State.setCause (s : State) (p k c : Nat) : State :=
  let s := (s.setFld p Lp.LP_STATUS_CAUSE c k).groupBit p Lp.GRP_STATUS_FAULT k (c != 0)
  s.level p 0 (s.fld p Lp.GRP_STATUS_FAULT != 0) (c * 2 ^ 8 + k)

/-- The current of an output (R453, R456, R460): 0 mA outside RUN, outside OUTPUT and while switched off. -/
def State.driveLoop (s : State) (p k : Nat) : State :=
  let c := s.loop p k
  s.setLoop p k { c with drive := if s.pstate p = 1 ∧ s.loopMode p k = 2 ∧ !c.off then s.fld p Lp.OUT_UA k else 0 }

/-- An integer times a power of two as a number of the binary64 format. -/
def exactNum (i : Int) (e : Int := 0) : Num := .fin (decide (i < 0)) i.natAbs e

/-- The binary64 number that an operation of Float.lean answers. -/
def asNum (r : Nat × Nat) : Num := FloatFmt.b64.decode r.1

/-- A finite number rounded down. -/
def Num.floor : Num → Int
  | .fin neg m e => if e ≥ 0 then signedNum neg (m * 2 ^ e.toNat) else signedNum neg m / (2 ^ (-e).toNat : Nat)
  | _ => 0

/-- A finite number rounded to the nearest integer, ties away from zero. -/
def Num.nearest : Num → Int
  | .fin neg m e => if e ≥ 0 then signedNum neg (m * 2 ^ e.toNat)
    else signedNum neg ((2 * m + 2 ^ (-e).toNat) / 2 ^ ((-e).toNat + 1))
  | _ => 0

/-- x of R451 for a current in 2^-20 nA. -/
def loopX (i : Int) : Num :=
  asNum (FloatFmt.b64.div (asNum (FloatFmt.b64.add (exactNum i (-20)) (exactNum (-4000000)))) (exactNum 16000000))

/-- y of R451 for CHAR 0 and 1. -/
def State.loopY (s : State) (p k : Nat) (x : Num) : Num :=
  if s.fld p Lp.LP_CFG_CHAR k = 0 then x
  else
    let cut := asNum (FloatFmt.b64.div (exactNum (s.fld p Lp.LP_FILT_CUTOFF k)) (exactNum 10000))
    if x.lt cut then exactNum 0 else asNum (FloatFmt.b64.sqrt x)

/-- The interpolated point of the table (R451). -/
def State.loopTable (s : State) (p k : Nat) (x : Num) : Num :=
  let x32 := asNum (FloatFmt.b64.mul (exactNum 32) x)
  let i := (clampInt x32.floor 0 31).toNat
  let t (j : Nat) : Num := exactNum (s.sfld p Lp.TABLE k j)
  let slope := asNum (FloatFmt.b64.add (t (i + 1)) (t i).neg)
  let part := asNum (FloatFmt.b64.add x32 (exactNum (-(i : Int))))
  asNum (FloatFmt.b64.add (t i) (asNum (FloatFmt.b64.mul slope part)))

/-- ENG (R451). -/
def State.loopEng (s : State) (p k : Nat) (i : Int) : Int :=
  let x := loopX i
  let v :=
    if s.fld p Lp.LP_CFG_CHAR k = 2 then s.loopTable p k x
    else
      let lo := exactNum (s.sfld p Lp.ENG_LO k)
      let span := asNum (FloatFmt.b64.add (exactNum (s.sfld p Lp.ENG_HI k)) lo.neg)
      asNum (FloatFmt.b64.add lo (asNum (FloatFmt.b64.mul (s.loopY p k x) span)))
  saturateSigned 32 v.nearest

/-- The band of a current in nA (R450). -/
def loopBand (na : Int) : Nat :=
  if na < 3600000 then 1 else if na < 3800000 then 2 else if na < 20500000 then 3 else if na < 21000000 then 4 else 5

/-- Whether the condition of a cause of R454 is met in INPUT mode, for a filtered current in nA. -/
def State.inputCond (s : State) (p k : Nat) (na : Int) (r : LoopReading) (c : Nat) : Bool :=
  let supply := s.flag p Lp.LP_CFG_SUPPLY k
  let ne43 := s.flag p Lp.LP_CFG_NE43 k
  let open_ := supply && decide (na < 500000)
  match c with
  | 1 => ne43 && open_
  | 2 => ne43 && loopBand na == 1 && !open_
  | 3 => ne43 && loopBand na == 5
  | 4 => supply && decide (r.supply = 2600 ∧ r.term < 10 * (s.fld p Lp.LP_SUPPLY_TX_V k : Int) - 100)
  | _ => false

/-- Whether the condition of a cause of R454 is met in OUTPUT mode. -/
def State.outputCond (s : State) (p k : Nat) (r : LoopReading) (c : Nat) : Bool :=
  let ua := s.fld p Lp.OUT_UA k
  match c with
  | 1 => decide (1000 ≤ ua ∧ r.na < 500000 ∧ 2150 ≤ r.term)
  | 4 => decide (500000 ≤ r.na ∧ r.na + 100000 + 10 * ua < 1000 * ua ∧ r.supply = 2600)
  | _ => false

/-- The conditions of the causes remembered: since when each has held, and since when the present one has been absent. -/
def State.trackCauses (s : State) (p k : Nat) (cond : Nat → Bool) : State :=
  let c := s.loop p k
  let held := [1, 2, 3, 4, 6].foldl (fun (h : Tab (Option Nat)) n =>
    h.wr none n (if cond n then some ((h.rd none n).getD s.now) else none)) c.held
  let gone := if cond (s.loopCause p k) then none else some (c.gone.getD s.now)
  s.setLoop p k { c with held := held, gone := gone }

/-- The filter of R449: first order with time constant FILT_MS, at one sample a millisecond. -/
def State.loopFilter (s : State) (p k : Nat) (na : Int) : Int :=
  let x := na * 1048576
  match (s.loop p k).filt with
  | none => x
  | some y => y + (x - y) / (1 + (s.fld p Lp.LP_FILT_FILT_MS k : Int))

/-- GRP_POWER (R459): the power of the loop supplies, in mW. -/
def State.showPower (s : State) (p : Nat) : State :=
  let one (k : Nat) : Nat := s.fld p Lp.LP_VOLTS_SUPPLY_V k * (s.sfld p Lp.I_NA k).toNat
  s.setFld p Lp.GRP_POWER (saturate 16 (((List.range 8).map one).sum / 100000000))

/-- THERMAL (R456): from 115 °C the supply is throttled. -/
def State.loopThermal (s : State) (p k : Nat) (temp : Int) : State :=
  let on := decide (1150 ≤ temp)
  let s := (s.setSfld p Lp.CH_TEMP temp k).setFld p Lp.LP_STATUS_THERMAL (bool01 on) k
  let s := s.groupBit p Lp.GRP_STATUS_THERMAL k on
  s.level p 2 (s.fld p Lp.GRP_STATUS_THERMAL != 0)

/-- An input sample (R449-R451, R457). -/
def State.inputSample (s : State) (p k : Nat) (r : LoopReading) : State :=
  let y := s.loopFilter p k r.na
  let na := y / 1048576
  let c := s.loop p k
  let s := s.setLoop p k { c with
    filt := some y
    okAt := if 3600000 ≤ na then some (c.okAt.getD s.now) else none
    lowAt := if na < 500000 then some (c.lowAt.getD s.now) else none }
  let s := s.setFld p Lp.LP_STATUS_BAND (loopBand na) k
  let s := s.trackCauses p k (s.inputCond p k na r)
  if s.loopCause p k = 0 then (s.setSfld p Lp.I_NA r.na k).setSfld p Lp.ENG (s.loopEng p k y) k else s

/-- The highest supply voltage in 10 mV at a temperature of the stage in 0.1 °C (R456). -/
def supplyTop (temp : Int) : Nat := 2600 - 18 * (clampInt temp 1150 1250 - 1150).toNat

/-- SUPPLY_V of a channel (R448, R452, R453, R456): 0 where its supply is off, and never above what its temperature allows. -/
def State.supplyShown (s : State) (p k : Nat) (r : LoopReading) : Nat :=
  if (s.loop p k).off ∨ (s.loopMode p k = 1 ∧ !s.flag p Lp.LP_CFG_SUPPLY k) then 0 else min r.supply (supplyTop r.temp)

/-- LOOP_SAMPLE (R449-R456). -/
def execLoopSample (t : Nat) (g : Fin 4) (k : Fin 8) (r : LoopReading) (s : State) : Host.Outcome State Fault Refusal :=
  let p := 0x4C + g.val
  let s := s.start t
  let mode := s.loopMode p k
  .next (if mode ≠ 1 ∧ mode ≠ 2 then s
    else
      let s := (s.setFld p Lp.LP_VOLTS_SUPPLY_V (s.supplyShown p k r) k).setSfld p Lp.LP_VOLTS_TERM r.term k
      let s := (s.setSfld p Lp.GRP_TEMP r.front).loopThermal p k r.temp
      let s := if mode = 1 then s.inputSample p k r
        else (s.setSfld p Lp.I_NA r.na k).trackCauses p k (s.outputCond p k r)
      s.showPower p)

/-- A sample of one VOLTAGE channel (R458): V_INST, V_RMS, its crossing and its peaks. -/
def State.voltSample (s : State) (p k : Nat) (v : Int) : State :=
  let c := s.loop p k
  let s := s.setSfld p Lp.V_MEAS_V_INST v k
  let rise := (match c.last with
    | some w => decide (w < 0 ∧ 0 ≤ v)
    | none => false)
  let win := if c.riseAt.isNone && !rise then (c.window.filter fun x => s.now < x.1 + 100000000) ++ [(s.now, v)] else []
  let rms :=
    if rise ∧ c.count ≠ 0 ∧ c.riseAt.isSome then some (isqrt (c.squares / c.count))
    else if win.isEmpty then none
    else some (isqrt ((win.map fun x => (x.2 * x.2).natAbs).sum / win.length))
  let s := match rms with
    | some m => s.setFld p Lp.V_MEAS_V_RMS (saturate 16 m) k
    | none => s
  let c := { c with last := some v, window := win }
  s.setLoop p k (if rise then
      { c with riseAt := some s.now, count := 1, squares := (v * v).natAbs, peakWas := c.peak, peak := v.natAbs }
    else { c with count := c.count + 1, squares := c.squares + (v * v).natAbs, peak := max c.peak v.natAbs })

/-- PHASE of two line voltages in mV (R458): the angle of (v_ab, beta) as a part of 2^24, computed to 64 bits beyond the
point. -/
def mainsPhase (ab bc : Int) : Nat :=
  let y := ab * 2 ^ 80
  let x := (ab + 2 * bc) * (-1) * 2 ^ 160 / (isqrt (3 * 2 ^ 160) : Int)
  let tau := 2 * piAt 96
  let one := piAt 96 / 2
  -- the angle of (|x|, |y|), at scale 2^-96
  let a : Int :=
    if x = 0 then (if y = 0 then 0 else one)
    else if y.natAbs ≤ x.natAbs then (atanBall 96 y.natAbs x.natAbs).mid
    else one - (atanBall 96 x.natAbs y.natAbs).mid
  let a := if x < 0 then piAt 96 - a else a
  let a := if y < 0 then -a else a
  (a * 16777216 / tau % 16777216).toNat

/-- PHASE and FREQ of a pair (R458): the mean rate over the last whole turn, in mHz. With both voltages 0 the angle has no stated
value: it is free. -/
def State.pairPhase (s : State) (p k : Nat) (ab bc : Int) : State :=
  let (ph, s) := if ab = 0 ∧ bc = 0 then (s.free.1.toNat % 2 ^ 24, s.free.2) else (mainsPhase ab bc, s)
  let c := s.loop p k
  let s := s.setFld p Lp.PHASE ph k
  match c.phase with
  | none => s.setLoop p k { c with phase := some ph, turn := 0, turnAt := s.now }
  | some old =>
    let turn := c.turn + wrap24 ((ph : Int) - old)
    if 16777216 ≤ turn.natAbs ∧ c.turnAt < s.now then
      let f := turn * 1000000000000 / (16777216 * ((s.now - c.turnAt : Nat) : Int))
      (s.setSfld p Lp.FREQ f k).setLoop p k { c with phase := some ph, turn := 0, turnAt := s.now }
    else s.setLoop p k { c with phase := some ph, turn := turn }

/-- Whether a pair is valid (R458). -/
def State.pairValid (s : State) (p k : Nat) : Bool :=
  let f := s.sfld p Lp.FREQ k
  let fresh := (match (s.loop p k).riseAt with
    | some x => decide (s.now < x + 50000000)
    | none => false)
  let loud (j : Nat) : Bool := decide (1000 ≤ max (s.loop p j).peak (s.loop p j).peakWas)
  decide (40000 ≤ f ∧ f ≤ 70000) && fresh && loud k && loud (k + 1) && s.loopCause p k == 0 && s.loopCause p (k + 1) == 0

/-- PAIR_VALID of a pair, and PAIR_LOST (R458, R461). -/
def State.showPair (s : State) (p k : Nat) : State :=
  let both (j : Nat) : Bool := s.loopMode p j == 3 && s.loopMode p (j + 1) == 3
  let s := s.groupBit p Lp.GRP_STATUS_PAIR_VALID k (both k && s.pairValid p k)
  s.level p 3 ([0, 2, 4, 6].any fun j => both j && !bitAt (s.fld p Lp.GRP_STATUS_PAIR_VALID) j) k

/-- VOLTAGE_SAMPLE (R458): both channels of pair `j` at one instant, in mV. -/
def execVoltageSample (t : Nat) (g : Fin 4) (j : Fin 4) (ab bc : Int) (s : State) : Host.Outcome State Fault Refusal :=
  let p := 0x4C + g.val
  let k := 2 * j.val
  let s := s.start t
  let one (s : State) (k : Nat) (v : Int) : State :=
    if s.loopMode p k = 3 then
      (s.voltSample p k v).trackCauses p k (fun c => c == 6 && decide (10500 < v.natAbs))
    else s
  let s := one (one s k ab) (k + 1) bc
  .next (if s.loopMode p k = 3 ∧ s.loopMode p (k + 1) = 3 then (s.pairPhase p k ab bc).showPair p k else s)

/-- How long the condition of a cause must hold, in ns (R454). -/
def State.causeTime (s : State) (p k c : Nat) : Nat :=
  if c = 6 then 1000000
  else if s.loopMode p k = 1 ∧ c ≠ 4 then s.fld p Lp.LP_SUPPLY_BAND_MS k * 1000000
  else 50000000

/-- A cause entered (R454): only a higher one replaces the present one. -/
def State.enterCause (s : State) (p k c : Nat) : State :=
  if c ≤ s.loopCause p k then s
  else
    let s := s.setLoop p k { s.loop p k with gone := none }
    let s := ((s.setCause p k c).bump p Lp.LP_FAULTS k).loopChange p k 3
    s.showPair p (k / 2 * 2)

/-- The present cause ended. -/
def State.endCause (s : State) (p k : Nat) : State := ((s.setCause p k 0).loopChange p k 4).showPair p (k / 2 * 2)

/-- LOOP_FAULT (R454). -/
def execLoopFault (t : Nat) (g : Fin 4) (k : Fin 8) (s : State) : Host.Outcome State Fault Refusal :=
  let p := 0x4C + g.val
  let s := s.start t
  let due (c : Nat) : Bool :=
    match (s.loop p k).held.rd none c with
    | some x => decide (x + s.causeTime p k c ≤ s.now)
    | none => false
  .next (([1, 2, 3, 4, 6].filter due).foldl (fun s c => s.enterCause p k c) s)

/-- LOOP_FAULT_END (R454). -/
def execLoopFaultEnd (t : Nat) (g : Fin 4) (k : Fin 8) (s : State) : Host.Outcome State Fault Refusal :=
  let p := 0x4C + g.val
  let s := s.start t
  let c := s.loopCause p k
  .next (match (s.loop p k).gone with
    | some x =>
      if c ≠ 0 ∧ c ≠ 5 ∧ x + 10000000 ≤ s.now then
        (if (s.loop p k).off then (s.endCause p k).enterCause p k 5 else s.endCause p k)
      else s
    | none => s)

/-- LOOP_OVERTEMP (R456): the stage temperature in 0.1 °C. -/
def execLoopOvertemp (t : Nat) (g : Fin 4) (k : Fin 8) (temp : Int) (s : State) : Host.Outcome State Fault Refusal :=
  let p := 0x4C + g.val
  let s := s.start t
  .next (if s.loopMode p k = 0 then s
    else
      let s := s.loopThermal p k temp
      if temp ≤ 1300 then s
      else ((s.setLoop p k { s.loop p k with off := true }).enterCause p k 5).driveLoop p k)

/-- LOOP_TEMP_RECOVER (R456). -/
def execLoopTempRecover (t : Nat) (g : Fin 4) (k : Fin 8) (temp : Int) (s : State) : Host.Outcome State Fault Refusal :=
  let p := 0x4C + g.val
  let s := s.start t
  .next (if s.loopMode p k = 0 then s
    else
      let s := s.loopThermal p k temp
      if 1100 ≤ temp ∨ !(s.loop p k).off then s
      else
        let s := (s.setLoop p k { s.loop p k with off := false }).driveLoop p k
        if s.loopCause p k = 5 then s.endCause p k else s)

/-- A channel's presence (R457). -/
def State.setPresent (s : State) (p k : Nat) (on : Bool) : State :=
  let s := (s.setFld p Lp.LP_STATUS_PRESENT (bool01 on) k).groupBit p Lp.GRP_STATUS_PRESENT k on
  let s := s.bump p (if on then Lp.ATTACH_ARRIVALS else Lp.ATTACH_DEPARTURES) k
  s.loopChange p k (if on then 1 else 2)

/-- TRANSMITTER_ARRIVED (R457). -/
def execTransmitterArrived (t : Nat) (g : Fin 4) (k : Fin 8) (s : State) : Host.Outcome State Fault Refusal :=
  let p := 0x4C + g.val
  let s := s.start t
  .next (match (s.loop p k).okAt with
    | some x =>
      if s.loopMode p k = 1 ∧ !s.flag p Lp.LP_STATUS_PRESENT k ∧ x + 100000000 ≤ s.now then s.setPresent p k true else s
    | none => s)

/-- TRANSMITTER_DEPARTED (R457). -/
def execTransmitterDeparted (t : Nat) (g : Fin 4) (k : Fin 8) (s : State) : Host.Outcome State Fault Refusal :=
  let p := 0x4C + g.val
  let s := s.start t
  .next (match (s.loop p k).lowAt with
    | some x =>
      if s.loopMode p k = 1 ∧ s.flag p Lp.LP_STATUS_PRESENT k ∧ x + 1000000000 ≤ s.now then s.setPresent p k false else s
    | none => s)

/-- OUT_UA_WRITE (R453, R460): the first one of the owner lane takes a group from STARTING to RUN. -/
def execOutUaWrite (t code gen : Nat) (g : Fin 4) (k : Fin 8) (value : Word) (s : State) : Host.Outcome State Fault Refusal :=
  let p := 0x4C + g.val
  .next ((s.start t).write ⟨code, gen, p, Lp.OUT_UA.pos k, value⟩ fun s =>
    let s := if s.pstate p = 0 ∧ (code = 1 ∨ code = 2) ∧ s.owner p = code then s.setPstate p 1 else s
    s.each (List.range 8) fun s j => s.driveLoop p j)

/-- A channel in a mode as at its start (R448): through OFF, with fault, filter and presence cleared. -/
def State.startMode (s : State) (p k mode : Nat) : State :=
  let s := s.setLoop p k {}
  let s := (List.range 7).foldl (fun s i => s.setReg p (Lp.LP_STATUS_MODE.pos k + 4 * i) 0) s
  let s := (s.groupBit p Lp.GRP_STATUS_PRESENT k false).groupBit p Lp.GRP_STATUS_THERMAL k false
  let s := (s.level p 2 (s.fld p Lp.GRP_STATUS_THERMAL != 0)).setCause p k 0
  ((s.setFld p Lp.LP_STATUS_MODE mode k).showPair p (k / 2 * 2)).driveLoop p k

/-- The mode in force follows LP_CFG.MODE (R448). -/
def State.followMode (s : State) (p k : Nat) : State :=
  let m := s.fld p Lp.LP_CFG_MODE k
  if s.loopMode p k = m then s else s.startMode p k m

/-- LOOP_MODE_WRITE (R448): a write of LP_CFG. -/
def execLoopModeWrite (t code gen : Nat) (g : Fin 4) (k : Fin 8) (value : Word) (s : State) : Host.Outcome State Fault Refusal :=
  let p := 0x4C + g.val
  .next ((s.start t).write ⟨code, gen, p, Lp.LP_CFG_MODE.pos k, value⟩ fun s => s.followMode p k)

/-- COUNTERS_CLEAR of a loop page (R460). -/
def cmdLoopClear : Cmd where
  opc := 0x01
  kinds := (· == .loopGroup)
  act := fun s q _ _ =>
    (s.each (List.range 8) fun s k => (s.setFld q.page Lp.LP_FAULTS 0 k).setReg q.page (Lp.ATTACH_ARRIVALS.pos k) 0, RC.done)

def execLoopCountersClear (t : Nat) (q : Req) (s : State) : Host.Outcome State Fault Refusal :=
  .next ((s.start t).command q cmdLoopClear)

end Sys2Proof.Machine
end

