-- ==== Sys2Proof/Machine/CleFault.lean ====
section
/-! DEFINITION. What a lane does when its CLE leaves RUN: safe values (R184), entry to STOP_FAULT (R186), HOLD and
breakpoints (R187, R188). -/

namespace Sys2Proof.Machine

/-- The safe value that the image gives an output (R184); outputs are keyed by 256 times their page plus their channel. -/
def CleRec.safeOf (c : CleRec) (page ch : Nat) : Option SafeValue :=
  (c.img.safe.find? fun x => x.1 == page * 256 + ch).map (·.2)

/-- The safe values of a field bank: an output refresh (R184, R417). -/
def State.safeBank (s : State) (c : CleRec) (p : Nat) : State :=
  let old := s.fld p Bk.OUT_SET
  let bit (k : Nat) : Bool :=
    match c.safeOf p k with
    | some .on => true
    | some .hold => bitAt old k
    | _ => false
  (s.setFld p Bk.OUT_SET ((List.range 16).foldl (fun v k => v + 2 ^ k * bool01 (bit k)) 0)).ownerRefresh p

/-- The safe values of a load-switch group (R184). -/
def State.safeGroup (s : State) (c : CleRec) (p : Nat) : State :=
  let w := s.reg p Ls.LS_CMD_0.off
  let w := (List.range 8).foldl (fun w k =>
    match c.safeOf p k with
    | some .on => putBits w (2 * k + 1) (2 * k) 1
    | some .hold => w
    | _ => putBits w (2 * k + 1) (2 * k) 0) w
  ((s.setReg p Ls.LS_CMD_0.off w).ownerWrote p).takeCommands p

/-- The safe values of a loop group (R184): 3.5 mA where the table gives none. -/
def State.safeLoops (s : State) (c : CleRec) (p : Nat) : State :=
  let s := s.each (List.range 8) fun s k =>
    match c.safeOf p k with
    | some (.current ua) => s.setFld p Lp.OUT_UA (min ua 24000) k
    | some .hold => s
    | _ => s.setFld p Lp.OUT_UA 3500 k
  let s := if s.pstate p = 0 then s.setPstate p 1 else s
  s.each (List.range 8) fun s k => s.driveLoop p k

/-- The safe value of an axis (R184): finish the motion and take no new one, a quick stop, or no torque. -/
def State.safeAxis (s : State) (c : CleRec) (p : Nat) : State :=
  let m := s.mstate p
  match c.safeOf p 0 with
  | some .quickStop =>
    (if m = 11 then s.failHoming p 6 true else if m = 6 ∨ m = 7 ∨ m = 8 ∨ m = 10 then s.quickStop p 3 else s).settle (busOf p)
  | some .torqueOff => if 2 ≤ s.pstate p ∧ s.pstate p ≤ 6 then (s.removeTorque p 1 0).settle (busOf p) else s
  | _ => s.modAxis p fun x => { x with noMotion := true }

/-- The safe-value table applied to every resource that a lane owns (R184). -/
def State.safeValues (s : State) (l : Lane) : State :=
  let c := s.cle l
  s.each (ownedPages.filter fun p => s.owner p == l.num && (s.resRec p).accepted) fun s p =>
    match pageKind p with
    | .bank => s.safeBank c p
    | .lsGroup => s.safeGroup c p
    | .loopGroup => s.safeLoops c p
    | .axis => s.safeAxis c p
    | _ => s

/-- The event of a STOP_FAULT cause (R198). -/
def State.faultEvent (s : State) (l : Lane) (cause task : Nat) : State :=
  let p := clePage l
  match cause with
  | 1 => s.raise p 3 task
  | 2 => s.raise p 4 (s.fld p Ce.STALL_TASKS)
  | _ => s.raise p 5 (cause * 2 ^ 8 + task)

/-- Entry to STOP_FAULT (R181, R186): STOP_INFO and what stands with it, the safe values, the dump, the heartbeats, and the
lane's safety half (R493). `task` is 0xFF where none ran. -/
def State.cleFault (s : State) (l : Lane) (cause task pc : Nat) : State :=
  let p := clePage l
  if s.pstate p ≠ 2 then s
  else
    let task := if task < 16 then task else 0xFF
    let d := s.dumpStart l cause task pc false
    let s := d.1.setCle l (s.cle l).abandon
    let s := ((s.setFld p Ce.STOP_INFO_CAUSE cause).setFld p Ce.STOP_INFO_TASK task).setFld p Ce.FAULT_PC (pc % 2 ^ 22)
    let s := (s.setFld p Ce.FAULT_CYCLE (((s.cle l).cycle) % 2 ^ 32)).setCleState l 4
    let s := (s.faultEvent l cause task).safeValues l
    let s := s.hbFault l
    (s.halfStops l).safetyCause 3

/-- HELD_CYCLE of a lane (R199). -/
def heldCycle : Lane → Field
  | .a => Db.HELD_CYCLE_A
  | .b => Db.HELD_CYCLE_B

/-- HOLD and STEP_CYCLE end DONE once every CLE they act on is held (R200). -/
def State.heldDone (s : State) : State :=
  s.completeAll (fun o => o.page == 0x0B && (o.opc == 0x01 || o.opc == 0x03)
    && (holdTargets o.chan).all fun l => s.pstate (clePage l) == 3 && (s.cle l).runCmds.isEmpty) RC.done

/-- Entry to HOLD (R187, R199): at a boundary (1), a breakpoint (2) or the end of a step (3). STEP_DONE is raised when the last
lane that steps is held (R201). -/
def State.enterHold (s : State) (l : Lane) (place : Nat) : State :=
  let s := s.setFld 0x0B (heldCycle l) ((s.cle l).cycle % 2 ^ 32)
  let s := s.setCle l { s.cle l with steps := none, waiting := false }
  let s := (s.setCleState l 3).setFld 0x0B (whereField l) place
  let s := if place = 3 ∧ (s.cle l.other).steps.isNone then s.raise 0x0B 3 else s
  let s := if s.flag 0x0B Db.HOLD_CFG_OUT_SAFE then s.safeValues l else s
  s.heldDone

/-- The breakpoints that stand at an instruction of a task (R188). -/
def State.breaksAt (s : State) (t pc : Nat) : List Nat :=
  (List.range 8).filter fun b =>
    s.flag 0x0B Db.BP_ADDR_ENA b && s.fld 0x0B Db.BP_ADDR_ADDR b == pc
      && (s.flag 0x0B Db.BP_COND_ANY_TASK b || s.fld 0x0B Db.BP_COND_TASK b == t)

/-- The breakpoints before an instruction (R188): each arrival is counted; in MAINTENANCE the lane holds at the first that is
hit, and elsewhere a hit is counted only. Whether the lane has held. -/
def State.breakCheck (s : State) (l : Lane) (t pc : Nat) : State × Bool :=
  let here := s.breaksAt t pc
  if here = [] then (s, false)
  else
    let c := s.cle l
    let hits := here.filter fun b => c.arrivals.rd 0 b == s.fld 0x0B Db.BP_COND_PASS b
    let s := s.setCle l { c with arrivals := here.foldl (fun m b => m.wr 0 b (m.rd 0 b + 1)) c.arrivals }
    match hits with
    | [] => (s, false)
    | b :: _ =>
      if s.maintenance then
        let s := s.setFld 0x0B (match l with | .a => Db.HOLD_STATUS_BP_A | .b => Db.HOLD_STATUS_BP_B) b
        let s := s.setCle l { s.cle l with heldAtBreak := true }
        ((s.enterHold l 2).raise 0x0B 1 (l.num * 2 ^ 4 + b), true)
      else (hits.foldl (fun s b => (s.bump 0x0B Db.BP_IGNORED).raise 0x0B 2 b) s, false)

end Sys2Proof.Machine
end

