-- ==== Sys2Proof/Machine/CleCore.lean ====
section
/-! DEFINITION. The engine around the instructions (R177-R180, R186, R188, R203, R213, R232). -/

namespace Sys2Proof.Machine

/-- Whether an event number is pending in a task. -/
def TaskRec.has (k : TaskRec) (e : Nat) : Bool := k.pend.any fun p => p.1 == e

/-- An event posted to a task (R67, R179): once, with its accumulated count. -/
def TaskRec.post (k : TaskRec) (e n : Nat) : TaskRec :=
  if k.has e then { k with pend := k.pend.map fun p => if p.1 = e then (e, p.2 + n) else p }
  else { k with pend := k.pend ++ [(e, n)] }

/-- The task with every pending member of a set consumed. -/
def TaskRec.consume (k : TaskRec) (es : List Nat) : TaskRec := { k with pend := k.pend.filter fun p => !es.contains p.1 }

/-- Whether a task is ready when its turn comes (R177, R179): its trigger, a member of its trigger set or a member of
its wait set is pending. -/
def TaskRec.ready (k : TaskRec) (d : TaskDef) : Bool :=
  if k.state = 4 then k.wait.any k.has
  else if k.state = 1 then (if d.kind = 0 then k.trigger else d.triggers.any k.has)
  else k.state == 3

/-- A ready task takes its turn (R179, R203): a body begins at its entry with its instance, empty stacks and its
triggers consumed; a waiting task goes on with its wait set consumed. -/
def TaskRec.begin (k : TaskRec) (d : TaskDef) : TaskRec :=
  if k.state = 1 then
    { k.consume d.triggers with
      state := 3, trigger := false, inst := d.inst, pc := d.entry, bstack := [], calls := [],
      runs := saturate 32 (k.runs + 1) }
  else if k.state = 4 then { k.consume k.wait with state := 3, wait := [], runs := saturate 32 (k.runs + 1) }
  else k

/-- The lowest enabled ready task from `t` on, among `n` (R177). -/
def CleRec.findReady (c : CleRec) : Nat → Nat → Option Nat
  | 0, _ => none
  | n + 1, t =>
    let d := c.img.tasks.rd {} t
    if d.enabled && (c.tasks.rd {} t).ready d then some t else c.findReady n (t + 1)

/-- The scan goes on (R177): the next ready task runs, or the scan has ended. -/
def CleRec.nextTask (c : CleRec) : CleRec :=
  match c.findReady (16 - c.scanned) c.scanned with
  | some t =>
    let k := (c.tasks.rd {} t).begin (c.img.tasks.rd {} t)
    { c with running := some t, tasks := c.tasks.wr {} t k }
  | none => { c with running := none, scanned := 16, phase := .output }

/-- The definition of what runs: a task of the image, or, as number 16, a prime routine, which is a bit-logic sequence
(R248). -/
def CleRec.taskDef (c : CleRec) (t : Nat) : TaskDef :=
  if t = 16 then { enabled := true, bitMode := true } else c.img.tasks.rd {} t

/-- The first prime routine still to run begins, with empty stacks (R248); after the last the scan begins. -/
def CleRec.startPrime (c : CleRec) : CleRec :=
  match c.primes with
  | [] => { c with running := none, tasks := c.tasks.wr {} 16 {} }.nextTask
  | (entry, inst, _, _) :: _ =>
    { c with running := some 16, tasks := c.tasks.wr {} 16 { state := 3, pc := entry, inst := BitVec.ofNat 32 inst } }

/-- A prime routine has ended: ACC goes into the field (R248). -/
def CleRec.endPrime (c : CleRec) (acc : Bool) : CleRec :=
  match c.primes with
  | [] => c.nextTask
  | (_, _, addr, bit) :: rest =>
    let a := addr + bit / 8
    let b := BitVec.ofNat 8 (setBit (memByte c.data a).toNat (bit % 8) acc)
    { c with data := memPut c.data a b, primes := rest }.startPrime

/-- The execution time of a task noted when it gives way (R196), in units of 10 ns, from engine cycles of 2.5 ns. -/
def TaskRec.timed (k : TaskRec) (cycles : Nat) : TaskRec :=
  let u := saturate 24 (cycles / 4)
  { k with timeLast := u, timeMax := max k.timeMax u }

/-- The address after an instruction of `len` words. -/
def pcAfter (pc len : Nat) : Nat := (pc + 4 * len) % 2 ^ 22

/-- The words of an instruction at a program address. -/
def fetchWords (pc len : Nat) : List Nat := (List.range len).map fun i => pc + 4 * i

/-- The first word of an instruction that cannot be fetched (R205): outside CODE, or not aligned. -/
def CleRec.badFetch (c : CleRec) (pc len : Nat) : Option Nat :=
  (fetchWords pc len).find? fun a => !c.img.code.holds a 4 || a % 4 != 0

/-- Whether the table of R216 defines an opcode. -/
def definedOpcode (op : Nat) : Bool :=
  decide (op ≤ 0x0C ∨ (0x10 ≤ op ∧ op ≤ 0x29) ∨ (0x30 ≤ op ∧ op ≤ 0x3E) ∨ (0x4E ≤ op ∧ op ≤ 0x6A) ∨ (0x70 ≤ op ∧ op ≤ 0x89))

/-- The opcode in bits [31:24] of the program's word at an address (R211). -/
def CleRec.opcodeAt (c : CleRec) (pc : Nat) : Nat := (memByte c.img.program (pc + 3)).toNat

/-- The words of SRAM that a load of `n` bytes reads: none where it faults or reads the register window. -/
def CleRec.sramWords (c : CleRec) (a n : Nat) : List Nat :=
  let w := a / 4 * 4
  if inWindow a || (c.load w 4).isNone then [] else (List.range ((n + 3) / 4)).map fun i => w + 4 * i

/-- What the check bits of a word of SRAM show (R529): 0 nothing, 1 a single-bit error, 2 a double-bit error. -/
def CleRec.checkBits (c : CleRec) (a : Nat) : Nat :=
  match c.upset.find? fun u => u.1 == a with
  | some (_, true) => 2
  | some (_, false) => 1
  | none => 0

/-- Words read by port 0 (R529): single-bit errors are corrected, written back and counted; whether one had a double-bit
error, which is reported. -/
def State.sramRead (s : State) (l : Lane) (ws : List Nat) : State × Bool :=
  let c := s.cle l
  let s := s.each (ws.filter fun a => c.checkBits a == 1) fun s a =>
    (s.setCle l { s.cle l with upset := (s.cle l).upset.filter fun u => u.1 != a }).eccCorrected l
  match ws.find? fun a => c.checkBits a == 2 with
  | some a => (s.eccUncorrected l 0 (sramAddr a), true)
  | none => (s, false)

/-- One instruction of the running task of a lane in RUN (R205, R211, R213, R217, R232): each of its words must lie in
CODE, an enabled breakpoint may hold the lane first, the opcode must be defined and the instruction legal in the
task's mode, and no word fetched or read, those of `reads`, may hold a double-bit error; its effects take place whole, or
the CLE stops with a program fault. -/
def State.cleStepReading (s : State) (l : Lane) (bitOk : Bool) (len : Nat) (eff : CleRec → TaskRec → Nat → Eff)
    (reads : CleRec → TaskRec → Nat → List Nat) : State :=
  let s := (s.putOut ([]))
  let c := s.cle l
  match (if s.pstate (clePage l) = 2 then c.running else none) with
  | none => s
  | some t =>
    let k := c.tasks.rd {} t
    match c.badFetch k.pc len with
    | some pc => s.cleFault l Cause.address t pc
    | none =>
      let (s, held) := s.breakCheck l t k.pc
      if held then s
      else
        let (s, bad) := s.sramRead l ((fetchWords k.pc len).map fun a => constBase + a)
        if bad then s.cleFault l Cause.memory t k.pc
        else if !definedOpcode (c.opcodeAt k.pc) || (!bitOk && (c.taskDef t).bitMode) then s.cleFault l Cause.illegal t k.pc
        else
          let (s, bad) := s.sramRead l (reads (s.cle l) k t)
          if bad then s.cleFault l Cause.memory t k.pc
          else
            match eff (s.cle l) { k with pc := pcAfter k.pc len } t with
            | .ok c' k' => s.setCle l { c' with tasks := c'.tasks.wr {} t k' }
            | .fault cause => s.cleFault l cause t k.pc

/-- An instruction that reads no data memory. -/
def State.cleStep (s : State) (l : Lane) (bitOk : Bool) (len : Nat) (eff : CleRec → TaskRec → Nat → Eff) : State :=
  s.cleStepReading l bitOk len eff fun _ _ _ => []

end Sys2Proof.Machine
end

