-- ==== Sys2Proof/Machine/RunCtl.lean ====
section
/-! DEFINITION. Run control (R163-R166, R181-R183, R187-R200): START, STOP, HOLD, RESUME, STEP_CYCLE, FAULT_ACK, and the ends of a
scan, of a cycle that overruns and of a retained commit. -/

namespace Sys2Proof.Machine

/-- Whether two regions share a byte. -/
def Region.meets (r x : Region) : Bool := decide (r.base < x.base + x.size ∧ x.base < r.base + r.size)

/-- The limits of an image's regions (R206). -/
def ProgImage.regionsOk (i : ProgImage) : Bool :=
  decide (4 ≤ i.code.size ∧ i.code.base + i.code.size ≤ 0x400000 ∧ i.const.base + i.const.size ≤ 0x400000
    ∧ i.code.size + i.const.size ≤ 0x400000 ∧ 8 ≤ i.data.size ∧ i.data.base + i.data.size ≤ dataSize
    ∧ i.retain.base + i.retain.size ≤ dataSize ∧ i.data.size + i.retain.size ≤ dataSize ∧ i.retain.size ≤ 4190208
    ∧ i.safety.size ≤ 16384)
    && !i.code.meets i.const && !i.data.meets i.retain
    && (i.safety.size == 0 || i.data.holds i.safety.base i.safety.size || i.retain.holds i.safety.base i.safety.size)

/-- A task's definition as R176 allows it. -/
def TaskDef.ok (d : TaskDef) : Bool :=
  if d.kind = 0 then decide (1 ≤ d.div ∧ d.div ≤ 1000 ∧ d.phase < d.div)
  else decide (1 ≤ d.triggers.length ∧ d.triggers.length ≤ 8)
    && d.triggers.all fun e => !decide ((0x811 ≤ e ∧ e ≤ 0x81F) ∨ 0x860 ≤ e)

/-- Whether a word may stand in an input or output map (R278): a window word of page 0x0D may not. -/
def mapWordOk (w : Nat) : Bool := !decide (0xD400 ≤ w ∧ w < 0xDC00)

/-- Whether an image may be loaded (R114, R176, R206, R207, R233, R278, R509). -/
def ProgImage.limitsOk (i : ProgImage) : Bool :=
  i.regionsOk && i.wcet.isSome && decide (i.inMap.length ≤ 896 ∧ i.outMap.length ≤ 1024)
    && (i.inMap ++ i.outMap).all mapWordOk
    && (i.tasks.all fun x => decide (x.1 < 16) && x.2.ok)
    && i.conns.all fun x => i.safety.holds x.2.1 64 && i.safety.holds x.2.2 64

/-- The program image of the active slot of a lane, when it may be loaded (R114, R193, R601). -/
def State.slotImage (s : State) (l : Lane) : Option ProgImage :=
  match (s.activeSlot (2 + l.num)).bind (·.program) with
  | some i => if i.valid && i.limitsOk then some i else none
  | none => none

/-- The shared values of page 0x08, or those that lane B holds on page 0x09 (R164). -/
def State.sharedRegs (s : State) (p : Nat) : List Nat :=
  [s.fld p Ce.CYCLE_PERIOD_PERIOD_US, s.fld p Ce.CYCLE_CFG_GRACE_PCT, s.fld p Ce.CYCLE_CFG_WARN_PCT, s.fld p Ce.CYCLE_CFG_STOP_SAFE]

/-- The shared values in force on a lane (R164); before its first boundary those of its page. -/
def State.sharedOf (s : State) (l : Lane) : List Nat :=
  let x := (s.cle l).shared
  if x.isEmpty then s.sharedRegs (clePage l) else x

/-- The period with which a lane would start (R163): never below the CLE minimum. -/
def State.startPeriod (s : State) (l : Lane) : Nat := max ((s.sharedOf l).getD 0 1000) s.cleMinWritten

/-- The period between the boundaries of a lane (R163): that in force, or before the first start the configured one. -/
def State.cyclePeriod (s : State) (l : Lane) : Nat :=
  let p := s.fld (clePage l) Ce.CYCLE_ACT_PERIOD_US
  if p = 0 then (s.sharedOf l).getD 0 1000 else p

/-- G of R171 in ns. -/
def State.graceNs (s : State) (l : Lane) : Nat := s.fld (clePage l) Ce.CYCLE_ACT_GRACE * s.cyclePeriod l * 10

/-- The snapshots of a lane that a warm start may use (R119, conditions 1 and 2). -/
def CleRec.warmSnaps (c : CleRec) (digest : Nat) : List SnapBuf :=
  [c.snap0, c.snap1].filter fun b => b.valid && b.crcOk && !b.flips.any (·.2) && b.digest == digest

/-- The one of the highest cycle number. -/
def newestOf (bs : List SnapBuf) : Option SnapBuf :=
  bs.foldl (fun m b => match m with
    | some x => if x.cycle < b.cycle then some b else some x
    | none => some b) none

/-- The snapshot of a warm start (R119, R120): a lane's own, or that of two lanes that start together. -/
def State.warmSnap (s : State) (l : Lane) (both : Bool) (digest : Nat) : Option SnapBuf :=
  if !both then newestOf ((s.cle l).warmSnaps digest)
  else
    let a := (s.cle .a).warmSnaps digest
    let b := (s.cle .b).warmSnaps digest
    match newestOf (a.filter fun x => b.any fun y => x.cycle == y.cycle && x.data == y.data) with
    | some x => some x
    | none => if a.isEmpty then newestOf b else newestOf a

/-- Whether an image has a region in a segment marked bad (R538, R539). -/
def State.onBad (s : State) (l : Lane) (i : ProgImage) : Bool :=
  (List.range 16).any fun k => bitAt (s.fld (memPage l) Mm.SEG_BAD) k && i.usesSegment k

/-- Whether a mode of START is permitted on a lane (R193). -/
def State.modeOk (s : State) (l : Lane) (both : Bool) (mode : Nat) : Bool :=
  match s.slotImage l with
  | none => false
  | some i =>
    match mode with
    | 0 => s.flag (clePage l) Ce.STOP_INFO_CLEAN_STOP && ((s.cle l).image.map (·.digest)) == some i.digest
    | 1 => (s.warmSnap l both i.digest).isSome && !s.onBad l i
    | _ => !s.onBad l i

/-- Tasks as a warm or cold start leaves them (R193, R203); what the page counts of them goes on (R196). -/
def ProgImage.freshTasks (i : ProgImage) (old : Tab TaskRec) : Tab TaskRec :=
  (List.range 16).foldl (fun m t =>
    let d := i.tasks.rd {} t
    let k := old.rd {} t
    if d.enabled then
      m.wr {} t { state := 1, inst := d.inst, pc := d.entry, timeLast := k.timeLast, timeMax := k.timeMax, runs := k.runs }
    else m) []

/-- DATA and RETAIN as the image gives them, with RETAIN from a snapshot when there is one. -/
def ProgImage.freshData (i : ProgImage) (snap : Option SnapBuf) : List Host.Cell :=
  match snap with
  | some b => (i.init.filter fun x => !i.retain.holds x.1 1).foldl (fun m x => memPut m x.1 x.2) b.data
  | none => i.init.foldl (fun m x => memPut m x.1 x.2) []

/-- The number before that of the first cycle of a cold start (R165); two lanes that start together take the higher. -/
def State.coldCycle (s : State) (l : Lane) (both : Bool) : Nat :=
  let top (c : CleRec) : Nat := ([c.snap0, c.snap1].filter (·.valid)).foldl (fun m b => max m b.cycle) 0
  if both then max (top (s.cle .a)) (top (s.cle .b)) else top (s.cle l)

/-- The program image that a lane runs, loaded (R193, R196, R561). -/
def State.loadImage (s : State) (l : Lane) (i : ProgImage) : State :=
  let new := ((s.cle l).image.map (·.digest)) != some i.digest
  let s := s.setCle l { s.cle l with image := some i }
  let s := (s.setFld (clePage l) Ce.PROG_REF i.ref.toNat).wakeUsed l
  if new then s.histEntry l 2 (i.code.size + i.const.size) i.digest else s

/-- The data of a lane as a start in a mode leaves it (R165, R166, R193). A cold start gives its first cycle program time 0; the
other kinds advance it at their first cycle. -/
def State.startData (s : State) (l : Lane) (both : Bool) (mode : Nat) : State :=
  if mode = 0 then s.setCle l { s.cle l with cycle := (s.cle l).doneCycle }
  else
    match s.slotImage l with
    | none => s
    | some i =>
      let snap := if mode = 1 then s.warmSnap l both i.digest else none
      let n := match snap with
        | some b => b.cycle
        | none => s.coldCycle l both
      let s := if mode = 1 then (s.loadImage l i).readMram l else s.loadImage l i
      s.setCle l { s.cle l with
        data := i.freshData snap, tasks := i.freshTasks (s.cle l).tasks, cycle := n
        progTime := (snap.map (·.progTime)).getD 0, outVals := [], outResults := [], primes := [], upset := [] }

/-- A CLE starts (R163, R181, R193): the period and grace in force, the data of the mode, and RUN; its first cycle begins once
the exchange of this boundary is over. -/
def State.startCle (s : State) (l : Lane) (both : Bool) (mode : Nat) : State :=
  let p := clePage l
  let v := s.sharedOf l
  let period := s.startPeriod l
  let s := s.startData l both mode
  let s := if period ≠ v.getD 0 1000 ∧ (l = .a ∨ !both) then
      (s.reportClamp 0 0x08 Ce.CYCLE_PERIOD_PERIOD_US.off 0 (v.getD 0 1000) period).raise 0x08 13
    else s
  let s := s.setFld 0 Dev.EFF_CLE_MIN s.cleMinWritten
  let s := (s.setFld p Ce.CYCLE_ACT_PERIOD_US period).setFld p Ce.CYCLE_ACT_GRACE (v.getD 1 0)
  let s := (s.setFld p Ce.STOP_INFO_LAST_START mode).setFld p Ce.USAGE_MAX 0
  let s := s.setCle l { s.cle l with
    waiting := true, starting := some mode, phase := .idle, staged := [], ready := [], late := false, steps := none
    heldAtBreak := false, compareSent := none, compareGot := none }
  let s := s.setHalf l { s.half l with demand := 0 }
  (s.setCleState l 2).showReactions

/-- A run-state command decided (R182): it acts at the second boundary. -/
def State.decideRun (s : State) (l : Lane) (op arg : Nat) (both : Bool) : State :=
  s.setCle l { s.cle l with runCmds := (s.cle l).runCmds ++ [⟨op, arg, 2, both⟩] }

/-- Whether the lanes are ALIGNED (R84). -/
def State.aligned (s : State) : Bool := s.laneState .a == 4 && s.laneState .b == 4

/-- The lane of a CLE page. -/
def cleLane (p : Nat) : Lane := if p = 0x09 then .b else .a

/-- The CLEs that a command on a CLE page acts on (R182). -/
def State.runTargets (s : State) (l : Lane) : List Lane := if s.aligned then [.a, .b] else [l]

/-- START (R183, R193, R195, R197). -/
def cmdStart : Cmd where
  opc := 0x01
  kinds := (· == .cle)
  range := fun _ ch a0 _ => ch == 0 && a0 % 4 != 3
  allow := fun s q a0 _ =>
    let l := cleLane q.page
    let st := s.laneState l
    let both := s.aligned
    if s.pstate q.page ≠ 1 ∨ (both ∧ l = .b) ∨ 5 ≤ st then RC.state
    else if s.pstate (clePage l.other) = 2 ∨ s.pstate (clePage l.other) = 3 then RC.state
    else if (s.runTargets l).any (fun x => !s.modeOk x both (a0 % 4)) then RC.state
    else
      let i := if a0 % 4 = 0 then (s.cle l).image else s.slotImage l
      let period := max (s.fld q.page Ce.CYCLE_PERIOD_PERIOD_US) s.cleMinWritten
      if decide (period < (i.bind (·.wcet)).getD 0) then RC.state else 0
  act := fun s q a0 _ => (s.decideRun (cleLane q.page) 1 (a0 % 4) s.aligned, RC.accepted)

def execStartCle (t : Nat) (q : Req) (s : State) : Host.Outcome State Fault Refusal :=
  .next ((s.start t).command q cmdStart)

/-- STOP (R181, R182, R197). -/
def cmdStopCle : Cmd where
  opc := 0x02
  kinds := (· == .cle)
  allow := fun s q _ _ =>
    if (s.pstate q.page = 2 ∨ s.pstate q.page = 3) ∧ !(s.aligned ∧ q.page = 0x09) then 0 else RC.state
  act := fun s q _ _ => (s.decideRun (cleLane q.page) 2 0 s.aligned, RC.accepted)

def execStopCle (t : Nat) (q : Req) (s : State) : Host.Outcome State Fault Refusal :=
  .next ((s.start t).command q cmdStopCle)

/-- FAULT_ACK (R86, R181, R197): the heartbeats that STOP_FAULT had stopped go on. -/
def cmdFaultAck : Cmd where
  opc := 0x03
  kinds := (· == .cle)
  allow := fun s q _ _ => if s.pstate q.page = 4 then 0 else RC.state
  act := fun s q _ _ =>
    let l := cleLane q.page
    ((((s.setCleState l 1).setFld q.page Ce.STOP_INFO_CLEAN_STOP 0).hbStart l), RC.done)

def execFaultAck (t : Nat) (q : Req) (s : State) : Host.Outcome State Fault Refusal :=
  .next ((s.start t).command q cmdFaultAck)

/-- COUNTERS_CLEAR of a CLE page (R197). -/
def cmdCleClear : Cmd where
  opc := 0x04
  kinds := (· == .cle)
  act := fun s q _ _ =>
    let l := cleLane q.page
    let s := [Ce.USAGE_MAX, Ce.LATE_COUNT, Ce.WARN_COUNT, Ce.RETAIN_COMMIT_MAX_US, Ce.RETAIN_SKIPS, Ce.CMP_MISMATCHES,
      Ce.CMP_MISSING].foldl (fun s f => s.setFld q.page f 0) s
    let c := s.cle l
    (s.setCle l { c with tasks := (List.range 16).foldl (fun m t =>
      let k := m.rd {} t
      m.wr {} t { k with timeMax := 0 }) c.tasks }, RC.done)

def execCleCountersClear (t : Nat) (q : Req) (s : State) : Host.Outcome State Fault Refusal :=
  .next ((s.start t).command q cmdCleClear)

/-- CHANNEL of page 0x0B (R199). -/
def holdRange (_ : State) (ch _ _ : Nat) : Bool := decide (ch ≤ 2)

/-- A command of page 0x0B decided (R182): by both lanes through lane A while ALIGNED, else by each lane that CHANNEL names. -/
def State.decideHold (s : State) (q : Req) (op arg : Nat) : State :=
  if s.aligned then s.decideRun .a op arg true
  else (holdTargets q.chan).foldl (fun s l => s.decideRun l op arg false) s

/-- Whether every CLE that CHANNEL names fulfils a condition, and CHANNEL may be used (R199). -/
def State.holdAll (s : State) (q : Req) (f : Lane → Bool) : Bool := !(s.aligned && q.chan != 0) && (holdTargets q.chan).all f

/-- HOLD (R187, R200). -/
def cmdHold : Cmd where
  opc := 0x01
  kinds := (· == .debug)
  range := holdRange
  allow := fun s q _ _ => if s.maintenance && s.holdAll q (fun l => s.pstate (clePage l) == 2) then 0 else RC.state
  act := fun s q _ _ => (s.decideHold q 3 0, RC.accepted)

def execHoldCle (t : Nat) (q : Req) (s : State) : Host.Outcome State Fault Refusal :=
  .next ((s.start t).command q cmdHold)

/-- RESUME (R189, R200): of CLEs in HOLD, or of CLEs that step, whose remaining count it cancels. -/
def cmdResume : Cmd where
  opc := 0x02
  kinds := (· == .debug)
  range := holdRange
  allow := fun s q _ _ =>
    if s.holdAll q (fun l => s.pstate (clePage l) == 3 || (s.pstate (clePage l) == 2 && (s.cle l).steps.isSome)) then 0 else RC.state
  act := fun s q _ _ => (s.decideHold q 4 0, RC.accepted)

def execResumeCle (t : Nat) (q : Req) (s : State) : Host.Outcome State Fault Refusal :=
  .next ((s.start t).command q cmdResume)

/-- STEP_CYCLE (R189, R200). -/
def cmdStep : Cmd where
  opc := 0x03
  kinds := (· == .debug)
  range := fun _ ch a0 _ => decide (ch ≤ 2 ∧ 1 ≤ a0 % 1024 ∧ a0 % 1024 ≤ 1000)
  allow := fun s q _ _ => if s.maintenance && s.holdAll q (fun l => s.pstate (clePage l) == 3) then 0 else RC.state
  act := fun s q a0 _ => (s.decideHold q 5 (a0 % 1024), RC.accepted)

def execStepCycle (t : Nat) (q : Req) (s : State) : Host.Outcome State Fault Refusal :=
  .next ((s.start t).command q cmdStep)

/-- The set of events that a task waits on (R180). -/
def waitsOn (d : TaskDef) (k : TaskRec) : List Nat := if k.state = 4 then k.wait else if d.kind = 1 then d.triggers else [0x810]

/-- Whether an event is of class SOFT (R178). -/
def softEvent (e : Nat) : Bool := decide (0x820 ≤ e ∧ e ≤ 0x85F)

/-- STALL at the end of a scan (R180). -/
def CleRec.stalls (c : CleRec) : Bool :=
  let on := (List.range 16).filter fun t => (c.img.tasks.rd {} t).enabled
  !on.isEmpty && on.all fun t =>
    let d := c.img.tasks.rd {} t
    let k := c.tasks.rd {} t
    (k.state == 1 || k.state == 4) && (waitsOn d k).all fun e => softEvent e && !k.has e

/-- The end of a lane's scan (R180): on STALL the CLE enters STOP_FAULT with cause 2. -/
def State.scanEnd (s : State) (l : Lane) : State :=
  let c := s.cle l
  if s.pstate (clePage l) = 2 ∧ c.phase = .output ∧ c.stalls then
    let mask := ((List.range 16).map fun t => if (c.tasks.rd {} t).state = 4 then 2 ^ t else 0).sum
    (s.setFld (clePage l) Ce.STALL_TASKS mask).cleFault l Cause.stall 0xFF 0
  else s

/-- SCAN_END (R180). -/
def execScanEnd (t : Nat) (l : Lane) (s : State) : Host.Outcome State Fault Refusal :=
  .next ((s.start t).scanEnd l)

/-- CYCLE_DEADLINE (R175): an output phase not ended at D. -/
def execCycleDeadline (t : Nat) (l : Lane) (s : State) : Host.Outcome State Fault Refusal :=
  let s := s.start t
  let c := s.cle l
  .next (if s.pstate (clePage l) = 2 ∧ (c.phase = .compute ∨ c.phase = .output) ∧ c.deadline ≤ s.now then
      let n := c.running.getD 0xFF
      s.cleFault l Cause.overrun n ((c.tasks.rd {} n).pc)
    else s)

/-- The snapshot buffer of a number. -/
def CleRec.snap (c : CleRec) (b : Nat) : SnapBuf := if b = 0 then c.snap0 else c.snap1
def CleRec.setSnap (c : CleRec) (b : Nat) (x : SnapBuf) : CleRec := if b = 0 then { c with snap0 := x } else { c with snap1 := x }

/-- The bytes of a memory that lie in a region. -/
def cellsIn (m : List Host.Cell) (r : Region) : List Host.Cell := m.filter fun x => r.holds x.1 1

/-- The retained words that differ from what a buffer holds (R191); all of them where it must be written whole (R253). -/
def changedWords (r : Region) (whole : Bool) (old new : List Host.Cell) : Nat :=
  if whole then (r.size + 3) / 4
  else
    let at_ := ((old.filter fun x => memByte new x.1 != x.2) ++ new.filter fun x => memByte old x.1 != x.2).map (·.1 / 4)
    at_.eraseDups.length

/-- The commit of the cycle that has ended begins (R191, R192, R253): its buffer's valid marker is cleared. -/
def State.beginCommit (s : State) (l : Lane) : State :=
  let c := s.cle l
  let p := clePage l
  match c.commit with
  | some m =>
    if m.snap.full then (if l = s.servingLane then s.bump 0x0A Oc.SNAP_STATUS_SKIPS else s) else (s.bump p Ce.RETAIN_SKIPS).raise p 8
  | none =>
    let b := c.cycle % 2
    let old := c.snap b
    let data := cellsIn c.data c.img.retain
    let whole := c.fullLeft.contains b
    let bytes := 4 * changedWords c.img.retain whole old.data data
    let new : SnapBuf := {
      valid := true, crcOk := true, cycle := c.cycle, progTime := c.progTime, digest := c.img.digest, full := whole, data := data
      flips := if whole then [] else old.flips }
    let s := s.setCle l ({ c with commit := some ⟨b, new, s.now, bytes⟩ }.setSnap b { old with valid := false })
    s.setFld64 (memPage l) Mm.MRAM_WRITES_LO (s.fld64 (memPage l) Mm.MRAM_WRITES_LO + bytes + 4096)

/-- A buffer written whole in the new layout becomes valid (R253). -/
def State.snapNew (s : State) (l : Lane) (b : Nat) : State :=
  let c := s.cle l
  let s := s.setCle l { c with fullLeft := c.fullLeft.filter (· != b) }
  if l ≠ s.servingLane then s
  else
    let first := !s.flag 0x0A Oc.SNAP_STATUS_BUF0_NEW && !s.flag 0x0A Oc.SNAP_STATUS_BUF1_NEW
    let s := s.setFld 0x0A (if b = 0 then Oc.SNAP_STATUS_BUF0_NEW else Oc.SNAP_STATUS_BUF1_NEW) 1
    if first then s.raise 0x0A 6 b else s

/-- RETAIN_COMMIT_DONE (R191, R253): 5 ns for each byte of changed data after its begin. -/
def execRetainCommitDone (t : Nat) (l : Lane) (s : State) : Host.Outcome State Fault Refusal :=
  let s := s.start t
  let c := s.cle l
  let p := clePage l
  .next (match c.commit with
    | none => s
    | some m =>
      if s.now < m.since + 5 * m.bytes then s
      else
        let us := saturate 16 ((s.now - m.since) / 1000)
        let s := s.setCle l ({ c with commit := none }.setSnap m.buf m.snap)
        let s := (s.setFld p Ce.RETAIN_COMMIT_LAST_US us).setFld p Ce.RETAIN_COMMIT_MAX_US (max us (s.fld p Ce.RETAIN_COMMIT_MAX_US))
        if m.snap.full then s.snapNew l m.buf else s)

end Sys2Proof.Machine
end

