-- ==== Sys2Proof/Machine/OnlineChange.lean ====
section
/-! DEFINITION. The online change (chapter 08): loading and its checks, agreement, the switch at the commit boundary, and the
commands of page 0x0A. -/

namespace Sys2Proof.Machine

/-- The change package in the inactive program slot of a lane (R235). -/
def State.ocPackage (s : State) (l : Lane) : Option (ProgImage × ChangePkg) :=
  match s.otherSlot (2 + l.num) with
  | some k =>
    match k.program, k.change with
    | some i, some p => if i.valid then some (i, p) else none
    | _, _ => none
  | none => none

/-- The instance of an image with a key and a type code (R246). -/
def ProgImage.inst? (i : ProgImage) (key code : Nat) : Option InstanceDef :=
  i.instances.find? fun x => x.key == key && x.code == code

/-- Whether an instance of a new image stays where it is (R236). -/
def ProgImage.inPlace (old : ProgImage) (x : InstanceDef) : Bool :=
  old.instances.any fun y => y.key == x.key && y.code == x.code && y.version == x.version && y.addr == x.addr

/-- Whether intervals, given as base and size, cover every byte from `lo` up to `hi`, in at most `n` steps. -/
def covers (is : List (Nat × Nat)) : Nat → Nat → Nat → Bool
  | 0, lo, hi => decide (hi ≤ lo)
  | n + 1, lo, hi =>
    if hi ≤ lo then true
    else
      match is.find? fun x => decide (x.1 ≤ lo ∧ lo < x.1 + x.2) with
      | some x => covers is n (x.1 + x.2) hi
      | none => false

/-- The placement of a new image (R236, check 4). -/
def ProgImage.overlapOk (old new : ProgImage) : Bool :=
  let kept := (new.instances.filter old.inPlace).map fun x => (x.addr, x.size)
  let both (r x : Region) : Bool := covers kept (kept.length + 1) (max r.base x.base) (min (r.base + r.size) (x.base + x.size))
  !old.code.meets new.code && !old.code.meets new.const && !old.const.meets new.code && !old.const.meets new.const
    && both old.data new.data && both old.data new.retain && both old.retain new.data && both old.retain new.retain

/-- The edge detectors of an intrinsic that a prime routine sets, as bits of its BITS word (R223-R225, R248): IN_PREV of TP,
CU_PREV, CD_PREV and CLK_PREV. -/
def detectors (code : Nat) : List Nat :=
  if code = 0x03 then [3]
  else if code = 0x11 ∨ code = 0x21 ∨ code = 0x22 then [8]
  else if code = 0x12 then [9]
  else if code = 0x13 then [8, 9]
  else []

/-- Whether an entry of the instance table is sound (R237, check 7). -/
def mapEntryOk (old new : ProgImage) (pkg : ChangePkg) (e : ChangeEntry) : Bool :=
  let was := old.inst? e.key e.code
  let is := new.inst? e.key e.code
  let mapped := match was, is with
    | some a, some b => a.version == b.version
      || pkg.maps.any fun m => m.code == e.code && m.oldVersion == a.version && m.newVersion == b.version
    | _, _ => true
  let primed := !(e.isNew || e.sourceChanged)
    || (e.primes.length == (detectors e.code).length && e.primes.all fun r => decide (1 ≤ r.len ∧ r.len ≤ 256))
  (e.isNew != was.isSome) && is.isSome && mapped && primed

/-- The bytes that a matched intrinsic keeps, as offset and length, and those it takes from the new image (R247). -/
def keptRanges (code : Nat) : List (Nat × Nat) :=
  if code = 0x01 ∨ code = 0x02 ∨ code = 0x03 then [(0x10, 4), (0x20, 16)]
  else if code = 0x11 ∨ code = 0x12 ∨ code = 0x13 then [(0x10, 4), (0x18, 4)]
  else if code = 0x21 ∨ code = 0x22 then [(0x10, 4)]
  else if code = 0x31 then [(0x40, 0x44), (0x88, 8)]
  else if code = 0x41 then [(0x18, 0x1C)]
  else if code = 0x42 then [(0x20, 0x1C)]
  else []
def paramRanges (code : Nat) : List (Nat × Nat) :=
  if code = 0x01 ∨ code = 0x02 ∨ code = 0x03 then [(0x18, 8)]
  else if code = 0x11 ∨ code = 0x12 ∨ code = 0x13 then [(0x14, 4)]
  else if code = 0x31 then [(0x10, 0x30)]
  else if code = 0x41 then [(0x10, 8)]
  else if code = 0x42 then [(0x10, 16)]
  else []

/-- What a matched instance copies: old offset, new offset, length (R247, R249). -/
def copyRanges (pkg : ChangePkg) (was is : InstanceDef) : List (Nat × Nat × Nat) :=
  if is.code < 0x1000 then (keptRanges is.code).map fun x => (x.1, x.1, x.2)
  else if was.version = is.version then [(0x10, 0x10, is.size - 0x10)]
  else
    match pkg.maps.find? fun m => m.code == is.code && m.oldVersion == was.version && m.newVersion == is.version with
    | some m => m.triples
    | none => []

/-- The instances of the new image that are matched, with the running one (R246). -/
def matches_ (old new : ProgImage) : List (InstanceDef × InstanceDef) :=
  new.instances.filterMap fun b => (old.inst? b.key b.code).map fun a => (a, b)

/-- The bytes of a matched instance that a copy moves (R238, log entry 119): the body of an intrinsic or of a user type whose VERSION
stays, else what the field map names. -/
def movedBytes (pkg : ChangePkg) (was is : InstanceDef) : Nat :=
  if is.code < 0x1000 ∨ was.version = is.version then is.size - 0x10
  else ((copyRanges pkg was is).map fun r => r.2.2).sum

/-- MOVE_BYTES (R238): instances kept in place are not copied. -/
def moveBytes (old new : ProgImage) (pkg : ChangePkg) : Nat :=
  ((matches_ old new).map fun x => if old.inPlace x.2 then 0 else movedBytes pkg x.1 x.2).sum

/-- The highest figure of R216 and R222 for an instruction that is legal in bit-logic mode, a branch apart. -/
def bitCycles (op : Nat) : Nat :=
  if op = 0x01 ∨ op = 0x02 then 4
  else if op = 0x03 ∨ op = 0x06 ∨ op = 0x08 then 2
  else if (0x50 ≤ op ∧ op ≤ 0x56) ∨ (0x5B ≤ op ∧ op ≤ 0x5D) then 3
  else if 0x57 ≤ op ∧ op ≤ 0x5A then 4
  else if op = 0x60 ∨ op = 0x61 ∨ op = 0x62 ∨ op = 0x65 then 6
  else if op = 0x63 ∨ op = 0x64 then 5
  else if op = 0x66 ∨ op = 0x67 then 3
  else 1

/-- The longest path from an instruction of a routine to its end (R214, R233, R238), given the longest paths from each of those
after it: B jumps; a branch costs 1 as predicted and 4 otherwise; a jump back or out of the routine ends the path. -/
def longestFrom (w : Nat) (after : List Nat) : Nat :=
  let op := w / 2 ^ 24
  let next := after.getD 0 0
  let target (o : Int) : Nat := if o ≤ 0 then 0 else after.getD (o.toNat - 1) 0
  if op = 0x08 ∨ op = 0x01 then bitCycles op
  else if op = 0x09 then 1 + target (signedOf 24 (w % 2 ^ 24))
  else if op = 0x0A then
    let o := signedOf 19 (w % 2 ^ 19)
    let expectTaken := decide (o < 0) != bitAt w 19
    let taken := (if expectTaken then 1 else 4) + target o
    let not := (if expectTaken then 4 else 1) + next
    if w / 2 ^ 20 % 16 = 0xE then taken else max taken not
  else bitCycles op + next

/-- The longest path of a prime routine of an image. -/
def PrimeDef.cycles (r : PrimeDef) (i : ProgImage) : Nat :=
  ((List.range r.len).foldr (fun k after => longestFrom (memRead i.program (r.entry + 4 * k) 4) after :: after) []).getD 0 0

/-- PRIME_CYCLES (R238). -/
def primeCycles (new : ProgImage) (pkg : ChangePkg) : Nat := ((pkg.entries.flatMap (·.primes)).map (·.cycles new)).sum

/-- COMMIT_US (R238). -/
def commitUs (old new : ProgImage) (pkg : ChangePkg) : Nat :=
  (moveBytes old new pkg + 1599) / 1600 + (primeCycles new pkg + 399) / 400

/-- The first check of R237 that fails, 1 to 7, or 0; `signed` says whether the container passes its signature and digest. -/
def State.ocCheck (s : State) (l : Lane) (signed : Bool) : Nat :=
  match (if signed && s.flag 0x74 Lc.ANCHORS_CONTENT then s.ocPackage l else none) with
  | none => 1
  | some (i, p) =>
    let old := (s.cle l).img
    let wcet := i.wcet.getD 0
    let period := s.fld (clePage l) Ce.CYCLE_ACT_PERIOD_US
    if p.base ≠ old.digest then 2
    else if !i.limitsOk || s.onBad l i then 3
    else if !old.overlapOk i then 4
    else if period * 9 < wcet * 10 then 5
    else if period < wcet + commitUs old i p then 6
    else if !p.entries.all (mapEntryOk old i p) then 7
    else 0

/-- OC_LOAD (R237, R256, R594). -/
def cmdOcLoad : Cmd where
  opc := 0x01
  kinds := (· == .onlineChange)
  who := .cfgHost
  allow := fun s _ _ _ =>
    if s.pstate 0x0A = 0 ∧ s.aligned ∧ s.pstate 0x08 = 2 ∧ s.pstate 0x09 = 2 ∧ s.pstate 0x73 ≠ 4 then 0 else RC.state
  act := fun s _ _ _ =>
    let s := (s.dropPackage.setFld 0x0A Oc.OC_STATUS_CHECK_A 0).setFld 0x0A Oc.OC_STATUS_CHECK_B 0
    (s.setOc 1, RC.accepted)

def execOcLoad (t : Nat) (q : Req) (s : State) : Host.Outcome State Fault Refusal :=
  .next ((s.start t).command q cmdOcLoad)

/-- The failed check of a lane (R237, R255). -/
def ocCheckField : Lane → Field
  | .a => Oc.OC_STATUS_CHECK_A
  | .b => Oc.OC_STATUS_CHECK_B

/-- A change whose checks have failed in the lanes `a` and `b` by these codes, 0 for none (R239, R257, R258): both lanes discard
it. -/
def State.ocInvalid (s : State) (a b : Nat) : State :=
  let s := (s.setFld 0x0A (ocCheckField .a) a).setFld 0x0A (ocCheckField .b) b
  let s := ((s.setOc 0).setFld 0x0A Oc.OC_STATUS_REASON 7).dropPackage
  let s := if a = 0 then s else s.raise 0x0A 2 (2 ^ 8 + a)
  let s := if b = 0 then s else s.raise 0x0A 2 (2 * 2 ^ 8 + b)
  s.completeAll (fun o => o.page == 0x0A) RC.aborted

/-- What page 0x0A shows of a loaded package (R255). -/
def State.showPackage (s : State) (l : Lane) (i : ProgImage) (p : ChangePkg) : State :=
  let old := (s.cle l).img
  let s := ((s.setFld 0x0A Oc.NEW_REF i.ref.toNat).setFld 0x0A Oc.BASE_REF (p.base % 2 ^ 32)).setFld 0x0A Oc.NEW_WCET_US (i.wcet.getD 0)
  let s := (s.setFld 0x0A Oc.COMMIT_US (commitUs old i p)).setFld 0x0A Oc.MOVE_BYTES (moveBytes old i p)
  (s.setFld 0x0A Oc.PRIME_CYCLES (primeCycles i p)).setFld 0x0A Oc.SAFETY_TOUCHED (bool01 (p.safety != old.safetyDigest))

/-- OC_LOAD_DONE (R237, R239): a lane has finished loading, or stopped at a failed check, and sends AGREE READY with its result and
the digest of the new image. -/
def execOcLoadDone (t : Nat) (l : Lane) (signed : Bool) (s : State) : Host.Outcome State Fault Refusal :=
  let s := s.start t
  .next <|
    if s.pstate 0x0A ≠ 1 ∨ (s.oc.result.of l).isSome then s
    else
      let check := s.ocCheck l signed
      let digest := (((s.otherSlot (2 + l.num)).bind (·.program)).map (·.digest)).getD 0
      let s := s.sendFrame l 5 [0, check, digest]
      let s := match s.ocPackage l with
        | some (i, p) => if l = Lane.a then s.showPackage l i p else s
        | none => s
      let o := s.oc
      let s := s.putOc { o with result := o.result.set l (some (check, digest)) }
      if check ≠ 0 then s else (s.putOc { s.oc with pkg := s.oc.pkg.set l (s.otherSlot (2 + l.num)) }).wakeUsed l

/-- The check that a lane fails once it knows its own result and the other's report: its own, or DIGEST (R237). -/
def ocFails (own other : Nat × Nat) : Nat := if own.1 ≠ 0 then own.1 else if other.1 ≠ 0 ∨ own.2 ≠ other.2 then 8 else 0

/-- Once each lane has its result and has heard the other's, the change is READY or fails (R237, R239, R257). -/
def State.ocReady (s : State) : State :=
  let o := s.oc
  match o.result.a, o.heard.a, o.result.b, o.heard.b with
  | some ra, some ha, some rb, some hb =>
    let a := ocFails ra ha
    let b := ocFails rb hb
    if s.pstate 0x0A ≠ 1 then s
    else if a ≠ 0 ∨ b ≠ 0 then s.ocInvalid a b
    else
      let s := s.setOc 2
      let s := (s.putOc { s.oc with readyAt := s.now })
      (s.raise 0x0A 1).completeAll (fun o => o.page == 0x0A && o.opc == 0x01) RC.done
  | _, _, _, _ => s

/-- OC_COMMIT (R240, R256): latched by lane A at its next boundary. -/
def cmdOcCommit : Cmd where
  opc := 0x02
  kinds := (· == .onlineChange)
  who := .cfgHost
  allow := fun s _ _ _ => if s.pstate 0x0A = 2 ∧ (!s.flag 0x0A Oc.SAFETY_TOUCHED ∨ s.maintenance) then 0 else RC.state
  act := fun s _ _ _ => ((s.putOc { s.oc with asked := true }), RC.accepted)

def execOcCommit (t : Nat) (q : Req) (s : State) : Host.Outcome State Fault Refusal :=
  .next ((s.start t).command q cmdOcCommit)

/-- OC_ABANDON (R256, R257). -/
def cmdOcAbandon : Cmd where
  opc := 0x03
  kinds := (· == .onlineChange)
  who := .cfgHost
  allow := fun s _ _ _ => if 1 ≤ s.pstate 0x0A ∧ s.pstate 0x0A ≤ 3 then 0 else RC.state
  act := fun s _ _ _ => (s.ocAbandon 1, RC.done)

def execOcAbandon (t : Nat) (q : Req) (s : State) : Host.Outcome State Fault Refusal :=
  .next ((s.start t).command q cmdOcAbandon)

/-- OC_HOLD_EXPIRY (R239, R257). -/
def execOcHoldExpiry (t : Nat) (s : State) : Host.Outcome State Fault Refusal :=
  let s := s.start t
  .next (if s.pstate 0x0A = 2 ∧ s.oc.readyAt + s.fld 0x0A Oc.OC_CFG_HOLD_S * 1000000000 ≤ s.now then s.ocAbandon 6 else s)

/-- The change returns to READY and the command ends ABORTED (R240, R242, R257). -/
def State.ocBack (s : State) (reason : Nat) : State :=
  let s := (s.setOc 2).setFld 0x0A Oc.OC_STATUS_REASON reason
  let s := (s.putOc { s.oc with
    latchedAt := none, commitN := none, commitGot := false, consentGot := false, confirmSent := false, confirmGot := false
    deferrals := ⟨0, 0⟩, asked := false })
  s.completeAll (fun o => o.page == 0x0A && o.opc == 0x02) RC.aborted

/-- Whether every task of an engine is IDLE or DISABLED (R242). -/
def CleRec.quiescent (c : CleRec) : Bool := (List.range 16).all fun t => (c.tasks.rd {} t).state ≤ 1

/-- `n` bytes copied from one memory into another. -/
def copyBytes (src dst : List Host.Cell) (a b n : Nat) : List Host.Cell :=
  (List.range n).foldl (fun m k => memPut m (b + k) (memByte src (a + k))) dst

/-- A list sorted by insertion, `le` telling what may stand before what. -/
def insertBy {α : Type} (le : α → α → Bool) (x : α) : List α → List α
  | [] => [x]
  | y :: ys => if le x y then x :: y :: ys else y :: insertBy le x ys
def sortBy {α : Type} (le : α → α → Bool) (xs : List α) : List α := xs.foldr (insertBy le) []

/-- Larger instances before those nested in them. -/
def outerFirst (xs : List InstanceDef) : List InstanceDef := sortBy (fun a b => decide (b.size ≤ a.size)) xs

/-- An instance of the new image at the switch (R246-R250): as the image has it, header included, and then what it keeps where it is
matched. -/
def placeInstance (old new : ProgImage) (pkg : ChangePkg) (data m : List Host.Cell) (is : InstanceDef) : List Host.Cell :=
  let m := copyBytes (new.freshData none) m is.addr is.addr is.size
  match old.inst? is.key is.code with
  | some was =>
    (copyRanges pkg was is).foldl (fun m r => copyBytes data m (was.addr + r.1) (is.addr + r.2.1) r.2.2) m
  | none => m

/-- The data memory that the new image begins with (R246-R250): its initial contents, with what every matched instance keeps; a
nested instance is placed in its own right after the one that contains it. -/
def newData (old new : ProgImage) (pkg : ChangePkg) (data : List Host.Cell) : List Host.Cell :=
  (outerFirst new.instances).foldl (placeInstance old new pkg data) (new.freshData none)

/-- Whether a matched intrinsic's parameters differ between the images (R247). -/
def paramChanged (old new : ProgImage) (was is : InstanceDef) : Bool :=
  is.code < 0x1000 && (paramRanges is.code).any fun r =>
    memRead (old.freshData none) (was.addr + r.1) r.2 != memRead (new.freshData none) (is.addr + r.1) r.2

/-- Whether an entry has detectors to prime (R248). -/
def ChangeEntry.primed (e : ChangeEntry) : Bool := (e.isNew || e.sourceChanged) && detectors e.code != []

/-- The entries of the change report of an entry of the instance table (R254): a new instance with primed detectors is told as
PRIMED. -/
def reportOf (old new : ProgImage) (e : ChangeEntry) : List OcEntry :=
  let src := 2 * bool01 e.sourceChanged
  let is := new.inst? e.key e.code
  let addr := (is.map (·.addr)).getD e.addr
  let one (kind flags : Nat) : OcEntry := ⟨e.key, e.code, kind, flags, addr⟩
  let primes := if e.primed then e.primes.map fun _ => one 5 (bool01 e.isNew + src) else []
  match old.inst? e.key e.code, is with
  | some a, some b =>
    (if paramChanged old new a b then [one 2 src] else [])
      ++ (if 0x1000 ≤ b.code ∧ a.version ≠ b.version then [one 3 src] else []) ++ primes
      ++ (if a.retain != b.retain then [one 8 src] else [])
  | _, _ => if primes = [] then [one 4 src] else primes

/-- The tasks that a commit under RESTART_WAITING restarts (R251). -/
def CleRec.waitingTasks (c : CleRec) : List Nat := (List.range 16).filter fun t => (c.tasks.rd {} t).state == 4

/-- The change report, ordered by kind and then by key (R254). -/
def changeReport (c : CleRec) (new : ProgImage) (pkg : ChangePkg) : List OcEntry :=
  let old := c.img
  let gone := old.instances.filter fun x => (new.inst? x.key x.code).isNone
  let es := pkg.entries.flatMap (reportOf old new) ++ (gone.map fun x => ⟨x.key, x.code, 6, 0, x.addr⟩)
    ++ c.waitingTasks.map fun t => ⟨t, 0, 7, 0, 0⟩
  sortBy (fun a b => decide (a.kind < b.kind) || (a.kind == b.kind && decide (a.key ≤ b.key))) es

/-- The 16 bytes of an entry of the change report (R254). -/
def OcEntry.bytes (e : OcEntry) : List Nat :=
  leBytes 8 e.key ++ leBytes 2 e.code ++ [e.kind, e.flags] ++ leBytes 4 e.addr

/-- The tasks under the new image (R251): those enabled in both keep their pending set and wake timer. -/
def CleRec.newTasks (c : CleRec) (new : ProgImage) : Tab TaskRec :=
  (List.range 16).foldl (fun m t =>
    let d := new.tasks.rd {} t
    if !d.enabled then m
    else
      let k : TaskRec := { state := 1, inst := d.inst, pc := d.entry }
      let old := c.tasks.rd {} t
      m.wr {} t (if (c.img.tasks.rd {} t).enabled then { k with pend := old.pend, wake := old.wake } else k)) []

/-- The prime routines of a package (R248). -/
def primesOf (new : ProgImage) (pkg : ChangePkg) : List (Nat × Nat × Nat × Nat) :=
  (pkg.entries.filter ChangeEntry.primed).flatMap fun e =>
    let addr := ((new.inst? e.key e.code).map (·.addr)).getD e.addr + 0x10
    (e.primes.zip (detectors e.code)).map fun r => (r.1.entry, e.inst, addr, r.2)

/-- The counts of the last change (R255). -/
def State.showOcCounts (s : State) (es : List OcEntry) (all : Nat) : State :=
  let n (k : Nat) : Nat := saturate 16 (es.filter fun e => e.kind == k).length
  let touched := ((es.filter fun e => e.kind == 2 || e.kind == 3 || e.kind == 8 || (e.kind == 5 && !bitAt e.flags 0)).map (·.key)).eraseDups.length
  let fresh := ((es.filter fun e => e.kind == 4 || (e.kind == 5 && bitAt e.flags 0)).map (·.key)).eraseDups.length
  let s := (s.setFld 0x0A Oc.COUNT_A_MATCHED (saturate 16 (all - touched))).setFld 0x0A Oc.COUNT_A_NEW (saturate 16 fresh)
  let s := (s.setFld 0x0A Oc.COUNT_B_REMOVED (n 6)).setFld 0x0A Oc.COUNT_B_PRIMED (n 5)
  let s := (s.setFld 0x0A Oc.COUNT_C_MAPPED (n 3)).setFld 0x0A Oc.COUNT_C_PARAM_CHANGED (n 2)
  (s.setFld 0x0A Oc.COUNT_D_ENTRIES (saturate 16 es.length)).setFld 0x0A Oc.COUNT_D_TASKS_RESTARTED (n 7)

/-- What page 0x0A shows when lane A switches (R241, R252, R254, R257). -/
def State.ocCommitted (s : State) (c : CleRec) (new : ProgImage) (pkg : ChangePkg) (n : Nat) : State :=
  let es := changeReport c new pkg
  let w := c.waitingTasks
  let s := (s.putOc { s.oc with report := es })
  let s := (s.showOcCounts es (matches_ c.img new).length).setFld64 0x0A Oc.COMMIT_CYCLE_LO n
  let s := ((s.bump 0x0A Oc.CHANGES).setReg 0x0A Oc.SNAP_STATUS_SKIPS.off 0).setOc 0
  let s := if w.isEmpty then s else s.raise 0x0A 7 ((w.map fun t => 2 ^ t).sum)
  (s.raise 0x0A 3 (n % 2 ^ 32)).completeAll (fun o => o.page == 0x0A && o.opc == 0x02) RC.done

/-- PAGE_GEN of a page advanced, commands open on it ending ABORTED first (R59, R252). -/
def State.regenerate (s : State) (p : Nat) : State := (s.completeAll (fun o => o.page == p) RC.aborted).nextGeneration p

/-- A lane switches to the new image (R243-R252). -/
def State.ocSwitch (s : State) (l : Lane) (n : Nat) (new : ProgImage) (pkg : ChangePkg) : State :=
  let c := s.cle l
  let s := if l = .a then s.ocCommitted c new pkg n else s
  let es := changeReport c new pkg
  let s := s.setCle l { c with
    image := some new, data := newData c.img new pkg c.data, upset := [], tasks := c.newTasks new, primes := primesOf new pkg
    fullLeft := [0, 1] }
  let s := (s.setFld (clePage l) Ce.PROG_REF new.ref.toNat).regenerate (clePage l)
  let s := (s.swapSlots (2 + l.num)).histEntry l 2 (new.code.size + new.const.size) new.digest
  let report := es.flatMap OcEntry.bytes
  let s := s.histEntry l 3 report.length (Config.sha384 report) report
  let s := if l = .a then s.showReactions else s
  (s.putOc { s.oc with pkg := s.oc.pkg.set l none, tc := some n })

/-- The commit boundary of a lane that may switch (R241, R242). At a boundary met while a cycle still runs its tasks are not
IDLE, and nothing is switched under them. -/
def State.ocAtTc (s : State) (l : Lane) (n : Nat) : State :=
  let o := s.oc
  let ok := (if l = .a then o.confirmSent else o.confirmGot) && s.hasCrossing l
  match (o.pkg.of l).bind fun k => k.program.bind fun i => k.change.map fun p => (i, p) with
  | none => s
  | some (i, p) =>
    if !ok then (if l = .a then s.ocAbandon 2 else (s.putOc { o with pkg := o.pkg.set l none }))
    else
      let d := o.deferrals.of l
      let lim := s.fld 0x0A Oc.OC_CFG_QUIESCE_LIMIT
      let restart := decide (lim ≤ d) && s.flag 0x0A Oc.OC_CFG_RESTART_WAITING
      if !(s.cle l).late && ((s.cle l).quiescent || restart) then s.ocSwitch l n i p
      else if d < lim ∨ restart then
        let s := (s.putOc { o with deferrals := o.deferrals.set l (d + 1) })
        if l = .a then s.setFld 0x0A Oc.DEFERRALS (d + 1) else s
      else if l = .a then s.ocBack 4
      else s

/-- The online change at a boundary of a lane (R240-R242): OC_COMMIT latched by lane A, NO_CONFIRM, and the commit boundary;
`n` is the number of the cycle that begins. -/
def State.ocBoundary (s : State) (l : Lane) (n : Nat) : State :=
  let o := s.oc
  let st := s.pstate 0x0A
  if l = .a ∧ st = 2 ∧ o.asked then
    let s := s.setOc 3
    let s := (s.setFld 0x0A Oc.DEFERRALS 0)
    (s.putOc { s.oc with asked := false, latchedAt := some n, deferrals := ⟨0, 0⟩ })
  else if l = .a ∧ st = 3 ∧ !o.consentGot ∧ o.latchedAt.any (· < n) then s.ocBack 5
  else
    match o.commitN with
    | some cn => if cn ≤ n ∧ (st = 3 ∨ st = 4 ∨ l = .b) then s.ocAtTc l n else s
    | none => s

end Sys2Proof.Machine
end

