-- ==== Sys2Proof/Machine/CanCore.lean ====
section
/-! DEFINITION. CAN controllers: frames, filters, error states, what is presented next and how an entry ends (chapter 17). -/

namespace Sys2Proof.Machine

/-- A controller of a CAN page. -/
def State.can (s : State) (p : Nat) : CanRec := s.cans.rd {} (p - 0x58)
def State.setCan (s : State) (p : Nat) (c : CanRec) : State := { s with cans := s.cans.wr {} (p - 0x58) c }
def State.modCan (s : State) (p : Nat) (f : CanRec → CanRec) : State := s.setCan p (f (s.can p))

/-- The state of a controller (R483). -/
def State.canState (s : State) (p : Nat) : Nat := s.fld p Cf.BUS_STATUS_STATE

/-- Compatibility mode (R477). -/
def State.compat (s : State) (p : Nat) : Bool := s.flag p Cf.CAN_CFG_QMODE

/-- The ID word and the INFO word of a frame (R482). -/
def canIdWord (f : CanFrame) : Nat := bool01 f.ext * 2 ^ 31 + bool01 f.fdf * 2 ^ 30 + bool01 f.rtr * 2 ^ 29 + f.id % 2 ^ 29
def canInfoWord (f : CanFrame) : Nat := bool01 f.brs * 2 ^ 31 + bool01 f.esi * 2 ^ 30 + f.len % 128

/-- Word `j` of the data of a frame: byte 0 in bits [7:0]. -/
def canDataWord (f : CanFrame) (j : Nat) : Nat :=
  let b (i : Nat) : Nat := f.data.getD (4 * j + i) 0 % 256
  b 0 + b 1 * 2 ^ 8 + b 2 * 2 ^ 16 + b 3 * 2 ^ 24

/-- The frame that ID, INFO and data words spell. -/
def canFrameOf (idw info : Nat) (words : List Nat) : CanFrame :=
  let len := info % 128
  { ext := bitAt idw 31, fdf := bitAt idw 30, rtr := bitAt idw 29, brs := bitAt info 31, esi := false, id := idw % 2 ^ 29, len := len,
    data := if bitAt idw 29 then [] else (words.flatMap fun w => [w % 256, w / 2 ^ 8 % 256, w / 2 ^ 16 % 256, w / 2 ^ 24 % 256]).take len }

/-- Whether a frame may be submitted (R470). -/
def State.canValid (s : State) (p : Nat) (f : CanFrame) : Bool :=
  [0, 1, 2, 3, 4, 5, 6, 7, 8, 12, 16, 20, 24, 32, 48, 64].contains f.len && (f.fdf || f.len ≤ 8)
    && (!f.fdf || s.flag p Cf.CAN_CFG_FD_ENA) && (!f.brs || (f.fdf && s.flag p Cf.CAN_CFG_BRS_ENA)) && !(f.rtr && f.fdf)
    && (f.id ≤ 0x7FF || f.ext)

/-- The arbitration field of a frame as a number, the lowest wins (R472, ISO 11898-1). -/
def canPriority (f : CanFrame) : Nat :=
  if f.ext then f.id / 2 ^ 18 % 2 ^ 11 * 2 ^ 21 + 2 ^ 20 + 2 ^ 19 + f.id % 2 ^ 18 * 2 + bool01 f.rtr
  else f.id % 2 ^ 11 * 2 ^ 21 + bool01 f.rtr * 2 ^ 20

/-- The frame bits before the data field, without stuff bits (R466). -/
def canHead (f : CanFrame) : Nat := if f.fdf then (if f.ext then 41 else 22) else (if f.ext then 39 else 19)

/-- QUEUE_STATE and RX_PENDING (R482, R485). -/
def State.showCanQueue (s : State) (p : Nat) : State :=
  let c := s.can p
  let s := s.setFld p Cf.QUEUE_STATE_TX_FREE (if s.compat p then 128 else 128 - (c.tx.length + c.comps.length))
  let s := s.setFld p Cf.QUEUE_STATE_RX_OWNED c.rx.length
  s.level p 9 (!c.rx.isEmpty || s.fld p Cf.RXS_NEW != 0)

/-- A controller enters a state (R483, R485). -/
def State.setCanState (s : State) (p v : Nat) : State :=
  let old := s.canState p
  if old = v then s
  else
    let s := ((s.setPstate p v).setFld p Cf.BUS_STATUS_STATE v).raise p 0 (old * 2 ^ 8 + v)
    (s.level p 1 (v == 4 || v == 5)).level p 2 (v == 3)

/-- TX_ERROR (R485): the entry or buffer, or 0x7F, with the kind and the position of its error. -/
def State.txError (s : State) (p n kind pos : Nat) : State := s.raise p 3 (n * 2 ^ 24 + kind * 2 ^ 20 + pos % 2 ^ 11)

/-- An entry takes its end (R473, R478): it becomes a completion of its bank; a buffer leaves TXS_PENDING, and an end that no error
of its own gave (a retry limit has raised TX_ERROR already) is reported through TX_ERROR. -/
def State.endEntry (s : State) (p : Nat) (e : TxEntry) (result time : Nat) : State :=
  let s := s.modCan p fun c => { c with tx := c.tx.filter fun x => x.n != e.n }
  let s := if s.compat p then
      let s := s.setFld p Cf.TXS_PENDING (setBit (s.fld p Cf.TXS_PENDING) e.n false)
      if result = 1 ∨ result = 3 then s else s.txError p e.n e.kind e.pos
    else s.modCan p fun c => { c with comps := c.comps ++ [{ e with result := result, time := time }] }
  s.showCanQueue p

/-- Every entry that a test picks ended with a result, now. -/
def State.endEntries (s : State) (p result : Nat) (pick : TxEntry → Bool) : State :=
  ((s.can p).tx.filter pick).foldl (fun s e => s.endEntry p e result s.time) s

/-- The best of the entries in submission order: the lowest priority number, the first of equals (R472). -/
def bestEntry : List TxEntry → Option TxEntry
  | [] => none
  | e :: rest =>
    match bestEntry rest with
    | none => some e
    | some x => if canPriority e.frame ≤ canPriority x.frame then some e else some x

/-- What a controller presents next (R472): a due synchronisation frame, the best eligible entry, a roll-call request. -/
def nextSending (c : CanRec) : Option Sending :=
  if c.syncDue then some .sync
  else
    match bestEntry (c.tx.filter fun e => !e.held && e.waits == 0) with
    | some e => some (.entry e.n)
    | none => c.rolls.head?.map .roll

/-- The synchronisation frame (R476). -/
def State.syncFrame (s : State) (p : Nat) : CanFrame :=
  let n := if s.flag p Cf.SYNC_TIMING_COUNTER then 1 else 0
  { ext := s.flag p Cf.SYNC_CFG_EXT, fdf := false, rtr := false, brs := false, esi := false,
    id := s.fld p Cf.SYNC_CFG_SYNC_ID, len := n, data := [s.fld p Cf.SYNC_STATUS_COUNT].take n }

/-- The request of a node (R479). -/
def State.rollFrame (s : State) (p node : Nat) : CanFrame :=
  { ext := false, fdf := false, rtr := false, brs := false, esi := false, id := s.fld p Cf.RC_CFG_REQ_BASE + node, len := 0, data := [] }

/-- The frame of what a controller sends. -/
def State.sendingFrame (s : State) (p : Nat) : Sending → Option CanFrame
  | .sync => some (s.syncFrame p)
  | .roll n => some (s.rollFrame p n)
  | .entry n => ((s.can p).tx.find? fun e => e.n == n).map (·.frame)

/-- Whether a controller may send data frames (R464, R483). -/
def State.canMaySend (s : State) (p : Nat) : Bool :=
  (s.canState p == 2 || s.canState p == 3) && ((s.can p).mode == 1 || (s.can p).mode == 2) && s.flag p Cf.CAN_CFG_TX_ENA

/-- The next frame presented to the bus, when nothing is being sent (R472). -/
def State.present_ (s : State) (p : Nat) : State :=
  let c := s.can p
  if c.sending.isSome || c.resetDue.isSome || !s.canMaySend p then s
  else
    match nextSending c with
    | none => s
    | some x =>
      let s := s.setCan p { c with sending := some x }
      match s.sendingFrame p x with
      | some f => s.send .canFrame ([p, canIdWord f, canInfoWord f] ++ f.data)
      | none => s

/-- A controller enters BUS_OFF (R465). -/
def State.busOff (s : State) (p : Nat) : State :=
  let s := (s.setCanState p 4).bump p Cf.BUSOFF_COUNT
  let s := if s.flag p Cf.CAN_CFG_BUSOFF_FLUSH then s.endEntries p 4 (fun e => !e.held) else s
  if s.flag p Cf.CAN_CFG_AUTO_RECOVER then s.setCanState p 5 else s

/-- The error counters judged (R483). -/
def State.checkErrors (s : State) (p : Nat) : State :=
  let st := s.canState p
  if st ≠ 2 ∧ st ≠ 3 then s
  else if 255 < s.fld p Cf.ERR_COUNT_TEC then s.busOff p
  else if 127 < s.fld p Cf.ERR_COUNT_TEC ∨ 127 < s.fld p Cf.ERR_COUNT_REC then
    if (s.can p).mode = 1 ∨ (s.can p).mode = 2 then s.setCanState p 3 else s
  else s.setCanState p 2

/-- A controller in OFF: nothing is sent, and no synchronisation frame or request is due any more. -/
def CanRec.off (c : CanRec) : CanRec :=
  { c with mode := 0, sending := none, rolls := [], syncAt := none, syncDue := false, syncTries := 0, syncOld := false,
           tx := c.tx.map fun e => { e with waits := 0 } }

/-- A node at the start of the roll-call (R479): ABSENT, its last answer kept. -/
def RollNode.start (x : RollNode) : RollNode := { answer := x.answer }

/-- The mode in force follows MODE (R465, R483): leaving OFF starts integration with every node ABSENT. -/
def State.followCanMode (s : State) (p : Nat) : State :=
  let m := s.fld p Cf.CAN_CFG_MODE
  let c := s.can p
  if c.mode = m then s
  else if m = 0 then (s.setCan p c.off).setCanState p 0
  else if c.mode = 0 then
    let s := s.setCan p { c with mode := m, nodes := c.nodes.map fun x => (x.1, x.2.start), roundAt := s.now }
    let s := s.each (List.range 128) fun s n => s.setReg p (Cf.RC_NODE_PRESENT.pos n) 0
    let s := (s.each (List.range 4) fun s i => s.setFld p Cf.RC_PRESENT 0 i).setFld p Cf.RC_STATUS_PRESENT 0
    s.setCanState p 1
  else (s.setCan p { c with mode := m }).checkErrors p

/-- MODE followed now, or at the end of the frame in progress (R465). -/
def State.settleMode (s : State) (p : Nat) : State := if (s.can p).sending.isSome then s else s.followCanMode p

/-- The error counters changed, unless the mode holds them (R464). -/
def State.countErrors (s : State) (p tec rec_ : Nat) : State :=
  if (s.can p).mode = 1 ∨ (s.can p).mode = 2 then
    ((s.setFld p Cf.ERR_COUNT_TEC (saturate 9 tec)).setFld p Cf.ERR_COUNT_REC (saturate 9 rec_)).checkErrors p
  else s

/-- The end of a frame on the bus: a mode that waits takes effect and the next frame is presented. -/
def State.frameOver (s : State) (p : Nat) : State := (s.followCanMode p).present_ p

/-- A synchronisation frame has ended (R476): the entries that waited for it become eligible; one that a boundary has replaced
leaves the due frame as it is. -/
def State.syncEnded (s : State) (p : Nat) : State :=
  s.modCan p fun c =>
    { c with syncDue := c.syncOld && c.syncDue, syncTries := if c.syncOld then c.syncTries else 0, syncOld := false,
             tx := c.tx.map fun e => { e with waits := e.waits - 1 } }

/-- A replaced synchronisation frame is not sent again (R476): what waited for it waits for the one in its place. -/
def CanRec.syncDropped (c : CanRec) : CanRec :=
  { c with syncOld := false, tx := c.tx.map fun e => { e with waits := min 1 e.waits } }

/-- A shadow buffer copied into its active buffer and made pending (R478). -/
def State.latchBuffer (s : State) (p b : Nat) : State :=
  let w (j : Nat) : Nat := (s.reg p (Cf.TXS.pos b j)).toNat
  let f := canFrameOf (w 0) (w 1) [w 2, w 3]
  if !s.canValid p f ∨ 8 < f.len then s
  else
    let e : TxEntry := { n := b, frame := f, bank := 0, held := bitAt (w 1) 29 }
    let s := s.modCan p fun c => { c with tx := (c.tx.filter fun x => x.n != b) ++ [e] }
    s.setFld p Cf.TXS_PENDING (setBit (s.fld p Cf.TXS_PENDING) b true)

/-- The shadow buffers whose latch waited for the end of a frame copied (R478): one still pending is overwritten. -/
def State.relatched (s : State) (p : Nat) : State :=
  let l := (s.can p).relatch
  (s.modCan p fun c => { c with relatch := [] }).each l fun s b =>
    (if bitAt (s.fld p Cf.TXS_PENDING) b then s.bump p Cf.OVERWRITES_TXS else s).latchBuffer p b

/-- The frame being sent has left the bus without its end being that of what it carried: arbitration lost, or an error. -/
def State.stopSending (s : State) (p : Nat) : State :=
  let c := s.can p
  let c := if c.sending = some .sync ∧ c.syncOld then c.syncDropped else c
  (s.setCan p { c with sending := none }).relatched p

/-- What was being sent has ended with a result at an instant (R473, R476, R478, R479). -/
def State.sendingEnded (s : State) (p result time : Nat) : State :=
  let c := s.can p
  let s := s.setCan p { c with sending := none }
  match c.sending with
  | none => s
  | some .sync => s.syncEnded p
  | some (.roll n) =>
    let node := c.nodes.rd {} n
    let node := { node with asked := node.asked ++ [s.now] }
    s.modCan p fun c => { c with rolls := c.rolls.filter (· != n), rollTries := 0, nodes := c.nodes.wr {} n node }
  | some (.entry n) =>
    match c.tx.find? fun e => e.n == n with
    | none => s
    | some e => (s.endEntry p e result time).relatched p

/-- One more attempt of what is being sent, with the kind and position of its error; how many there have been. -/
def State.attempt (s : State) (p kind pos : Nat) : State × Nat :=
  let c := s.can p
  match c.sending with
  | none => (s, 0)
  | some .sync => if c.syncOld then (s, 1) else (s.setCan p { c with syncTries := c.syncTries + 1 }, c.syncTries + 1)
  | some (.roll _) => (s.setCan p { c with rollTries := c.rollTries + 1 }, c.rollTries + 1)
  | some (.entry n) =>
    let k := ((c.tx.find? fun e => e.n == n).map (·.attempts)).getD 0 + 1
    let f (e : TxEntry) : TxEntry :=
      if e.n = n then { e with attempts := saturate 8 k, kind := if kind = 0 then e.kind else kind, pos := if kind = 0 then e.pos else pos }
      else e
    (s.setCan p { c with tx := c.tx.map f }, k)

/-- A node answers (R479). -/
def State.nodeAnswer (s : State) (p n : Nat) : State :=
  let x := (s.can p).nodes.rd {} n
  let s := s.modCan p fun c =>
    { c with nodes := c.nodes.wr {} n { present := true, misses := 0, answer := some s.now, asked := [] } }
  let s := (s.setFld p Cf.RC_NODE_MISSES 0 n).setFld p Cf.RC_NODE_PRESENT 1 n
  if x.present then s
  else
    let s := s.setFld p Cf.RC_PRESENT (setBit (s.fld p Cf.RC_PRESENT (n / 32)) (n % 32) true) (n / 32)
    (s.setFld p Cf.RC_STATUS_PRESENT (s.fld p Cf.RC_STATUS_PRESENT + 1)).raise p 7 (2 ^ 8 + n)

/-- Whether a filter matches a frame (R468). -/
def State.filterHit (s : State) (p f : Nat) (x : CanFrame) : Bool :=
  s.flag p Cf.FLT_ID_ENA f && (s.flag p Cf.FLT_ID_EXT f == x.ext)
    && ((x.id ^^^ s.fld p Cf.FLT_ID_ID f) &&& s.fld p Cf.FLT_MASK_MASK f) == 0

/-- Whether a frame's identifier lies in the transmit set (R467). -/
def State.ownId (s : State) (p : Nat) (x : CanFrame) : Bool :=
  ((List.range 32).any fun f => s.flag p Cf.FLT_ID_OWN f && s.filterHit p f x)
    || (s.flag p Cf.SYNC_CFG_ENA && s.flag p Cf.SYNC_CFG_EXT == x.ext && s.fld p Cf.SYNC_CFG_SYNC_ID == x.id)
    || (s.flag p Cf.RC_CFG_ENA && !x.ext && s.fld p Cf.RC_CFG_REQ_BASE + s.fld p Cf.RC_RANGE_FIRST ≤ x.id
        && x.id ≤ s.fld p Cf.RC_CFG_REQ_BASE + s.fld p Cf.RC_RANGE_LAST)

/-- A frame delivered to receive buffer `b` (R478): frames longer than 8 bytes find no place there. -/
def State.deliverBuffer (s : State) (p b : Nat) (x : CanFrame) : State :=
  if 8 < x.len then s
  else
    let s := if bitAt (s.fld p Cf.RXS_NEW) b then s.bump p Cf.OVERWRITES_RX else s
    let put (s : State) (j w : Nat) : State := s.setReg p (Cf.RXS.pos b j) (BitVec.ofNat 32 w)
    let s := put (put (put (put s 0 (canIdWord x)) 1 (canInfoWord x)) 2 (canDataWord x 0)) 3 (canDataWord x 1)
    (s.setFld p Cf.RXS_NEW (setBit (s.fld p Cf.RXS_NEW) b true)).showCanQueue p

/-- A frame delivered to the receive queue, or lost (R474). -/
def State.deliverQueue (s : State) (p f : Nat) (x : CanFrame) (sof : Nat) : State :=
  let c := s.can p
  if 512 ≤ c.rx.length then (s.setCan p { c with lost := c.lost + 1 }).bump p Cf.RX_OVERFLOWS
  else (s.setCan p { c with rx := c.rx ++ [⟨x, f, c.seq, sof⟩], seq := (c.seq + 1) % 2 ^ 16 }).showCanQueue p

/-- The filters applied to a received frame (R468). -/
def State.deliver (s : State) (p : Nat) (x : CanFrame) (sof : Nat) : State :=
  match (List.range 32).find? fun f => s.flag p Cf.FLT_MASK_ACCEPT f && s.filterHit p f x with
  | none => s
  | some f => if s.compat p then s.deliverBuffer p f x else s.deliverQueue p f x sof

/-- Every entry, completion and buffer discarded (R477, R480); a run of lost frames ends there. -/
def State.discardCan (s : State) (p : Nat) : State :=
  let n := (s.can p).lost
  let s := if n = 0 then s else s.raise p 5 n
  let s := s.modCan p fun c => { c with tx := [], comps := [], rx := [], lost := 0, sending := none, relatch := [] }
  let s := (s.setFld p Cf.TXS_PENDING 0).setFld p Cf.RXS_NEW 0
  (s.each (List.range 32) fun s b => s.each (List.range 4) fun s j => (s.setFld p Cf.TXS 0 b j).setFld p Cf.RXS 0 b j).showCanQueue p

end Sys2Proof.Machine
end

