-- ==== Sys2Proof/Machine/Can.lean ====
section
/-! DEFINITION. The commands of the CAN controllers (chapter 17). -/

namespace Sys2Proof.Machine

/-- The page of a controller. -/
def canPage (c : Fin 8) : Nat := 0x58 + c.val

/-- The receive error counter after a frame received without error: from above 127 to a value between 119 and 127 (ISO 11898-1
leaves open which), else down by one. -/
def State.frameGood (s : State) (p : Nat) : State :=
  let n := s.fld p Cf.ERR_COUNT_REC
  if 127 < n then
    let f := s.free
    f.2.countErrors p (f.2.fld p Cf.ERR_COUNT_TEC) (119 + f.1.toNat % 9)
  else s.countErrors p (s.fld p Cf.ERR_COUNT_TEC) (n - 1)

/-- A frame received under an identifier of the own transmit set. -/
def State.idConflict (s : State) (p : Nat) (x : CanFrame) : State :=
  let s := (s.bump p Cf.ID_CONFLICTS).setFld p Cf.LAST_CONFLICT_EXT (bool01 x.ext)
  (s.setFld p Cf.LAST_CONFLICT_ID x.id).raise p 4 (bool01 x.ext * 2 ^ 31 + x.id)

/-- A frame received taken as the answer of the node it names, where the roll-call is enabled. -/
def State.rollAnswer (s : State) (p : Nat) (x : CanFrame) : State :=
  let n := x.id - s.fld p Cf.RC_CFG_RSP_BASE
  if s.flag p Cf.RC_CFG_ENA && !x.ext && decide (s.fld p Cf.RC_CFG_RSP_BASE ≤ x.id
      ∧ s.fld p Cf.RC_RANGE_FIRST ≤ n ∧ n ≤ s.fld p Cf.RC_RANGE_LAST) then s.nodeAnswer p n else s

/-- A frame of another node is complete (R464, R467, R468, R479); `sof` is the time of its start. -/
def canFrameRxed (t : Nat) (c : Fin 8) (sof : Nat) (x : CanFrame) (s : State) : Host.Outcome State Fault Refusal :=
  let p := canPage c
  let s := s.start t
  .next (if s.canState p ≠ 2 ∧ s.canState p ≠ 3 then s
    else
      let s := (s.stopSending p).bump p Cf.FRAMES_RX
      let s := s.frameGood p
      let s := if s.ownId p x then s.idConflict p x else s
      let s := s.rollAnswer p x
      (s.deliver p x sof).frameOver p)

/-- The frame being sent has succeeded (R466, R473); `tdcv` is the transmitter delay measured in an FD frame. -/
def canTxEnded (t : Nat) (c : Fin 8) (sof tdcv : Nat) (s : State) : Host.Outcome State Fault Refusal :=
  let p := canPage c
  let s := s.start t
  .next (match (s.can p).sending with
    | none => s
    | some x =>
      let s := if ((s.sendingFrame p x).map (·.fdf)).getD false then s.setFld p Cf.BUS_STATUS_TDCV tdcv else s
      let s := ((s.attempt p 0 0).1.bump p Cf.FRAMES_TX).sendingEnded p 1 sof
      (s.countErrors p (s.fld p Cf.ERR_COUNT_TEC - 1) (s.fld p Cf.ERR_COUNT_REC)).frameOver p)

/-- An error written to LAST_ERROR. -/
def State.lastError (s : State) (p kind pos : Nat) (tx : Bool) : State :=
  ((s.setFld p Cf.LAST_ERROR_KIND kind).setFld p Cf.LAST_ERROR_TX (bool01 tx)).setFld p Cf.LAST_ERROR_POS pos

/-- The entry, buffer or 0x7F that a TX_ERROR names (R485). -/
def sendingNumber : Sending → Nat
  | .entry n => n
  | _ => 0x7F

/-- Whether a bit position of the frame being sent lies in its data field. -/
def State.inData (s : State) (p : Nat) (x : Sending) (pos : Nat) : Bool :=
  match s.sendingFrame p x with
  | some f => decide (canHead f ≤ pos ∧ pos < canHead f + 8 * f.len) && !f.rtr
  | none => false

/-- An attempt of sending that failed is noted, reported and counted against the retry limit. -/
def State.attemptFailed (s : State) (p : Nat) (x : Sending) (kind pos : Nat) : State :=
  let s := ((s.lastError p kind pos true).bump p Cf.ERR_TOTALS_TX)
  let s := s.txError p (sendingNumber x) kind pos
  let r := s.attempt p kind pos
  let s := r.1
  let lim := s.fld p Cf.CAN_CFG_TX_RETRY
  if lim ≠ 0 ∧ lim ≤ r.2 then s.sendingEnded p 3 s.time else s.stopSending p

/-- An error of some kind and position in the controller's own transmission (R466); `exempt` where ISO 11898-1 leaves TEC as it
is. -/
def canTxFailed (t : Nat) (c : Fin 8) (kind : Fin 8) (pos : Nat) (exempt : Bool) (s : State) : Host.Outcome State Fault Refusal :=
  let p := canPage c
  let s := s.start t
  .next (match (s.can p).sending with
    | none => s
    | some x =>
      let kind := if s.inData p x pos then 7 else kind.val
      let s := s.attemptFailed p x kind pos
      (s.countErrors p (s.fld p Cf.ERR_COUNT_TEC + (if exempt then 0 else 8)) (s.fld p Cf.ERR_COUNT_REC)).frameOver p)

/-- An error while receiving (R464, R483); `by8` where ISO 11898-1 raises REC by 8. -/
def canRxFailed (t : Nat) (c : Fin 8) (kind : Fin 8) (pos : Nat) (by8 : Bool) (s : State) : Host.Outcome State Fault Refusal :=
  let p := canPage c
  let s := s.start t
  .next (if s.canState p ≠ 2 ∧ s.canState p ≠ 3 then s
    else
      let s := ((s.lastError p kind pos false).bump p Cf.ERR_TOTALS_RX)
      let s := s.stopSending p
      let s := s.countErrors p (s.fld p Cf.ERR_COUNT_TEC) (s.fld p Cf.ERR_COUNT_REC + (if by8 then 8 else 1))
      s.frameOver p)

/-- CAN_INTEGRATED (R465): 11 recessive bits after leaving OFF. -/
def execCanIntegrated (t : Nat) (c : Fin 8) (s : State) : Host.Outcome State Fault Refusal :=
  let p := canPage c
  let s := s.start t
  .next (if s.canState p = 1 then ((s.setCanState p 2).checkErrors p).present_ p else s)

/-- BUSOFF_RECOVERED (R465). -/
def execBusoffRecovered (t : Nat) (c : Fin 8) (s : State) : Host.Outcome State Fault Refusal :=
  let p := canPage c
  let s := s.start t
  .next (if s.canState p = 5 then
      (((s.setFld p Cf.ERR_COUNT_TEC 0).setFld p Cf.ERR_COUNT_REC 0).setCanState p 2).present_ p
    else s)

/-- TX_GO_WRITE (R470). -/
def execTxGoWrite (t code gen : Nat) (c : Fin 8) (value : Word) (s : State) : Host.Outcome State Fault Refusal :=
  let p := canPage c
  .next ((s.start t).writeWith ⟨code, gen, p, Cf.TX_GO.off, value⟩ (fun _ => true) fun s =>
    if s.compat p then s
    else (s.store code p Cf.TX_GO.off value).modCan p fun c => { c with goBy := c.goBy.wr 0 (Reg.bank p Cf.TX_GO.off code) code })

/-- The lowest number that no entry or completion holds. -/
def freeEntry (c : CanRec) : Nat :=
  ((List.range 128).find? fun n => (c.tx ++ c.comps).all fun e => e.n != n).getD 0

/-- SLOT_STAT of a slot, and TX_TAKEN made equal to TX_GO (R470, R471). -/
def State.slotDone (s : State) (p bank slot stat : Nat) : State :=
  let s := s.setReg p (Cf.SLOT_STAT.pos slot) (BitVec.ofNat 32 stat) bank
  let taken := bitsOf (s.reg p Cf.TX_TAKEN.off bank) 7 0
  s.setReg p Cf.TX_TAKEN.off (BitVec.ofNat 32 (setBit taken slot (bitAt (bitsOf (s.reg p Cf.TX_GO.off bank) 7 0) slot))) bank

/-- A slot taken (R470, R471). -/
def State.takeSlot (s : State) (p bank slot : Nat) : State :=
  let w (off : Nat) : Nat := (s.reg p (0x800 + 0x80 * slot + off) bank).toNat
  let f := canFrameOf (w 0) (w 4) ((List.range 16).map fun j => w (0x40 + 4 * j))
  let c := s.can p
  if !s.canValid p f then s.slotDone p bank slot 3
  else if 128 ≤ c.tx.length + c.comps.length then
    (s.slotDone p bank slot 2).raise p 6 (c.goBy.rd 0 bank * 2 ^ 8 + slot)
  else
    let n := freeEntry c
    let q := c.cseq.rd 0 bank
    let e : TxEntry := { n := n, frame := f, bank := bank, cseq := q, held := bitAt (w 4) 29 }
    let s := s.setCan p { c with tx := c.tx ++ [e], cseq := c.cseq.wr 0 bank ((q + 1) % 2 ^ 16) }
    (s.slotDone p bank slot (q * 2 ^ 16 + n * 2 ^ 8 + 1)).showCanQueue p

/-- CAN_STAGE_REFRESH (R470): the slots whose two bits differ, by bank and slot. -/
def execCanStageRefresh (t : Nat) (c : Fin 8) (s : State) : Host.Outcome State Fault Refusal :=
  let p := canPage c
  let s := s.start t
  let bank (s : State) (b : Nat) : State :=
    s.each (List.range 8) fun s i =>
      if bitAt (bitsOf (s.reg p Cf.TX_GO.off b ^^^ s.reg p Cf.TX_TAKEN.off b) 7 0) i then s.takeSlot p b i else s
  .next (if s.compat p then s else (s.each [1, 3, 4, 5, 6, 7] bank).present_ p)

/-- The completions of a bank up to a CSEQ among its eight oldest (R473). -/
def ackedComps (c : CanRec) (bank cseq : Nat) : List TxEntry :=
  let view := (c.comps.filter fun e => e.bank == bank).take 8
  if view.any fun e => e.cseq == cseq then view.takeWhile (fun e => e.cseq != cseq) ++ view.filter (fun e => e.cseq == cseq) else []

/-- TXC_ACK_WRITE (R473). -/
def execTxcAckWrite (t code gen : Nat) (c : Fin 8) (value : Word) (s : State) : Host.Outcome State Fault Refusal :=
  let p := canPage c
  .next ((s.start t).writeWith ⟨code, gen, p, Cf.TXC_ACK.off, value⟩ (fun _ => true) fun s =>
    if s.compat p then s
    else
      let s := s.store code p Cf.TXC_ACK.off value
      let gone := ackedComps (s.can p) (Reg.bank p Cf.TXC_ACK.off code) (bitsOf value 15 0)
      (s.modCan p fun c => { c with comps := c.comps.filter fun e => gone.all fun g => g.n != e.n }).showCanQueue p)

/-- Whether a requester is the consumer that RX_CONSUMER names (R474, R482). -/
def State.isConsumer (s : State) (code p : Nat) : Bool :=
  let k := s.fld p Cf.CAN_CFG_RX_CONSUMER
  if k = 0 then code == 1 || code == 2 else code == 3 + k

/-- The entries up to the one named taken out of the receive queue (R465). -/
def State.rxTaken (s : State) (p seq : Nat) : State :=
  let c := s.can p
  match (c.rx.take 8).findIdx? fun e => e.seq == seq with
  | none => s
  | some i =>
    let s := (s.setCan p { c with rx := c.rx.drop (i + 1), lost := 0 }).showCanQueue p
    if c.lost = 0 then s else s.raise p 5 c.lost

/-- RX_ACK_WRITE (R474): frees the named entry of the view and every older one; a run of lost frames ends there. -/
def execRxAckWrite (t code gen : Nat) (c : Fin 8) (value : Word) (s : State) : Host.Outcome State Fault Refusal :=
  let p := canPage c
  .next ((s.start t).writeGuard ⟨code, gen, p, Cf.RX_ACK.off, value⟩ (fun s => if s.compat p || s.isConsumer code p then 0 else RC.rights) fun s =>
    if s.compat p then s else (s.store code p Cf.RX_ACK.off value).rxTaken p (bitsOf value 15 0))

/-- One bit of TXS_LATCH (R478). -/
def State.latchBit (s : State) (p b : Nat) : State :=
  let c := s.can p
  if c.sending = some (.entry b) then
    if c.relatch.contains b then s else s.setCan p { c with relatch := c.relatch ++ [b] }
  else
    let s := if bitAt (s.fld p Cf.TXS_PENDING) b then s.bump p Cf.OVERWRITES_TXS else s
    s.latchBuffer p b

/-- TXS_LATCH_WRITE (R478). -/
def execTxsLatchWrite (t code gen : Nat) (c : Fin 8) (value : Word) (s : State) : Host.Outcome State Fault Refusal :=
  let p := canPage c
  .next ((s.start t).writeWith ⟨code, gen, p, Cf.TXS_LATCH.off, value⟩ (fun _ => true) fun s =>
    if !s.compat p then s
    else (s.each ((List.range 32).filter fun b => bitAt value.toNat b) fun s b => s.latchBit p b).present_ p)

/-- RXS_ACK_WRITE (R478). -/
def execRxsAckWrite (t code gen : Nat) (c : Fin 8) (value : Word) (s : State) : Host.Outcome State Fault Refusal :=
  let p := canPage c
  .next ((s.start t).writeWith ⟨code, gen, p, Cf.RXS_ACK.off, value⟩ (fun _ => true) fun s =>
    if !s.compat p then s
    else (s.setFld p Cf.RXS_NEW (s.fld p Cf.RXS_NEW &&& (2 ^ 32 - 1 - value.toNat))).showCanQueue p)

/-- Whether a write to CAN_CFG is allowed now (R465): outside OFF it may change MODE alone. -/
def State.cfgAllowed (s : State) (p : Nat) (value : Word) : Bool :=
  let mask : Word := 0x07FF07F0
  s.canState p == 0 || (value &&& mask) == (s.reg p Cf.CAN_CFG_MODE.off &&& mask)

/-- CAN_MODE_WRITE (R464, R465, R477, R483): a write to CAN_CFG. -/
def execCanModeWrite (t code gen : Nat) (c : Fin 8) (value : Word) (s : State) : Host.Outcome State Fault Refusal :=
  let p := canPage c
  .next ((s.start t).writeWith ⟨code, gen, p, Cf.CAN_CFG_MODE.off, value⟩ (fun s => s.cfgAllowed p value) fun s =>
    let q := s.compat p
    let s := s.store code p Cf.CAN_CFG_MODE.off value
    let s := if s.compat p == q then s else s.discardCan p
    (s.settleMode p).present_ p)

/-- The boundary signal of the owner lane at HELD entries (R475, R476). -/
def State.boundarySignal (s : State) (p : Nat) (release : Bool) : State :=
  let sync := s.flag p Cf.SYNC_CFG_ENA
  let s := if release then s.modCan p fun c => { c with
      tx := c.tx.map fun e =>
        if e.held then { e with held := false, waits := if !sync then 0 else if c.sending = some .sync then 2 else 1 } else e }
    else s.endEntries p 5 (fun e => e.held)
  if !sync then s
  else
    let c := s.can p
    let late := c.syncAt.isSome || c.syncDue
    let s := if late then (s.bump p Cf.SYNC_STATUS_LATE).raise p 8 else s
    s.modCan p fun c => { c with syncAt := some (s.now + s.fld p Cf.SYNC_TIMING_OFFSET_US * 1000), syncDue := false, syncTries := 0, syncOld := c.sending = some .sync }

/-- CAN_BOUNDARY_SIGNAL (R475, R476, R480): nothing while the owner's heartbeat is absent. -/
def execCanBoundarySignal (t : Nat) (c : Fin 8) (s : State) : Host.Outcome State Fault Refusal :=
  let p := canPage c
  let s := s.start t
  let l := laneNum (s.owner p)
  let r := s.resRec p
  let there := r.accepted && (match l with
    | .a => r.beatA.present
    | .b => r.beatB.present)
  .next (if there then (s.boundarySignal p (s.pstate (clePage l) == 2)).present_ p else s)

/-- SYNC_FRAME_DUE (R476). -/
def execSyncFrameDue (t : Nat) (c : Fin 8) (s : State) : Host.Outcome State Fault Refusal :=
  let p := canPage c
  let s := s.start t
  .next (match (s.can p).syncAt with
    | some x =>
      if x ≤ s.now then
        let n := s.fld p Cf.SYNC_STATUS_COUNT
        let s := if s.flag p Cf.SYNC_TIMING_COUNTER then s.setFld p Cf.SYNC_STATUS_COUNT (if 240 ≤ n then 1 else n + 1) else s
        (s.modCan p fun c => { c with syncAt := none, syncDue := true }).present_ p
      else s
    | none => s)

/-- Whether a roll-call can run (R479, R484). -/
def State.rollReady (s : State) (p : Nat) : Bool :=
  s.flag p Cf.RC_CFG_ENA && ((s.can p).mode == 1 || (s.can p).mode == 2) && s.flag p Cf.CAN_CFG_TX_ENA

/-- A round begins (R479). -/
def State.startRound (s : State) (p : Nat) : State :=
  let a := s.fld p Cf.RC_RANGE_FIRST
  let b := s.fld p Cf.RC_RANGE_LAST
  (s.modCan p fun c => { c with rolls := List.range' a (b + 1 - a), rollTries := 0, roundAt := s.now }).present_ p

/-- ROLL_CALL_ROUND (R479). -/
def execRollCallRound (t : Nat) (c : Fin 8) (s : State) : Host.Outcome State Fault Refusal :=
  let p := canPage c
  let s := s.start t
  .next (if s.rollReady p ∧ (s.can p).roundAt + s.fld p Cf.RC_TIMING_PERIOD_MS * 1000000 ≤ s.now then s.startRound p else s)

/-- A node's oldest open request unanswered (R479). -/
def State.nodeMissed (s : State) (p n : Nat) : State :=
  let x := (s.can p).nodes.rd {} n
  let m := saturate 8 (x.misses + 1)
  let gone := x.present && decide (s.fld p Cf.RC_TIMING_MISS_N ≤ m)
  let s := s.modCan p fun c => { c with nodes := c.nodes.wr {} n { x with misses := m, asked := x.asked.drop 1, present := x.present && !gone } }
  let s := s.setFld p Cf.RC_NODE_MISSES m n
  if gone then
    let s := (s.setFld p Cf.RC_NODE_PRESENT 0 n).setFld p Cf.RC_PRESENT (setBit (s.fld p Cf.RC_PRESENT (n / 32)) (n % 32) false) (n / 32)
    (s.setFld p Cf.RC_STATUS_PRESENT (s.fld p Cf.RC_STATUS_PRESENT - 1)).raise p 7 (2 * 2 ^ 8 + n)
  else s

/-- ROLL_CALL_TIMEOUT (R479). -/
def execRollCallTimeout (t : Nat) (c : Fin 8) (n : Fin 128) (s : State) : Host.Outcome State Fault Refusal :=
  let p := canPage c
  let s := s.start t
  .next (match ((s.can p).nodes.rd {} n.val).asked with
    | x :: _ => if x + s.fld p Cf.RC_TIMING_TIMEOUT_MS * 1000000 ≤ s.now then s.nodeMissed p n.val else s
    | [] => s)

/-- CAN_TRANSCEIVER_FAULT (R482, R485): the fault comes or goes. -/
def execCanTransceiverFault (t : Nat) (c : Fin 8) (on : Bool) (s : State) : Host.Outcome State Fault Refusal :=
  let p := canPage c
  .next (((s.start t).setFld p Cf.BUS_STATUS_TRANSCEIVER (bool01 on)).level p 10 on)

/-- RECOVER (R465, R484). -/
def cmdCanRecover : Cmd where
  opc := 0x01
  kinds := (· == .can)
  allow := fun s q _ _ => if s.canState q.page = 4 ∧ !s.flag q.page Cf.CAN_CFG_AUTO_RECOVER then 0 else RC.state
  act := fun s q _ _ => (s.setCanState q.page 5, RC.done)

def execCanRecover (t : Nat) (q : Req) (s : State) : Host.Outcome State Fault Refusal :=
  .next ((s.start t).command q cmdCanRecover)

/-- The entries that TX_ABORT names (R484). -/
def State.named (s : State) (q : Req) : List TxEntry :=
  (s.can q.page).tx.filter fun e =>
    !s.compat q.page && e.bank == Reg.bank q.page Cf.TX_GO.off q.code && (q.chan == 0xFF || e.n == q.chan)

/-- TX_ABORT (R472, R484). -/
def cmdTxAbort : Cmd where
  opc := 0x02
  kinds := (· == .can)
  range := fun _ ch _ _ => decide (ch ≤ 127 ∨ ch = 0xFF)
  allow := fun s q _ _ => if (s.named q).isEmpty then RC.state else 0
  act := fun s q _ _ =>
    let busy := (s.can q.page).sending
    ((s.named q).foldl (fun s e => if busy = some (.entry e.n) then s else s.endEntry q.page e 2 s.time) s, RC.done)

def execTxAbort (t : Nat) (q : Req) (s : State) : Host.Outcome State Fault Refusal :=
  .next ((s.start t).command q cmdTxAbort)

/-- ROLL_CALL (R479, R484). -/
def cmdRollCall : Cmd where
  opc := 0x03
  kinds := (· == .can)
  allow := fun s q _ _ => if s.rollReady q.page then 0 else RC.state
  act := fun s q _ _ => (s.startRound q.page, RC.done)

def execRollCall (t : Nat) (q : Req) (s : State) : Host.Outcome State Fault Refusal :=
  .next ((s.start t).command q cmdRollCall)

/-- COUNTERS_CLEAR of a CAN page (R484). -/
def cmdCanClear : Cmd where
  opc := 0x04
  kinds := (· == .can)
  act := fun s q _ _ =>
    let s := [Cf.ERR_TOTALS_TX.off, Cf.BUSOFF_COUNT.off, Cf.FRAMES_TX.off, Cf.FRAMES_RX.off, Cf.RX_OVERFLOWS.off,
      Cf.ID_CONFLICTS.off, Cf.OVERWRITES_TXS.off].foldl (fun s off => s.setReg q.page off 0) s
    (s.setFld q.page Cf.SYNC_STATUS_LATE 0, RC.done)

def execCanCountersClear (t : Nat) (q : Req) (s : State) : Host.Outcome State Fault Refusal :=
  .next ((s.start t).command q cmdCanClear)

/-- A word of the completion view of a bank (R473): word `j` of completion `i`. -/
def txcWord (c : CanRec) (bank i j : Nat) : Nat :=
  match ((c.comps.filter fun e => e.bank == bank).take 8)[i]? with
  | none => 0
  | some e =>
    match j with
    | 0 => e.cseq * 2 ^ 16 + e.n * 2 ^ 8 + e.result
    | 1 => e.kind * 2 ^ 28 + e.attempts % 2 ^ 8 * 2 ^ 16 + e.pos % 2 ^ 11
    | 2 => e.time % 2 ^ 32
    | _ => e.time / 2 ^ 32 % 2 ^ 32

/-- A word of the receive view (R474, R482): offset `off` of slot `i`. -/
def rxWord (c : CanRec) (i off : Nat) : Nat :=
  match (c.rx.take 8)[i]? with
  | none => 0
  | some e =>
    if off = 0 then canIdWord e.frame
    else if off = 4 then canInfoWord e.frame
    else if off = 8 then e.filter * 2 ^ 16 + e.seq
    else if off = 0xC then e.time % 2 ^ 32
    else if off = 0x10 then e.time / 2 ^ 32 % 2 ^ 32
    else if 0x40 ≤ off then canDataWord e.frame ((off - 0x40) / 4)
    else 0

/-- The words of a CAN page that are views, and those that read 0 in the other queue mode (R473, R474, R477). -/
def State.canWord (s : State) (p off code : Nat) : Option Nat :=
  let c := s.can p
  let native := !s.compat p
  if 0x180 ≤ off ∧ off < 0x200 then
    some (if native then txcWord c (Reg.bank p Cf.TXC_ACK.off code) ((off - 0x180) / 0x10) (off % 0x10 / 4) else 0)
  else if 0x400 ≤ off ∧ off < 0x800 then (if native then some (rxWord c ((off - 0x400) / 0x80) (off % 0x80)) else none)
  else if (0x800 ≤ off ∧ off < 0xC00) ∨ (0x170 ≤ off ∧ off < 0x180) then (if native then none else some 0)
  else if 0xC00 ≤ off ∧ off % 8 = 4 then
    match (c.nodes.rd {} ((off - 0xC00) / 8)).answer with
    | some x => some (saturate 32 ((s.now - x) / 1000000))
    | none => none
  else none

end Sys2Proof.Machine
end

