-- ==== Sys2Proof/Machine/Loops.lean ====
section
/-! DEFINITION. The current and velocity loops of an axis (R320-R325, R364, R365, R368, R376-R380). -/

namespace Sys2Proof.Machine

/-- A current limit in 0.1 A after the factors of R324: half in DERATED and FAULT_SENSE, and the temperature factor. -/
def State.limitNow (s : State) (p da : Nat) : Nat :=
  let half := if s.pstate p = 5 ∨ s.pstate p = 6 then 2 else 1
  let beyond := (clampInt (s.sfld p Ax.STAGE_TEMP) 1000 1200 - 1000).toNat
  da * (400 - beyond) / (400 * half)

/-- The peak and continuous limits before any foldback, in 0.1 A (R324). -/
def State.peakLimit (s : State) (p : Nat) : Nat := s.limitNow p (min 200 (s.fld p Ax.MOT_I_PEAK_DA))
def State.contLimit (s : State) (p : Nat) : Nat :=
  s.limitNow p (min (s.fld 0 (if busOf p = 0 then Dev.EFF_BUS_A_CONT_DA else Dev.EFF_BUS_B_CONT_DA)) (s.fld p Ax.MOT_I_CONT_DA))

/-- The budget of the accumulator A in mA²·ns (R325). -/
def State.heatBudget (s : State) (p : Nat) : Int :=
  let k : Int := 100 * s.peakLimit p
  let c : Int := 100 * s.contLimit p
  (k * k - 2 * c * c) * 1000000000

/-- The accumulator A and the motor model advanced to this instant with the measured currents (R325). -/
def State.heatUp (s : State) (p : Nat) : State :=
  let x := s.axis p
  let dt : Int := s.now - x.curTick
  let d := s.sfld p Ax.I_DQ_I_D
  let q := s.sfld p Ax.I_DQ_I_Q
  let sq := d * d + q * q
  let c : Int := 100 * s.contLimit p
  let a := max 0 (x.thermal + (sq - 2 * c * c) * dt / 2)
  let m : Int := 100 * s.fld p Ax.MOT_I_CONT_DA
  let want := sq * 1000000000000000 / (2 * m * m)
  let tau : Int := s.fld p Ax.MOT_TAU_S * 1000000000
  s.setAxis p { x with thermal := a, motorHeat := x.motorHeat + (want - x.motorHeat) * min dt tau / tau, curTick := s.now }

/-- A share of a trip point in %, as THERMAL shows it. -/
def pctOf (v top : Int) : Nat := if top ≤ 0 then (if v ≤ 0 then 0 else 255) else saturate 8 (v * 100 / top).toNat

/-- FOLDBACK, TEMP_DERATE, CUR_LIMIT and THERMAL (R324, R325). -/
def State.showLimits (s : State) (p : Nat) : State :=
  let x := s.axis p
  let b := s.heatBudget p
  let fold := s.flag p Ax.DRV_STATUS_FOLDBACK
  let full : Int := 1000000000000000
  let byA := decide (b ≤ x.thermal) || fold && decide (b < 2 * x.thermal)
  let byM := decide (full ≤ x.motorHeat) || fold && decide (9 * full < 10 * x.motorHeat)
  let c := s.contLimit p
  let s := s.setFld p Ax.DRV_STATUS_FOLDBACK (bool01 (byA || byM))
  let s := s.setFld p Ax.DRV_STATUS_TEMP_DERATE (bool01 (decide (1000 < s.sfld p Ax.STAGE_TEMP)))
  let s := s.setFld p Ax.CUR_LIMIT_PEAK_DA (if byA || byM then min (s.peakLimit p) (isqrt (2 * c * c)) else s.peakLimit p)
  let s := (s.setFld p Ax.CUR_LIMIT_CONT_DA c).setFld p Ax.THERMAL_I2T_PCT (pctOf x.thermal b)
  (s.setFld p Ax.THERMAL_MOTOR_PCT (pctOf x.motorHeat full)).driveLimit p

/-- The speed in units/s of a back-EMF in mV (R320): 0 below 1.5 V; KE in mV·s/rad, 2π rad a revolution. -/
def State.emfSpeed (s : State) (p : Nat) (mv : Int) : Int :=
  if mv.natAbs < 1500 then 0
  else
    let ke : Int := s.fld p Ax.KE
    let perTurn : Int := if rotary p then 2 ^ 24 else s.fld p Ax.MECH_LEAD_UM
    roundDiv (mv * perTurn * 1000000000) (ke * 6283185307)

/-- SPEED_EST (R319, R320): the back-EMF in FREE and while a start measures, the observer of a sensorless motor. -/
def State.showEstimate (s : State) (p : Nat) (c : CurSample) : State :=
  let st := s.mstate p
  if st = 1 ∨ st = 5 then s.setSfld p Ax.SPEED_EST (saturateSigned 32 (s.emfSpeed p c.emf))
  else if s.sensorless p then s.setSfld p Ax.SPEED_EST (saturateSigned 32 c.observed)
  else s

/-- The voltages that the current loop commands (R321): their amplitude and modulation have no stated value beyond the
structure of the loop, and are free; with all switches off they are 0. -/
def State.showVoltage (s : State) (p : Nat) : State :=
  if s.axisTorque p then
    let (v, s) := s.free
    (s.setFld p Ax.V_CMD_AMPL (v.toNat % 2 ^ 16)).setFld p Ax.V_CMD_MOD_PCT (v.toNat / 2 ^ 16 % 101)
  else s.setReg p Ax.V_CMD_AMPL.off 0

/-- PASS_STATUS of an axis (R368): the drivers follow the lowest-numbered axis that names the output and is in RUN. -/
def State.decidePass (s : State) (p : Nat) : State :=
  let wants (q : Nat) : Bool := s.flag q Ax.PASS_CFG_ENA && s.fbState q == 3 && s.fld q Ax.PASS_CFG_OUT == s.fld p Ax.PASS_CFG_OUT
  let rival := (List.range' 0x10 (p - 0x10)).any wants
  let st :=
    if !s.flag p Ax.PASS_CFG_ENA ∨ s.fbState p ≠ 3 then 0
    else if rival then 2
    else if s.fld p Ax.PASS_CFG_MODE = 1 ∧ s.fld p Ax.FB_STATUS_DETECTED ≠ 1 then 3
    else 1
  s.setFld p Ax.PASS_STATUS_STATE st

/-- The emulated output of an axis (R368): one edge for each EMU_PITCH units, at most 8 million a second. -/
def State.emulate (s : State) (p : Nat) : State :=
  let x := s.axis p
  if s.fld p Ax.PASS_STATUS_STATE ≠ 1 ∨ s.fld p Ax.PASS_CFG_MODE ≠ 2 then
    (s.modFb p fun f => { f with emuPos := s.p64 p / (s.fld p Ax.PASS_CFG_EMU_PITCH : Int) }).setFld p Ax.PASS_STATUS_OVERSPEED 0
  else
    let want := s.p64 p / (s.fld p Ax.PASS_CFG_EMU_PITCH : Int)
    let most : Int := (s.now - x.curTick) * 8 / 1000
    let got := x.fb.emuPos + clampInt (want - x.fb.emuPos) (-most) most
    (s.modFb p fun f => { f with emuPos := got }).setFld p Ax.PASS_STATUS_OVERSPEED (bool01 (got != want))

/-- The drivers of a pass-through output (R368): the levels of A and B, and of Z where it is known, or high impedance. -/
structure PassPins where
  a : Bool
  b : Bool
  z : Option Bool
  deriving DecidableEq, Repr

/-- The axis page that drives pass-through output `k` (R368). -/
def State.passDriver (s : State) (k : Nat) : Option Nat :=
  (List.range' 0x10 32).find? fun p => s.fld p Ax.PASS_STATUS_STATE == 1 && s.fld p Ax.PASS_CFG_OUT == k

/-- Pass-through output `k` (R368): A and B as accepted in REPEAT, where Z is not held; in EMULATE the quadrature of the edges
sent, with Z in the quarter cycle that holds a multiple of 2^24 on a rotary axis. -/
def State.passPins (s : State) (k : Nat) : Option PassPins :=
  (s.passDriver k).map fun p =>
    let f := (s.axis p).fb
    if s.fld p Ax.PASS_CFG_MODE = 1 then ⟨f.a, f.b, none⟩
    else
      let pitch : Int := s.fld p Ax.PASS_CFG_EMU_PITCH
      let q := (f.emuPos % 4).toNat
      ⟨q == 1 || q == 2, q == 2 || q == 3, some (rotary p && decide ((f.emuPos * pitch + pitch - 1) / 2 ^ 24 ≠ (f.emuPos * pitch - 1) / 2 ^ 24))⟩

/-- The measured currents and the temperature (R342). -/
def State.showCurrents (s : State) (p : Nat) (c : CurSample) : State :=
  let s := (s.setSfld p Ax.I_DQ_I_D (saturateSigned 16 c.d)).setSfld p Ax.I_DQ_I_Q (saturateSigned 16 c.q)
  let s := (s.setSfld p Ax.I_UV_I_U (saturateSigned 16 c.u)).setSfld p Ax.I_UV_I_V (saturateSigned 16 c.v)
  let s := (s.setSfld p Ax.I_W_DC_I_W (saturateSigned 16 c.w)).setSfld p Ax.I_W_DC_I_DC (saturateSigned 16 c.dc)
  s.setSfld p Ax.STAGE_TEMP (saturateSigned 16 c.temp)

/-- A reconstructed phase shows the current computed from the other two (R331). -/
def State.rebuilt (s : State) (p : Nat) (c : CurSample) : CurSample :=
  match s.fld p Ax.DRV_STATUS_SENSE_FAILED with
  | 1 => { c with u := -(c.v + c.w) }
  | 2 => { c with v := -(c.u + c.w) }
  | 3 => { c with w := -(c.u + c.v) }
  | _ => c

/-- CURRENT_LOOP_TICK (R321, R324, R325, R368). -/
def execCurrentLoopTick (t : Nat) (a : Fin 32) (c : CurSample) (s : State) : Host.Outcome State Fault Refusal :=
  .next ((s.start t).atAxis a fun s p =>
    let s := (s.showCurrents p (s.rebuilt p c)).showEstimate p c
    let s := (s.decidePass p).emulate p
    ((s.heatUp p).showLimits p).showVoltage p)

/-- The step of a position over a period, the short way in WRAP (R364). -/
def State.stepBy (s : State) (p : Nat) (d : Int) : Int := if s.wraps p then signedOf 24 (d % 2 ^ 24).toNat else d

/-- The value of the PERIOD method (R364): Tp at 10 ns resolution, the time since the last edge once that is longer. -/
def State.periodSpeed (s : State) (p : Nat) : Int :=
  let f := (s.axis p).fb
  match f.edge1, f.edge2 with
  | some (t1, d1), some (t2, d2) =>
    if d1 ≠ d2 then 0
    else
      let tp := max ((t2 - t1) / 10) ((s.now - t2) / 10)
      roundDiv (d2 * (s.fld p Ax.FB_NUM : Int) * 100000000) ((s.fld p Ax.FB_DEN : Int) * tp)
  | _, _ => 0

/-- The method of this tick (R364, R365). -/
def State.speedMethod (s : State) (p : Nat) : Nat :=
  let f := (s.axis p).fb
  if f.moved + s.fld p Ax.ZERO_MS * 1000000 ≤ s.now then 0
  else if s.serial p then 2
  else
    match s.fld p Ax.FB_STATUS_SPD_METHOD with
    | 0 => if f.edges = 0 then 0 else 1
    | _ =>
    if s.fld p Ax.FB_STATUS_DETECTED = 2 then 1
    else match s.fld p Ax.FB_STATUS_SPD_METHOD with
    | 1 => if s.fld p Ax.SPD_CFG_CHG_UP ≤ f.edges then 2 else 1
    | _ => if f.edges ≤ s.fld p Ax.SPD_CFG_CHG_DN then 1 else 2

/-- SPEED at a velocity-loop tick (R361, R364, R365): a serial frame that was not good holds it. -/
def State.computeSpeed (s : State) (p : Nat) : State :=
  let f := (s.axis p).fb
  let m := s.speedMethod p
  let q := s.shown64 p
  let dt := s.now - f.lastTick
  let raw : Int :=
    if m = 0 then 0
    else if m = 1 then s.periodSpeed p
    else roundDiv (s.stepBy p (q - f.lastP) * 1000000000) dt
  let tau := s.fld p Ax.SPD_CFG_SPD_FILT_US * 1000
  let filt := if tau = 0 then raw * fine else f.filt + (raw * fine - f.filt) * (dt : Int) / ((dt + tau : Nat) : Int)
  let hold := s.serial p && f.bad != 0
  let s := s.modFb p fun f => { f with filt := if hold then f.filt else filt, lastP := q, edges := 0, lastTick := s.now }
  let s := s.setFld p Ax.FB_STATUS_SPD_METHOD m
  if hold then s else s.setSfld p Ax.SPEED (saturateSigned 32 (roundDiv filt fine))

/-- The inertia that the velocity loop uses (R321). -/
def State.loopInertia (s : State) (p : Nat) : Int := if rotary p then s.fld p Ax.ROT_INERTIA else s.fld p Ax.MASS_G

/-- The force that the position and velocity loops ask for (R321), in 0.1 N or 0.001 N·m, before any cut: proportional
2π × VEL_BW × J on the speed error, its integral, and the acceleration feed-forward; a push or PRESSING asks for its
force. -/
def State.askedForce (s : State) (p : Nat) : Int × State :=
  let x := s.axis p
  let st := s.mstate p
  if st = 10 then (x.pushDir * 10 * x.pushForce, s)
  else if st = 9 then (x.pushDir * 10 * s.fld p Ax.PUSH_CFG_HOLD_N, s)
  else
    let posErr : Int := if s.sensorless p then 0 else s.stepBy p (s.sfld p Ax.POS_SET - s.loopPosition p)
    let v := s.sfld p Ax.VEL_SET + posErr * s.fld p Ax.LOOP_CFG_POS_BW_HZ * 6283185307 / 1000000000
    let e := v - s.sfld p Ax.SPEED
    let sum := x.integral + e * s.loopPeriod p 1
    let k : Int := s.fld p Ax.LOOP_BW_VEL_BW_HZ
    let lin := (e + sum / (s.fld p Ax.LOOP_CFG_VEL_TI_MS * 1000000 : Int)) * k * 6283185307 / 1000000000
    let ff := x.kin.a / fine * s.fld p Ax.LOOP_CFG_ACC_FF_PCT / 100
    (inertiaForce p (s.loopInertia p) (lin + ff), s.modAxis p fun x => { x with integral := sum })

/-- The force ceiling in 0.1 N or 0.001 N·m that applies now (R289, R307). -/
def State.ceilingNow (s : State) (p : Nat) : Option Nat :=
  let m := s.fld p Ax.HOME_CFG_METHOD
  let ph := s.fld p Ax.HOME_STATUS_PHASE
  if s.mstate p = 11 ∧ (m = 7 ∨ m = 8) ∧ (ph = 2 ∨ ph = 4) then some (10 * s.fld p Ax.HARD_STOP_FORCE_N)
  else (s.ceiling p (s.position p)).map (10 * ·)

/-- The force demand cut to the ceiling, the current limits and the regeneration limit (R322): DRV_STATUS.LIMITED and
MOT_STATUS.CEIL_ACTIVE. How far the regeneration limit lowers a braking demand is not stated: a free value. -/
def State.cutForce (s : State) (p : Nat) (f : Int) : State :=
  let a := match s.ceilingNow p with
    | some c => clampInt f (-(c : Int)) c
    | none => f
  let top := (s.forceOf p (100 * s.fld p Ax.CUR_LIMIT_PEAK_DA)).natAbs
  let b := if s.noLead p then a else clampInt a (-(top : Int)) top
  let regen := s.flag p Ax.DRV_STATUS_REGEN_LIMITED && decide (b * s.sfld p Ax.SPEED < 0)
  let (c, s) :=
    if regen then
      let (v, s) := s.free
      (sign b * (v.toNat % (b.natAbs + 1) : Nat), s)
    else (b, s)
  let s := s.modAxis p fun x => { x with demand := c }
  let s := s.setFld p Ax.DRV_STATUS_LIMITED (bool01 (a != f || b != a || regen))
  s.setFld p Ax.MOT_STATUS_CEIL_ACTIVE (bool01 (a != f))

/-- The demand of a tick (R321, R322): only an axis with torque asks for any. -/
def State.runVelocity (s : State) (p : Nat) : State :=
  let st := s.mstate p
  if s.axisTorque p && st != 0 && st != 1 && st != 5 then
    let (f, s) := s.askedForce p
    s.cutForce p f
  else
    let s := s.modAxis p fun x => { x with demand := 0, integral := 0 }
    (s.setFld p Ax.DRV_STATUS_LIMITED 0).setFld p Ax.MOT_STATUS_CEIL_ACTIVE 0

/-- F_EST, F_MODEL, F_EXCESS and BIN_NOW (R376): without a lead a linear axis has no stated force, and F_EST is free. -/
def State.modelForce (s : State) (p : Nat) : State :=
  let v := s.sfld p Ax.VEL_SET
  let sg := if v = 0 then (s.axis p).force.sign else sign v
  let b := s.binAt p (s.position p)
  let m := s.bin p b
  let (est, s) :=
    if s.noLead p then
      let (x, s) := s.free
      (signedOf 32 (x.toNat % 2 ^ 32), s)
    else (saturateSigned 32 (s.forceOf p (s.sfld p Ax.I_DQ_I_Q)), s)
  let unit : Int := if rotary p then 1000 else 100
  let model : Int :=
    if s.referenced p ∧ m.learned then
      sg * m.fric (decide (0 < sg)) + inertiaForce p ((m.mass : Int) * unit) ((s.axis p).kin.a / fine)
    else 0
  let model := saturateSigned 32 model
  let s := s.modForce p fun f => { f with sign := sg }
  let s := (s.setSfld p Ax.F_EST est).setSfld p Ax.F_MODEL model
  (s.setSfld p Ax.F_EXCESS (saturateSigned 32 (sg * (est - model)))).setFld p Ax.BIN_NOW b

/-- Whether this tick is decided (R379). -/
def State.decided (s : State) (p : Nat) : Bool :=
  let st := s.mstate p
  s.flag p Ax.OBS_CFG_ENA && decide (s.fld p Ax.DETECT_VMIN ≤ (s.sfld p Ax.VEL_SET).natAbs) &&
    if st = 7 ∨ (st = 8 ∧ s.fld p Ax.MOT_STATUS_CLASS ≠ 0 ∧ (s.axis p).homeResult = 0) then
      bitAt (s.fld p Ax.OBS_CFG_SETS) (s.fld p Ax.MOT_STATUS_SET) &&
        (s.closing p || s.closeDir p != 0 && s.flag p Ax.OBS_CFG_DETECT_OPEN)
    else if st = 11 then
      let m := s.fld p Ax.HOME_CFG_METHOD
      let ph := s.fld p Ax.HOME_STATUS_PHASE
      s.flag p Ax.OBS_CFG_HOMING && !((m == 7 || m == 8) && (ph == 2 || ph == 4))
    else st == 12 && s.fld p Ax.OBS_STATUS_REV_PHASE == 2

/-- The threshold in force in N (R380, R392). -/
def State.threshold (s : State) (p : Nat) : Nat :=
  let t := s.fld p Ax.THRESH_EFF
  if s.flag p Ax.OBS_STATUS_FLOOD_CLOSE then min t (s.fld p Ax.FALLBACK_FB_THRESH) else t

/-- The force decision of a tick (R379, R380, R395). -/
def State.forceDecision (s : State) (p : Nat) : State :=
  if !s.decided p then s.modForce p fun f => { f with ticks := 0 }
  else
    let f := (s.axis p).force
    let e := s.sfld p Ax.F_EXCESS
    let beyond := decide (10 * (s.threshold p : Int) ≤ e)
    if f.inject then
      let s := s.setSfld p Ax.F_EXCESS (10 * s.fld p Ax.THRESH_EFF)
      (s.modForce p fun f => { f with ticks := 0, inject := false }).trip p 1 0 (s.fld p Ax.THRESH_EFF) true
    else if beyond ∧ s.fld p Ax.OBS_CFG_DETECT_TICKS ≤ f.ticks + 1 then
      (s.modForce p fun f => { f with ticks := 0 }).trip p 1 0 (saturate 16 (e / 10).toNat) false
    else s.modForce p fun f => { f with ticks := if beyond then f.ticks + 1 else 0 }

/-- What a tick adds to the pass, the curd record and PEAK_EXCESS (R377, R394, R551). -/
def State.gather (s : State) (p : Nat) : State :=
  let soiled := s.flag p Ax.DRV_STATUS_LIMITED || s.flag p Ax.DRV_STATUS_REGEN_LIMITED || s.flag p Ax.DRV_STATUS_FOLDBACK
    || s.pstate p != 3 || !s.referenced p
  let s := if soiled then s.modForce p fun f => { f with clean := false } else s
  let s := if s.closing p then s.setSfld p Ax.PEAK_EXCESS (max (s.sfld p Ax.PEAK_EXCESS) (s.sfld p Ax.F_EXCESS)) else s
  let s := if s.mstate p = 7 ∧ s.fld p Ax.DETECT_VMIN ≤ (s.sfld p Ax.VEL_SET).natAbs then
      s.passSample p (s.axis p).force.sign (s.sfld p Ax.F_EST) ((s.axis p).kin.a / fine)
    else s
  s.curdSample p

/-- VELOCITY_LOOP_TICK (R321, R322, R364, R376-R380). -/
def execVelocityLoopTick (t : Nat) (a : Fin 32) (s : State) : Host.Outcome State Fault Refusal :=
  .next ((s.start t).atAxis a fun s p =>
    let s := (s.computeSpeed p).runVelocity p
    ((s.modelForce p).gather p).forceDecision p)

end Sys2Proof.Machine
end

