-- ==== Sys2Proof/Machine/Feedback.lean ====
section
/-! DEFINITION. Finding the sensor (R351, R352, R362, R371), counting (R353-R357), serial frames (R359-R361) and the faults
of a feedback port (R366, R369, R370). -/

namespace Sys2Proof.Machine

/-- Whether the drive state of an axis forbids a change of its port (R369). -/
def State.fbHeld (s : State) (p : Nat) : Bool := decide (2 ≤ s.pstate p ∧ s.pstate p ≤ 6)

/-- A port whose sensor does not count absolutely loses its reference when it leaves RUN (R290, R352). -/
def State.fbUnref (s : State) (p : Nat) : State := if s.serial p then s else s.setFld p Ax.MOT_STATUS_REF_VALID 0

/-- A probe begins (R351): the supply is switched on at SUPPLY. -/
def State.fbProbe (s : State) (p : Nat) : State :=
  let s := (s.fbUnref p).modFb p fun f => { f with supply := s.fld p Ax.FB_CFG_SUPPLY, bad := 0, good := 0, framing := none }
  (s.setFbState p 1).setFld p Ax.FB_STATUS_ANGLE_VALID 0

/-- The port switched off with its supply (R371); a probe asked for ends ABORTED. -/
def State.fbOff (s : State) (p : Nat) : State :=
  let s := ((s.fbUnref p).setFbState p 0).setFld p Ax.FB_STATUS_ANGLE_VALID 0
  let s := s.modFb p fun f => { f with supply := 0 }
  s.completeAll (fun o => o.page == p && o.opc == 0x28) RC.aborted

/-- FB_PROBE (R351, R370). -/
def cmdFbProbe (p : Nat) : Cmd where
  opc := 0x28
  kinds := (· == .axis)
  allow := fun s _ _ _ => if !s.flag p Ax.FB_CFG_ENA ∨ s.fbHeld p then RC.state else 0
  act := fun s _ _ _ => (s.fbProbe p, RC.accepted)

/-- The raw value of a serial word (R355): Gray decoding, then two's complement where SIGNED is 1, negated by DIR_INV. -/
def grayValue : Nat → Nat → Nat
  | 0, v => v
  | n + 1, v => v ^^^ grayValue n (v / 2)
def State.serialRaw (s : State) (p word : Nat) : Nat :=
  let n := s.fld p Ax.SER_FMT_ST_BITS + s.fld p Ax.SER_FMT_MT_BITS
  let v := word / 2 ^ s.fld p Ax.SER_FMT_PAD_BITS % 2 ^ n
  if s.flag p Ax.SER_CFG_GRAY then grayValue n v else v
def State.serialBits (s : State) (p : Nat) : Nat := s.fld p Ax.SER_FMT_ST_BITS + s.fld p Ax.SER_FMT_MT_BITS
def State.turned (s : State) (p : Nat) (v : Int) : Int := if s.flag p Ax.FB_CFG_DIR_INV then -v else v
def State.serialCount (s : State) (p raw : Nat) : Int :=
  s.turned p (if s.flag p Ax.SER_CFG_SIGNED then signedOf (s.serialBits p) raw else raw)

/-- SER_RAW of the last good word (R369). -/
def State.showRaw (s : State) (p raw : Nat) : State :=
  (s.setReg p Ax.SER_RAW_LO.off (lowWord raw)).setFld p Ax.SER_RAW_HI (raw / 2 ^ 32)

/-- The type found by a probe (R351): the first test passed, in the order of the table. -/
def foundType (r : ProbeFound) : Nat :=
  if r.biss.isSome then 4 else if r.ssi then 3 else if r.inc then 1 else if r.hall.isSome then 2 else 0

/-- ST_BITS set to a data length found, as a clamp of requester 0 (R351). -/
def State.adoptLength (s : State) (p : Nat) (r : ProbeFound) : State :=
  match r.biss with
  | some n =>
    if s.serialBits p + s.fld p Ax.SER_FMT_PAD_BITS = n then s
    else
      let old := s.fld p Ax.SER_FMT_ST_BITS
      let new := min n 32
      let s := s.setFld p Ax.SER_FMT_ST_BITS new
      (s.reportClamp 0 p Ax.SER_FMT_ST_BITS.off Ax.SER_FMT_ST_BITS.lo old new).raise p 13
  | none => s

/-- The check of a serial port's timing (R362): FRAME, line delay and GAP_US against the current-loop period less 1 µs. -/
def State.checkTiming (s : State) (p : Nat) : State :=
  let used := s.fld p Ax.SER_TIMING_FRAME_10NS * 10 + s.fld p Ax.SER_CFG_GAP_US * 1000
  if s.serial p ∧ s.loopPeriod p 0 < used + 1000 then s.fbFault p 8 else s

/-- Entry to RUN at a decision (R352, R355, R356). -/
def State.arrive (s : State) (p : Nat) (r : ProbeFound) : State :=
  let ser := s.serial p
  let raw := s.serialRaw p r.word
  let s := s.setFbState p 3
  let s := s.modFb p fun f => { f with
    count := if ser then s.serialCount p raw else 0, shift := 0, base := 0, a := r.a, b := r.b,
    hall := r.hall.getD 0, raw := if ser then some raw else none, edge1 := none, edge2 := none, edges := 0,
    moved := s.now, bad := 0, good := 0, quad := [], goodAt := s.now, lastTick := s.now, filt := 0 }
  let s := (s.setFld p Ax.FB_STATUS_COMM_VALID (bool01 ser)).setFld p Ax.INDEX_COUNT 0
  let s := (s.setFld p Ax.FB_STATUS_HALL_FAULT 0).setFld p Ax.FB_STATUS_WARN 0
  let s := if ser then (s.showRaw p raw).setFld p Ax.MOT_STATUS_REF_VALID 1 else s
  let s := (s.bump p Ax.ATTACH_ARRIVALS).reref p
  let s := s.fbChange p 1 0
  let s := s.showPosition p
  let s := s.modFb p fun f => { f with lastP := s.shown64 p }
  s.checkTiming p

/-- PROBE_DECISION (R351, R352): 60 ms into a probe. -/
def State.probeDecision (s : State) (p : Nat) (r : ProbeFound) : State :=
  if s.fbState p ≠ 1 ∨ s.now < (s.axis p).fb.since + 60000000 then s
  else
    let d := foundType r
    let s := (s.setFld p Ax.FB_STATUS_DETECTED d).fbUnref p
    let s := s.setFld p Ax.FB_STATUS_HALL_PRESENT (bool01 (d == 1 && r.hall.isSome))
    let s := s.setFld p Ax.INPUTS_HALL_RAW (r.hall.getD (s.fld p Ax.INPUTS_HALL_RAW))
    let s := if d = 4 then s.adoptLength p r else s
    let s := if d = 3 ∨ d = 4 then
        (s.setFld p Ax.SER_TIMING_FRAME_10NS (saturate 16 r.frame)).setFld p Ax.SER_TIMING_LINE_DELAY_NS (saturate 16 r.delay)
      else s
    let ty := s.fld p Ax.FB_CFG_TYPE
    let s := if d ≠ 0 ∧ (ty = 0 ∨ ty = d) then s.arrive p r else s.setFbState p 2
    s.completeAll (fun o => o.page == p && o.opc == 0x28) RC.done

def execFbProbe (t : Nat) (q : Req) (s : State) : Host.Outcome State Fault Refusal :=
  .next ((s.start t).command q (cmdFbProbe q.page))

def execProbeDecision (t : Nat) (a : Fin 32) (r : ProbeFound) (s : State) : Host.Outcome State Fault Refusal :=
  .next ((s.start t).probeDecision (axisPage a.val) r)

/-- PROBE_RETRY (R352): after 1 s in NO_SENSOR. -/
def execProbeRetry (t : Nat) (a : Fin 32) (s : State) : Host.Outcome State Fault Refusal :=
  let s := s.start t
  let p := axisPage a.val
  .next (if s.fbState p = 2 ∧ s.flag p Ax.FB_CFG_ENA ∧ (s.axis p).fb.since + 1000000000 ≤ s.now then s.fbProbe p else s)

/-- SENSOR_DEPARTED (R352): after 1 s in FAULT with cause LINE, HALL, TIMEOUT or SUPPLY. -/
def execSensorDeparted (t : Nat) (a : Fin 32) (s : State) : Host.Outcome State Fault Refusal :=
  let s := s.start t
  let p := axisPage a.val
  let c := s.fld p Ax.FB_STATUS_CAUSE
  .next (if s.fbState p = 4 ∧ (c = 1 ∨ c = 3 ∨ c = 4 ∨ c = 9) ∧ (s.axis p).fb.since + 1000000000 ≤ s.now then
      ((s.setFbState p 2).bump p Ax.ATTACH_DEPARTURES).fbChange p 2 0
    else s)

/-- The bits of a number, most significant first. -/
def bitsMsb (n v : Nat) : List Bool := (List.range n).map fun i => bitAt v (n - 1 - i)

/-- CRC-6 of R359: polynomial 0x43, start value 0. -/
def crc6 (bs : List Bool) : Nat :=
  bs.foldl (fun c b => if (bitAt c 5) != b then (c * 2 % 64) ^^^ 3 else c * 2 % 64) 0

/-- Whether the check of a frame passes (R359, R360): CRC-6 transmitted inverted, or even parity. -/
def State.frameChecks (s : State) (p : Nat) (w : SerialWord) : Bool :=
  let n := s.serialBits p + s.fld p Ax.SER_FMT_PAD_BITS
  let data := bitsMsb n w.word
  if s.fld p Ax.FB_STATUS_DETECTED = 4 then (63 - crc6 (data ++ [w.err, w.warn])) == w.check % 64
  else
    let bs := data ++ (if s.flag p Ax.SER_CFG_ERR_BIT then [w.err] else [])
    match s.fld p Ax.SER_CFG_CHECK with
    | 0 => true
    | 1 => bs.foldl (fun c b => c != b) (bitAt w.check 0) == false
    | _ => (63 - crc6 bs) == w.check % 64

/-- Whether the error bit of a frame reports an error (R360): nE is active low, the SSI bit as ERR_LOW says. -/
def State.frameError (s : State) (p : Nat) (w : SerialWord) : Bool :=
  if s.fld p Ax.FB_STATUS_DETECTED = 4 then !w.err
  else s.flag p Ax.SER_CFG_ERR_BIT && (w.err != s.flag p Ax.SER_CFG_ERR_LOW)

/-- A frame that is not good (R360, R361), with its cause. -/
def State.badFrame (s : State) (p cause : Nat) : State :=
  let s := s.bump p (if cause = 4 then Ax.SER_TIMEOUTS else if cause = 5 then Ax.SER_CRC_ERRORS else Ax.SER_ERRBITS)
  let s := s.modFb p fun f => { f with bad := f.bad + 1, good := 0 }
  if s.fbState p = 3 ∧ s.fld p Ax.SER_ERR_CFG_FAULT_N ≤ (s.axis p).fb.bad then s.fbFault p cause else s

/-- nW of a good BiSS-C frame, active low (R360). -/
def State.frameWarn (s : State) (p : Nat) (w : SerialWord) : State :=
  if s.fld p Ax.FB_STATUS_DETECTED ≠ 4 then s
  else
    let was := s.flag p Ax.FB_STATUS_WARN
    let s := s.setFld p Ax.FB_STATUS_WARN (bool01 !w.warn)
    if !w.warn && !was then s.fbChange p 6 0 else s

/-- The count advanced by the step from the previous raw value (R355). -/
def State.stepCount (s : State) (p raw : Nat) : State :=
  let f := (s.axis p).fb
  let n := s.serialBits p
  let old := f.raw.getD raw
  let d := s.turned p (signedOf n ((raw + 2 ^ n - old % 2 ^ n) % 2 ^ n))
  s.modFb p fun f => { f with count := f.count + d, raw := some raw, moved := if d = 0 then f.moved else s.now }

/-- A good frame (R355, R360, R361). -/
def State.goodFrame (s : State) (p : Nat) (w : SerialWord) : State :=
  let raw := s.serialRaw p w.word
  let s := ((s.frameWarn p w).showRaw p raw).modFb p fun f => { f with bad := 0, good := f.good + 1, goodAt := s.now }
  let c := s.fld p Ax.FB_STATUS_CAUSE
  if s.fbState p = 4 ∧ 4 ≤ c ∧ c ≤ 6 then
    let s := s.modFb p fun f => { f with raw := some raw }
    if s.fld p Ax.SER_ERR_CFG_RECOVER_N ≤ (s.axis p).fb.good then
      let s := (s.modFb p fun f => { f with count := s.serialCount p raw }).fbRecover p
      ((s.setFld p Ax.MOT_STATUS_REF_VALID 1).reref p).showPosition p
    else s
  else (s.stepCount p raw).showPosition p

/-- SERIAL_FRAME (R359-R361): the frame that was started ends. -/
def State.serialFrame (s : State) (p : Nat) (w : SerialWord) : State :=
  let f := (s.axis p).fb
  if !s.serial p ∨ f.framing = none ∨ (s.fbState p ≠ 3 ∧ s.fbState p ≠ 4) then s
  else
    let s := s.modFb p fun f => { f with framing := none }
    if !w.complete then s.badFrame p 4
    else if !s.frameChecks p w then s.badFrame p 5
    else if s.frameError p w then s.badFrame p 6
    else s.goodFrame p w

def execSerialFrame (t : Nat) (a : Fin 32) (w : SerialWord) (s : State) : Host.Outcome State Fault Refusal :=
  .next ((s.start t).serialFrame (axisPage a.val) w)

/-- SERIAL_FRAME_START (R359). -/
def execSerialFrameStart (t : Nat) (a : Fin 32) (s : State) : Host.Outcome State Fault Refusal :=
  let s := s.start t
  let p := axisPage a.val
  .next (if s.serial p ∧ (s.fbState p = 3 ∨ s.fbState p = 4) then s.modFb p fun f => { f with framing := some s.now } else s)

/-- Whether a port counts: in RUN, and in FAULT, where counts stand (R366). -/
def State.fbCounts (s : State) (p : Nat) : Bool := s.fbState p == 3 || s.fbState p == 4

/-- One counted edge (R353-R355). -/
def State.countEdge (s : State) (p : Nat) (d : Int) : State :=
  let d := s.turned p d
  let s := s.modFb p fun f => { f with count := f.count + d, edge1 := f.edge2, edge2 := some (s.now, d), edges := f.edges + 1,
                                       moved := s.now }
  s.showPosition p

/-- QUAD_EDGE (R353): accepted levels; a change of A counts up when A leads B. -/
def State.quadEdge (s : State) (p : Nat) (a b : Bool) : State :=
  let f := (s.axis p).fb
  if s.fld p Ax.FB_STATUS_DETECTED ≠ 1 ∨ !s.fbCounts p then s
  else
    let s := s.modFb p fun f => { f with a := a, b := b }
    if a ≠ f.a ∧ b ≠ f.b then
      let recent := (f.quad.filter fun x => decide (s.now < x + 10000000)) ++ [s.now]
      let s := (s.bump p Ax.QUAD_ERRORS).modFb p fun f => { f with quad := recent, seen := s.now }
      if s.fld p Ax.INC_CFG_QERR_MAX ≤ recent.length then s.fbFault p 2 else s
    else if a ≠ f.a then s.countEdge p (if a ≠ b then 1 else -1)
    else if b ≠ f.b then s.countEdge p (if a = b then 1 else -1)
    else s

def execQuadEdge (t : Nat) (a : Fin 32) (la lb : Bool) (s : State) : Host.Outcome State Fault Refusal :=
  .next ((s.start t).quadEdge (axisPage a.val) la lb)

/-- The sector of a Hall code in the order of HALL_TABLE (R354). -/
def State.hallSector (s : State) (p code : Nat) : Option Nat :=
  if code = 0 ∨ code = 7 then none
  else (List.range 6).find? fun k => s.fld p Ax.HALL_TABLE / 2 ^ (3 * k) % 8 == code

/-- A Hall error (R354, R366). -/
def State.hallError (s : State) (p : Nat) : State :=
  let s := (s.bump p Ax.HALL_ERRORS).modFb p fun f => { f with hallErr := s.now, seen := s.now }
  if s.fld p Ax.FB_STATUS_DETECTED = 2 then s.fbFault p 3
  else s.setFld p Ax.FB_STATUS_HALL_FAULT 1

/-- HALL_CODE (R354): a code accepted; an adjacent sector counts on a Hall port. -/
def State.hallCode (s : State) (p code : Nat) : State :=
  let d := s.fld p Ax.FB_STATUS_DETECTED
  let s := s.setFld p Ax.INPUTS_HALL_RAW code
  if !s.fbCounts p ∨ !(d == 2 || d == 1 && s.flag p Ax.FB_STATUS_HALL_PRESENT) then s
  else
    let old := (s.axis p).fb.hall
    let s := s.modFb p fun f => { f with hall := code }
    match s.hallSector p old, s.hallSector p code with
    | _, none => s.hallError p
    | none, some _ => s
    | some i, some j =>
      if i = j then s
      else if j = (i + 1) % 6 then (if d = 2 then s.countEdge p 1 else s)
      else if i = (j + 1) % 6 then (if d = 2 then s.countEdge p (-1) else s)
      else s.hallError p

def execHallCode (t : Nat) (a : Fin 32) (code : Fin 8) (s : State) : Host.Outcome State Fault Refusal :=
  .next ((s.start t).hallCode (axisPage a.val) code.val)

/-- INDEX_PULSE (R356, R357, R307): a qualified rising edge of Z. -/
def State.indexPulse (s : State) (p : Nat) : State :=
  let f := (s.axis p).fb
  if s.fld p Ax.FB_STATUS_DETECTED ≠ 1 ∨ !s.fbCounts p ∨ (s.flag p Ax.INC_CFG_INDEX_GATE ∧ !(f.a && f.b)) then s
  else
    let s := (s.setSfld p Ax.INDEX_POS (s.position p)).bump p Ax.INDEX_COUNT
    let s := if s.flag p Ax.FB_STATUS_COMM_VALID then s
      else (((s.modFb p fun f => { f with base := f.count }).setFld p Ax.FB_STATUS_COMM_VALID 1).showPosition p)
    let m := s.fld p Ax.HOME_CFG_METHOD
    if s.mstate p = 11 ∧ (m = 5 ∨ m = 6) ∧ s.fld p Ax.HOME_STATUS_PHASE = 2 then
      (s.takeCapture p (s.position p) none).settle (busOf p)
    else s

def execIndexPulse (t : Nat) (a : Fin 32) (s : State) : Host.Outcome State Fault Refusal :=
  .next ((s.start t).indexPulse (axisPage a.val))

/-- LINE_FAULT (R350, R356, R366). -/
def execLineFault (t : Nat) (a : Fin 32) (s : State) : Host.Outcome State Fault Refusal :=
  let s := s.start t
  let p := axisPage a.val
  .next (if s.fld p Ax.FB_STATUS_DETECTED = 1 ∧ s.fbCounts p then
      ((((s.setFld p Ax.FB_STATUS_COMM_VALID 0).showPosition p).fbFault p 1).modFb p fun f => { f with seen := s.now })
    else s)

/-- FB_FAULT_RECOVER (R366): 100 ms without the condition of cause LINE, QUAD or HALL. -/
def execFbFaultRecover (t : Nat) (a : Fin 32) (s : State) : Host.Outcome State Fault Refusal :=
  let s := s.start t
  let p := axisPage a.val
  let c := s.fld p Ax.FB_STATUS_CAUSE
  .next (if s.fbState p = 4 ∧ 1 ≤ c ∧ c ≤ 3 ∧ (s.axis p).fb.seen + 100000000 ≤ s.now then s.fbRecover p else s)

/-- SENSOR_SUPPLY_TRIP (R350, R366): the supply is off until a probe. -/
def execSensorSupplyTrip (t : Nat) (a : Fin 32) (s : State) : Host.Outcome State Fault Refusal :=
  let s := s.start t
  let p := axisPage a.val
  .next (if (s.axis p).fb.supply = 0 then s else (s.modFb p fun f => { f with supply := 0 }).fbFault p 9)

/-- A port after a write of its configuration (R369, R371): `old` is the word before. -/
def State.fbConfigured (s : State) (p off : Nat) (old : Word) : State :=
  if s.reg p off = old then s
  else if off = Ax.FB_OFFSET.off then
    if s.serial p then (s.reref p).showPosition p else s
  else if Ax.FB_OFFSET.off < off then s
  else if !s.flag p Ax.FB_CFG_ENA then (if s.fbState p = 0 then s else s.fbOff p)
  else s.fbProbe p

/-- FB_CONFIG_WRITE (R369): register 0x300 + 4 × `reg`. -/
def execFbConfigWrite (t code gen : Nat) (a : Fin 32) (reg : Fin 7) (value : Word) (s : State) : Host.Outcome State Fault Refusal :=
  let s := s.start t
  let p := axisPage a.val
  let off := 0x300 + 4 * reg.val
  let old := s.reg p off
  .next (s.writeWith ⟨code, gen, p, off, value⟩ (fun s => !s.fbHeld p) fun s => (s.store code p off value).fbConfigured p off old)

/-- FB_COUNTERS_CLEAR (R370). -/
def cmdFbClear (p : Nat) : Cmd where
  opc := 0x29
  kinds := (· == .axis)
  act := fun s _ _ _ =>
    (s.each [Ax.QUAD_ERRORS.off, Ax.HALL_ERRORS.off, Ax.SER_CRC_ERRORS.off, Ax.SER_TIMEOUTS.off, Ax.SER_ERRBITS.off,
      Ax.ATTACH_ARRIVALS.off] fun s o => s.setReg p o 0, RC.done)

def execFbCountersClear (t : Nat) (q : Req) (s : State) : Host.Outcome State Fault Refusal :=
  .next ((s.start t).command q (cmdFbClear q.page))

/-- HALL_FAULT_CLEAR (R354): 100 ms without a Hall error. -/
def execHallFaultClear (t : Nat) (a : Fin 32) (s : State) : Host.Outcome State Fault Refusal :=
  let s := s.start t
  let p := axisPage a.val
  .next (if s.flag p Ax.FB_STATUS_HALL_FAULT ∧ (s.axis p).fb.hallErr + 100000000 ≤ s.now then
      s.setFld p Ax.FB_STATUS_HALL_FAULT 0
    else s)

end Sys2Proof.Machine
end

