-- ==== Sys2Proof/Machine/MemTest.lean ====
section
/-! DEFINITION. The background memory test (R536, R538) and the fatal errors of a lane that memory shows (R528, R529). -/

namespace Sys2Proof.Machine

/-- A segment marked bad (R538, R541, R543). -/
def State.markBad (s : State) (l : Lane) (seg : Nat) : State :=
  let p := memPage l
  let m := setBit (s.fld p Mm.SEG_BAD) seg true
  let s := (s.setFld p Mm.SEG_BAD m).level p 4 true m
  if s.pstate p = 1 then s.setPstate p 2 else s

/-- A compare of the test failed at an SRAM address (R538). -/
def State.testDefect (s : State) (l : Lane) (addr : Nat) (uncorr : Bool) : State :=
  let p := memPage l
  let w := bool01 uncorr * 2 ^ 31 + addr % 2 ^ 24
  let s := s.setReg p Mm.BT_LAST_DEFECT_UNCORR.off (BitVec.ofNat 32 w)
  if !uncorr then s.bump p Mm.BT_DEFECTS_CORR
  else
    let seg := addr / 0x100000
    let s := ((s.bump p Mm.BT_DEFECTS_UNCORR).raise p 3 w).markBad l seg
    let used := match (s.cle l).image with
      | some i => i.usesSram addr
      | none => false
    if used then s.cleFault l Cause.memory 0xFF 0
    else if 12 ≤ seg then s.laneFatal l 19 else s

/-- The next block to test from a block on, past retained segments, and how many blocks that skips (R536). -/
def skipRetained (ret : Nat) : Nat → Nat → Nat × Nat
  | 0, b => (b, 0)
  | n + 1, b =>
    if b < 262144 ∧ bitAt ret (b / 16384) then
      let next := (b / 16384 + 1) * 16384
      let r := skipRetained ret n next
      (r.1, r.2 + (next - b))
    else (b, 0)

/-- The block tested has been the last of its pass (R536, R543): its duration to the nearest ms, as the worked example of
chapter 19 rounds it. -/
def State.passDone (s : State) (l : Lane) : State :=
  let p := memPage l
  let m := s.mem l
  let ms := (s.now - m.passAt + 500000) / 1000000
  let s := ((s.bump p Mm.BT_PASSES).setFld p Mm.BT_PASS_MS (saturate 32 ms)).setFld p Mm.BT_SKIPPED (saturate 18 m.skipped)
  ((s.setFld p Mm.BT_POS 0).setMem l { m with passAt := s.now, skipped := 0 }).raise p 5 (saturate 32 ms)

/-- BT_BLOCK (R536): INTERVAL_US after the last, the next block is tested; `defect` is the bank whose compare failed and
whether the check bits could not correct it, `yields` the clocks a processor took. -/
def execBtBlock (t : Nat) (l : Lane) (defect : Option (Fin 16 × Bool)) (yields : Nat) (s : State) :
    Host.Outcome State Fault Refusal :=
  let s := s.start t
  let p := memPage l
  let m := s.mem l
  .next <|
    if s.laneState l < 2 ∨ !s.flag p Mm.BT_CFG_ENA ∨ s.now < m.btAt + s.fld p Mm.BT_CFG_INTERVAL_US * 1000 then s
    else
      let r := skipRetained (s.fld p Mm.SEG_RET) 16 (s.fld p Mm.BT_POS)
      let s := (s.setMem l { m with btAt := s.now, skipped := m.skipped + r.2 }).bump p Mm.BT_YIELDS 0 0 yields
      let s := if r.1 + 1 ≥ 262144 then s.passDone l else s.setFld p Mm.BT_POS (r.1 + 1)
      match defect with
      | some (k, u) => s.testDefect l (r.1 * 64 + 4 * k.val) u
      | none => s

/-- LANE_FATAL (R109, R528, R529): a fatal error of the lane, 16 firmware, 17 WR_COLLIDE on port 1, 18 a double-bit error
on port 1, 19 an SRAM defect; `addr` is the SRAM address where memory shows it. -/
def execLaneFatal (t : Nat) (l : Lane) (code : Fin 4) (addr : Nat) (s : State) : Host.Outcome State Fault Refusal :=
  let s := s.start t
  let runs := (s.lane l).phase == .running || (s.lane l).phase == .booting
  let s := if !runs then s
    else if code.val = 1 then s.collision l 0 1 addr
    else if code.val = 2 then s.eccUncorrected l 1 addr
    else s
  .next (s.laneFatal l (16 + code.val))

/-- A clock of a bank that more than one port requested (R526, R527, R528): of several writes to one word the lowest port's stands and
each other is reported, which is fatal for port 1 below segment 12. -/
def State.bankClock (s : State) (l : Lane) (x : BankClock) : State :=
  match x.same, x.ports with
  | some a, w :: rest =>
    let s := rest.foldl (fun s p => s.collision l w p a) s
    if rest.contains 1 ∧ a < 0xC00000 then s.laneFatal l 17 else s
  | _, _ => s.bankClash l x

/-- The CLE data address of an SRAM byte address of segments 0 to 11 (R524), as the words with errors are kept. -/
def cleAddr (a : Nat) : Nat := if a < 0x400000 then 0x10000000 + a else a - 0x400000

/-- A read of port 1, 2 or 3 that met an error (R529): a single-bit error is corrected in the word; of a double-bit error port 1 makes
a fatal error, and the transfer of port 2 that copies a retained word ends in error, so that its snapshot stays invalid
(DEDUCED, log entry 131). -/
def State.portRead (s : State) (l : Lane) (r : PortRead) : State :=
  if !r.double then
    (s.setCle l { s.cle l with upset := (s.cle l).upset.filter fun u => u.1 != cleAddr r.addr }).eccCorrected l
  else
    let s := s.eccUncorrected l r.port.val r.addr
    let c := s.cle l
    if r.port.val = 1 then s.laneFatal l 18
    else if r.port.val = 2 ∧ 0x400000 ≤ r.addr ∧ c.img.retain.holds (r.addr - 0x400000) 1 then s.setCle l { c with commit := none }
    else s

/-- An error read in the secure region of a lane (R534, R544): corrected and counted, or the region is wiped with cause 4. -/
def State.secureError (s : State) (l : Lane) (double : Bool) : State :=
  if !s.secPowered l then s
  else if double then s.wipe (l == .a) (l == .b) 4 2
  else s.bump 0x66 (match l with | .a => Sr.SEC_ECC_A | .b => Sr.SEC_ECC_B)

/-- What has happened in the memories of a lane since its last boundary (R526-R529, R532, R534). -/
def State.memSenses (s : State) (l : Lane) (x : LaneSense) : State :=
  let c := s.cle l
  let c := { c with upset := (c.upset.filter fun u => !x.upsets.any fun v => v.1 == u.1) ++ x.upsets }
  let s := s.setCle l (x.mram.foldl CleRec.upsetMram c)
  let s := x.clocks.foldl (fun s y => s.bankClock l y) s
  let s := x.secure.foldl (fun s d => s.secureError l d) s
  x.reads.foldl (fun s r => s.portRead l r) s

end Sys2Proof.Machine
end

