-- ==== Sys2Proof/Machine/Presence.lean ====
section
/-! DEFINITION. Sensitive edges (R385, R386, R399) and coded infrared beams (R387-R393, R396-R398). -/

namespace Sys2Proof.Machine

/-- The axes that a binding word names. -/
def boundAxes (w : Word) : List Nat :=
  (if bitsOf w 15 15 = 1 then [bitsOf w 12 8] else []) ++ (if bitsOf w 31 31 = 1 then [bitsOf w 28 24] else [])

/-- An edge and a beam beside their registers. -/
def State.edge (s : State) (k : Nat) : EdgeRec := s.edges.rd {} k
def State.setEdgeRec (s : State) (k : Nat) (e : EdgeRec) : State := { s with edges := s.edges.wr {} k e }
def State.beam (s : State) (k : Nat) : BeamRec := s.beams.rd {} k
def State.setBeamRec (s : State) (k : Nat) (b : BeamRec) : State := { s with beams := s.beams.wr {} k b }

/-- The axes bound to an edge see its CLEAR lines. -/
def State.edgeLines (s : State) (k : Nat) : State :=
  s.each (boundAxes (s.reg (edgePage k) (Eg.EDGE_BIND_ENA_A.pos (k % 16)))) fun s a => s.showPresence (axisPage a)

/-- EG_SUMMARY and the level events of an edge page (R399). -/
def State.edgeLevels (s : State) (k : Nat) : State :=
  let p := edgePage k
  let st (i : Nat) : Nat := s.fld p Eg.EDGE_STATUS_STATE i
  let f := maskOf 16 fun i => st i == 3
  let a := maskOf 16 fun i => st i == 2
  let s := (s.setFld p Eg.EG_SUMMARY_FAULT f).setFld p Eg.EG_SUMMARY_ACTIVE a
  (s.level p 1 (f != 0) k).level p 2 (a != 0) k

/-- An edge enters a state (R386, R399). -/
def State.setEdge (s : State) (k new cause : Nat) : State :=
  let p := edgePage k
  let i := k % 16
  let old := s.fld p Eg.EDGE_STATUS_STATE i
  if old = new then s
  else
    let s := if old = 2 then s.setFld p Eg.ACT_MS_LAST (saturate 32 ((s.now - (s.edge k).activeAt) / 1000000)) i else s
    let s := s.setFld p Eg.EDGE_STATUS_STATE new i
    let s := if new = 2 then (s.bump p Eg.ACT_COUNT i).setEdgeRec k { s.edge k with activeAt := s.now } else s
    let s := if new = 3 then (s.bump p Eg.FAULT_COUNT i).setFld p Eg.EDGE_STATUS_CAUSE cause i else s
    ((s.raise p 0 (k * 2 ^ 16 + old * 2 ^ 8 + new)).edgeLevels k).edgeLines k

/-- The band of a loop resistance in 10 Ω (R385): 0 ACTIVE, 1 IDLE, 2 HIGH, 3 OPEN. -/
def edgeBand (r : Nat) : Nat := if r < 600 then 0 else if r < 1050 then 1 else if r ≤ 5000 then 2 else 3

/-- EDGE_MEASURE (R385): the loop resistance of an edge in 10 Ω. -/
def State.edgeMeasure (s : State) (k r : Nat) : State :=
  let p := edgePage k
  let e := s.edge k
  let b := edgeBand r
  let s := s.setFld p Eg.EDGE_R (saturate 16 r) (k % 16)
  s.setEdgeRec k { e with
    band := b
    since := if b = e.band then e.since else s.now
    badSince := if b < 2 then none else some (e.badSince.getD s.now)
    lastActive := if b = 0 then s.now else e.lastActive }

/-- Whether an edge is enabled and its stage runs. -/
def State.edgeOn (s : State) (k : Nat) : Bool :=
  s.pstate (edgePage k) == 1 && s.flag (edgePage k) Eg.EDGE_CFG_ENA (k % 16)

/-- An edge's state and the time its band has lasted in ns. -/
def State.edgeState (s : State) (k : Nat) : Nat := s.fld (edgePage k) Eg.EDGE_STATUS_STATE (k % 16)
def State.bandTime (s : State) (k : Nat) : Nat := s.now - (s.edge k).since

/-- FILT_US of an edge in ns. -/
def State.edgeFilt (s : State) (k : Nat) : Nat := s.fld (edgePage k) Eg.EDGE_CFG_FILT_US (k % 16) * 1000

/-- EDGE_ACTIVE (R386): from IDLE, or from OFF after ENA. -/
def State.edgeActive (s : State) (k : Nat) : State :=
  let st := s.edgeState k
  if s.edgeOn k ∧ (st = 0 ∨ st = 1) ∧ (s.edge k).band = 0 ∧ s.edgeFilt k ≤ s.bandTime k then s.setEdge k 2 0 else s

/-- EDGE_RELEASE (R386): ACTIVE to IDLE, or OFF to IDLE after ENA. -/
def State.edgeRelease (s : State) (k : Nat) : State :=
  let p := edgePage k
  let i := k % 16
  let st := s.edgeState k
  if !s.edgeOn k ∨ (s.edge k).band ≠ 1 then s
  else if st = 0 then (if s.edgeFilt k ≤ s.bandTime k then s.setEdge k 1 0 else s)
  else if st = 2 then
    let due := if s.fld p Eg.EDGE_CFG_TYPE i = 2 then
        decide (s.fld p Eg.EDGE_TIMING_PW_HOLD_MS i * 1000000 ≤ s.now - (s.edge k).lastActive)
      else decide (s.fld p Eg.EDGE_TIMING_RELEASE_MS i * 1000000 ≤ s.bandTime k)
    if due then s.setEdge k 1 0 else s
  else s

/-- EDGE_FAULT (R386): HIGH or OPEN for 10 ms. -/
def State.edgeFault (s : State) (k : Nat) : State :=
  match (s.edge k).badSince with
  | some x =>
    if s.edgeOn k ∧ s.edgeState k ≠ 3 ∧ x + 10000000 ≤ s.now then s.setEdge k 3 ((s.edge k).band - 1) else s
  | none => s

/-- EDGE_FAULT_RECOVER (R386). -/
def State.edgeRecover (s : State) (k : Nat) : State :=
  if s.edgeState k = 3 ∧ (s.edge k).band = 1 ∧ 100000000 ≤ s.bandTime k then s.setEdge k 1 0 else s

/-- An edge after a write of its EDGE_CFG (R386): ENA 1 starts its qualification, ENA 0 turns it off. -/
def State.edgeConfigured (s : State) (k : Nat) (was : Bool) : State :=
  let on := s.flag (edgePage k) Eg.EDGE_CFG_ENA (k % 16)
  if on && !was then
    s.setEdgeRec k { s.edge k with since := s.now, badSince := (s.edge k).badSince.map fun _ => s.now }
  else if !on then s.setEdge k 0 0
  else s

/-- COUNTERS_CLEAR of an edge page (R399). -/
def cmdEdgeClear (p : Nat) : Cmd where
  opc := 0x01
  kinds := (· == .edgeGroup)
  act := fun s _ _ _ =>
    (s.each (List.range 16) fun s i => (s.setFld p Eg.ACT_COUNT 0 i).setFld p Eg.FAULT_COUNT 0 i, RC.done)

def execEdgeMeasure (t : Nat) (k : Fin 32) (r : Nat) (s : State) : Host.Outcome State Fault Refusal :=
  .next ((s.start t).edgeMeasure k r)
def execEdgeActive (t : Nat) (k : Fin 32) (s : State) : Host.Outcome State Fault Refusal :=
  .next ((s.start t).edgeActive k)
def execEdgeRelease (t : Nat) (k : Fin 32) (s : State) : Host.Outcome State Fault Refusal :=
  .next ((s.start t).edgeRelease k)
def execEdgeFault (t : Nat) (k : Fin 32) (s : State) : Host.Outcome State Fault Refusal :=
  .next ((s.start t).edgeFault k)
def execEdgeFaultRecover (t : Nat) (k : Fin 32) (s : State) : Host.Outcome State Fault Refusal :=
  .next ((s.start t).edgeRecover k)

/-- EDGE_CONFIG_WRITE (R386, R399). -/
def execEdgeConfigWrite (t code gen : Nat) (k : Fin 32) (value : Word) (s : State) : Host.Outcome State Fault Refusal :=
  let s := s.start t
  let was := s.flag (edgePage k.val) Eg.EDGE_CFG_ENA (k.val % 16)
  .next (s.write ⟨code, gen, edgePage k.val, Eg.EDGE_CFG_ENA.pos (k.val % 16), value⟩ fun s => s.edgeConfigured k.val was)

def execEdgeCountersClear (t : Nat) (q : Req) (s : State) : Host.Outcome State Fault Refusal :=
  .next ((s.start t).command q (cmdEdgeClear q.page))

/-- Bit `n` of a sequence of five first ones whose later bits are the exclusive or of bits at the given taps (R387). -/
def goldBits (taps : List Nat) : Nat → List Bool → List Bool
  | 0, acc => acc
  | n + 1, acc => goldBits taps n (acc ++ [taps.foldl (fun b k => b != (acc.getD (acc.length - 5 + k) false)) false])

/-- The sequences u and v of R387. -/
def goldU : List Bool := goldBits [2, 0] 26 [true, true, true, true, true]
def goldV : List Bool := goldBits [4, 3, 2, 0] 26 [true, true, true, true, true]

/-- Chip `n` of code `c` (R387). -/
def goldChip (c n : Nat) : Bool :=
  let u := goldU.getD n false
  if c = 0 then u
  else if c = 1 then goldV.getD n false
  else u != goldV.getD ((n + c - 2) % 31) false

/-- The correlation C of a frame (R389): a chip received is one whose sample exceeds RX_THR_NA. -/
def correlation (code thr : Nat) (chips : List Nat) : Int :=
  (List.range 31).foldl (fun c n =>
    if goldChip code n == decide (thr < chips.getD n 0) then c + 1 else c - 1) 0

/-- The outcome of a frame (R389): 0 MISS, 1 MATCH, 2 INDETERMINATE. -/
def State.frameOutcome (s : State) (k : Nat) (f : BeamSample) : Nat :=
  let p := beamPage k
  let i := k % 8
  if f.saturated ∨ 1000 < f.a1 ∨ 1000 < f.a2 ∨ s.fld p Bm.BEAM_RX_AMB_STEP i < distance f.a1 f.a2 then 2
  else if (s.fld p Bm.BEAM_RX_MATCH_THR i : Int) ≤ correlation (s.fld p Bm.BEAM_CFG_CODE i) (s.fld p Bm.BEAM_RX_RX_THR_NA i) f.chips then 1
  else 0

/-- The mean photocurrent over the chips that are 1 (R393). -/
def signalOf (code : Nat) (chips : List Nat) : Nat :=
  let on := (List.range 31).filter fun n => goldChip code n
  (on.map fun n => chips.getD n 0).sum / on.length

/-- The axes bound to a beam see its CLEAR lines. -/
def State.beamLines (s : State) (k : Nat) : State :=
  s.each (boundAxes (s.reg (beamPage k) (Bm.BEAM_BIND_ENA_A.pos (k % 8)))) fun s a => s.showPresence (axisPage a)

/-- A beam's state. -/
def State.beamState (s : State) (k : Nat) : Nat := s.fld (beamPage k) Bm.BEAM_STATUS_STATE (k % 8)

/-- BG_SUMMARY and the level events of a beam page (R396, R398). -/
def State.beamLevels (s : State) (k : Nat) : State :=
  let p := beamPage k
  let st (i : Nat) : Nat := s.fld p Bm.BEAM_STATUS_STATE i
  let f := maskOf 8 fun i => st i == 4
  let fl := maskOf 8 fun i => st i == 3
  let fb := maskOf 8 fun i => s.flag p Bm.BEAM_STATUS_FALLBACK i
  let s := (s.setFld p Bm.BG_SUMMARY_FAULT f).setFld p Bm.BG_SUMMARY_FLOODED fl
  let s := (s.setFld p Bm.BG_SUMMARY_FALLBACK fb).setFld p Bm.BG_SUMMARY_CLEAR (maskOf 8 fun i => st i == 1)
  ((s.level p 1 (f != 0) k).level p 2 (fl != 0) k).level p 3 (fb != 0) k

/-- A beam enters a state (R390-R393, R398). -/
def State.setBeam (s : State) (k new cause : Nat) : State :=
  let p := beamPage k
  let i := k % 8
  let old := s.beamState k
  if old = new then s
  else
    let s := s.setFld p Bm.BEAM_STATUS_STATE new i
    let s := if new = 2 then s.bump p Bm.BLOCK_COUNT i else s
    let s := if new = 4 then s.setFld p Bm.BEAM_STATUS_CAUSE cause i else s
    let s := if new = 3 then (s.setBeamRec k { s.beam k with floodAt := s.now }).setFld p Bm.FLOOD_MS 0 i
      else s.setFld p Bm.BEAM_STATUS_FALLBACK 0 i
    ((s.raise p 0 (k * 2 ^ 16 + old * 2 ^ 8 + new)).beamLevels k).beamLines k

/-- A beam started as at enable (R390): an empty history, BLOCKED; dark tests that still run go on. -/
def State.startBeam (s : State) (k : Nat) : State :=
  let s := (s.setBeamRec k { dark := (s.beam k).dark }).setFld (beamPage k) Bm.BEAM_HIST 0 (k % 8)
  s.setBeam k 2 0

/-- A beam's dark tests given up (R397). -/
def State.dropDark (s : State) (k : Nat) : State :=
  let s := s.setBeamRec k { s.beam k with dark := [] }
  s.completeAll (fun o => o.page == beamPage k && o.opc == 2 && o.chan == k % 8) RC.aborted

/-- The state that a history gives after a frame (R390). -/
def State.beamDecide (s : State) (k outcome : Nat) (prev : Nat) : State :=
  let p := beamPage k
  let i := k % 8
  if outcome = 2 then (if prev = 2 then s.setBeam k 3 0 else s)
  else
    let n := (((s.beam k).hist.take (s.fld p Bm.BEAM_CFG_M i)).filter (· == 1)).length
    s.setBeam k (if s.fld p Bm.BEAM_CFG_K i ≤ n then 1 else 2) 0

/-- The LED current of a frame (R393): three frames out of tolerance fault the beam, ten within it restart one faulted
so. In a dark test the LED is off. -/
def State.checkLed (s : State) (k led : Nat) : State :=
  let p := beamPage k
  let i := k % 8
  let b := s.beam k
  if b.dark ≠ [] then s
  else
    let ma := s.fld p Bm.BEAM_CFG_LED_MA i
    let low := decide (4 * led < 3 * ma)
    let bad := low || decide (5 * ma < 4 * led)
    let s := s.setFld p Bm.BEAM_SIGNAL_LED_MEAS (saturate 8 led) i
    let s := s.setBeamRec k { b with ledBad := if bad then b.ledBad + 1 else 0, ledGood := if bad then 0 else b.ledGood + 1 }
    if s.beamState k = 4 then
      if s.fld p Bm.BEAM_STATUS_CAUSE i ≠ 3 ∧ 10 ≤ (s.beam k).ledGood then s.startBeam k else s
    else if 3 ≤ (s.beam k).ledBad then
      (s.setBeamRec k { s.beam k with ledGood := 0 }).setBeam k 4 (if low then 1 else 2)
    else s

/-- What a frame writes to the registers of its beam (R396). -/
def State.showFrame (s : State) (k outcome : Nat) (f : BeamSample) : State :=
  let p := beamPage k
  let i := k % 8
  let code := s.fld p Bm.BEAM_CFG_CODE i
  let s := (s.setFld p Bm.BEAM_STATUS_LAST_FRAME outcome i).setFld p Bm.BEAM_RXVAL_AMBIENT (saturate 16 f.a2) i
  let s := if outcome = 2 then s.bump p Bm.INDET_COUNT i
    else s.setSfld p Bm.BEAM_RXVAL_CORR (correlation code (s.fld p Bm.BEAM_RX_RX_THR_NA i) f.chips) i
  let s := if outcome = 1 then
      (s.setFld p Bm.BEAM_SIGNAL_SIGNAL_NA (saturate 16 (signalOf code f.chips)) i).ripSignal k
        (saturate 16 (signalOf code f.chips)) (s.fld p Bm.BEAM_CFG_LED_MA i)
    else s
  s.setFld p Bm.BEAM_HIST ((s.fld p Bm.BEAM_HIST i * 2 + bool01 (outcome == 1)) % 2 ^ 16) i

/-- One frame of one beam (R388-R393, R397). -/
def State.beamFrame (s : State) (k : Nat) (f : BeamSample) : State :=
  let p := beamPage k
  if s.beamState k = 0 then s
  else
    let o := s.frameOutcome k f
    let b := s.beam k
    let prev := b.hist.headD 0
    let s := s.showFrame k o f
    let s := s.setBeamRec k { b with hist := (o :: b.hist).take 16, dark := b.dark.map fun d =>
      if d.1 = 0 then d else (d.1 - 1, d.2.1 || o == 1, d.2.2) }
    let s := if s.beamState k = 4 then s else s.beamDecide k o prev
    let s := if s.beamState k = 3 then s.setFld p Bm.FLOOD_MS (saturate 32 ((s.now - (s.beam k).floodAt) / 1000000)) (k % 8) else s
    s.checkLed k f.led

/-- BEAM_FRAME (R388): one frame of the beams of a group, in ascending channel. -/
def execBeamFrame (t : Nat) (g : Fin 4) (fs : List BeamSample) (s : State) : Host.Outcome State Fault Refusal :=
  let s := s.start t
  .next (if s.pstate (0x50 + g.val) ≠ 1 then s
    else ((List.range 8).zip fs).foldl (fun s x => s.beamFrame (8 * g.val + x.1) x.2) (s.bump (0x50 + g.val) Bm.FRAMES))

/-- BEAM_FALLBACK (R392). -/
def execBeamFallback (t : Nat) (k : Fin 32) (s : State) : Host.Outcome State Fault Refusal :=
  let s := s.start t
  let p := beamPage k.val
  let i := k.val % 8
  let due := s.beamState k == 3 && s.flag p Bm.BEAM_FLOOD_FB_ENA i && !s.flag p Bm.BEAM_STATUS_FALLBACK i
    && decide (s.fld p Bm.BEAM_FLOOD_FB_TIME i * 100000000 ≤ s.now - (s.beam k).floodAt)
  .next (if due then
      (((s.setFld p Bm.BEAM_STATUS_FALLBACK 1 i).bump p Bm.FALLBACK_COUNT i).beamLevels k).beamLines k
    else s)

/-- A beam after a write of its BEAM_CFG (R390): enabled it starts, with ENA 0 it is OFF; one that runs goes on with its new
settings. -/
def State.beamConfigured (s : State) (k : Nat) : State :=
  if !s.flag (beamPage k) Bm.BEAM_CFG_ENA (k % 8) then ((s.dropDark k).setBeamRec k {}).setBeam k 0 0
  else if s.beamState k = 0 then s.startBeam k
  else s

/-- A beam restarted by a reset of its group (R390, R396). -/
def State.beamRestart (s : State) (k : Nat) : State :=
  let s := s.setBeamRec k {}
  if s.flag (beamPage k) Bm.BEAM_CFG_ENA (k % 8) then s.startBeam k else s.setBeam k 0 0

/-- BEAM_CONFIG_WRITE (R390, R396). -/
def execBeamConfigWrite (t code gen : Nat) (k : Fin 32) (value : Word) (s : State) : Host.Outcome State Fault Refusal :=
  .next ((s.start t).write ⟨code, gen, beamPage k.val, Bm.BEAM_CFG_ENA.pos (k.val % 8), value⟩ fun s => s.beamConfigured k.val)

/-- BEAM_DARK (R397). -/
def cmdBeamDark (p : Nat) : Cmd where
  opc := 0x02
  kinds := (· == .beamGroup)
  range := fun _ ch a _ => decide (ch < 8 ∧ 1 ≤ a ∧ a ≤ 100)
  allow := fun s q _ _ =>
    let k := 8 * (p - 0x50) + q.chan
    let closing := (boundAxes (s.reg p (Bm.BEAM_BIND_ENA_A.pos q.chan))).any fun a => s.closing (axisPage a)
    if s.beamState k = 0 ∨ closing then RC.state else 0
  act := fun s q a _ =>
    let k := 8 * (p - 0x50) + q.chan
    (s.setBeamRec k { s.beam k with dark := (s.beam k).dark ++ [(a, false, q.code)] }, RC.accepted)

def execBeamDark (t : Nat) (q : Req) (s : State) : Host.Outcome State Fault Refusal :=
  .next ((s.start t).command q (cmdBeamDark q.page))

/-- The end of a dark test (R393, R397): passed, the beam restarts as at enable; otherwise it is in FAULT with cause 3. -/
def State.endDark (s : State) (k : Nat) (seen : Bool) (code : Nat) : State :=
  let s := if seen then (s.setBeam k 4 3).setFld (beamPage k) Bm.BEAM_STATUS_CAUSE 3 (k % 8) else s.startBeam k
  s.completeAll (fun o => o.page == beamPage k && o.opc == 2 && o.chan == k % 8 && o.code == code)
    (if seen then RC.aborted else RC.done)

/-- BEAM_DARK_DONE (R397): all frames of a test have run. -/
def execBeamDarkDone (t : Nat) (k : Fin 32) (s : State) : Host.Outcome State Fault Refusal :=
  let s := s.start t
  let ended := (s.beam k).dark.filter fun d => d.1 == 0
  let s := s.setBeamRec k { s.beam k with dark := (s.beam k).dark.filter fun d => d.1 != 0 }
  .next (ended.foldl (fun s d => s.endDark k d.2.1 d.2.2) s)

/-- COUNTERS_CLEAR of a beam page (R397). -/
def cmdBeamClear (p : Nat) : Cmd where
  opc := 0x01
  kinds := (· == .beamGroup)
  act := fun s _ _ _ =>
    (s.each (List.range 8) fun s i =>
      ((s.setFld p Bm.BLOCK_COUNT 0 i).setFld p Bm.INDET_COUNT 0 i).setFld p Bm.FALLBACK_COUNT 0 i
     |>.setFld p Bm.FRAMES 0, RC.done)

def execBeamCountersClear (t : Nat) (q : Req) (s : State) : Host.Outcome State Fault Refusal :=
  .next ((s.start t).command q (cmdBeamClear q.page))

end Sys2Proof.Machine
end

