-- ==== Sys2Proof/Machine/CleControl.lean ====
section
/-! DEFINITION. The control instructions (R216, R217, R220): NOP to GETI, END, WAIT, POST, WAKE, SYS, calls and
branches. `f` is bits [23:0] of the instruction word; a field that the format marks 0 and that is not zero makes
the word illegal (R211). -/

namespace Sys2Proof.Machine

/-- Whether the bits of `f` outside a mask are zero (R211). -/
def onlyBits (f : Fields) (mask : Nat) : Bool := f.toNat &&& (2 ^ 24 - 1 - mask) == 0

/-- An effect allowed only when the fields marked 0 are zero (R211). -/
def whenFields (f : Fields) (mask : Nat) (e : Eff) : Eff := if onlyBits f mask then e else .fault Cause.illegal

/-- NOP (R216). -/
def execNopInstr (l : Lane) (f : Fields) (s : State) : Host.Outcome State Fault Refusal :=
  .next (s.cleStep l true 1 fun c k _ => whenFields f 0 (.ok c k))

/-- END (R177, R216, R217): the task becomes IDLE and the scan goes on; both stacks must be empty. `cycles` are the
engine cycles the task has run in this cycle. -/
def execEndTask (l : Lane) (f : Fields) (cycles : Nat) (s : State) : Host.Outcome State Fault Refusal :=
  .next (s.cleStep l true 1 fun c k t =>
    whenFields f 0 <|
      if k.bstack.isEmpty && k.calls.isEmpty && t != 16 then
        let k := { k.timed cycles with state := 1 }
        let c := { c with tasks := c.tasks.wr {} t k, scanned := t + 1 }.nextTask
        .ok c (c.tasks.rd {} t)
      else .fault Cause.illegal)

/-- The members of a WAIT's set, in the order of its extension words (R216). -/
def waitMembers (ext : List Word) (n : Nat) : List Nat :=
  (ext.foldr (fun w acc => bitsOf w 11 0 :: bitsOf w 27 16 :: acc) []).take n

/-- Whether R178 reserves an event number. -/
def reservedEvent (e : Nat) : Bool := decide ((0x811 ≤ e ∧ e ≤ 0x81F) ∨ 0x860 ≤ e)

/-- WAIT (R179, R217): with a member pending the task consumes every pending member and runs on; otherwise it
suspends and the scan goes on. -/
def execWaitInstr (l : Lane) (f : Fields) (ext : List Word) (cycles : Nat) (s : State) :
    Host.Outcome State Fault Refusal :=
  let n := f.toNat / 2 ^ 21 + 1
  let set := waitMembers ext n
  .next (s.cleStep l true (1 + (n + 1) / 2) fun c k t =>
    whenFields f 0xE00000 <|
      if set.length < n ∨ set.any reservedEvent ∨ t = 16 then .fault Cause.illegal
      else if set.any k.has then .ok c (k.consume set)
      else
        let k := { k.timed cycles with state := 4, wait := set }
        let c := { c with tasks := c.tasks.wr {} t k, scanned := t + 1 }.nextTask
        .ok c (c.tasks.rd {} t))

/-- POST (R178): the SOFT event enters the pending set of every task. -/
def execPostTask (l : Lane) (f : Fields) (s : State) : Host.Outcome State Fault Refusal :=
  .next (s.cleStep l true 1 fun c k t =>
    whenFields f 0x3F <|
      let e := 0x820 + f.toNat
      let ts := (List.range 16).foldl (fun (m : Tab TaskRec) i =>
        if i ≠ t ∧ (c.img.tasks.rd {} i).enabled then m.wr {} i ((m.rd {} i).post e 1) else m) c.tasks
      .ok { c with tasks := ts } (k.post e 1))

/-- WAKE (R216): the wake timer of the own task, replacing any earlier setting. -/
def execWakeTask (l : Lane) (f : Fields) (s : State) : Host.Outcome State Fault Refusal :=
  .next (s.cleStep l false 1 fun c k _ =>
    whenFields f 0xF0000 (.ok c { k with wake := some (c.progTime + (k.G (fA f)).toNat) }))

/-- SYS (R216): program time, cycle number, task number, lane or engine cycles since Tb. `since` is the count of
engine cycles since Tb at this instruction, which is timing and comes with the command. -/
def execSysCall (l : Lane) (f : Fields) (since : Nat) (s : State) : Host.Outcome State Fault Refusal :=
  .next (s.cleStep l false 1 fun c k t =>
    whenFields f 0xF0FFFF <|
      let put (v : Nat) : Eff := .ok c (k.setG (fD f) (BitVec.ofNat 32 v))
      match fImm f with
      | 0 => put c.progTime
      | 1 => put (c.progTime / 2 ^ 32)
      | 2 => put c.cycle
      | 3 => put (c.cycle / 2 ^ 32)
      | 4 => put t
      | 5 => put l.num
      | 6 => put since
      | _ => .fault Cause.illegal)

/-- The target of format B: the signed word offset from the branch's own address. -/
def targetB (k : TaskRec) (f : Fields) : Nat :=
  patternOf 22 ((k.pc : Int) - 4 + 4 * signedOf 24 f.toNat)

/-- CALL (R216, R217): pushes the return address and INST and jumps; at most 32 calls are open. -/
def execCallSub (l : Lane) (f : Fields) (s : State) : Host.Outcome State Fault Refusal :=
  .next (s.cleStep l true 1 fun c k _ =>
    if k.calls.length ≥ 32 then .fault Cause.illegal
    else .ok c { k with calls := (k.pc, k.inst) :: k.calls, pc := targetB k f })

/-- CALLI (R216, R220): a call that sets INST to G[a] and jumps to the address in its extension word. -/
def execCalli (l : Lane) (f : Fields) (ext : Word) (s : State) : Host.Outcome State Fault Refusal :=
  .next (s.cleStep l false 2 fun c k _ =>
    whenFields f 0xF0000 <|
      if k.calls.length ≥ 32 then .fault Cause.illegal
      else .ok c { k with calls := (k.pc, k.inst) :: k.calls, inst := k.G (fA f), pc := ext.toNat % 2 ^ 22 })

/-- RET (R216, R217): pops the return address and INST; in a prime routine with no open call it ends the routine (R248). -/
def execRetSub (l : Lane) (f : Fields) (s : State) : Host.Outcome State Fault Refusal :=
  .next (s.cleStep l true 1 fun c k t =>
    whenFields f 0 <|
      match k.calls with
      | [] =>
        if t = 16 then
          let c := c.endPrime k.acc
          .ok c (c.tasks.rd {} t)
        else .fault Cause.illegal
      | (pc, inst) :: rest => .ok c { k with calls := rest, pc := pc, inst := inst })

/-- B (R216): jumps. -/
def execBranch (l : Lane) (f : Fields) (s : State) : Host.Outcome State Fault Refusal :=
  .next (s.cleStep l true 1 fun c k _ => .ok c { k with pc := targetB k f })

/-- Bcc (R214, R215, R216): jumps if the condition holds; in bit-logic mode only AT, AF and AL. The static prediction
of bit P costs time and nothing else. -/
def execBcc (l : Lane) (f : Fields) (s : State) : Host.Outcome State Fault Refusal :=
  .next (s.cleStep l true 1 fun c k t =>
    match k.cond (fD f) with
    | none => .fault Cause.illegal
    | some b =>
      if (c.taskDef t).bitMode ∧ ¬ (0xC ≤ fD f ∧ fD f ≤ 0xE) then .fault Cause.illegal
      else if b then .ok c { k with pc := patternOf 22 ((k.pc : Int) - 4 + 4 * signedOf 19 (f.toNat % 2 ^ 19)) }
      else .ok c k)

/-- SETI (R216): INST := G[a]. -/
def execSeti (l : Lane) (f : Fields) (s : State) : Host.Outcome State Fault Refusal :=
  .next (s.cleStep l false 1 fun c k _ => whenFields f 0xF0000 (.ok c { k with inst := k.G (fA f) }))

/-- GETI (R216): G[d] := INST. -/
def execGeti (l : Lane) (f : Fields) (s : State) : Host.Outcome State Fault Refusal :=
  .next (s.cleStep l false 1 fun c k _ => whenFields f 0xF00000 (.ok c (k.setG (fD f) k.inst)))

end Sys2Proof.Machine
end

