-- ==== Sys2Proof/Machine/RipValue.lean ====
section
/-! DEFINITION. The BASE and REF of a ripening item (R583): what the factory has measured and captured is the unit's own. -/

namespace Sys2Proof.Machine

/-- Whether the BASE of an item is factory-set (R583). -/
def ripFactory (i : Nat) : Bool := i < 32 || i == 96 || i == 97 || i == 108 || i == 109

/-- The record of an item. -/
def State.ripItem (s : State) (i : Nat) : RipItem := s.mgmt.items.rd {} i
def State.setRipItem (s : State) (i : Nat) (r : RipItem) : State :=
  (s.putMgmt { s.mgmt with items := s.mgmt.items.wr {} i r })

/-- BASE of an item (log entry 4). -/
def State.ripBase (s : State) (i : Nat) : Nat :=
  if ripFactory i then (Config.unitValue (Reg.key 0x72 (Rp.RIP_VALUE_BASE.pos i) 0)).toNat / 2 ^ 16 else s.fld 0x72 Rp.RIP_VALUE_BASE i

/-- REF of an item: captured with a factory-set BASE until RIP_SET_REF (log entry 4). -/
def State.ripRef (s : State) (i : Nat) : Nat :=
  if ripFactory i && ripAction i && !(s.ripItem i).refSet then
    (Config.unitValue (Reg.key 0x72 (Rp.RIP_PLAN_REF.pos i) 0)).toNat % 2 ^ 16
  else s.fld 0x72 Rp.RIP_PLAN_REF i

/-- RIP_VALUE and RIP_PLAN as they read (R599). -/
def State.ripWord (s : State) (off : Nat) : Option Nat :=
  let i := (off - 0x400) / 16
  if off < 0x400 ∨ 0xAE0 ≤ off then none
  else if off % 16 = 0 then some (s.ripBase i * 2 ^ 16 + s.fld 0x72 Rp.RIP_VALUE_NOW i)
  else if off % 16 = 12 then some (s.fld 0x72 Rp.RIP_PLAN_PLANNED i * 2 ^ 16 + s.ripRef i)
  else none

end Sys2Proof.Machine
end

