-- ==== Sys2Proof/Machine/Tarfevik.lean ====
section
/-! DEFINITION. The Tarfevik safe layer (R500-R509, R517-R519): connections, received frames, composed frames, and the commands
of page 0x61. Connection `c` keeps its window under page 0xC0 + c. -/

namespace Sys2Proof.Machine

/-- The page under which the window of a connection is kept. -/
def connPage (c : Nat) : Nat := 0xC0 + c

/-- A lane's side of a connection. -/
def State.conn (s : State) (l : Lane) (c : Nat) : ConnRec := (s.safe.conns.of l).rd {} c

/-- The words of a connection's window that its configuration takes (R514, R518). -/
def State.connWords (s : State) (c : Nat) : List Word := (List.range 7).map fun j => s.reg (connPage c) (0x400 + 4 * j)

/-- A field of a connection's configuration as a lane uses it (R517). -/
def State.connField (s : State) (l : Lane) (c : Nat) (f : Field) : Nat :=
  match (s.safe.cfgs.of l).rd none c with
  | some x => bitsOf (x.force.getD ((f.off - 0x400) / 4) 0) f.hi f.lo
  | none => s.fld (connPage c) f

/-- A configuration about to be written: both lanes use what they used until their boundaries bring the new words (R517). -/
def State.keepConn (s : State) (c : Nat) : State :=
  let w := s.connWords c
  let keep (m : Tab (Option ConnCfg)) : Tab (Option ConnCfg) := m.wr none c (some ((m.rd none c).getD ⟨w, w⟩))
  s.modSafe fun x => { x with cfgs := ⟨keep x.cfgs.a, keep x.cfgs.b⟩ }

/-- The configurations at a boundary of a lane (R517): the words that were exchanged are in force; the serving lane exchanges those
that the registers now hold. -/
def State.connBoundary (s : State) (l : Lane) : State :=
  let take (m : Tab (Option ConnCfg)) (x : Nat × Option ConnCfg) : Tab (Option ConnCfg) :=
    match x.2 with
    | some e =>
      let w := s.connWords x.1
      if e.next = w then m.wr none x.1 none
      else m.wr none x.1 (some ⟨e.next, if l = s.servingLane then w else e.next⟩)
    | none => m
  let m := s.safe.cfgs.of l
  s.modSafe fun x => { x with cfgs := x.cfgs.set l (m.foldl take m) }

/-- The configurations that an EXCHANGE frame of the serving lane brings (R517). -/
def State.takeConnCfgs (s : State) (o : Lane) : State :=
  let src := s.safe.cfgs.of o.other
  let m := (s.safe.cfgs.of o).map fun x =>
    (x.1, x.2.map fun e => { e with next := ((src.rd none x.1).map (·.next)).getD (s.connWords x.1) })
  if o = s.servingLane then s else s.modSafe fun x => { x with cfgs := x.cfgs.set o m }

/-- One bit of a pair of mask registers. -/
def State.maskBit (s : State) (f : Field) (c : Nat) (on : Bool) : State :=
  s.setFld 0x61 f (setBit (s.fld 0x61 f (c / 32)) (c % 32) on) (c / 32)

/-- A connection's status as the serving lane shows it (R507, R508, R518, R519). -/
def State.showConn (s : State) (c : Nat) (r : ConnRec) : State :=
  let old := s.fld 0x61 Sc.CONN_STATUS_STATE c
  let s := (s.setFld 0x61 Sc.CONN_STATUS_CAUSE r.cause c).setFld 0x61 Sc.CONN_STATUS_LAST_SEQ_RX (r.delivered.getD 0) c
  let s := s.setFld 0x61 Sc.CONN_STATUS_PEER_FAILSAFE (bool01 ((r.frames.head?.map (·.failsafe)).getD false)) c
  let s := (s.setFld (connPage c) Sc.CONN_SEQ_RX (r.seqRx.getD 0)).setFld (connPage c) Sc.CONN_SEQ_TX
    ((r.sent.head?.map (·.1)).getD 0)
  if old = r.state then s
  else
    let s := (s.setFld 0x61 Sc.CONN_STATUS_STATE r.state c).raise 0x61 0 (c * 2 ^ 16 + old * 2 ^ 8 + r.state)
    let s := (s.maskBit Sc.OPEN_MASK c (r.state == 2)).maskBit Sc.FAULT_MASK c (r.state == 3 || r.state == 4)
    s.level 0x61 1 ((List.range 64).any fun i => s.fld 0x61 Sc.CONN_STATUS_STATE i == 3) (c * 2 ^ 16 + r.cause)

/-- A lane's side of a connection replaced. -/
def State.setConn (s : State) (l : Lane) (c : Nat) (r : ConnRec) : State :=
  let s := s.modSafe fun x => { x with conns := x.conns.set l ((x.conns.of l).wr {} c r) }
  if l = s.servingLane then s.showConn c r else s

/-- A cause of R507 in OPEN or WAIT_ACK. -/
def State.connFault (s : State) (l : Lane) (c cause : Nat) : State :=
  let r := s.conn l c
  if r.state = 2 ∨ r.state = 4 then s.setConn l c { r with state := 3, cause := cause } else s

/-- A connection that is enabled opens while the unit is not in STARTING; a disabled one closes; AUTO_ACK ends WAIT_ACK (R508). -/
def State.followConn (s : State) (l : Lane) (c : Nat) : State :=
  let r := s.conn l c
  let on := s.connField l c Sc.CONN_CFG_ENA == 1
  if on && r.state == 4 && s.connField l c Sc.CONN_CFG_AUTO_ACK == 1 then s.setConn l c { r with state := 2 }
  else if on && r.state == 0 && s.pstate 0x60 != 0 then
    s.setConn l c { state := 1, seqTx := s.bootCount * 4099 % 2 ^ 16, acceptAt := s.now }
  else if !on && r.state != 0 then s.setConn l c {}
  else s

/-- The bytes of a list from `i`, as a little-endian number of `n` bytes. -/
def bytesAt (bs : List Nat) (i n : Nat) : Nat := ((bs.drop i).take n).foldr (fun b v => b % 256 + 256 * v) 0

/-- The eight bytes of an identity reference (R502). -/
def refBytes (lo hi : Word) : List Nat := bytes4 lo.toNat ++ bytes4 hi.toNat
def State.ownRef (s : State) : List Nat := refBytes (lowWord s.certRef) (highWord s.certRef)
def State.peerRef (s : State) (l : Lane) (c : Nat) : List Nat :=
  bytes4 (s.connField l c Sc.PEER_REF_LO) ++ bytes4 (s.connField l c Sc.PEER_REF_HI)

/-- The frame that bytes spell (R501). -/
def safeFrameOf (bs : List Nat) : SafeFrame :=
  let flags := bytesAt bs 12 1
  { seq := bytesAt bs 8 2, echo := bytesAt bs 10 2, failsafe := bitAt flags 0, open_ := bitAt flags 1,
    data := (bs.drop 16).take (bytesAt bs 13 1) }

/-- Whether the reserved bytes and bits of a frame are 0 (R501, R505). -/
def reservedZero (bs : List Nat) : Bool := bytesAt bs 4 4 == 0 && bytesAt bs 12 1 < 4 && bytesAt bs 14 2 == 0

/-- Whether the safety CRC of a received frame passes (R502). -/
def State.crcPasses (s : State) (l : Lane) (c : Nat) (bs : List Nat) : Bool :=
  let n := 16 + bytesAt bs 13 1
  bs.length == n + 4 && safetyCrc (s.peerRef l c ++ s.ownRef ++ bs.take n) == bytesAt bs n 4

/-- Whether an ECHO names one of the lane's own frames sent within WDT_MS (R508), and when that was sent. -/
def State.echoOf (s : State) (l : Lane) (c echo : Nat) : Option Nat :=
  let wdt := s.connField l c Sc.CONN_TIMING_WDT_MS * 1000000
  ((s.conn l c).sent.find? fun x => x.1 == echo && decide (s.now < x.2 + wdt)).map (·.2)

/-- A frame accepted (R505-R508). -/
def State.acceptFrame (s : State) (l : Lane) (c : Nat) (f : SafeFrame) : State :=
  let r := s.conn l c
  let echo := s.echoOf l c f.echo
  let old := r.state
  let state := if echo.isSome ∧ old = 1 then 2 else if echo.isSome ∧ old = 3 then 4 else old
  let r := { r with
    state := state, seqRx := some f.seq, frames := f :: r.frames.take 3, acceptAt := s.now, badCrc := false
    -- the frame named and every older one is named by this ECHO
    sent := if r.sent.any (fun x => x.1 == f.echo) then
        (r.sent.takeWhile fun x => x.1 != f.echo) ++ r.sent.filter fun x => x.1 == f.echo
      else r.sent }
  let s := (s.setConn l c r).followConn l c
  let s := (match echo with
    | some x => if l = s.servingLane then s.setFld (connPage c) Sc.CONN_TIME_RTT_MS (saturate 16 ((s.now - x) / 1000000)) else s
    | none => s)
  if old = 2 ∧ f.open_ then s.connFault l c 6 else s

/-- A received frame at a lane (R505). In OPENING and FAULTED no SEQ is to be followed, so that the peer may come back with any
(DEDUCED, log entry 72). -/
def State.admitFrame (s : State) (l : Lane) (c : Nat) (bs : List Nat) : State :=
  let r := s.conn l c
  let f := safeFrameOf bs
  let serving := l == s.servingLane
  let discard (crc : Bool) : State := s.setConn l c { r with badCrc := crc }
  if r.state = 0 ∨ !reservedZero bs then discard false
  else if !s.crcPasses l c bs then (if serving then (discard true).bump 0x61 Sc.CONN_ERRORS_CRC c else discard true)
  else if bytesAt bs 13 1 ≠ s.connField l c Sc.CONN_CFG_RX_LEN then (discard false).connFault l c 5
  else
    match (if r.state = 1 ∨ r.state = 3 then none else r.seqRx) with
    | none => s.acceptFrame l c f
    | some last =>
      let d := (f.seq + 65536 - last) % 65536
      if d = 0 ∨ 32768 ≤ d then discard false
      else if s.connField l c Sc.CONN_CFG_SEQ_WINDOW < d then (discard false).connFault l c 3
      else
        let s := if serving then s.bump 0x61 Sc.CONN_ERRORS_LOST c 0 (d - 1) else s
        s.acceptFrame l c f

/-- A datagram of no known connection (R505, R519). -/
def State.unknownConn (s : State) (id : Nat) : State :=
  let s := (s.bump 0x61 Sc.UNKNOWN_CONN).setFld 0x61 Sc.LAST_UNKNOWN id
  let quiet := (match s.safe.unknownAt with
    | some x => decide (s.now < x + 1000000000)
    | none => false)
  if quiet then s else (s.modSafe fun x => { x with unknownAt := some s.now }).raise 0x61 3 id

/-- The enabled connection of a lane that a CONN_ID names (R505). -/
def State.connNamed (s : State) (l : Lane) (id : Nat) : Option Nat :=
  (List.range 64).find? fun c => s.connField l c Sc.CONN_CFG_ENA == 1 && s.connField l c Sc.CONN_ID == id

/-- TARFEVIK_FRAME_RX (R500-R508, R611): the bytes of a datagram, which both running lanes receive. -/
def execTarfevikFrameRx (t : Nat) (bs : List Nat) (s : State) : Host.Outcome State Fault Refusal :=
  let s := s.start t
  let id := bytesAt bs 0 4
  let known (l : Lane) : Option Nat := s.connNamed l id
  let s := if (known s.servingLane).isNone then s.unknownConn id else s
  .next ([Lane.a, Lane.b].foldl (fun s l =>
    match known l with
    | some c => if 2 ≤ s.laneState l then s.admitFrame l c bs else s
    | none => s) s)

/-- CONN_WATCHDOG (R507, causes 1, 2 and 4). -/
def execConnWatchdog (t : Nat) (l : Lane) (c : Fin 64) (s : State) : Host.Outcome State Fault Refusal :=
  let s := s.start t
  let r := s.conn l c.val
  let wdt := s.connField l c.val Sc.CONN_TIMING_WDT_MS * 1000000
  -- sent frames newer than the one last named
  let open_ := r.sent.takeWhile fun x => some x.1 != (r.frames.head?.map (·.echo))
  .next (if r.acceptAt + wdt ≤ s.now then s.connFault l c.val (if r.badCrc then 2 else 1)
    else if open_.any fun x => decide (x.2 + wdt ≤ s.now) then s.connFault l c.val 4
    else s)

/-- The bytes of a frame a lane composes (R501, R502, R504). -/
def State.frameBytes (s : State) (l : Lane) (c : Nat) (r : ConnRec) (failsafe : Bool) : List Nat :=
  let n := s.connField l c Sc.CONN_CFG_TX_LEN
  let echo := if r.state = 1 ∧ r.delivered.isNone then 0xFFFF else r.delivered.getD 0xFFFF
  let data := if failsafe then List.replicate n 0 else (r.txData ++ List.replicate n 0).take n
  let body := bytes4 (s.connField l c Sc.CONN_ID) ++ [0, 0, 0, 0, r.seqTx % 256, r.seqTx / 256, echo % 256, echo / 256,
    bool01 failsafe + 2 * bool01 (r.state == 1), n, 0, 0] ++ data
  body ++ bytes4 (safetyCrc (s.ownRef ++ s.peerRef l c ++ body))

/-- A lane composes the frame of a connection at every SEND_DIV-th boundary since the connection opened, and hands it to the
host-port controller (R504, R508). -/
def State.composeFrame (s : State) (l : Lane) (c : Nat) : State :=
  let r := s.conn l c
  let div := max 1 (s.connField l c Sc.CONN_TIMING_SEND_DIV)
  let r := { r with boundaries := (r.boundaries + 1) % div }
  if r.state = 0 then s
  else if r.boundaries ≠ 0 then s.setConn l c r
  else
    let failsafe := s.pstate 0x60 != 1 || r.passivate || s.pstate (clePage l) != 2
    let bs := s.frameBytes l c r failsafe
    let wdt := s.connField l c Sc.CONN_TIMING_WDT_MS * 1000000
    let old := r.sent.filter fun x => decide (s.now < x.2 + 2 * wdt)
    let s := s.setConn l c { r with seqTx := (r.seqTx + 1) % 2 ^ 16, sent := (r.seqTx, s.now) :: old }
    s.modSafe fun x => { x with handed := x.handed.set l ((x.handed.of l).wr none c (some (s.now, bs))) }

/-- The SAFE_TX block of a connection as it stands at the end of an output phase (R504, R508, R509). -/
def State.takeSafeTx (s : State) (l : Lane) (c addr : Nat) : State :=
  let mem := (s.cle l).data
  let bs := (List.range 45).map fun i => memRead mem (addr + i) 1
  let r := s.conn l c
  let flags := bs.getD 44 0
  let state := if r.state = 4 ∧ bitAt flags 1 then 2 else r.state
  s.setConn l c { r with txData := bs.take 44, passivate := bitAt flags 0, state := state }

/-- The older of two sequence numbers (R506). -/
def olderSeq (a b : Option Nat) : Option Nat :=
  match a, b with
  | some x, some y => if (x + 65536 - y) % 65536 < 32768 then some y else some x
  | some x, none => some x
  | none, y => y

/-- The bytes of SAFE_RX for a frame agreed on (R506, R507, R509), with the quality and what follows. -/
def safeRxBytes (r : ConnRec) (agreed : Option Nat) (last : List Nat) : List Nat × ConnRec :=
  let isNew := agreed.isSome && agreed != r.delivered
  let frame := r.frames.find? fun f => some f.seq == agreed
  let idle := if isNew then 0 else saturate 16 (r.idle + 1)
  let pad (d : List Nat) : List Nat := (d ++ List.replicate 44 0).take 44
  let peerSafe := (frame.map (·.failsafe)).getD false
  let data := if r.state ≠ 2 ∨ peerSafe then pad [] else
    match frame with
    | some f => pad f.data
    | none => pad last
  let qual := if r.state ≠ 2 ∨ peerSafe then 2 else if frame.isSome && isNew then 0 else 1
  let seq := agreed.getD 0
  (data ++ [seq % 256, seq / 256 % 256, qual, r.state + 128 * bool01 peerSafe, idle % 256, idle / 256] ++ List.replicate 14 0,
    { r with delivered := agreed, idle := idle })

/-- A lane writes the SAFE_RX block of a connection at its boundary (R506, R509). -/
def State.putSafeRx (s : State) (l : Lane) (c addr : Nat) (agreed : Option Nat) : State :=
  let k := s.cle l
  let last := (List.range 44).map fun i => memRead k.data (addr + i) 1
  let (bs, r) := safeRxBytes (s.conn l c) agreed last
  let mem := ((List.range 64).zip bs).foldl (fun m x => memWrite m (addr + x.1) x.2 1) k.data
  (s.setCle l { k with data := mem }).setConn l c r

/-- A frame sent (R500): the connection, the host port, TSF_PORT, the peer's address and port, and the frame's bytes. -/
def State.sendSafe (s : State) (c : Nat) (bs : List Nat) : State :=
  let f := s.connField s.servingLane c
  s.send .safeFrame ([c, f Sc.CONN_CFG_PORT, s.fld 0x61 Sc.TSF_PORT, f Sc.PEER_IP, f Sc.PEER_UDP] ++ bs)

/-- What the host-port controller does with a frame that one lane alone has handed (R504). -/
def State.oneFrame (s : State) (c : Nat) (bs : List Nat) : State :=
  if s.pstate 0x60 = 3 then (if bitAt (bs.getD 12 0) 0 then s.sendSafe c bs else s)
  else s.bump 0x61 Sc.TX_MISSING

/-- What it does with two frames (R504). -/
def State.twoFrames (s : State) (c : Nat) (a b : List Nat) : State :=
  let st := s.pstate 0x60
  if a = b then s.sendSafe c a
  else if st = 1 ∨ st = 5 then
    let s := (s.bump (connPage c) Sc.DISC_COUNT).raise 0x61 2 c
    (s.modSafe fun x => { x with disc := true }).safetyCause 5
  else if (st = 3 ∨ st = 4) ∧ bitAt (a.getD 12 0) 0 ∧ bitAt (b.getD 12 0) 0 then s.sendSafe c a
  else s

/-- The frame of a lane taken from the controller. -/
def State.dropHanded (s : State) (l : Lane) (c : Nat) : State :=
  s.modSafe fun x => { x with handed := x.handed.set l ((x.handed.of l).wr none c none) }

/-- TARFEVIK_TX_DECIDE (R504): two frames handed within 20 µs, or one once 20 µs have passed. -/
def execTarfevikTxDecide (t : Nat) (c : Fin 64) (s : State) : Host.Outcome State Fault Refusal :=
  let s := s.start t
  let c := c.val
  let one (l : Lane) (x : Nat × List Nat) : State := if x.1 + 20000 ≤ s.now then (s.dropHanded l c).oneFrame c x.2 else s
  .next (match (s.safe.handed.a).rd none c, (s.safe.handed.b).rd none c with
    | some a, some b =>
      if max a.1 b.1 ≤ min a.1 b.1 + 20000 then ((s.dropHanded .a c).dropHanded .b c).twoFrames c a.2 b.2
      else if a.1 < b.1 then one .a a else one .b b
    | some a, none => one .a a
    | none, some b => one .b b
    | none, none => s)

/-- COUNTERS_CLEAR of page 0x61 (R519). -/
def cmdConnClear : Cmd where
  opc := 0x01
  kinds := (· == .conns)
  act := fun s _ _ _ =>
    let s := (s.setFld 0x61 Sc.UNKNOWN_CONN 0).setFld 0x61 Sc.TX_MISSING 0
    (s.each (List.range 64) fun s c =>
      (s.setReg 0x61 (Sc.CONN_ERRORS_CRC.pos c) 0).setFld (connPage c) Sc.DISC_COUNT 0, RC.done)

def execConnCountersClear (t : Nat) (q : Req) (s : State) : Host.Outcome State Fault Refusal :=
  .next ((s.start t).command q cmdConnClear)

end Sys2Proof.Machine
end

