-- ==== Sys2Proof/Machine/Read.lean ====
section
/-! DEFINITION. Reads of the register space (R3-R5, R38-R45): words that are kept, words that mirror other state, words that
are measured at the moment of reading, and the quality with which a lane latches them (R19). -/

namespace Sys2Proof.Machine

/-- Whole time units since an instant, 0 when there is none. -/
def State.since (s : State) (t : Option Nat) (unit : Nat) : Nat :=
  match t with
  | some x => saturate 32 ((s.now - x) / unit)
  | none => 0

/-- The channels of a page kind and whether their stride is 0x80 (PAGE_CAPS of R43), as each chapter lays its page out. -/
def PageKind.channels : PageKind → Nat × Bool
  | .hostPorts => (5, false) | .hostRights => (4, false) | .cle => (16, false) | .bank => (16, false)
  | .lsGroup => (8, false) | .kerb => (8, false) | .loopGroup => (8, true) | .beamGroup => (8, false)
  | .edgeGroup => (16, false) | .can => (16, true) | .safety => (32, false) | .safeOut => (8, false)
  | .ration => (2, true)
  | _ => (0, false)

/-- The pages with a window region (R43). -/
def PageKind.hasWindow : PageKind → Bool
  | .onlineChange | .corner | .axis | .loopGroup | .can | .conns | .mgmt | .sensors | .ripening | .update | .lifeCycle => true
  | _ => false

/-- PAGE_ID (R40, R43). -/
def pageIdWord (page : Nat) : Nat :=
  let first := (pageKind page).first
  (0x100 + first) * 2 ^ 16 + (page - first) * 2 ^ 8 + page

/-- PAGE_CAPS (R43): every page kind but the corner window, whose commands are its avenues', has opcodes of its own. -/
def pageCapsWord (page : Nat) : Nat :=
  let k := pageKind page
  let c := k.channels
  bool01 k.hasWindow * 2 ^ 16 + c.1 * 2 ^ 8 + bool01 c.2 * 8 + bool01 (c.1 != 0) * 4 + 2 + bool01 k.owned

/-- Whether the block holds a fault that one of its registers describes (PAGE_STATE.FAULT of R43). -/
def State.pageFault (s : State) (page : Nat) : Bool :=
  match pageKind page with
  | .cle => s.pstate page == 4
  | .axis => s.fld page Ax.FB_STATUS_CAUSE != 0 || decide (5 ≤ s.pstate page ∧ s.pstate page ≤ 8)
  | .bank => s.fld page Bk.FAULT_MAP != 0
  | .lsGroup => s.flag page Ls.SENSE_STATUS_FAULT || s.fld page Ls.GRP_STATUS_LOCKED != 0
  | .loopGroup => s.fld page Lp.GRP_STATUS_FAULT != 0
  | .beamGroup => s.fld page Bm.BG_SUMMARY_FAULT != 0
  | .edgeGroup => s.fld page Eg.EG_SUMMARY_FAULT != 0
  | .avenue => s.fld page Av.AVU_STATUS_IN_FAULT != 0
  | .conns => (List.range 2).any fun i => s.fld page Sc.FAULT_MASK i != 0
  | .safeOut => s.fld page So.SO_SUMMARY_FAULT != 0
  | .memory => s.fld page Mm.SEG_BAD != 0
  | .vat => s.pstate page == 3 || s.pstate page == 5
  | .sensors => s.fld page Sn.SENS_SUMMARY_FAILED != 0
  | _ => false

/-- A word of the header (R43-R45). -/
def State.headerWord (s : State) (page off code : Nat) : Nat :=
  match off with
  | 0x00 => pageIdWord page
  | 0x04 => (Config.unitValue (Reg.key (pageKind page).first 4 0)).toNat % 2 ^ 24
  | 0x08 => pageCapsWord page
  | 0x10 => bool01 (s.pageFault page) * 2 ^ 10 + s.fld page Hd.PAGE_LOCK_LOCK * 2 ^ 9 + bool01 (s.pageBusy page) * 2 ^ 8 + s.pstate page
  | 0x18 =>
    let lane := if (pageKind page).owned then s.owner page else 0
    s.host.holder.getD 0xFF * 2 ^ 8 + lane
  | 0x30 => 0
  | _ => (s.reg page off (Reg.bank page off code)).toNat

/-- Page 0x00 (R68). -/
def State.deviceWord (s : State) (off : Nat) : Option Nat :=
  match off with
  | 0x104 => some ((Config.unitValue (Reg.key 0 0x104 0)).toNat % 2 ^ 8)
  | 0x108 | 0x10C => some (Config.unitValue (Reg.key 0 off 0)).toNat
  | 0x110 => some (s.fwVersion 0 % 2 ^ 24)
  | 0x114 => some (s.fwVersion 1 % 2 ^ 24)
  | 0x118 => some (s.fwVersion 2 % 2 ^ 24)
  | 0x11C => some (s.certRef % 2 ^ 32)
  | 0x120 => some s.bootCount
  | 0x1A0 => some (s.time % 2 ^ 32)
  | 0x1A4 => some (s.time / 2 ^ 32)
  | _ => none

/-- DOMAIN_STATUS (R122). -/
def State.domainWord (s : State) : Nat :=
  let up (l : Lane) : Bool := (s.lane l).supply
  let hold (l : Lane) : Bool := !up l && (s.lane l).phase != .held
  let ready (b : Nat) : Bool := 2 ≤ s.fld 0x0E Ra.BUS_STATUS_STATE b
  bool01 (up .a) + bool01 (up .b) * 2 + bool01 s.power.rail.a * 2 ^ 4 + bool01 s.power.rail.b * 2 ^ 5
    + bool01 (ready 0) * 2 ^ 6 + bool01 (ready 1) * 2 ^ 7 + bool01 (hold .a) * 2 ^ 8 + bool01 (hold .b) * 2 ^ 9
    + bool01 (s.power.common && !up .a && !up .b) * 2 ^ 10

/-- The requests of a slot outstanding (R151): those held and those that wait to be served. -/
def State.outstanding (s : State) (k : Nat) : Nat :=
  (s.slot k).held.length + (s.mgmt.queue.filter fun x => x.1 == k).length

/-- Lane, crossing and power pages (R98, R99, R122). -/
def State.supervisionWord (s : State) (page off : Nat) : Option Nat :=
  match page, off with
  | 1, 0x100 => some (s.fld 1 Ln.LANE_INFO_CAUSE * 2 ^ 8 + 1)
  | 2, 0x100 => some (s.fld 2 Ln.LANE_INFO_CAUSE * 2 ^ 8 + 2)
  | 1, 0x110 => some (s.owned .a)
  | 2, 0x110 => some (s.owned .b)
  | 3, 0x100 => some (s.lane s.servingLane).link0.state
  | 3, 0x104 => some (s.lane s.servingLane).link1.state
  | 4, 0x118 => some (s.power.field % 2 ^ 16)
  | 4, 0x11C => some s.domainWord
  | 6, 0x210 | 6, 0x250 | 6, 0x290 | 6, 0x2D0 => some (s.outstanding ((off - 0x210) / 0x40))
  | 6, 0x10C =>
    let sec := s.now / 1000000000
    let h := s.host
    let r := if sec = h.second then h.lastReqs else if sec = h.second + 1 then h.secondReqs else 0
    let d := if sec = h.second then h.lastData else if sec = h.second + 1 then h.secondData else 0
    some (saturate 16 (d / 1000) * 2 ^ 16 + saturate 16 r)
  | _, _ => none

/-- The newest valid snapshot of a lane (R190). -/
def CleRec.newest (c : CleRec) : Option SnapBuf :=
  match c.snap0.valid, c.snap1.valid with
  | true, true => some (if c.snap1.cycle < c.snap0.cycle then c.snap0 else c.snap1)
  | true, false => some c.snap0
  | false, true => some c.snap1
  | false, false => none

/-- The set that TASK_WAIT shows: the wait set while WAITING, else the trigger set (R196). -/
def waitSet (d : TaskDef) (k : TaskRec) : List Nat := if k.state = 4 then k.wait else d.triggers

/-- The task registers of a CLE page (R196). -/
def State.taskWord (s : State) (l : Lane) (t off : Nat) : Nat :=
  let c := s.cle l
  let d := c.img.tasks.rd {} t
  let k := c.tasks.rd {} t
  let set := waitSet d k
  match off with
  | 0x00 => bool01 d.enabled * 2 ^ 31 + d.kind % 2 * 2 ^ 30 + d.phase % 2 ^ 10 * 2 ^ 16 + d.div % 2 ^ 10
  | 0x04 => (min set.length 8) * 2 ^ 8 + (if !d.enabled then 0 else if k.state ≤ 1 then (if k.ready d then 2 else 1) else k.state)
  | 0x08 => set.getD 1 0 % 2 ^ 12 * 2 ^ 16 + set.getD 0 0 % 2 ^ 12
  | 0x0C => set.getD 3 0 % 2 ^ 12 * 2 ^ 16 + set.getD 2 0 % 2 ^ 12
  | 0x10 => set.getD 5 0 % 2 ^ 12 * 2 ^ 16 + set.getD 4 0 % 2 ^ 12
  | 0x14 => set.getD 7 0 % 2 ^ 12 * 2 ^ 16 + set.getD 6 0 % 2 ^ 12
  | 0x18 => k.timeLast
  | 0x1C => k.timeMax
  | 0x20 => k.runs
  | 0x24 => if k.state = 4 then k.pc else 0
  | _ => 0

/-- The CLE pages (R196), what of them is not kept in registers. -/
def State.cleWord (s : State) (l : Lane) (off : Nat) : Option Nat :=
  let c := s.cle l
  if 0x400 ≤ off ∧ off < 0x800 then some (s.taskWord l ((off - 0x400) / 0x40) (off % 0x40))
  else
    match off with
    | 0x10C => some (saturate 20 (c.img.wcet.getD 0))
    | 0x110 => some (c.doneCycle % 2 ^ 32)
    | 0x114 => some (c.doneCycle / 2 ^ 32 % 2 ^ 32)
    | 0x118 => some (c.progTime % 2 ^ 32)
    | 0x11C => some (c.progTime / 2 ^ 32 % 2 ^ 32)
    | 0x140 => some (c.img.retain.size % 2 ^ 22)
    | 0x144 => some ((c.newest.map (·.cycle)).getD 0 % 2 ^ 32)
    | 0x148 => some ((c.newest.map (·.cycle)).getD 0 / 2 ^ 32 % 2 ^ 32)
    | 0x154 => some (c.img.safety.size / 4 % 2 ^ 13)
    | 0x16C => some ((List.range 16).foldl (fun m t => m + bool01 (c.img.tasks.rd {} t).enabled * 2 ^ t) 0)
    | _ => none

/-- A word of an entry of the change report (R254). -/
def ocEntryWord (e : OcEntry) (j : Nat) : Nat :=
  match j with
  | 0 => e.key % 2 ^ 32
  | 1 => e.key / 2 ^ 32 % 2 ^ 32
  | 2 => e.code % 2 ^ 16 + e.kind % 2 ^ 8 * 2 ^ 16 + e.flags % 2 ^ 8 * 2 ^ 24
  | _ => e.addr % 2 ^ 32

/-- The windows and counts of pages 0x0A to 0x0D that are not kept in registers (R199, R254, R255, R273, R278). -/
def State.programWord (s : State) (page off : Nat) : Option Nat :=
  match page with
  | 0x0A =>
    if off < 0x400 then none
    else
      let n := s.fld 0x0A Oc.REPORT_BASE + (off - 0x400) / 16
      match s.oc.report[n]? with
      | some e => some (ocEntryWord e (off % 16 / 4))
      | none => some 0
  | 0x0B => if off = 0x110 then some (max ((s.cle .a).steps.getD 0) ((s.cle .b).steps.getD 0) % 2 ^ 10) else none
  | 0x0C =>
    if off < 0x200 ∨ 0x600 ≤ off then none
    else
      let x := s.av ((off - 0x200) / 16)
      if off % 16 = 8 then some (s.since x.firstAt 1)
      else if off % 16 = 12 then some (s.since x.lastAt 1)
      else none
  | _ => none

/-- The avenue that a requester's window shows (R45, R278). -/
def State.winAvenue (s : State) (code : Nat) : Nat := bitsOf (s.reg 0x0D Cn.WIN_SEL_AVENUE.off (code % 8)) 5 0

/-- The connection that a requester's window shows (R518). -/
def State.winConn (s : State) (code : Nat) : Nat := bitsOf (s.reg 0x61 Sc.CONN_SEL.off (code % 8)) 5 0

/-- The words of owned pages that are not kept in registers (R394, R419, R441, R482). -/
def State.stageWord (s : State) (page off code : Nat) : Option Nat :=
  match pageKind page with
  | .axis =>
    if 0x600 ≤ off ∧ off < 0xE00 then
      let n := s.mapBase code page + (off - 0x600) / 16
      let w := if n < s.fld page Ax.MAP_CFG_MAP_BINS then (s.bin page n).words else (0, 0, 0)
      some (if off % 16 = 0 then w.1.toNat else if off % 16 = 4 then w.2.1.toNat else if off % 16 = 8 then w.2.2.toNat else 0)
    else none
  | .bank => if off = 0x198 then some (s.since (s.bank page).ownerAt 1000) else none
  | .lsGroup =>
    if off = 0x108 then
      let v := s.fld 4 (if page < 0x44 then Pw.V_LS_A else Pw.V_LS_B)
      some (s.fld page Ls.RAIL_PRESENT * 2 ^ 16 + v)
    else if off = 0x100 ∨ 0x400 ≤ off ∧ off < 0x600 ∧ off % 0x40 = 8 then
      -- the lines as the pulse unit drives them now
      some ((s.driveGroup page).reg page off).toNat
    else none
  | .can => s.canWord page off code
  | _ => none

/-- The minutes of MAINTENANCE that are left, in seconds (R514). -/
def State.maintLeft (s : State) : Nat :=
  let lim := s.fld 0x60 Sf.SAFE_CFG_MAINT_LIMIT_MIN
  if s.pstate 0x60 = 5 ∧ lim ≠ 0 then lim * 60 - (s.now - s.safe.maintAt) / 1000000000 else 0

/-- The words of the safety pages that are not kept in registers (R514, R518). -/
def State.safetyWord (s : State) (page off code : Nat) : Option Nat :=
  match page with
  | 0x60 =>
    if off = 0x110 then
      let serves (l : Lane) : Nat := bool01 (decide (3 ≤ s.laneState l))
      some (putBits (s.reg 0x60 0x110) 9 8 (serves .b * 2 + serves .a)).toNat
    else if off = 0x120 then some (saturate 32 s.maintLeft)
    else none
  | 0x62 => if off = So.SO_DEMAND.off then some (s.half .a).demand else none
  | 0x61 =>
    if off = 0x108 then some (s.certRef % 2 ^ 32)
    else if off = 0x10C then some (s.certRef / 2 ^ 32)
    else if off < 0x400 then none
    else
      let c := s.winConn code
      let w := s.reg (connPage c) off
      if off = 0x420 then
        let x := (s.safe.conns.of s.servingLane).rd {} c
        let age := if x.delivered.isNone && x.seqRx.isNone then 0 else saturate 16 ((s.now - x.acceptAt) / 1000000)
        some (putBits w 31 16 age).toNat
      else some w.toNat
  | _ => none

/-- The first and the last time of the records in a partition of a Vat. -/
def VatRec.times (v : VatRec) (p : Nat) : List Nat :=
  match p with
  | 0 => v.curds.map fun c => c.curd.tEnd
  | 1 => v.log.map fun e => e.record.time
  | 2 => v.history.map fun e => e.time
  | 3 => v.dumps.map fun d => d.time
  | _ => v.stored.map fun c => c.tFirst

/-- The Vat pages (R569), what of them is not kept in registers. -/
def State.vatWord (s : State) (l : Lane) (off : Nat) : Option Nat :=
  let v := s.vat l
  if off = 0x124 then
    let sec := s.now / 1000000000
    let w := if sec = v.second then v.wroteLast else if sec = v.second + 1 then v.wrote else 0
    let r := if sec = v.second then v.readLast else if sec = v.second + 1 then v.read else 0
    some (saturate 16 (w / 1000000) * 2 ^ 16 + saturate 16 (r / 1000000))
  else if 0x200 ≤ off ∧ off < 0x2A0 then
    let p := (off - 0x200) / 0x20
    let ts := v.times p
    let oldest := ts.headD 0
    let newest := ts.getLastD 0
    match off % 0x20 with
    | 0x04 =>
      let x := v.part p
      some (saturate 32 ((x.programmed - x.overwritten * unitBytes) / 1000000))
    | 0x08 => some (oldest % 2 ^ 32)
    | 0x0C => some (oldest / 2 ^ 32)
    | 0x10 => some (newest % 2 ^ 32)
    | 0x14 => some (newest / 2 ^ 32)
    | 0x18 => some (saturate 16 ((newest - oldest) / 86400000000000))
    | _ => none
  else none

/-- The 64 bytes of an entry of the management log (R580), the CRC last. -/
def mlogBytes (e : MlogEntry) : List Nat :=
  let body := leBytes 8 e.time ++ leBytes 4 e.index ++ [e.kind % 256, 0, 0, 0] ++ e.data.map (· % 256)
  let body := (body ++ List.replicate (60 - body.length) 0).take 60
  body ++ leBytes 4 (crc32 body)

/-- Word `j` of a list of bytes, least significant byte first; bytes beyond the end are 0. -/
def wordOfBytes (bs : List Nat) (j : Nat) : Nat :=
  bs.getD (4 * j) 0 + bs.getD (4 * j + 1) 0 * 2 ^ 8 + bs.getD (4 * j + 2) 0 * 2 ^ 16 + bs.getD (4 * j + 3) 0 * 2 ^ 24

/-- Management's pages (R595, R602, R620), what of them is not kept in registers. The identity public key is the unit's own
for each generation of identity keys (log entry 4). -/
def State.mgmtWord (s : State) (page off : Nat) : Option Nat :=
  match page with
  | 0x70 =>
    if off = 0x12C then some (saturate 32 ((s.now - s.mgmt.bootAt) / 1000000000))
    else if 0x800 ≤ off then
      let n := s.fld 0x70 Mg.MLOG_POS + (off - 0x800) / 64
      match s.mgmt.log.find? fun e => e.index == n with
      | some e => some (wordOfBytes (mlogBytes e) (off % 64 / 4))
      | none => some 0
    else none
  | 0x72 => s.ripWord off
  | 0x73 => if 0x800 ≤ off then some 0 else none
  | 0x74 =>
    if 0x400 ≤ off ∧ s.fld 0x74 Lc.WIN_CTRL_KIND = 1 then
      let j := (off - 0x400) / 4
      let w := (Config.unitValue (Reg.key 0x74 off 0 + 2 ^ 32 * (1 + s.fld 0x74 Lc.IDENTITY_GEN))).toNat
      some (if j < 24 then w else if j = 24 then w % 256 else 0)
    else none
  | _ => none

/-- Bit `p` of PEND_SUMMARY (R75). -/
def State.pendBit (s : State) (p : Nat) : Bool :=
  pageUsed p && s.fld p Hd.EVT_PEND &&& s.fld p Hd.EVT_ENA != 0

/-- Page 0x7E (R75). -/
def State.fabricWord (s : State) (off : Nat) : Option Nat :=
  let f := s.fabric
  match off with
  | 0x100 =>
    let sec := s.now / 1000000000
    some (saturate 32 (if sec = f.second then f.prevSecond else if sec = f.second + 1 then f.inSecond else 0))
  | 0x108 => some (f.total % 2 ^ 32)
  | 0x10C => some (f.total / 2 ^ 32 % 2 ^ 32)
  | 0x200 | 0x204 | 0x208 | 0x20C =>
    let j := (off - 0x200) / 4
    some ((List.range 32).foldl (fun m i => m + bool01 (s.pendBit (32 * j + i)) * 2 ^ i) 0)
  | _ => none

/-- A RIGHTS word as it reads (R147, R159): nibbles of unused pages read 0, and ADMINISTRATOR on page 0x06 always has all. -/
def State.rightsRead (s : State) (off : Nat) : Nat :=
  let r := (off - 0x400) / 0x40
  let w := off % 0x40 / 4
  (List.range 8).foldl (fun m i => m + s.rightsOf r (8 * w + i) * 16 ^ i) 0

/-- A block word that mirrors other state, when it does. -/
def State.mirrorWord (s : State) (page off code : Nat) : Option Nat :=
  if page = 0 then s.deviceWord off
  else if page = 0x05 ∧ (off % 0x40 = 0x18 ∨ off % 0x40 = 0x1C) ∧ 0x400 ≤ off ∧ off < 0x540 then
    some ((Config.unitValue (Reg.key 5 off 0)).toNat % (if off % 0x40 = 0x18 then 2 ^ 32 else 2 ^ 16))
  else if page = 0x06 ∧ 0x400 ≤ off ∧ off < 0x500 then some (s.rightsRead off)
  else if page < 0x07 then s.supervisionWord page off
  else if page = 0x08 then s.cleWord .a off
  else if page = 0x09 then s.cleWord .b off
  else if page = 0x0D ∧ 0x400 ≤ off then some (s.reg (cornerPage (s.winAvenue code)) off).toNat
  else if page < 0x0E then s.programWord page off
  else if page = 0x48 then s.kerbWord off
  else if (pageKind page).owned then s.stageWord page off code
  else if page = 0x60 ∨ page = 0x61 ∨ page = 0x62 then s.safetyWord page off code
  else if page = 0x64 ∧ off = 0x104 then some (s.segUse .a)
  else if page = 0x65 ∧ off = 0x104 then some (s.segUse .b)
  else if page = 0x64 ∧ off = 0x11C then some (s.conflicts .a)
  else if page = 0x65 ∧ off = 0x11C then some (s.conflicts .b)
  else if page = 0x68 then s.vatWord .a off
  else if page = 0x69 then s.vatWord .b off
  else if page = 0x7E then s.fabricWord off
  else s.mgmtWord page off

/-- A word of the register space as it stands, but for its measured bits (R4, R41, R44). -/
def State.standing (s : State) (page off code : Nat) : Word :=
  if !pageUsed page then 0
  else if off < 0x100 then BitVec.ofNat 32 (s.headerWord page off code)
  else
    match s.mirrorWord page off code with
    | some v => BitVec.ofNat 32 v
    | none => s.reg page off (Reg.bank page off code)

/-- The lowest words of the 64-bit values of a page (R3). -/
def lowOf64 (page off : Nat) : Bool :=
  match pageKind page with
  | .device => off == 0x108 || off == 0x1A0 || off == 0x1B0
  | .power => off == 0x130
  | .hostPorts => decide (0x400 ≤ off ∧ off < 0x540) && off % 0x40 == 0x18
  | .hostRights => decide (0x200 ≤ off ∧ off < 0x300) && off % 0x40 == 0x20
  | .cle => off == 0x110 || off == 0x118 || off == 0x144
  | .onlineChange => off == 0x124
  | .avenue => off == 0x10C || decide (0x200 ≤ off ∧ off < 0x600) && off % 0x10 == 0
  | .corner => decide (0x400 ≤ off) && off % 0x20 == 0x0C
  | .conns => off == 0x108 || off == 0x408
  | .axis => off == 0x388 || off == 0x398 || off == 0x3CC
  | .bank => decide (0x400 ≤ off ∧ off < 0x800) && off % 0x40 == 0x14
  | .can => decide (0x180 ≤ off ∧ off < 0x200) && off % 0x10 == 0x08 || decide (0x400 ≤ off ∧ off < 0x800) && off % 0x80 == 0x0C
  | .safety => off == 0x118
  | .memory => off == 0x13C
  | .secure => off == 0x10C
  | .vat => decide (0x200 ≤ off ∧ off < 0x2A0) && (off % 0x20 == 0x08 || off % 0x20 == 0x10)
  | .dump => decide (0x200 ≤ off) && (off - 0x208) % 0x40 == 0
  | .lifeCycle => off == 0x114 || off == 0x128
  | .ripening => off == 0x104
  | .fabric => off == 0x108
  | _ => false

/-- The key under which the upper word of a value is latched for a requester. -/
def latchKey (page off code : Nat) : Nat := Reg.key page off (code % 8)

/-- A word read by a requester, and what the read leaves (R3): the lowest word of a 64-bit value latches the upper word, and
the next read of the upper word gives what was latched. -/
def State.readReg (s : State) (page offset code : Nat) : Word × State :=
  let off := offset % 4096 / 4 * 4
  if lowOf64 page off then
    let hi := (s.standing page (off + 4) code).toNat
    (s.standing page off code, (s.putLatched (Sparse.insert s.latched (latchKey page (off + 4) code) hi)))
  else if 4 ≤ off ∧ lowOf64 page (off - 4) then
    let k := latchKey page off code
    match s.latched.find? fun x => x.1 == k with
    | some x => (BitVec.ofNat 32 x.2, (s.putLatched (Sparse.erase s.latched k)))
    | none => (s.standing page off code, s)
  else (s.standing page off code, s)

/-- The worse of two qualities (R406). -/
def worse (a b : Nat) : Nat := max a b

/-- The quality of a channel of a bank (R405, R413). -/
def State.bankChanQual (s : State) (p k : Nat) : Nat :=
  let f := s.fld p Bk.CH_STATE_FAULT k
  let b := s.burst p (k / 8)
  if (1 ≤ f ∧ f ≤ 4) ∨ b.faulty then 2 else if b.misses = 1 then 1 else 0

/-- The quality of a word of a bank page (R406, R420). -/
def State.bankQual (s : State) (p off : Nat) : Nat :=
  if 0x400 ≤ off ∧ off < 0x800 then
    (if off % 0x40 = 0 ∨ 0x0C ≤ off % 0x40 ∧ off % 0x40 ≤ 0x18 then s.bankChanQual p ((off - 0x400) / 0x40) else 0)
  else if off = 0x180 ∨ off = 0x184 then (List.range 16).foldl (fun q k => worse q (s.bankChanQual p k)) 0
  else if 0x188 ≤ off ∧ off ≤ 0x194 then
    let b := s.burst p 1
    if b.faulty then 2 else if b.misses = 1 then 1 else 0
  else 0

/-- The quality of a word of an axis page (R367). -/
def State.axisQual (s : State) (p off : Nat) : Nat :=
  if off = 0x384 ∨ off = 0x390 ∨ off = 0x394 ∨ off = 0x3A0 ∨ off = 0x3A4 then
    if s.fbFaulty p || (off == 0x394 && !s.flag p Ax.FB_STATUS_ANGLE_VALID) then 2
    else if s.serial p ∧ (s.axis p).fb.goodAt + s.loopPeriod p 2 < s.now then 1
    else 0
  else 0

/-- The quality with which a word of a resource page stands (R19, R367, R400, R405, R433, R454, R481): 0 GOOD, 1 STALE, 2 FAULT. -/
def State.wordQual (s : State) (page off : Nat) : Nat :=
  match pageKind page with
  | .axis => s.axisQual page off
  | .bank => s.bankQual page off
  | .lsGroup => if s.flag page Ls.SENSE_STATUS_FAULT && (off == 0x104 || decide (0x400 ≤ off) && off % 0x40 == 0x0C) then 2 else 0
  | .loopGroup =>
    let k := (off - 0x400) / 0x80
    if 0x400 ≤ off ∧ off < 0x800 ∧ 0x44 ≤ off % 0x80 ∧ off % 0x80 ≤ 0x58 ∧ s.fld page Lp.LP_STATUS_CAUSE k ≠ 0
      ∧ s.fld page Lp.LP_STATUS_MODE k ≠ 2 then 2 else 0
  | .beamGroup =>
    if 0x400 ≤ off ∧ off % 0x40 = 0x20 ∧ s.fld page Bm.BEAM_STATUS_STATE ((off - 0x400) / 0x40) = 4 then 2 else 0
  | .edgeGroup =>
    if 0x400 ≤ off ∧ off % 0x40 = 0x20 ∧ s.fld page Eg.EDGE_STATUS_STATE ((off - 0x400) / 0x40) = 3 then 2 else 0
  | _ =>
    let down := match laneOfPage? page with
      | some l => decide (s.laneState l < 2)
      | none => false
    if (mgmtPage page || down) && !s.mgmtRuns then 2 else 0

end Sys2Proof.Machine
end

