-- ==== Sys2Proof/Machine/Writes.lean ====
section
/-! DEFINITION. Writes of registers (R38, R45-R47, R55): what each register's write does beyond its storage, the writes that a
page refuses, and the words of a configuration image (R63, R115). -/

namespace Sys2Proof.Machine

/-- A row run as part of another one: its effect at this instant, with what it sends after what has been sent. -/
def State.also (s : State) (f : State → Host.Outcome State Fault Refusal) : State :=
  match f s with
  | .next s' => s'.putOut (s.out ++ s'.out)
  | _ => s

/-- MOTOR_TYPE written (R333): NO_MOTOR and DISABLED follow it. -/
def State.motorWritten (s : State) (p : Nat) : State :=
  let m := s.fld p Ax.DRV_CFG_MOTOR_TYPE
  s.setDrive p (if s.pstate p = 0 ∧ m ≠ 0 then 1 else if s.pstate p = 1 ∧ m = 0 then 0 else s.pstate p) 0

/-- RC_CFG written (R479): LAST is lowered so that no identifier exceeds 0x7FF, reported with requester code 0. -/
def State.lowerLast (s : State) (p : Nat) : State :=
  let top := 0x7FF - max (s.fld p Cf.RC_CFG_REQ_BASE) (s.fld p Cf.RC_CFG_RSP_BASE)
  let v := s.fld p Cf.RC_RANGE_LAST
  if v ≤ top then s
  else ((s.setFld p Cf.RC_RANGE_LAST top).reportClamp 0 p Cf.RC_RANGE_LAST.off 16 v top).raise p 13

/-- What a write of a resource page does beyond its storage. -/
def State.afterStage (s : State) (code page off : Nat) (old : Word) : State :=
  match pageKind page with
  | .axis =>
    if off = Ax.LIMIT_NEG.off ∨ off = Ax.LIMIT_POS.off then s.afterLimit page
    else if off = Ax.MOT_CFG_HW_LIMITS.off then s.showPosition page
    else if off = Ax.DRV_CFG_MOTOR_TYPE.off then s.motorWritten page
    else if 0x300 ≤ off ∧ off ≤ 0x318 then s.fbConfigured page off old
    else if off = Ax.OBS_THRESH.off then s.setFld page Ax.THRESH_EFF (s.fld page Ax.OBS_THRESH)
    else if off = Ax.OBS_CFG_ENA.off then (s.showModel page).showPermit page
    else s
  | .bank =>
    if off = Bk.BANK_CFG_LEVEL.off then s.bankConfigured page
    else if 0x400 ≤ off ∧ off < 0x800 ∧ (off % 0x40 = 0 ∨ off % 0x40 = 8 ∨ off % 0x40 = 4) then
      let s := s.chConfigured code page ((off - 0x400) / 0x40)
      if off % 0x40 = 8 then s.showReactions else s
    else s
  | .loopGroup =>
    if 0x400 ≤ off ∧ off < 0x800 ∧ (off - 0x400) % 0x80 = 0 then s.followMode page ((off - 0x400) / 0x80)
    else if 0x400 ≤ off ∧ off < 0x800 ∧ ((off - 0x400) % 0x80 = 4 ∨ (off - 0x400) % 0x80 = 0x10) then s.showReactions
    else s
  | .beamGroup =>
    let k := 8 * (page - 0x50) + (off - 0x400) / 0x40
    if off < 0x400 ∨ 0x600 ≤ off then s
    else if off % 0x40 = 0 then s.beamConfigured k
    else if off % 0x40 = 4 then s.showAllPresence
    else s
  | .edgeGroup =>
    let k := 16 * (page - 0x54) + (off - 0x400) / 0x40
    if off < 0x400 ∨ 0x800 ≤ off then s
    else if off % 0x40 = 0 then s.edgeConfigured k (bitsOf old 31 31 == 1)
    else if off % 0x40 = 4 then s.showAllPresence
    else s
  | .can => if off = Cf.RC_CFG_ENA.off then s.lowerLast page else if off = Cf.CAN_CFG_MODE.off then (s.settleMode page).present_ page else s
  | _ => s

/-- What a write of a page that belongs to no lane does beyond its storage; corner and connection windows are given by the
numbers they are kept under. -/
def State.afterCommon (s : State) (page off : Nat) (old : Word) : State :=
  match storeKind page with
  | .lane => if off = Ln.HB_POLICY_STOP_ON_FAULT.off then s.hbFault (if page = 1 then .a else .b) else s
  | .device => if off = 0x140 ∨ off = 0x150 ∨ off = 0x154 then s.afterProfile else s
  | .avenue =>
    if 0x600 ≤ off ∧ off < 0xE00 ∧ off % 0x20 = 0 then
      let a := (off - 0x600) / 0x20
      ((s.flagCorners a).restartAvenue a 1).showCorners a
    else if 0x600 ≤ off ∧ off < 0xE00 ∧ off % 0x20 = 4 then
      let a := (off - 0x600) / 0x20
      s.setFld 0x0C Av.AV_STATE_CIRC (bool01 (s.avCirc a)) a
    else s
  | .corner => if 0x80 ≤ page ∧ 0x400 ≤ off then s.cornerChanged (page - 0x80) ((off - 0x400) / 0x20) else s
  | .ration => if 0x400 ≤ off ∧ off < 0x500 then s.settle ((off - 0x400) / 0x80) else s
  | .kerb => if 0x400 ≤ off ∧ off < 0x600 then s.mapWritten else s
  | .safety | .safeOut => if 0x100 ≤ off then s.showReactions.showSafeCfg else s
  | .conns =>
    if 0xC0 ≤ page then s.showReactions.showSafeCfg else s.showSafeCfg
  | .debug =>
    if 0x200 ≤ off ∧ off < 0x240 ∧ off % 8 = 0 ∧ bitsOf old 31 31 = 0 then
      let b := (off - 0x200) / 8
      let zero (s : State) (l : Lane) : State := s.setCle l { s.cle l with arrivals := (s.cle l).arrivals.wr 0 b 0 }
      if s.flag 0x0B Db.BP_ADDR_ENA b then zero (zero s .a) .b else s
    else s
  | .vat =>
    let s := if page = 0x68 ∧ 2 ≤ s.laneState .b then s.setReg 0x69 off (s.reg 0x68 off) else s
    if off = Vt.VAT_CFG_WEAR_WARN_PCT.off then (s.showWear .a).showWear .b else s
  | .fabric => s.queueHigh
  | .mgmt =>
    if off = Mg.SAT_CFG_SAT_PCT.off then
      s.level 0x70 0 (decide (s.fld 0x70 Mg.SAT_CFG_SAT_PCT ≤ s.fld 0x70 Mg.MGMT_LOAD_LOAD_PCT))
    else s
  | .hostPorts => if off = Pt.PTP_CFG_DOMAIN.off then s.ptpRoles else s
  | .hostRights =>
    -- the class of each role in force (R152, R159)
    if off = Ss.ROLE_CLASS_OPERATOR.off then
      s.each ((List.range 4).filter fun k => (s.slot k).active) fun s k => s.setFld 6 Ss.SLOT_STATE_CLASS (s.roleClass (s.slot k).role) k
    else s
  | _ => s

/-- What a write does beyond its storage. -/
def State.afterWrite (s : State) (code page off : Nat) (old : Word) : State :=
  if off < 0x100 then s
  else if (pageKind page).owned then s.afterStage code page off old
  else s.afterCommon page off old

/-- A register word stored, with what follows; `rep` is the page that reports a clamp. -/
def State.storeAll (s : State) (code page off : Nat) (value : Word) (rep : Nat) : State :=
  let old := s.reg page off (Reg.bank page off code)
  (s.store code page off value rep).afterWrite code page off old

/-- A write that its page refuses in its present state, where no row of its own says so (R342, R440, R465, R491, R514, R517,
R620): 0 lets it pass. -/
def State.stateGuard (s : State) (page off : Nat) : Nat :=
  let refused : Bool :=
    match pageKind page with
    | .axis => decide (0x200 ≤ off ∧ off ≤ 0x230) && decide (2 ≤ s.pstate page ∧ s.pstate page ≤ 5)
        || decide (0x300 ≤ off ∧ off ≤ 0x318) && s.fbHeld page || decide (0x600 ≤ off ∧ off < 0xE00) && !s.mapOpen page
    | .kerb => decide (0x100 ≤ off) && s.lifeCycle != 1
    | .lifeCycle => off == Lc.RIND_CFG_SEAL_WAIT_S.off && s.lifeCycle != 1
    | .can => decide ((0x104 ≤ off ∧ off ≤ 0x12C) ∨ (0x200 ≤ off ∧ off ≤ 0x2FC)) && s.canState page != 0
    | .safety | .conns | .safeOut => writeClass page off == .config && !s.maintenance
    | _ => false
  if refused then RC.state else 0

/-- The fields that lane B shows as its own copy and that ignore writes: the shared values of R164 and the Vat's
configuration (R568); the window of page 0x74 while KIND is 1 (R620); and what a CAN controller hides in its queue mode
(R477). -/
def State.ignoresWrite (s : State) (page off : Nat) : Bool :=
  match page with
  | 0x09 => off == 0x100 || off == 0x104
  | 0x69 => decide (0x100 ≤ off)
  | 0x74 => decide (0x400 ≤ off) && s.fld 0x74 Lc.WIN_CTRL_KIND == 1
  | _ => pageKind page == .can && decide (0x100 ≤ off) &&
      (if s.compat page then decide (0x170 ≤ off ∧ off < 0x180) || decide (0x800 ≤ off ∧ off < 0xC00)
       else decide (0x300 ≤ off ∧ off < 0x800))

/-- The page under whose number a write of a window word is kept (R278, R517). -/
def State.windowPage (s : State) (w : WriteReq) : Nat :=
  if w.page = 0x61 ∧ 0x400 ≤ w.off then connPage (s.winConn w.code) else w.page

/-- A word of a 64-bit value that is written (R3): the low word waits for the high one, with which the value takes effect.
PEER_REF is the one such value that registers take. -/
def State.storeWide (s : State) (w : WriteReq) : State :=
  let p := s.windowPage w
  let key := latchKey p 0x408 w.code
  let s := if 0xC0 ≤ p ∧ w.page = 0x61 ∧ w.off ≤ 0x418 then s.keepConn (p - 0xC0) else s
  if storeKind p ≠ .conns ∨ (w.off ≠ 0x408 ∧ w.off ≠ 0x40C) then s.storeAll w.code p w.off w.value w.page
  else if w.off = 0x408 then s.putLowWrites (s.lowWrites.wr 0 key (w.value.toNat + 1))
  else
    let v := s.lowWrites.rd 0 key
    let s := s.putLowWrites (s.lowWrites.wr 0 key 0)
    let s := if v = 0 then s else s.store w.code p 0x408 (BitVec.ofNat 32 (v - 1)) w.page
    s.storeAll w.code p 0x40C w.value w.page

/-- A write to a register that has no row of its own (R55). -/
def State.plainWrite (s : State) (w : WriteReq) : State :=
  s.writeGuard w (fun s => s.stateGuard w.page w.off) fun s =>
    if s.ignoresWrite w.page w.off then s else s.storeWide w

/-- CMD_ARG0 or CMD_ARG1 (R45): only the writer's bank changes, and only the generation is checked; an unused page ignores
it (R41). -/
def State.argWrite (s : State) (w : WriteReq) : State :=
  if !pageUsed w.page then s.writeReply w 0 RC.done
  else if s.holds w.page w.code then s.holdReq w.page (.write w)
  else if s.quietVerdict w ≠ 0 then s.writeReply w (s.pstate w.page) (s.quietVerdict w)
  else (s.setReg w.page w.off w.value (w.code % 8)).writeReply w (s.pstate w.page) RC.done

/-- PAGE_LOCK (R46, R47): while it is locked, only the holder and the configuration image write it. LOCKED_BY reads 0 once
LOCK is 0 (DESIGN CHOICE, log entry 22). -/
def State.lockWrite (s : State) (w : WriteReq) : State :=
  let w := { w with off := 0x1C }
  s.writeGuard w (fun s =>
      if s.flag w.page Hd.PAGE_LOCK_LOCK ∧ s.fld w.page Hd.PAGE_LOCK_LOCKED_BY ≠ w.code then RC.rights else 0) fun s =>
    let on := bitsOf w.value 0 0
    (s.setFld w.page Hd.PAGE_LOCK_LOCK on).setFld w.page Hd.PAGE_LOCK_LOCKED_BY (if on = 1 then w.code else 0)

/-- EVT_PEND (R43, R47): a 1 clears its bit. -/
def State.pendWrite (s : State) (w : WriteReq) : State :=
  let w := { w with off := 0x24 }
  s.writeGuard w (fun _ => 0) fun s =>
    s.setFld w.page Hd.EVT_PEND (s.fld w.page Hd.EVT_PEND &&& (2 ^ 16 - 1 - w.value.toNat % 2 ^ 16))

/-- A write of a resource page: the row of its register, or R55 alone. -/
def State.stageWrite (s : State) (w : WriteReq) : State :=
  let t := s.now
  let o := w.off
  let c := (o - 0x400) / 0x40
  match pageKind w.page with
  | .axis =>
    let a := Fin.ofNat 32 (w.page - 0x10)
    if o = 0x104 ∨ o = 0x108 then s.also (execLimitWrite t w.code w.gen a (o == 0x108) w.value)
    else if 0x300 ≤ o ∧ o ≤ 0x318 then s.also (execFbConfigWrite t w.code w.gen a (Fin.ofNat 7 ((o - 0x300) / 4)) w.value)
    else if o = Ax.OBS_THRESH.off then s.also (execObsThreshWrite t w.code w.gen a w.value)
    else if 0x600 ≤ o ∧ o < 0xE00 ∧ (o % 16 = 0 ∨ o % 16 = 8) then
      s.also (execForceMapWrite t w.code w.gen a (Fin.ofNat 128 ((o - 0x600) / 16)) (o % 16 == 8) w.value)
    else s.plainWrite w
  | .bank =>
    let b := Fin.ofNat 16 (w.page - 0x30)
    if o = Bk.OUT_SET.off then s.also (execOutSetWrite t w.code w.gen b w.value)
    else if 0x400 ≤ o ∧ o < 0x800 ∧ o % 0x40 = 0 then s.also (execChCfgWrite t w.code w.gen b (Fin.ofNat 16 c) w.value)
    else s.plainWrite w
  | .lsGroup =>
    let g := Fin.ofNat 8 (w.page - 0x40)
    if o = 0x140 then s.also (execLsCmdWrite t w.code w.gen g w.value)
    else if 0x400 ≤ o ∧ o < 0x600 ∧ o % 0x40 = 4 then s.also (execChPwmWrite t w.code w.gen g (Fin.ofNat 8 c) w.value)
    else s.plainWrite w
  | .loopGroup =>
    let g := Fin.ofNat 4 (w.page - 0x4C)
    let k := Fin.ofNat 8 ((o - 0x400) / 0x80)
    if 0x400 ≤ o ∧ o < 0x800 ∧ o % 0x80 = 0x14 then s.also (execOutUaWrite t w.code w.gen g k w.value)
    else if 0x400 ≤ o ∧ o < 0x800 ∧ o % 0x80 = 0 then s.also (execLoopModeWrite t w.code w.gen g k w.value)
    else s.plainWrite w
  | .beamGroup =>
    if 0x400 ≤ o ∧ o < 0x600 ∧ o % 0x40 = 0 then
      s.also (execBeamConfigWrite t w.code w.gen (Fin.ofNat 32 (8 * (w.page - 0x50) + c)) w.value)
    else s.plainWrite w
  | .edgeGroup =>
    if 0x400 ≤ o ∧ o < 0x800 ∧ o % 0x40 = 0 then
      s.also (execEdgeConfigWrite t w.code w.gen (Fin.ofNat 32 (16 * (w.page - 0x54) + c)) w.value)
    else s.plainWrite w
  | .can =>
    let n := Fin.ofNat 8 (w.page - 0x58)
    match o with
    | 0x100 => s.also (execCanModeWrite t w.code w.gen n w.value)
    | 0x170 => s.also (execTxGoWrite t w.code w.gen n w.value)
    | 0x178 => s.also (execTxcAckWrite t w.code w.gen n w.value)
    | 0x17C => s.also (execRxAckWrite t w.code w.gen n w.value)
    | 0x300 => s.also (execTxsLatchWrite t w.code w.gen n w.value)
    | 0x30C => s.also (execRxsAckWrite t w.code w.gen n w.value)
    | _ => s.plainWrite w
  | _ => s.plainWrite w

/-- A write of a page that belongs to no lane: the row of its register, or R55 alone. -/
def State.commonWrite (s : State) (w : WriteReq) : State :=
  let t := s.now
  let o := w.off
  match pageKind w.page with
  | .device =>
    if o = 0x140 then s.also (execProfileWrite t w.code w.gen 0 w.value)
    else if o = 0x150 then s.also (execProfileWrite t w.code w.gen 1 w.value)
    else if o = 0x154 then s.also (execProfileWrite t w.code w.gen 2 w.value)
    else s.plainWrite w
  | .crossing => if o = Xg.TAKEOVER_MS.off then s.also (execTakeoverMsWrite t w) else s.plainWrite w
  | .avenue =>
    let a := Fin.ofNat 64 ((o - 0x600) / 0x20)
    if o < 0x600 ∨ 0xE00 ≤ o then s.plainWrite w
    else if o % 0x20 = 0 then s.also (execAvSrcWrite t w.code w.gen a w.value)
    else if o % 0x20 = 0x18 then s.also (execAvInWrite t w.code w.gen a false w.value)
    else if o % 0x20 = 0x1C then s.also (execAvInWrite t w.code w.gen a true w.value)
    else s.plainWrite w
  | .corner =>
    if o < 0x400 ∨ 0xC00 ≤ o ∨ 4 < o % 0x20 then s.plainWrite w
    else s.also (execCornerWindowWrite t w.code w.gen (Fin.ofNat 64 ((o - 0x400) / 0x20)) (o % 0x20 == 4) w.value)
  | .ration =>
    if 0x400 ≤ o ∧ o < 0x500 ∧ o % 0x80 < 0x14 then
      s.also (execRationConfigWrite t w.code w.gen (Fin.ofNat 2 ((o - 0x400) / 0x80)) (Fin.ofNat 5 (o % 0x80 / 4)) w.value)
    else s.plainWrite w
  | .kerb =>
    if 0x400 ≤ o ∧ o < 0x600 ∧ o % 0x40 < 0x10 then
      s.also (execKmapWrite t w.code w.gen (Fin.ofNat 8 ((o - 0x400) / 0x40)) (Fin.ofNat 4 (o % 0x40 / 4)) w.value)
    else s.plainWrite w
  | .safeOut => if o = So.SO_DEMAND.off then s.also (execSoDemandWrite t w.code w.gen w.value) else s.plainWrite w
  | _ => s.plainWrite w

/-- A write of any register but CMD, by the rule of the register it reaches (R38, R45-R47, R55). -/
def State.writeAny (s : State) (w : WriteReq) : State :=
  let w := { w with off := w.off % 4096 / 4 * 4 }
  if w.off = 0x34 ∨ w.off = 0x38 then s.argWrite w
  else if w.off = 0x1C then s.lockWrite w
  else if w.off = 0x24 then s.pendWrite w
  else if w.off < 0x100 then s.plainWrite w
  else if (pageKind w.page).owned then s.stageWrite w
  else s.commonWrite w

/-- CMD_ARG_WRITE (R45). -/
def execCmdArgWrite (t : Nat) (w : WriteReq) (s : State) : Host.Outcome State Fault Refusal :=
  .next ((s.start t).argWrite { w with off := if w.off = 0x38 then 0x38 else 0x34 })

/-- EVT_PEND_CLEAR (R47). -/
def execEvtPendClear (t : Nat) (w : WriteReq) (s : State) : Host.Outcome State Fault Refusal :=
  .next ((s.start t).pendWrite w)

/-- PAGE_LOCK_WRITE (R46). -/
def execPageLockWrite (t : Nat) (w : WriteReq) (s : State) : Host.Outcome State Fault Refusal :=
  .next ((s.start t).lockWrite w)

/-! The words of a configuration image (R63, R115). -/

/-- A clamp report entry (R63): written to the Vats of the given lanes and to the management log. -/
def State.clampEntry (s : State) (page : Nat) (lanes : List Lane) : State :=
  let ws := [page, (s.reg page Hd.CLAMP_LAST.off).toNat, (s.reg page Hd.CLAMP_REQ.off).toNat, (s.reg page Hd.CLAMP_APPLIED.off).toNat]
  let s := lanes.foldl (fun s l => s.logEntry l s.plainRec 3 ws) s
  (s.bump 4 Pw.CFG_LOAD_CLAMPS).mlog 2 (ws.flatMap (leBytes 4))

/-- The fields of a word of an image written from bit 0 upwards, each clamp reported (R63). -/
def State.imageFields (s : State) (page off bank : Nat) (value : Word) (rep : Nat) (lanes : List Lane) :
    List (RegField × Nat × Nat) → State × Bool
  | [] => (s, false)
  | r :: rest =>
    let (s, c) := s.writeField 0 page off bank value rep r
    let s := if c then s.clampEntry rep lanes else s
    let (s, d) := s.imageFields page off bank value rep lanes rest
    (s, c || d)

/-- Where a word of a page image goes (R278, R394, R517): offsets from 0x1000 upwards spell the windows, 0x1000 × (i + 1) + o
being the window word o with the selector at i; of a force map, at bin 128 × i. -/
def imageTarget (page off : Nat) : Nat × Nat :=
  if off < 0x1000 then (page, off)
  else if page = 0x0D then (0x80 + (off / 0x1000 - 1) % 64, off % 0x1000)
  else if page = 0x61 then (0xC0 + (off / 0x1000 - 1) % 64, off % 0x1000)
  else (page, off % 0x1000)

/-- A map word of an image (R378): taken at a start-up that finds the model EMPTY, with the other words of its image. -/
def State.imageMap (s : State) (p off : Nat) (value : Word) : State :=
  let n := (if off < 0x1000 then 0 else (off / 0x1000 - 1) * 128) + (off % 0x1000 - 0x600) / 16
  if off % 16 = 0 ∨ off % 16 = 8 then s.writeBin p n (off % 16 == 8) value else s

/-- Whether a word of an image is a map word (R378). -/
def isMapWord (page off : Nat) : Bool := pageKind page == .axis && decide (0x600 ≤ off % 0x1000 ∧ off % 0x1000 < 0xE00)

/-- PAGE_LOCK in an image (R46): requester code 0 holds the lock. -/
def State.imageLock (s : State) (page : Nat) (value : Word) : State :=
  (s.setFld page Hd.PAGE_LOCK_LOCK (bitsOf value 0 0)).setFld page Hd.PAGE_LOCK_LOCKED_BY 0

/-- A word of a page image applied with requester code 0 (R63, R115 step 3); words of page 0x48 are refused (R440). CLAMPED is
raised for each word that is clamped (DESIGN CHOICE, log entry 104). -/
def State.imageWord (s : State) (page off : Nat) (value : Word) (lanes : List Lane) (maps : Bool) : State :=
  let off := off / 4 * 4
  if page = 0x48 ∨ !pageUsed page then s
  else if isMapWord page off then (if maps then s.imageMap page off value else s)
  else if off = 0x1C then s.imageLock page value
  else if off < 0x100 ∧ off ≠ 0x14 ∧ off ≠ 0x28 ∧ off ≠ 0x2C then s
  else
    let (p, o) := imageTarget page off
    let bank := Reg.bank p o 0
    let old := s.reg p o bank
    let (s, c) := s.imageFields p o bank value page lanes (fieldsAt (tableOf p o) o)
    let s := if c then s.raise page 13 else s
    s.afterWrite 0 p o old

/-- An offset-value pair put in its place among pairs in ascending offset. -/
def insertPair (x : Nat × Word) : List (Nat × Word) → List (Nat × Word)
  | [] => [x]
  | y :: rest => if x.1 < y.1 then x :: y :: rest else y :: insertPair x rest

/-- The words of a page image in ascending offset (R115 step 3). -/
def ascending (ws : List (Nat × Word)) : List (Nat × Word) := ws.foldl (fun l x => insertPair x l) []

/-- A page image applied (R63, R115): one whose CRC fails is not applied at all. -/
def State.imagePage (s : State) (i : PageImage) (lanes : List Lane) (maps : Bool) : State :=
  if !i.crcOk then (s.bump 4 Pw.CFG_LOAD_BAD_PAGES).raise 0 3 i.page
  else
    let early := s.fld i.page Ax.OBS_STATUS_MODEL_STATE == 0
    (ascending i.words).foldl (fun s x => s.imageWord i.page x.1 x.2 lanes (maps && early)) s

end Sys2Proof.Machine
end

