-- ==== Sys2Proof/Machine/StageReset.lean ====
section
/-! DEFINITION. The resets of the resource stages (R34, R56, R59, R109, R111) and the common opcodes of every page (R56). -/

namespace Sys2Proof.Machine

/-- The configuration image that a lane uses (R115 step 1): the active one, or the previous one where that fails. -/
def State.imageOf (s : State) (l : Lane) : Option ConfigImage :=
  if (s.power.active.of l).valid then some (s.power.active.of l)
  else if (s.power.previous.of l).valid then some (s.power.previous.of l)
  else none

/-- The start-up owner of a resource (R34): of the map of the image applied, or the default of R33. -/
def State.startOwner (s : State) (p : Nat) : Nat :=
  match s.power.appliedMap.find? fun x => x.1 == p with
  | some x => if x.2 = 2 then 2 else 1
  | none => defaultOwner p

/-- A resource takes its start-up owner (R34, R87): nobody is accepted until that lane's heartbeat is present. -/
def State.takeStartOwner (s : State) (p cause : Nat) : State :=
  let o := s.startOwner p
  let was := s.owner p
  let s := (s.setFld 3 Xg.OWN_STATE_OWNER o p).setFld 3 Xg.OWN_STATE_OFFER 0 p
  let s := ((s.setFld 3 Xg.OWN_STATE_REQUEST 0 p).setFld 3 Xg.OWN_STATE_HB_A 0 p).setFld 3 Xg.OWN_STATE_HB_B 0 p
  let s := s.setRes p { beatA := { since := s.now }, beatB := { since := s.now }, held := (s.resRec p).held }
  if was = o then s else ((s.setFld 3 Xg.OWN_STATE_CAUSE cause p).bump 3 Xg.OWN_STATE_CHANGES p).raise 3 4 (p + o * 2 ^ 8 + cause * 2 ^ 10)

/-- The ownership requests a resource has accepted are answered before its generation changes (R59). -/
def State.answerArb (s : State) (p : Nat) : State :=
  (s.resRec p).arb.foldl State.ownDecide (s.setRes p { s.resRec p with arb := [] })

/-- A request that waited for the result of an ownership request is refused when its page has taken another generation (R58, R59). -/
def State.refuseHeld (s : State) : LaneReq → State
  | .own r => s.refuse r.req RC.generation
  | .cmd q _ => s.refuse q RC.generation
  | .write w =>
    if w.off = 0x34 ∨ w.off = 0x38 ∨ writeClass w.page w.off = .ignored then s.writeReply w (s.pstate w.page) RC.generation
    else s.refuseWrite w RC.generation

/-- The requests that waited at a resource, refused after its reset. -/
def State.dropHeld (s : State) (p : Nat) : State :=
  (s.resRec p).held.foldl State.refuseHeld (s.setRes p { s.resRec p with held := [] })

/-- The page image of a stage applied again with requester code 0 (R111), without its map words (R378). -/
def State.reapplyPage (s : State) (l : Lane) (p : Nat) : State :=
  match s.imageOf l with
  | none => s
  | some im => (im.pages.filter fun i => i.page == p).foldl (fun s i => s.imagePage i [l] false) s

/-- The corner table of an avenue applied again from the image (R111, R272). -/
def State.reapplyCorners (s : State) (l : Lane) (a : Nat) : State :=
  match s.imageOf l with
  | none => s
  | some im =>
    let mine (x : Nat × Word) : Bool := decide (0x1000 * (a + 1) ≤ x.1 ∧ x.1 < 0x1000 * (a + 2))
    (im.pages.filter fun i => i.page == 0x0D && i.crcOk).foldl (fun s i =>
      (ascending (i.words.filter mine)).foldl (fun s x => s.imageWord 0x0D x.1 x.2 [l] false) s) s

/-- The avenues of a stage, or of the common section under page 0, restarted by its reset (R272, R276); with `l`, their corner
tables are applied again. The values written to the avenues of the common section are gone (log entry 125). -/
def State.hostReset (s : State) (p : Nat) (l : Option Lane) : State :=
  let as := s.hosted p
  if as = [] ∧ p ≠ 0 then s
  else
    let s := as.foldl (fun s a =>
      let s := if p = 0 then
          ((s.setFld 0x0C Av.AV_IN 0 a).setFld 0x0C Av.AV_IN_RATE 0 a).modAv a fun x => { x with inAt := none }
        else s
      let s := match l with
        | some l => (s.clearPages (· == cornerPage a)).reapplyCorners l a
        | none => s
      (s.restartAvenue a 2).showCorners a) s
    (s.nextGeneration 0x0C).nextGeneration 0x0D

/-- An axis stage as its reset leaves it (R109, R281): no torque, no charge, nothing that it has planned; the force map is
kept in its non-volatile memory (R378). -/
def State.resetAxis (s : State) (p : Nat) : State :=
  let b := busOf p
  let s := (s.unqueue p).setCharge p 0 0
  let s := s.setBus b { s.bus b with asked := (s.bus b).asked.filter fun x => !x.2.contains p }
  let model := s.fld p Ax.OBS_STATUS_MODEL_STATE
  let left := s.fld p Ax.TEACH_LEFT
  let map := (s.axis p).force.map
  let s := (s.modAxis p fun _ => { force := { map := map } }).resetPage p
  let s := ((s.setFld p Ax.OBS_STATUS_MODEL_STATE model).setFld p Ax.TEACH_LEFT left).showModel p
  (s.showPresence p).settle b

/-- A load-switch channel as a reset leaves it (R442): off, its clamp sum and lock kept, and under the kerb as before. -/
def LsChan.reset (c : LsChan) : LsChan :=
  { src := c.src, line := c.line, kerb := c.kerb, thermal := c.thermal, locked := c.locked, sums := c.sums, kerbHold := c.kerbHold }

/-- BLOCK_RESET of a load-switch group (R442): what is switched off is counted by its CLAMP_END, as any switch-off is. -/
def State.resetGroup (s : State) (p : Nat) : State :=
  let sums := (List.range 8).map fun k => s.fld p Ls.CH_CLAMP_SUM_MJ k
  let s := (s.modGroup p fun g => { chans := g.chans.map fun e => (e.1, e.2.reset) }).resetPage p
  let s := (List.range 8).foldl (fun s k => s.setFld p Ls.CH_CLAMP_SUM_MJ (sums.getD k 0) k) s
  if s.railOf p then s.driveGroup p else s.groupRailLost p

/-- BLOCK_RESET of a field bank (R421): every switch opens, the link restarts, STARTING. -/
def State.resetBank (s : State) (p : Nat) : State :=
  let keep (c : FeChan) : FeChan := { kerbHold := c.kerbHold, kerbOn := c.kerbOn, temp := c.temp }
  let s := (s.modBank p fun b => { chans := b.chans.map fun e => (e.1, keep e.2) }).resetPage p
  s.driveBank p

/-- BLOCK_RESET of a loop group (R460): every output at 0 mA, every supply off, STARTING. -/
def State.resetLoops (s : State) (p : Nat) : State :=
  let s := (s.each (List.range 8) fun s k => s.setLoop p k {}).resetPage p
  s.each (List.range 8) fun s k => s.driveLoop p k

/-- The generation of a page goes on with its registers kept (R57, R59). -/
def State.restartPage (s : State) (p : Nat) : State :=
  (s.completeAll (fun o => o.page == p) RC.aborted).nextGeneration p

/-- The beams of a group restart as at enable (R390, R396). -/
def State.restartBeams (s : State) (p : Nat) : State :=
  s.each (List.range 8) fun s i => s.beamRestart (8 * (p - 0x50) + i)

/-- The edges of a group restart as at enable (R386, R399). -/
def State.restartEdges (s : State) (p : Nat) : State :=
  s.each (List.range 16) fun s i =>
    let k := 16 * (p - 0x54) + i
    let s := s.setEdge k 0 0
    s.edgeConfigured k false

/-- A controller as its reset leaves it (R480): every entry ended, the queues and buffers discarded, OFF. -/
def State.resetCan (s : State) (p : Nat) : State :=
  let s := ((s.endEntries p 6 fun _ => true).discardCan p).setCanState p 0
  (s.setCan p {}).resetPage p

/-- What ends every reset of a block (R122, R125, R512). -/
def State.resetNoted (s : State) (code : Nat) : State := ((s.logReset code []).raise 4 5 code).showReactions

/-- The lane whose firmware reapplies the image of a stage (R111), while it runs. -/
def State.reapplier (s : State) (p : Nat) : Option Lane :=
  match laneOf? (s.owner p) with
  | some l => if 2 ≤ s.laneState l then some l else none
  | none => none

/-- A reset of a CAN controller, by code 9 or 10 (R480): the page image is applied again after either. -/
def State.canReset (s : State) (p code : Nat) : State :=
  if (s.can p).sending.isSome then s.modCan p fun c => { c with resetDue := some code }
  else
    let s := s.answerArb p
    let s := if code = 9 then s.takeStartOwner p 3 else s
    let s := s.resetCan p
    let s := s.dropHeld p
    let s := match s.reapplier p with
      | some l => s.reapplyPage l p
      | none => s
    s.resetNoted code

/-- A reset that has waited for the end of a frame (R480). -/
def State.canResetDue (s : State) (p : Nat) : State :=
  match (s.can p).resetDue with
  | some code => if (s.can p).sending.isSome then s else (s.modCan p fun c => { c with resetDue := none }).canReset p code
  | none => s

/-- CAN_FRAME_RX (R464, R467, R468, R479): a frame of another node is complete. -/
def execCanFrameRx (t : Nat) (c : Fin 8) (sof : Nat) (x : CanFrame) (s : State) : Host.Outcome State Fault Refusal :=
  .next (((s.start t).also (canFrameRxed t c sof x)).canResetDue (canPage c))

/-- CAN_TX_END (R466, R473): the frame being sent has succeeded. -/
def execCanTxEnd (t : Nat) (c : Fin 8) (sof tdcv : Nat) (s : State) : Host.Outcome State Fault Refusal :=
  .next (((s.start t).also (canTxEnded t c sof tdcv)).canResetDue (canPage c))

/-- CAN_TX_ERROR (R466): an error in the controller's own transmission. -/
def execCanTxError (t : Nat) (c : Fin 8) (kind : Fin 8) (pos : Nat) (exempt : Bool) (s : State) : Host.Outcome State Fault Refusal :=
  .next (((s.start t).also (canTxFailed t c kind pos exempt)).canResetDue (canPage c))

/-- CAN_RX_ERROR (R464, R483): an error while receiving. -/
def execCanRxError (t : Nat) (c : Fin 8) (kind : Fin 8) (pos : Nat) (by8 : Bool) (s : State) : Host.Outcome State Fault Refusal :=
  .next (((s.start t).also (canRxFailed t c kind pos by8)).canResetDue (canPage c))

/-- BLOCK_RESET of a block as its chapter gives it (R56, R421, R442, R460, R396, R399, R480); the registers keep their reset
values until they are written (R111). -/
def State.blockReset (s : State) (p : Nat) : State :=
  match pageKind p with
  | .bank => ((s.resetBank p).hostReset p none).resetNoted 10
  | .lsGroup => (s.resetGroup p).resetNoted 10
  | .loopGroup => ((s.resetLoops p).hostReset p none).resetNoted 10
  | .beamGroup => ((s.restartPage p).restartBeams p).resetNoted 10
  | .edgeGroup => ((s.restartPage p).restartEdges p).resetNoted 10
  | .can => s.canReset p 10
  | _ => s

/-- The kinds of page whose chapter gives a block reset. -/
def blockResets (k : PageKind) : Bool :=
  k == .bank || k == .lsGroup || k == .loopGroup || k == .beamGroup || k == .edgeGroup || k == .can

/-- BLOCK_RESET (R56, R59): the result is written under the old generation. -/
def cmdBlockReset : Cmd where
  opc := 0xF0
  kinds := blockResets
  act := fun s _ _ _ => (s, RC.done)
  after := fun s q =>
    let s := (s.answerArb q.page).blockReset q.page
    if pageKind q.page = .can then s else s.dropHeld q.page

def execBlockReset (t : Nat) (q : Req) (s : State) : Host.Outcome State Fault Refusal :=
  .next ((s.start t).command q cmdBlockReset)

/-- What a stage's own reset makes of its block. -/
def State.resetStage (s : State) (p : Nat) : State :=
  match pageKind p with
  | .axis => s.resetAxis p
  | .bank => s.resetBank p
  | .lsGroup => s.resetGroup p
  | .loopGroup => s.resetLoops p
  | .beamGroup => ((s.resetPage p).setPstate p 1).restartBeams p
  | .edgeGroup => ((s.resetPage p).setPstate p 1).restartEdges p
  | _ => s

/-- A stage resets by code 9 (R34, R109, R111): it takes its start-up owner, and that lane's firmware applies its page image
again. -/
def State.stageSelfReset (s : State) (p : Nat) : State :=
  if !(pageKind p).owned then s
  else if pageKind p = .can then s.canReset p 9
  else
    let s := (s.answerArb p).takeStartOwner p 3
    let s := (s.resetStage p).dropHeld p
    let l := s.reapplier p
    let s := match l with
      | some l => s.reapplyPage l p
      | none => s
    (((s.hostReset p l).resetNoted 9).settleErrands)

/-- The safe-output stage resets (R488, R109): pages 0x60 and 0x62 take the image again. -/
def State.safetyStageReset (s : State) : State :=
  let s := ((s.resetPage 0x60).resetPage 0x62).safetyReset
  let l := s.servingLane
  let s := if 2 ≤ s.laneState l then (s.reapplyPage l 0x60).reapplyPage l 0x62 else s
  s.showReactions.showSafeCfg.resetNoted 9

/-- STAGE_SELF_RESET (R109, R111, R272, R488): the stage of a resource page, the safe-output stage under page 0x60, or the common
section of the Avenue unit under page 0x0C. -/
def execStageSelfReset (t : Nat) (page : Nat) (s : State) : Host.Outcome State Fault Refusal :=
  let s := s.start t
  .next <|
    if page = 0x60 ∨ page = 0x62 then s.safetyStageReset
    else if page = 0x0C ∨ page = 0x0D then
      (s.hostReset 0 (if 2 ≤ s.laneState s.servingLane then some s.servingLane else none)).resetNoted 9
    else s.stageSelfReset page

/-- CLAMP_CLEAR (R56). -/
def cmdClampClear : Cmd where
  opc := 0xF1
  kinds := fun _ => true
  act := fun s q _ _ =>
    let s := (s.setReg q.page Hd.CLAMP_COUNT_COUNT.off 0).setReg q.page Hd.CLAMP_LAST.off 0
    ((s.setReg q.page Hd.CLAMP_REQ.off 0).setReg q.page Hd.CLAMP_APPLIED.off 0, RC.done)

def execClampClear (t : Nat) (q : Req) (s : State) : Host.Outcome State Fault Refusal :=
  .next ((s.start t).command q cmdClampClear)

/-- How many events a page has from bit 0 upwards, beside the common ones (each chapter's event table). -/
def PageKind.events : PageKind → Nat
  | .device | .lane | .avenue | .ration | .beamGroup | .mgmt | .lifeCycle | .update => 5
  | .crossing | .axis => 12
  | .power | .can => 11
  | .hostPorts | .hostRights | .safety | .memory => 6
  | .cle => 10
  | .onlineChange | .bank | .lsGroup | .vat => 8
  | .debug | .kerb | .loopGroup | .edgeGroup | .conns | .safeOut => 4
  | .corner | .secure | .sensors | .fabric => 2
  | .ripening | .dump => 3
  | .unused => 0

/-- EVT_TEST (R56): the event as a pulse with TEST set, only in MAINTENANCE; a bit that names no event is out of range, and
so is an ARG0 with a bit above [3:0] set (log entry 25). -/
def cmdEvtTest : Cmd where
  opc := 0xF2
  kinds := fun _ => true
  range := fun _ ch a _ => ch == 0 && decide (a < 16)
  allow := fun s q a _ =>
    if 12 ≤ a ∨ a < (pageKind q.page).events then (if s.maintenance then 0 else RC.state) else RC.range
  act := fun s q a _ => (s.occur q.page a 0 true, RC.done)

def execEvtTest (t : Nat) (q : Req) (s : State) : Host.Outcome State Fault Refusal :=
  .next ((s.start t).command q cmdEvtTest)

/-- NOP (R41, R56): checked for generation alone. -/
def State.nopCmd (s : State) (q : Req) : State :=
  if s.holds q.page q.code then s.holdReq q.page (.cmd q 0xFF)
  else if !pageUsed q.page then s.refuse q RC.opcode
  else if q.gen ≠ s.gen q.page then s.refuse q RC.generation
  else s.writeResult q (s.pstate q.page) RC.done

def execNop (t : Nat) (q : Req) (s : State) : Host.Outcome State Fault Refusal :=
  .next ((s.start t).nopCmd q)

end Sys2Proof.Machine
end

