-- ==== Sys2Proof/Machine/Power.lean ====
section
/-! DEFINITION. The power supervisor (R102-R110, R122-R125): the resets of the whole module, the supplies, and the commands of
page 0x04. -/

namespace Sys2Proof.Machine

/-- The words that a power-on or a DEVICE_RESET leaves (R107, R109, R112, R121): what lies in the standby domain, in flash, MRAM
and the Vats, what is counted since power-on, which a DEVICE_RESET is not (code 1; R96, R122), and, while a load-switch rail is
present, what the kerb supervisor shows. -/
def State.keptByReset (s : State) (code page off : Nat) : Bool :=
  match page with
  | 0x04 => code == 1 && off == Pw.INTERRUPTS_A.off
  | 0x48 => decide (0x100 ≤ off) && (s.anyRail || off == 0x100 || decide (0x400 ≤ off ∧ off < 0x600 ∧ off % 0x40 < 0x10))
  | 0x66 => off == Sr.WIPE_COUNT.off
  | 0x70 => off == Mg.MLOG_OLDEST.off || off == Mg.MLOG_NEWEST.off || off == Mg.MGMT_RESETS.off
  | 0x72 => off == Rp.PLAN_SEQ.off || decide (0x400 ≤ off) && (off % 16 == 0 || off % 16 == 12)
  | 0x73 => off == Up.UPD_RESULT_RESULT.off || decide (0x120 ≤ off ∧ off < 0x190)
  | 0x74 => decide (0x100 ≤ off)
  | 0x7F => off == Dp.MINI_STATUS_USED.off || off == 0x200 || off == 0x240
  | _ => (State.keptWords .a ++ State.keptWords .b).contains (page, off)
      && !(code == 0 && (page == 1 || page == 2) && off == Ln.HB_STOPS.off)

/-- What management keeps in its flash (R580, R583, R592): its log, ripening data, the slots, and an activation. -/
def MgmtRec.kept (m : MgmtRec) (now : Nat) (activating : Bool) : MgmtRec :=
  { log := m.log, nextIndex := m.nextIndex, wrapped := m.wrapped, bootAt := now, loadAt := now, sampleAt := now
    telemAt := now, items := m.items.map fun x =>
      (x.1, { x.2 with differs := none, used := x.2.used && x.1 < 96 })
    ripAt := m.ripAt, active := m.active, other := m.other, trim := m.trim, running := m.running, hasReset := true, actAt := m.actAt
    staged := if activating then m.staged else none, activating := if activating then m.activating else []
    rollback := activating && m.rollback, stepAt := now, trialRun := if activating then m.trialRun else [] }

/-- A lane as a reset of the whole module leaves it: held (R110, R113). -/
def LaneRec.fresh (r : LaneRec) (now code : Nat) : LaneRec :=
  { phase := .held, heldAt := now, resetAt := now, causeEnd := if r.supply && !r.overTemp then some now else none, resetCode := code
    fromPowerOn := true, supply := r.supply, absentAt := r.absentAt, overTemp := r.overTemp }

/-- The module as State.reset gives it, with what a reset of the whole module leaves (R109, R121). -/
def State.afresh (s : State) (code boots : Nat) : State :=
  let p := s.power
  let act := s.pstate 0x73 == 4
  { State.reset with
    now := s.now, timeShift := s.timeShift, clockUnset := s.clockUnset, freeCtr := s.freeCtr, pending := s.pending, out := s.out
    bootCount := boots
    regs := Sparse.restrict (fun k => s.keptByReset code (k / 8 / 4096) (k / 8 % 4096)) s.regs
    res := Tab.wr [] {} 0x48 (s.resRec 0x48)
    lanes := ⟨(s.lane .a).fresh s.now code, (s.lane .b).fresh s.now code⟩
    cles := ⟨(s.cle .a).keptSnaps, (s.cle .b).keptSnaps⟩
    vats := ⟨(s.vat .a).kept, (s.vat .b).kept⟩
    groups := s.groups.map fun g => (g.1, { chans := g.2.chans.map fun e => (e.1, e.2.reset) })
    host := { announceFrom := s.now + 1000000000 }
    kerb := s.kerb, dumpStore := s.dumpStore
    mgmt := { s.mgmt.kept s.now act with wrapped := s.mgmt.wrapped && code != 0 }, lc := s.lc
    power := { common := p.common, bus := p.bus, busSince := p.busSince, rail := p.rail, field := p.field, active := p.active
               previous := p.previous } }

/-- The force maps of the axes, which each stage keeps (R378). -/
def State.keepMaps (s old : State) : State :=
  s.each (List.range' 0x10 32) fun s p =>
    let s := s.modAxis p fun _ => { force := { map := (old.axis p).force.map } }
    ((s.setFld p Ax.OBS_STATUS_MODEL_STATE (old.fld p Ax.OBS_STATUS_MODEL_STATE)).setFld p Ax.TEACH_LEFT (old.fld p Ax.TEACH_LEFT)).showModel p

/-- The owner changes counted since power-on (R99), which a DEVICE_RESET keeps. -/
def State.keepChanges (s old : State) (code : Nat) : State :=
  if code = 0 then s
  else s.each ownedPages fun s p => s.setFld 3 Xg.OWN_STATE_CHANGES (old.fld 3 Xg.OWN_STATE_CHANGES p) p

/-- What the kerb drives after a reset of the stages (R107, R437). -/
def State.kerbDrivesOn (s : State) : State :=
  (s.each groupPages fun s p => (if s.kact && s.railOf p then s.setPstate p 2 else s).driveGroup p).driveAll

/-- The activation that goes on over a reset (R592). -/
def State.keepActivation (s old : State) : State :=
  if old.pstate 0x73 = 4 then
    let s := (s.setPstate 0x73 4).setFld 0x73 Up.UPD_SESSION_STEP (old.fld 0x73 Up.UPD_SESSION_STEP)
    s.setFld 0x73 Up.UPD_SESSION_TARGET (old.fld 0x73 Up.UPD_SESSION_TARGET)
  else s

/-- The DC-link items of the buses that are present are in use since boot (R584). -/
def State.busesSeen (s : State) : State :=
  s.each [0, 1] fun s b =>
    let m := s.mgmt
    if (if b = 0 then s.power.bus.a else s.power.bus.b) then
      (s.putMgmt { m with items := m.items.wr {} (96 + b) { m.items.rd {} (96 + b) with used := true } })
    else s

/-- The buses that are present pre-charge again (R104). -/
def State.prechargeAgain (s : State) : State :=
  s.each [0, 1] fun s b =>
    if s.power.common && (if b = 0 then s.power.bus.a else s.power.bus.b) then
      (s.setBus b { s.bus b with presentAt := some s.now }).setFld 0x0E Ra.BUS_STATUS_STATE 1 b
    else s

/-- What the block answers before it resets (R59): the ownership requests it has accepted, and every open command, ABORTED. -/
def State.answerAll (s : State) : State := (s.each ownedPages State.answerArb).completeAll (fun _ => true) RC.aborted

/-- The whole module but the standby domain resets (R109 codes 0 and 1, R60): every generation is 0x0001, all sessions end without
a message, slots on trial are abandoned (R591, R594); `f` is what management's boot finds. -/
def State.wholeReset (s : State) (code boots : Nat) (f : SlotFound) : State :=
  let s := s.resetEndsUpdate
  let s := [0, 1, 2].foldl State.trialAbandon s
  let n := (s.afresh code boots).setPstate 0x74 (s.pstate 0x74)
  let n := ((((n.keepMaps s).keepChanges s code).kerbDrivesOn).keepActivation s).prechargeAgain.busesSeen.bootMgmt f
  n.logReset code [Pw.RESET_LOG_LANE_A_SRC, Pw.RESET_LOG_LANE_B_SRC, Pw.RESET_LOG_MGMT_SRC]

/-! The supplies. -/

/-- What is absent while the common rail is present, as SUPPLY_LOW names it (R125). -/
def State.lowSupplies (s : State) : List Nat :=
  let p := s.power
  (if p.bus.a then [] else [0]) ++ (if p.bus.b then [] else [1]) ++ (if p.rail.a then [] else [2]) ++ (if p.rail.b then [] else [3])
    ++ ((List.range 16).filter fun n => !bitAt p.field n).map (· + 16)

/-- SUPPLY_LOW brought to its condition (R125); the record names the supply that has just become absent. -/
def State.showSupplies (s : State) (n : Nat) : State :=
  if s.power.common then s.level 4 2 (s.lowSupplies != []) n else s

/-- HOLDUP_LOW and CELL_LOW (R108, R122, R125). -/
def State.showHoldup (s : State) : State :=
  let low := s.fld 4 Pw.HOLDUP_MS_A < 60 ∨ s.fld 4 Pw.HOLDUP_MS_B < 60 ∨ s.fld 4 Pw.HOLDUP_MS_COMMON < 60
  s.level 4 3 (decide low)
def State.showCell (s : State) (mv : Nat) : State :=
  let s := s.setFld 4 Pw.V_CELL (saturate 16 mv)
  s.level 4 4 (decide (mv < 2900))

/-- What the supervisor measures at a boot (R108, R122). -/
def State.bootMeasures (s : State) (x : HoldFound) : State :=
  let s := (s.setFld 4 Pw.HOLDUP_MS_A (saturate 8 x.a)).setFld 4 Pw.HOLDUP_MS_B (saturate 8 x.b)
  ((s.setFld 4 Pw.HOLDUP_MS_COMMON (saturate 8 x.common)).showHoldup).showCell x.cellMv

/-- What the supervisor finds at a power-on (R108, R122): a lost clock counts from 0 from the release of the reset. -/
def State.poweredOn (s : State) (f : PowerFound) : State :=
  let s := (s.putPower { s.power with common := true })
  let s := if f.clockLost then s.putClock (-((s.now : Int) + 20000000)) true else s
  let s := s.wholeReset 0 (s.bootCount + 1) f.slots
  let s := s.setFld 4 Pw.LAST_OUTAGE_S (if f.clockLost then 0xFFFFFFFF else saturate 32 f.outageS)
  (s.raise 4 5 0).mlog 7 (leBytes 4 s.bootCount ++ leBytes 4 (s.fwVersion 2))

/-- POWER_ON (R109): the common rail rises, as it can only while a lane supply is present (R102). -/
def execPowerOn (t : Nat) (f : PowerFound) (s : State) : Host.Outcome State Fault Refusal :=
  let s := s.start t
  .next (if s.power.common || !((s.lane .a).supply || (s.lane .b).supply) then s else s.poweredOn f)

/-- INTERRUPTS of a lane (R122). -/
def interrupts : Lane → Field
  | .a => Pw.INTERRUPTS_A
  | .b => Pw.INTERRUPTS_B

/-- The state of page 0x04 as both supplies fail (R124). -/
def State.powerState (s : State) (n : Nat) : State := s.setPstate 4 n

/-- LANE_SUPPLY_ABSENT (R105): an interruption begins; the secure region of a lane already held in reset loses its power
(R535). -/
def State.laneSupplyAbsent (s : State) (l : Lane) : State :=
  let r := s.lane l
  if !r.supply then s
  else
    let up := r.phase == .running || r.phase == .booting
    let s := s.setLane l { r with supply := false, absentAt := s.now, causeEnd := if up then r.causeEnd else none }
    let s := if r.phase == .held then (s.setFld 0x66 (secField l) 3).showSecLoaded else s
    let s := (s.bump 4 (interrupts l)).raise 4 0 l.num
    if s.pstate 4 = 3 ∧ !(s.lane l.other).supply then s.powerState 2 else s

def execLaneSupplyAbsent (t : Nat) (l : Lane) (s : State) : Host.Outcome State Fault Refusal :=
  .next ((s.start t).laneSupplyAbsent l)

/-- LANE_SUPPLY_PRESENT (R102, R105, R106). -/
def execLaneSupplyPresent (t : Nat) (l : Lane) (s : State) : Host.Outcome State Fault Refusal :=
  let s := s.start t
  let r := s.lane l
  .next (if r.supply then s
    else
      (s.setLane l { r with supply := true }).causeOver l)

/-- SUPPLY_LOST (R105, R124): 10 ms after the supply became absent; a lane that does not run has nothing more to lose. -/
def execSupplyLost (t : Nat) (l : Lane) (s : State) : Host.Outcome State Fault Refusal :=
  let s := s.start t
  let r := s.lane l
  .next <|
    if r.supply || s.now < r.absentAt + 10000000 then s
    else
      let s := if r.phase == .running || r.phase == .booting then (s.raise 4 1 l.num).laneReset l 2 else s
      let o := s.lane l.other
      if s.pstate 4 = 1 ∧ !o.supply ∧ o.absentAt + 10000000 ≤ s.now then s.powerState 2 else s

/-- COMMON_RAIL_FALL (R106): at the earliest 60 ms after both lane supplies have become absent. -/
def execCommonRailFall (t : Nat) (s : State) : Host.Outcome State Fault Refusal :=
  let s := s.start t
  let gone (l : Lane) : Bool := !(s.lane l).supply && decide ((s.lane l).absentAt + 60000000 ≤ s.now)
  .next <|
    if !s.power.common || !gone .a || !gone .b then s
    else (s.putPower { s.power with common := false }).wholeReset 0 s.bootCount ⟨true, true⟩

/-- CELL_MEASURE (R108, R122). -/
def execCellMeasure (t : Nat) (mv : Nat) (s : State) : Host.Outcome State Fault Refusal := .next ((s.start t).showCell mv)

/-! The motor buses (R104, R317, R347). -/

/-- The state of a bus changed, with BUS_STATE (R348). -/
def State.setBusState (s : State) (b n : Nat) : State :=
  let old := s.fld 0x0E Ra.BUS_STATUS_STATE b
  if old = n then s else (s.setFld 0x0E Ra.BUS_STATUS_STATE n b).raise 0x0E 0 (b * 2 ^ 8 + n)

/-- Whether a motor bus is present. -/
def State.busPresent (s : State) (b : Nat) : Bool := if b = 0 then s.power.bus.a else s.power.bus.b
def State.setBusPresent (s : State) (b : Nat) (on : Bool) : State :=
  (s.putPower { s.power with bus := s.power.bus.set (if b = 0 then .a else .b) on }).busesSeen

/-- Every axis of a bus that switches its transistors removes torque with a cause (R317). -/
def State.busTrip (s : State) (b cause : Nat) : State :=
  s.each (busPages b) fun s p => if s.switching p then s.removeTorque p 8 cause else s

/-- MOTOR_BUS_PRESENT (R104). -/
def execMotorBusPresent (t : Nat) (b : Fin 2) (s : State) : Host.Outcome State Fault Refusal :=
  let s := s.start t
  .next <|
    if s.busPresent b then s
    else
      let s := (s.setBusPresent b true).showSupplies b
      if s.power.common then (s.setBus b { s.bus b with presentAt := some s.now }).setBusState b 1 else s

/-- PRECHARGE_DONE (R104, R347): 100 ms of pre-charge. -/
def execPrechargeDone (t : Nat) (b : Fin 2) (s : State) : Host.Outcome State Fault Refusal :=
  let s := s.start t
  .next (match (s.bus b).presentAt with
    | some x =>
      if s.fld 0x0E Ra.BUS_STATUS_STATE b = 1 ∧ x + 100000000 ≤ s.now then
        ((s.setBus b { s.bus b with presentAt := none }).setBusState b 2).settle b
      else s
    | none => s)

/-- A bus becomes absent (R317, R347): charges are released and waiting requests refused with reason 4; a chopper locked by its
overcurrent is free again once the bus is OFF (R630). -/
def State.motorBusAbsent (s : State) (b : Nat) : State :=
  let s := (s.setBusPresent b false).busTrip b 5
  let s := (s.bus b).waiting.foldl (fun s r => s.refuseWaiting b r 4) s
  let s := s.setBus b { s.bus b with presentAt := none, hardLock := false }
  let s := if s.resistorCooled b then s.lockChopper b false else s
  ((s.setBusState b 0).settle b).showSupplies b

/-- MOTOR_BUS_ABSENT (R317). -/
def execMotorBusAbsent (t : Nat) (b : Fin 2) (s : State) : Host.Outcome State Fault Refusal :=
  let s := s.start t
  .next (if s.busPresent b then s.motorBusAbsent b else s)

/-- BUS_OVERVOLT (R317, R347): above 165 V. -/
def execBusOvervolt (t : Nat) (b : Fin 2) (s : State) : Host.Outcome State Fault Refusal :=
  let s := s.start t
  .next (if s.fld 0x0E Ra.BUS_STATUS_STATE b = 2 then (s.busTrip b 6).setBusState b 3 |>.settle b else s)

/-- BUS_OV_RECOVER (R317): below 155 V for 10 ms. -/
def execBusOvRecover (t : Nat) (b : Fin 2) (s : State) : Host.Outcome State Fault Refusal :=
  let s := s.start t
  .next (if s.fld 0x0E Ra.BUS_STATUS_STATE b = 3 then (s.setBusState b 2).settle b else s)

/-! The load-switch rails and the field supplies. -/

/-- A rail seen to change (R443, R624). -/
def State.railSeen (s : State) (l : Lane) (on : Bool) : State :=
  if s.power.rail.of l = on then s else (s.railChanged l on).showSupplies (l.num + 1)

/-- LS_RAIL_ABSENT (R443). -/
def execLsRailAbsent (t : Nat) (l : Lane) (s : State) : Host.Outcome State Fault Refusal := .next ((s.start t).railSeen l false)

/-- LS_RAIL_PRESENT (R429, R443): present, or within its limit for 10 ms again (R624). -/
def execLsRailPresent (t : Nat) (l : Lane) (s : State) : Host.Outcome State Fault Refusal := .next ((s.start t).railSeen l true)

/-- LS_RAIL_OVERVOLT (R624): above 38 V for 1 ms, as if absent. -/
def execLsRailOvervolt (t : Nat) (l : Lane) (s : State) : Host.Outcome State Fault Refusal := .next ((s.start t).railSeen l false)

/-- A field supply seen to change (R413, R624). -/
def State.fieldSeen (s : State) (n : Nat) (on : Bool) : State :=
  if bitAt s.power.field n = on then s
  else
    let s := (s.putPower { s.power with field := setBit s.power.field n on })
    (s.fieldSupplyChanged (0x30 + n)).showSupplies (n + 16)

/-- FIELD_SUPPLY_ABSENT (R413). -/
def execFieldSupplyAbsent (t : Nat) (n : Fin 16) (s : State) : Host.Outcome State Fault Refusal := .next ((s.start t).fieldSeen n false)

/-- FIELD_SUPPLY_PRESENT (R413). -/
def execFieldSupplyPresent (t : Nat) (n : Fin 16) (s : State) : Host.Outcome State Fault Refusal := .next ((s.start t).fieldSeen n true)

/-- FIELD_POWER_LIMIT (R627): the field I/O load in 0.1 W. The converter limits its output at 75 W, until the load has fallen below
70 W. -/
def execFieldPowerLimit (t : Nat) (load : Nat) (s : State) : Host.Outcome State Fault Refusal :=
  let s := s.start t
  let limiting := decide (750 < load) || s.flag 4 Pw.FIELD_POWER_LIMITING && decide (700 ≤ load)
  let s := (s.setFld 4 Pw.FIELD_POWER_LIMITING (bool01 limiting)).setFld 4 Pw.FIELD_POWER_P_DW (min load 750)
  .next (s.level 4 10 limiting (min load 750))

/-! The commands of page 0x04 (R123). -/

/-- Whether any axis holds torque, and whether any safe output is energised. -/
def State.anyTorque (s : State) : Bool := (List.range' 0x10 32).any fun p => s.axisTorque p
def State.anySafeOn (s : State) : Bool := (List.range 8).any fun k => s.soState k == 1

/-- DEVICE_RESET (R123). -/
def cmdDeviceReset : Cmd where
  opc := 0x01
  kinds := (· == .power)
  who := .cfgHost
  range := fun _ ch a _ => ch == 0 && a % 4 != 3
  allow := fun s _ _ _ => if s.anyTorque || s.anySafeOn then RC.state else 0
  act := fun s _ a _ => ((s.putPower { s.power with resetFire := some (s.now + 10000000, a % 4) }), RC.done)

def execDeviceReset (t : Nat) (q : Req) (s : State) : Host.Outcome State Fault Refusal :=
  .next ((s.start t).command q cmdDeviceReset)

/-- DEVICE_RESET_FIRE (R59, R109, R123): 10 ms after the result. -/
def execDeviceResetFire (t : Nat) (f : SlotFound) (s : State) : Host.Outcome State Fault Refusal :=
  let s := s.start t
  .next (match s.power.resetFire with
    | some (at_, arg) =>
      if at_ ≤ s.now then
        let s := s.answerAll.wholeReset 1 (s.bootCount + 1) f
        (s.putPower { s.power with restartArg := arg }).raise 4 5 1
      else s
    | none => s)

/-- LANE_RESET (R110, R123, R594). -/
def cmdLaneReset : Cmd where
  opc := 0x02
  kinds := (· == .power)
  who := .cfgHost
  range := fun _ ch _ _ => ch == 1 || ch == 2
  allow := fun s q _ _ => if s.laneState (laneNum q.chan).other = 4 then 0 else RC.state
  act := fun s _ _ _ => (s, RC.done)
  after := fun s q => (s.resetEndsUpdate).laneReset (laneNum q.chan) 4

def execLaneReset (t : Nat) (q : Req) (s : State) : Host.Outcome State Fault Refusal :=
  .next ((s.start t).command q cmdLaneReset)

/-- POWER_DOWN_PREP (R123, R124): the engines stop at the end of their cycles. -/
def cmdPowerDownPrep : Cmd where
  opc := 0x04
  kinds := (· == .power)
  who := .cfgHost
  allow := fun s _ _ _ => if s.anyTorque then RC.state else 0
  act := fun s _ _ _ =>
    let stop (s : State) (l : Lane) : State :=
      if s.pstate (clePage l) = 2 ∨ s.pstate (clePage l) = 3 then
        s.setCle l { s.cle l with runCmds := (s.cle l).runCmds ++ [⟨2, 0, 1, false⟩] }
      else s
    let s := stop (stop s .a) .b
    ((s.putPower { s.power with prep := some s.now }), RC.accepted)

def execPowerDownPrep (t : Nat) (q : Req) (s : State) : Host.Outcome State Fault Refusal :=
  .next ((s.start t).command q cmdPowerDownPrep)

/-- POWER_DOWN_DONE (R123, R124): no engine runs, the Vats are flushed and marked, and the heartbeats stop; HB_STOPPED carries cause 3,
that of a command (DESIGN CHOICE, log entry 96: R98 names the causes of resets and of STOP_FAULT only). -/
def State.powerDownDone (s : State) (msA msB : Nat) : State :=
  let runs (l : Lane) : Bool := s.pstate (clePage l) == 2 || s.pstate (clePage l) == 3
  match s.power.prep with
  | none => s
  | some _ =>
    if runs .a || runs .b then s
    else
      let down (s : State) (l : Lane) (ms : Nat) : State :=
        if 2 ≤ s.laneState l then (s.shutdownVat l ms).hbStop l 3 else s
      let s := down (down s .a msA) .b msB
      let s := (s.putPower { s.power with prep := none })
      let s := if s.pstate 4 = 1 then s.powerState 3 else s
      s.completeAll (fun o => o.page == 4 && o.opc == 0x04) RC.done

def execPowerDownDone (t : Nat) (msA msB : Fin 40) (s : State) : Host.Outcome State Fault Refusal :=
  .next ((s.start t).powerDownDone msA msB)

end Sys2Proof.Machine
end

