-- ==== Sys2Proof/Machine/Boot.lean ====
section
/-! DEFINITION. The boot of a lane (R110, R113-R117, R539, R559, R612): release, checks, configuration, program. -/

namespace Sys2Proof.Machine

/-! The configuration image (R115-R117). -/

/-- The four pages of a lane (R109, R116). -/
def lanePages (l : Lane) : List Nat := [lanePage l, clePage l, memPage l, vatPage l]

/-- The bytes of a configuration image as partition 2 counts them: eight for each offset-value pair. -/
def ConfigImage.bytes (i : ConfigImage) : Nat := i.pages.foldl (fun n p => n + 8 * p.words.length) 0

/-- A configuration image placed in a lane's Vat (R117, R561). -/
def State.placeConfig (s : State) (l : Lane) (i : ConfigImage) : State :=
  let s := s.setFld 0x73 Up.VER_ACTIVE (i.seq % 2 ^ 32) (4 + l.num)
  (s.putPower { s.power with active := s.power.active.set l i }).histEntry l 1 i.bytes i.digest

/-- An active container that fails its checks is reported by its lane (R115 step 1), also where the other lane's image is then
put in its place. -/
def State.rejectActive (s : State) (l : Lane) : State := if (s.power.active.of l).valid then s else s.raise 4 7 1

/-- The lanes' images compared (R117): both use the one with the higher sequence number, or lane A's. -/
def State.reconcile (s : State) : State :=
  match s.imageOf .a, s.imageOf .b with
  | some a, some b =>
    if a.digest = b.digest then s
    else
      let s := if a.seq < b.seq then (s.rejectActive .a).placeConfig .a b else (s.rejectActive .b).placeConfig .b a
      s.raise 4 8 (b.seq % 2 ^ 16 * 2 ^ 16 + a.seq % 2 ^ 16)
  | _, _ => s

/-- Whether a page is one that belongs to no lane or a resource page (R116). -/
def sharedPage (p : Nat) : Bool := !(lanePages .a).contains p && !(lanePages .b).contains p

/-- Which pages a lane applies (R116): its own four, and, first after a power-on or DEVICE_RESET, those of no lane and the
resources, unless lane B leaves them to lane A. -/
def State.applies (s : State) (l : Lane) (p : Nat) : Bool :=
  (lanePages l).contains p || !s.power.resourcesApplied && s.power.sharedAt.isNone && sharedPage p

/-- The words that lane B takes from lane A's pages of an image (R164, R568). -/
def sharedWord (l : Lane) (p off : Nat) : Option Nat :=
  if l = .b ∧ p = 0x08 ∧ (off = 0x100 ∨ off = 0x104) then some 0x09
  else if l = .b ∧ p = 0x68 ∧ 0x100 ≤ off then some 0x69
  else none

/-- The page images that a lane applies, those of lane B with its copies in place. -/
def State.lanesImage (s : State) (l : Lane) (i : ConfigImage) : List PageImage :=
  let copies (p : Nat) : List (Nat × Word) :=
    (i.pages.filter (·.crcOk)).flatMap fun x => x.words.filter fun w => sharedWord l x.page w.1 == some p
  let own (x : PageImage) : PageImage :=
    if l = .b ∧ x.page = 0x09 then
      { x with words := (x.words.filter fun w => w.1 != 0x100 && w.1 != 0x104) ++ copies 0x09 }
    else if l = .b ∧ x.page = 0x69 then { x with words := (x.words.filter fun w => decide (w.1 < 0x100)) ++ copies 0x69 }
    else x
  let missing (p : Nat) : List PageImage :=
    if (i.pages.any fun x => x.page == p) || (copies p).isEmpty then [] else [⟨p, true, copies p⟩]
  let all := i.pages.map own ++ missing 0x09 ++ missing 0x69
  (List.range 128).flatMap fun p => all.filter fun x => x.page == p && s.applies l p

/-- The constraints that refer to a register of another page (R30, R31, R163, R265, R288). -/
def crossPage (r : RegField × Nat × Nat) : Bool :=
  match r.1.lim with
  | .dyn x => [DynRule.clePeriod, .captureRate, .cnPos, .cnAction, .velBw, .curBw, .posBw].contains x
  | _ => false

/-- A word checked once more against the applied values (R115 step 4). -/
def State.recheckWord (s : State) (page off : Nat) (lanes : List Lane) : State :=
  let off := off / 4 * 4
  if page = 0x48 ∨ !pageUsed page ∨ off < 0x100 then s
  else
    let (p, o) := imageTarget page off
    let bank := Reg.bank p o 0
    let old := s.reg p o bank
    let (s, c) := s.imageFields p o bank old page lanes ((fieldsAt (tableOf p o) o).filter crossPage)
    if c then (s.raise page 13).afterWrite 0 p o old else s

/-- The words of a page that hold such a field: of the corner window, those that an image has set, since a corner that none has
set meets its constraints. -/
def crossWords (ps : List PageImage) (p : Nat) : List Nat :=
  if p = 0x0D then (ps.filter fun i => i.crcOk && i.page == p).flatMap fun i => (ascending i.words).map (·.1)
  else
    ((pageKind p).fields.filter fun r => crossPage (r, 0, 0)).flatMap fun r =>
      (List.range r.n).map fun i => r.f.off + r.f.stride * i

/-- The pages of an image applied, and every constrained field of the pages given checked once more (R115 steps 2 to 4). -/
def State.applyPages (s : State) (l : Lane) (ps : List PageImage) (checked : List Nat) : State :=
  let s := ps.foldl (fun s i => s.imagePage i [l] true) s
  checked.foldl (fun s p => (crossWords ps p).foldl (fun s o => s.recheckWord p o [l]) s) s

/-- The start-up owners of a map come into force (R34, R116). -/
def State.takeMap (s : State) (map : List (Nat × Nat)) : State :=
  let s := (s.putPower { s.power with appliedMap := map, resourcesApplied := true })
  s.each ownedPages fun s p => if s.startOwner p = s.owner p then s else s.takeStartOwner p 0

/-- Lane B's copies of what lane A holds while it runs (R164, R568). -/
def State.copyShared (s : State) (l : Lane) : State :=
  if l = .b ∧ 2 ≤ s.laneState .a then
    let s := (s.setReg 0x09 0x100 (s.reg 0x08 0x100)).setReg 0x09 0x104 (s.reg 0x08 0x104)
    [0x100, 0x104, 0x108, 0x10C, 0x110, 0x114, 0x118, 0x11C].foldl (fun s o => s.setReg 0x69 o (s.reg 0x68 o)) s
  else s

/-- What follows the first application of the shared pages. -/
def State.sharedApplied (s : State) (i : ConfigImage) : State := (s.takeMap i.map).showReactions.showSafeCfg

/-- Lane B applies the shared pages that it had left to lane A, which has not come (R116; DESIGN CHOICE, log entry 99). -/
def State.lateApply (s : State) : State :=
  match s.power.sharedAt, s.imageOf .b with
  | some _, some i =>
    let s := s.putPower { s.power with sharedAt := none }
    let ps := (s.lanesImage .b i).filter fun x => sharedPage x.page
    (s.applyPages .b ps ((List.range 128).filter sharedPage)).sharedApplied i
  | _, _ => s.putPower { s.power with sharedAt := none }

/-- Which lane applies the shared pages (R116): lane A where both come within 1 ms, so that lane B waits for it while it may
still come. -/
def State.shareTurn (s : State) (l : Lane) : State :=
  match l, s.power.sharedAt with
  | .a, some x => if s.now < x + 1000000 then s.putPower { s.power with sharedAt := none } else s.lateApply
  | .b, none =>
    if !s.power.resourcesApplied && (s.lane .a).supply && !(s.lane .a).loaded then
      s.putPower { s.power with sharedAt := some s.now }
    else s
  | _, _ => s

/-- CONFIG_LOAD (R115-R117) by a lane; whether it found an image. -/
def State.loadConfig (s : State) (l : Lane) : State × Bool :=
  let s := if (s.lane l.other).supply then s.reconcile else s
  let bad := !(s.power.active.of l).valid
  if s.lifeCycle = 1 ∧ s.lc.fromErased then ((s.setFld 4 Pw.CFG_SOURCE 0).copyShared l, false)
  else
  match s.imageOf l with
  | none => (((s.setFld 4 Pw.CFG_SOURCE 0).raise 4 7 2).copyShared l, false)
  | some i =>
    let s := if bad then s.raise 4 7 1 else s
    let s := (s.setReg 4 Pw.CFG_LOAD_CLAMPS.off 0).setFld 4 Pw.CFG_SEQ i.seq
    let s := s.setFld 4 Pw.CFG_SOURCE (if bad then 2 else 1)
    let s := s.shareTurn l
    let pages := (List.range 128).filter (s.applies l)
    let first := !s.power.resourcesApplied && s.power.sharedAt.isNone
    let s := s.applyPages l (s.lanesImage l i) pages
    let s := if first then s.sharedApplied i else s
    (s.copyShared l, true)

/-! The boot. -/

/-- The resource stages after their self-test (R103, R113): a group whose rail is absent is in NO_RAIL. -/
def State.selfTest (s : State) : State :=
  let s := s.each groupPages fun s p => if !s.railOf p && s.pstate p != 3 then s.groupRailLost p else s
  s.showSupplies (s.lowSupplies.getD 0 0)

/-- The reset of a lane released (R84, R110, R113), at the earliest 20 ms after the later of the two instants of R110. -/
def State.release (s : State) (l : Lane) : State :=
  let r := s.lane l
  match r.causeEnd with
  | none => s
  | some c =>
    if r.phase != .held || s.now < max r.heldAt c + 20000000 || !s.power.common then s
    else
      let s := s.setLane l { r with phase := .booting, releasedAt := s.now, loaded := false, stay := false, fwBad := false }
      let s := (s.setLaneState l 1).setFld (lanePage l) Ln.LANE_INFO_CAUSE (laneCause r.resetCode)
      let s := if 2 ≤ r.resetCode then s.raise 4 5 r.resetCode else s
      s.selfTest

/-- LANE_RESET_HOLD_END (R110). -/
def execLaneResetHoldEnd (t : Nat) (l : Lane) (s : State) : Host.Outcome State Fault Refusal := .next ((s.start t).release l)

/-- KEYSTORE_CHECK (R612, R613). -/
def State.checkKeys (s : State) (ok : Bool) (us : Nat) : State :=
  if ok then s
  else
    let s := s.bump 0x74 Lc.BREACH_COUNT
    if s.rindArmed 5 then s.erase 5 us 3
    else
      let s := if s.lifeCycle = 3 then (s.setFld 0x74 Lc.RIND_STATUS_KEYSTORE_VALID 0).putLc { s.lc with keysDue := true } else s
      s.raise 0x74 1 5

/-- The firmware slot that a lane boots (R113, R114, R591): one that fails its check is invalid from then on. -/
def State.chooseFirmware (s : State) (l : Lane) (active other : Bool) : State :=
  let n := fwInstance l
  let r := s.lane l
  if active then s
  else if !other then (s.setLane l { r with fwBad := true }).raise 4 9 l.num
  else if s.flag 0x73 Up.SLOT_STATE_TRIAL n then s.trialAbandon n
  else ((s.swapSlots n).spoilOther n).showTrials

/-- BOOT_MEMORY_TEST (R539, R541): a bad segment among 12 to 15 holds the lane in BOOTING. -/
def State.bootMemory (s : State) (l : Lane) (bad : List (Fin 16)) : State :=
  let p := memPage l
  let s := bad.foldl (fun s k => s.markBad l k.val) s
  let s := s.setPstate p (if bad.isEmpty then 1 else 2)
  if bad.any fun k => decide (12 ≤ k.val) then s.setLane l { s.lane l with fwBad := true } else s

/-- The program-image slot of a lane that passes, the other where the active one does not (R114). -/
def State.chooseProgram (s : State) (l : Lane) : State :=
  if (s.slotImage l).isSome then s
  else
    let x := s.swapSlots (2 + l.num)
    if (x.slotImage l).isSome then x else s

/-- The program image loaded into a lane (R113, R539). -/
def State.bootProgram (s : State) (l : Lane) (bad : List (Fin 16)) (configured : Bool) : State :=
  let s := s.chooseProgram l
  match s.slotImage l with
  | none => s.setLane l { s.lane l with stay := true }
  | some i =>
    let hit := bad.any fun k => i.usesSegment k.val
    let s := if hit then s else s.loadImage l i
    s.setLane l { s.lane l with stay := hit || !configured }

/-- Keys loaded from management in the states that have them (R535, R616). -/
def State.bootKeys (s : State) (l : Lane) (kb : Nat) : State :=
  let st := s.lifeCycle
  if st = 1 ∨ st = 2 then
    let used := match l with
      | .a => Sr.SEC_USED_KB_A
      | .b => Sr.SEC_USED_KB_B
    (((s.setFld 0x66 (secField l) 1).setFld 0x66 used (min kb 256)).vatKeyLoaded l).showSecLoaded
  else s.showSecLoaded

/-- Bytes 0 to 31 of the header of a dump (R564), as words. -/
def DumpRec.summary (d : DumpRec) (l : Lane) : List Nat :=
  [0x50445156, 1 + l.num * 2 ^ 16 + d.cause % 2 ^ 8 * 2 ^ 24, d.boot, d.time % 2 ^ 32, d.time / 2 ^ 32 % 2 ^ 32, d.cycle % 2 ^ 32,
    d.cycle / 2 ^ 32 % 2 ^ 32, d.pc % 2 ^ 32]

/-- The Vat at boot (R559, R560, R567): MOUNTING, and the entries that say how the lane came here. -/
def State.bootVat (s : State) (l : Lane) : State :=
  let p := vatPage l
  let v := s.vat l
  let s := (s.setVatState l 1).setFld p Vt.SHUTDOWN_MARKER_OK (bool01 v.marker)
  let s := s.setFld p Vt.SHUTDOWN_FLUSH_MS (if v.marker then v.flushMs else 0)
  let info := s.fld (lanePage l) Ln.LANE_INFO_CAUSE * 2 ^ 8 + l.num
  let s := s.logEntry l s.plainRec 4 [s.bootCount, info, s.fld 4 Pw.CFG_SEQ]
  let s := if v.marker then s.logEntry l s.plainRec 5 [v.flushMs] else s
  match v.lostSummary with
  | none => s
  | some d => (s.setVat l { s.vat l with lostSummary := none }).logEntry l s.plainRec 6 (d.summary l)

/-- The core supply of a lane takes the trim it has stored (R586), under keys 2 + lane; the trim in force is under the
lane's number. -/
def State.applyTrim (s : State) (l : Lane) : State :=
  let m := s.mgmt
  (s.putMgmt { m with trim := m.trim.wr 0 l.num (m.trim.rd 0 (2 + l.num)) })

/-- The boot of a lane as far as its links (R113): each part only while nothing has held it. -/
def State.boot (s : State) (l : Lane) (f : BootFound) : State :=
  let s := (((s.applyTrim l).wipe (l == .a) (l == .b) 5 0).checkKeys f.keystore f.eraseUs).chooseFirmware l f.active f.other
  if (s.lane l).fwBad then s
  else
    let s := s.bootMemory l f.bad
    if (s.lane l).fwBad then s
    else
      let c := s.cle l
      let s := s.setCle l { c with snap0 := { c.snap0 with crcOk := f.snap0 }, snap1 := { c.snap1 with crcOk := f.snap1 } }
      let (s, ok) := s.loadConfig l
      let s := ((s.bootKeys l f.secKb).bootProgram l f.bad ok).bootVat l
      s.setLane l { s.lane l with loaded := true, sending := true }

/-- RESET_RELEASE (R113): the reset is released if that is still due, and the lane boots. -/
def execResetRelease (t : Nat) (l : Lane) (f : BootFound) (s : State) : Host.Outcome State Fault Refusal :=
  let s := (s.start t).release l
  let r := s.lane l
  .next (if r.phase == .booting && !r.loaded && !r.fwBad then (s.bootMeasures f.hold).boot l f else s)

/-! The start of an engine at the end of a boot (R118-R120). -/

/-- The first condition of R119 that fails for a warm restart, 0 for none. -/
def State.warmDenied (s : State) (l : Lane) (both : Bool) (digest : Nat) : Nat :=
  let snaps := if both then [(s.cle .a).snap0, (s.cle .a).snap1, (s.cle .b).snap0, (s.cle .b).snap1] else [(s.cle l).snap0, (s.cle l).snap1]
  let max := s.fld 4 Pw.WARM_MAX_OUTAGE_S
  let r := s.lane l
  let power := r.fromPowerOn && r.resetCode == 0
  let outage := if power then s.fld 4 Pw.LAST_OUTAGE_S else (s.now - r.resetAt) / 1000000000
  if !snaps.any (fun b => b.valid && b.crcOk && !b.flips.any (·.2)) then 1
  else if (s.warmSnap l both digest).isNone then 2
  else if max = 0 then 0
  else if outage = 0xFFFFFFFF ∧ power then 4
  else if max < outage then 3
  else 0

/-- The start of a lane's engine at the end of its boot (R118-R120, R181), with `both` lanes together; `warm` is the kind wanted. -/
def State.bootStart (s : State) (l : Lane) (both warm : Bool) : State :=
  match (s.lane l).stay || s.retired, s.slotImage l with
  | false, some i =>
    let deny := if warm then s.warmDenied l both i.digest else 0
    let go := warm && deny == 0
    let n := if go then ((s.warmSnap l both i.digest).map (·.cycle)).getD 0 else 0
    let s := if deny = 0 then s else s.raise 4 6 deny
    let s := (s.setFld 4 Pw.LAST_START_CYCLE n).setFld 4 Pw.LAST_START_KIND_DENY deny
    let m := if go then 1 else 2
    let s := (s.setFld 4 Pw.LAST_START_KIND_WARM (bool01 go)).startCle l both m
    s.setCle l { s.cle l with starting := some (4 + m) }
  | _, _ => (s.setCleState l 1).safeValues l

/-- The kind of R118 at a power-on or DEVICE_RESET. -/
def State.powerOnWarm (s : State) : Bool :=
  match s.power.restartArg with
  | 1 => false
  | 2 => true
  | _ => s.flag 4 Pw.RESTART_CFG_POWERON_WARM

/-- A lane's first boundary comes now. -/
def State.boundaryNow (s : State) (l : Lane) : State := s.setCle l { s.cle l with nextTb := some s.now }

/-- Both lanes complete their boot together (R84). A warm restart denied raises WARM_DENIED for each lane (DESIGN CHOICE, log
entry 101). -/
def State.startAligned (s : State) : State :=
  let s := (s.setLaneState .a 4).setLaneState .b 4
  let s := ((s.hbStart .a).hbStart .b).boundaryNow .a |>.boundaryNow .b
  let s := s.putPair { s.pair with aligned := true }
  (s.bootStart .a true s.powerOnWarm).bootStart .b true s.powerOnWarm

/-- A lane enters ALONE from its boot or its join (R84, R118). -/
def State.startAlone (s : State) (l : Lane) : State :=
  ((((s.setLaneState l 3).hbStart l).boundaryNow l).bootStart l false (s.flag 4 Pw.RESTART_CFG_ALONE_WARM))

/-- A lane begins a join (R84, R85). -/
def State.beginJoin (s : State) (l : Lane) (resync : Bool) : State :=
  let differ := ((s.cle l).image.map (·.digest)) != ((s.cle l.other).image.map (·.digest))
  let p := lanePage l
  let s := (s.setLane l { s.lane l with join := { since := s.now, active := true, resync := resync } }).setLaneState l 2
  let s := ((s.setFld p Ln.JOIN_STATUS_IMAGE (bool01 differ)).setFld p Ln.JOIN_STATUS_PASSES 0).setFld p Ln.JOIN_STATUS_PCT 0
  s.hbStart l

/-- Whether a lane hears the other (R79, R80): a link is UP in its own state, and the other lane's frames carry the generation
of its last HELLO. -/
def State.hears (s : State) (l : Lane) : Bool :=
  let r := s.lane l
  (r.link0.state == 2 || r.link1.state == 2) && (s.lane l.other).sending
    && (match r.hello with
      | some h => h.gen == s.gen (lanePage l.other)
      | none => false)

/-- What R84 gives a lane whose boot is complete, from what it knows of the other lane: that both have completed from
power-on, that the other is ALONE, or that the other has completed too and this is lane A. -/
def State.settleBoot (s : State) (l : Lane) : State :=
  let r := s.lane l
  let o := s.lane l.other
  match r.bootDone with
  | none => s
  | some x =>
    if s.laneState l ≠ 1 ∨ r.join.retryAt.isSome ∨ !s.hears l then s
    else if s.laneState l.other = 3 ∨ (r.join.resync ∧ s.laneState l.other = 7) then s.beginJoin l r.join.resync
    else if s.laneState l.other = 1 then
      match o.bootDone with
      | none => s
      | some y =>
        if r.fromPowerOn && o.fromPowerOn && s.hears l.other then
          if x ≤ y + 2000000000 ∧ y ≤ x + 2000000000 then s.startAligned else s
        else if l = .a then s.startAlone .a
        else s
    else s

/-- Both lanes' boots settled; lane B last, so that it sees lane A in ALONE. -/
def State.settleBoots (s : State) : State := (s.settleBoot .a).settleBoot .b

/-- The profile and overrides applied at start-up (R32, R73, R113). -/
def State.firstProfile (s : State) : State := if s.pstate 0 = 0 then ((s.applyBus 0).applyBus 1).setPstate 0 1 else s

/-- BOOT_MS of a lane. -/
def bootMs : Lane → Field
  | .a => Pw.BOOT_MS_A
  | .b => Pw.BOOT_MS_B

/-- BOOT_COMPLETE (R84, R113, R124). -/
def execBootComplete (t : Nat) (l : Lane) (s : State) : Host.Outcome State Fault Refusal :=
  let s := s.start t
  let r := s.lane l
  .next <|
    if r.phase != .booting || !r.loaded || r.fwBad then s
    else
      let s := if l = .b ∧ s.power.sharedAt.isSome then s.lateApply else s
      let s := (s.setLane l { s.lane l with phase := .running, bootDone := some s.now }).fwBoots (fwInstance l)
      let s := s.setFld 4 (bootMs l) (saturate 16 ((s.now - r.releasedAt) / 1000000))
      let s := if s.pstate 4 = 0 ∨ s.pstate 4 = 2 then s.powerState 1 else s
      s.firstProfile.settleBoots

/-- BOOT_WAIT_EXPIRY (R84): 2 s after its boot a lane that has heard no HELLO, or heard one of a lane that has not completed its
boot, enters ALONE. -/
def execBootWaitExpiry (t : Nat) (l : Lane) (s : State) : Host.Outcome State Fault Refusal :=
  let s := s.start t
  let r := s.lane l
  .next (match r.bootDone with
    | none => s
    | some x =>
      if s.laneState l ≠ 1 ∨ r.join.retryAt.isSome ∨ s.now < x + 2000000000 then s
      else if r.hello.isNone ∨ (s.lane l.other).bootDone.isNone then (s.startAlone l).settleBoot l.other
      else s)

end Sys2Proof.Machine
end

