-- ==== Sys2Proof/Machine/CleInt.lean ====
section
/-! DEFINITION. The integer instructions (R216): arithmetic, logic, shifts, compares and moves. Results wrap to 32
bits; a flag not named is unchanged. -/

namespace Sys2Proof.Machine

/-- An RR instruction `G[d] := r` with flags from `fl`: fields d, a and b (R211). -/
def State.rr (s : State) (l : Lane) (f : Fields) (r : Word → Word → Word)
    (fl : TaskRec → Word → Word → Word → TaskRec) : State :=
  s.cleStep l false 1 fun c k _ =>
    whenFields f 0xFFF000 <|
      let a := k.G (fA f)
      let b := k.G (fB f)
      .ok c ((fl k a b (r a b)).setG (fD f) (r a b))

/-- An RI instruction `G[d] := r`: fields d, a and imm16. -/
def State.ri (s : State) (l : Lane) (f : Fields) (imm : Word) (r : Word → Word → Word)
    (fl : TaskRec → Word → Word → Word → TaskRec) : State :=
  s.cleStep l false 1 fun c k _ =>
    let a := k.G (fA f)
    .ok c ((fl k a imm (r a imm)).setG (fD f) (r a imm))

/-- Flags Z and N from the result alone. -/
def flZN (k : TaskRec) (_ _ r : Word) : TaskRec := k.setZN r

/-- The zero-extended immediate. -/
def fUimm (f : Fields) : Word := BitVec.ofNat 32 (fImm f)

/-- A shift's flags: the last bit out of a left shift by `n` is bit 32 - n, of a right shift bit n - 1. -/
def flShl (k : TaskRec) (a b r : Word) : TaskRec := k.flagsShift r (b.toNat % 32) (bitAt a.toNat (32 - b.toNat % 32))
def flShr (k : TaskRec) (a b r : Word) : TaskRec := k.flagsShift r (b.toNat % 32) (bitAt a.toNat (b.toNat % 32 - 1))

/-- The shifts by b[4:0]. -/
def shl (a b : Word) : Word := a <<< (b.toNat % 32)
def shr (a b : Word) : Word := a >>> (b.toNat % 32)
def asr (a b : Word) : Word := a.sshiftRight (b.toNat % 32)

/-- The signed quotient, rounded towards zero (R216): 0 for a zero divisor, -2^31 for -2^31 / -1. -/
def divWord (a b : Word) : Word := if b = 0 then 0 else BitVec.ofInt 32 (Int.tdiv a.toInt b.toInt)

/-- The signed remainder with the sign of the dividend (R216): 0 for a zero divisor and for -2^31 / -1. -/
def remWord (a b : Word) : Word := if b = 0 then 0 else BitVec.ofInt 32 (Int.tmod a.toInt b.toInt)

/-- The signed minimum and maximum. -/
def minWord (a b : Word) : Word := if a.toInt ≤ b.toInt then a else b
def maxWord (a b : Word) : Word := if a.toInt ≤ b.toInt then b else a

/-- The low and the high 32 bits of the signed product. -/
def mulLow (a b : Word) : Word := BitVec.ofInt 32 (a.toInt * b.toInt)
def mulHigh (a b : Word) : Word := BitVec.ofInt 32 (a.toInt * b.toInt / 2 ^ 32)

/-- MUL's V: the product does not fit 32 bits. -/
def flMul (k : TaskRec) (a b r : Word) : TaskRec := { k.setZN r with v := decide (r.toInt ≠ a.toInt * b.toInt) }
/-- DIV's V: a zero divisor, or -2^31 / -1. -/
def flDiv (k : TaskRec) (a b r : Word) : TaskRec :=
  { k.setZN r with v := b == 0 || (a == 0x80000000 && b == 0xFFFFFFFF) }
/-- REM's V: a zero divisor. -/
def flRem (k : TaskRec) (_ b r : Word) : TaskRec := { k.setZN r with v := b == 0 }

/-- ADD (R216). -/
def execAdd (l : Lane) (f : Fields) (s : State) : Host.Outcome State Fault Refusal :=
  .next (s.rr l f (· + ·) fun k a b _ => k.flagsAdd a b)

/-- SUB (R216). -/
def execSub (l : Lane) (f : Fields) (s : State) : Host.Outcome State Fault Refusal :=
  .next (s.rr l f (· - ·) fun k a b _ => k.flagsSub a b)

/-- AND (R216). -/
def execAndReg (l : Lane) (f : Fields) (s : State) : Host.Outcome State Fault Refusal :=
  .next (s.rr l f (· &&& ·) flZN)

/-- OR (R216). -/
def execOrReg (l : Lane) (f : Fields) (s : State) : Host.Outcome State Fault Refusal :=
  .next (s.rr l f (· ||| ·) flZN)

/-- XOR (R216). -/
def execXorReg (l : Lane) (f : Fields) (s : State) : Host.Outcome State Fault Refusal :=
  .next (s.rr l f (· ^^^ ·) flZN)

/-- SHL (R216): by G[b][4:0]. -/
def execShl (l : Lane) (f : Fields) (s : State) : Host.Outcome State Fault Refusal :=
  .next (s.rr l f shl flShl)

/-- SHR (R216): logical right shift. -/
def execShr (l : Lane) (f : Fields) (s : State) : Host.Outcome State Fault Refusal :=
  .next (s.rr l f shr flShr)

/-- ASR (R216): arithmetic right shift. -/
def execAsr (l : Lane) (f : Fields) (s : State) : Host.Outcome State Fault Refusal :=
  .next (s.rr l f asr flShr)

/-- MUL (R216): the low 32 bits of the signed product. -/
def execMul (l : Lane) (f : Fields) (s : State) : Host.Outcome State Fault Refusal :=
  .next (s.rr l f mulLow flMul)

/-- MULH (R216): the high 32 bits of the signed product. -/
def execMulh (l : Lane) (f : Fields) (s : State) : Host.Outcome State Fault Refusal :=
  .next (s.rr l f mulHigh flZN)

/-- DIV (R216): the signed quotient. -/
def execDiv (l : Lane) (f : Fields) (s : State) : Host.Outcome State Fault Refusal :=
  .next (s.rr l f divWord flDiv)

/-- REM (R216): the signed remainder. -/
def execRem (l : Lane) (f : Fields) (s : State) : Host.Outcome State Fault Refusal :=
  .next (s.rr l f remWord flRem)

/-- MIN (R216): the signed minimum. -/
def execMinReg (l : Lane) (f : Fields) (s : State) : Host.Outcome State Fault Refusal :=
  .next (s.rr l f minWord flZN)

/-- MAX (R216): the signed maximum. -/
def execMaxReg (l : Lane) (f : Fields) (s : State) : Host.Outcome State Fault Refusal :=
  .next (s.rr l f maxWord flZN)

/-- CMP (R216): the flags of G[a] - G[b]; the result is discarded. -/
def execCmp (l : Lane) (f : Fields) (s : State) : Host.Outcome State Fault Refusal :=
  .next (s.cleStep l false 1 fun c k _ => whenFields f 0x0FF000 (.ok c (k.flagsSub (k.G (fA f)) (k.G (fB f)))))

/-- MOV (R216): G[d] := G[a]. -/
def execMovReg (l : Lane) (f : Fields) (s : State) : Host.Outcome State Fault Refusal :=
  .next (s.cleStep l false 1 fun c k _ => whenFields f 0xFF0000 (.ok c (k.setG (fD f) (k.G (fA f)))))

/-- ADDI (R216): the immediate is sign-extended. -/
def execAddi (l : Lane) (f : Fields) (s : State) : Host.Outcome State Fault Refusal :=
  .next (s.ri l f (fSimm f) (· + ·) fun k a b _ => k.flagsAdd a b)

/-- ANDI (R216): the immediate is zero-extended. -/
def execAndi (l : Lane) (f : Fields) (s : State) : Host.Outcome State Fault Refusal :=
  .next (s.ri l f (fUimm f) (· &&& ·) flZN)

/-- ORI (R216): the immediate is zero-extended. -/
def execOri (l : Lane) (f : Fields) (s : State) : Host.Outcome State Fault Refusal :=
  .next (s.ri l f (fUimm f) (· ||| ·) flZN)

/-- XORI (R216): the immediate is zero-extended. -/
def execXori (l : Lane) (f : Fields) (s : State) : Host.Outcome State Fault Refusal :=
  .next (s.ri l f (fUimm f) (· ^^^ ·) flZN)

/-- A shift by an immediate (R216): imm16[15:5] must be 0. -/
def State.shiftImm (s : State) (l : Lane) (f : Fields) (r : Word → Word → Word)
    (fl : TaskRec → Word → Word → Word → TaskRec) : State :=
  s.cleStep l false 1 fun c k _ =>
    whenFields f 0xFF001F <|
      let a := k.G (fA f)
      .ok c ((fl k a (fUimm f) (r a (fUimm f))).setG (fD f) (r a (fUimm f)))

/-- SHLI (R216). -/
def execShli (l : Lane) (f : Fields) (s : State) : Host.Outcome State Fault Refusal :=
  .next (s.shiftImm l f shl flShl)

/-- SHRI (R216). -/
def execShri (l : Lane) (f : Fields) (s : State) : Host.Outcome State Fault Refusal :=
  .next (s.shiftImm l f shr flShr)

/-- ASRI (R216). -/
def execAsri (l : Lane) (f : Fields) (s : State) : Host.Outcome State Fault Refusal :=
  .next (s.shiftImm l f asr flShr)

/-- CMPI (R216): the flags of G[a] minus the sign-extended immediate. -/
def execCmpi (l : Lane) (f : Fields) (s : State) : Host.Outcome State Fault Refusal :=
  .next (s.cleStep l false 1 fun c k _ => whenFields f 0x0FFFFF (.ok c (k.flagsSub (k.G (fA f)) (fSimm f))))

/-- MOVI (R216): G[d] := the sign-extended immediate. -/
def execMovi (l : Lane) (f : Fields) (s : State) : Host.Outcome State Fault Refusal :=
  .next (s.cleStep l false 1 fun c k _ => whenFields f 0xF0FFFF (.ok c (k.setG (fD f) (fSimm f))))

/-- MOVL (R216): G[d] := the extension word. -/
def execMovl (l : Lane) (f : Fields) (ext : Word) (s : State) : Host.Outcome State Fault Refusal :=
  .next (s.cleStep l false 2 fun c k _ => whenFields f 0xF00000 (.ok c (k.setG (fD f) ext)))

end Sys2Proof.Machine
end

