-- ==== Sys2Proof/Machine/CleMem.lean ====
section
/-! DEFINITION. The load and store instructions (R205, R208, R210, R216, R231). -/

namespace Sys2Proof.Machine

/-- A load of `n` bytes at an address into a register (R205, R208). -/
def State.loadStep (s : State) (l : Lane) (f : Fields) (mask : Nat) (addr : TaskRec → Nat) (n : Nat)
    (put : TaskRec → Nat → TaskRec) : State :=
  s.cleStepReading l false 1 (eff := fun c k _ =>
    whenFields f mask <|
      match c.load (addr k) n with
      | some v => .ok c (put k v)
      | none => .fault Cause.address)
    fun c k _ => if onlyBits f mask && (c.load (addr k) n).isSome then c.sramWords (addr k) n else []

/-- A store of the low `n` bytes of a number at an address (R205, R208). -/
def State.storeStep (s : State) (l : Lane) (f : Fields) (mask : Nat) (addr : TaskRec → Nat) (n : Nat)
    (val : TaskRec → Nat) : State :=
  s.cleStep l false 1 fun c k _ =>
    whenFields f mask <|
      match c.store (addr k) (val k) n with
      | some c' => .ok c' k
      | none => .fault Cause.address

/-- A number read into G[d], as it is or sign-extended from `n` bits. -/
def putU (f : Fields) (k : TaskRec) (v : Nat) : TaskRec := k.setG (fD f) (BitVec.ofNat 32 v)
def putS (f : Fields) (n : Nat) (k : TaskRec) (v : Nat) : TaskRec := k.setG (fD f) (BitVec.ofInt 32 (signedOf n v))

/-- LDW (R208, R216): the word at G[a] + offset. -/
def execLdw (l : Lane) (f : Fields) (s : State) : Host.Outcome State Fault Refusal :=
  .next (s.loadStep l f 0xFFFFFF (fun k => addrM k f) 4 (putU f))

/-- LDH (R216): a signed halfword. -/
def execLdh (l : Lane) (f : Fields) (s : State) : Host.Outcome State Fault Refusal :=
  .next (s.loadStep l f 0xFFFFFF (fun k => addrM k f) 2 (putS f 16))

/-- LDHU (R216): an unsigned halfword. -/
def execLdhu (l : Lane) (f : Fields) (s : State) : Host.Outcome State Fault Refusal :=
  .next (s.loadStep l f 0xFFFFFF (fun k => addrM k f) 2 (putU f))

/-- LDB (R216): a signed byte. -/
def execLdb (l : Lane) (f : Fields) (s : State) : Host.Outcome State Fault Refusal :=
  .next (s.loadStep l f 0xFFFFFF (fun k => addrM k f) 1 (putS f 8))

/-- LDBU (R216): an unsigned byte. -/
def execLdbu (l : Lane) (f : Fields) (s : State) : Host.Outcome State Fault Refusal :=
  .next (s.loadStep l f 0xFFFFFF (fun k => addrM k f) 1 (putU f))

/-- LIW (R216): the word at INST + offset. -/
def execLiw (l : Lane) (f : Fields) (s : State) : Host.Outcome State Fault Refusal :=
  .next (s.loadStep l f 0xF0FFFF (fun k => addrMI k f) 4 (putU f))

/-- XLDD (R216): X[d] := 64 bits, 8-byte aligned. -/
def execXldd (l : Lane) (f : Fields) (s : State) : Host.Outcome State Fault Refusal :=
  .next (s.loadStep l f 0xFFFFFF (fun k => addrM k f) 8 (fun k v => k.setX (fD f) (BitVec.ofNat 64 v)))

/-- XLDS (R216): X[d] := 32 bits, the upper 32 bits 0. -/
def execXlds (l : Lane) (f : Fields) (s : State) : Host.Outcome State Fault Refusal :=
  .next (s.loadStep l f 0xFFFFFF (fun k => addrM k f) 4 (fun k v => k.setX (fD f) (BitVec.ofNat 64 v)))

/-- STW (R208, R216, R527): the word at G[a] + offset := G[s]. `lose` names a port whose write to the same word in the
same clock is discarded, 0 for none: the CLE's port 0 is the lowest and wins. -/
def execStw (l : Lane) (f : Fields) (lose : Fin 4) (s : State) : Host.Outcome State Fault Refusal :=
  let k := ((s.cle l).tasks.rd {} ((s.cle l).running.getD 0))
  let a := addrM k f
  let s1 := s.storeStep l f 0xFFFFFF (fun k => addrM k f) 4 (fun k => (k.G (fD f)).toNat)
  .next (if lose.val = 0 ∨ inWindow a ∨ s1.pstate (clePage l) ≠ 2 ∨ s.pstate (clePage l) ≠ 2 then s1
         else
           let s2 := s1.collision l 0 lose.val (sramAddr a)
           if lose.val = 1 then s2.laneFatal l 17 else s2)

/-- STH (R208, R216): the low halfword of G[s]. -/
def execSth (l : Lane) (f : Fields) (s : State) : Host.Outcome State Fault Refusal :=
  .next (s.storeStep l f 0xFFFFFF (fun k => addrM k f) 2 (fun k => (k.G (fD f)).toNat))

/-- STB (R208, R216): the low byte of G[s]. -/
def execStb (l : Lane) (f : Fields) (s : State) : Host.Outcome State Fault Refusal :=
  .next (s.storeStep l f 0xFFFFFF (fun k => addrM k f) 1 (fun k => (k.G (fD f)).toNat))

/-- SIW (R216): the word at INST + offset := G[s]. -/
def execSiw (l : Lane) (f : Fields) (s : State) : Host.Outcome State Fault Refusal :=
  .next (s.storeStep l f 0xF0FFFF (fun k => addrMI k f) 4 (fun k => (k.G (fD f)).toNat))

/-- XSTD (R216, R231): 64 bits := X[s], 8-byte aligned. -/
def execXstd (l : Lane) (f : Fields) (s : State) : Host.Outcome State Fault Refusal :=
  .next (s.storeStep l f 0xFFFFFF (fun k => addrM k f) 8 (fun k => (k.X (fD f)).toNat))

/-- XSTS (R216, R231): 32 bits := X[s][31:0]. -/
def execXsts (l : Lane) (f : Fields) (s : State) : Host.Outcome State Fault Refusal :=
  .next (s.storeStep l f 0xFFFFFF (fun k => addrM k f) 4 (fun k => (k.X (fD f)).toNat % 2 ^ 32))

/-- The quality or write result of a window word (R210). -/
def CleRec.quality (c : CleRec) (a : Nat) : Option Nat :=
  let w := a - windowBase
  if a % 4 ≠ 0 ∨ !inWindow a then none
  else if c.img.inMap.contains w then some (c.inputs.rd {} w).qual
  else if c.img.outMap.contains w then some (c.outResults.rd 0x1FF w)
  else none

/-- QUAL (R210): the quality of an input word, or the result of the last write of a word only in the output map. -/
def execQual (l : Lane) (f : Fields) (s : State) : Host.Outcome State Fault Refusal :=
  .next (s.cleStep l false 1 fun c k _ =>
    match c.quality (addrM k f) with
    | some q => .ok c (k.setG (fD f) (BitVec.ofNat 32 q))
    | none => .fault Cause.address)

end Sys2Proof.Machine
end

