-- ==== Sys2Proof/Machine/CleBit.lean ====
section
/-! DEFINITION. The bit instructions (R212, R216, R219): the accumulator ACC, bits of data and window words, and the bit
stack. -/

namespace Sys2Proof.Machine

/-- BTOG (R216): G[d] := ACC. -/
def execBtog (l : Lane) (f : Fields) (s : State) : Host.Outcome State Fault Refusal :=
  .next (s.cleStep l false 1 fun c k _ => whenFields f 0xF00000 (.ok c (k.setG (fD f) (BitVec.ofNat 32 (bool01 k.acc)))))

/-- GTOB (R216): ACC := 1 if G[a] is not 0, else 0. -/
def execGtob (l : Lane) (f : Fields) (s : State) : Host.Outcome State Fault Refusal :=
  .next (s.cleStep l false 1 fun c k _ => whenFields f 0x0F0000 (.ok c { k with acc := k.G (fA f) != 0 }))

/-- The word of SRAM that a bit operand stands in. -/
def CleRec.bitWords (c : CleRec) (k : TaskRec) (f : Fields) : List Nat :=
  match bitOperand k f with
  | some (a, _) => if a % 4 = 0 then c.sramWords a 4 else []
  | none => []

/-- An instruction that reads a bit operand (R212): SEL 3 is illegal, an address outside the space a fault. -/
def State.bitRead (s : State) (l : Lane) (f : Fields) (use : TaskRec → Bool → Option TaskRec) : State :=
  s.cleStepReading l true 1 (eff := fun c k _ =>
    match bitOperand k f with
    | none => .fault Cause.illegal
    | some (a, b) =>
      match c.load a 4 with
      | none => .fault Cause.address
      | some v =>
        match use k (bitAt v b) with
        | some k' => .ok c k'
        | none => .fault Cause.illegal)
    fun c k _ => c.bitWords k f

/-- An instruction that writes a bit operand: read, modify and write in one (R216); `use` gives the new bit, none for
no change. -/
def State.bitWrite (s : State) (l : Lane) (f : Fields) (use : Bool → Option Bool) : State :=
  s.cleStepReading l true 1 (eff := fun c k _ =>
    match bitOperand k f with
    | none => .fault Cause.illegal
    | some (a, b) =>
      match c.load a 4 with
      | none => .fault Cause.address
      | some v =>
        match c.store a (match use k.acc with | some x => setBit v b x | none => v) 4 with
        | none => .fault Cause.address
        | some c' => .ok (if (use k.acc).isSome then c' else c) k)
    fun c k _ => c.bitWords k f

/-- A bit operand folded into ACC. -/
def accFold (op : Bool → Bool → Bool) (k : TaskRec) (b : Bool) : Option TaskRec := some { k with acc := op k.acc b }

/-- ACC and a pending operation pushed on the bit stack (R219), which holds 16 entries. -/
def pushBit (op : BitOp) (k : TaskRec) (b : Bool) : Option TaskRec :=
  if k.bstack.length ≥ 16 then none else some { k with bstack := (k.acc, op) :: k.bstack, acc := b }

/-- BLD (R216): ACC := bit. -/
def execBld (l : Lane) (f : Fields) (s : State) : Host.Outcome State Fault Refusal :=
  .next (s.bitRead l f (accFold fun _ b => b))

/-- BLDN (R216): ACC := not bit. -/
def execBldn (l : Lane) (f : Fields) (s : State) : Host.Outcome State Fault Refusal :=
  .next (s.bitRead l f (accFold fun _ b => !b))

/-- BAND (R216): ACC := ACC and bit. -/
def execBand (l : Lane) (f : Fields) (s : State) : Host.Outcome State Fault Refusal :=
  .next (s.bitRead l f (accFold fun a b => a && b))

/-- BANDN (R216): ACC := ACC and not bit. -/
def execBandn (l : Lane) (f : Fields) (s : State) : Host.Outcome State Fault Refusal :=
  .next (s.bitRead l f (accFold fun a b => a && !b))

/-- BOR (R216): ACC := ACC or bit. -/
def execBor (l : Lane) (f : Fields) (s : State) : Host.Outcome State Fault Refusal :=
  .next (s.bitRead l f (accFold fun a b => a || b))

/-- BORN (R216): ACC := ACC or not bit. -/
def execBorn (l : Lane) (f : Fields) (s : State) : Host.Outcome State Fault Refusal :=
  .next (s.bitRead l f (accFold fun a b => a || !b))

/-- BXOR (R216): ACC := ACC xor bit. -/
def execBxor (l : Lane) (f : Fields) (s : State) : Host.Outcome State Fault Refusal :=
  .next (s.bitRead l f (accFold fun a b => a != b))

/-- BST (R216): bit := ACC. -/
def execBst (l : Lane) (f : Fields) (s : State) : Host.Outcome State Fault Refusal :=
  .next (s.bitWrite l f fun a => some a)

/-- BSTN (R216): bit := not ACC. -/
def execBstn (l : Lane) (f : Fields) (s : State) : Host.Outcome State Fault Refusal :=
  .next (s.bitWrite l f fun a => some (!a))

/-- BSET (R216): bit := 1 if ACC is 1. -/
def execBset (l : Lane) (f : Fields) (s : State) : Host.Outcome State Fault Refusal :=
  .next (s.bitWrite l f fun a => if a then some true else none)

/-- BRST (R216): bit := 0 if ACC is 1. -/
def execBrst (l : Lane) (f : Fields) (s : State) : Host.Outcome State Fault Refusal :=
  .next (s.bitWrite l f fun a => if a then some false else none)

/-- BANDP (R219): pushes (ACC, AND); ACC := bit. -/
def execBandp (l : Lane) (f : Fields) (s : State) : Host.Outcome State Fault Refusal :=
  .next (s.bitRead l f (pushBit .and))

/-- BORP (R219): pushes (ACC, OR); ACC := bit. -/
def execBorp (l : Lane) (f : Fields) (s : State) : Host.Outcome State Fault Refusal :=
  .next (s.bitRead l f (pushBit .or))

/-- BXORP (R219): pushes (ACC, XOR); ACC := bit. -/
def execBxorp (l : Lane) (f : Fields) (s : State) : Host.Outcome State Fault Refusal :=
  .next (s.bitRead l f (pushBit .xor))

/-- A pending operation carried out (R219). -/
def BitOp.apply (op : BitOp) (v a : Bool) : Bool :=
  match op with
  | .and => v && a
  | .or => v || a
  | .xor => v != a

/-- BPOP (R219): pops (v, op); ACC := v op ACC. -/
def execBpop (l : Lane) (f : Fields) (s : State) : Host.Outcome State Fault Refusal :=
  .next (s.cleStep l true 1 fun c k _ =>
    whenFields f 0 <|
      match k.bstack with
      | [] => .fault Cause.illegal
      | (v, op) :: rest => .ok c { k with bstack := rest, acc := op.apply v k.acc })

/-- BACC (R216): ACC from a sub-operation; 3 to 5 copy a flag and are illegal in bit-logic mode. -/
def execBacc (l : Lane) (f : Fields) (s : State) : Host.Outcome State Fault Refusal :=
  .next (s.cleStep l true 1 fun c k t =>
    whenFields f 0xF <|
      let set (b : Bool) : Eff := .ok c { k with acc := b }
      let flag (b : Bool) : Eff := if (c.taskDef t).bitMode then .fault Cause.illegal else set b
      match f.toNat with
      | 0 => set (!k.acc)
      | 1 => set false
      | 2 => set true
      | 3 => flag k.z
      | 4 => flag k.n
      | 5 => flag k.c
      | _ => .fault Cause.illegal)

end Sys2Proof.Machine
end

