-- ==== Sys2Proof/Machine/CleFb.lean ====
section
/-! DEFINITION. The intrinsic function blocks (R221-R228): timers, counters, edge detectors, PID, LAG1 and SLEW, each
working on its instance in data memory. -/

namespace Sys2Proof.Machine

/-- An intrinsic (R221, R222): its instance is checked, and `body` works on data memory at the instance; `ok` says
whether it is legal in bit-logic mode. -/
def State.intrinsic (s : State) (l : Lane) (f : Fields) (ok : Bool) (code size : Nat)
    (body : CleRec → TaskRec → Nat → CleRec × TaskRec) : State :=
  s.cleStepReading l ok 1 (eff := fun c k t =>
    match c.instance? k (c.taskDef t).bitMode f code size with
    | .error e => .fault e
    | .ok a => let (c', k') := body c k a; .ok c' k') fun c k t =>
    match fbOperand k (c.taskDef t).bitMode f with
    | .ok a => if a % 8 = 0 && (c.img.data.holds a size || c.img.retain.holds a size) then c.sramWords a size else []
    | .error _ => []

/-- A word, and a 64-bit field, of an instance. -/
def CleRec.w32 (c : CleRec) (a : Nat) : Nat := memRead c.data a 4
def CleRec.w64 (c : CleRec) (a : Nat) : Nat := memRead c.data a 8
def CleRec.put32 (c : CleRec) (a v : Nat) : CleRec := { c with data := memWrite c.data a v 4 }.wrote a 4
def CleRec.put64 (c : CleRec) (a v : Nat) : CleRec := { c with data := memWrite c.data a v 8 }.wrote a 8

/-- What a timer holds (R223). -/
structure TimerVal where
  input : Bool
  prev : Bool
  q : Bool
  pt : Nat
  et : Nat
  start : Nat
  deriving DecidableEq, Repr

/-- Program time minus START, as an unsigned 64-bit count. -/
def TimerVal.d (v : TimerVal) (now : Nat) : Nat := (now + 2 ^ 64 - v.start % 2 ^ 64) % 2 ^ 64

/-- TON's evaluation (R223). -/
def TimerVal.ton (v : TimerVal) (now : Nat) : TimerVal :=
  let v := if v.input && !v.prev then { v with start := now } else v
  if v.input then { v with et := min (v.d now) v.pt, q := decide (v.pt ≤ v.d now) } else { v with et := 0, q := false }

/-- TOF's evaluation (R223). -/
def TimerVal.tof (v : TimerVal) (now : Nat) : TimerVal :=
  if v.input then { v with q := true, et := 0 }
  else
    let v := if v.prev then { v with start := now } else v
    if v.q then { v with et := min (v.d now) v.pt, q := decide (v.d now < v.pt) } else v

/-- TP's evaluation (R223). -/
def TimerVal.tp (v : TimerVal) (now : Nat) : TimerVal :=
  let v := if !v.q && v.input && !v.prev then { v with q := true, start := now } else v
  let v := if v.q then { v with et := min (v.d now) v.pt, q := decide (v.d now < v.pt) } else v
  if v.q then v else { v with et := if v.input then v.pt else 0 }

/-- A timer called (R222, R223): ACC to IN, the evaluation, IN_PREV := IN, ACC := Q. -/
def timerBody (eval : TimerVal → Nat → TimerVal) (c : CleRec) (k : TaskRec) (a : Nat) : CleRec × TaskRec :=
  let bits := c.w32 (a + 0x10)
  let v := eval ⟨k.acc, bitAt bits 3, bitAt bits 1, c.w64 (a + 0x18), c.w64 (a + 0x20), c.w64 (a + 0x28)⟩ c.progTime
  let c := c.put32 (a + 0x10) (bool01 v.input + 2 * bool01 v.q + 8 * bool01 v.input)
  let c := (c.put64 (a + 0x20) v.et).put64 (a + 0x28) v.start
  (c, { k with acc := v.q })

/-- TON (R223): an on-delay timer. -/
def execTon (l : Lane) (f : Fields) (s : State) : Host.Outcome State Fault Refusal :=
  .next (s.intrinsic l f true 0x0001 48 (timerBody TimerVal.ton))

/-- TOF (R223): an off-delay timer. -/
def execTof (l : Lane) (f : Fields) (s : State) : Host.Outcome State Fault Refusal :=
  .next (s.intrinsic l f true 0x0002 48 (timerBody TimerVal.tof))

/-- TP (R223): a pulse timer. -/
def execTpTimer (l : Lane) (f : Fields) (s : State) : Host.Outcome State Fault Refusal :=
  .next (s.intrinsic l f true 0x0003 48 (timerBody TimerVal.tp))

/-- What a counter holds (R224). -/
structure CounterVal where
  cu : Bool
  cd : Bool
  r : Bool
  ld : Bool
  qu : Bool
  qd : Bool
  cuPrev : Bool
  cdPrev : Bool
  pv : Int
  cv : Int
  deriving DecidableEq, Repr

/-- One count up and one down within the bounds of R224. -/
def countUp (cv : Int) : Int := if cv < 2147483647 then cv + 1 else cv
def countDown (cv : Int) : Int := if cv > -2147483648 then cv - 1 else cv

/-- CTU's evaluation (R224). -/
def CounterVal.ctu (v : CounterVal) : CounterVal :=
  let cv := if v.r then 0 else if v.cu && !v.cuPrev then countUp v.cv else v.cv
  { v with cv := cv, qu := decide (cv ≥ v.pv) }

/-- CTD's evaluation (R224). -/
def CounterVal.ctd (v : CounterVal) : CounterVal :=
  let cv := if v.ld then v.pv else if v.cd && !v.cdPrev then countDown v.cv else v.cv
  { v with cv := cv, qd := decide (cv ≤ 0) }

/-- CTUD's evaluation (R224): both edges in one call cancel. -/
def CounterVal.ctud (v : CounterVal) : CounterVal :=
  let up := v.cu && !v.cuPrev
  let down := v.cd && !v.cdPrev
  let cv := if v.r then 0 else if v.ld then v.pv
    else if up && !down then countUp v.cv else if down && !up then countDown v.cv else v.cv
  { v with cv := cv, qu := decide (cv ≥ v.pv), qd := decide (cv ≤ 0) }

/-- A counter called (R222, R224): ACC to the primary input (CU, or CD for CTD), the evaluation, the previous states,
ACC := QU or QD. -/
def counterBody (down : Bool) (eval : CounterVal → CounterVal) (c : CleRec) (k : TaskRec) (a : Nat) :
    CleRec × TaskRec :=
  let b := c.w32 (a + 0x10)
  let v : CounterVal := {
    cu := if down then bitAt b 0 else k.acc, cd := if down then k.acc else bitAt b 1
    r := bitAt b 2, ld := bitAt b 3, qu := bitAt b 4, qd := bitAt b 5, cuPrev := bitAt b 8, cdPrev := bitAt b 9
    pv := signedOf 32 (c.w32 (a + 0x14)), cv := signedOf 32 (c.w32 (a + 0x18)) }
  let v := eval v
  let bits := bool01 v.cu + 2 * bool01 v.cd + 4 * bool01 v.r + 8 * bool01 v.ld + 16 * bool01 v.qu + 32 * bool01 v.qd
    + 256 * bool01 v.cu + 512 * bool01 v.cd
  ((c.put32 (a + 0x10) bits).put32 (a + 0x18) (patternOf 32 v.cv), { k with acc := if down then v.qd else v.qu })

/-- CTU (R224): an up-counter. -/
def execCtu (l : Lane) (f : Fields) (s : State) : Host.Outcome State Fault Refusal :=
  .next (s.intrinsic l f true 0x0011 32 (counterBody false CounterVal.ctu))

/-- CTD (R224): a down-counter. -/
def execCtd (l : Lane) (f : Fields) (s : State) : Host.Outcome State Fault Refusal :=
  .next (s.intrinsic l f true 0x0012 32 (counterBody true CounterVal.ctd))

/-- CTUD (R224): an up-down counter. -/
def execCtud (l : Lane) (f : Fields) (s : State) : Host.Outcome State Fault Refusal :=
  .next (s.intrinsic l f true 0x0013 32 (counterBody false CounterVal.ctud))

/-- An edge detector called (R222, R225): `q` from CLK and CLK_PREV. -/
def edgeBody (q : Bool → Bool → Bool) (c : CleRec) (k : TaskRec) (a : Nat) : CleRec × TaskRec :=
  let r := q k.acc (bitAt (c.w32 (a + 0x10)) 8)
  (c.put32 (a + 0x10) (bool01 k.acc + 2 * bool01 r + 256 * bool01 k.acc), { k with acc := r })

/-- R_TRIG (R225): a rising edge. -/
def execRTrig (l : Lane) (f : Fields) (s : State) : Host.Outcome State Fault Refusal :=
  .next (s.intrinsic l f true 0x0021 24 (edgeBody fun clk prev => clk && !prev))

/-- F_TRIG (R225): a falling edge. -/
def execFTrig (l : Lane) (f : Fields) (s : State) : Host.Outcome State Fault Refusal :=
  .next (s.intrinsic l f true 0x0022 24 (edgeBody fun clk prev => prev && !clk))

/-- A binary64 pattern with the XSR bits gathered so far. -/
abbrev Fx := Nat × Nat

/-- The operations of R226: each correctly rounded, each adding its exceptions. -/
def Fx.lit (w : Nat) : Fx := (w, 0)
def Fx.bin (op : Num → Num → Nat × Nat) (x y : Fx) : Fx :=
  let r := op (FloatFmt.b64.decode x.1) (FloatFmt.b64.decode y.1)
  (r.1, r.2 ||| x.2 ||| y.2)
def Fx.add (x y : Fx) : Fx := Fx.bin FloatFmt.b64.add x y
def Fx.sub (x y : Fx) : Fx := Fx.bin (fun a b => FloatFmt.b64.add a b.neg) x y
def Fx.mul (x y : Fx) : Fx := Fx.bin FloatFmt.b64.mul x y
def Fx.div (x y : Fx) : Fx := Fx.bin FloatFmt.b64.div x y
def Fx.lt (x y : Fx) : Bool := (FloatFmt.b64.decode x.1).lt (FloatFmt.b64.decode y.1)
def Fx.isNan (x : Fx) : Bool := (FloatFmt.b64.decode x.1).isNan
/-- The minimum and the maximum of R227 and R228, through which a NaN propagates. -/
def Fx.min (x y : Fx) : Fx :=
  if x.isNan || y.isNan then (FloatFmt.b64.qnan, x.2 ||| y.2) else Fx.bin FloatFmt.b64.minNum x y
def Fx.max (x y : Fx) : Fx :=
  if x.isNan || y.isNan then (FloatFmt.b64.qnan, x.2 ||| y.2) else Fx.bin FloatFmt.b64.maxNum x y
def Fx.ge (x y : Fx) : Bool := !x.isNan && !y.isNan && !x.lt y
def Fx.flags (x : Fx) (fl : Nat) : Fx := (x.1, x.2 ||| fl)

/-- The time step of R226 in seconds: an exact integer of microseconds divided once. -/
def Fx.dt (now last : Nat) : Fx :=
  let d : Nat := (now + 2 ^ 64 - last % 2 ^ 64) % 2 ^ 64
  Fx.div (FloatFmt.b64.ofInt (d : Int)) (FloatFmt.b64.ofInt 1000000)

/-- The XSR bits of a list of values, with INVALID for a NaN among the inputs (R227). -/
def Fx.gather (xs : List Fx) (inputs : List Fx) (extra : Nat) : Nat :=
  xs.foldl (fun a x => a ||| x.2) (extra ||| (if inputs.any Fx.isNan then Xsr.invalid else 0))

/-- The PID algorithm (R227), each step one rounded operation in the order written. -/
def pidBody (c : CleRec) (k : TaskRec) (a : Nat) : CleRec × TaskRec :=
  let rd (o : Nat) : Fx := Fx.lit (c.w64 (a + o))
  let zero := Fx.lit 0
  let ctrl := c.w32 (a + 0x80)
  let first := bitAt ctrl 2
  let pv := rd 0x48
  let outMin := rd 0x30
  let outMax := rd 0x38
  let dt := if first then zero else Fx.dt c.progTime (c.w64 (a + 0x78))
  let pvPrev := if first then pv else rd 0x68
  let dState := if first then zero else rd 0x70
  let e := Fx.sub (rd 0x40) pv
  let bad := outMax.lt outMin
  let limit (x : Fx) : Fx := if bad then outMin else Fx.min (Fx.max x outMin) outMax
  let extra := if bad then Xsr.invalid else 0
  let inputs := [rd 0x10, rd 0x18, rd 0x20, rd 0x28, outMin, outMax, rd 0x40, pv, rd 0x50]
  let finish (c : CleRec) (out iState dNew : Fx) (hi lo : Bool) (all : List Fx) (inputs : List Fx) : CleRec × TaskRec :=
    let ctrl' := bool01 (bitAt ctrl 0) + 2 * bool01 (bitAt ctrl 1) + 8 * bool01 hi + 16 * bool01 lo
    let c := (((c.put64 (a + 0x58) out.1).put64 (a + 0x60) iState.1).put64 (a + 0x68) pv.1).put64 (a + 0x70) dNew.1
    let c := (c.put64 (a + 0x78) c.progTime).put32 (a + 0x80) ctrl'
    (c, { k.setX 0 (BitVec.ofNat 64 out.1) with xsr := k.xsr ||| Fx.gather (out :: iState :: dNew :: all) inputs extra })
  let shown (x : Fx) (ins : List Fx) : Fx := if ins.any Fx.isNan then (FloatFmt.b64.qnan, x.2) else x
  if bitAt ctrl 0 then
    let out := shown (limit (rd 0x88)) (rd 0x88 :: inputs)
    let iState := Fx.sub (Fx.sub (Fx.sub out (Fx.mul (rd 0x10) e)) dState) (rd 0x50)
    finish c out iState dState (bitAt ctrl 3) (bitAt ctrl 4) [] (rd 0x88 :: inputs)
  else
    let ke := Fx.mul (rd 0x18) e
    let inew := if bitAt ctrl 1 then rd 0x60 else Fx.add (rd 0x60) (Fx.mul ke dt)
    let den := Fx.add (rd 0x28) dt
    let dNew :=
      if zero.lt den then
        Fx.div (Fx.sub (Fx.mul (rd 0x28) dState) (Fx.mul (rd 0x20) (Fx.sub pv pvPrev))) den
      else zero
    let u := Fx.add (Fx.add (Fx.add (Fx.mul (rd 0x10) e) inew) dNew) (rd 0x50)
    let hi := outMax.lt u
    let lo := u.lt outMin
    let out := shown (limit u) inputs
    let wind := (hi && zero.lt ke) || (lo && ke.lt zero)
    finish c out (if wind then rd 0x60 else inew) dNew hi lo [inew, den, u, ke] inputs

/-- PID (R226, R227). -/
def execPid (l : Lane) (f : Fields) (s : State) : Host.Outcome State Fault Refusal :=
  .next (s.intrinsic l f false 0x0031 144 pidBody)

/-- The first-order lag (R228). -/
def lagBody (c : CleRec) (k : TaskRec) (a : Nat) : CleRec × TaskRec :=
  let rd (o : Nat) : Fx := Fx.lit (c.w64 (a + o))
  let dt := Fx.dt c.progTime (c.w64 (a + 0x28))
  let sum := Fx.add (rd 0x10) dt
  let out :=
    if bitAt (c.w32 (a + 0x30)) 0 then rd 0x18
    else if !(Fx.lit 0).lt sum then (rd 0x18).flags sum.2
    else Fx.add (rd 0x20) (Fx.mul (Fx.sub (rd 0x18) (rd 0x20)) (Fx.div dt sum))
  let c := ((c.put64 (a + 0x20) out.1).put64 (a + 0x28) c.progTime).put32 (a + 0x30) 0
  (c, { k.setX 0 (BitVec.ofNat 64 out.1) with xsr := k.xsr ||| out.2 })

/-- LAG1 (R226, R228). -/
def execLag1 (l : Lane) (f : Fields) (s : State) : Host.Outcome State Fault Refusal :=
  .next (s.intrinsic l f false 0x0041 56 lagBody)

/-- The slew-rate limiter (R228): a negative rate is used as given and sets INVALID. -/
def slewBody (c : CleRec) (k : TaskRec) (a : Nat) : CleRec × TaskRec :=
  let rd (o : Nat) : Fx := Fx.lit (c.w64 (a + o))
  let dt := Fx.dt c.progTime (c.w64 (a + 0x30))
  let inp := rd 0x20
  let old := rd 0x28
  let negRate := (rd 0x10).lt (Fx.lit 0) || (rd 0x18).lt (Fx.lit 0)
  let out :=
    if bitAt (c.w32 (a + 0x38)) 0 then inp
    else if inp.ge old then Fx.min inp (Fx.add old (Fx.mul (rd 0x10) dt))
    else Fx.max inp (Fx.sub old (Fx.mul (rd 0x18) dt))
  let c := ((c.put64 (a + 0x28) out.1).put64 (a + 0x30) c.progTime).put32 (a + 0x38) 0
  let fl := if negRate then Xsr.invalid else 0
  (c, { k.setX 0 (BitVec.ofNat 64 out.1) with xsr := k.xsr ||| out.2 ||| fl })

/-- SLEW (R226, R228). -/
def execSlew (l : Lane) (f : Fields) (s : State) : Host.Outcome State Fault Refusal :=
  .next (s.intrinsic l f false 0x0042 64 slewBody)

end Sys2Proof.Machine
end

