-- ==== Sys2Proof/Machine/CleNcp.lean ====
section
/-! DEFINITION. The numeric coprocessor (R229-R231): format X with P choosing binary64 or binary32; every result is
correctly rounded, and exceptions are gathered in XSR. -/

namespace Sys2Proof.Machine

/-- An NCP instruction with the fields it uses; `mask` holds the fields that need not be 0 (R211, R230). -/
def State.ncp (s : State) (l : Lane) (f : Fields) (mask : Nat) (eff : CleRec → TaskRec → Eff) : State :=
  s.cleStep l false 1 fun c k _ => whenFields f mask (eff c k)

/-- The number in X[i] as the format reads it (R229). -/
def TaskRec.num (k : TaskRec) (fm : FloatFmt) (i : Nat) : Num := fm.decode ((k.X i).toNat % 2 ^ fm.width)

/-- A result written to X[d] and its exceptions gathered; a binary32 result clears the upper half. -/
def TaskRec.result (k : TaskRec) (d : Nat) (r : Nat × Nat) : TaskRec :=
  { k.setX d (BitVec.ofNat 64 r.1) with xsr := k.xsr ||| r.2 }

/-- An operation of one, two or three operands. -/
def State.ncp1 (s : State) (l : Lane) (f : Fields) (op : FloatFmt → Num → Nat × Nat) : State :=
  s.ncp l f 0xFF0001 fun c k =>
    let fm := FloatFmt.ofP (fP f)
    .ok c (k.result (fD f) (op fm (k.num fm (fA f))))
def State.ncp2 (s : State) (l : Lane) (f : Fields) (op : FloatFmt → Num → Num → Nat × Nat) : State :=
  s.ncp l f 0xFFF001 fun c k =>
    let fm := FloatFmt.ofP (fP f)
    .ok c (k.result (fD f) (op fm (k.num fm (fA f)) (k.num fm (fB f))))
def State.ncp3 (s : State) (l : Lane) (f : Fields) (op : FloatFmt → Num → Num → Num → Nat × Nat) : State :=
  s.ncp l f 0xFFFF01 fun c k =>
    let fm := FloatFmt.ofP (fP f)
    .ok c (k.result (fD f) (op fm (k.num fm (fA f)) (k.num fm (fB f)) (k.num fm (fC f))))

/-- XLIM (R230): min(max(a, b), c), each as minimumNumber and maximumNumber. -/
def FloatFmt.limit (fm : FloatFmt) (a b c : Num) : Nat × Nat :=
  let m := fm.maxNum a b
  let r := fm.minNum (fm.decode m.1) c
  (r.1, r.2 ||| m.2)

/-- XADD (R230). -/
def execXadd (l : Lane) (f : Fields) (s : State) : Host.Outcome State Fault Refusal :=
  .next (s.ncp2 l f FloatFmt.add)

/-- XSUB (R230). -/
def execXsub (l : Lane) (f : Fields) (s : State) : Host.Outcome State Fault Refusal :=
  .next (s.ncp2 l f fun fm a b => fm.add a b.neg)

/-- XMUL (R230). -/
def execXmul (l : Lane) (f : Fields) (s : State) : Host.Outcome State Fault Refusal :=
  .next (s.ncp2 l f FloatFmt.mul)

/-- XFMA (R230): one rounding. -/
def execXfma (l : Lane) (f : Fields) (s : State) : Host.Outcome State Fault Refusal :=
  .next (s.ncp3 l f FloatFmt.fma)

/-- XDIV (R230). -/
def execXdiv (l : Lane) (f : Fields) (s : State) : Host.Outcome State Fault Refusal :=
  .next (s.ncp2 l f FloatFmt.div)

/-- XSQRT (R230). -/
def execXsqrt (l : Lane) (f : Fields) (s : State) : Host.Outcome State Fault Refusal :=
  .next (s.ncp1 l f FloatFmt.sqrt)

/-- A sign operation (R230): the bits are copied but for the sign, and no exception is set; a binary32 result clears
the upper half. -/
def State.signOp (s : State) (l : Lane) (f : Fields) (sign : Bool → Bool) : State :=
  s.ncp l f 0xFF0001 fun c k =>
    let n := (FloatFmt.ofP (fP f)).width
    let v := (k.X (fA f)).toNat % 2 ^ n
    .ok c (k.setX (fD f) (BitVec.ofNat 64 (setBit v (n - 1) (sign (bitAt v (n - 1))))))

/-- XABS (R230): the sign bit cleared. -/
def execXabs (l : Lane) (f : Fields) (s : State) : Host.Outcome State Fault Refusal :=
  .next (s.signOp l f fun _ => false)

/-- XNEG (R230): the sign bit inverted. -/
def execXneg (l : Lane) (f : Fields) (s : State) : Host.Outcome State Fault Refusal :=
  .next (s.signOp l f fun b => !b)

/-- XMIN (R230): minimumNumber. -/
def execXmin (l : Lane) (f : Fields) (s : State) : Host.Outcome State Fault Refusal :=
  .next (s.ncp2 l f FloatFmt.minNum)

/-- XMAX (R230): maximumNumber. -/
def execXmax (l : Lane) (f : Fields) (s : State) : Host.Outcome State Fault Refusal :=
  .next (s.ncp2 l f FloatFmt.maxNum)

/-- XLIM (R230). -/
def execXlim (l : Lane) (f : Fields) (s : State) : Host.Outcome State Fault Refusal :=
  .next (s.ncp3 l f FloatFmt.limit)

/-- XCMP (R230): Z equal, N less, C greater, V unordered. -/
def execXcmp (l : Lane) (f : Fields) (s : State) : Host.Outcome State Fault Refusal :=
  .next (s.ncp l f 0x0FF001 fun c k =>
    let fm := FloatFmt.ofP (fP f)
    let ((z, n, g, v), x) := (k.num fm (fA f)).compare (k.num fm (fB f))
    .ok c { k with z := z, n := n, c := g, v := v, xsr := k.xsr ||| x })

/-- XSIN (R230), radians. -/
def execXsin (l : Lane) (f : Fields) (s : State) : Host.Outcome State Fault Refusal :=
  .next (s.ncp1 l f FloatFmt.sin)

/-- XCOS (R230), radians. -/
def execXcos (l : Lane) (f : Fields) (s : State) : Host.Outcome State Fault Refusal :=
  .next (s.ncp1 l f FloatFmt.cos)

/-- XATAN2 (R230): atan2(X[a], X[b]). -/
def execXatan2 (l : Lane) (f : Fields) (s : State) : Host.Outcome State Fault Refusal :=
  .next (s.ncp2 l f FloatFmt.atan2)

/-- XEXP (R230). -/
def execXexp (l : Lane) (f : Fields) (s : State) : Host.Outcome State Fault Refusal :=
  .next (s.ncp1 l f FloatFmt.exp)

/-- XLN (R230). -/
def execXln (l : Lane) (f : Fields) (s : State) : Host.Outcome State Fault Refusal :=
  .next (s.ncp1 l f FloatFmt.ln)

/-- XCVTF (R230): X[d] := G[a] as a signed integer, rounded. -/
def execXcvtf (l : Lane) (f : Fields) (s : State) : Host.Outcome State Fault Refusal :=
  .next (s.ncp l f 0xFF0001 fun c k => .ok c (k.result (fD f) ((FloatFmt.ofP (fP f)).ofInt (k.G (fA f)).toInt)))

/-- XCVTI (R230): G[d] := X[a] rounded towards zero, saturated to 32 bits. -/
def execXcvti (l : Lane) (f : Fields) (s : State) : Host.Outcome State Fault Refusal :=
  .next (s.ncp l f 0xFF0001 fun c k =>
    let (i, x) := (k.num (FloatFmt.ofP (fP f)) (fA f)).toInt32
    .ok c { k.setG (fD f) (BitVec.ofInt 32 i) with xsr := k.xsr ||| x })

/-- XMOVX (R230): X[d] := X[a], bit for bit. -/
def execXmovx (l : Lane) (f : Fields) (s : State) : Host.Outcome State Fault Refusal :=
  .next (s.ncp l f 0xFF0001 fun c k => .ok c (k.setX (fD f) (k.X (fA f))))

/-- XGET (R230): G[d] := one half of X[a]; b is 0 or 1. -/
def execXget (l : Lane) (f : Fields) (s : State) : Host.Outcome State Fault Refusal :=
  .next (s.ncp l f 0xFF1000 fun c k =>
    .ok c (k.setG (fD f) (if fB f = 0 then lowWord (k.X (fA f)).toNat else highWord (k.X (fA f)).toNat)))

/-- XPUT (R230): one half of X[d] := G[a]; the other half is unchanged. -/
def execXput (l : Lane) (f : Fields) (s : State) : Host.Outcome State Fault Refusal :=
  .next (s.ncp l f 0xFF1000 fun c k =>
    let x := (k.X (fD f)).toNat
    let g := (k.G (fA f)).toNat
    .ok c (k.setX (fD f) (BitVec.ofNat 64 (if fB f = 0 then x / 2 ^ 32 * 2 ^ 32 + g else x % 2 ^ 32 + g * 2 ^ 32))))

/-- XRSR (R230): G[d] := XSR. -/
def execXrsr (l : Lane) (f : Fields) (s : State) : Host.Outcome State Fault Refusal :=
  .next (s.ncp l f 0xF00000 fun c k => .ok c (k.setG (fD f) (BitVec.ofNat 32 k.xsr)))

/-- XCSR (R230, R231): XSR := XSR and not G[a][4:0]. -/
def execXcsr (l : Lane) (f : Fields) (s : State) : Host.Outcome State Fault Refusal :=
  .next (s.ncp l f 0x0F0000 fun c k => .ok c { k with xsr := k.xsr &&& (31 - (k.G (fA f)).toNat % 32) })

/-- XCVTS (R230): binary64 X[a] rounded to binary32; P must be 0. -/
def execXcvts (l : Lane) (f : Fields) (s : State) : Host.Outcome State Fault Refusal :=
  .next (s.ncp l f 0xFF0000 fun c k => .ok c (k.result (fD f) (FloatFmt.b32.convert (k.num .b64 (fA f)))))

/-- XCVTD (R230): binary32 X[a] exactly as binary64; P must be 0. -/
def execXcvtd (l : Lane) (f : Fields) (s : State) : Host.Outcome State Fault Refusal :=
  .next (s.ncp l f 0xFF0000 fun c k => .ok c (k.result (fD f) (FloatFmt.b64.convert (k.num .b32 (fA f)))))

end Sys2Proof.Machine
end

