-- ==== Sys2Proof/Machine/CurdBytes.lean ====
section
/-! DEFINITION. The bytes of a curd record (R551, R552), as partition 0 holds them and a MIRROR frame carries them. Bytes
are numbers below 256. -/

namespace Sys2Proof.Machine

/-- The bytes of a signed number in two's complement, least significant first. -/
def leInt (n : Nat) (i : Int) : List Nat := leBytes n (i % (256 ^ n : Nat)).toNat

/-- Zero bytes. -/
def zeros (n : Nat) : List Nat := List.replicate n 0

/-- The slices of a curd record that are used (R551): 240, or the travel in units if that is smaller. -/
def Curd.slices (c : Curd) : Nat := min 240 (c.posEnd - c.posStart).natAbs

/-- The slice that a position falls in (R552): slice i begins at POS_START + i × travel / SLICES, with the division exact. -/
def Curd.sliceOf (c : Curd) (pos : Int) : Int :=
  let d := c.posEnd - c.posStart
  let a := if d < 0 then c.posStart - pos else pos - c.posStart
  a * c.slices / d.natAbs

/-- The eight bytes of a slice (R552): mean SPEED, mean F_EST, highest F_EXCESS, highest absolute I_Q. -/
def Curd.sliceBytes (c : Curd) (i : Nat) : List Nat :=
  let xs := if i < c.slices then c.samples.filter fun x => c.sliceOf x.1 == i else []
  let n : Int := xs.length
  let scale : Int := if rotary (0x10 + c.axis) then 65536 else 64
  if xs = [] then (List.replicate 4 [0, 0x80]).flatten
  else
    let speed := xs.foldl (fun m x => m + x.2.1) 0 / (n * scale)
    let est := xs.foldl (fun m x => m + x.2.2.1) 0 / n
    let top := xs.foldl (fun m x => max m x.2.2.2.1) (xs.headD (0, 0, 0, 0, 0)).2.2.2.1
    let iq := xs.foldl (fun m x => max m x.2.2.2.2.natAbs) 0
    leInt 2 (signal speed) ++ leInt 2 (signal est) ++ leInt 2 (signal top) ++ leInt 2 (signal iq)

/-- Bytes 0 to 63 of a curd record (R551). -/
def VatCurd.head (r : VatCurd) : List Nat :=
  let c := r.curd
  [1, 0, c.kind, c.axis, r.origin, c.set % 16 + c.cls % 16 * 16] ++ leBytes 2 c.tag ++ leBytes 4 r.seq ++ zeros 4
    ++ leBytes 8 c.tStart ++ leBytes 8 c.tEnd ++ leBytes 8 c.cycle ++ [c.reason, c.homeResult] ++ leBytes 2 c.flags
    ++ leInt 4 c.posStart ++ leInt 4 c.posEnd ++ leInt 4 c.target ++ leBytes 4 c.ration
    ++ leBytes 2 (saturate 16 c.delayMs) ++ leBytes 2 (saturate 16 c.grantedW)

/-- An energy gathered in 10^-12 mJ, in whole mJ. -/
def Curd.energy (_ : Curd) (e : Int) : Nat := (e / 1000000000000).toNat

/-- Bytes 64 to 123 of a curd record (R551). -/
def VatCurd.middle (r : VatCurd) : List Nat :=
  let c := r.curd
  leBytes 4 (saturate 32 c.peakSpeed) ++ leBytes 2 (saturate 16 c.peakIq) ++ leBytes 2 (saturate 16 c.peakPhase)
    ++ leInt 4 (saturateSigned 32 c.peakExcess) ++ leBytes 4 c.obstacle ++ leInt 4 c.obsPos ++ leInt 4 c.flySpeed
    ++ leBytes 4 (saturate 32 (c.energy c.drawn)) ++ leBytes 4 (saturate 32 (c.energy c.returned)) ++ leBytes 2 (saturate 16 c.homeEdges)
    ++ leBytes 2 (saturate 16 c.corners) ++ [c.driveState, c.driveCause] ++ leInt 2 (saturateSigned 16 c.tempMax)
    ++ leBytes 4 (c.captureSeq.getD 0xFFFFFFFF) ++ [c.captureLane, 0, 0, 0] ++ leBytes 4 r.boot ++ zeros 4
    ++ leBytes 2 c.slices ++ zeros 2

/-- The 2,048 bytes of a curd record (R551, R552). -/
def VatCurd.bytes (r : VatCurd) : List Nat :=
  let head := r.head ++ r.middle
  let profile := (List.range 240).flatMap r.curd.sliceBytes
  head ++ leBytes 4 (crc32 (head ++ profile)) ++ profile

end Sys2Proof.Machine
end

