-- ==== Sys2Proof/Machine/Crossing.lean ====
section
/-! DEFINITION. The Crossing (R77-R83), the lane states that follow from it (R84, R93, R94), joining a running lane (R85), and
the AGREE frames of the online change (R239, R240). -/

namespace Sys2Proof.Machine

/-! The links (R78). -/

/-- The state with a link of a lane replaced. -/
def State.setLink (s : State) (l : Lane) (k : Nat) (x : LinkRec) : State :=
  let r := s.lane l
  s.setLane l (if k = 0 then { r with link0 := x } else { r with link1 := x })

/-- Whether the other lane's heartbeat has been seen at some resource within the last 1 ms (R84), and whether it is absent at every
resource. -/
def State.seenLately (s : State) (o : Lane) : Bool :=
  ownedPages.any fun p => (s.beat p o).count.isSome && decide (s.now ≤ (s.beat p o).last + 1000000)
def State.beatAbsent (s : State) (o : Lane) : Bool := ownedPages.all fun p => !(s.beat p o).present

/-- A join that fails (R84, R85): another attempt follows after 10 s. A lane back in BOOTING sends no heartbeats (R86). -/
def State.joinFails (s : State) (l : Lane) : State :=
  let s := s.raise (lanePage l) 3
  let r := s.lane l
  let s := s.setLane l { r with join := { r.join with active := false, retryAt := some (s.now + 10000000000) } }
  if s.beatAbsent l.other then
    let s := s.setLane l { s.lane l with join := {} }
    s.startAlone l
  else (s.hbStop l (s.fld (lanePage l) Ln.LANE_INFO_CAUSE)).setLaneState l 1

/-- The Crossing lost for a lane (R79, R84, R93, R245, R493). -/
def State.crossingLost (s : State) (l : Lane) : State :=
  let r := s.lane l
  let s := s.setLane l { r with hello := none, prevGen := match r.hello with
    | some h => some h.gen
    | none => r.prevGen }
  let st := s.laneState l
  let s := if st = 4 ∨ st = 6 ∨ st = 7 then s.halfStops l else s
  if st = 2 then s.joinFails l
  else if st = 4 ∨ st = 6 ∨ st = 7 then
    let s := if st = 4 then s.ocAbandon 2 else s
    let s := s.putPair { s.pair with aligned := false }
    s.setLaneState l (if s.seenLately l.other then 5 else 3)
  else s

/-- A link of a lane enters DOWN (R78, R79): from UP with LINK_DOWN, and once both links are DOWN the Crossing is lost. -/
def State.linkDown (s : State) (l : Lane) (k : Nat) : State :=
  let x := (s.lane l).link k
  if x.state = 0 then s
  else
    let s := s.setLink l k { lastValid := x.lastValid }
    let s := if x.state = 2 ∧ l = s.servingLane then
        (s.bump 3 (if k = 0 then Xg.LINK_DOWN_COUNT_LINK0 else Xg.LINK_DOWN_COUNT_LINK1)).raise 3 0 k
      else s
    if ((s.lane l).link (1 - k)).state = 0 then s.crossingLost l else s

/-- Whether a lane sends on its links, as it does but for R110, and no frequency limit holds them (R78, R83). -/
def State.linkAlive (s : State) (l : Lane) : Bool := (s.lane l).sending && !(s.lane l).freqHeld

/-- LINK_SIGNAL_DETECT (R78). -/
def execLinkSignalDetect (t : Nat) (l : Lane) (k : Fin 2) (s : State) : Host.Outcome State Fault Refusal :=
  let s := s.start t
  let x := (s.lane l).link k
  .next (if x.state = 0 ∧ s.linkAlive l ∧ (s.lane l.other).sending then
      s.setLink l k { x with state := 1, goodSince := s.now, lastSignal := s.now, other := ((s.lane l.other).link k).state }
    else s)

/-- A HELLO sent (R77, R80). -/
def State.sendHello (s : State) (l : Lane) : State :=
  s.sendFrame l 8 [s.laneState l, ((s.cle l).image.map (·.digest)).getD 0]

/-- LINK_TRAIN_DONE (R78): UP, with a HELLO. -/
def execLinkTrainDone (t : Nat) (l : Lane) (k : Fin 2) (s : State) : Host.Outcome State Fault Refusal :=
  let s := s.start t
  let x := (s.lane l).link k
  .next <|
    if x.state ≠ 1 ∨ !s.linkAlive l ∨ s.now < x.goodSince + 10000000 ∨ x.other = 0 then s
    else
      let s := s.setLink l k { x with state := 2, lastValid := s.now, fails := [] }
      let s := if l = s.servingLane then s.raise 3 1 k else s
      (s.mirrorAgain l).sendHello l

/-- LINK_TIMEOUT (R78): no valid frame for 100 µs in UP, no decodable signal for 100 µs in TRAINING, or more than 16 frames of
1 ms that failed their CRC. -/
def execLinkTimeout (t : Nat) (l : Lane) (k : Fin 2) (burst : Bool) (s : State) : Host.Outcome State Fault Refusal :=
  let s := s.start t
  let x := (s.lane l).link k
  .next <|
    if x.state = 2 ∧ (burst ∨ x.lastValid + 100000 ≤ s.now) then s.linkDown l k
    else if x.state = 1 ∧ x.lastSignal + 100000 ≤ s.now then s.linkDown l k
    else s

/-- A frame that failed its CRC (R78, R99). -/
def State.crcFailed (s : State) (l : Lane) (k : Nat) : State :=
  let x := (s.lane l).link k
  let fails := (x.fails.filter fun n => s.now < n + 1000000) ++ [s.now]
  let s := s.setLink l k { x with fails := fails, goodSince := s.now, lastSignal := s.now }
  let s := if l = s.servingLane then s.bump 3 Xg.LINK_CRC_ERR k else s
  if x.state = 2 ∧ 16 < fails.length then s.linkDown l k else s

/-- A copy of a frame of the other lane on link `k` reaches lane `l` (R77-R79), with the state of that link in the other lane. -/
def State.takeCopy (s : State) (l : Lane) (k : Nat) (c : Copy) : State :=
  let x := (s.lane l).link k
  let sender := ((s.lane l.other).link k).state
  if x.state = 0 then s
  else
    match c with
    | .lost => s
    | .bad => s.crcFailed l k
    | .good =>
      let s := s.setLink l k { x with lastValid := s.now, lastSignal := s.now, other := sender }
      if x.state = 2 ∧ sender = 0 then s.linkDown l k else s

/-- Whether a copy of a frame of the other lane on link `k` is one that lane `l` may use (R78, R79): it is good, and the link is
UP in both lanes. -/
def State.usable (s : State) (l : Lane) (k : Nat) (c : Copy) : Bool :=
  c == .good && ((s.lane l).link k).state == 2 && ((s.lane l.other).link k).state == 2

/-- A frame of the other lane, sent on both links, as lane `l` receives it (R77-R79): a copy goes out on a link only where it is
UP in the sender, and the first usable one counts. -/
def State.arrives (s : State) (l : Lane) (c : Copies) : State × Bool :=
  let r := s.lane l.other
  if !r.sending || !(r.phase == .running || r.phase == .booting) then (s, false)
  else
    let copy (s : State) (k : Nat) (x : Copy) : State := if (r.link k).state = 2 then s.takeCopy l k x else s
    let s := copy (copy s 0 c.c0) 1 c.c1
    (s, s.usable l 0 c.c0 || s.usable l 1 c.c1)

/-- The same of a frame that is not a HELLO: it is dropped unless it carries the generation of the last HELLO (R80). -/
def State.receiveFrame (s : State) (l : Lane) (c : Copies) : State × Bool :=
  let r := s.arrives l c
  (r.1, r.2 && r.1.hears l)

/-- IDLE (R77, R78): lane `l` sends on link `k`, in every state of that link. -/
def execIdleFrame (t : Nat) (l : Lane) (k : Fin 2) (c : Copy) (s : State) : Host.Outcome State Fault Refusal :=
  let s := s.start t
  .next <|
    if !(s.lane l).sending then s
    else
      let r := s.lane l
      let n := (r.seqs.rd 0 0 + 1) % 2 ^ 16
      let s := s.setLane l { r with seqs := r.seqs.wr 0 0 n }
      (s.send .frame [l.num, k, (r.link k).state, 0, n, s.gen (lanePage l)]).takeCopy l.other k c

/-- Whether a condition has stood for 1 s. -/
def State.stood (s : State) (since : Option Nat) : Bool :=
  match since with
  | some x => decide (x + 1000000000 ≤ s.now)
  | none => false

/-- FREQ_LIMIT (R83): above 200 ppm for 1 s. -/
def execFreqLimit (t : Nat) (s : State) : Host.Outcome State Fault Refusal :=
  let s := s.start t
  let hold (s : State) (l : Lane) : State := s.setLane l { s.lane l with freqHeld := true }
  .next <|
    if !s.stood s.pair.above then s
    else
      let s := hold (hold s .a) .b
      ((((s.linkDown .a 0).linkDown .a 1).linkDown .b 0).linkDown .b 1).level 3 8 true

/-- FREQ_LIMIT_CLEAR (R83): below 150 ppm for 1 s. -/
def execFreqLimitClear (t : Nat) (s : State) : Host.Outcome State Fault Refusal :=
  let s := s.start t
  let free_ (s : State) (l : Lane) : State := s.setLane l { s.lane l with freqHeld := false }
  .next (if s.stood s.pair.below then (free_ (free_ s .a) .b).level 3 8 false else s)

/-- HELLO of lane `l` reaches the other lane (R80, R84): an unchanged generation takes a SPLIT lane to REALIGNING, a changed one to
ALONE. -/
def State.hello (s : State) (l : Lane) : State :=
  let o := l.other
  let r := s.lane o
  let h : HelloRec := {
    gen := s.gen (lanePage l), state := s.laneState l, digest := ((s.cle l).image.map (·.digest)).getD 0
    bootDone := (s.lane l).bootDone.isSome, fromPowerOn := (s.lane l).fromPowerOn }
  let s := s.setLane o { r with hello := some h }
  if s.laneState o = 5 then s.setLaneState o (if r.prevGen = some h.gen then 6 else 3) else s.settleBoots

def execHelloFrame (t : Nat) (l : Lane) (c : Copies) (s : State) : Host.Outcome State Fault Refusal :=
  let r := ((s.start t).sendHello l).arrives l.other c
  .next (if r.2 then r.1.hello l else r.1)

/-! Alignment (R81). -/

/-- A difference brought into the half-open period around 0. -/
def wrapPeriod (d : Int) (p : Nat) : Int :=
  if p = 0 then d
  else
    let m := d % p
    if 2 * m > p then m - p else m

/-- Lane B's boundary minus lane A's nearest one, in ns (R81, R99). -/
def State.alignNs (s : State) (atB : Nat) : Option Int :=
  match (s.cle .a).nextTb with
  | some a => some (wrapPeriod ((atB : Int) - a) (s.cyclePeriod .a * 1000))
  | none => none

/-- MARK (R81, R82): lane B moves its next boundary towards lane A's by at most 50 ns; a lane that is not aligned only stretches. -/
def execMarkFrame (t : Nat) (c : Copies) (s : State) : Host.Outcome State Fault Refusal :=
  let s := s.start t
  .next <|
    match (s.cle .a).nextTb with
    | none => s
    | some a =>
      let r := (s.sendFrame .a 1 [a]).receiveFrame .b c
      let s := r.1
      match (s.cle .b).nextTb with
      | none => s
      | some b =>
        match s.alignNs b with
        | none => s
        | some d =>
          if r.2 ∧ d.natAbs ≤ 2000 then
            let step : Int := max (-50) (min 50 d)
            s.setCle .b { s.cle .b with nextTb := some ((b : Int) - step).toNat }
          else s

/-- MIRROR (R77, R170, R553): in the idle time after its output phase a lane sends its next record and what it holds of the
other's. -/
def execMirrorFrame (t : Nat) (l : Lane) (c : Copies) (s : State) : Host.Outcome State Fault Refusal :=
  let s := s.start t
  let e := s.cle l
  .next <|
    if s.laneState l < 2 || !(e.phase == .idle || e.phase == .done) || !((s.lane l).link0.state == 2 || (s.lane l).link1.state == 2) then s
    else
      let v := s.vat l
      let rec_ := v.nextMirror l v.sendNext
      let s := s.setVat l { v with sendNext := (rec_.map fun r => r.seq + 1).getD v.sendNext }
      let r := (s.sendFrame l 6 ([(rec_.map fun r => r.seq).getD 0xFFFFFFFF, v.gotNext] ++ (rec_.map (·.bytes)).getD [])).receiveFrame l.other c
      let s := r.1
      if !r.2 || s.laneState l.other < 2 then s
      else
        let o := l.other
        let s := match rec_ with
          | some r => s.receiveMirror o r
          | none => s
        s.mirrorReport o v.gotNext

/-! Joining a running lane (R85). -/

/-- Whether lane `l` leads the join of the other lane. -/
def State.leads (s : State) (l : Lane) : Bool :=
  s.laneState l.other == 2 && (s.laneState l == 3 || s.laneState l == 7) && s.hears l && s.hears l.other

/-- The contents of data memory that a JOIN frame carries (R85), as the leader holds them. -/
def State.joinBytes (s : State) (l : Lane) (x : JoinPart) : List Nat :=
  (List.range x.bytes.val).map fun i => memRead (s.cle l).data (x.addr + i) 1

/-- JOIN (R77, R85): lane `l` leads and sends a part of its memory. -/
def execJoinFrame (t : Nat) (l : Lane) (c : Copies) (x : JoinPart) (s : State) : Host.Outcome State Fault Refusal :=
  let s := s.start t
  let p := lanePage l.other
  .next <|
    if !s.leads l then s
    else
      let r := (s.sendFrame l 7 ([x.pass, x.addr] ++ s.joinBytes l x)).receiveFrame l.other c
      let s := r.1
      if !r.2 then s
      else
        let s := s.setFld p Ln.JOIN_STATUS_PASSES (max (s.fld p Ln.JOIN_STATUS_PASSES) (saturate 8 x.pass))
        if x.pass ≤ 1 then s.setFld p Ln.JOIN_STATUS_PCT (max (s.fld p Ln.JOIN_STATUS_PCT) x.pct.val)
        else s.setFld p Ln.JOIN_STATUS_PCT 100

/-- The engine of the joining lane takes the leader's (R85, R121, R181), with its demand and its side of every safe connection as
part of the cycle state. -/
def State.copyEngine (s : State) (l : Lane) : State :=
  let o := l.other
  let s := s.readMram o
  let src := s.cle o
  let p := clePage l
  let good (b : SnapBuf) : SnapBuf := { b with valid := b.valid && b.flips.isEmpty, flips := [] }
  let changed := ((s.cle l).image.map (·.digest)) != (src.image.map (·.digest))
  let k := src.keptSnaps
  let s := s.setCle l { src with
    snap0 := good k.snap0, snap1 := good k.snap1, commit := none, exchOpen := false, waiting := false, got := none, receipt := none
    sentReceipt := none, compareSent := none, compareGot := none, compared := none, cleanCycle := none, sent := {}, early := none }
  let s := [Ce.CYCLE_ACT_PERIOD_US.off, Ce.PROG_REF.off, Ce.STOP_INFO_LAST_START.off].foldl (fun s f =>
    s.setReg p f (s.reg (clePage o) f)) s
  let s := if changed then (s.regenerate p).wakeUsed l else s
  let s := s.setHalf l { s.half l with demand := (s.half o).demand }
  let s := s.modSafe fun x => { x with conns := x.conns.set l (x.conns.of o), cfgs := x.cfgs.set l (x.cfgs.of o) }
  let st := s.pstate (clePage o)
  s.setCleState l (if st = 4 then 1 else st)

/-- RESTORE_MAP (R96): the lane brings back every resource whose start-up owner it is. -/
def State.restoreMap (s : State) (l : Lane) : State :=
  if !s.flag (lanePage l) Ln.HB_POLICY_RESTORE_MAP then s
  else (ownedPages.filter fun p => s.startOwner p == l.num && s.owner p != l.num).foldl (fun s p => s.beginMove l p 2) s

/-- JOIN_COMMIT (R84, R85): lane `l` holds what the leader held at the end of its last cycle; its first cycle begins at the leader's
next boundary. -/
def execJoinCommit (t : Nat) (l : Lane) (s : State) : Host.Outcome State Fault Refusal :=
  let s := s.start t
  let o := l.other
  let c := s.cle o
  let free_ := c.phase == .idle || c.phase == .done || s.pstate (clePage o) == 3
  .next <|
    if !s.leads o || !free_ || c.waiting then s
    else
      let resync := s.laneState o == 7
      let s := s.copyEngine l
      let s := (s.setFld (lanePage l) Ln.JOIN_STATUS_PCT 100).raise (lanePage l) 2
      let s := s.setLane l { s.lane l with join := { resync := resync } }
      if resync then (s.setLaneState l 7).clearRejoin
      else ((s.setLaneState o 4).setLaneState l 4).restoreMap l

/-- JOIN_LIMIT_EXPIRY (R84, R85). -/
def execJoinLimitExpiry (t : Nat) (l : Lane) (s : State) : Host.Outcome State Fault Refusal :=
  let s := s.start t
  .next (if s.laneState l = 2 ∧ (s.lane l).join.since + s.fld (lanePage l) Ln.JOIN_LIMIT_S * 1000000000 ≤ s.now then s.joinFails l
    else s)

/-- JOIN_RETRY (R85): 10 s after a join that failed. -/
def execJoinRetry (t : Nat) (l : Lane) (s : State) : Host.Outcome State Fault Refusal :=
  let s := s.start t
  let r := s.lane l
  .next (match r.join.retryAt with
    | some x =>
      if x ≤ s.now then (s.setLane l { r with join := { r.join with retryAt := none } }).settleBoot l else s
    | none => s)

/-- SPLIT_PARTNER_TIMEOUT (R84): the other lane's heartbeat absent at every resource for TAKEOVER_MS. -/
def execSplitPartnerTimeout (t : Nat) (l : Lane) (s : State) : Host.Outcome State Fault Refusal :=
  let s := s.start t
  let gone := ownedPages.all fun p => !(s.beat p l.other).present && decide ((s.beat p l.other).since + s.takeoverNs ≤ s.now)
  .next (if s.laneState l = 5 ∧ gone then s.setLaneState l 3 else s)

/-- ACK_REJOIN (R94, R100). -/
def cmdAckRejoin : Cmd where
  opc := 0x01
  kinds := (· == .crossing)
  who := .cfgOrCommand
  allow := fun s _ _ _ =>
    if s.flag 3 Xg.REJOIN_STATUS_READY ∧ s.laneState .a = 7 ∧ s.laneState .b = 7 then 0 else RC.state
  act := fun s _ _ _ =>
    let back (s : State) (l : Lane) : State := if (s.lane l).join.resync then s.restoreMap l else s
    let s := ((s.setLaneState .a 4).setLaneState .b 4).clearRejoin.safetyRejoin
    (back (back s .a) .b, RC.done)

def execAckRejoin (t : Nat) (q : Req) (s : State) : Host.Outcome State Fault Refusal :=
  .next ((s.start t).command q cmdAckRejoin)

/-- COUNTERS_CLEAR of page 0x03 (R100). -/
def cmdCrossingClear : Cmd where
  opc := 0x02
  kinds := (· == .crossing)
  who := .command
  act := fun s _ _ _ =>
    let s := [Xg.LINK_CRC_ERR.off, Xg.LINK_CRC_ERR.off + 4, Xg.LINK_DOWN_COUNT_LINK0.off, Xg.ALIGN_MAX.off, Xg.EXCH_LATE_COUNT.off,
      Xg.SPLIT_COUNT.off].foldl (fun s f => s.setReg 3 f 0) s
    (s, RC.done)

def execCrossingCountersClear (t : Nat) (q : Req) (s : State) : Host.Outcome State Fault Refusal :=
  .next ((s.start t).command q cmdCrossingClear)

/-- LANE_RESYNC (R94, R97): lane B discards its data and joins from lane A; its heartbeats go on. -/
def cmdLaneResync : Cmd where
  opc := 0x03
  kinds := (· == .lane)
  allow := fun s q _ _ => if q.page = 2 ∧ s.laneState .b = 7 then 0 else RC.state
  act := fun s _ _ _ => (s, RC.done)
  after := fun s _ => ((s.setCle .b ((s.cle .b).abandon)).setCleState .b 0).beginJoin .b true

def execLaneResync (t : Nat) (q : Req) (s : State) : Host.Outcome State Fault Refusal :=
  .next ((s.start t).command q cmdLaneResync)

/-! The AGREE frames (R239, R240). -/

/-- AGREE_READY of lane `l` reaches the other lane (R239): two successes with equal digests make the change READY, and different
digests end it. -/
def execAgreeReady (t : Nat) (l : Lane) (c : Copies) (s : State) : Host.Outcome State Fault Refusal :=
  let o := l.other
  let v := (s.start t).receiveFrame o c
  let s := v.1
  .next (match s.oc.result.of l with
    | some r => if s.pstate 0x0A ≠ 1 ∨ !v.2 then s else (s.putOc { s.oc with heard := s.oc.heard.set o (some r) }).ocReady
    | none => s)

/-- AGREE_COMMIT (R240): lane A, after lane B's receipt of the EXCHANGE of cycle L, names the commit cycle. -/
def execAgreeCommit (t : Nat) (c : Copies) (s : State) : Host.Outcome State Fault Refusal :=
  let s := s.start t
  let e := s.cle .a
  .next (match s.oc.latchedAt with
    | some n =>
      if s.pstate 0x0A ≠ 3 ∨ s.oc.commitGot ∨ e.receipt ≠ some true ∨ e.sent.cycle ≠ n then s
      else
        let v := (s.sendFrame .a 5 [1, n + 2]).receiveFrame .b c
        let s := v.1
        if v.2 then s.putOc { s.oc with commitN := some (n + 2), commitGot := true } else s
    | none => s)

/-- AGREE_CONSENT (R240): lane B answers while the change still stands. -/
def execAgreeConsent (t : Nat) (c : Copies) (s : State) : Host.Outcome State Fault Refusal :=
  let s := s.start t
  .next (if s.pstate 0x0A ≠ 3 ∨ !s.oc.commitGot ∨ s.oc.consentGot then s
    else
      let v := (s.sendFrame .b 5 [2, s.oc.commitN.getD 0]).receiveFrame .a c
      let s := v.1
      if v.2 then s.putOc { s.oc with consentGot := true } else s)

/-- AGREE_CONFIRM (R240): lane A sends it once it has the consent. -/
def execAgreeConfirm (t : Nat) (c : Copies) (s : State) : Host.Outcome State Fault Refusal :=
  let s := s.start t
  .next (if s.pstate 0x0A ≠ 3 ∨ !s.oc.consentGot ∨ s.oc.confirmSent then s
    else
      let v := (s.sendFrame .a 5 [3, s.oc.commitN.getD 0]).receiveFrame .b c
      let s := v.1.setOc 4
      s.putOc { s.oc with confirmSent := true, confirmGot := v.2 })

end Sys2Proof.Machine
end

