-- ==== Sys2Proof/Machine/Profiles.lean ====
section
/-! DEFINITION. PROFILE_APPLY (R32, R72, R73): the profile and the overrides take effect, and what the loop rates of a bus bound is
checked once more (R342, R362). -/

namespace Sys2Proof.Machine

/-- A field held against the values now in force, whatever wrote it (R61, R342); a clamp is reported with requester code 0. -/
def State.recheckField (s : State) (p off : Nat) (r : RegField × Nat × Nat) : State :=
  let v := bitsOf (s.reg p off) r.1.f.hi r.1.f.lo
  let a := s.clampField p r.1 r.2.1 r.2.2 v (s.reg p off)
  if r.1.acc ≠ .rwc ∨ a = v then s
  else ((s.setReg p off (putBits (s.reg p off) r.1.f.hi r.1.f.lo a)).reportClamp 0 p off r.1.f.lo v a).raise p 13

/-- The constraints that refer to the loop rates of a bus checked once more (R342). -/
def State.recheckLoops (s : State) (bus : Nat) : State :=
  s.each (List.range' (0x10 + 16 * bus) 16) fun s p =>
    s.each [Ax.LOOP_BW_VEL_BW_HZ.off, Ax.LOOP_CFG_POS_BW_HZ.off] fun s o =>
      (fieldsAt (tableOf p o) o).foldl (fun s r => s.recheckField p o r) s

/-- The serial ports of a bus checked against its new loop rates (R362). -/
def State.recheckPorts (s : State) (bus : Nat) : State :=
  s.each (List.range' (0x10 + 16 * bus) 16) fun s p => if s.fbState p = 3 then s.checkTiming p else s

/-- PROFILE_APPLY (R72, R73). -/
def cmdProfileApply : Cmd where
  opc := 0x01
  kinds := (· == .device)
  who := .cfgHost
  range := fun _ ch a _ => ch == 0 && a % 4 != 0
  allow := fun s _ a _ =>
    if s.pstate 0 = 0 then RC.state
    else if s.pstate 0 = 2 ∧ (busesOf (a % 4)).any (fun b => s.busTorque b) then RC.state
    else 0
  act := fun s _ a _ =>
    if s.pstate 0 = 2 then
      let changed := (busesOf (a % 4)).filter fun b => s.targetDiffers b
      let s1 := s.each (busesOf (a % 4)) fun s b => (s.applyBus b).recheckLoops b
      let s1 := s1.each changed fun s b => s.recheckPorts b
      let s2 := s1.setPstate 0 (if s1.targetDiffers 0 || s1.targetDiffers 1 then 2 else 1)
      (if changed = [] then s2 else s2.raise 0 0 (changed.foldl (fun m b => m + 2 ^ b) 0), RC.done)
    else (s, RC.done)

/-- PROFILE_APPLY (R72, R73): the profile and the overrides take effect on the masked buses. -/
def execProfileApply (t : Nat) (q : Req) (s : State) : Host.Outcome State Fault Refusal :=
  .next ((s.start t).command q cmdProfileApply)

end Sys2Proof.Machine
end

