-- ==== Sys2Proof/Machine/Mgmt.lean ====
section
/-! DEFINITION. Management (R574-R582, R595-R598): its load, its sensors, its log, and its resets. -/

namespace Sys2Proof.Machine

/-! The load (R577, R578). -/

/-- The state and the events of page 0x70 that follow MGMT_LOAD (R596). -/
def State.showLoad (s : State) : State :=
  let load := s.fld 0x70 Mg.MGMT_LOAD_LOAD_PCT
  let d := s.fld 0x70 Mg.MGMT_LOAD_TELEM_DIV
  let defer := s.flag 0x70 Mg.MGMT_LOAD_RIP_DEFERRED
  let s := s.setPstate 0x70 (if d = 0 ∧ !defer ∧ !s.flag 0x70 Mg.MGMT_LOAD_REFUSING then 1 else 2)
  let s := s.level 0x70 0 (decide (s.fld 0x70 Mg.SAT_CFG_SAT_PCT ≤ load))
  (s.level 0x70 1 (decide (0 < d)) d).level 0x70 2 defer

/-- A step of R578, with its LOAD entry (R580): LOAD_PCT, TELEM_DIV and the flags. -/
def State.occupancyStep (s : State) (f : Field) (v : Nat) : State :=
  let s := s.setFld 0x70 f v
  let flags := s.fld 0x70 Mg.MGMT_LOAD_RIP_DEFERRED + 2 * s.fld 0x70 Mg.MGMT_LOAD_REFUSING
  s.mlog 6 (leBytes 4 (s.fld 0x70 Mg.MGMT_LOAD_LOAD_PCT) ++ leBytes 4 (s.fld 0x70 Mg.MGMT_LOAD_TELEM_DIV) ++ leBytes 4 flags)

/-- The step that the occupancy of the last second asks for (R578). -/
def State.occupancySteps (s : State) (pct : Nat) : State :=
  let sat := s.fld 0x70 Mg.SAT_CFG_SAT_PCT
  let d := s.fld 0x70 Mg.MGMT_LOAD_TELEM_DIV
  let refusing := s.flag 0x70 Mg.MGMT_LOAD_REFUSING
  let defer := s.flag 0x70 Mg.MGMT_LOAD_RIP_DEFERRED
  if sat ≤ pct then
    if d < 4 then s.occupancyStep Mg.MGMT_LOAD_TELEM_DIV (d + 1)
    else if !defer then s.occupancyStep Mg.MGMT_LOAD_RIP_DEFERRED 1
    else if !refusing then s.occupancyStep Mg.MGMT_LOAD_REFUSING 1
    else s
  else if pct < sat - 10 then
    if refusing then s.occupancyStep Mg.MGMT_LOAD_REFUSING 0
    else if defer then s.occupancyStep Mg.MGMT_LOAD_RIP_DEFERRED 0
    else if 0 < d then s.occupancyStep Mg.MGMT_LOAD_TELEM_DIV (d - 1)
    else s
  else s

/-- MGMT_LOAD_CHECK (R577, R578): the occupancy over the last second and the shares of the classes UPDATE, HOST, RIPENING and
TELEMETRY in it, in percent. -/
def execMgmtLoadCheck (t : Nat) (pct : Fin 101) (shares : List Nat) (s : State) : Host.Outcome State Fault Refusal :=
  let s := s.start t
  .next <|
    if !s.mgmtRuns || s.now < s.mgmt.loadAt + 1000000000 then s
    else
      let s := (s.putMgmt { s.mgmt with loadAt := s.now })
      let s := s.setFld 0x70 Mg.MGMT_LOAD_LOAD_PCT pct.val
      let s := s.setFld 0x70 Mg.MGMT_LOAD_PEAK_PCT (max pct.val (s.fld 0x70 Mg.MGMT_LOAD_PEAK_PCT))
      let share (n : Nat) : Nat := min 100 (shares.getD n 0)
      let s := (s.setFld 0x70 Mg.CLASS_LOAD_UPDATE (share 0)).setFld 0x70 Mg.CLASS_LOAD_HOST (share 1)
      let s := (s.setFld 0x70 Mg.CLASS_LOAD_RIPENING (share 2)).setFld 0x70 Mg.CLASS_LOAD_TELEMETRY (share 3)
      (s.occupancySteps pct.val).showLoad

/-! The sensors (R581, R582). -/

/-- The maps and counts of page 0x71 and its level events follow the sensors' states (R597, R598). -/
def State.showSensors (s : State) (n : Nat) : State :=
  let st (k : Nat) : Nat := s.fld 0x71 Sn.S_STATUS_STATE k
  let out (k : Nat) : Bool := st k == 1 || st k == 2
  let bad (k : Nat) : Bool := st k == 3
  let map (p : Nat → Bool) (w : Nat) : Nat := ((List.range 32).map fun b => if p (32 * w + b) then 2 ^ b else 0).sum
  let count (p : Nat → Bool) : Nat := ((List.range 64).filter p).length
  let s := ((s.setFld 0x71 Sn.OUT_MAP (map out 0)).setFld 0x71 Sn.OUT_MAP (map out 1) 1)
  let s := ((s.setFld 0x71 Sn.FAIL_MAP (map bad 0)).setFld 0x71 Sn.FAIL_MAP (map bad 1) 1)
  let s := (s.setFld 0x71 Sn.SENS_SUMMARY_OUT (count out)).setFld 0x71 Sn.SENS_SUMMARY_FAILED (count bad)
  let s := s.level 0x71 0 (decide (0 < count out)) (st n * 2 ^ 8 + n)
  s.level 0x71 1 (decide (0 < count bad)) n

/-- A sensor's state, with what follows a change of it. -/
def State.sensorState (s : State) (n st : Nat) : State :=
  if s.fld 0x71 Sn.S_STATUS_STATE n = st then s else (s.setFld 0x71 Sn.S_STATUS_STATE st n).showSensors n

/-- A sensor's answer within its physical range, checked against its limits (R582): every sample outside them counts and
writes a LIMIT entry of sensor, value and state. -/
def State.sensorValue (s : State) (n : Nat) (v : Int) : State :=
  let s := (s.putMgmt { s.mgmt with failRun := s.mgmt.failRun.wr 0 n 0 })
  let s := s.setSfld 0x71 Sn.S_VALUE v n
  let s := s.setSfld 0x71 Sn.S_SEEN_MAX (max v (s.sfld 0x71 Sn.S_SEEN_MAX n)) n
  let s := s.setSfld 0x71 Sn.S_SEEN_MIN (min v (s.sfld 0x71 Sn.S_SEEN_MIN n)) n
  let st := if v < s.sfld 0x71 Sn.S_LIMITS_LO n then 1 else if s.sfld 0x71 Sn.S_LIMITS_HI n < v then 2 else 0
  let s := s.sensorState n st
  if st = 0 then s
  else
    (s.bump 0x71 Sn.S_STATUS_EXCURSIONS n).mlog 5 (leBytes 4 n ++ leBytes 4 (patternOf 32 v) ++ leBytes 4 st)

/-- A sensor that has not answered in range (R582): FAILED from the third time in a row. -/
def State.sensorSilent (s : State) (n : Nat) : State :=
  let k := s.mgmt.failRun.rd 0 n + 1
  let s := (s.putMgmt { s.mgmt with failRun := s.mgmt.failRun.wr 0 n k })
  if 3 ≤ k then s.sensorState n 3 else s

/-- The supply voltages of page 0x04 (R122, R624), as sensors 0 to 5 measure them; a reversed supply reads 0. -/
def State.supplyVolts (s : State) (vals : List (Option Int)) : State :=
  let show_ (s : State) (x : Nat × Field) : State :=
    match vals.getD x.1 none with
    | some v => s.setFld 4 x.2 (saturate 16 v.toNat)
    | none => s
  [(0, Pw.V_LANE_A), (1, Pw.V_LANE_B), (2, Pw.V_MBUS_A), (3, Pw.V_MBUS_B), (4, Pw.V_LS_A), (5, Pw.V_LS_B)].foldl show_ s

/-- SENSOR_SAMPLE (R578, R582): what the 64 sensors answer, none where one does not answer or reads outside its physical
range. -/
def execSensorSample (t : Nat) (vals : List (Option Int)) (s : State) : Host.Outcome State Fault Refusal :=
  let s := (s.start t).supplyVolts vals
  let d := s.fld 0x70 Mg.MGMT_LOAD_TELEM_DIV
  let ms := s.fld 0x71 Sn.SAMPLE_CFG_SAMPLE_MS * 2 ^ d
  .next <|
    if !s.mgmtRuns || s.now < s.mgmt.sampleAt + ms * 1000000 then s
    else
      let s := (s.putMgmt { s.mgmt with sampleAt := s.now })
      let s := if d = 0 then s else s.bump 0x70 Mg.DEFER_TELEM 0 0 (2 ^ d - 1)
      s.each (List.range 64) fun s n =>
        match vals.getD n none with
        | some v => s.sensorValue n v
        | none => s.sensorSilent n

/-- One SENSORS entry (R580): the first sensor and 21 values from it. -/
def State.sensorsEntry (s : State) (n : Nat) : State :=
  s.mlog 1 (n :: (List.range 21).flatMap fun k => leBytes 2 (if n + k < 64 then s.fld 0x71 Sn.S_VALUE (n + k) else 0))

/-- TELEM_ENTRY (R580): every TELEM_S, four entries record all 64 sensors. -/
def execTelemEntry (t : Nat) (s : State) : Host.Outcome State Fault Refusal :=
  let s := s.start t
  .next <|
    if !s.mgmtRuns || s.now < s.mgmt.telemAt + s.fld 0x70 Mg.TELEM_CFG_TELEM_S * 1000000000 then s
    else (s.putMgmt { s.mgmt with telemAt := s.now }).each [0, 21, 42, 63] State.sensorsEntry

/-- MINMAX_CLEAR (R598). -/
def cmdMinmaxClear : Cmd where
  opc := 0x01
  kinds := (· == .sensors)
  act := fun s _ _ _ =>
    (s.each (List.range 64) fun s n =>
      ((s.setFld 0x71 Sn.S_SEEN_MAX 0x8000 n).setFld 0x71 Sn.S_SEEN_MIN 0x7FFF n).setFld 0x71 Sn.S_STATUS_EXCURSIONS 0 n, RC.done)

def execMinmaxClear (t : Nat) (q : Req) (s : State) : Host.Outcome State Fault Refusal :=
  .next ((s.start t).command q cmdMinmaxClear)

/-- COUNTERS_CLEAR of page 0x70 (R596). -/
def cmdMgmtClear : Cmd where
  opc := 0x01
  kinds := (· == .mgmt)
  act := fun s _ _ _ =>
    ([Mg.MGMT_LOAD_PEAK_PCT, Mg.DEFER_TELEM, Mg.DEFER_RIP, Mg.REFUSED_HOST, Mg.HOST_QUEUE_HWM].foldl
      (fun s f => s.setFld 0x70 f 0) s, RC.done)

def execMgmtCountersClear (t : Nat) (q : Req) (s : State) : Host.Outcome State Fault Refusal :=
  .next ((s.start t).command q cmdMgmtClear)

/-! The resets of management (R109 codes 7 and 8, R592). -/

/-- The words of a page that management keeps in its flash. -/
def State.mgmtKept (s : State) (page : Nat) : List (Nat × Nat) :=
  (s.regs.map fun k => (k.1 / 8 / 4096, k.1 / 8 % 4096)).filter fun k => k.1 == page && s.keptByReset 7 k.1 k.2

/-- A reset of management: pages 0x70 to 0x73 under R59, with what its flash holds; `trial` is the reset that starts a trial of its
firmware, any other abandons one (R591, R592). -/
def State.mgmtReset (s : State) (code : Nat) (trial : Bool) (f : SlotFound) : State :=
  let s := if !trial && s.pstate 0x73 == 4 && s.flag 0x73 Up.SLOT_STATE_TRIAL 2 then s.endUpdate 8 else s
  let s := if trial then s else s.trialAbandon 2
  let old := s
  let s := [0x70, 0x71, 0x72, 0x73].foldl (fun s p => s.resetKeeping p (s.mgmtKept p)) s
  let s := (s.keepActivation old).bump 0x70 Mg.MGMT_RESETS
  let s := ((s.putMgmt (s.mgmt.kept s.now (old.pstate 0x73 == 4))).busesSeen).bootMgmt f
  let s := (s.logReset code [Pw.RESET_LOG_MGMT_SRC]).raise 4 5 code
  s.mlog 7 (leBytes 4 s.bootCount ++ leBytes 4 (s.fwVersion 2))

/-- MGMT_WATCHDOG (R109): 1 s without service. -/
def execMgmtWatchdog (t : Nat) (f : SlotFound) (s : State) : Host.Outcome State Fault Refusal :=
  let s := s.start t
  .next (if s.power.common then s.mgmtReset 7 false f else s)

/-- MGMT_RESET (R123). -/
def cmdMgmtReset (f : SlotFound) : Cmd where
  opc := 0x03
  kinds := (· == .power)
  who := .cfgHost
  allow := fun s _ _ _ => if s.pstate 0x73 = 2 then RC.state else 0
  act := fun s _ _ _ => (s, RC.done)
  after := fun s _ => s.mgmtReset 8 false f

def execMgmtReset (t : Nat) (q : Req) (f : SlotFound) (s : State) : Host.Outcome State Fault Refusal :=
  .next ((s.start t).command q (cmdMgmtReset f))

end Sys2Proof.Machine
end

