-- ==== Sys2Proof/Machine/Ripening.lean ====
section
/-! DEFINITION. Ripening (R583-R586, R599, R600): items, runs, forecasts and plans. -/

namespace Sys2Proof.Machine

/-- The page, field and index of an item's target field (R583), for the kinds whose target is a register. -/
def ripTarget (i : Nat) : Option (Nat × Field × Nat) :=
  if i < 32 then some (0x10 + i, Ax.MOT_I_CONT_DA, 0)
  else if 64 ≤ i ∧ i < 96 then some (0x50 + (i - 64) / 8, Bm.BEAM_CFG_LED_MA, (i - 64) % 8)
  else none

/-- The trim that a lane's core supply has now (R586). -/
def State.trimNow (s : State) (i : Nat) : Nat := s.mgmt.trim.rd 0 (i - 107)

/-- The value of an item's target field: for PATH_DELAY the trim that the lane has stored. -/
def State.ripField (s : State) (i : Nat) : Nat :=
  match ripTarget i with
  | some (p, f, j) => s.fld p f j
  | none => if 108 ≤ i then s.mgmt.trim.rd 0 (i - 105) else 0

/-- Whether the target of an item refuses the write for its state (R342). -/
def State.ripRefuses (s : State) (i : Nat) : Bool :=
  match ripTarget i with
  | some (p, f, j) => s.stateGuard p (f.pos j) != 0
  | none => false

/-- Whether an item's resource is not in use (R584). -/
def State.ripOff (s : State) (i : Nat) : Bool :=
  if i < 64 then s.pstate (0x10 + i % 32) == 0
  else if i < 96 then !s.flag (0x50 + (i - 64) / 8) Bm.BEAM_CFG_ENA ((i - 64) % 8)
  else if i < 98 then !(s.ripItem i).used
  else false

/-- NOW of the items whose measurement registers hold (R583); that of a beam is the mean over the run period, rounded down. -/
def State.ripRegister (s : State) (i : Nat) : Option Nat :=
  if 64 ≤ i ∧ i < 96 then
    let x := s.ripItem i
    if x.count = 0 then none else some (x.sum / x.count)
  else if 32 ≤ i ∧ i < 64 then some (s.fld (0x10 + (i - 32)) Ax.DRIFT_PEAK)
  else if 98 ≤ i ∧ i < 106 then some (s.fld 0x62 So.SWITCHINGS (i - 98) / 1000)
  else if 106 ≤ i ∧ i < 108 then some (s.fld (0x68 + (i - 106)) Vt.WEAR_WEAR_PCT)
  else none

/-- The items whose measurement no register holds (R583): on-resistance, capacitance and slack. -/
def ripMonitored (i : Nat) : Bool := i < 32 || i == 96 || i == 97 || decide (108 ≤ i)

/-- The margin m of a value of NOW as a fraction (R583). -/
def State.ripFraction (s : State) (i : Nat) (now : Int) : Int × Int :=
  let b : Int := s.ripBase i
  let bound : Int := s.fld 0x72 Rp.RIP_BOUND_BOUND i
  let drift : Int := 100 * s.fld (0x10 + (i - 32)) Ax.LEARN_CFG_DRIFT_MAX_N
  let r : Int × Int :=
    if i < 32 then (2 * b - now, b)
    else if i < 64 then (drift - now, drift)
    else if i < 96 then (2 * now - b, b)
    else if i < 98 then (5 * now - 4 * b, b)
    else if i < 106 then (bound - now, bound)
    else if i < 108 then (100 - now, 100)
    else (now - 100, b - 100)
  if r.2 < 0 then (-r.1, -r.2) else r

/-- MARGIN_PCT: 100 m rounded down and limited to 0 to 100; a free value where m has no value. -/
def State.ripMargin (s : State) (i : Nat) : Nat × State :=
  let (n, d) := s.ripFraction i (s.fld 0x72 Rp.RIP_VALUE_NOW i)
  if d = 0 then
    let f := s.free
    (f.1.toNat % 101, f.2)
  else ((min 100 (max 0 (100 * n / d))).toNat, s)

/-- DAYS_LEFT (R584): from the least-squares line of the margins of the daily values, the days from the last of them until the
line reaches 0. -/
def daysLeft (pts : List (Int × Int)) : Nat :=
  let k : Int := pts.length
  let sx := (pts.map (·.1)).sum
  let sy := (pts.map (·.2)).sum
  let cov := k * (pts.map fun p => p.1 * p.2).sum - sx * sy
  let var := k * (pts.map fun p => p.1 * p.1).sum - sx * sx
  let last := (pts.getLast?.map (·.1)).getD 0
  let at_ := sy * var + cov * (k * last - sx)
  if pts.length < 7 ∨ 0 ≤ cov ∨ var ≤ 0 then 0xFFFF
  else if at_ ≤ 0 then 0
  else
    let d := at_ / (-(k * cov))
    if 65534 < d then 0xFFFF else d.toNat

/-- What an item's formula asks for before its bound (R583, R586). -/
def State.ripAsked (s : State) (i : Nat) : Nat × State :=
  let now := s.fld 0x72 Rp.RIP_VALUE_NOW i
  let base := s.ripBase i
  let ref := s.ripRef i
  if 108 ≤ i then
    let low := decide (s.fld 0x72 Rp.RIP_OUTLOOK_MARGIN_PCT i < s.fld 0x72 Rp.RIP_BOUND_ALARM_PCT i)
    (s.trimNow i + bool01 low, s)
  else if now = 0 ∧ base * ref = 0 then
    let f := s.free
    (f.1.toNat % 2 ^ 16, f.2)
  else if i < 32 then (if now = 0 then ref else min ref (isqrt (ref * ref * base / now)), s)
  else (if now = 0 then 0xFFFF else max ref ((ref * base + now - 1) / now), s)

/-- PLANNED: what the formula asks for, held at the bound (R583, R586). -/
def ripPlan (i bound asked : Nat) : Nat := if i < 32 then max bound asked else min bound asked

/-- Whether the formula asks for more than the bound gives. -/
def ripBeyond (i bound asked : Nat) : Bool := if i < 32 then decide (asked < bound) else decide (bound < asked)

/-- Since when an item's target has differed from PLANNED while it accepts the write (R584). -/
def State.ripDiffers (s : State) (i : Nat) : State :=
  let x := s.ripItem i
  let differs := s.flag 0x72 Rp.RIP_BOUND_AUTO i && s.ripField i != s.fld 0x72 Rp.RIP_PLAN_PLANNED i && !s.ripRefuses i
  s.setRipItem i { x with differs := if differs then some (x.differs.getD s.now) else none }

/-- STATE of an item: OFF where its resource is not in use, else the highest code that applies (R584). -/
def State.ripState (s : State) (i : Nat) (beyond : Bool) : Nat :=
  let x := s.ripItem i
  let auto_ := s.flag 0x72 Rp.RIP_BOUND_AUTO i
  let alarm := decide (s.fld 0x72 Rp.RIP_OUTLOOK_MARGIN_PCT i < s.fld 0x72 Rp.RIP_BOUND_ALARM_PCT i)
    || (32 ≤ i && i < 64 && s.fld (0x10 + (i - 32)) Ax.FROZEN_BINS != 0)
  let differs := auto_ && s.ripField i != s.fld 0x72 Rp.RIP_PLAN_PLANNED i
  let old := (x.differs.map fun d => decide (d + 10000000000 ≤ s.now)).getD false
  if s.ripOff i then 0
  else if x.measuredAt + 2592000000000000 ≤ s.now then 6
  else if old then 5
  else if differs && s.ripRefuses i then 4
  else if auto_ && beyond && ripAction i then 3
  else if alarm then 2
  else 1

/-- RIP_SUMMARY and the level events of page 0x72 (R599, R600). -/
def State.showRipening (s : State) : State :=
  let st (i : Nat) : Nat := s.fld 0x72 Rp.RIP_OUTLOOK_STATE i
  let items (n : Nat) : List Nat := (List.range 110).filter fun i => st i == n
  let s := (s.setFld 0x72 Rp.RIP_SUMMARY_ALARM (items 2).length).setFld 0x72 Rp.RIP_SUMMARY_AT_BOUND (items 3).length
  let s := (s.setFld 0x72 Rp.RIP_SUMMARY_PENDING (items 4).length).setFld 0x72 Rp.RIP_SUMMARY_BLOCKED (items 5).length
  let s := s.level 0x72 0 (items 2 != []) ((items 2).getD 0 0)
  s.level 0x72 2 (items 5 != []) ((items 5).getD 0 0)

/-- A measurement of an item (R583): NOW, and the BASE and REF that a beam's first run takes. -/
def State.ripMeasure (s : State) (i v : Nat) : State :=
  let x := s.ripItem i
  let s := (s.setRipItem i { x with measuredAt := s.now }).setFld 0x72 Rp.RIP_VALUE_NOW (saturate 16 v) i
  if 64 ≤ i ∧ i < 96 ∧ !x.used then
    let s := s.setRipItem i { s.ripItem i with used := true }
    (s.setFld 0x72 Rp.RIP_VALUE_BASE (saturate 16 v) i).setFld 0x72 Rp.RIP_PLAN_REF (s.ripField i) i
  else s

/-- The daily value of an item (R584): one a day, those of the last 365 days. -/
def State.ripDaily (s : State) (i : Nat) : State :=
  let x := s.ripItem i
  let day := s.time / 86400000000000
  let kept := x.daily.filter fun d => d.1 != day && decide (day < d.1 + 365)
  s.setRipItem i { x with daily := kept ++ [(day, s.fld 0x72 Rp.RIP_VALUE_NOW i)] }

/-- One item of a run (R584). -/
def State.ripRunItem (s : State) (meas : List (Nat × Nat)) (i : Nat) : State :=
  let s := if 64 ≤ i ∧ i < 96 ∧ s.ripOff i then s.setRipItem i { s.ripItem i with used := false } else s
  let new := if ripMonitored i then (meas.find? fun m => m.1 == i).map (·.2) else s.ripRegister i
  let s := s.setRipItem i { s.ripItem i with sum := 0, count := 0 }
  let s := match new with
    | some v => if s.ripOff i then s else s.ripMeasure i v
    | none => s
  let s := s.ripDaily i
  let (m, s) := s.ripMargin i
  let s := s.setFld 0x72 Rp.RIP_OUTLOOK_MARGIN_PCT m i
  let pts := (s.ripItem i).daily.map fun d => ((d.1 : Int), (s.ripFraction i d.2).1)
  let s := s.setFld 0x72 Rp.RIP_OUTLOOK_DAYS_LEFT (if (s.ripFraction i 0).2 = 0 then 0xFFFF else daysLeft pts) i
  let bound := s.fld 0x72 Rp.RIP_BOUND_BOUND i
  if ripAction i then
    let (a, s) := s.ripAsked i
    let s := (s.setFld 0x72 Rp.RIP_PLAN_PLANNED (ripPlan i bound a) i).ripDiffers i
    s.setFld 0x72 Rp.RIP_OUTLOOK_STATE (s.ripState i (ripBeyond i bound a)) i
  else s.setFld 0x72 Rp.RIP_OUTLOOK_STATE (s.ripState i false) i

/-- The states of all items, in order. -/
def State.ripStates (s : State) : List Nat := (List.range 110).map fun i => s.fld 0x72 Rp.RIP_OUTLOOK_STATE i

/-- A ripening run (R584): the items, the plan entry and PLAN_READY. -/
def State.ripRun (s : State) (meas : List (Nat × Nat)) : State :=
  let before := s.ripStates
  let s := s.each (List.range 110) fun s i => s.ripRunItem meas i
  let changed := (List.range 110).filter fun i => before.getD i 0 != s.ripStates.getD i 0
  let n := (s.fld 0x72 Rp.PLAN_SEQ + 1) % 2 ^ 32
  let s := ((s.setFld 0x72 Rp.PLAN_SEQ n).setFld64 0x72 Rp.RIP_LAST s.time).mlog 4 (leBytes 4 n ++ changed)
  let s := s.showRipening.raise 0x72 1 (n % 2 ^ 16)
  let m := s.mgmt
  let s := (s.putMgmt { m with ripDue := false, ripAt := s.now, recheckAt := some (s.now + 1000000000), applyAt := some s.now })
  s.completeAll (fun o => o.page == 0x72) RC.done

/-- RIPENING_RUN (R578, R584): a run that is due, with the new measurements of the items that no register holds (on-resistance,
capacitance, slack). A run that falls due while ripening is deferred waits. -/
def execRipeningRun (t : Nat) (meas : List (Nat × Nat)) (s : State) : Host.Outcome State Fault Refusal :=
  let s := s.start t
  let m := s.mgmt
  let period := s.fld 0x72 Rp.RIP_CFG_PERIOD_H * 3600000000000
  let timed := s.flag 0x72 Rp.RIP_CFG_ENA && decide (m.ripAt + period ≤ s.now)
  .next <|
    if !s.mgmtRuns || !(timed || m.ripDue) then s
    else if s.flag 0x70 Mg.MGMT_LOAD_RIP_DEFERRED then
      if m.ripDue then s else (s.putMgmt { m with ripDue := true }).bump 0x70 Mg.DEFER_RIP
    else s.ripRun meas

/-- PLAN_RECHECK (R585): management re-reads the targets. -/
def execPlanRecheck (t : Nat) (s : State) : Host.Outcome State Fault Refusal :=
  let s := s.start t
  .next (match s.mgmt.recheckAt with
    | none => s
    | some x =>
      if !s.mgmtRuns || s.now < x then s
      else
        let s := (s.putMgmt { s.mgmt with recheckAt := none })
        let s := s.each ((List.range 110).filter ripAction) fun s i =>
          let (a, s) := s.ripAsked i
          let s := s.ripDiffers i
          s.setFld 0x72 Rp.RIP_OUTLOOK_STATE (s.ripState i (ripBeyond i (s.fld 0x72 Rp.RIP_BOUND_BOUND i) a)) i
        s.showRipening)

/-- RIP_RUN (R578, R600). -/
def cmdRipRun : Cmd where
  opc := 0x01
  kinds := (· == .ripening)
  allow := fun s _ _ _ => if s.flag 0x72 Rp.RIP_CFG_ENA then 0 else RC.state
  act := fun s _ _ _ =>
    let s := if s.flag 0x70 Mg.MGMT_LOAD_RIP_DEFERRED ∧ !s.mgmt.ripDue then s.bump 0x70 Mg.DEFER_RIP else s
    ((s.putMgmt { s.mgmt with ripDue := true, ripAt := s.now }), RC.accepted)

def execRipRun (t : Nat) (q : Req) (s : State) : Host.Outcome State Fault Refusal :=
  .next ((s.start t).command q cmdRipRun)

/-- CHANNEL of the commands that name an item (R600). -/
def itemRange (_ : State) (ch _ _ : Nat) : Bool := decide (ch ≤ 109)

/-- RIP_REBASE (R600). -/
def cmdRipRebase : Cmd where
  opc := 0x02
  kinds := (· == .ripening)
  range := itemRange
  allow := fun _ q _ _ => if ripFactory q.chan then RC.state else 0
  act := fun s q _ _ =>
    let i := q.chan
    let s := s.setRipItem i { s.ripItem i with daily := [] }
    let s := s.setFld 0x72 Rp.RIP_VALUE_BASE (s.fld 0x72 Rp.RIP_VALUE_NOW i) i
    (if ripAction i then s.setFld 0x72 Rp.RIP_PLAN_REF (s.ripField i) i else s, RC.done)

def execRipRebase (t : Nat) (q : Req) (s : State) : Host.Outcome State Fault Refusal :=
  .next ((s.start t).command q cmdRipRebase)

/-- RIP_SET_REF (R600). -/
def cmdRipSetRef : Cmd where
  opc := 0x03
  kinds := (· == .ripening)
  range := itemRange
  allow := fun _ q _ _ => if ripAction q.chan then 0 else RC.state
  act := fun s q _ _ =>
    let i := q.chan
    ((s.setRipItem i { s.ripItem i with refSet := true }).setFld 0x72 Rp.RIP_PLAN_REF (s.ripField i) i, RC.done)

def execRipSetRef (t : Nat) (q : Req) (s : State) : Host.Outcome State Fault Refusal :=
  .next ((s.start t).command q cmdRipSetRef)

end Sys2Proof.Machine
end

