-- ==== Sys2Proof/Machine/Update.lean ====
section
/-! DEFINITION. Updates (R587-R594, R601-R603): transfer, verification, activation and rollback. -/

namespace Sys2Proof.Machine

/-- The instances of an update target (R587, R601). -/
def targetInstances (t : Nat) : List Nat :=
  match t with
  | 0 => [0, 1]
  | 1 => [2]
  | 2 => [3, 4]
  | _ => [5, 6]

/-- Staging cleared (R603). -/
def State.clearStaging (s : State) : State :=
  let s := (s.putMgmt { s.mgmt with staged := none, staging := [], chunks := [] })
  ((s.setFld 0x73 Up.UPD_RECEIVED 0).setReg 0x73 Up.UPD_VERSION_VERSION.off 0).setFld 0x73 Up.UPD_REF 0

/-- UPD_BEGIN (R588, R602). -/
def cmdUpdBegin : Cmd where
  opc := 0x01
  kinds := (· == .update)
  who := .cfgHost
  range := fun _ ch a b => decide (ch = 0 ∧ a ≤ 3 ∧ 1 ≤ b ∧ b ≤ 16777216)
  allow := fun s _ _ _ => if s.pstate 0x73 = 2 ∨ s.pstate 0x73 = 4 then RC.state else 0
  act := fun s _ a b =>
    let s := (s.clearStaging.setFld 0x73 Up.UPD_SESSION_TARGET a).setFld 0x73 Up.UPD_LEN b
    ((s.setFld 0x73 Up.UPD_SESSION_STEP 0).setUpd 1, RC.done)

def execUpdBegin (t : Nat) (q : Req) (s : State) : Host.Outcome State Fault Refusal :=
  .next ((s.start t).command q cmdUpdBegin)

/-- The first `n` bytes of the window. -/
def State.updWindow (s : State) (n : Nat) : List Nat :=
  ((List.range ((n + 3) / 4)).flatMap fun k => leBytes 4 (s.reg 0x73 (0x800 + 4 * k)).toNat).take n

/-- Bytes placed from an address. -/
def placeBytes (m : List Host.Cell) (a : Nat) : List Nat → List Host.Cell
  | [] => m
  | b :: r => placeBytes (memPut m a (BitVec.ofNat 8 b)) (a + 1) r

/-- UPD_CHUNK (R588, R602): UPD_RECEIVED counts distinct bytes; a chunk sent again replaces the earlier one. -/
def cmdUpdChunk : Cmd where
  opc := 0x02
  kinds := (· == .update)
  who := .cfgHost
  range := fun s ch a b => decide (ch = 0 ∧ a % 2048 = 0 ∧ 1 ≤ b ∧ b ≤ 2048 ∧ a + b ≤ s.fld 0x73 Up.UPD_LEN)
    && crc32 (s.updWindow b) == s.fld 0x73 Up.CHUNK_CRC
  allow := fun s _ _ _ => if s.pstate 0x73 = 1 then 0 else RC.state
  act := fun s _ a b =>
    let m := s.mgmt
    let len := max b (m.chunks.rd 0 a)
    let chunks := m.chunks.wr 0 a len
    let s := (s.putMgmt { m with staging := placeBytes m.staging a (s.updWindow b), chunks := chunks })
    (s.setFld 0x73 Up.UPD_RECEIVED (chunks.map (·.2)).sum, RC.done)

def execUpdChunk (t : Nat) (q : Req) (s : State) : Host.Outcome State Fault Refusal :=
  .next ((s.start t).command q cmdUpdChunk)

/-- UPD_VERIFY (R589, R602). -/
def cmdUpdVerify : Cmd where
  opc := 0x03
  kinds := (· == .update)
  who := .cfgHost
  allow := fun s _ _ _ =>
    if s.pstate 0x73 = 1 ∧ s.fld 0x73 Up.UPD_RECEIVED = s.fld 0x73 Up.UPD_LEN then 0 else RC.state
  act := fun s _ _ _ => (s.setUpd 2, RC.accepted)

def execUpdVerify (t : Nat) (q : Req) (s : State) : Host.Outcome State Fault Refusal :=
  .next ((s.start t).command q cmdUpdVerify)

/-- The result of the checks of R589 in their order, 0 when all pass: those of the container itself as management finds them, then
those of the module. -/
def State.updChecks (s : State) (f : UpdFound) : Nat :=
  let target := s.fld 0x73 Up.UPD_SESSION_TARGET
  let c := f.content
  let announced := (c.program.isSome == (target == 2)) && (c.config.isSome == (target == 3))
  if f.result = 3 then 3
  else if f.result = 2 ∨ (2 ≤ target ∧ !s.flag 0x74 Lc.ANCHORS_CONTENT) then 2
  else if f.result = 4 then 4
  else if !announced then 4
  else if target ≤ 1 ∧ (targetInstances target).any (fun n => decide (c.secVer < s.fld 0x73 Up.ARB_COUNTER n)) then 5
  else if target = 0 ∧ (s.fwVersion 0 < c.minPartner ∨ s.fwVersion 1 < c.minPartner) then 6
  else if target = 3 ∧ c.version ≤ s.fld 4 Pw.CFG_SEQ then 11
  else if target ≠ 1 ∧ (s.laneState .a = 0 ∨ s.laneState .b = 0) then 12
  else 0

/-- The content written to the inactive slot of each instance (R589, R601). -/
def State.writeSlots (s : State) (target : Nat) (c : Container) : State :=
  let s := s.each (targetInstances target) fun s n =>
    ((s.setSlots n (s.activeSlot n) (some c)).setFld 0x73 Up.SLOT_STATE_OTHER_VALID 1 n).setFld 0x73 Up.VER_OTHER (c.version % 2 ^ 32) n
  match c.config with
  | some i => if target = 3 then (s.putPower { s.power with previous := ⟨i, i⟩ }) else s
  | none => s

/-- UPD_VERIFY_DONE (R589, R603). -/
def State.updVerified (s : State) (f : UpdFound) : State :=
  let r := s.updChecks f
  let c := f.content
  if r ≠ 0 then s.endUpdate r
  else
    let s := s.writeSlots (s.fld 0x73 Up.UPD_SESSION_TARGET) c
    let s := (s.putMgmt { s.mgmt with staged := some c })
    let s := (s.setFld 0x73 Up.UPD_VERSION_SEC_VER (c.secVer % 2 ^ 8)).setFld 0x73 Up.UPD_VERSION_VERSION (c.version % 2 ^ 24)
    let s := (s.setFld 0x73 Up.UPD_REF (c.digest % 2 ^ 32)).setUpd 3
    s.completeAll (fun o => o.page == 0x73) RC.done

def execUpdVerifyDone (t : Nat) (f : UpdFound) (s : State) : Host.Outcome State Fault Refusal :=
  let s := s.start t
  .next (if s.mgmtRuns && s.pstate 0x73 == 2 then s.updVerified f else s)

/-- What the activation of a target requires (R590, R593). -/
def State.activatable (s : State) (target : Nat) : Bool :=
  match target with
  | 0 => s.aligned && s.pstate 0x0A == 0 && s.pstate 0x08 != 3 && s.pstate 0x09 != 3
  | 2 => s.pstate 0x08 == 1 && s.pstate 0x09 == 1
  | _ => true

/-- An activation begins (R603). -/
def State.beginActivation (s : State) (target : Nat) (ns : List Nat) (rollback : Bool) : State :=
  let m := s.mgmt
  let s := (s.putMgmt { m with activating := ns, rollback := rollback, stepAt := s.now, actAt := s.now, hasReset := false, trialRun := [] })
  ((s.setFld 0x73 Up.UPD_SESSION_TARGET target).setFld 0x73 Up.UPD_SESSION_STEP 1).setUpd 4

/-- UPD_ACTIVATE (R590-R593, R602). -/
def cmdUpdActivate : Cmd where
  opc := 0x04
  kinds := (· == .update)
  who := .cfgHost
  allow := fun s _ _ _ =>
    if s.pstate 0x73 = 3 ∧ s.activatable (s.fld 0x73 Up.UPD_SESSION_TARGET) then 0 else RC.state
  act := fun s _ _ _ =>
    let t := s.fld 0x73 Up.UPD_SESSION_TARGET
    (s.beginActivation t (targetInstances t) false, RC.accepted)

def execUpdActivate (t : Nat) (q : Req) (s : State) : Host.Outcome State Fault Refusal :=
  .next ((s.start t).command q cmdUpdActivate)

/-- The instances of a target that a rollback may activate (R602). -/
def State.rollable (s : State) (target : Nat) : List Nat :=
  (targetInstances target).filter fun n =>
    s.flag 0x73 Up.SLOT_STATE_OTHER_VALID n
      && decide (s.fld 0x73 Up.ARB_COUNTER n ≤ ((s.otherSlot n).map (·.secVer)).getD (s.fld 0x73 Up.ARB_COUNTER n))

/-- UPD_ROLLBACK (R602). -/
def cmdUpdRollback : Cmd where
  opc := 0x06
  kinds := (· == .update)
  who := .cfgHost
  range := fun _ ch a _ => decide (ch = 0 ∧ a ≤ 1)
  allow := fun s _ a _ => if s.pstate 0x73 = 0 ∧ s.rollable a ≠ [] ∧ s.activatable a then 0 else RC.state
  act := fun s _ a _ => (s.beginActivation a (s.rollable a) true, RC.accepted)

def execUpdRollback (t : Nat) (q : Req) (s : State) : Host.Outcome State Fault Refusal :=
  .next ((s.start t).command q cmdUpdRollback)

/-- Whether a lane or management has reset since the activation began (R602). -/
def State.activationReset (s : State) : Bool :=
  s.mgmt.hasReset || decide (s.mgmt.actAt < (s.lane .a).resetAt) || decide (s.mgmt.actAt < (s.lane .b).resetAt)

/-- UPD_ABORT (R602). -/
def cmdUpdAbort : Cmd where
  opc := 0x05
  kinds := (· == .update)
  who := .cfgHost
  allow := fun s _ _ _ => if s.pstate 0x73 = 0 ∨ s.pstate 0x73 = 4 ∧ s.activationReset then RC.state else 0
  act := fun s _ _ _ => ((s.endUpdate 9).clearStaging, RC.done)

def execUpdAbort (t : Nat) (q : Req) (s : State) : Host.Outcome State Fault Refusal :=
  .next ((s.start t).command q cmdUpdAbort)

/-! The steps of an activation. -/

/-- STEP reaches a number. -/
def State.updStepTo (s : State) (n : Nat) : State :=
  let s := (s.putMgmt { s.mgmt with stepAt := s.now })
  (s.setFld 0x73 Up.UPD_SESSION_STEP n).updLog 0

/-- The slot of an instance goes on trial (R590, R592): it is marked, and becomes the one that boots. -/
def State.beginTrial (s : State) (n : Nat) : State :=
  let s := (s.putMgmt { s.mgmt with hasReset := true })
  ((s.setFld 0x73 Up.SLOT_STATE_TRIAL 1 n).swapSlots n).showTrials

/-- A slot on trial is confirmed (R590, R592). -/
def State.confirmTrial (s : State) (n : Nat) : State :=
  let s := (s.putMgmt { s.mgmt with trialRun := s.mgmt.trialRun ++ [n] })
  (s.setFld 0x73 Up.SLOT_STATE_TRIAL 0 n).showTrials

/-- STEP 5 (R590): the counters of the instances activated are raised to SEC_VER, and the session ends DONE. -/
def State.finishActivation (s : State) : State :=
  let s := s.each s.mgmt.activating fun s n =>
    if n ≤ 2 then
      s.setFld 0x73 Up.ARB_COUNTER (max (s.fld 0x73 Up.ARB_COUNTER n) (((s.activeSlot n).map (·.secVer)).getD 0 % 64)) n
    else s
  s.endUpdate 1

/-- The next step of lane firmware from a step (R590): a lane whose instance is not activated is passed over. -/
def State.laneStepFrom (s : State) (step : Nat) : State :=
  let a := s.mgmt.activating.contains 0
  if step < 3 ∧ a then s.updStepTo 3 else (s.updStepTo 5).finishActivation

/-- A handover observed (R590): the lane owns nothing, and its trial begins; or 1 s has passed. -/
def State.stepHandover (s : State) (l : Lane) (step : Nat) : State :=
  if s.owned l = 0 then
    ((s.updStepTo (step + 1)).beginTrial (fwInstance l)).laneReset l 4 true
  else if s.mgmt.stepAt + 1000000000 ≤ s.now then s.endUpdate 7
  else s

/-- A trial observed (R590): confirmed; ended by a reset or a refused slot; or the lane not ALIGNED in time. -/
def State.stepTrial (s : State) (l : Lane) (step : Nat) : State :=
  let n := fwInstance l
  let limit := (s.fld (lanePage l) Ln.JOIN_LIMIT_S + 30) * 1000000000
  if s.mgmt.trialRun.contains n then s.laneStepFrom step
  else if !s.flag 0x73 Up.SLOT_STATE_TRIAL n then s.endUpdate 8
  else if s.laneState l ≠ 4 ∧ s.mgmt.stepAt + limit ≤ s.now then
    ((s.endUpdate 8).trialAbandon n).laneReset l 4
  else s

/-- The steps of an activation of lane firmware (R590). -/
def State.stepLanes (s : State) : State :=
  match s.fld 0x73 Up.UPD_SESSION_STEP with
  | 1 => if s.mgmt.activating.contains 1 then s.stepHandover .b 1 else s.laneStepFrom 1
  | 2 => s.stepTrial .b 2
  | 3 => s.stepHandover .a 3
  | 4 => s.stepTrial .a 4
  | _ => s.finishActivation

/-- The single step of an activation of management's firmware (R592). -/
def State.stepMgmt (s : State) (f : SlotFound) : State :=
  if s.mgmt.trialRun.contains 2 then s.finishActivation
  else if !s.flag 0x73 Up.SLOT_STATE_TRIAL 2 then
    if s.mgmt.hasReset then s.endUpdate 8 else (s.beginTrial 2).mgmtReset 8 true f
  else if s.mgmt.bootAt + s.fld 0x73 Up.CONFIRM_CFG_CONFIRM_S * 1000000000 ≤ s.now then (s.confirmTrial 2).finishActivation
  else s

/-- The active and the previous configuration change places (R591). -/
def State.swapConfig (s : State) : State :=
  s.putPower { s.power with active := s.power.previous, previous := s.power.active }

/-- The configuration in force entered in the history of a lane (R591). -/
def State.logActivation (s : State) (l : Lane) : State :=
  s.histEntry l 1 (s.power.active.of l).bytes (s.power.active.of l).digest

/-- The single step of an activation of a configuration (R593). -/
def State.stepConfig (s : State) : State :=
  let s := ((s.swapConfig).swapSlots 5).swapSlots 6
  ((s.logActivation .a).logActivation .b).finishActivation

/-- UPD_STEP (R590-R593): management observes the lane pages and advances STEP. -/
def execUpdStep (t : Nat) (f : SlotFound) (s : State) : Host.Outcome State Fault Refusal :=
  let s := s.start t
  .next <|
    if !s.mgmtRuns || s.pstate 0x73 != 4 then s
    else
      match s.fld 0x73 Up.UPD_SESSION_TARGET with
      | 0 => s.stepLanes
      | 1 => s.stepMgmt f
      | 2 => ((s.swapSlots 3).swapSlots 4).finishActivation
      | _ => s.stepConfig

/-- TRIAL_CONFIRMED (R590): the lane has stayed ALIGNED for CONFIRM_S. -/
def execTrialConfirmed (t : Nat) (l : Lane) (s : State) : Host.Outcome State Fault Refusal :=
  let s := s.start t
  let limit := s.fld 0x73 Up.CONFIRM_CFG_CONFIRM_S * 1000000000
  .next (if s.laneState l = 4 ∧ s.flag 0x73 Up.SLOT_STATE_TRIAL (fwInstance l) ∧ (s.lane l).alignedAt + limit ≤ s.now then
      s.confirmTrial (fwInstance l)
    else s)

end Sys2Proof.Machine
end

