-- ==== Sys2Proof/Machine/Commands.lean ====
section
/-! DEFINITION. A write of CMD (R43, R45, R48): the opcode table of every page, and the write of any register. -/

namespace Sys2Proof.Machine

/-- A row of an opcode table: the command at an instant. -/
abbrev OpRow := Option (Nat → Req → State → Host.Outcome State Fault Refusal)

/-- The opcodes of an axis page (R311, R341, R364, R381). -/
def axisOp (opc : Nat) : OpRow :=
  match opc with
  | 0x01 => some execMoveAbs
  | 0x02 => some execMoveRel
  | 0x03 => some execMoveVel
  | 0x04 => some execMotionStop
  | 0x05 => some execQuickStop
  | 0x06 => some execGroupGo
  | 0x07 => some execDisarm
  | 0x08 => some execReleaseAxis
  | 0x09 => some execEngageAxis
  | 0x0A => some execSetPosition
  | 0x10 => some execHomeAxis
  | 0x20 => some execEnableAxis
  | 0x21 => some execDisableAxis
  | 0x22 => some execFaultReset
  | 0x23 => some execIdentify
  | 0x28 => some execFbProbe
  | 0x29 => some execFbCountersClear
  | 0x30 => some execFmTeach
  | 0x31 => some execFmRebase
  | 0x32 => some execFmClear
  | 0x33 => some execObsInject
  | _ => none

/-- The opcodes of the other owned pages. -/
def stageOp (k : PageKind) (opc : Nat) : OpRow :=
  match k, opc with
  | .bank, 0x01 => some execFieldFaultClear
  | .bank, 0x02 => some execFieldCountersClear
  | .lsGroup, 0x01 => some execLsFaultClear
  | .lsGroup, 0x02 => some execLsCountersClear
  | .loopGroup, 0x01 => some execLoopCountersClear
  | .beamGroup, 0x01 => some execBeamCountersClear
  | .beamGroup, 0x02 => some execBeamDark
  | .edgeGroup, 0x01 => some execEdgeCountersClear
  | .can, 0x01 => some execCanRecover
  | .can, 0x02 => some execTxAbort
  | .can, 0x03 => some execRollCall
  | .can, 0x04 => some execCanCountersClear
  | .axis, _ => axisOp opc
  | _, _ => none

/-- The opcodes of the pages of management, the life cycle, the Vats, dumps and the fabric. -/
def supportOp (k : PageKind) (opc : Nat) : OpRow :=
  match k, opc with
  | .memory, 0x01 => some execMemCountersClear
  | .memory, 0x02 => some execBtRestart
  | .secure, 0x01 => some execSecureWipe
  | .vat, 0x01 => some execFlushVat
  | .vat, 0x02 => some execVatCountersClear
  | .mgmt, 0x01 => some execMgmtCountersClear
  | .sensors, 0x01 => some execMinmaxClear
  | .ripening, 0x01 => some execRipRun
  | .ripening, 0x02 => some execRipRebase
  | .ripening, 0x03 => some execRipSetRef
  | .update, 0x01 => some execUpdBegin
  | .update, 0x02 => some execUpdChunk
  | .update, 0x03 => some execUpdVerify
  | .update, 0x04 => some execUpdActivate
  | .update, 0x05 => some execUpdAbort
  | .update, 0x06 => some execUpdRollback
  | .lifeCycle, 0x01 => some execFactoryClose
  | .lifeCycle, 0x02 => some execProvBegin
  | .lifeCycle, 0x05 => some execProvCommit
  | .lifeCycle, 0x06 => some execReprovision
  | .fabric, 0x01 => some execFabricCountersClear
  | .dump, 0x01 => some execDumpRequest
  | .dump, 0x02 => some execMiniClear
  | .dump, 0x03 => some execDumpCountersClear
  | _, _ => none

/-- The opcodes of the pages of the module, the lanes, the hosts, the program, time, energy and safety. -/
def systemOp (k : PageKind) (opc : Nat) : OpRow :=
  match k, opc with
  | .corner, 0x01 => some execCornerSet
  | .corner, 0x02 => some execCornerClear
  | .avenue, 0x01 => some execAvenueCountersClear
  | .crossing, 0x01 => some execAckRejoin
  | .crossing, 0x02 => some execCrossingCountersClear
  | .lane, 0x01 => some execOwnMove
  | .lane, 0x02 => some execReleaseAll
  | .lane, 0x03 => some execLaneResync
  | .device, 0x01 => some execProfileApply
  | .device, 0x02 => some execRtcSet
  | .kerb, 0x01 => some execKerbCountersClear
  | .power, 0x01 => some execDeviceReset
  | .power, 0x02 => some execLaneReset
  | .power, 0x04 => some execPowerDownPrep
  | .onlineChange, 0x01 => some execOcLoad
  | .onlineChange, 0x02 => some execOcCommit
  | .onlineChange, 0x03 => some execOcAbandon
  | .ration, 0x01 => some execRationCountersClear
  | .cle, 0x01 => some execStartCle
  | .cle, 0x02 => some execStopCle
  | .cle, 0x03 => some execFaultAck
  | .cle, 0x04 => some execCleCountersClear
  | .debug, 0x01 => some execHoldCle
  | .debug, 0x02 => some execResumeCle
  | .debug, 0x03 => some execStepCycle
  | .safeOut, 0x01 => some execSoReset
  | .safeOut, 0x02 => some execSoCountersClear
  | .safety, 0x01 => some execMaintEnter
  | .safety, 0x02 => some execMaintExit
  | .safety, 0x03 => some execTripAck
  | .safety, 0x04 => some execSafeTrip
  | .hostPorts, 0x01 => some execPortRestart
  | .hostPorts, 0x02 => some execConsistReport
  | .hostRights, 0x01 => some execCfgClaim
  | .hostRights, 0x02 => some execCfgRelease
  | .hostRights, 0x03 => some execSessionClose
  | .hostRights, 0x04 => some execHostCountersClear
  | .conns, 0x01 => some execConnCountersClear
  | _, _ => none

/-- The opcodes that every page or every owned page has (R56, R89). -/
def commonOp (opc : Nat) : OpRow :=
  match opc with
  | 0xE0 => some execOwnOffer
  | 0xE1 => some execOwnAccept
  | 0xE2 => some execOwnWithdraw
  | 0xE3 => some execOwnRequest
  | 0xF0 => some execBlockReset
  | 0xF1 => some execClampClear
  | 0xF2 => some execEvtTest
  | 0xFF => some execNop
  | _ => none

/-- The command that an opcode is on a kind of page; `found` is what a certificate in the window is found to be and `us` how
long an erase takes, for the commands of pages 0x04 and 0x74 that need them. -/
def opRow (k : PageKind) (opc : Nat) (found : CertFound) (us : Nat) : OpRow :=
  if 0xE0 ≤ opc then commonOp opc
  else if k = .lifeCycle ∧ opc = 0x03 then some fun t q s => execCertInstall t q found s
  else if k = .lifeCycle ∧ opc = 0x04 then some fun t q s => execAnchorSet t q found s
  else if k = .lifeCycle ∧ opc = 0x07 then some fun t q s => execEraseKeys t q us s
  else if k = .lifeCycle ∧ opc = 0x08 then some fun t q s => execRetire t q us s
  else if k = .power ∧ opc = 0x03 then some fun t q s => execMgmtReset t q found.slots s
  else if k.owned then stageOp k opc
  else (systemOp k opc).orElse fun _ => supportOp k opc

/-- An opcode that no table defines: refused under R50 at check 2 (R41). -/
def cmdUndefined : Cmd where
  opc := 0
  kinds := fun _ => false
  act := fun s _ _ _ => (s, RC.opcode)

/-- A CMD word written (R43, R48). -/
def State.issue (s : State) (q : Req) (opc : Nat) (found : CertFound) (us : Nat) : State :=
  match opRow (pageKind q.page) opc found us with
  | some f => s.also (f s.now q)
  | none => s.command q cmdUndefined

/-- The command that a write of CMD spells: TAG, CHANNEL and OPCODE (R43). -/
def cmdReq (w : WriteReq) : Req := ⟨w.code, w.gen, w.page, bitsOf w.value 15 8, bitsOf w.value 31 16⟩

/-- A write of any register (R45, R55): a write of CMD issues its command. -/
def State.anyWrite (s : State) (w : WriteReq) (found : CertFound) (us : Nat) : State :=
  if w.off % 4096 / 4 * 4 = 0x30 then s.issue (cmdReq w) (bitsOf w.value 7 0) found us else s.writeAny w

/-! The requests that wait for an ownership result (R48, R54, R90). -/

/-- The result that what was sent last brings back (R210). -/
def resultOf (ms : List OutMsg) : Nat :=
  match ms.getLast? with
  | some m =>
    match m.kind with
    | .writeReply => 0x100 + m.words.getD 3 0
    | .cmdReply => 0x100 + m.words.getD 2 0 % 256
    | _ => 0x1FF
  | none => 0x1FF

/-- What a command or write that has waited does at last; its result is what QUAL shows of that word (R210). -/
def State.runHeld (s : State) (code addr : Nat) (run : State → State) : State :=
  let s1 := run (s.putOut [])
  let l := laneNum code
  let c := s1.cles.of l
  let s2 := s1.putCle l { c with outResults := c.outResults.wr 0x1FF addr (resultOf s1.out) }
  s2.putOut (s.out ++ s2.out)

/-- The requests that wait at a resource decided in their order, until each lane has an ownership request in its window again or
none left (R48). An ownership request whose window has passed meanwhile is decided at once. -/
def State.serveHeldPage (s : State) (page : Nat) : Nat → State
  | 0 => s
  | n + 1 =>
    match (s.resRec page).held.find? fun h => !s.holds page h.code with
    | none => s
    | some h =>
      let r := s.resRec page
      let s := s.setRes page { r with held := r.held.erase h }
      let s := match h with
        | .own a =>
          let s := s.setRes page { s.resRec page with arb := (s.resRec page).arb ++ [a] }
          if a.since + 1000 ≤ s.now ∧ (s.resRec page).arb.length = 1 then s.ownArbitrate page else s
        | .cmd q opc => s.runHeld q.code (page * 4096 + 0x30) fun s => s.issue q opc ⟨false, 0, 0, ⟨true, true⟩⟩ 0
        | .write w => s.runHeld w.code (page * 4096 + w.off) fun s => s.anyWrite w ⟨false, 0, 0, ⟨true, true⟩⟩ 0
      s.serveHeldPage page n

/-- OWN_ARBITRATION (R48, R90): 1 µs after its arrival the oldest request at a resource is decided, and then what waited for
its result. -/
def execOwnArbitration (t : Nat) (page : Nat) (s : State) : Host.Outcome State Fault Refusal :=
  let s := ((s.start t).ownArbitrate page).ownArbitrate page
  .next (s.serveHeldPage page (s.resRec page).held.length)

/-- CONFIG_WRITE (R55). -/
def execConfigWrite (t : Nat) (w : WriteReq) (found : CertFound) (us : Nat) (s : State) : Host.Outcome State Fault Refusal :=
  .next ((s.start t).anyWrite w found us)

end Sys2Proof.Machine
end

