-- ==== Sys2Proof/Machine/Latch.lean ====
section
/-! DEFINITION. What a lane does at its boundary with the words of resources (R17-R20, R25, R167, R168, R207-R209, R271): it sends
what the cycle before has staged and latches its input map. A word is named by 4096 times its page plus its offset. -/

namespace Sys2Proof.Machine

/-- The page and the offset of a word. -/
def wordPage (w : Nat) : Nat := w / 4096
def wordOff (w : Nat) : Nat := w % 4096

/-- The avenue whose word a register of page 0x0C is (R271, R273). -/
def avenueOf? (page off : Nat) : Option Nat :=
  if page ≠ 0x0C then none
  else if 0x200 ≤ off ∧ off < 0x600 then some ((off - 0x200) / 0x10)
  else if 0x600 ≤ off ∧ off < 0xE00 then some ((off - 0x600) / 0x20)
  else none

/-- The lane that serves a page belonging to no lane, or latches it while that lane is DOWN or BOOTING (R207). -/
def State.commonLane (s : State) (page : Nat) : Lane :=
  let l : Lane := if page = 0x02 ∨ page = 0x09 ∨ page = 0x65 ∨ page = 0x69 then .b else .a
  if s.laneState l < 2 then l.other else l

/-- The lane that latches a word, and sends the stores to it (R18, R207, R209, R271); `av` is the avenue it belongs to. -/
def State.wordLane (s : State) (page : Nat) (av : Option Nat) : Lane :=
  if (pageKind page).owned then laneNum (s.owner page)
  else
    match av with
    | some a => laneNum (s.writerLane a)
    | none => s.commonLane page

/-- Whether a lane latches a word, or sends stores to it: it may also while ALONE, but for resources (R209, R271). -/
def State.handles (s : State) (l : Lane) (page : Nat) (av : Option Nat) : Bool :=
  s.wordLane page av == l || (!(pageKind page).owned && s.laneState l == 3)

/-! Sending (R168, R208, R209). -/

/-- Whether a word is one of CMD, CMD_ARG0 and CMD_ARG1. -/
def cmdWord (w : Nat) : Bool := wordOff w == 0x30 || wordOff w == 0x34 || wordOff w == 0x38

/-- Of several stores to a process-data word the last alone is sent (R208). -/
def reduceStores : List Staged → List Staged
  | [] => []
  | x :: rest =>
    if !cmdWord x.addr && processData (pageKind (wordPage x.addr)) (wordOff x.addr) && rest.any (fun y => y.addr == x.addr)
    then reduceStores rest else x :: reduceStores rest

/-- The avenue of a store: that of its register, or for the commands of page 0x0D their CHANNEL, which the CMD that follows
gives (R271, R279). -/
def storeAvenue (x : Staged) (rest : List Staged) : Option Nat :=
  if wordPage x.addr = 0x0D ∧ cmdWord x.addr then
    ((x :: rest).find? fun y => y.addr == 0x0D * 4096 + 0x30).map fun y => bitsOf y.value 15 8
  else avenueOf? (wordPage x.addr) (wordOff x.addr)

/-- One store sent, with the result that its page returns. -/
def State.sendStore (s : State) (l : Lane) (x : Staged) : State :=
  let w : WriteReq := ⟨l.num, x.gen, wordPage x.addr, wordOff x.addr, x.value⟩
  let s1 := ((s.putOut ([])) : State).anyWrite w ⟨false, 0, 0, ⟨true, true⟩⟩ 0
  let c := s1.cle l
  let s2 := s1.setCle l { c with outResults := c.outResults.wr 0x1FF x.addr (resultOf s1.out) }
  (s2.putOut (s.out ++ s2.out))

/-- SO_DEMAND goes to the lane's own half alone (R494). -/
def demandWord : Nat := 0x62 * 4096 + So.SO_DEMAND.off

/-- The staged stores sent in program order; `n` commands have been sent, of 64 (R208). -/
def State.sendStores (s : State) (l : Lane) (n : Nat) : List Staged → State
  | [] => s
  | x :: rest =>
    if x.addr = demandWord then (s.setHalf l { s.half l with demand := bitsOf x.value 7 0 }).sendStores l n rest
    else
      let mine := s.handles l (wordPage x.addr) (storeAvenue x rest)
      let full := cmdWord x.addr && decide (64 ≤ n)
      if !mine || full then s.sendStores l n rest
      else (s.sendStore l x).sendStores l (if wordOff x.addr = 0x30 then n + 1 else n) rest

/-- The outputs of the last completed cycle applied (R17, R168). -/
def State.applyOutputs (s : State) (l : Lane) : State :=
  let c := s.cle l
  (s.setCle l { c with ready := [], outResults := [] }).sendStores l 0 (reduceStores c.ready)

/-! Latching (R18-R20, R167). -/

/-- A word as a lane latches it: its value and quality, and for a resource the tag of its owner, whose change makes it STALE for
that cycle (R25). -/
def latchedWord (old : ImageWord) (v : Word) (qual tag : Nat) : ImageWord :=
  let q := if old.tag ≠ 0 ∧ old.tag ≠ tag then max qual 1 else qual
  if q = 0 then ⟨v, 0, v, tag⟩ else ⟨old.good, q, old.good, tag⟩

/-- The same word STALE, at the last GOOD value before this cycle (R19-R21). -/
def staleWord (base x : ImageWord) : ImageWord := ⟨base.good, 1, base.good, x.tag⟩

/-- A firing mask of an avenue that has been latched starts again (R167, R273). -/
def State.takeFirings (s : State) (page off : Nat) : State :=
  if page = 0x0C ∧ 0x200 ≤ off ∧ off < 0x600 ∧ off % 0x10 < 8 then
    let a := (off - 0x200) / 0x10
    (s.setReg 0x0C off 0).modAv a fun x => { x with firstAt := none, lastAt := none }
  else s

/-- A lane latches one word of its input map; of CMD_RESULT what stood before the boundary, in `old` (R167, R168). -/
def State.latchWord (s old : State) (l : Lane) (w : Nat) : State :=
  let page := wordPage w
  let off := wordOff w
  let v := if off = 0x3C then old.standing page off l.num else s.standing page off l.num
  let tag := if (pageKind page).owned then s.owner page else 0
  let c := s.cle l
  let x := latchedWord (c.base.rd {} w) v (s.wordQual page off) tag
  s.setCle l { c with latched := c.latched.wr {} w x }

/-- The words of its image that a lane latches itself. -/
def State.ownWords (s : State) (l : Lane) : List Nat :=
  (s.cle l).img.inMap.filter fun w => s.handles l (wordPage w) (avenueOf? (wordPage w) (wordOff w))

/-- A lane latches its inputs (R17, R167), and the generations of the pages it writes (R209); `old` is the state before its
boundary. -/
def State.latchInputs (s old : State) (l : Lane) : State :=
  let own := s.ownWords l
  let c := s.cle l
  let gens := (c.img.outMap.map wordPage).eraseDups.foldl (fun m p => Tab.wr m 0 p (s.gen p)) []
  let s := s.setCle l { c with base := c.latched, latchGens := gens }
  let s := s.each own fun s w => s.latchWord old l w
  s.each own fun s w => s.takeFirings (wordPage w) (wordOff w)

end Sys2Proof.Machine
end

