-- ==== Sys2Proof/Machine/Cycle.lean ====
section
/-! DEFINITION. The boundary of a lane's cycle (R17, R163-R169, R182, R187-R189) and what begins after its exchange. -/

namespace Sys2Proof.Machine

/-! The comparison of the cycle that ends (R194, R489, R493). -/

/-- Whether the cycle of a lane takes part in the comparison (R194). -/
def State.comparing (s : State) : Bool :=
  s.pstate 0x08 == 2 && s.pstate 0x09 == 2
    && (s.laneState .a == 4 && s.laneState .b == 4 || s.laneState .a == 7 && s.laneState .b == 7)

/-- A cycle that is not clean in REJOINED (R94). -/
def State.unclean (s : State) : State :=
  if s.laneState .a = 7 ∨ s.laneState .b = 7 then s.clearRejoin else s

/-- The other lane's set not arrived by the boundary (R174, R194). -/
def State.compareMissing (s : State) (l : Lane) : State :=
  let c := s.cle l
  let p := clePage l
  if !s.comparing || c.phase == .idle || c.compared == some c.cycle then s
  else
    let s := s.setCle l { c with compared := some c.cycle }
    let s := (s.bump p Ce.CMP_MISSING).raise p 7
    (((s.safetyCause 2).halfStops l).safetyCycle false).unclean

/-- Whether the cycle that has ended was clean as far as a lane can tell (R489, R493). -/
def CleRec.endedClean (c : CleRec) : Bool := c.phase == .done && c.cleanCycle == some c.doneCycle

/-- A cycle in REJOINED that has ended without being found equal is not clean (R94). -/
def State.rejoinBoundary (s : State) (l : Lane) : State :=
  if s.laneState l = 7 ∧ !(s.cle l).endedClean then s.clearRejoin else s

/-- What the safety unit takes from a boundary (R489, R493, R514, R516). -/
def State.safetyBoundary (s : State) (l : Lane) : State :=
  let c := s.cle l
  let h := s.half l
  let clean := c.endedClean
  let s := s.setHalf l { h with stopped := h.stopped && !(clean && !h.dirty), dirty := false }
  let s := (s.driveHalf l).readBack l
  if l ≠ s.servingLane then s
  else ((if clean then s else s.safetyCycle false).modSafe fun x => { x with disc := false }).causesOver

/-! Run control at a boundary (R164, R182). -/

/-- Entry to STOP (R181, R184): a STOP from HOLD abandons the held cycle. -/
def State.stopNow (s : State) (l : Lane) : State :=
  let p := clePage l
  if s.pstate p ≠ 2 ∧ s.pstate p ≠ 3 then s
  else
    let clean := bool01 (s.pstate p == 2)
    let safe := (s.sharedOf l).getD 3 1 != 0
    let s := ((s.setCle l (s.cle l).abandon).setFld p Ce.STOP_INFO_CLEAN_STOP clean).setCleState l 1
    let s := if safe then s.safeValues l else s
    s.completeAll (fun o => o.page == p && o.opc == 0x02) RC.done

/-- RESUME is DONE once every CLE it acts on is in RUN (R200). -/
def State.resumeDone (s : State) : State :=
  s.completeAll (fun o => o.page == 0x0B && o.opc == 0x02
    && (holdTargets o.chan).all fun l => s.pstate (clePage l) == 2 && (s.cle l).runCmds.all fun c => c.op != 4) RC.done

/-- A lane in HOLD goes on at a boundary (R189): a cycle held at a breakpoint continues with a new deadline. -/
def State.resumeNow (s : State) (l : Lane) (steps : Option Nat) : State :=
  let c := s.cle l
  if s.pstate (clePage l) = 3 then
    let c := { c with steps := steps, heldAtBreak := false }
    let c := if (s.cle l).heldAtBreak then
        { c with steps := steps.map (· - 1), tb := s.now, deadline := s.now + s.cyclePeriod l * 1000 + s.graceNs l }
      else { c with phase := .idle }
    ((s.setCle l c).setCleState l 2).resumeDone
  else if s.pstate (clePage l) = 2 ∧ c.steps.isSome ∧ steps.isNone then
    let s := s.setCle l { c with steps := none }
    (s.completeAll (fun o => o.page == 0x0B && o.opc == 0x03) RC.aborted).resumeDone
  else s

/-- A command of page 0x0B that no lane carries out any more ends ABORTED. -/
def State.abortHold (s : State) (opc : Nat) : State := s.completeAll (fun o => o.page == 0x0B && o.opc == opc) RC.aborted

/-- Whether the cycle of a lane in RUN still runs at a boundary: a late one, or one held at a breakpoint that goes on. -/
def State.midCycle (s : State) (l : Lane) : Bool :=
  s.pstate (clePage l) == 2 && ((s.cle l).phase == .compute || (s.cle l).phase == .output)

/-- A run-state command whose boundary has come (R182). STOP and HOLD of a held cycle that goes on at this boundary wait for its
end (R181); a HOLD that finds the safety unit out of MAINTENANCE is not entered (R181; DESIGN CHOICE, log entry 115), while that
of the other lane's hold is (R188, argument 1). -/
def State.runNow (s : State) (l : Lane) (k : RunCmd) : State :=
  if (k.op = 2 ∨ k.op = 3) ∧ s.midCycle l then
    s.setCle l { s.cle l with runCmds := (s.cle l).runCmds ++ [{ k with left := 1 }] }
  else
  match k.op with
  | 1 => if s.pstate (clePage l) = 1 then s.startCle l k.both k.arg else s
  | 2 => s.stopNow l
  | 3 => if s.pstate (clePage l) ≠ 2 then s else if k.arg = 1 || s.maintenance then s.enterHold l 1 else s.abortHold 0x01
  | 4 => s.resumeNow l none
  | _ => s.resumeNow l (some k.arg)

/-- The commands that a boundary acts on, and those that wait: of a late cycle STOP and HOLD wait for its end. -/
def dueCmds (late : Bool) (ks : List RunCmd) : List RunCmd × List RunCmd :=
  let ks := ks.map fun k => { k with left := k.left - 1 }
  ks.partition fun k => k.left == 0 && !(late && (k.op == 2 || k.op == 3))

/-- The end of a step at the boundary after its last cycle (R181, R189). -/
def State.stepEnd (s : State) (l : Lane) : State :=
  if (s.cle l).steps ≠ some 0 ∨ s.pstate (clePage l) ≠ 2 ∨ s.midCycle l then s
  else if s.maintenance then s.enterHold l 3
  else (s.setCle l { s.cle l with steps := none }).abortHold 0x03

/-- The run-state commands at a boundary. -/
def State.runCommands (s : State) (l : Lane) (late : Bool) : State :=
  let c := s.cle l
  let (due, rest) := dueCmds late c.runCmds
  let s := s.setCle l { c with runCmds := rest }
  (due.foldl (fun s k => s.runNow l k) s).stepEnd l

/-- The shared values latched at a boundary act from the next one (R164). -/
def State.latchShared (s : State) (l : Lane) : State :=
  let c := s.cle l
  let new := if l = .a then s.sharedRegs 0x08 else if s.laneState l = 3 then s.sharedRegs 0x09 else c.sharedNext
  s.setCle l { c with shared := if c.sharedNext.isEmpty then new else c.sharedNext, sharedNext := new }

/-! The frames of a boundary. -/

/-- The newest frame accepted of each connection of the program (R506). -/
def State.seqsOf (s : State) (l : Lane) : Tab (Option Nat) :=
  (s.cle l).img.conns.foldl (fun m x => Tab.wr m none x.1 (((s.conn l x.1).frames.head?).map (·.seq))) []

/-- What a lane exchanges at its boundary (R17, R164, R188, R244, R506). -/
def State.exchangeOf (s : State) (l : Lane) (shared : List Nat) : ExchangeFrame :=
  let c := s.cle l
  { cycle := c.cycle + 1
    words := (s.ownWords l).map fun w => (w, c.latched.rd {} w)
    shared := shared
    cmds := if l = .a then c.runCmds.filter fun k => k.both && k.left == 1 else []
    held := s.pstate (clePage l) == 3 && c.heldAtBreak
    digest := (c.image.map (·.ref.toNat)).getD 0
    seqs := s.seqsOf l }

/-- The numbers of a frame. -/
def exchangeWords (f : ExchangeFrame) : List Nat :=
  [f.cycle, bool01 f.held, f.digest] ++ f.shared ++ f.words.flatMap fun x => [x.1, x.2.value.toNat, x.2.qual, x.2.tag]

/-- The EXCHANGE frame sent, and the exchange opened (R17, R77): a frame that came before the boundary counts while it is 20 µs
old or younger. -/
def State.openExchange (s : State) (l : Lane) : State :=
  let c := s.cle l
  let f := s.exchangeOf l (if l = .a then c.sharedNext else [])
  let s := s.sendFrame l 2 (exchangeWords f)
  let running := s.pstate (clePage l) == 2 && (c.late || !(c.phase == .compute || c.phase == .output))
  s.setCle l { s.cle l with sent := f, exchOpen := true, owesReceipt := true, waiting := running, got := none, receipt := none, sentReceipt := none }

/-! Firmware at a boundary. -/

/-- The word that applies the plan of an item to its target (R585). -/
def State.applyItem (s : State) (l : Lane) (i : Nat) : State :=
  let v := s.fld 0x72 Rp.RIP_PLAN_PLANNED i
  if !s.flag 0x72 Rp.RIP_BOUND_AUTO i ∨ s.ripField i = v then s
  else
    match ripTarget i with
    | some (p, f, j) =>
      if s.owner p = l.num then
        s.writeAny ⟨l.num, s.gen p, p, f.pos j, putBits (s.reg p (f.pos j)) f.hi f.lo v⟩
      else s
    | none => if i = 107 + l.num then (s.putMgmt { s.mgmt with trim := s.mgmt.trim.wr 0 (2 + l.num) v }) else s

/-- The plan applied by lane firmware (R585): once after each PLAN_READY, then once per second. -/
def State.applyPlan (s : State) (l : Lane) : State :=
  let r := s.lane l
  match s.mgmt.applyAt with
  | none => s
  | some x =>
    if r.ripApplied ≤ x ∨ r.ripApplied + 1000000000 ≤ s.now then
      (s.setLane l { r with ripApplied := s.now }).each (List.range 110) fun s i => s.applyItem l i
    else s

/-- The resources handed over before an activation's trial (R590). -/
def State.offerAll (s : State) (l : Lane) : State :=
  let step := s.fld 0x73 Up.UPD_SESSION_STEP
  let asked := s.pstate 0x73 == 4 && s.fld 0x73 Up.UPD_SESSION_TARGET == 0 && step == (if l = .b then 1 else 3)
    && s.mgmt.activating.contains (fwInstance l)
  if !asked || s.laneState l != 4 then s
  else
    s.each (ownedPages.filter fun p =>
        s.owner p == l.num && s.fld 3 Xg.OWN_STATE_OFFER p == 0 && !(s.errands l).any fun e => e.page == p) fun s p =>
      s.beginErrand l p 1 Own.offer

/-- What goes to the resources of a lane at every boundary (R169, R184, R417): the refresh of its banks, and, in RUN, leave
for motion. -/
def State.refreshOwned (s : State) (l : Lane) : State :=
  let mine := ownedPages.filter fun p => s.owner p == l.num && (s.resRec p).accepted
  s.each mine fun s p =>
    match pageKind p with
    | .bank => if (s.lane l).heartbeats then s.ownerRefresh p else s
    | .axis => if s.pstate (clePage l) = 2 ∧ (s.axis p).noMotion then s.modAxis p fun x => { x with noMotion := false } else s
    | _ => s

/-- The safe connections at a boundary (R169, R504, R508). -/
def State.serveConns (s : State) (l : Lane) : State :=
  (s.connBoundary l).each (List.range 64) fun s c => (s.followConn l c).composeFrame l c

/-! Alignment (R81, R82). -/

/-- Lane B measures its boundary against lane A's, and stretches its cycle where they are not aligned. -/
def State.measureAlign (s : State) : State :=
  match (if s.hears .b then s.alignNs s.now else none) with
  | none => s
  | some d =>
    let was := s.pair.aligned
    let s := (s.setSfld 3 Xg.ALIGN_OFFSET (saturateSigned 16 d)).putPair { s.pair with aligned := decide (d.natAbs ≤ 2000) }
    if d.natAbs ≤ 2000 then s.setFld 3 Xg.ALIGN_MAX (max d.natAbs (s.fld 3 Xg.ALIGN_MAX))
    else
      let s := if was then s.raise 3 9 else s
      let p := s.cyclePeriod .b * 1000
      let need := if d < 0 then d.natAbs else p - d.natAbs
      let c := s.cle .b
      s.setCle .b { c with nextTb := c.nextTb.map (· + min need (p / 100)) }

/-! The boundary. -/

/-- The outputs of the cycle that has ended, or the note that it is late (R173). -/
def State.endCycle (s : State) (l : Lane) : State :=
  let c := s.cle l
  if s.pstate (clePage l) = 2 ∧ (c.phase = .compute ∨ c.phase = .output) then s.setCle l { c with late := true }
  else s.applyOutputs l

/-- Events posted at this boundary (R67): kept for later while the CLE is in HOLD. -/
def State.takePosts (s : State) (l : Lane) : State :=
  if s.pstate (clePage l) = 3 then s
  else
    let c := s.cle l
    (s.setCle l { c with posts := c.posts ++ s.clePosts.of l }).putPosts (s.clePosts.set l [])

/-- What a lane does at its boundary, with the deadline of the cycle that runs kept (R17, R167-R169). -/
def State.atBoundary (s : State) (l : Lane) : State :=
  let old := s
  let s := ((s.compareMissing l).rejoinBoundary l).endCycle l
  let late := (s.cle l).late
  let s := (s.latchShared l).runCommands l late
  let s := s.ocBoundary l ((s.cle l).cycle + 1)
  let s := ((s.latchInputs old l).takePosts l).openExchange l
  let s := (((s.safetyBoundary l).serveConns l).refreshOwned l).applyPlan l
  let s := s.offerAll l
  if l = .b then s.measureAlign else s

/-! The cycle that begins (R17, R165, R166, R178, R179). -/

/-- A task at the beginning of a cycle: CYCLE discarded and posted again, the events of the boundary, its wake timer and its
trigger. -/
def beginTask (d : TaskDef) (k : TaskRec) (t cycle time : Nat) (posts : List ClePost) : TaskRec :=
  let k := { k with pend := k.pend.filter fun p => p.1 != 0x810 }
  let k := (k.post 0x810 1)
  let k := (posts.filter fun p => p.task == t).foldl (fun k p => k.post p.id p.count) k
  let k := match k.wake with
    | some w => if w ≤ time then { k.post (0x800 + t) 1 with wake := none } else k
    | none => k
  if d.kind = 0 ∧ cycle % d.div = d.phase then { k with trigger := true } else k

/-- The tasks of an engine at the beginning of a cycle. -/
def CleRec.beginTasks (c : CleRec) : CleRec :=
  let tasks := (List.range 16).foldl (fun (m : Tab TaskRec) t =>
    let d := c.img.tasks.rd {} t
    if d.enabled then m.wr {} t (beginTask d (m.rd {} t) t c.cycle c.progTime c.posts) else m) c.tasks
  { c with tasks := tasks, posts := [] }

/-- The safe connections' data for the cycle (R506, R509). -/
def State.putConns (s : State) (l : Lane) : State :=
  let c := s.cle l
  let alone := s.laneState l == 3
  c.img.conns.foldl (fun s x =>
    let own := c.sent.seqs.rd none x.1
    let agreed := match c.got with
      | some g => olderSeq own (g.seqs.rd none x.1)
      | none => own
    s.putSafeRx l x.1 x.2.1 (if alone then own else agreed)) s

/-- The first cycle of a start (R193): START ends DONE and the page takes its next generation. -/
def State.startDone (s : State) (l : Lane) : State :=
  let p := clePage l
  match (s.cle l).starting with
  | none => s
  | some m =>
    let s := s.setCle l { s.cle l with starting := none }
    let s := s.completeAll (fun o => o.page == p && o.opc == 0x01) RC.done
    if 1 ≤ m ∧ m ≤ 2 then s.regenerate p else s

/-- A cycle begins on the image latched last (R17, R166): the first of a cold start at program time 0. -/
def State.beginCycle (s : State) (l : Lane) : State :=
  let c := s.cle l
  let cold := match c.starting with
    | some m => m % 4 == 2
    | none => false
  let c := { c with
    inputs := c.latched, gens := c.latchGens, cycle := c.cycle + 1
    progTime := if cold then c.progTime else c.progTime + s.cyclePeriod l
    tb := c.lastTb, deadline := c.lastTb + s.cyclePeriod l * 1000 + s.graceNs l
    staged := [], waiting := false, phase := .compute, scanned := 0, running := none
    compareSent := none, steps := c.steps.map (· - 1) }.beginTasks
  let s := (s.setCle l c).putConns l
  let s := s.setCle l (s.cle l).startPrime
  s.startDone l

/-- A cycle that waits begins once the exchange is over, unless the late one before it still runs. -/
def State.beginIfReady (s : State) (l : Lane) : State :=
  let c := s.cle l
  if c.waiting && !c.exchOpen && !c.late && s.pstate (clePage l) == 2 then s.beginCycle l else s

end Sys2Proof.Machine
end

