-- ==== Sys2Proof/Machine/Exchange.lean ====
section
/-! DEFINITION. The exchange of a boundary (R17, R18, R21, R77, R84, R94, R99, R244), the boundary itself, the comparison (R22, R194)
and the end of the output phase (R171-R174). -/

namespace Sys2Proof.Machine

/-- A change that came out differently in the two lanes (R244): lane B joins from lane A, whose image both slots then hold. -/
def State.ocDiverged (s : State) : State :=
  let s := (s.raise 0x0A 5).safeValues .b
  let s := (s.setCle .b (s.cle .b).abandon).setCleState .b 0
  let s := (s.setLaneState .a 3).beginJoin .b false
  let d := (s.cle .a).image.map (·.digest)
  [3, 4].foldl (fun s n => if (((s.activeSlot n).bind (·.program)).map (·.digest)) = d then s else s.swapSlots n) s

/-- The run-state commands and the shared values that lane B takes from lane A's frame (R164). -/
def State.takeShared (s : State) (f : ExchangeFrame) : State :=
  let c := s.cle .b
  let s := s.setCle .b { c with sharedNext := f.shared, runCmds := c.runCmds ++ f.cmds }
  [Ce.CYCLE_PERIOD_PERIOD_US, Ce.CYCLE_CFG_GRACE_PCT, Ce.CYCLE_CFG_WARN_PCT, Ce.CYCLE_CFG_STOP_SAFE].zip f.shared |>.foldl
    (fun s x => s.setFld 0x09 x.1 x.2) s

/-- A word as a lane latches it: its value and quality STALE, at the last GOOD value before this cycle (R19-R21). -/
def CleRec.stale (c : CleRec) (w : Nat) : ImageWord := staleWord (c.base.rd {} w) (c.base.rd {} w)

/-- A lane takes the frame of the other lane `l` for its open exchange (R18, R164, R188, R244). The words it has latched itself at
this boundary stay as they are, whoever owns them meanwhile (R25); a word that neither lane has latched is STALE. -/
def State.takeFrame (s : State) (l : Lane) (f : ExchangeFrame) : State :=
  let o := l.other
  let c := s.cle o
  let own := c.sent.words.map (·.1)
  let others := c.img.inMap.filter fun w => !own.contains w
  let words := others.foldl (fun m w =>
    Tab.wr m {} w (((f.words.find? fun x => x.1 == w).map (·.2)).getD (c.stale w))) c.latched
  let hold := f.held && s.laneState o == 4 && s.pstate (clePage o) == 2
  let s := s.setCle o { c with
    latched := words, got := some f, sentReceipt := some true
    runCmds := if hold then c.runCmds ++ [⟨3, 1, 1, false⟩] else c.runCmds }
  let s := (if o = .b then s.takeShared f else s).takeConnCfgs o
  let differ := o == .b && s.oc.tc == some f.cycle && f.digest != ((s.cle .b).image.map (·.ref.toNat)).getD 0
  if differ && s.laneState .b == 4 then s.ocDiverged else s

/-- What a lane measures at its boundary (R83, R96, R99, R101): the differences are taken while both lanes run. -/
def State.senses (s : State) (l : Lane) (x : LaneSense) : State :=
  let p := lanePage l
  let s := s.setFld 4 (match l with | .a => Pw.V_LANE_A | .b => Pw.V_LANE_B) (saturate 16 x.supply)
  let s := (s.setFld p Ln.LANE_SUPPLY (saturate 16 x.supply)).setSfld p Ln.LANE_TEMP (saturateSigned 16 x.temp)
  if s.laneState l.other < 2 then s
  else
    let d := s.sfld 1 Ln.LANE_TEMP - s.sfld 2 Ln.LANE_TEMP
    let s := (s.setSfld 3 Xg.TEMP_DIFF (saturateSigned 16 d)).level 3 10 (decide (300 < d.natAbs))
    let s := s.setSfld 3 Xg.FREQ_DIFF (saturateSigned 16 x.ppm)
    let keep (on : Bool) (since : Option Nat) : Option Nat := if on then some (since.getD s.now) else none
    s.putPair { s.pair with
      above := keep (decide (2000 < x.ppm.natAbs)) s.pair.above, below := keep (decide (x.ppm.natAbs < 1500)) s.pair.below }

/-- CYCLE_BOUNDARY (R17, R27): the oscillator of a lane may run 50 ppm fast. -/
def execCycleBoundary (t : Nat) (l : Lane) (x : LaneSense) (s : State) : Host.Outcome State Fault Refusal :=
  let s := s.start t
  let c := s.cle l
  let due := match c.nextTb with
    | some b => decide (b ≤ s.now + s.cyclePeriod l / 20)
    | none => false
  .next <|
    if s.laneState l < 3 ∨ !due then s
    else
      let s := (s.senses l x).memSenses l x
      if s.laneState l < 3 then s
      else
      let beyond := s.pstate (clePage l) == 2 && (c.phase == .compute || c.phase == .output) && decide (c.deadline ≤ s.now)
      let s := if beyond then s.cleFault l Cause.overrun (c.running.getD 0xFF) ((c.tasks.rd {} (c.running.getD 0xFF)).pc) else s
      let early := match (s.cle l).early with
        | some e => if s.now ≤ e.1 + 20000 then some e else none
        | none => none
      let s := s.setCle l { s.cle l with lastTb := s.now, early := early }
      let s := s.setCle l { s.cle l with nextTb := some (s.now + s.cyclePeriod l * 1000) }
      let s := s.atBoundary l
      match early with
      | some e => s.takeFrame l.other e.2
      | none => s

/-! The exchange. -/

/-- A cycle in which an exchange failed (R99). -/
def State.exchLate (s : State) (l : Lane) : State :=
  let st := s.laneState l
  if l = s.servingLane ∧ (st = 4 ∨ st = 6 ∨ st = 7) then s.bump 3 Xg.EXCH_LATE_COUNT else s

/-- Whether both exchanges of a boundary at which the lanes are aligned came in time (R84). -/
def State.bothInTime (s : State) : Bool :=
  (s.cle .a).sentReceipt == some true && (s.cle .b).sentReceipt == some true
    && s.pair.aligned

/-- The exchange of a lane's boundary is over once its frame and its receipt are known, or at Tb + 24 µs, `late` (R17, R84, R92): the
guards and the maintenance key are judged by the image (R491, R499),
REALIGNING becomes REJOINED, firmware answers about ownership, and a cycle that waits begins. -/
def State.settleExchange (s : State) (l : Lane) (late : Bool := false) : State :=
  let c := s.cle l
  if !c.exchOpen || c.sentReceipt.isNone || (c.receipt.isNone && !late) then s
  else
    let s := (s.setCle l { c with exchOpen := false }).judgeGuards l
    let s := if l = .a then s.watchKey else s
    let s := if s.laneState .a = 6 ∧ s.laneState .b = 6 ∧ s.bothInTime then (s.setLaneState .a 7).setLaneState .b 7 else s
    (s.fwAnswer l true).beginIfReady l

/-- EXCHANGE (R18, R77): the frame that lane `l` has sent at its boundary reaches the other lane. -/
def execExchangeFrame (t : Nat) (l : Lane) (c : Copies) (s : State) : Host.Outcome State Fault Refusal :=
  let s := s.start t
  let o := l.other
  let src := s.cle l
  let fresh := src.nextTb.isSome && decide (3 ≤ s.laneState l ∧ s.now ≤ src.lastTb + 20000)
  .next <|
    if !fresh then s
    else
      let r := s.receiveFrame o c
      let s := r.1
      let c := s.cle o
      if !r.2 || s.laneState o < 3 then s
      else if c.exchOpen && c.got.isNone && c.sentReceipt.isNone && decide (s.now ≤ c.lastTb + 20000) then
        (s.takeFrame l src.sent).settleExchange o
      else if c.exchOpen && c.got.isSome then s
      else s.setCle o { s.cle o with early := some (s.now, src.sent) }

/-- The words that a lane does not latch itself, STALE for the cycle (R21). -/
def State.othersStale (s : State) (l : Lane) : State :=
  let c := s.cle l
  let own := c.sent.words.map (·.1)
  s.setCle l { c with
    latched := (c.img.inMap.filter fun w => !own.contains w).foldl (fun m w => Tab.wr m {} w (c.stale w)) c.latched }

/-- EXCHANGE_DEADLINE (R17, R21, R99, R101): 20 µs after the boundary; the receipt goes out. -/
def execExchangeDeadline (t : Nat) (l : Lane) (s : State) : Host.Outcome State Fault Refusal :=
  let s := s.start t
  let c := s.cle l
  .next <|
    if !c.owesReceipt || s.now < c.lastTb + 20000 then s
    else
      let ok := c.got.isSome
      let s := s.setCle l { c with owesReceipt := false }
      let s := if ok then s
        else
          let s := (s.othersStale l).setCle l { (s.othersStale l).cle l with sentReceipt := some false }
          let s := if c.receipt = some false then s else s.exchLate l
          if s.pair.aligned then s.raise 3 11 else s
      (s.sendFrame l 3 [bool01 ok]).settleExchange l

/-- The words that a lane has latched itself, STALE for the cycle (R21). -/
def State.ownStale (s : State) (l : Lane) : State :=
  let c := s.cle l
  s.setCle l { c with
    latched := c.sent.words.foldl (fun m x => Tab.wr m {} x.1 (staleWord (c.base.rd {} x.1) x.2)) c.latched }

/-- RECEIPT (R17, R21): what lane `l` says of the other lane's frame reaches that lane by its boundary + 24 µs. -/
def execReceiptFrame (t : Nat) (l : Lane) (c : Copies) (s : State) : Host.Outcome State Fault Refusal :=
  let s := s.start t
  let o := l.other
  .next (match (if (s.cle l).owesReceipt then none else (s.cle l).sentReceipt) with
    | none => s
    | some ok =>
      let r := s.receiveFrame o c
      let s := r.1
      let c := s.cle o
      if !c.exchOpen || c.receipt.isSome || c.lastTb + 24000 < s.now || !r.2 then s
      else
        let s := s.setCle o { c with receipt := some ok }
        let s := if ok then s else if c.sentReceipt = some false then s.ownStale o else (s.ownStale o).exchLate o
        s.settleExchange o)

/-- RECEIPT_DEADLINE (R17, R21): 24 µs after the boundary; without a receipt the own values stay as they were latched. -/
def execReceiptDeadline (t : Nat) (l : Lane) (s : State) : Host.Outcome State Fault Refusal :=
  let s := s.start t
  let c := s.cle l
  .next <|
    if !c.exchOpen || s.now < c.lastTb + 24000 then s
    else
      let s := if c.sentReceipt.isSome then s
        else (s.othersStale l).setCle l { (s.othersStale l).cle l with sentReceipt := some false }
      s.settleExchange l true

/-! The comparison. -/

/-- Both lanes have found a cycle equal (R94, R488, R489). -/
def State.cycleClean (s : State) : State :=
  let s := if s.safe.disc then s.safetyCycle false else s.safetyCycle true
  if s.laneState .a ≠ 7 ∨ s.laneState .b ≠ 7 then s
  else
    let good (l : Lane) : Bool := let c := s.cle l; c.img.inMap.all fun w => (c.inputs.rd {} w).qual == 0
    if !(good .a && good .b) then s.clearRejoin
    else
      let n := min 16 (s.fld 3 Xg.REJOIN_STATUS_CLEAN + 1)
      let s := s.setFld 3 Xg.REJOIN_STATUS_CLEAN n
      if n = 16 then (s.setFld 3 Xg.REJOIN_STATUS_READY 1).level 3 3 true else s

/-- The first place at which two lists of words differ. -/
def firstDiff : Nat → List Word → List Word → Option (Nat × Word × Word)
  | i, x :: xs, y :: ys => if x = y then firstDiff (i + 1) xs ys else some (i, x, y)
  | i, x :: _, [] => some (i, x, 0)
  | i, [], y :: _ => some (i, 0, y)
  | _, [], [] => none

/-- A difference found by a lane (R22, R194, R493). -/
def State.compareDiffers (s : State) (l : Lane) (i : Nat) (mine other : Word) : State :=
  let p := clePage l
  let s := (s.bump p Ce.CMP_MISMATCHES).setFld p Ce.CMP_LAST i
  let s := ((s.setFld p Ce.CMP_LOCAL mine.toNat).setFld p Ce.CMP_REMOTE other.toNat).raise p 6 i
  ((s.safetyCause 1).halfStops l |>.safetyCycle false).unclean

/-- A lane compares its safety-tagged words with the other lane's of the same cycle, once it has both (R194). -/
def State.compareNow (s : State) (l : Lane) : State :=
  let c := s.cle l
  match c.compareSent, c.compareGot with
  | some (n, mine), some (m, other) =>
    if n ≠ m ∨ c.compared = some n ∨ n ≠ c.cycle ∨ !s.comparing then s
    else
      let s := s.setCle l { c with compared := some n }
      match firstDiff 0 mine other with
      | some (i, x, y) => s.compareDiffers l i x y
      | none =>
        let s := s.setCle l { s.cle l with cleanCycle := some n }
        if (s.cle l.other).cleanCycle = some n then s.cycleClean else s
  | _, _ => s

/-- COMPARE (R22, R77, R194): the frame of lane `l` reaches the other lane. -/
def execCompareFrame (t : Nat) (l : Lane) (c : Copies) (s : State) : Host.Outcome State Fault Refusal :=
  let s := s.start t
  let o := l.other
  .next (match (s.cle l).compareSent with
    | none => s
    | some f =>
      let r := s.receiveFrame o c
      if r.2 then (r.1.setCle o { r.1.cle o with compareGot := some f }).compareNow o else r.1)

/-! The end of the output phase. -/

/-- The safety-tagged words as they stand, and the demand as one more (R22, R494). -/
def State.safetyWords (s : State) (l : Lane) : List Word :=
  let c := s.cle l
  let r := c.img.safety
  let demand := match (c.staged.filter fun x => x.addr == demandWord).getLast? with
    | some x => bitsOf x.value 7 0
    | none => (s.half l).demand
  ((List.range (r.size / 4)).map fun j => BitVec.ofNat 32 (memRead c.data (r.base + 4 * j) 4)) ++ [BitVec.ofNat 32 demand]

/-- WARN_PCT as it applies to a lane (R164, R172). -/
def State.warnPct (s : State) (l : Lane) : Nat := s.fld (if s.aligned then 0x08 else clePage l) Ce.CYCLE_CFG_WARN_PCT

/-- The usage of the cycle that ends (R171, R172). -/
def State.showUsage (s : State) (l : Lane) : State :=
  let p := clePage l
  let usage := (s.now - (s.cle l).tb) / max 1 (s.cyclePeriod l)
  let s := (s.setFld p Ce.USAGE_LAST (saturate 11 usage)).setFld p Ce.USAGE_MAX (max (saturate 11 usage) (s.fld p Ce.USAGE_MAX))
  if s.warnPct l * 10 < usage then (s.bump p Ce.WARN_COUNT).raise p 1 usage else s

/-- A late cycle's outputs applied at once, and what waited for its end (R173). -/
def State.endLate (s : State) (l : Lane) : State :=
  let p := clePage l
  let usage := s.fld p Ce.USAGE_LAST
  let s := ((s.applyOutputs l).bump p Ce.LATE_COUNT).raise p 2 usage
  let s := s.setCle l { s.cle l with late := false }
  let waiting := (s.cle l).runCmds.filter fun k => k.left == 0
  let s := s.setCle l { s.cle l with runCmds := (s.cle l).runCmds.filter fun k => k.left != 0 }
  let s := waiting.foldl (fun s k => s.runNow l k) s
  (s.stepEnd l).beginIfReady l

/-- A cycle that completes (R171, R174, R191, R494, R509). -/
def State.finishCycle (s : State) (l : Lane) : State :=
  let c := s.cle l
  let words := s.safetyWords l
  let s := (s.showUsage l).setCle l { c with
    compareSent := some (c.cycle, words), doneCycle := c.cycle, phase := .done
    ready := c.staged.map fun x => { x with gen := c.gens.rd 0 (wordPage x.addr) }, staged := [] }
  let s := s.sendFrame l 4 (c.cycle :: words.map (·.toNat))
  let s := c.img.conns.foldl (fun s x => s.takeSafeTx l x.1 x.2.2) s
  let s := (s.beginCommit l).compareNow l
  if c.late then s.endLate l else s

/-- OUTPUT_PHASE_END (R171, R175, R180): the tasks of a lane have waited or ended, and everything is staged. -/
def execOutputPhaseEnd (t : Nat) (l : Lane) (s : State) : Host.Outcome State Fault Refusal :=
  let s := (s.start t).scanEnd l
  let c := s.cle l
  .next <|
    if s.pstate (clePage l) ≠ 2 ∨ c.phase ≠ .output then s
    else if c.deadline < s.now then s.cleFault l Cause.overrun 0xFF 0
    else s.finishCycle l

end Sys2Proof.Machine
end

