-- ==== Sys2Proof/Machine/LogRead.lean ====
section
/-! DEFINITION. The logs of a Vat as a host reads them (R143, R548, R551, R552, R555, R560-R564): the bytes of every
record, selections and the bytes of a selection. Bytes are numbers below 256. -/

namespace Sys2Proof.Machine

/-- Bytes `o` to `o + n - 1` of a list. -/
def slice (bs : List Nat) (o n : Nat) : List Nat := (bs.drop o).take n

/-- Bytes of a record that nothing gives (log entry 5). -/
def unstated (key o n : Nat) : List Nat := (List.range n).map fun i => (Config.storedByte key (o + i)).toNat

/-- The 64 bytes of an event log entry (R560). -/
def LogEntry.bytes (e : LogEntry) (l : Lane) : List Nat :=
  let words := (e.words.flatMap (leBytes 4) ++ zeros 32).take 32
  let body := recordBytes e.record ++ [e.kind, l.num, 0, 0] ++ words
  body ++ leBytes 4 (crc32 body)

/-- The mark and step tables of a capture's header (R555), bytes 64 to 1,087. -/
def Capture.tables (c : Capture) : List Nat :=
  let marks := c.marks.take 64
  let steps := c.steps.take 64
  marks.flatMap (fun m => leBytes 4 m.sample ++ leBytes 2 m.code ++ leBytes 2 (m.avenue % 64 * 2 ^ 8 + bool01 m.falling * 2 ^ 15))
    ++ zeros (512 - 8 * marks.length) ++ steps.flatMap (fun x => leBytes 4 x.1 ++ leBytes 4 x.2) ++ zeros (512 - 8 * steps.length)

/-- The 4,096 bytes of a capture's header (R555). -/
def Capture.head (c : Capture) : List Nat :=
  let flags := bool01 c.rotary + 2 * bool01 c.decimated + 4 * bool01 c.dropped + 8 * bool01 c.unsynced + 16 * bool01 c.powerLoss
  let body := [1, 0, c.axis, c.lane] ++ leBytes 4 c.seq ++ leBytes 8 c.tFirst ++ leBytes 4 c.rate ++ leBytes 4 c.samples.length
    ++ leBytes 2 flags ++ [c.startCause, c.endCause] ++ leBytes 4 c.trigger ++ leBytes 4 (c.curdSeq.getD 0xFFFFFFFF)
    ++ leBytes 4 c.aux ++ [min 64 c.marks.length, min 64 c.steps.length] ++ leBytes 2 (saturate 16 c.marksLost) ++ zeros 20
    ++ c.tables ++ zeros 3004
  body ++ leBytes 4 (crc32 body)

/-- Bytes `o` to `o + n - 1` of a capture (R555): stored sample j lies at 4,096 + 48 j. -/
def Capture.slice (c : Capture) (o n : Nat) : List Nat :=
  let head := Machine.slice c.head o n
  let from_ := o - 4096
  let rest := n - head.length
  let xs := (c.samples.drop (from_ / 48)).take (rest / 48 + 2)
  head ++ Machine.slice (xs.flatMap fun x => x.flatMap fun i => leInt 2 (signal i)) (from_ % 48) rest

/-- The number by which the unstated bytes of a record are told apart: its partition and its key. -/
def storeKey (part key : Nat) : Nat := 8 * key + part

/-- How long a whole dump is (R564). -/
def dumpBytes : Nat := 0xF28000

/-- The key of a dump among the records of its partition: its time and its slot. -/
def DumpRec.key (d : DumpRec) : Nat := d.time * 4096 + d.slot

/-- The first 320 bytes of a dump (R564): its header and the section table, which the manual does not give. -/
def DumpRec.head (d : DumpRec) (l : Lane) (version : Nat) : List Nat :=
  let k := storeKey 3 d.key
  let first := leBytes 4 0x50445156 ++ leBytes 2 1 ++ [l.num, d.cause % 256] ++ leBytes 4 d.boot ++ leBytes 8 d.time ++ leBytes 8 d.cycle
    ++ leBytes 4 d.pc ++ [d.task % 256] ++ leBytes 3 version ++ leBytes 4 d.progRef
    ++ leBytes 4 (Config.unitValue (Reg.key 0 0x108 0)).toNat ++ leBytes 4 (Config.unitValue (Reg.key 0 0x10C 0)).toNat ++ leBytes 4 dumpBytes
  let table := unstated k 64 256
  first ++ leBytes 4 (crc32 (first ++ table)) ++ unstated k 56 8 ++ table

/-- Byte `o` of the page copies of a dump (R564): the kept words of its pages in the order of R564 (log entry 5). -/
def DumpRec.pageByte (d : DumpRec) (l : Lane) (o : Nat) : Nat :=
  let page := [lanePage l, clePage l, memPage l, vatPage l, 0x03, 0x60].getD (o / 4096) 0
  let w := Sparse.get Reg.reset d.regs (Reg.key page (o % 4096 / 4 * 4) 0)
  w.toNat / 256 ^ (o % 4) % 256

/-- Byte `o` of the error map of a dump (R564): a bit for each of its 64-byte blocks that held an uncorrectable word. -/
def DumpRec.mapByte (d : DumpRec) (o : Nat) : Nat :=
  (List.range 8).foldl (fun m k => if d.bad.any fun a => a / 64 == 8 * o + k then m + 2 ^ k else m) 0

/-- Byte `o` of a dump (R564): 0xDEADBEEF in a word with an uncorrectable error. -/
def DumpRec.byte (d : DumpRec) (l : Lane) (version o : Nat) : Nat :=
  if d.bad.contains (o / 4 * 4) then 0xDEADBEEF / 256 ^ (o % 4) % 256
  else if 0xF20000 ≤ o then d.mapByte (o - 0xF20000)
  else if o < 320 then (d.head l version).getD o 0
  else if 0xA000 ≤ o ∧ o < 0x10000 then d.pageByte l (o - 0xA000)
  else if 0x20000 ≤ o ∧ o < 0x820000 then (memByte d.data (o - 0x20000)).toNat
  else if 0x820000 ≤ o ∧ o < 0xC20000 then (memByte d.program (o - 0x820000)).toNat
  else (Config.storedByte (storeKey 3 d.key) o).toNat

/-- The serial of an entry of partition 2 in a Vat: its place, for its unstated bytes. -/
def HistEntry.key (e : HistEntry) : Nat := storeKey 2 e.pos

/-- Bytes of an entry of partition 2 (R561): a 64-byte header and the content. -/
def HistEntry.slice (e : HistEntry) (o n : Nat) : List Nat :=
  if e.content = [] then unstated e.key o n
  else
    let head := unstated e.key o (min n (64 - o))
    head ++ Machine.slice e.content (o - 64) (n - head.length)

/-- Bytes of the record of a partition that a key names, none once it has been overwritten. -/
def State.recordSlice (s : State) (l : Lane) (part key o n : Nat) : Option (List Nat) :=
  let v := s.vat l
  match part with
  | 0 => (v.curds.find? fun r => r.pos == key).map fun r => slice r.bytes o n
  | 1 => (v.log.find? fun e => e.pos == key).map fun e => slice (e.bytes l) o n
  | 2 => (v.history.find? fun e => e.pos == key).map fun e => e.slice o n
  | 3 => (v.dumps.find? fun d => d.key == key).map fun d =>
      (List.range n).map fun i => d.byte l (s.fwVersion (l.num - 1)) (o + i)
  | _ => (v.stored.find? fun c => c.pos == key).map fun c => c.slice o n

/-- A record that a selection may take: its key, the time it is chosen by, its axis where it has one, its first byte in
the partition and its length. -/
structure LogPick where
  key : Nat
  time : Nat
  axis : Option Nat
  start : Nat
  len : Nat
  deriving DecidableEq, Repr

/-- The records of a partition (R562); of partition 2 those written under the present generation of the Vat key, since the
earlier ones cannot be read (R615). -/
def VatRec.picks (v : VatRec) (part gen : Nat) : List LogPick :=
  match part with
  | 0 => v.curds.map fun r => ⟨r.pos, r.curd.tEnd, some r.curd.axis, r.pos - 2048, 2048⟩
  | 1 => v.log.map fun e => ⟨e.pos, e.record.time, none, e.pos - 64, 64⟩
  | 2 => (v.history.filter (·.gen == gen)).map fun e => ⟨e.pos, e.time, none, e.pos - (64 + e.length), 64 + e.length⟩
  | 3 => (v.dumps.filter (·.whole)).map fun d => ⟨d.key, d.time, none, d.slot * 0x2000000, dumpBytes⟩
  | _ => v.stored.map fun c =>
      let len := 4096 + 48 * c.samples.length
      ⟨c.pos, c.tFirst, some c.axis, c.pos - len, len⟩

/-- The bytes of a record that no lost unit holds (R548), as ranges within the record, one per unit. -/
def LogPick.ranges (x : LogPick) (lost : List Nat) : List (Nat × Nat × Nat) :=
  let u := x.start / unitBytes
  let last := (x.start + x.len - 1) / unitBytes
  ((List.range (last - u + 1)).filter fun i => !lost.contains (u + i)).map fun i =>
    let a := max x.start ((u + i) * unitBytes)
    let b := min (x.start + x.len) ((u + i + 1) * unitBytes)
    (x.key, a - x.start, b - a)

/-- The selection of LOG_OPEN (R562), in ascending time. -/
def VatRec.select (v : VatRec) (part gen from_ to_ mask : Nat) : List (Nat × Nat × Nat) :=
  let lost := (v.part part).lost
  let ok (x : LogPick) : Bool :=
    decide (from_ ≤ x.time ∧ x.time ≤ to_) && (mask == 0 || (x.axis.map (bitAt mask)).getD true)
  (sortBy (fun a b => decide (a.time ≤ b.time)) ((v.picks part gen).filter ok)).flatMap fun x => x.ranges lost

/-- Units found lost on a read, and units whose tag alone fails (R548). -/
def State.readFinds (s : State) (l : Lane) (part : Nat) (env : ReqEnv) : State :=
  let p := vatPage l
  let s := (env.lost.eraseDups).foldl (fun s u =>
    let v := s.vat l
    let r := v.part part
    if r.lost.contains u then s
    else ((s.setVat l (v.setPart part { r with lost := u :: r.lost })).bump p Vt.UNITS_LOST).raise p 4 part) s
  if s.vatSealed l then s.bump p Vt.TAG_FAILS 0 0 env.tagBad else s

/-- Bytes `o` to `o + n - 1` of a selection; none when a record of it has been overwritten. -/
def State.selectionSlice (s : State) (l : Lane) (part : Nat) : List (Nat × Nat × Nat) → Nat → Nat → Option (List Nat)
  | [], _, _ => some []
  | (key, first, len) :: rest, o, n =>
    if n = 0 then some []
    else if len ≤ o then s.selectionSlice l part rest (o - len) n
    else
      let k := min (len - o) n
      match s.recordSlice l part key (first + o) k, s.selectionSlice l part rest 0 (n - k) with
      | some a, some b => some (a ++ b)
      | _, _ => none

/-- Whether every record of a selection is still held (R143). -/
def State.selectionHeld (s : State) (h : LogHandle) : Bool :=
  h.picks.all fun x => (s.recordSlice h.lane h.part x.1 0 0).isSome

/-- Ranges of a selection without the bytes of units that have become lost (R548). -/
def VatRec.keepReadable (v : VatRec) (part gen : Nat) (picks : List (Nat × Nat × Nat)) : List (Nat × Nat × Nat) :=
  let lost := (v.part part).lost
  let starts := (v.picks part gen).map fun x => (x.key, x.start)
  picks.filter fun x =>
    match starts.find? fun y => y.1 == x.1 with
    | some y => !lost.contains ((y.2 + x.2.1) / unitBytes)
    | none => true

end Sys2Proof.Machine
end

