-- ==== Sys2Proof/Machine/HostServe.lean ====
section
/-! DEFINITION. What the module does with a Hanuca request once its turn has come, and the reply (R137-R143, R146, R147,
R562). -/

namespace Sys2Proof.Machine

/-- The dispositions of R135. -/
def Disp.served : Nat := 0
def Disp.fabric : Nat := 1
def Disp.repeat_ : Nat := 2
def Disp.skipped : Nat := 3
def Disp.malformed : Nat := 4
def Disp.unknown : Nat := 5

/-- The message types of R136 that hosts send. -/
def Typ.read : Nat := 1
def Typ.write : Nat := 2
def Typ.command : Nat := 3
def Typ.nop : Nat := 4
def Typ.eventCtrl : Nat := 5
def Typ.logOpen : Nat := 6
def Typ.logRead : Nat := 7
def Typ.logClose : Nat := 8

/-- Word `n` of a request's body as a number, and a 64-bit value at words `n` and `n + 1`. -/
def HanucaReq.w (r : HanucaReq) (n : Nat) : Nat := (r.words.getD n 0).toNat
def HanucaReq.w64 (r : HanucaReq) (n : Nat) : Nat := r.w n + 2 ^ 32 * r.w (n + 1)

/-- Whether a request is a READ, WRITE or COMMAND. -/
def HanucaReq.register (r : HanucaReq) : Bool := decide (1 ≤ r.typ ∧ r.typ ≤ 3)

/-- The bytes that a LOG_READ asks for (R143). -/
def HanucaReq.logLen (r : HanucaReq) : Nat := if r.typ = Typ.logRead then r.w 3 % 2 ^ 16 else 0

/-- The lane and the partition that a LOG_OPEN names (R143). -/
def HanucaReq.logLane (r : HanucaReq) : Lane := if r.w 0 % 2 ^ 8 = 1 then .b else .a
def HanucaReq.logPart (r : HanucaReq) : Nat := r.w 0 / 2 ^ 8 % 2 ^ 8

/-- Whether a request can be parsed and keeps every length and alignment limit (R135, R137, R141, R143). A LOG_OPEN whose lane
byte names no lane and an EVENT_CTRL whose action R141 does not list cannot be parsed (DESIGN CHOICE, log entries 106, 107). -/
def HanucaReq.wellFormed (r : HanucaReq) : Bool :=
  r.ver == 1 &&
  match r.typ with
  | 1 => decide (r.len = 20 ∧ 1 ≤ r.count ∧ r.count ≤ 64 ∧ r.off % 4 = 0 ∧ r.off + 4 * r.count ≤ 0x1000)
  | 2 => decide (r.len = 20 + 4 * r.count ∧ 1 ≤ r.count ∧ r.count ≤ 64 ∧ r.off % 4 = 0 ∧ r.off + 4 * r.count ≤ 0x1000)
      && r.words.length == r.count
  | 3 => r.len == 32 && r.count == 0 && r.words.length == 3
  | 4 => r.len == 12
  | 5 => r.len == 20 && decide (r.w 0 % 2 ^ 8 ≤ 2)
  | 6 => r.len == 36 && decide (r.w 0 % 2 ^ 8 ≤ 1)
  | 7 => r.len == 26 && decide (1 ≤ r.logLen ∧ r.logLen ≤ 1024)
  | 8 => r.len == 16
  | _ => false

/-- The header of a reply of a given length (R135). -/
def replyHead (k : Nat) (r : HanucaReq) (len disp hint : Nat) : List Nat := hanucaHead (r.typ + 0x80) len r.reqNo k disp hint

/-- The reply to a READ, WRITE or COMMAND (R137). -/
def pageReply (k : Nat) (r : HanucaReq) (result st : Nat) (words : List Nat) (disp : Nat := Disp.served) (hint : Nat := 0) : OutMsg :=
  { kind := .reply
    words := replyHead k r (20 + 4 * words.length) disp hint ++ [r.page, r.count, r.off, r.gen, result, st] ++ words }

/-- The reply to a LOG_OPEN and to a LOG_READ (R143). -/
def openReply (k : Nat) (r : HanucaReq) (result handle bytes : Nat) (disp : Nat := Disp.served) (hint : Nat := 0) : OutMsg :=
  { kind := .logReply, words := replyHead k r 32 disp hint ++ [result, handle, bytes] }
def readReply (k : Nat) (r : HanucaReq) (result last : Nat) (data : List Nat) (disp : Nat := Disp.served) (hint : Nat := 0) : OutMsg :=
  { kind := .logReply
    words := replyHead k r (28 + data.length) disp hint ++ [r.w 0, r.w64 1, data.length, result, last] ++ data }

/-- The reply that carries a decision and no content. -/
def bareReply (k : Nat) (r : HanucaReq) (disp hint result st : Nat) : OutMsg :=
  if r.register then pageReply k r result st [] disp hint
  else if r.typ = Typ.logOpen then openReply k r result 0 0 disp hint
  else if r.typ = Typ.logRead then readReply k r result 0 [] disp hint
  else { kind := .reply, words := replyHead k r 12 disp hint }

/-- Whether the part that serves a page is not running and R95 does not provide for it (R146). -/
def State.partDown (s : State) (page : Nat) : Bool :=
  if (pageKind page).owned then decide (s.laneState (laneNum (s.owner page)) < 2)
  else if page = 0x03 ∨ page = 0x0A ∨ page = 0x0B then decide (s.laneState .a < 2) && decide (s.laneState .b < 2)
  else if mgmtPage page then !s.mgmtRuns
  else
    match laneOfPage? page with
    | some l => decide (s.laneState l < 2) && !s.mgmtRuns
    | none => false

/-- `n` words read in ascending offset (R138). -/
def State.readWords (s : State) (page off code : Nat) : Nat → State × List Nat
  | 0 => (s, [])
  | n + 1 =>
    let (w, s) := s.readReg page off code
    let (s, ws) := s.readWords page (off + 4) code n
    (s, w.toNat :: ws)

/-- A READ served (R55, R137, R138): generation, rights, then the words. -/
def State.serveRead (s : State) (k : Nat) (r : HanucaReq) : State × OutMsg :=
  let code := 4 + k
  let st := s.pstate r.page
  if !pageUsed r.page then (s, pageReply k r RC.done 0 (List.replicate r.count 0))
  else if r.gen ≠ 0 ∧ r.gen ≠ s.gen r.page then (s, pageReply k r RC.generation st [])
  else if !s.hostRight code r.page Right.read then (s, pageReply k r RC.rights st [])
  else
    let (s, ws) := s.readWords r.page r.off code r.count
    (s, pageReply k r RC.done st ws)

/-- The writes of a WRITE message in ascending offset (R137, R138). -/
def HanucaReq.writes (r : HanucaReq) (k : Nat) : List WriteReq :=
  (List.range r.count).map fun i => ⟨4 + k, r.gen, r.page, r.off + 4 * i, r.words.getD i 0⟩

/-- The checks of one word of a WRITE that come before any word moves (R55, R138): those of the register's class, and of the
requester's bank, or of a word that ignores writes, only the generation (R4, R5, R45, R147). -/
def State.messageVerdict (s : State) (w : WriteReq) : Nat :=
  if w.off = 0x30 ∨ w.off = 0x34 ∨ w.off = 0x38 then
    if s.retired then RC.state else if w.gen ≠ s.gen w.page then RC.generation else 0
  else
    let v := s.writeVerdict w
    if v = RC.ignored then s.quietVerdict w
    else if v ≠ 0 then v
    else if w.off = 0x1C ∧ s.flag w.page Hd.PAGE_LOCK_LOCK ∧ s.fld w.page Hd.PAGE_LOCK_LOCKED_BY ≠ w.code then RC.rights
    else 0

/-- Whether the refusal of a word raises no event: it is ignored, or it is an argument (R5, R45; log entry 93). -/
def quietWord (w : WriteReq) : Bool := w.off == 0x34 || w.off == 0x38 || (w.off != 0x30 && writeClass w.page w.off == .ignored)

/-- The verdict of a whole message: generation before rights, rights before owner, owner before lock (R55, R138). -/
def firstVerdict (vs : List Nat) : Nat :=
  match [RC.generation, RC.rights, RC.owner].find? fun v => vs.contains v with
  | some v => v
  | none => (vs.find? (· != 0)).getD 0

/-- The result that the words of a message have been answered with so far and the one just given: the first that is a
refusal stands. -/
def foldResult (r got : Nat) : Nat :=
  let g := got % 256
  if r ≠ 0 ∨ g < 3 then r else g

/-- What a register answered last to a requester's write of a page, 0x00 where it answered nothing. -/
def writeAnswer (ms : List OutMsg) : Nat :=
  (ms.foldl (fun v m =>
    match m.kind with
    | .writeReply => some (m.words.getD 3 0)
    | .cmdReply => some (m.words.getD 2 0 % 256)
    | _ => v) (none : Option Nat)).getD 0

/-- The words of a message written one after another; each is decided by its register. -/
def State.writeWords (s : State) (env : ReqEnv) : List WriteReq → Nat → State × Nat
  | [], r => (s, r)
  | w :: rest, r =>
    let s1 := ((s.putOut ([])) : State).anyWrite w env.found env.us
    let s2 : State := (s1.putOut (s.out ++ s1.out))
    s2.writeWords env rest (foldResult r (writeAnswer s1.out))

/-- The block words of a message (R138): CLAMPED is raised once for all of them, however many words clamp a field. -/
def State.writeOnce (s : State) (page : Nat) (env : ReqEnv) (ws : List WriteReq) (r : Nat) : State × Nat :=
  let ena := bitAt (s.fld page Hd.EVT_ENA) 13
  let pend := bitAt (s.fld page Hd.EVT_PEND) 13
  let s := s.setFld page Hd.EVT_ENA (setBit (s.fld page Hd.EVT_ENA) 13 false)
  let s := s.setFld page Hd.EVT_PEND (setBit (s.fld page Hd.EVT_PEND) 13 false)
  let (s, r) := s.writeWords env ws r
  let clamped := bitAt (s.fld page Hd.EVT_PEND) 13
  let s := s.setFld page Hd.EVT_ENA (setBit (s.fld page Hd.EVT_ENA) 13 ena)
  let s := s.setFld page Hd.EVT_PEND (setBit (s.fld page Hd.EVT_PEND) 13 pend)
  (if clamped then s.raise page 13 else s, r)

/-- A WRITE served (R55, R138): checked once, refused as a whole, or written word by word. -/
def State.serveWrite (s : State) (k : Nat) (r : HanucaReq) (env : ReqEnv) : State × OutMsg :=
  let ws := r.writes k
  let st := s.pstate r.page
  if !pageUsed r.page then (s, pageReply k r RC.done 0 [])
  else
    let v := firstVerdict (ws.map s.messageVerdict)
    if v ≠ 0 then (if ws.all quietWord then s else s.raise r.page 14, pageReply k r v st [])
    else
      let (s, a) := s.writeWords env (ws.filter fun w => w.off < 0x100) 0
      let (s, b) := s.writeOnce r.page env (ws.filter fun w => 0x100 ≤ w.off) a
      (s, pageReply k r b st [])

/-- The CMD_RESULT word with which a page answered a command (R48). -/
def commandAnswer (ms : List OutMsg) : Nat :=
  (ms.foldl (fun v m => if m.kind = .cmdReply then some (m.words.getD 2 0) else v) (none : Option Nat)).getD 0

/-- A COMMAND served (R139): CMD_ARG0, CMD_ARG1 and CMD of the sender's bank as one request. -/
def State.serveCommand (s : State) (k : Nat) (r : HanucaReq) (env : ReqEnv) : State × OutMsg :=
  let cmd : WriteReq := ⟨4 + k, r.gen, r.page, 0x30, r.words.getD 2 0⟩
  let bank := pageUsed r.page && !s.retired && r.gen == s.gen r.page
  let s := if bank then (s.setReg r.page 0x34 (r.words.getD 0 0) (4 + k)).setReg r.page 0x38 (r.words.getD 1 0) (4 + k) else s
  let s := s.anyWrite cmd env.found env.us
  let w := commandAnswer s.out
  let result := w % 256
  (s, pageReply k r result (w / 256 % 256) [w] Disp.served (if result = RC.busy then 0xFFFF else 0))

/-- EVENT_CTRL (R141): STOP lets no more records in, START lets them in, and ACK removes every record up to ACK_SEQ; what is queued
stays until it is acknowledged. -/
def State.eventCtrl (s : State) (k : Nat) (action ack : Nat) : State :=
  let x := s.slot k
  let q := s.dest k
  match action with
  | 0 => s.setSlot k { x with streaming := false }
  | 1 => s.setSlot k { x with streaming := true }
  | _ =>
    let behind (n : Nat) : Bool := decide ((ack + 2 ^ 32 - n) % 2 ^ 32 < 2 ^ 31)
    (s.setDest k { q with recs := q.recs.filter fun r => !behind r.record.seq }).queueHigh

/-- Whether a partition of a Vat can be read (R143, R548, R559): partition 2, which the boot mounts, only with the key. -/
def State.logMounted (s : State) (l : Lane) (part : Nat) : Bool :=
  2 ≤ s.laneState l && (2 ≤ s.vatState l || (part == 2 && s.vatState l == 1)) && s.vatState l ≤ 4 && (part != 2 || s.vatSealed l)

/-- LOG_OPEN served (R143, R548, R562). -/
def State.serveLogOpen (s : State) (k : Nat) (r : HanucaReq) (env : ReqEnv) : State × OutMsg :=
  let l := r.logLane
  let part := r.logPart
  let x := s.slot k
  if !s.hostRight (4 + k) (vatPage l) Right.read then (s, openReply k r RC.rights 0 0)
  else if 4 < part ∨ r.w64 3 < r.w64 1 then (s, openReply k r RC.range 0 0)
  else if !s.logMounted l part then (s, openReply k r RC.state 0 0)
  else if 4 ≤ x.handles.length then (s, openReply k r RC.busy 0 0)
  else
    let s := s.readFinds l part env
    let picks := (s.vat l).select part s.lc.vatKeyGen (r.w64 1) (r.w64 3) (r.w 5)
    let bytes := picks.foldl (fun n p => n + p.2.2) 0
    let x := s.slot k
    let h : LogHandle := ⟨x.nextHandle, l, part, picks, bytes, s.now⟩
    let s := s.setSlot k { x with handles := x.handles ++ [h], nextHandle := (x.nextHandle + 1) % 2 ^ 32 }
    (s, openReply k r RC.done h.handle bytes)

/-- A handle of a session replaced. -/
def State.putHandle (s : State) (k : Nat) (h : LogHandle) : State :=
  let x := s.slot k
  s.setSlot k { x with handles := x.handles.map fun y => if y.handle = h.handle then h else y }

/-- A handle of a session closed (R136). -/
def State.closeHandle (s : State) (k handle : Nat) : State :=
  let x := s.slot k
  s.setSlot k { x with handles := x.handles.filter fun y => y.handle != handle }

/-- The bytes of a LOG_READ given out (R143). -/
def State.giveLog (s : State) (k : Nat) (r : HanucaReq) (h : LogHandle) : State × OutMsg :=
  let off := r.w64 1
  match s.selectionSlice h.lane h.part h.picks off r.logLen with
  | none => (s.closeHandle k h.handle, readReply k r RC.aborted 0 [])
  | some data =>
    let v := (s.vat h.lane).tick (s.now / 1000000000) 0 data.length
    let s := (s.setVat h.lane v).putHandle k { h with lastUse := s.now }
    (s, readReply k r RC.done (bool01 (decide (h.bytes ≤ off + data.length))) data)

/-- LOG_READ served (R143, R548): what the Vat has overwritten closes the handle. -/
def State.serveLogRead (s : State) (k : Nat) (r : HanucaReq) (env : ReqEnv) : State × OutMsg :=
  match (s.slot k).handles.find? fun h => h.handle == r.w 0 with
  | none => (s, readReply k r RC.range 0 [])
  | some h =>
    if h.bytes < r.w64 1 then (s, readReply k r RC.range 0 [])
    else if !s.logMounted h.lane h.part then (s, readReply k r RC.state 0 [] Disp.fabric)
    else if !s.selectionHeld h then (s.closeHandle k h.handle, readReply k r RC.aborted 0 [])
    else
      let s := s.readFinds h.lane h.part env
      let picks := (s.vat h.lane).keepReadable h.part s.lc.vatKeyGen h.picks
      let h := { h with picks := picks, bytes := picks.foldl (fun n p => n + p.2.2) 0 }
      s.giveLog k r h

/-- A request served by its part (R136): what it does and its reply. `s.out` is empty before it and holds what was sent
beside the reply after it. -/
def State.respond (s : State) (k : Nat) (r : HanucaReq) (env : ReqEnv) : State × OutMsg :=
  match r.typ with
  | 1 => if s.partDown r.page then (s, bareReply k r Disp.fabric 0 RC.state 0) else s.serveRead k r
  | 2 => if s.partDown r.page then (s, bareReply k r Disp.fabric 0 RC.state 0) else s.serveWrite k r env
  | 3 => if s.partDown r.page then (s, bareReply k r Disp.fabric 0 RC.state 0) else s.serveCommand k r env
  | 5 => (s.eventCtrl k (r.w 0 % 2 ^ 8) (r.w 1), bareReply k r Disp.served 0 0 0)
  | 6 => s.serveLogOpen k r env
  | 7 => s.serveLogRead k r env
  | 8 => (s.closeHandle k (r.w 0), bareReply k r Disp.served 0 0 0)
  | _ => (s, bareReply k r Disp.served (s.outstanding k) 0 0)

end Sys2Proof.Machine
end

