-- ==== Sys2Proof/Machine/Hanuca.lean ====
section
/-! DEFINITION. Hanuca requests as they arrive (R131-R136, R144, R151-R154, R579): their order, the window, the
allowances, management's queue, and the handshake. -/

namespace Sys2Proof.Machine

/-- The interval and second totals of the fabric brought to the present instant (R152, R159). -/
def State.fabricClock (s : State) : State :=
  let h := s.host
  let ms := s.now / 1000000
  let sec := s.now / 1000000000
  let h := if h.interval = ms then h else { h with interval := ms, intervalReqs := 0, intervalData := 0 }
  let h :=
    if h.second = sec then h
    else
      let next := h.second + 1 = sec
      { h with second := sec, secondReqs := 0, secondData := 0, lastReqs := if next then h.secondReqs else 0,
               lastData := if next then h.secondData else 0 }
  (s.putHost (h))

/-- A session's buckets filled up to the present instant (R152). -/
def Session.refill (x : Session) (now rate data : Nat) : Session :=
  let dt := now - x.tokAt
  { x with reqTok := min reqDepth (x.reqTok + dt * rate), dataTok := min dataDepth (x.dataTok + dt * data), tokAt := now }

/-- The milliseconds until `missing` thousand-millionths of a token have come at a rate, rounded up, at least 1 (R153). -/
def hintMs (missing rate : Nat) : Nat :=
  let ns := (missing + rate - 1) / rate
  max 1 ((ns + 999999) / 1000000)

/-- The share of the interval's register requests and of its LOG_READ bytes below which a class is admitted (R152). -/
def shareReqs (c : Nat) : Nat := 20 - 4 * c
def shareData (c : Nat) : Nat := 100000 - 20000 * c

/-- A refusal by the fabric counted (R154): BUSY_COUNT, and HOST_THROTTLED at most once per second per slot. -/
def State.throttle (s : State) (k : Nat) : State :=
  let s := s.bump 6 Ss.BUSY_COUNT k
  let h := s.host
  let quiet := match h.throttled.rd none k with
    | some a => decide (s.now < a + 1000000000)
    | none => false
  if quiet then s else (s.putHost { h with throttled := h.throttled.wr none k (some s.now) }).raise 6 5 k

/-- A request refused by the fabric (R153, R154): the page does not see it. -/
def State.fabricRefuse (s : State) (k : Nat) (r : HanucaReq) (hint : Nat) : State :=
  (s.throttle k).tell k (bareReply k r Disp.fabric hint RC.busy 0)

/-- A request to pages 0x70 to 0x74 refused because management cannot take it (R579). -/
def State.mgmtRefuse (s : State) (k : Nat) (r : HanucaReq) : State :=
  let s := s.bump 0x70 Mg.REFUSED_HOST
  let m := s.mgmt
  let quiet := match m.refusedAt with
    | some a => decide (s.now < a + 1000000000)
    | none => false
  let s :=
    if quiet then (s.putMgmt { m with refused := m.refused + 1 })
    else ((s.putMgmt { m with refused := 0, refusedAt := some s.now }) : State).raise 0x70 3 (m.refused + 1)
  s.fabricRefuse k r 100

/-- Whether a request goes to the queue of host management requests (R579). -/
def HanucaReq.toMgmt (r : HanucaReq) : Bool := r.register && decide (0x70 ≤ r.page ∧ r.page ≤ 0x74)

/-- The requests that the management queue must still take (R144, R579). -/
def State.mgmtHeld (s : State) : Nat :=
  (List.range 4).foldl (fun n k => n + ((s.slot k).held.filter fun h => h.req.toMgmt).length) s.mgmt.queue.length

/-- Whether management cannot take one more request (R579). -/
def State.mgmtFull (s : State) : Bool :=
  decide (16 ≤ s.mgmtHeld) || (s.flag 0x70 Mg.MGMT_LOAD_REFUSING && s.mgmtHeld != 0)

/-- A reply kept for repeats (R144): the last 64. -/
def Session.keep (x : Session) (n : Nat) (m : OutMsg) : Session :=
  let ks := x.kept ++ [⟨n, m⟩]
  { x with kept := ks.drop (ks.length - 64) }

/-- Whether a message answers a single write or command of a host; a reply of Hanuca stands in its place. -/
def OutMsg.pageAnswer (m : OutMsg) (code : Nat) : Bool :=
  (m.kind == .writeReply || m.kind == .cmdReply) && m.words.headD 0 == code

/-- What is sent after what has been sent. -/
def State.addOut (s : State) (ms : List OutMsg) : State := s.putOut (s.out ++ ms)

/-- A request served and answered (R138, R144): counted, its reply sent before what else it caused, and kept while the
session lasts. -/
def State.answer (s : State) (k : Nat) (r : HanucaReq) (env : ReqEnv) : State :=
  let before := s.out
  let s := s.bump 6 Ss.REQUESTS k
  let s1 : State := (s.putOut []).putHost { s.host with serving := some r.reqNo }
  let (s2, m) := s1.respond k r env
  let beside := s2.out.filter fun x => !x.pageAnswer (4 + k)
  let x := s.slot k
  let s3 : State := (((s2.putOut before).sendOn x.port x.ip x.udp m).addOut beside).putHost { s2.host with serving := none }
  let s4 := if m.disposition = Disp.fabric then s3.throttle k else s3
  let x := s4.slot k
  if x.active then s4.setSlot k (x.keep r.reqNo m) else s4

/-- A request whose turn has come (R144, R146, R579): pages 0x70 to 0x74 wait in the queue of management. -/
def State.serve (s : State) (k : Nat) (r : HanucaReq) (env : ReqEnv) : State :=
  if r.toMgmt && s.mgmtRuns then
    let q := s.mgmt.queue ++ [(k, r)]
    let s : State := (s.putMgmt { s.mgmt with queue := q })
    let s := s.setFld 0x70 Mg.HOST_QUEUE_DEPTH q.length
    if s.fld 0x70 Mg.HOST_QUEUE_HWM < q.length then s.setFld 0x70 Mg.HOST_QUEUE_HWM q.length else s
  else s.answer k r env

/-- E moves on by one (R144). -/
def State.nextExpected (s : State) (k : Nat) (e : Nat) : State :=
  let x := s.slot k
  s.setSlot k { x with expected := some ((e + 1) % 2 ^ 32) }

/-- Held requests served in turn from E on (R144). -/
def State.serveHeld (s : State) (k : Nat) (env : ReqEnv) : Nat → State
  | 0 => s
  | n + 1 =>
    let x := s.slot k
    match x.expected with
    | none => s
    | some e =>
      match x.held.find? fun h => h.req.reqNo == e with
      | none => s
      | some h =>
        let s := (s.setSlot k { x with held := x.held.filter fun y => y.req.reqNo != e }).serve k h.req env
        if (s.slot k).active then (s.nextExpected k e).serveHeld k env n else s

/-- An admitted request takes its tokens and counts in the totals (R152, R153). -/
def State.takeTokens (s : State) (k : Nat) (r : HanucaReq) : State :=
  let x := s.slot k
  let n := bool01 r.register
  let s := s.setSlot k { x with reqTok := x.reqTok - 1000000000, dataTok := x.dataTok - r.logLen * 1000000000 }
  let h := s.host
  (s.putHost { h with intervalReqs := h.intervalReqs + n, intervalData := h.intervalData + r.logLen,
                            secondReqs := h.secondReqs + n, secondData := h.secondData + r.logLen })

/-- The checks of R153 from the credit window on: what refuses the request, if anything does: none for management,
otherwise the HINT. -/
def State.gate (s : State) (k : Nat) (r : HanucaReq) : Option (Option Nat) :=
  let x := s.slot k
  let c := s.roleClass x.role
  let tok := 1000000000
  let data := r.logLen * 1000000000
  if 32 ≤ s.outstanding k then some (some 2)
  else if x.reqTok < tok then some (some (hintMs (tok - x.reqTok) (classRate c)))
  else if x.dataTok < data then some (some (hintMs (data - x.dataTok) (classData c)))
  else if r.register && decide (shareReqs c ≤ s.host.intervalReqs) then some (some 10)
  else if r.typ = Typ.logRead ∧ (shareData c ≤ s.host.intervalData ∨ shareData 0 < s.host.intervalData + r.logLen) then some (some 10)
  else if r.toMgmt && s.mgmtFull then some none
  else none

/-- A request with a number that is due or may be held (R144): the checks from the credit window on, then service or a wait. -/
def State.admitReq (s : State) (k : Nat) (r : HanucaReq) (env : ReqEnv) (e : Nat) : State :=
  let c := s.roleClass (s.slot k).role
  let s := (s.fabricClock).setSlot k ((s.slot k).refill s.now (classRate c) (classData c))
  match s.gate k r with
  | some (some hint) => s.fabricRefuse k r hint
  | some none => s.mgmtRefuse k r
  | none =>
    let s := s.takeTokens k r
    if r.reqNo = e then
      let s := s.serve k r env
      if (s.slot k).active then (s.nextExpected k e).serveHeld k env 32 else s
    else
      let x := s.slot k
      s.setSlot k { x with held := x.held ++ [⟨r, s.now⟩] }

/-- A kept reply sent again (R144): disposition REPEAT. -/
def KeptReply.again (a : KeptReply) : OutMsg := { a.msg with words := a.msg.words.set 5 Disp.repeat_ }

/-- A request below E (R144): its kept reply again, SKIPPED where it was declared lost, otherwise UNKNOWN; one that still
waits for management is discarded. -/
def State.pastReq (s : State) (k : Nat) (r : HanucaReq) (back : Nat) : State :=
  let x := s.slot k
  if 64 < back then s.tell k (bareReply k r Disp.unknown 0 0 0)
  else if x.lost.contains r.reqNo then s.tell k (bareReply k r Disp.skipped 0 0 0)
  else if s.mgmt.queue.any fun q => q.1 == k && q.2.reqNo == r.reqNo then s
  else
    match x.kept.find? fun a => a.reqNo == r.reqNo with
    | some a => s.tell k a.again
    | none => s.tell k (bareReply k r Disp.unknown 0 0 0)

/-- A request placed by its number (R144). -/
def State.placeReq (s : State) (k : Nat) (r : HanucaReq) (env : ReqEnv) : State :=
  let x := s.slot k
  let e := x.expected.getD r.reqNo
  let s := s.setSlot k { x with expected := some e }
  let d := (r.reqNo + 2 ^ 32 - e) % 2 ^ 32
  if 2 ^ 31 ≤ d then s.pastReq k r (2 ^ 32 - d)
  else if 32 ≤ d then s.fabricRefuse k r 2
  else if x.held.any fun h => h.req.reqNo == r.reqNo then s
  else s.admitReq k r env e

/-- The port at which a datagram of a slot arrives: the session's, or, where there is none, the one it came to. -/
def State.portOf (s : State) (k : Nat) (c : Carrier) : Nat := if (s.slot k).active then (s.slot k).port else c.port % 5

/-- A session whose keys are an hour old takes new ones before its next message (R131; DESIGN CHOICE, log entry 111). -/
def State.freshKeys (s : State) (k : Nat) : State :=
  let x := s.slot k
  if s.now < x.keyAt + 3600000000000 then s else (s.setSlot k { x with keyAt := s.now }).tell k (dtls x.port 3)

/-- The datagram of a session has come to its port and passed (R134, R156). -/
def State.datagram (s : State) (k : Nat) (c : Carrier) : State :=
  let s := s.bump 5 Pt.RX_FRAMES (s.portOf k c)
  (s.setSlot k { s.slot k with lastDatagram := s.now }).freshKeys k

/-- What becomes of a datagram that no session takes (R127, R156): counted where it fails the frame check, ignored on another
VLAN, and discarded as a fragment, without a session, or as a DTLS record that fails. -/
def State.discard (s : State) (k : Nat) (c : Carrier) : State :=
  let p := s.portOf k c
  if c.fcsBad then s.bump 5 Pt.RX_ERRORS p
  else
    let s := s.bump 5 Pt.RX_FRAMES p
    if bitsOf (s.portCfg p) Pt.PORT_CFG_VLAN_ID.hi Pt.PORT_CFG_VLAN_ID.lo ≠ c.vlan then s else s.bump 5 Pt.DROPPED p

/-- Whether a session takes a datagram (R127, R131, R134, R156). -/
def State.takes (s : State) (k : Nat) (c : Carrier) : Bool :=
  (s.slot k).active && !c.fcsBad && !c.fragment && !c.forged
    && bitsOf (s.portCfg (s.slot k).port) Pt.PORT_CFG_VLAN_ID.hi Pt.PORT_CFG_VLAN_ID.lo == c.vlan

/-- A Hanuca request arrives from the session of a slot (R134, R135, R153, R156). -/
def State.receive (s : State) (k : Nat) (r : HanucaReq) (env : ReqEnv) : State :=
  let r := { r with reqNo := r.reqNo % 2 ^ 32 }
  if !s.takes k r.carrier then s.discard k r.carrier
  else
    let s := s.datagram k r.carrier
    if !r.wellFormed then (s.bump 5 Pt.DROPPED (s.slot k).port).tell k (bareReply k r Disp.malformed 0 0 0)
    else s.placeReq k r env

/-- READ (R137, R138). -/
def execHanucaRead (t : Nat) (slot : Fin 4) (req : HanucaReq) (env : ReqEnv) (s : State) : Host.Outcome State Fault Refusal :=
  .next ((s.start t).receive slot.val { req with typ := Typ.read } env)

/-- WRITE (R137, R138). -/
def execHanucaWrite (t : Nat) (slot : Fin 4) (req : HanucaReq) (env : ReqEnv) (s : State) : Host.Outcome State Fault Refusal :=
  .next ((s.start t).receive slot.val { req with typ := Typ.write } env)

/-- COMMAND (R137, R139). -/
def execHanucaCommand (t : Nat) (slot : Fin 4) (req : HanucaReq) (env : ReqEnv) (s : State) : Host.Outcome State Fault Refusal :=
  .next ((s.start t).receive slot.val { req with typ := Typ.command } env)

/-- HANUCA_NOP (R136). -/
def execHanucaNop (t : Nat) (slot : Fin 4) (req : HanucaReq) (env : ReqEnv) (s : State) : Host.Outcome State Fault Refusal :=
  .next ((s.start t).receive slot.val { req with typ := Typ.nop } env)

/-- An EVENT_CTRL request with its action (R141). -/
def HanucaReq.action (r : HanucaReq) (a : Nat) : HanucaReq :=
  { r with typ := Typ.eventCtrl, words := [BitVec.ofNat 32 a, r.words.getD 1 0] }

/-- EVENT_CTRL_STOP (R141). -/
def execEventCtrlStop (t : Nat) (slot : Fin 4) (req : HanucaReq) (env : ReqEnv) (s : State) : Host.Outcome State Fault Refusal :=
  .next ((s.start t).receive slot.val (req.action 0) env)

/-- EVENT_CTRL_START (R141). -/
def execEventCtrlStart (t : Nat) (slot : Fin 4) (req : HanucaReq) (env : ReqEnv) (s : State) : Host.Outcome State Fault Refusal :=
  .next ((s.start t).receive slot.val (req.action 1) env)

/-- EVENT_CTRL_ACK (R141). -/
def execEventCtrlAck (t : Nat) (slot : Fin 4) (req : HanucaReq) (env : ReqEnv) (s : State) : Host.Outcome State Fault Refusal :=
  .next ((s.start t).receive slot.val (req.action 2) env)

/-- LOG_OPEN (R143, R562). -/
def execLogOpen (t : Nat) (slot : Fin 4) (req : HanucaReq) (env : ReqEnv) (s : State) : Host.Outcome State Fault Refusal :=
  .next ((s.start t).receive slot.val { req with typ := Typ.logOpen } env)

/-- LOG_READ (R143). -/
def execLogRead (t : Nat) (slot : Fin 4) (req : HanucaReq) (env : ReqEnv) (s : State) : Host.Outcome State Fault Refusal :=
  .next ((s.start t).receive slot.val { req with typ := Typ.logRead } env)

/-- LOG_CLOSE (R136). -/
def execLogClose (t : Nat) (slot : Fin 4) (req : HanucaReq) (env : ReqEnv) (s : State) : Host.Outcome State Fault Refusal :=
  .next ((s.start t).receive slot.val { req with typ := Typ.logClose } env)

/-- SESSION_END (R134, R145): the host ends its session. -/
def execSessionEnd (t : Nat) (slot : Fin 4) (s : State) : Host.Outcome State Fault Refusal :=
  .next ((s.start t).endSession slot.val Reason.hostClosed)

/-- The instant at which the oldest held request of a session arrived (R144). -/
def Session.oldest (x : Session) : Option Nat :=
  x.held.foldl (fun m h => some (match m with | some a => min a h.since | none => h.since)) none

/-- How far the lowest held number lies above E (R144). -/
def Session.gapTo (x : Session) (e : Nat) : Nat :=
  x.held.foldl (fun m h => min m ((h.req.reqNo + 2 ^ 32 - e) % 2 ^ 32)) 32

/-- REQ_HOLD_TIMEOUT (R144): E has not arrived 10 ms after the oldest held request, so the numbers missing up to the lowest
held one are declared lost, and what is held from there on is served. -/
def execReqHoldTimeout (t : Nat) (slot : Fin 4) (env : ReqEnv) (s : State) : Host.Outcome State Fault Refusal :=
  let s := s.start t
  let k := slot.val
  let x := s.slot k
  .next <|
    match x.expected, x.oldest with
    | some e, some since =>
      if s.now < since + 10000000 then s
      else
        let n := x.gapTo e
        let lost := x.lost ++ (List.range n).map fun i => (e + i) % 2 ^ 32
        let x := { x with expected := some ((e + n) % 2 ^ 32), lost := lost.drop (lost.length - 64) }
        ((s.setSlot k x).bump 6 Ss.SKIPPED_COUNT k 0 n).serveHeld k env 32
    | _, _ => s

/-- Management takes the request at the front of its queue and answers it (R579). -/
def State.mgmtServe (s : State) (env : ReqEnv) : State :=
  match s.mgmt.queue with
  | [] => s
  | (k, r) :: rest =>
    let s : State := (s.putMgmt { s.mgmt with queue := rest })
    (s.setFld 0x70 Mg.HOST_QUEUE_DEPTH rest.length).answer k r env

/-- HOST_MGMT_REQUEST (R579): a host request to pages 0x70 to 0x74 arrives and is queued or refused; or, where none
arrives, management takes the request at the front of its queue. -/
def execHostMgmtRequest (t : Nat) (arrives : Option (Fin 4 × HanucaReq)) (env : ReqEnv) (s : State) :
    Host.Outcome State Fault Refusal :=
  let s := s.start t
  .next <|
    match arrives with
    | some x => s.receive x.1.val x.2 env
    | none => s.mgmtServe env

/-- The first check of R133 and R132 that a host certificate fails on a port, 0 for none: 1 chain, 2 deny list, 3 role,
4 validity period, 5 role not allowed on the port (R128, R132, R159, R609). -/
def State.certCheck (s : State) (port : Nat) (c : HostCert) : Nat :=
  let trusted :=
    if c.factory then s.flag 0x74 Lc.ANCHORS_FACTORY && port == 4 && c.role == 3 else s.flag 0x74 Lc.ANCHORS_HOST
  let denied := s.lc.deny.contains (c.digest % 2 ^ 128)
  let expired := !s.clockUnset && (decide (c.notAfter < s.time) || decide (s.time < c.notBefore))
  if c.fails = 1 ∨ !trusted then 1
  else if c.fails = 2 ∨ denied then 2
  else if c.fails = 3 ∨ 3 < c.role then 3
  else if (c.fails = 4 ∧ !s.clockUnset) ∨ expired then 4
  else if (c.role == 3) != (port == 4) then 5
  else 0

/-- A failed handshake (R132): counted, remembered, and AUTH_FAILED raised; the host is told the reason AUTH_FAILED of R145 (log
entry 35). -/
def State.authFailed (s : State) (port ip udp check : Nat) : State :=
  let s := s.sendOn port ip udp (sessionEndMsg 0xFF Reason.authFailed)
  let s := s.bump 6 Ss.AUTH_FAIL_COUNT
  let s := (s.setFld 6 Ss.LAST_AUTH_FAIL_PORT port).setFld 6 Ss.LAST_AUTH_FAIL_CHECK check
  s.raise 6 4 (port * 2 ^ 8 + check)

/-- HANDSHAKE_COMPLETE (R131-R133): the certificate of a handshake in progress is checked, and its session is given a slot
or refused. -/
def execHandshakeComplete (t : Nat) (port : Fin 5) (cert : HostCert) (s : State) : Host.Outcome State Fault Refusal :=
  let s := s.start t
  let p := port.val
  let mine (h : Handshake) : Bool := h.port == p && h.ip == cert.ip && h.udp == cert.udp
  .next <|
    if !s.host.handshakes.any mine then s
    else
      let hs := s.host.handshakes.filter fun h => !mine h
      let s : State := (s.putHost { s.host with handshakes := hs })
      let bad := s.certCheck p cert
      if bad ≠ 0 then s.authFailed p cert.ip cert.udp bad
      else
        let x : Session := { subject := cert.subject, role := cert.role, port := p, ip := cert.ip, udp := cert.udp,
                             notBefore := cert.notBefore, notAfter := cert.notAfter, unverified := s.clockUnset,
                             factory := cert.factory }
        s.admitSession x (cert.digest % 2 ^ 32)

end Sys2Proof.Machine
end

