-- ==== Sys2Proof/Machine/Dispatch.lean ====
section
/-! DEFINITION. One arm per command. -/

namespace Sys2Proof.Machine

/-- The effect of a command on everything but the queue. -/
def exec (i : Instr) (s : State) : Host.Outcome State Fault Refusal :=
  match i with
  | .configWrite t w found us => Sys2Proof.Machine.execConfigWrite t w found us s
  | .cmdArgWrite t w => Sys2Proof.Machine.execCmdArgWrite t w s
  | .evtPendClear t w => Sys2Proof.Machine.execEvtPendClear t w s
  | .pageLockWrite t w => Sys2Proof.Machine.execPageLockWrite t w s
  | .blockReset t q => Sys2Proof.Machine.execBlockReset t q s
  | .clampClear t q => Sys2Proof.Machine.execClampClear t q s
  | .evtTest t q => Sys2Proof.Machine.execEvtTest t q s
  | .nop t q => Sys2Proof.Machine.execNop t q s
  | .fabricDistribute t => Sys2Proof.Machine.execFabricDistribute t s
  | .gapRecord t d => Sys2Proof.Machine.execGapRecord t d s
  | .fabricCountersClear t q => Sys2Proof.Machine.execFabricCountersClear t q s
  | .profileWrite t code gen reg value => Sys2Proof.Machine.execProfileWrite t code gen reg value s
  | .profileApply t q => Sys2Proof.Machine.execProfileApply t q s
  | .rtcSet t q => Sys2Proof.Machine.execRtcSet t q s
  | .timeSync t port domain delayNs gmId gmTime => Sys2Proof.Machine.execTimeSync t port domain delayNs gmId gmTime s
  | .holdoverExpiry t => Sys2Proof.Machine.execHoldoverExpiry t s
  | .cycleBoundary t l x => Sys2Proof.Machine.execCycleBoundary t l x s
  | .exchangeDeadline t l => Sys2Proof.Machine.execExchangeDeadline t l s
  | .receiptDeadline t l => Sys2Proof.Machine.execReceiptDeadline t l s
  | .exchangeFrame t l c => Sys2Proof.Machine.execExchangeFrame t l c s
  | .receiptFrame t l c => Sys2Proof.Machine.execReceiptFrame t l c s
  | .compareFrame t l c => Sys2Proof.Machine.execCompareFrame t l c s
  | .markFrame t c => Sys2Proof.Machine.execMarkFrame t c s
  | .idleFrame t l k c => Sys2Proof.Machine.execIdleFrame t l k c s
  | .helloFrame t l c => Sys2Proof.Machine.execHelloFrame t l c s
  | .joinFrame t l c x => Sys2Proof.Machine.execJoinFrame t l c x s
  | .mirrorFrame t l c => Sys2Proof.Machine.execMirrorFrame t l c s
  | .agreeReady t l c => Sys2Proof.Machine.execAgreeReady t l c s
  | .agreeCommit t c => Sys2Proof.Machine.execAgreeCommit t c s
  | .agreeConsent t c => Sys2Proof.Machine.execAgreeConsent t c s
  | .agreeConfirm t c => Sys2Proof.Machine.execAgreeConfirm t c s
  | .linkSignalDetect t l k => Sys2Proof.Machine.execLinkSignalDetect t l k s
  | .linkTrainDone t l k => Sys2Proof.Machine.execLinkTrainDone t l k s
  | .linkTimeout t l k burst => Sys2Proof.Machine.execLinkTimeout t l k burst s
  | .freqLimit t => Sys2Proof.Machine.execFreqLimit t s
  | .freqLimitClear t => Sys2Proof.Machine.execFreqLimitClear t s
  | .bootComplete t l => Sys2Proof.Machine.execBootComplete t l s
  | .bootWaitExpiry t l => Sys2Proof.Machine.execBootWaitExpiry t l s
  | .joinCommit t l => Sys2Proof.Machine.execJoinCommit t l s
  | .joinLimitExpiry t l => Sys2Proof.Machine.execJoinLimitExpiry t l s
  | .joinRetry t l => Sys2Proof.Machine.execJoinRetry t l s
  | .splitPartnerTimeout t l => Sys2Proof.Machine.execSplitPartnerTimeout t l s
  | .ackRejoin t q => Sys2Proof.Machine.execAckRejoin t q s
  | .crossingCountersClear t q => Sys2Proof.Machine.execCrossingCountersClear t q s
  | .takeoverMsWrite t w => Sys2Proof.Machine.execTakeoverMsWrite t w s
  | .ownMove t q => Sys2Proof.Machine.execOwnMove t q s
  | .ownMoveTimeout t l page => Sys2Proof.Machine.execOwnMoveTimeout t l page s
  | .releaseAll t q => Sys2Proof.Machine.execReleaseAll t q s
  | .laneResync t q => Sys2Proof.Machine.execLaneResync t q s
  | .ownOffer t q => Sys2Proof.Machine.execOwnOffer t q s
  | .ownAccept t q => Sys2Proof.Machine.execOwnAccept t q s
  | .ownWithdraw t q => Sys2Proof.Machine.execOwnWithdraw t q s
  | .ownRequest t q => Sys2Proof.Machine.execOwnRequest t q s
  | .ownArbitration t page => Sys2Proof.Machine.execOwnArbitration t page s
  | .ownRetry t l page => Sys2Proof.Machine.execOwnRetry t l page s
  | .offerExpiry t page => Sys2Proof.Machine.execOfferExpiry t page s
  | .requestExpiry t page => Sys2Proof.Machine.execRequestExpiry t page s
  | .heartbeat t l page count => Sys2Proof.Machine.execHeartbeat t l page count s
  | .heartbeatLapse t l page => Sys2Proof.Machine.execHeartbeatLapse t l page s
  | .takeover t page => Sys2Proof.Machine.execTakeover t page s
  | .powerOn t f => Sys2Proof.Machine.execPowerOn t f s
  | .resetRelease t l f => Sys2Proof.Machine.execResetRelease t l f s
  | .laneSupplyAbsent t l => Sys2Proof.Machine.execLaneSupplyAbsent t l s
  | .laneSupplyPresent t l => Sys2Proof.Machine.execLaneSupplyPresent t l s
  | .supplyLost t l => Sys2Proof.Machine.execSupplyLost t l s
  | .crossingStop t l => Sys2Proof.Machine.execCrossingStop t l s
  | .laneShutdownDone t l flushMs => Sys2Proof.Machine.execLaneShutdownDone t l flushMs s
  | .laneResetHoldEnd t l => Sys2Proof.Machine.execLaneResetHoldEnd t l s
  | .commonRailFall t => Sys2Proof.Machine.execCommonRailFall t s
  | .laneWatchdog t l => Sys2Proof.Machine.execLaneWatchdog t l s
  | .laneFatal t l code addr => Sys2Proof.Machine.execLaneFatal t l code addr s
  | .laneOvertemp t l => Sys2Proof.Machine.execLaneOvertemp t l s
  | .laneTempRecover t l => Sys2Proof.Machine.execLaneTempRecover t l s
  | .mgmtWatchdog t f => Sys2Proof.Machine.execMgmtWatchdog t f s
  | .stageSelfReset t page => Sys2Proof.Machine.execStageSelfReset t page s
  | .cellMeasure t mv => Sys2Proof.Machine.execCellMeasure t mv s
  | .motorBusPresent t b => Sys2Proof.Machine.execMotorBusPresent t b s
  | .prechargeDone t b => Sys2Proof.Machine.execPrechargeDone t b s
  | .motorBusAbsent t b => Sys2Proof.Machine.execMotorBusAbsent t b s
  | .busOvervolt t b => Sys2Proof.Machine.execBusOvervolt t b s
  | .busOvRecover t b => Sys2Proof.Machine.execBusOvRecover t b s
  | .lsRailAbsent t l => Sys2Proof.Machine.execLsRailAbsent t l s
  | .lsRailPresent t l => Sys2Proof.Machine.execLsRailPresent t l s
  | .lsRailOvervolt t l => Sys2Proof.Machine.execLsRailOvervolt t l s
  | .fieldSupplyAbsent t n => Sys2Proof.Machine.execFieldSupplyAbsent t n s
  | .fieldSupplyPresent t n => Sys2Proof.Machine.execFieldSupplyPresent t n s
  | .deviceReset t q => Sys2Proof.Machine.execDeviceReset t q s
  | .deviceResetFire t f => Sys2Proof.Machine.execDeviceResetFire t f s
  | .laneReset t q => Sys2Proof.Machine.execLaneReset t q s
  | .mgmtReset t q f => Sys2Proof.Machine.execMgmtReset t q f s
  | .powerDownPrep t q => Sys2Proof.Machine.execPowerDownPrep t q s
  | .powerDownDone t msA msB => Sys2Proof.Machine.execPowerDownDone t msA msB s
  | .fieldPowerLimit t load => Sys2Proof.Machine.execFieldPowerLimit t load s
  | .portLinkUp t port fast => Sys2Proof.Machine.execPortLinkUp t port fast s
  | .portLinkDown t port => Sys2Proof.Machine.execPortLinkDown t port s
  | .addressChanged t port addr => Sys2Proof.Machine.execAddressChanged t port addr s
  | .announce t port => Sys2Proof.Machine.execAnnounce t port s
  | .clientHello t port ip udp cookie o => Sys2Proof.Machine.execClientHello t port ip udp cookie o s
  | .handshakeComplete t port cert => Sys2Proof.Machine.execHandshakeComplete t port cert s
  | .handshakeTimeout t => Sys2Proof.Machine.execHandshakeTimeout t s
  | .sessionIdleTimeout t slot => Sys2Proof.Machine.execSessionIdleTimeout t slot s
  | .certExpiry t slot => Sys2Proof.Machine.execCertExpiry t slot s
  | .hanucaRead t slot req env => Sys2Proof.Machine.execHanucaRead t slot req env s
  | .hanucaWrite t slot req env => Sys2Proof.Machine.execHanucaWrite t slot req env s
  | .hanucaCommand t slot req env => Sys2Proof.Machine.execHanucaCommand t slot req env s
  | .hanucaNop t slot req env => Sys2Proof.Machine.execHanucaNop t slot req env s
  | .eventCtrlStop t slot req env => Sys2Proof.Machine.execEventCtrlStop t slot req env s
  | .eventCtrlStart t slot req env => Sys2Proof.Machine.execEventCtrlStart t slot req env s
  | .eventCtrlAck t slot req env => Sys2Proof.Machine.execEventCtrlAck t slot req env s
  | .eventResend t slot => Sys2Proof.Machine.execEventResend t slot s
  | .logOpen t slot req env => Sys2Proof.Machine.execLogOpen t slot req env s
  | .logRead t slot req env => Sys2Proof.Machine.execLogRead t slot req env s
  | .logClose t slot req env => Sys2Proof.Machine.execLogClose t slot req env s
  | .logHandleIdle t slot => Sys2Proof.Machine.execLogHandleIdle t slot s
  | .sessionEnd t slot => Sys2Proof.Machine.execSessionEnd t slot s
  | .reqHoldTimeout t slot env => Sys2Proof.Machine.execReqHoldTimeout t slot env s
  | .portRestart t q => Sys2Proof.Machine.execPortRestart t q s
  | .consistReport t q => Sys2Proof.Machine.execConsistReport t q s
  | .cfgClaim t q => Sys2Proof.Machine.execCfgClaim t q s
  | .cfgRelease t q => Sys2Proof.Machine.execCfgRelease t q s
  | .sessionClose t q => Sys2Proof.Machine.execSessionClose t q s
  | .hostCountersClear t q => Sys2Proof.Machine.execHostCountersClear t q s
  | .startCle t q => Sys2Proof.Machine.execStartCle t q s
  | .stopCle t q => Sys2Proof.Machine.execStopCle t q s
  | .faultAck t q => Sys2Proof.Machine.execFaultAck t q s
  | .cleCountersClear t q => Sys2Proof.Machine.execCleCountersClear t q s
  | .holdCle t q => Sys2Proof.Machine.execHoldCle t q s
  | .resumeCle t q => Sys2Proof.Machine.execResumeCle t q s
  | .stepCycle t q => Sys2Proof.Machine.execStepCycle t q s
  | .scanEnd t l => Sys2Proof.Machine.execScanEnd t l s
  | .outputPhaseEnd t l => Sys2Proof.Machine.execOutputPhaseEnd t l s
  | .cycleDeadline t l => Sys2Proof.Machine.execCycleDeadline t l s
  | .retainCommitDone t l => Sys2Proof.Machine.execRetainCommitDone t l s
  | .nopInstr l f => Sys2Proof.Machine.execNopInstr l f s
  | .endTask l f cycles => Sys2Proof.Machine.execEndTask l f cycles s
  | .waitInstr l f ext cycles => Sys2Proof.Machine.execWaitInstr l f ext cycles s
  | .postTask l f => Sys2Proof.Machine.execPostTask l f s
  | .wakeTask l f => Sys2Proof.Machine.execWakeTask l f s
  | .sysCall l f since => Sys2Proof.Machine.execSysCall l f since s
  | .callSub l f => Sys2Proof.Machine.execCallSub l f s
  | .calli l f ext => Sys2Proof.Machine.execCalli l f ext s
  | .retSub l f => Sys2Proof.Machine.execRetSub l f s
  | .branch l f => Sys2Proof.Machine.execBranch l f s
  | .bcc l f => Sys2Proof.Machine.execBcc l f s
  | .seti l f => Sys2Proof.Machine.execSeti l f s
  | .geti l f => Sys2Proof.Machine.execGeti l f s
  | .add l f => Sys2Proof.Machine.execAdd l f s
  | .sub l f => Sys2Proof.Machine.execSub l f s
  | .andReg l f => Sys2Proof.Machine.execAndReg l f s
  | .orReg l f => Sys2Proof.Machine.execOrReg l f s
  | .xorReg l f => Sys2Proof.Machine.execXorReg l f s
  | .shl l f => Sys2Proof.Machine.execShl l f s
  | .shr l f => Sys2Proof.Machine.execShr l f s
  | .asr l f => Sys2Proof.Machine.execAsr l f s
  | .mul l f => Sys2Proof.Machine.execMul l f s
  | .mulh l f => Sys2Proof.Machine.execMulh l f s
  | .div l f => Sys2Proof.Machine.execDiv l f s
  | .rem l f => Sys2Proof.Machine.execRem l f s
  | .minReg l f => Sys2Proof.Machine.execMinReg l f s
  | .maxReg l f => Sys2Proof.Machine.execMaxReg l f s
  | .cmp l f => Sys2Proof.Machine.execCmp l f s
  | .movReg l f => Sys2Proof.Machine.execMovReg l f s
  | .addi l f => Sys2Proof.Machine.execAddi l f s
  | .andi l f => Sys2Proof.Machine.execAndi l f s
  | .ori l f => Sys2Proof.Machine.execOri l f s
  | .xori l f => Sys2Proof.Machine.execXori l f s
  | .shli l f => Sys2Proof.Machine.execShli l f s
  | .shri l f => Sys2Proof.Machine.execShri l f s
  | .asri l f => Sys2Proof.Machine.execAsri l f s
  | .cmpi l f => Sys2Proof.Machine.execCmpi l f s
  | .movi l f => Sys2Proof.Machine.execMovi l f s
  | .movl l f ext => Sys2Proof.Machine.execMovl l f ext s
  | .ldw l f => Sys2Proof.Machine.execLdw l f s
  | .ldh l f => Sys2Proof.Machine.execLdh l f s
  | .ldhu l f => Sys2Proof.Machine.execLdhu l f s
  | .ldb l f => Sys2Proof.Machine.execLdb l f s
  | .ldbu l f => Sys2Proof.Machine.execLdbu l f s
  | .stw l f lose => Sys2Proof.Machine.execStw l f lose s
  | .sth l f => Sys2Proof.Machine.execSth l f s
  | .stb l f => Sys2Proof.Machine.execStb l f s
  | .liw l f => Sys2Proof.Machine.execLiw l f s
  | .siw l f => Sys2Proof.Machine.execSiw l f s
  | .qual l f => Sys2Proof.Machine.execQual l f s
  | .xldd l f => Sys2Proof.Machine.execXldd l f s
  | .xlds l f => Sys2Proof.Machine.execXlds l f s
  | .xstd l f => Sys2Proof.Machine.execXstd l f s
  | .xsts l f => Sys2Proof.Machine.execXsts l f s
  | .btog l f => Sys2Proof.Machine.execBtog l f s
  | .gtob l f => Sys2Proof.Machine.execGtob l f s
  | .bld l f => Sys2Proof.Machine.execBld l f s
  | .bldn l f => Sys2Proof.Machine.execBldn l f s
  | .band l f => Sys2Proof.Machine.execBand l f s
  | .bandn l f => Sys2Proof.Machine.execBandn l f s
  | .bor l f => Sys2Proof.Machine.execBor l f s
  | .born l f => Sys2Proof.Machine.execBorn l f s
  | .bxor l f => Sys2Proof.Machine.execBxor l f s
  | .bst l f => Sys2Proof.Machine.execBst l f s
  | .bstn l f => Sys2Proof.Machine.execBstn l f s
  | .bset l f => Sys2Proof.Machine.execBset l f s
  | .brst l f => Sys2Proof.Machine.execBrst l f s
  | .bandp l f => Sys2Proof.Machine.execBandp l f s
  | .borp l f => Sys2Proof.Machine.execBorp l f s
  | .bxorp l f => Sys2Proof.Machine.execBxorp l f s
  | .bpop l f => Sys2Proof.Machine.execBpop l f s
  | .bacc l f => Sys2Proof.Machine.execBacc l f s
  | .ton l f => Sys2Proof.Machine.execTon l f s
  | .tof l f => Sys2Proof.Machine.execTof l f s
  | .tpTimer l f => Sys2Proof.Machine.execTpTimer l f s
  | .ctu l f => Sys2Proof.Machine.execCtu l f s
  | .ctd l f => Sys2Proof.Machine.execCtd l f s
  | .ctud l f => Sys2Proof.Machine.execCtud l f s
  | .rTrig l f => Sys2Proof.Machine.execRTrig l f s
  | .fTrig l f => Sys2Proof.Machine.execFTrig l f s
  | .pid l f => Sys2Proof.Machine.execPid l f s
  | .lag1 l f => Sys2Proof.Machine.execLag1 l f s
  | .slew l f => Sys2Proof.Machine.execSlew l f s
  | .xadd l f => Sys2Proof.Machine.execXadd l f s
  | .xsub l f => Sys2Proof.Machine.execXsub l f s
  | .xmul l f => Sys2Proof.Machine.execXmul l f s
  | .xfma l f => Sys2Proof.Machine.execXfma l f s
  | .xdiv l f => Sys2Proof.Machine.execXdiv l f s
  | .xsqrt l f => Sys2Proof.Machine.execXsqrt l f s
  | .xabs l f => Sys2Proof.Machine.execXabs l f s
  | .xneg l f => Sys2Proof.Machine.execXneg l f s
  | .xmin l f => Sys2Proof.Machine.execXmin l f s
  | .xmax l f => Sys2Proof.Machine.execXmax l f s
  | .xlim l f => Sys2Proof.Machine.execXlim l f s
  | .xcmp l f => Sys2Proof.Machine.execXcmp l f s
  | .xsin l f => Sys2Proof.Machine.execXsin l f s
  | .xcos l f => Sys2Proof.Machine.execXcos l f s
  | .xatan2 l f => Sys2Proof.Machine.execXatan2 l f s
  | .xexp l f => Sys2Proof.Machine.execXexp l f s
  | .xln l f => Sys2Proof.Machine.execXln l f s
  | .xcvtf l f => Sys2Proof.Machine.execXcvtf l f s
  | .xcvti l f => Sys2Proof.Machine.execXcvti l f s
  | .xmovx l f => Sys2Proof.Machine.execXmovx l f s
  | .xget l f => Sys2Proof.Machine.execXget l f s
  | .xput l f => Sys2Proof.Machine.execXput l f s
  | .xrsr l f => Sys2Proof.Machine.execXrsr l f s
  | .xcsr l f => Sys2Proof.Machine.execXcsr l f s
  | .xcvts l f => Sys2Proof.Machine.execXcvts l f s
  | .xcvtd l f => Sys2Proof.Machine.execXcvtd l f s
  | .ocLoad t q => Sys2Proof.Machine.execOcLoad t q s
  | .ocLoadDone t l signed => Sys2Proof.Machine.execOcLoadDone t l signed s
  | .ocCommit t q => Sys2Proof.Machine.execOcCommit t q s
  | .ocAbandon t q => Sys2Proof.Machine.execOcAbandon t q s
  | .ocHoldExpiry t => Sys2Proof.Machine.execOcHoldExpiry t s
  | .avenueSample t a => Sys2Proof.Machine.execAvenueSample t a s
  | .lineTimeout t a => Sys2Proof.Machine.execLineTimeout t a s
  | .mainsCrossingTimeout t a => Sys2Proof.Machine.execMainsCrossingTimeout t a s
  | .avSrcWrite t code gen a value => Sys2Proof.Machine.execAvSrcWrite t code gen a value s
  | .avInWrite t code gen a rate value => Sys2Proof.Machine.execAvInWrite t code gen a rate value s
  | .cornerWindowWrite t code gen c ctrl value => Sys2Proof.Machine.execCornerWindowWrite t code gen c ctrl value s
  | .cornerSet t q => Sys2Proof.Machine.execCornerSet t q s
  | .cornerClear t q => Sys2Proof.Machine.execCornerClear t q s
  | .avenueCountersClear t q => Sys2Proof.Machine.execAvenueCountersClear t q s
  | .moveAbs t q => Sys2Proof.Machine.execMoveAbs t q s
  | .moveRel t q => Sys2Proof.Machine.execMoveRel t q s
  | .moveVel t q => Sys2Proof.Machine.execMoveVel t q s
  | .motionStop t q => Sys2Proof.Machine.execMotionStop t q s
  | .quickStop t q => Sys2Proof.Machine.execQuickStop t q s
  | .groupGo t q => Sys2Proof.Machine.execGroupGo t q s
  | .disarm t q => Sys2Proof.Machine.execDisarm t q s
  | .releaseAxis t q => Sys2Proof.Machine.execReleaseAxis t q s
  | .engageAxis t q => Sys2Proof.Machine.execEngageAxis t q s
  | .setPosition t q => Sys2Proof.Machine.execSetPosition t q s
  | .homeAxis t q => Sys2Proof.Machine.execHomeAxis t q s
  | .startLine t g => Sys2Proof.Machine.execStartLine t g s
  | .positionLoopTick t a => Sys2Proof.Machine.execPositionLoopTick t a s
  | .inposReached t a => Sys2Proof.Machine.execInposReached t a s
  | .flyMeasureDone t a => Sys2Proof.Machine.execFlyMeasureDone t a s
  | .pushDone t a => Sys2Proof.Machine.execPushDone t a s
  | .limitWrite t code gen a pos value => Sys2Proof.Machine.execLimitWrite t code gen a pos value s
  | .switchRawEdge t a k high => Sys2Proof.Machine.execSwitchRawEdge t a k high s
  | .switchQualified t a k => Sys2Proof.Machine.execSwitchQualified t a k s
  | .homeChatterEnd t a => Sys2Proof.Machine.execHomeChatterEnd t a s
  | .homeDwellDone t a => Sys2Proof.Machine.execHomeDwellDone t a s
  | .homeTimeout t a => Sys2Proof.Machine.execHomeTimeout t a s
  | .enableAxis t q => Sys2Proof.Machine.execEnableAxis t q s
  | .phaseTestDone t a open_ failed => Sys2Proof.Machine.execPhaseTestDone t a open_ failed s
  | .disableAxis t q => Sys2Proof.Machine.execDisableAxis t q s
  | .faultReset t q => Sys2Proof.Machine.execFaultReset t q s
  | .identify t q => Sys2Proof.Machine.execIdentify t q s
  | .identifyDone t a r => Sys2Proof.Machine.execIdentifyDone t a r s
  | .currentLoopTick t a c => Sys2Proof.Machine.execCurrentLoopTick t a c s
  | .velocityLoopTick t a => Sys2Proof.Machine.execVelocityLoopTick t a s
  | .overcurrent t a => Sys2Proof.Machine.execOvercurrent t a s
  | .senseFailure t a agree => Sys2Proof.Machine.execSenseFailure t a agree s
  | .phaseOpen t a phase => Sys2Proof.Machine.execPhaseOpen t a phase s
  | .stageOvertemp t a temp => Sys2Proof.Machine.execStageOvertemp t a temp s
  | .followingError t a => Sys2Proof.Machine.execFollowingError t a s
  | .angleLost t a => Sys2Proof.Machine.execAngleLost t a s
  | .brakeChopper t b mv => Sys2Proof.Machine.execBrakeChopper t b mv s
  | .chopperOvercurrent t b => Sys2Proof.Machine.execChopperOvercurrent t b s
  | .regenLimited t b mv => Sys2Proof.Machine.execRegenLimited t b mv s
  | .rationRequest t b => Sys2Proof.Machine.execRationRequest t b s
  | .rationTimeout t b => Sys2Proof.Machine.execRationTimeout t b s
  | .rationConfigWrite t code gen b reg value => Sys2Proof.Machine.execRationConfigWrite t code gen b reg value s
  | .busOverload t b watts amps => Sys2Proof.Machine.execBusOverload t b watts amps s
  | .rationCountersClear t q => Sys2Proof.Machine.execRationCountersClear t q s
  | .clearLineFall t a => Sys2Proof.Machine.execClearLineFall t a s
  | .fmTeach t q => Sys2Proof.Machine.execFmTeach t q s
  | .fmRebase t q => Sys2Proof.Machine.execFmRebase t q s
  | .fmClear t q => Sys2Proof.Machine.execFmClear t q s
  | .obsInject t q => Sys2Proof.Machine.execObsInject t q s
  | .forceMapWrite t code gen a j mass value => Sys2Proof.Machine.execForceMapWrite t code gen a j mass value s
  | .obsThreshWrite t code gen a value => Sys2Proof.Machine.execObsThreshWrite t code gen a value s
  | .edgeMeasure t k r => Sys2Proof.Machine.execEdgeMeasure t k r s
  | .edgeActive t k => Sys2Proof.Machine.execEdgeActive t k s
  | .edgeRelease t k => Sys2Proof.Machine.execEdgeRelease t k s
  | .edgeFault t k => Sys2Proof.Machine.execEdgeFault t k s
  | .edgeFaultRecover t k => Sys2Proof.Machine.execEdgeFaultRecover t k s
  | .edgeConfigWrite t code gen k value => Sys2Proof.Machine.execEdgeConfigWrite t code gen k value s
  | .edgeCountersClear t q => Sys2Proof.Machine.execEdgeCountersClear t q s
  | .beamFrame t g fs => Sys2Proof.Machine.execBeamFrame t g fs s
  | .beamFallback t k => Sys2Proof.Machine.execBeamFallback t k s
  | .beamConfigWrite t code gen k value => Sys2Proof.Machine.execBeamConfigWrite t code gen k value s
  | .beamDark t q => Sys2Proof.Machine.execBeamDark t q s
  | .beamDarkDone t k => Sys2Proof.Machine.execBeamDarkDone t k s
  | .beamCountersClear t q => Sys2Proof.Machine.execBeamCountersClear t q s
  | .fbProbe t q => Sys2Proof.Machine.execFbProbe t q s
  | .probeDecision t a r => Sys2Proof.Machine.execProbeDecision t a r s
  | .probeRetry t a => Sys2Proof.Machine.execProbeRetry t a s
  | .sensorDeparted t a => Sys2Proof.Machine.execSensorDeparted t a s
  | .serialFrame t a w => Sys2Proof.Machine.execSerialFrame t a w s
  | .serialFrameStart t a => Sys2Proof.Machine.execSerialFrameStart t a s
  | .quadEdge t a la lb => Sys2Proof.Machine.execQuadEdge t a la lb s
  | .hallCode t a code => Sys2Proof.Machine.execHallCode t a code s
  | .indexPulse t a => Sys2Proof.Machine.execIndexPulse t a s
  | .lineFault t a => Sys2Proof.Machine.execLineFault t a s
  | .fbFaultRecover t a => Sys2Proof.Machine.execFbFaultRecover t a s
  | .sensorSupplyTrip t a => Sys2Proof.Machine.execSensorSupplyTrip t a s
  | .fbConfigWrite t code gen a reg value => Sys2Proof.Machine.execFbConfigWrite t code gen a reg value s
  | .fbCountersClear t q => Sys2Proof.Machine.execFbCountersClear t q s
  | .frontEndBurst t b n r => Sys2Proof.Machine.execFrontEndBurst t b n r s
  | .stageBurst t b n seq index word crc => Sys2Proof.Machine.execStageBurst t b n seq index word crc s
  | .burstMissed t b n => Sys2Proof.Machine.execBurstMissed t b n s
  | .linkSilence t b => Sys2Proof.Machine.execLinkSilence t b s
  | .inputQualified t b k runs => Sys2Proof.Machine.execInputQualified t b k runs s
  | .monitoredFault t b k runs => Sys2Proof.Machine.execMonitoredFault t b k runs s
  | .monitoredRecover t b k runs => Sys2Proof.Machine.execMonitoredRecover t b k runs s
  | .outputOverload t b k x => Sys2Proof.Machine.execOutputOverload t b k x s
  | .openLoad t b k ma => Sys2Proof.Machine.execOpenLoad t b k ma s
  | .outputOvertemp t b k temp => Sys2Proof.Machine.execOutputOvertemp t b k temp s
  | .bankOverload t b cur => Sys2Proof.Machine.execBankOverload t b cur s
  | .backfeed t b k => Sys2Proof.Machine.execBackfeed t b k s
  | .outputRetry t b k temp => Sys2Proof.Machine.execOutputRetry t b k temp s
  | .outSetWrite t code gen b value => Sys2Proof.Machine.execOutSetWrite t code gen b value s
  | .outPulseEnd t b k => Sys2Proof.Machine.execOutPulseEnd t b k s
  | .logicSilence t b => Sys2Proof.Machine.execLogicSilence t b s
  | .chCfgWrite t code gen b k value => Sys2Proof.Machine.execChCfgWrite t code gen b k value s
  | .fieldFaultClear t q => Sys2Proof.Machine.execFieldFaultClear t q s
  | .fieldCountersClear t q => Sys2Proof.Machine.execFieldCountersClear t q s
  | .lsCmdWrite t code gen g value => Sys2Proof.Machine.execLsCmdWrite t code gen g value s
  | .chPwmWrite t code gen g k value => Sys2Proof.Machine.execChPwmWrite t code gen g k value s
  | .thermalShutdown t g k => Sys2Proof.Machine.execThermalShutdown t g k s
  | .thermalCooled t g k => Sys2Proof.Machine.execThermalCooled t g k s
  | .inrushWindowEnd t g k => Sys2Proof.Machine.execInrushWindowEnd t g k s
  | .clampEnd t g k us => Sys2Proof.Machine.execClampEnd t g k us s
  | .clampSumExpiry t g k => Sys2Proof.Machine.execClampSumExpiry t g k s
  | .senseSlot t g k ma => Sys2Proof.Machine.execSenseSlot t g k ma s
  | .lsFaultClear t q => Sys2Proof.Machine.execLsFaultClear t q s
  | .lsCountersClear t q => Sys2Proof.Machine.execLsCountersClear t q s
  | .kenQualified t high => Sys2Proof.Machine.execKenQualified t high s
  | .kinQualified t k high => Sys2Proof.Machine.execKinQualified t k high s
  | .kerbSilenceTimeout t => Sys2Proof.Machine.execKerbSilenceTimeout t s
  | .kerbSilenceEnd t => Sys2Proof.Machine.execKerbSilenceEnd t s
  | .kmapWrite t code gen k j value => Sys2Proof.Machine.execKmapWrite t code gen k j value s
  | .kerbCountersClear t q => Sys2Proof.Machine.execKerbCountersClear t q s
  | .loopSample t g k r => Sys2Proof.Machine.execLoopSample t g k r s
  | .voltageSample t g j ab bc => Sys2Proof.Machine.execVoltageSample t g j ab bc s
  | .loopFault t g k => Sys2Proof.Machine.execLoopFault t g k s
  | .loopFaultEnd t g k => Sys2Proof.Machine.execLoopFaultEnd t g k s
  | .loopOvertemp t g k temp => Sys2Proof.Machine.execLoopOvertemp t g k temp s
  | .loopTempRecover t g k temp => Sys2Proof.Machine.execLoopTempRecover t g k temp s
  | .transmitterArrived t g k => Sys2Proof.Machine.execTransmitterArrived t g k s
  | .transmitterDeparted t g k => Sys2Proof.Machine.execTransmitterDeparted t g k s
  | .outUaWrite t code gen g k value => Sys2Proof.Machine.execOutUaWrite t code gen g k value s
  | .loopModeWrite t code gen g k value => Sys2Proof.Machine.execLoopModeWrite t code gen g k value s
  | .loopCountersClear t q => Sys2Proof.Machine.execLoopCountersClear t q s
  | .canFrameRx t c sof x => Sys2Proof.Machine.execCanFrameRx t c sof x s
  | .canTxEnd t c sof tdcv => Sys2Proof.Machine.execCanTxEnd t c sof tdcv s
  | .canTxError t c kind pos exempt => Sys2Proof.Machine.execCanTxError t c kind pos exempt s
  | .canRxError t c kind pos by8 => Sys2Proof.Machine.execCanRxError t c kind pos by8 s
  | .canIntegrated t c => Sys2Proof.Machine.execCanIntegrated t c s
  | .busoffRecovered t c => Sys2Proof.Machine.execBusoffRecovered t c s
  | .txGoWrite t code gen c value => Sys2Proof.Machine.execTxGoWrite t code gen c value s
  | .canStageRefresh t c => Sys2Proof.Machine.execCanStageRefresh t c s
  | .txcAckWrite t code gen c value => Sys2Proof.Machine.execTxcAckWrite t code gen c value s
  | .rxAckWrite t code gen c value => Sys2Proof.Machine.execRxAckWrite t code gen c value s
  | .txsLatchWrite t code gen c value => Sys2Proof.Machine.execTxsLatchWrite t code gen c value s
  | .rxsAckWrite t code gen c value => Sys2Proof.Machine.execRxsAckWrite t code gen c value s
  | .canModeWrite t code gen c value => Sys2Proof.Machine.execCanModeWrite t code gen c value s
  | .canBoundarySignal t c => Sys2Proof.Machine.execCanBoundarySignal t c s
  | .syncFrameDue t c => Sys2Proof.Machine.execSyncFrameDue t c s
  | .rollCallRound t c => Sys2Proof.Machine.execRollCallRound t c s
  | .rollCallTimeout t c n => Sys2Proof.Machine.execRollCallTimeout t c n s
  | .canTransceiverFault t c on => Sys2Proof.Machine.execCanTransceiverFault t c on s
  | .canRecover t q => Sys2Proof.Machine.execCanRecover t q s
  | .txAbort t q => Sys2Proof.Machine.execTxAbort t q s
  | .rollCall t q => Sys2Proof.Machine.execRollCall t q s
  | .canCountersClear t q => Sys2Proof.Machine.execCanCountersClear t q s
  | .maintEnter t q => Sys2Proof.Machine.execMaintEnter t q s
  | .maintExit t q => Sys2Proof.Machine.execMaintExit t q s
  | .tripAck t q => Sys2Proof.Machine.execTripAck t q s
  | .safeTrip t q => Sys2Proof.Machine.execSafeTrip t q s
  | .maintTimeout t => Sys2Proof.Machine.execMaintTimeout t s
  | .maintKeyLost t => Sys2Proof.Machine.execMaintKeyLost t s
  | .enableWaveLoss t l k back => Sys2Proof.Machine.execEnableWaveLoss t l k back s
  | .outDisc t k => Sys2Proof.Machine.execOutDisc t k s
  | .mirrorCheck t k m1 m2 => Sys2Proof.Machine.execMirrorCheck t k m1 m2 s
  | .edmCheck t k edm => Sys2Proof.Machine.execEdmCheck t k edm s
  | .soDemandWrite t code gen value => Sys2Proof.Machine.execSoDemandWrite t code gen value s
  | .soReset t q => Sys2Proof.Machine.execSoReset t q s
  | .soCountersClear t q => Sys2Proof.Machine.execSoCountersClear t q s
  | .tarfevikFrameRx t bs => Sys2Proof.Machine.execTarfevikFrameRx t bs s
  | .tarfevikTxDecide t c => Sys2Proof.Machine.execTarfevikTxDecide t c s
  | .connWatchdog t l c => Sys2Proof.Machine.execConnWatchdog t l c s
  | .connCountersClear t q => Sys2Proof.Machine.execConnCountersClear t q s
  | .segmentWake t l seg us => Sys2Proof.Machine.execSegmentWake t l seg us s
  | .segmentRetention t l seg idleMs => Sys2Proof.Machine.execSegmentRetention t l seg idleMs s
  | .btBlock t l defect yields => Sys2Proof.Machine.execBtBlock t l defect yields s
  | .btRestart t q => Sys2Proof.Machine.execBtRestart t q s
  | .memCountersClear t q => Sys2Proof.Machine.execMemCountersClear t q s
  | .secureWipe t q => Sys2Proof.Machine.execSecureWipe t q s
  | .curdRecord t axis => Sys2Proof.Machine.execCurdRecord t axis s
  | .mirrorResend t l => Sys2Proof.Machine.execMirrorResend t l s
  | .captureSample t axis => Sys2Proof.Machine.execCaptureSample t axis s
  | .captureEnd t axis => Sys2Proof.Machine.execCaptureEnd t axis s
  | .vatUnitProgrammed t l part h => Sys2Proof.Machine.execVatUnitProgrammed t l part h s
  | .vatMountDone t l h => Sys2Proof.Machine.execVatMountDone t l h s
  | .vatScrub t l h => Sys2Proof.Machine.execVatScrub t l h s
  | .flushVat t q => Sys2Proof.Machine.execFlushVat t q s
  | .flushDone t l => Sys2Proof.Machine.execFlushDone t l s
  | .vatCountersClear t q => Sys2Proof.Machine.execVatCountersClear t q s
  | .dumpRequest t q => Sys2Proof.Machine.execDumpRequest t q s
  | .dumpDone t l => Sys2Proof.Machine.execDumpDone t l s
  | .dumpAbandon t l => Sys2Proof.Machine.execDumpAbandon t l s
  | .miniClear t q => Sys2Proof.Machine.execMiniClear t q s
  | .dumpCountersClear t q => Sys2Proof.Machine.execDumpCountersClear t q s
  | .mgmtLoadCheck t pct shares => Sys2Proof.Machine.execMgmtLoadCheck t pct shares s
  | .sensorSample t vals => Sys2Proof.Machine.execSensorSample t vals s
  | .telemEntry t => Sys2Proof.Machine.execTelemEntry t s
  | .hostMgmtRequest t arrives env => Sys2Proof.Machine.execHostMgmtRequest t arrives env s
  | .minmaxClear t q => Sys2Proof.Machine.execMinmaxClear t q s
  | .mgmtCountersClear t q => Sys2Proof.Machine.execMgmtCountersClear t q s
  | .ripeningRun t meas => Sys2Proof.Machine.execRipeningRun t meas s
  | .planRecheck t => Sys2Proof.Machine.execPlanRecheck t s
  | .ripRun t q => Sys2Proof.Machine.execRipRun t q s
  | .ripRebase t q => Sys2Proof.Machine.execRipRebase t q s
  | .ripSetRef t q => Sys2Proof.Machine.execRipSetRef t q s
  | .updBegin t q => Sys2Proof.Machine.execUpdBegin t q s
  | .updChunk t q => Sys2Proof.Machine.execUpdChunk t q s
  | .updVerify t q => Sys2Proof.Machine.execUpdVerify t q s
  | .updVerifyDone t f => Sys2Proof.Machine.execUpdVerifyDone t f s
  | .updActivate t q => Sys2Proof.Machine.execUpdActivate t q s
  | .updStep t f => Sys2Proof.Machine.execUpdStep t f s
  | .trialConfirmed t l => Sys2Proof.Machine.execTrialConfirmed t l s
  | .updAbort t q => Sys2Proof.Machine.execUpdAbort t q s
  | .updRollback t q => Sys2Proof.Machine.execUpdRollback t q s
  | .rindBreach t cause inputs traceA traceB temp us => Sys2Proof.Machine.execRindBreach t cause inputs traceA traceB temp us s
  | .keyGenerationDone t => Sys2Proof.Machine.execKeyGenerationDone t s
  | .sealClosed t => Sys2Proof.Machine.execSealClosed t s
  | .sealWaitExpiry t => Sys2Proof.Machine.execSealWaitExpiry t s
  | .factoryClose t q => Sys2Proof.Machine.execFactoryClose t q s
  | .provBegin t q => Sys2Proof.Machine.execProvBegin t q s
  | .certInstall t q c => Sys2Proof.Machine.execCertInstall t q c s
  | .anchorSet t q c => Sys2Proof.Machine.execAnchorSet t q c s
  | .provCommit t q => Sys2Proof.Machine.execProvCommit t q s
  | .reprovision t q => Sys2Proof.Machine.execReprovision t q s
  | .eraseKeys t q us => Sys2Proof.Machine.execEraseKeys t q us s
  | .retire t q us => Sys2Proof.Machine.execRetire t q us s
  | .grandmasterLost t => Sys2Proof.Machine.execGrandmasterLost t s
  | .chopperModelCooled t b => Sys2Proof.Machine.execChopperModelCooled t b s
  | .hallFaultClear t a => Sys2Proof.Machine.execHallFaultClear t a s
  | .fieldOutputFaultEnd t b k ma => Sys2Proof.Machine.execFieldOutputFaultEnd t b k ma s
  | .mirrorBehindTimeout t l => Sys2Proof.Machine.execMirrorBehindTimeout t l s

end Sys2Proof.Machine
end

