-- ==== Sys2Proof/Safety.lean ====
section
/-! DEFINITION. What a run keeps: the terms in which claims about every step are made. -/

namespace Sys2Proof.Machine

/-- The state no earlier than an instant, with no fewer boots than a number, and with no command waiting that is not well
formed (R9, R68). -/
abbrev State.atLeast (s : State) (n b : Nat) : Prop := n ≤ s.now ∧ b ≤ s.bootCount ∧ s.pending.all Instr.wellFormed = true

/-- The registers of the block in canonical form: addresses rise, and none holds its reset value. -/
def State.canonical (s : State) : Bool := Sparse.wf Reg.reset s.regs

/-- A lane's engine is in RUN and its running task `t` is about to execute an instruction of `len` words (R205, R213, R217): the
words lie aligned within CODE, no enabled breakpoint stands there, a bit-logic task may execute it only where `bitOk`, the
opcode there is a defined one and no word of the SRAM shows an error (R211, R529). -/
abbrev State.executes (s : State) (l : Lane) (t len : Nat) (bitOk : Bool) : Prop :=
  let c := s.cle l
  let k := c.tasks.rd {} t
  s.pstate (clePage l) = 2 ∧ c.running = some t ∧ c.img.code.holds k.pc (4 * len) = true ∧ k.pc % 4 = 0
    ∧ s.breaksAt t k.pc = [] ∧ (bitOk = true ∨ (c.taskDef t).bitMode = false)
    ∧ definedOpcode (c.opcodeAt k.pc) = true ∧ c.upset = []

/-- The task that executes, its pc already moved past the instruction. -/
def State.fetched (s : State) (l : Lane) (t len : Nat) : TaskRec :=
  let k := (s.cle l).tasks.rd {} t
  { k with pc := pcAfter k.pc len }

/-- The state after an instruction whose effect is the engine `c` and the task record `k`: nothing else changes, and nothing is
sent. -/
def State.carried (s : State) (l : Lane) (t : Nat) (c : CleRec) (k : TaskRec) : State :=
  (s.putOut []).setCle l { c with tasks := c.tasks.wr {} t k }

/-- A state that differs from another in one task's record alone, and in having sent nothing. -/
abbrev State.onlyTask (s u : State) (l : Lane) (t : Nat) : Prop :=
  u = { s with out := [], cles := u.cles } ∧ u.cle l.other = s.cle l.other
    ∧ u.cle l = { s.cle l with tasks := (u.cle l).tasks }
    ∧ ∀ j, j ≠ t → (u.cle l).tasks.rd {} j = (s.cle l).tasks.rd {} j

/-! A host's request that is served when it arrives (R134, R144, R152, R153). -/

/-- The state in which the checks of the fabric see a request: the datagram noted, E begun, the totals and the buckets of the
session brought to this instant. -/
def State.atGate (s : State) (k : Nat) (r : HanucaReq) : State :=
  let s := s.datagram k r.carrier
  let s := s.setSlot k { s.slot k with expected := some ((s.slot k).expected.getD r.reqNo) }
  let c := s.roleClass (s.slot k).role
  (s.fabricClock).setSlot k ((s.slot k).refill s.now (classRate c) (classData c))

/-- A session takes a request at once: it runs, the request is well formed and has the number that is due, nothing is held, and
no check of the fabric refuses it. -/
abbrev State.takesNow (s : State) (k : Nat) (r : HanucaReq) : Prop :=
  s.takes k r.carrier = true ∧ r.wellFormed = true ∧ r.reqNo < 2 ^ 32 ∧ (s.slot k).expected.getD r.reqNo = r.reqNo
    ∧ (s.slot k).held = [] ∧ (s.atGate k r).gate k r = none ∧ (r.toMgmt && (s.atGate k r).mgmtRuns) = false

/-- The state that serves such a request: its tokens taken, it counted, and nothing sent yet. -/
def State.atTurn (s : State) (k : Nat) (r : HanucaReq) : State :=
  let s := ((s.atGate k r).takeTokens k r).bump 6 Ss.REQUESTS k
  (s.putOut []).putHost { s.host with serving := some r.reqNo }

/-- The state after its service `p`: the reply sent before what else it caused and kept for repeats, E moved on, and whatever E
then lets through served. -/
def State.turnOver (p : State × OutMsg) (u : State) (k : Nat) (r : HanucaReq) (env : ReqEnv) : State :=
  let a := u.datagram k r.carrier
  let x := a.slot k
  let s := ((p.1.putOut a.out).sendOn x.port x.ip x.udp p.2).addOut (p.1.out.filter fun x => !x.pageAnswer (4 + k))
  let s := s.putHost { p.1.host with serving := none }
  let s := if p.2.disposition = Disp.fabric then s.throttle k else s
  let s := if (s.slot k).active then s.setSlot k ((s.slot k).keep r.reqNo p.2) else s
  if (s.slot k).active then (s.nextExpected k r.reqNo).serveHeld k env 32 else s

/-! The commands of a host or a lane that the checks of the page refuse alike (R50). -/

/-- A command of the pages with what it is admitted by, for all but those of the axes, the power ration's forms and those that
carry more than the request (R50): `us` is what the wiping of the keys takes, `c` what is found of a certificate. -/
def isHostCommand (t us : Nat) (q : Req) (c : CertFound) (x : Instr × Cmd) : Prop := x ∈ [
  (.blockReset t q, cmdBlockReset), (.clampClear t q, cmdClampClear), (.evtTest t q, cmdEvtTest),
  (.fabricCountersClear t q, cmdFabricClear), (.profileApply t q, cmdProfileApply), (.rtcSet t q, cmdRtcSet),
  (.ackRejoin t q, cmdAckRejoin), (.crossingCountersClear t q, cmdCrossingClear), (.ownMove t q, cmdOwnMove),
  (.laneResync t q, cmdLaneResync), (.deviceReset t q, cmdDeviceReset), (.laneReset t q, cmdLaneReset),
  (.mgmtReset t q c.slots, cmdMgmtReset c.slots), (.powerDownPrep t q, cmdPowerDownPrep), (.portRestart t q, cmdPortRestart),
  (.consistReport t q, cmdConsistReport), (.cfgClaim t q, cmdCfgClaim), (.cfgRelease t q, cmdCfgRelease),
  (.sessionClose t q, cmdSessionClose), (.hostCountersClear t q, cmdHostClear), (.startCle t q, cmdStart),
  (.stopCle t q, cmdStopCle), (.faultAck t q, cmdFaultAck), (.cleCountersClear t q, cmdCleClear),
  (.holdCle t q, cmdHold), (.resumeCle t q, cmdResume), (.stepCycle t q, cmdStep), (.ocLoad t q, cmdOcLoad),
  (.ocCommit t q, cmdOcCommit), (.ocAbandon t q, cmdOcAbandon), (.cornerSet t q, cmdCornerSet),
  (.cornerClear t q, cmdCornerClear), (.avenueCountersClear t q, cmdAvenueClear),
  (.rationCountersClear t q, cmdRationClear), (.fmTeach t q, cmdFmTeach q.page),
  (.fmRebase t q, cmdFmRebase q.page), (.fmClear t q, cmdFmClear q.page), (.obsInject t q, cmdObsInject q.page),
  (.edgeCountersClear t q, cmdEdgeClear q.page), (.beamDark t q, cmdBeamDark q.page),
  (.beamCountersClear t q, cmdBeamClear q.page), (.fbProbe t q, cmdFbProbe q.page),
  (.fbCountersClear t q, cmdFbClear q.page), (.fieldFaultClear t q, cmdFieldFaultClear q.page),
  (.fieldCountersClear t q, cmdFieldCountersClear q.page), (.lsFaultClear t q, cmdLsFaultClear q.page),
  (.lsCountersClear t q, cmdLsCountersClear q.page), (.kerbCountersClear t q, cmdKerbClear),
  (.loopCountersClear t q, cmdLoopClear), (.canRecover t q, cmdCanRecover), (.txAbort t q, cmdTxAbort),
  (.rollCall t q, cmdRollCall), (.canCountersClear t q, cmdCanClear), (.maintEnter t q, cmdMaintEnter),
  (.maintExit t q, cmdMaintExit), (.tripAck t q, cmdTripAck), (.safeTrip t q, cmdSafeTrip),
  (.soReset t q, cmdSoReset), (.soCountersClear t q, cmdSoClear), (.connCountersClear t q, cmdConnClear),
  (.btRestart t q, cmdBtRestart), (.memCountersClear t q, cmdMemClear), (.secureWipe t q, cmdSecureWipe),
  (.flushVat t q, cmdFlush), (.vatCountersClear t q, cmdVatClear), (.dumpRequest t q, cmdDumpRequest),
  (.miniClear t q, cmdMiniClear), (.dumpCountersClear t q, cmdDumpClear), (.minmaxClear t q, cmdMinmaxClear),
  (.mgmtCountersClear t q, cmdMgmtClear), (.ripRun t q, cmdRipRun), (.ripRebase t q, cmdRipRebase),
  (.ripSetRef t q, cmdRipSetRef), (.updBegin t q, cmdUpdBegin), (.updChunk t q, cmdUpdChunk),
  (.updVerify t q, cmdUpdVerify), (.updActivate t q, cmdUpdActivate), (.updAbort t q, cmdUpdAbort),
  (.updRollback t q, cmdUpdRollback), (.factoryClose t q, cmdFactoryClose), (.provBegin t q, cmdProvBegin),
  (.provCommit t q, cmdProvCommit), (.reprovision t q, cmdReprovision), (.certInstall t q c, cmdCertInstall c),
  (.anchorSet t q c, cmdAnchorSet c), (.eraseKeys t q us, cmdErase us), (.retire t q us, cmdRetire us)]

end Sys2Proof.Machine
end

