-- ==== Sys2Proof/Certificates/Slice0/Obligations.lean ====
section
/-! DEFINITION. The statements about the block that are left to be proved: for every command that it completes and with
what state, what the states of a run keep, and the frames of the commands. -/

open Sys2Proof Sys2Proof.Machine

/-- For every state and write that passes the checks of R55: a write of an argument register changes only the writer's bank of
it; a write of EVT_PEND clears the bits written as 1; a write of PAGE_LOCK sets the lock and its holder; a write of EVT_ENA,
EVT_ROUTE or PAGE_CTRL, and of a register of a page without a register rule of its own, stores the value as its table says.
Each is answered DONE. For each the whole next state is given. (R45, R46, R47, R48, R55) -/
def Obligations.HeaderWritesComplete : Prop :=
  (∀ (t : Nat) (w : WriteReq) (s : State), let u := s.start t
    w.off = 0x34 ∨ w.off = 0x38 → pageUsed w.page = true → u.retired = false → w.gen = u.gen w.page →
    u.holds w.page w.code = false →
    exec (.cmdArgWrite t w) s =
      .next ((u.setReg w.page w.off w.value (w.code % 8)).writeReply w (u.pstate w.page) RC.done)) ∧
  (∀ (t : Nat) (w : WriteReq) (s : State), let u := s.start t
    w.off = 0x24 → pageUsed w.page = true → u.writeVerdict w = 0 →
    exec (.evtPendClear t w) s =
      .next ((u.setFld w.page Hd.EVT_PEND (u.fld w.page Hd.EVT_PEND &&& (2 ^ 16 - 1 - w.value.toNat % 2 ^ 16))).writeReply w
        (u.pstate w.page) RC.done)) ∧
  (∀ (t : Nat) (w : WriteReq) (s : State), let u := s.start t
    w.off = 0x1C → pageUsed w.page = true → u.writeVerdict w = 0 →
    (u.flag w.page Hd.PAGE_LOCK_LOCK = false ∨ u.fld w.page Hd.PAGE_LOCK_LOCKED_BY = w.code) →
    exec (.pageLockWrite t w) s =
      .next (((u.setFld w.page Hd.PAGE_LOCK_LOCK (bitsOf w.value 0 0)).setFld w.page Hd.PAGE_LOCK_LOCKED_BY
        (if bitsOf w.value 0 0 = 1 then w.code else 0)).writeReply w (u.pstate w.page) RC.done)) ∧
  (∀ (t : Nat) (w : WriteReq) (found : CertFound) (us : Nat) (s : State), let u := s.start t
    (w.off = 0x14 ∨ w.off = 0x28 ∨ w.off = 0x2C) → pageUsed w.page = true → u.writeVerdict w = 0 → u.stateGuard w.page w.off = 0 →
    u.ignoresWrite w.page w.off = false →
    exec (.configWrite t w found us) s =
      .next ((u.store w.code w.page w.off w.value).writeReply w (u.pstate w.page) RC.done)) ∧
  (∀ (t : Nat) (w : WriteReq) (found : CertFound) (us : Nat) (s : State), let u := s.start t
    0x100 ≤ w.off → w.off < 4096 → w.off % 4 = 0 →
    pageKind w.page ∈ [PageKind.lane, .power, .hostPorts, .hostRights, .cle, .onlineChange, .debug, .memory, .secure, .vat, .mgmt,
      .sensors, .ripening, .update, .lifeCycle, .fabric, .dump] →
    u.writeVerdict w = 0 → u.stateGuard w.page w.off = 0 → u.ignoresWrite w.page w.off = false →
    exec (.configWrite t w found us) s =
      .next (((u.store w.code w.page w.off w.value).afterWrite w.code w.page w.off
        (u.reg w.page w.off (Reg.bank w.page w.off w.code))).writeReply w (u.pstate w.page) RC.done))

/-- Where the checks of R50 pass: CLAMP_CLEAR clears the four clamp registers, EVT_TEST makes an occurrence of the event
marked as a test, BLOCK_RESET answers the ownership requests that wait and then resets the block, each answered DONE with the
state of the moment of decision; NOP on a used page under its present generation is answered DONE. (R48, R49, R50, R52, R58,
R59, R62, R65) -/
def Obligations.HeaderCommandsComplete : Prop :=
  (∀ (t : Nat) (q : Req) (s : State), let u := s.start t
    u.verdict q cmdClampClear = 0 →
    exec (.clampClear t q) s =
      .next (((((u.setReg q.page 0x40 0).setReg q.page 0x44 0).setReg q.page 0x48 0).setReg q.page 0x4C 0).writeResult q
        (u.pstate q.page) RC.done)) ∧
  (∀ (t : Nat) (q : Req) (s : State), let u := s.start t
    u.verdict q cmdEvtTest = 0 →
    exec (.evtTest t q) s = .next ((u.occur q.page (u.arg0 q) 0 true).writeResult q (u.pstate q.page) RC.done)) ∧
  (∀ (t : Nat) (q : Req) (s : State), let u := s.start t
    u.verdict q cmdBlockReset = 0 →
    exec (.blockReset t q) s =
      .next (let v := ((u.writeResult q (u.pstate q.page) RC.done).answerArb q.page).blockReset q.page
        if pageKind q.page = .can then v else v.dropHeld q.page)) ∧
  (∀ (t : Nat) (q : Req) (s : State), let u := s.start t
    pageUsed q.page = true → q.gen = u.gen q.page → u.holds q.page q.code = false →
    exec (.nop t q) s = .next (u.writeResult q (u.pstate q.page) RC.done))

/-- A record at the head of the intake leaves it and is queued for each of its destinations; a destination that dropped
records and has room gets one GAP record that carries the number dropped; FABRIC_COUNTERS_CLEAR clears the drop counters, the
high-water marks and LAST_DROP. (R74, R76, R141) -/
def Obligations.FabricCommandsComplete : Prop :=
  (∀ (t : Nat) (s : State) (x : IntakeRec) (rest : List IntakeRec), let u := s.start t
    u.fabric.intake = x :: rest → ownershipId x.record.id = false →
    exec (.fabricDistribute t) s =
      .next ((x.dests.foldl (fun v d => if d < 4 && !(v.slot d).streaming then v else v.enqueue x.record d)
        (u.putFabric { u.fabric with intake := rest })).queueHigh)) ∧
  (∀ (t : Nat) (d : Fin 7) (s : State), let u := s.start t
    (u.dest d).gap ≠ 0 → (u.dest d).recs.length < destCap d → 4 ≤ d.val →
    exec (.gapRecord t d) s = .next (((u.putGap d).consume d).queueHigh)) ∧
  (∀ (t : Nat) (d : Fin 7) (s : State), let u := s.start t
    let v := u.putGap d
    (u.dest d).gap ≠ 0 → (u.dest d).recs.length < destCap d → d.val < 4 →
    exec (.gapRecord t d) s =
      .next (((v.sendEvents d (((v.dest d).recs.drop (u.dest d).recs.length).map (·.record))).consume d).queueHigh)) ∧
  (∀ (t : Nat) (q : Req) (s : State), let u := s.start t
    u.verdict q cmdFabricClear = 0 →
    exec (.fabricCountersClear t q) s =
      .next (((u.each (List.range 7) fun v d => (v.setFld 0x7E Fab.DEST_DROPS 0 d).setFld 0x7E Fab.DEST_HWM 0 d).setReg 0x7E
        Fab.LAST_DROP_ID.off 0).writeResult q (u.pstate q.page) RC.done))

/-- A write of PROFILE or of an override that passes the checks stores its value, page 0x00 then shows PENDING or RUNNING, and
the write is answered DONE. PROFILE_APPLY in PENDING applies the named buses, has their axes' fields checked again, shows what
is still pending and raises PROFILE_APPLIED with the buses that changed; in RUNNING it is answered DONE and changes nothing
else. RTC_SET gives the clock the time of its arguments, as a step where it was unset, and the certificates of the sessions
are checked. A TIME_SYNC from a selected port in the configured domain gives the clock the grandmaster's time, records the
offset, the grandmaster, its port and the path delay, and sets SYNCED. A grandmaster that is lost is noted with the instant;
HOLDOVER_S after it SYNCED clears and the loss is counted. (R9, R12, R68, R71, R108, R129, R132) -/
def Obligations.DeviceTimeComplete : Prop :=
  (∀ (t code gen : Nat) (reg : Fin 3) (value : Word) (s : State), let u := s.start t
    let w : WriteReq := ⟨code, gen, 0, if reg.val = 0 then 0x140 else 0x150 + 4 * (reg.val - 1), value⟩
    u.writeVerdict w = 0 →
    exec (.profileWrite t code gen reg value) s =
      .next (((u.store code 0 w.off value).afterProfile).writeReply w (u.pstate 0) RC.done)) ∧
  (∀ (t : Nat) (q : Req) (s : State), let u := s.start t
    let bs := busesOf (u.arg0 q % 4)
    let changed := bs.filter fun b => u.targetDiffers b
    let v := (u.each bs fun x b => (x.applyBus b).recheckLoops b).each changed fun x b => x.recheckPorts b
    let y := v.setPstate 0 (if v.targetDiffers 0 || v.targetDiffers 1 then 2 else 1)
    u.verdict q cmdProfileApply = 0 → u.pstate 0 = 2 →
    exec (.profileApply t q) s =
      .next ((if changed = [] then y else y.raise 0 0 (changed.foldl (fun m b => m + 2 ^ b) 0)).writeResult q
        (u.pstate q.page) RC.done)) ∧
  (∀ (t : Nat) (q : Req) (s : State), let u := s.start t
    u.verdict q cmdProfileApply = 0 → u.pstate 0 = 1 →
    exec (.profileApply t q) s = .next (u.writeResult q (u.pstate q.page) RC.done)) ∧
  (∀ (t : Nat) (q : Req) (s : State), let u := s.start t
    let n : Nat := u.arg0 q + 2 ^ 32 * u.arg1 q
    let v := u.putClock ((n : Int) - u.now) false
    u.verdict q cmdRtcSet = 0 →
    exec (.rtcSet t q) s =
      .next (((if u.clockUnset then v.timeStep ((n : Int) - u.time) else v).writeResult q (u.pstate q.page)
        RC.done).verifySessions)) ∧
  (∀ (t : Nat) (port : Fin 4) (domain delayNs gmId gmTime : Nat) (s : State), let u := s.start t
    let off : Int := (u.time : Int) - gmTime
    let v := (u.putClock ((gmTime : Int) - u.now) false).putHost { u.host with gmLost := none }
    let v := ((v.setSfld 0 Dev.TIME_OFFSET (saturateSigned 32 off)).setFld 0 Dev.TIME_STATUS_SYNCED 1).setFld 0
      Dev.TIME_STATUS_GM_PRESENT 1
    let v := ((v.setFld 0 Dev.TIME_STATUS_FROM_RTC 0).setFld 0 Dev.TIME_STATUS_PORT port).timeStep (-off)
    let v := if v.fld64 0 Dev.GM_ID_LO = gmId % 2 ^ 64 then v else (v.setFld64 0 Dev.GM_ID_LO gmId).raise 0 4
    let v := (v.setFld 5 Pt.PTP_PORT_PDELAY_NS delayNs port).setFld 5 Pt.PTP_PORT_AS_CAPABLE 1 port
    bitAt (u.fld 5 Pt.PTP_CFG_PORT_MASK) port = true → domain = u.fld 5 Pt.PTP_CFG_DOMAIN →
    exec (.timeSync t port domain delayNs gmId gmTime) s = .next ((v.ptpRoles.level 0 1 true).verifySessions)) ∧
  (∀ (t : Nat) (s : State), let u := s.start t
    u.flag 0 Dev.TIME_STATUS_GM_PRESENT = true →
    exec (.grandmasterLost t) s =
      .next (((u.setFld 0 Dev.TIME_STATUS_GM_PRESENT 0).putHost { u.host with gmLost := some u.now }).ptpRoles)) ∧
  (∀ (t x : Nat) (s : State), let u := s.start t
    u.host.gmLost = some x → u.flag 0 Dev.TIME_STATUS_SYNCED = true →
    x + u.fld 0 Dev.HOLDOVER_S * 1000000000 ≤ u.now →
    exec (.holdoverExpiry t) s =
      .next (((((u.setFld 0 Dev.TIME_STATUS_SYNCED 0).setFld 0 Dev.TIME_STATUS_FROM_RTC 1).bump 0 Dev.SYNC_LOSS_COUNT).level 0 1
        false)))

/-- At its due instant a lane that runs takes its cycle boundary and sets the next one a period later; the EXCHANGE, RECEIPT
and COMPARE frames of a lane of which a good copy reaches the other lane are taken there; each lane sends its receipt when the
exchange is due, and the receipt deadline settles an exchange that stayed open; a cycle's outputs, its overrun and its commit
end it. (R17, R77, R164, R170, R171) -/
def Obligations.ExchangeRowsComplete : Prop :=
  (∀ (t : Nat) (l : Lane) (x : LaneSense) (s : State) (b : Nat), let u := s.start t
    let v := (u.senses l x).memSenses l x
    (u.cle l).nextTb = some b → b ≤ u.now + u.cyclePeriod l / 20 → 3 ≤ u.laneState l → 3 ≤ v.laneState l →
    v.pstate (clePage l) ≠ 2 → (v.cle l).early = none →
    exec (.cycleBoundary t l x) s =
      .next ((let y := v.setCle l { v.cle l with lastTb := v.now, early := none }
        y.setCle l { y.cle l with nextTb := some (y.now + y.cyclePeriod l * 1000) }).atBoundary l)) ∧
  (∀ (t : Nat) (l : Lane) (s : State), let u := s.start t
    (u.cle l).owesReceipt = true → (u.cle l).lastTb + 20000 ≤ u.now → (u.cle l).got.isSome = true →
    exec (.exchangeDeadline t l) s =
      .next (((u.setCle l { u.cle l with owesReceipt := false }).sendFrame l 3 [1]).settleExchange l)) ∧
  (∀ (t : Nat) (l : Lane) (s : State), let u := s.start t
    (u.cle l).exchOpen = true → (u.cle l).lastTb + 24000 ≤ u.now → (u.cle l).sentReceipt.isSome = true →
    exec (.receiptDeadline t l) s = .next (u.settleExchange l true)) ∧
  (∀ (t : Nat) (l : Lane) (c : Copies) (s : State), let u := s.start t
    let o := l.other
    let v := (u.receiveFrame o c).1
    (u.receiveFrame o c).2 = true →
    (u.cle l).nextTb.isSome = true → 3 ≤ u.laneState l → u.now ≤ (u.cle l).lastTb + 20000 → 3 ≤ v.laneState o →
    (v.cle o).exchOpen = true → (v.cle o).got = none → (v.cle o).sentReceipt = none → v.now ≤ (v.cle o).lastTb + 20000 →
    exec (.exchangeFrame t l c) s = .next ((v.takeFrame l (u.cle l).sent).settleExchange o)) ∧
  (∀ (t : Nat) (l : Lane) (c : Copies) (s : State), let u := s.start t
    let o := l.other
    let v := (u.receiveFrame o c).1
    (u.receiveFrame o c).2 = true →
    (u.cle l).owesReceipt = false → (u.cle l).sentReceipt = some true → (v.cle o).exchOpen = true → (v.cle o).receipt = none →
    v.now ≤ (v.cle o).lastTb + 24000 →
    exec (.receiptFrame t l c) s = .next ((v.setCle o { v.cle o with receipt := some true }).settleExchange o)) ∧
  (∀ (t : Nat) (l : Lane) (c : Copies) (f : Nat × List Word) (s : State), let u := s.start t
    let o := l.other
    let v := (u.receiveFrame o c).1
    (u.receiveFrame o c).2 = true → (u.cle l).compareSent = some f →
    exec (.compareFrame t l c) s = .next ((v.setCle o { v.cle o with compareGot := some f }).compareNow o)) ∧
  (∀ (t : Nat) (l : Lane) (s : State), let u := (s.start t).scanEnd l
    u.pstate (clePage l) = 2 → (u.cle l).phase = .output → u.now ≤ (u.cle l).deadline →
    exec (.outputPhaseEnd t l) s = .next (u.finishCycle l)) ∧
  (∀ (t : Nat) (l : Lane) (s : State), let u := s.start t
    u.pstate (clePage l) = 2 → (u.cle l).phase = .compute → (u.cle l).deadline ≤ u.now →
    exec (.cycleDeadline t l) s =
      .next (let n := (u.cle l).running.getD 0xFF
        u.cleFault l Cause.overrun n ((u.cle l).tasks.rd {} n).pc)) ∧
  (∀ (t : Nat) (l : Lane) (m : Commit) (s : State), let u := s.start t
    let p := clePage l
    let us := saturate 16 ((u.now - m.since) / 1000)
    (u.cle l).commit = some m → m.since + 5 * m.bytes ≤ u.now → m.snap.full = false →
    exec (.retainCommitDone t l) s =
      .next (let v := u.setCle l ({ u.cle l with commit := none }.setSnap m.buf m.snap)
        let v := v.setFld p Ce.RETAIN_COMMIT_LAST_US us
        v.setFld p Ce.RETAIN_COMMIT_MAX_US (max us (v.fld p Ce.RETAIN_COMMIT_MAX_US))))

/-- MARK moves lane B's next boundary by at most 50 ns towards the alignment where a good copy of it is heard; an IDLE frame
is sent with its number and its copy taken at the other end of its link; HELLO is sent and, where a copy arrives, taken and
answered; JOIN shows its progress; MIRROR carries the record due; a link signal starts training, training ends after 10 ms, a
silent link goes down; FREQ_LIMIT takes both links of both lanes down and its end frees them. (R77, R78, R79, R80, R81, R82,
R83) -/
def Obligations.CrossingFramesComplete : Prop :=
  (∀ (t a b : Nat) (d : Int) (c : Copies) (s : State), let u := s.start t
    let r := (u.sendFrame .a 1 [a]).receiveFrame .b c
    let v := r.1
    (u.cle .a).nextTb = some a → r.2 = true → (v.cle .b).nextTb = some b → v.alignNs b = some d → d.natAbs ≤ 2000 →
    exec (.markFrame t c) s =
      .next (v.setCle .b { v.cle .b with nextTb := some ((b : Int) - max (-50) (min 50 d)).toNat })) ∧
  (∀ (t : Nat) (l : Lane) (k : Fin 2) (c : Copy) (s : State), let u := s.start t
    let x := u.lane l
    let n := (x.seqs.rd 0 0 + 1) % 2 ^ 16
    let v := u.setLane l { x with seqs := x.seqs.wr 0 0 n }
    x.sending = true →
    exec (.idleFrame t l k c) s =
      .next ((v.send .frame [l.num, k, (x.link k).state, 0, n, v.gen (lanePage l)]).takeCopy l.other k c)) ∧
  (∀ (t : Nat) (l : Lane) (c : Copies) (s : State), let u := s.start t
    let r := (u.sendHello l).arrives l.other c
    r.2 = true → exec (.helloFrame t l c) s = .next (r.1.hello l)) ∧
  (∀ (t : Nat) (l : Lane) (c : Copies) (x : JoinPart) (s : State), let u := s.start t
    let p := lanePage l.other
    let r := (u.sendFrame l 7 ([x.pass, x.addr] ++ u.joinBytes l x)).receiveFrame l.other c
    u.leads l = true → r.2 = true → x.pass = 1 →
    exec (.joinFrame t l c x) s =
      .next (let v := r.1.setFld p Ln.JOIN_STATUS_PASSES (max (r.1.fld p Ln.JOIN_STATUS_PASSES) 1)
        v.setFld p Ln.JOIN_STATUS_PCT (max (v.fld p Ln.JOIN_STATUS_PCT) x.pct.val))) ∧
  (∀ (t : Nat) (l : Lane) (c : Copies) (r : VatCurd) (s : State), let u := s.start t
    let v := u.vat l
    let x := ((u.setVat l { v with sendNext := r.seq + 1 }).sendFrame l 6 ([r.seq, v.gotNext] ++ r.bytes)).receiveFrame l.other c
    2 ≤ u.laneState l → ((u.cle l).phase = .idle ∨ (u.cle l).phase = .done) →
    ((u.lane l).link0.state = 2 ∨ (u.lane l).link1.state = 2) → v.nextMirror l v.sendNext = some r →
    x.2 = true → 2 ≤ x.1.laneState l.other →
    exec (.mirrorFrame t l c) s = .next ((x.1.receiveMirror l.other r).mirrorReport l.other v.gotNext)) ∧
  (∀ (t : Nat) (l : Lane) (k : Fin 2) (s : State), let u := s.start t
    let x := (u.lane l).link k
    x.state = 0 → u.linkAlive l = true → (u.lane l.other).sending = true →
    exec (.linkSignalDetect t l k) s =
      .next (u.setLink l k { x with
        state := 1, goodSince := u.now, lastSignal := u.now, other := ((u.lane l.other).link k).state })) ∧
  (∀ (t : Nat) (l : Lane) (k : Fin 2) (s : State), let u := s.start t
    let x := (u.lane l).link k
    x.state = 1 → u.linkAlive l = true → x.goodSince + 10000000 ≤ u.now → x.other ≠ 0 →
    exec (.linkTrainDone t l k) s =
      .next (let v := u.setLink l k { x with state := 2, lastValid := u.now, fails := [] }
        ((if l = v.servingLane then v.raise 3 1 k else v).mirrorAgain l).sendHello l)) ∧
  (∀ (t : Nat) (l : Lane) (k : Fin 2) (s : State), let u := s.start t
    ((u.lane l).link k).state = 2 → ((u.lane l).link k).lastValid + 100000 ≤ u.now →
    exec (.linkTimeout t l k false) s = .next (u.linkDown l k)) ∧
  (∀ (t : Nat) (s : State), let u := s.start t
    let v := u.setLane .a { u.lane .a with freqHeld := true }
    let v := v.setLane .b { v.lane .b with freqHeld := true }
    u.stood u.pair.above = true →
    exec (.freqLimit t) s = .next (((((v.linkDown .a 0).linkDown .a 1).linkDown .b 0).linkDown .b 1).level 3 8 true)) ∧
  (∀ (t : Nat) (s : State), let u := s.start t
    let v := u.setLane .a { u.lane .a with freqHeld := false }
    u.stood u.pair.below = true →
    exec (.freqLimitClear t) s = .next ((v.setLane .b { v.lane .b with freqHeld := false }).level 3 8 false))

/-- A lane whose boot is done is noted running and the boots of both lanes are settled; a lane that waited two seconds for its
partner starts ALONE; JOIN_COMMIT copies the leader's engine and makes both lanes ALIGNED; the join limit fails the join; the
retry settles the boot; a SPLIT lane whose partner's heartbeats are gone goes ALONE; ACK_REJOIN makes both lanes ALIGNED;
CROSSING_COUNTERS_CLEAR clears the counters of page 0x03; TAKEOVER_MS is stored. (R84, R85, R92, R95, R100, R113, R117) -/
def Obligations.LaneLifeRowsComplete : Prop :=
  (∀ (t : Nat) (l : Lane) (s : State), let u := s.start t
    let r := u.lane l
    let v := ((u.setLane l { r with phase := .running, bootDone := some u.now }).fwBoots (fwInstance l)).setFld 4 (bootMs l)
      (saturate 16 ((u.now - r.releasedAt) / 1000000))
    r.phase = .booting → r.loaded = true → r.fwBad = false → (l = .a ∨ u.power.sharedAt = none) → u.pstate 4 = 1 →
    exec (.bootComplete t l) s = .next (v.firstProfile.settleBoots)) ∧
  (∀ (t x : Nat) (l : Lane) (s : State), let u := s.start t
    let r := u.lane l
    r.bootDone = some x → u.laneState l = 1 → r.join.retryAt = none → x + 2000000000 ≤ u.now → r.hello = none →
    exec (.bootWaitExpiry t l) s = .next ((u.startAlone l).settleBoot l.other)) ∧
  (∀ (t : Nat) (l : Lane) (s : State), let u := s.start t
    let o := l.other
    u.leads o = true → (u.cle o).phase = .idle → (u.cle o).waiting = false → u.laneState o = 3 →
    exec (.joinCommit t l) s =
      .next (let v := ((u.copyEngine l).setFld (lanePage l) Ln.JOIN_STATUS_PCT 100).raise (lanePage l) 2
        ((((v.setLane l { v.lane l with join := { resync := false } }).setLaneState o 4).setLaneState l 4).restoreMap l))) ∧
  (∀ (t : Nat) (l : Lane) (s : State), let u := s.start t
    u.laneState l = 2 → (u.lane l).join.since + u.fld (lanePage l) Ln.JOIN_LIMIT_S * 1000000000 ≤ u.now →
    exec (.joinLimitExpiry t l) s = .next (u.joinFails l)) ∧
  (∀ (t x : Nat) (l : Lane) (s : State), let u := s.start t
    (u.lane l).join.retryAt = some x → x ≤ u.now →
    exec (.joinRetry t l) s =
      .next ((u.setLane l { u.lane l with join := { (u.lane l).join with retryAt := none } }).settleBoot l)) ∧
  (∀ (t : Nat) (l : Lane) (s : State), let u := s.start t
    u.laneState l = 5 →
    (ownedPages.all fun p => !(u.beat p l.other).present && decide ((u.beat p l.other).since + u.takeoverNs ≤ u.now)) = true →
    exec (.splitPartnerTimeout t l) s = .next (u.setLaneState l 3)) ∧
  (∀ (t : Nat) (q : Req) (s : State), let u := s.start t
    u.verdict q cmdAckRejoin = 0 →
    exec (.ackRejoin t q) s =
      .next (State.writeResult (
        let v := ((u.setLaneState .a 4).setLaneState .b 4).clearRejoin.safetyRejoin
        let v := if (v.lane .a).join.resync then v.restoreMap .a else v
        if (v.lane .b).join.resync then v.restoreMap .b else v) q (u.pstate q.page) RC.done)) ∧
  (∀ (t : Nat) (q : Req) (s : State), let u := s.start t
    u.verdict q cmdCrossingClear = 0 →
    exec (.crossingCountersClear t q) s =
      .next (([0x108, 0x10C, 0x110, 0x11C, 0x120, 0x124].foldl (fun v o => v.setReg 3 o 0) u).writeResult q
        (u.pstate q.page) RC.done)) ∧
  (∀ (t : Nat) (w : WriteReq) (s : State), let u := s.start t
    let w3 : WriteReq := { w with page := 3, off := Xg.TAKEOVER_MS.off }
    u.writeVerdict w3 = 0 →
    exec (.takeoverMsWrite t w) s = .next ((u.store w.code 3 w3.off w.value).writeReply w3 (u.pstate 3) RC.done))

/-- An ownership opcode that a lane issues under the present generation on an owned page waits for its arbitration window with
its argument; 1 us later, with no other request in the window, it is decided, and what waited behind it is served; OWN_MOVE,
RELEASE_ALL and LANE_RESYNC are answered; a move 100 ms old ends ABORTED; a retry issues what the errand still needs; an offer
and a request close when their time is over. (R89, R90, R91, R96, R97) -/
def Obligations.OwnershipRequestsComplete : Prop :=
  (∀ (t : Nat) (q : Req) (s : State), let u := s.start t
    let r := u.resRec q.page
    u.holds q.page q.code = false → u.retired = false → pageUsed q.page = true → q.gen = u.gen q.page → (pageKind q.page).owned = true → (q.code = 1 ∨ q.code = 2) →
    exec (.ownOffer t q) s = .next (u.setRes q.page { r with arb := r.arb ++ [⟨q, 0xE0, u.arg0 q, u.now, false⟩] }) ∧
    exec (.ownAccept t q) s = .next (u.setRes q.page { r with arb := r.arb ++ [⟨q, 0xE1, u.arg0 q, u.now, false⟩] }) ∧
    exec (.ownWithdraw t q) s = .next (u.setRes q.page { r with arb := r.arb ++ [⟨q, 0xE2, u.arg0 q, u.now, false⟩] }) ∧
    exec (.ownRequest t q) s = .next (u.setRes q.page { r with arb := r.arb ++ [⟨q, 0xE3, u.arg0 q, u.now, false⟩] })) ∧
  (∀ (t page : Nat) (r : ArbReq) (s : State), let u := s.start t
    let v := u.setRes page { u.resRec page with arb := [] }
    let x := ((v.ownDecide r).settleErrands).ownArbitrate page
    (u.resRec page).arb = [r] → r.since + 1000 ≤ u.now →
    exec (.ownArbitration t page) s = .next (x.serveHeldPage page (x.resRec page).held.length)) ∧
  (∀ (t : Nat) (l : Lane) (q : Req) (s : State), let u := s.start t
    q.page = lanePage l → u.verdict q cmdOwnMove = 0 →
    exec (.ownMove t q) s =
      .next (if u.owner q.chan = l.num then u.writeResult q (u.pstate q.page) RC.done
        else ((u.beginMove l q.chan 0).openCmd q 1).writeResult q (u.pstate q.page) RC.accepted)) ∧
  (∀ (t page : Nat) (l : Lane) (e : OwnErrand) (s : State), let u := s.start t
    u.errands l = [e] → e.page = page → e.kind ≠ 1 → e.offered = false → e.since + 100000000 ≤ u.now →
    exec (.ownMoveTimeout t l page) s = .next ((u.endMove l page RC.aborted).setErrands l [])) ∧
  (∀ (t : Nat) (l : Lane) (q : Req) (s : State), let u := s.start t
    q.page = lanePage l → u.verdict q cmdReleaseAll = 0 →
    exec (.releaseAll t q) s =
      .next ((((u.each (ownedPages.filter fun p => u.owner p == l.num) fun s p => s.beginErrand l p 1 Own.offer).openCmd q
        2).writeResult q (u.pstate q.page) RC.accepted).settleErrands)) ∧
  (∀ (t : Nat) (q : Req) (s : State), let u := s.start t
    u.verdict q cmdLaneResync = 0 →
    exec (.laneResync t q) s =
      .next (let v := u.writeResult q (u.pstate q.page) RC.done
        ((v.setCle .b ((v.cle .b).abandon)).setCleState .b 0).beginJoin .b true)) ∧
  (∀ (t page n : Nat) (l : Lane) (e : OwnErrand) (s : State), let u := s.start t
    let v := u.setErrands l [{ e with nextAt := none }]
    u.errands l = [e] → e.page = page → e.nextAt = some n → n ≤ u.now → e.kind ≠ 1 → v.holds page l.num = false →
    v.owner page ≠ l.num →
    exec (.ownRetry t l page) s =
      .next (v.ownIssue l page (if v.fld 3 Xg.OWN_STATE_OFFER page = l.num then Own.accept else Own.request))) ∧
  (∀ (t page : Nat) (s : State), let u := s.start t
    u.fld 3 Xg.OWN_STATE_OFFER page ≠ 0 → (u.resRec page).offerAt + (u.resRec page).offerMs * 1000000 ≤ u.now →
    exec (.offerExpiry t page) s =
      .next ([Lane.a, Lane.b].foldl (fun v l =>
        (v.setErrands l (((v.errands l).filter fun e => !(e.kind == 1 && e.page == page)).map fun e =>
          if e.page = page then { e with offered := false } else e)).settleRelease l)
        (u.setFld 3 Xg.OWN_STATE_OFFER 0 page))) ∧
  (∀ (t page : Nat) (s : State), let u := s.start t
    u.fld 3 Xg.OWN_STATE_REQUEST page ≠ 0 → (u.resRec page).requestAt + 100000000 ≤ u.now →
    exec (.requestExpiry t page) s = .next (u.setFld 3 Xg.OWN_STATE_REQUEST 0 page))

/-- A heartbeat of an absent lane makes it present at an owned resource from this instant, and the owner's lets the resource
accept commands; 500 us without an advance make the lane absent; a resource whose owner has been absent and the other lane
present for TAKEOVER_MS changes owner with cause 2. (R34, R86, R87) -/
def Obligations.HeartbeatsAndTakeoverComplete : Prop :=
  (∀ (t page count : Nat) (l : Lane) (s : State), let u := s.start t
    let b := u.beat page l
    let v := u.setBeat page l { b with
      count := some (count % 256), state := u.laneState l, present := true, since := u.now, last := u.now }
    (pageKind page).owned = true → (u.lane l).heartbeats = true → b.present = false → b.count ≠ some (count % 256) →
    page ≠ 0x48 →
    exec (.heartbeat t l page count) s =
      .next (if v.owner page = l.num then v.setRes page { v.resRec page with accepted := true } else v)) ∧
  (∀ (t page : Nat) (l : Lane) (s : State), let u := s.start t
    let b := u.beat page l
    b.present = true → b.last + 500000 ≤ u.now → pageKind page ≠ .axis →
    exec (.heartbeatLapse t l page) s = .next (u.setBeat page l { b with present := false, since := u.now })) ∧
  (∀ (t page : Nat) (l : Lane) (s : State), let u := s.start t
    laneOf? (u.owner page) = some l → (u.beat page l).present = false → (u.beat page l.other).present = true →
    (u.beat page l).since + u.takeoverNs ≤ u.now → (u.beat page l.other).since + u.takeoverNs ≤ u.now →
    exec (.takeover t page) s = .next ((u.changeOwner page l.other 2).settleErrands))

/-- Power on with a supply present and the common rail down starts the block; a lane's supply going is noted, counted as an
interrupt and reported; its return is noted and starts the wait of the reset; 10 ms without supply start the shutdown; 1.5 ms
after a reset the Crossing is quiet; a watchdog, a fatal error and an over-temperature reset the lane; the hold ends 20 ms
after it began and after its cause has ended, and the lane boots. (R104, R105, R110, R111, R113) -/
def Obligations.SupplyRowsComplete : Prop :=
  (∀ (t : Nat) (f : PowerFound) (s : State), let u := s.start t
    u.power.common = false → ((u.lane .a).supply = true ∨ (u.lane .b).supply = true) →
    exec (.powerOn t f) s = .next (u.poweredOn f)) ∧
  (∀ (t : Nat) (l : Lane) (f : BootFound) (s : State), let v := (s.start t).release l
    (v.lane l).phase = .booting → (v.lane l).loaded = false → (v.lane l).fwBad = false →
    exec (.resetRelease t l f) s = .next ((v.bootMeasures f.hold).boot l f)) ∧
  (∀ (t : Nat) (l : Lane) (s : State), let u := s.start t
    let r := u.lane l
    let v := ((u.setLane l { r with supply := false, absentAt := u.now }).bump 4 (interrupts l)).raise 4 0 l.num
    r.supply = true → (r.phase = .running ∨ r.phase = .booting) → v.pstate 4 ≠ 3 →
    exec (.laneSupplyAbsent t l) s = .next v) ∧
  (∀ (t : Nat) (l : Lane) (s : State), let u := s.start t
    (u.lane l).supply = false →
    exec (.laneSupplyPresent t l) s = .next ((u.setLane l { u.lane l with supply := true }).causeOver l)) ∧
  (∀ (t : Nat) (l : Lane) (s : State), let u := s.start t
    let v := (u.raise 4 1 l.num).laneReset l 2
    (u.lane l).supply = false → (u.lane l).absentAt + 10000000 ≤ u.now → (u.lane l).phase = .running →
    (v.lane l.other).supply = true →
    exec (.supplyLost t l) s = .next v) ∧
  (∀ (t : Nat) (l : Lane) (s : State), let u := s.start t
    let r := u.lane l
    r.phase = .stopping → r.sending = true → r.resetAt + 1500000 ≤ u.now →
    exec (.crossingStop t l) s = .next ((u.setLane l { r with sending := false }).holdLane l)) ∧
  (∀ (t : Nat) (l : Lane) (ms : Fin 40) (s : State), let u := s.start t
    let r := u.lane l
    r.phase = .shutdown → r.sending = false → r.shutAt + 50000000 ≤ u.now →
    exec (.laneShutdownDone t l ms) s = .next ((u.shutdownVat l ms).holdLane l)) ∧
  (∀ (t c : Nat) (l : Lane) (s : State), let u := s.start t
    let r := u.lane l
    r.causeEnd = some c → r.phase = .held → r.heldAt + 20000000 ≤ u.now → c + 20000000 ≤ u.now → u.power.common = true →
    exec (.laneResetHoldEnd t l) s =
      .next (let v := u.setLane l { r with phase := .booting, releasedAt := u.now, loaded := false, stay := false, fwBad := false }
        let v := (v.setLaneState l 1).setFld (lanePage l) Ln.LANE_INFO_CAUSE (laneCause r.resetCode)
        (if 2 ≤ r.resetCode then v.raise 4 5 r.resetCode else v).selfTest)) ∧
  (∀ (t : Nat) (s : State), let u := s.start t
    u.power.common = true → (u.lane .a).supply = false → (u.lane .b).supply = false →
    (u.lane .a).absentAt + 60000000 ≤ u.now → (u.lane .b).absentAt + 60000000 ≤ u.now →
    exec (.commonRailFall t) s = .next ((u.putPower { u.power with common := false }).wholeReset 0 u.bootCount ⟨true, true⟩)) ∧
  (∀ (t : Nat) (l : Lane) (s : State), exec (.laneWatchdog t l) s = .next ((s.start t).laneReset l 3)) ∧
  (∀ (t addr : Nat) (l : Lane) (s : State), let u := s.start t
    (u.lane l).phase = .running →
    exec (.laneFatal t l 0 addr) s = .next (u.laneFatal l 16) ∧
    exec (.laneFatal t l 1 addr) s = .next ((u.collision l 0 1 addr).laneFatal l 17) ∧
    exec (.laneFatal t l 2 addr) s = .next ((u.eccUncorrected l 1 addr).laneFatal l 18) ∧
    exec (.laneFatal t l 3 addr) s = .next (u.laneFatal l 19)) ∧
  (∀ (t : Nat) (l : Lane) (s : State), let u := s.start t
    (u.lane l).phase = .running →
    exec (.laneOvertemp t l) s = .next ((u.setLane l { u.lane l with overTemp := true }).laneReset l 6)) ∧
  (∀ (t : Nat) (l : Lane) (s : State), let u := s.start t
    exec (.laneTempRecover t l) s = .next ((u.setLane l { u.lane l with overTemp := false }).causeOver l))

/-- The cell voltage is shown; a motor bus that comes starts its pre-charge and is READY 100 ms later; one that goes is taken
away; an over-voltage in READY trips the drives and shows OVERVOLT until it recovers; a rail of a lane, a field supply that
comes or goes and the limit of the field power are noted. (R104, R108, R122, R317, R347, R413, R429, R443, R624, R627) -/
def Obligations.BusAndRailRowsComplete : Prop :=
  (∀ (t mv : Nat) (s : State), let u := s.start t
    exec (.cellMeasure t mv) s =
      .next ((u.setFld 4 Pw.V_CELL (saturate 16 mv)).level 4 4 (decide (mv < 2900)))) ∧
  (∀ (t : Nat) (b : Fin 2) (s : State), let u := s.start t
    let v := (u.setBusPresent b true).showSupplies b
    u.busPresent b = false → v.power.common = true →
    exec (.motorBusPresent t b) s = .next ((v.setBus b { v.bus b with presentAt := some v.now }).setBusState b 1)) ∧
  (∀ (t x : Nat) (b : Fin 2) (s : State), let u := s.start t
    (u.bus b).presentAt = some x → u.fld 0x0E Ra.BUS_STATUS_STATE b = 1 → x + 100000000 ≤ u.now →
    exec (.prechargeDone t b) s = .next (((u.setBus b { u.bus b with presentAt := none }).setBusState b 2).settle b)) ∧
  (∀ (t : Nat) (b : Fin 2) (s : State), let u := s.start t
    u.busPresent b = true → exec (.motorBusAbsent t b) s = .next (u.motorBusAbsent b)) ∧
  (∀ (t : Nat) (b : Fin 2) (s : State), let u := s.start t
    u.fld 0x0E Ra.BUS_STATUS_STATE b = 2 →
    exec (.busOvervolt t b) s = .next (((u.busTrip b 6).setBusState b 3).settle b)) ∧
  (∀ (t : Nat) (b : Fin 2) (s : State), let u := s.start t
    u.fld 0x0E Ra.BUS_STATUS_STATE b = 3 → exec (.busOvRecover t b) s = .next ((u.setBusState b 2).settle b)) ∧
  (∀ (t : Nat) (l : Lane) (s : State), let u := s.start t
    u.power.rail.of l = true →
    exec (.lsRailAbsent t l) s = .next ((u.railChanged l false).showSupplies (l.num + 1)) ∧
    exec (.lsRailOvervolt t l) s = .next ((u.railChanged l false).showSupplies (l.num + 1))) ∧
  (∀ (t : Nat) (l : Lane) (s : State), let u := s.start t
    u.power.rail.of l = false → exec (.lsRailPresent t l) s = .next ((u.railChanged l true).showSupplies (l.num + 1))) ∧
  (∀ (t : Nat) (n : Fin 16) (s : State), let u := s.start t
    let v := u.putPower { u.power with field := setBit u.power.field n false }
    bitAt u.power.field n = true →
    exec (.fieldSupplyAbsent t n) s = .next ((v.fieldSupplyChanged (0x30 + n)).showSupplies (n + 16))) ∧
  (∀ (t : Nat) (n : Fin 16) (s : State), let u := s.start t
    let v := u.putPower { u.power with field := setBit u.power.field n true }
    bitAt u.power.field n = false →
    exec (.fieldSupplyPresent t n) s = .next ((v.fieldSupplyChanged (0x30 + n)).showSupplies (n + 16))) ∧
  (∀ (t load : Nat) (s : State), let u := s.start t
    let limiting := decide (750 < load) || u.flag 4 Pw.FIELD_POWER_LIMITING && decide (700 ≤ load)
    exec (.fieldPowerLimit t load) s =
      .next (((u.setFld 4 Pw.FIELD_POWER_LIMITING (bool01 limiting)).setFld 4 Pw.FIELD_POWER_P_DW (min load 750)).level 4 10
        limiting (min load 750)))

/-- DEVICE_RESET is answered and fires 10 ms later with its argument kept; LANE_RESET resets the named lane with code 4;
MGMT_RESET resets management with code 8 and its watchdog with code 7; POWER_DOWN_PREP asks both engines to stop and is
answered ACCEPTED, and DONE once both have stopped; a stage resets itself. (R59, R109, R110, R111, R123, R124, R272, R488,
R594) -/
def Obligations.ResetCommandsComplete : Prop :=
  (∀ (t : Nat) (q : Req) (s : State), let u := s.start t
    u.verdict q cmdDeviceReset = 0 →
    exec (.deviceReset t q) s =
      .next ((u.putPower { u.power with resetFire := some (u.now + 10000000, u.arg0 q % 4) }).writeResult q (u.pstate q.page)
        RC.done)) ∧
  (∀ (t x arg : Nat) (f : SlotFound) (s : State), let u := s.start t
    let v := u.answerAll.wholeReset 1 (u.answerAll.bootCount + 1) f
    u.power.resetFire = some (x, arg) → x ≤ u.now →
    exec (.deviceResetFire t f) s = .next ((v.putPower { v.power with restartArg := arg }).raise 4 5 1)) ∧
  (∀ (t : Nat) (q : Req) (s : State), let u := s.start t
    u.verdict q cmdLaneReset = 0 →
    exec (.laneReset t q) s =
      .next (((u.writeResult q (u.pstate q.page) RC.done).resetEndsUpdate).laneReset (laneNum q.chan) 4)) ∧
  (∀ (t : Nat) (q : Req) (f : SlotFound) (s : State), let u := s.start t
    u.verdict q (cmdMgmtReset f) = 0 →
    exec (.mgmtReset t q f) s = .next ((u.writeResult q (u.pstate q.page) RC.done).mgmtReset 8 false f)) ∧
  (∀ (t : Nat) (f : SlotFound) (s : State), let u := s.start t
    u.power.common = true → exec (.mgmtWatchdog t f) s = .next (u.mgmtReset 7 false f)) ∧
  (∀ (t : Nat) (q : Req) (s : State), let u := s.start t
    let stop (v : State) (l : Lane) : State :=
      if v.pstate (clePage l) = 2 ∨ v.pstate (clePage l) = 3 then
        v.setCle l { v.cle l with runCmds := (v.cle l).runCmds ++ [⟨2, 0, 1, false⟩] }
      else v
    let v := stop (stop u .a) .b
    u.verdict q cmdPowerDownPrep = 0 →
    exec (.powerDownPrep t q) s =
      .next (((v.putPower { v.power with prep := some v.now }).openCmd q 4).writeResult q (u.pstate q.page) RC.accepted)) ∧
  (∀ (t x : Nat) (msA msB : Fin 40) (s : State), let u := s.start t
    let down (v : State) (l : Lane) (ms : Nat) : State := if 2 ≤ v.laneState l then (v.shutdownVat l ms).hbStop l 3 else v
    let v := down (down u .a msA) .b msB
    let w := v.putPower { v.power with prep := none }
    u.power.prep = some x → u.pstate 8 ≠ 2 → u.pstate 8 ≠ 3 → u.pstate 9 ≠ 2 → u.pstate 9 ≠ 3 →
    exec (.powerDownDone t msA msB) s =
      .next ((if w.pstate 4 = 1 then w.powerState 3 else w).completeAll (fun o => o.page == 4 && o.opc == 0x04) RC.done)) ∧
  (∀ (t page : Nat) (s : State), let u := s.start t
    (pageKind page).owned = true → pageKind page ≠ .can →
    exec (.stageSelfReset t page) s =
      .next (let v := (((u.answerArb page).takeStartOwner page 3).resetStage page).dropHeld page
        let l := v.reapplier page
        let w := match l with
          | some l => v.reapplyPage l page
          | none => v
        ((w.hostReset page l).resetNoted 9).settleErrands)) ∧
  (∀ (t page : Nat) (s : State), let u := s.start t
    pageKind page = .can → exec (.stageSelfReset t page) s = .next (u.canReset page 9)) ∧
  (∀ (t page : Nat) (s : State), let u := s.start t
    page = 0x60 ∨ page = 0x62 → exec (.stageSelfReset t page) s = .next u.safetyStageReset) ∧
  (∀ (t page : Nat) (s : State), let u := s.start t
    page = 0x0C ∨ page = 0x0D →
    exec (.stageSelfReset t page) s =
      .next ((u.hostReset 0 (if 2 ≤ u.laneState u.servingLane then some u.servingLane else none)).resetNoted 9))

/-- A link that comes up or goes down is shown, counted and reported; an address is taken; an announcement is sent; a
handshake is begun, succeeds or expires; a session ends by its host, by idleness or by expiry; events unacknowledged for 200
ms are sent again; PORT_RESTART takes the port's configuration, CONSIST_REPORT a new topology; CFG_CLAIM and CFG_RELEASE move
the claim; SESSION_CLOSE ends a session; the counters of page 0x06 are cleared. (R134, R145, R150) -/
def Obligations.PortsAndSessionsComplete : Prop :=
  (∀ (t : Nat) (port : Fin 5) (fast : Bool) (s : State), let u := (s.start t).portInForce port
    u.flag 5 Pt.LINK_UP port = false → u.portBit port Pt.PORT_CFG_ENA = true → port ≠ 4 →
    exec (.portLinkUp t port fast) s =
      .next ((((u.setFld 5 Pt.LINK_UP 1 port).setFld 5 Pt.LINK_SPEED (if fast then 2 else 1) port).raise 5 0 port).ptpRoles)) ∧
  (∀ (t : Nat) (port : Fin 5) (s : State), let u := s.start t
    u.flag 5 Pt.LINK_UP port = true → port ≠ 4 →
    exec (.portLinkDown t port) s =
      .next (((((u.setFld 5 Pt.LINK_UP 0 port).setFld 5 Pt.LINK_SPEED 0 port).bump 5 Pt.LINK_DOWNS port).raise 5 1 port).ptpRoles)) ∧
  (∀ (t : Nat) (port : Fin 5) (addr : Word) (s : State), let u := s.start t
    u.portBit port Pt.PORT_CFG_DHCP = true → u.fld 5 Pt.IP_ACTIVE port ≠ addr.toNat →
    exec (.addressChanged t port addr) s =
      .next (let v := (u.setFld 5 Pt.IP_ACTIVE addr.toNat port).raise 5 2 port
        v.each ((List.range 4).filter fun k => (v.slot k).active && (v.slot k).port == port.val) fun x k =>
          x.endSession k Reason.idle false)) ∧
  (∀ (t : Nat) (port : Fin 5) (s : State), let u := s.start t
    let v := u.putHost { u.host with announced := u.host.announced.wr 0 port (u.now + 1) }
    u.flag 5 Pt.ANNOUNCE_ENA = true → u.flag 5 Pt.LINK_UP port = true → u.fld 5 Pt.IP_ACTIVE port ≠ 0 →
    u.announceDue port = true →
    exec (.announce t port) s =
      .next (v.sendOn port (v.fld 5 Pt.MCAST_GROUP) 47101 { kind := .announce, words := [1, 0xA0, 32, 0x3256, unitReg 0 0x108, unitReg 0 0x10C, u.certRef % 2 ^ 32, u.bootCount,
        (List.range 4).foldl (fun m k => if (u.slot k).active then m else m + 2 ^ k) 0, port,
        u.laneState .a + 16 * u.laneState .b, u.pstate 0x74, u.fld 4 Pw.CFG_SEQ] } 1)) ∧
  (∀ (t ip udp : Nat) (port : Fin 5) (o : DtlsOffer) (s : State), let u := s.start t
    let v := u.putHost { u.host with handshakes := u.host.handshakes ++ [⟨port, ip, udp, u.now⟩] }
    u.portTrusted port = true → o.profile = true → u.host.handshakes.length < 8 →
    exec (.clientHello t port ip udp true o) s = .next (v.sendOn port ip udp (dtls port 1))) ∧
  (∀ (t ip udp : Nat) (port : Fin 5) (o : DtlsOffer) (s : State), let u := s.start t
    u.portTrusted port = true → o.profile = true →
    exec (.clientHello t port ip udp false o) s = .next (u.sendOn port ip udp (dtls port 0))) ∧
  (∀ (t : Nat) (port : Fin 5) (c : HostCert) (s : State), let u := s.start t
    let mine (h : Handshake) : Bool := h.port == port.val && h.ip == c.ip && h.udp == c.udp
    let v := u.putHost { u.host with handshakes := u.host.handshakes.filter fun h => !mine h }
    u.host.handshakes.any mine = true → v.certCheck port c = 0 →
    (List.range 4).find? (fun k => (v.slot k).active && (v.slot k).subject == c.subject) = none → (v.slot 0).active = false →
    exec (.handshakeComplete t port c) s =
      .next ((v.openSession 0 {
        subject := c.subject, role := c.role, port := port, ip := c.ip, udp := c.udp
        notBefore := c.notBefore, notAfter := c.notAfter, unverified := v.clockUnset, factory := c.factory } (c.digest % 2 ^ 32)).raise 6 0 (port * 2 ^ 12 + c.role * 2 ^ 8))) ∧
  (∀ (t : Nat) (s : State), let u := s.start t
    exec (.handshakeTimeout t) s =
      .next (u.putHost { u.host with handshakes := u.host.handshakes.filter fun h => u.now < h.since + 5000000000 })) ∧
  (∀ (t : Nat) (slot : Fin 4) (s : State), let u := s.start t
    (u.slot slot).active = true → (u.slot slot).lastDatagram + u.fld 6 Ss.SESSION_TIMEOUT_S * 1000000000 ≤ u.now →
    exec (.sessionIdleTimeout t slot) s = .next (u.endSession slot 1)) ∧
  (∀ (t : Nat) (slot : Fin 4) (s : State), let u := s.start t
    (u.slot slot).active = true → u.clockUnset = false → (u.slot slot).notAfter < u.time →
    exec (.certExpiry t slot) s = .next (u.endSession slot 4)) ∧
  (∀ (t : Nat) (slot : Fin 4) (s : State), exec (.sessionEnd t slot) s = .next ((s.start t).endSession slot 0)) ∧
  (∀ (t : Nat) (slot : Fin 4) (r : QueuedRec) (s : State), let u := s.start t
    let d := u.dest slot
    (u.slot slot).active = true → d.recs = [r] → r.sentAt + 200000000 ≤ u.now →
    exec (.eventResend t slot) s =
      .next ((u.setDest slot { d with recs := [{ r with sentAt := u.now }] }).sendEvents slot [r.record])) ∧
  (∀ (t : Nat) (slot : Fin 4) (s : State), let u := s.start t
    exec (.logHandleIdle t slot) s = .next (u.setSlot slot { u.slot slot with
      handles := (u.slot slot).handles.filter fun h => u.now < h.lastUse + 60000000000 })) ∧
  (∀ (t : Nat) (q : Req) (s : State), let u := s.start t
    u.verdict q cmdPortRestart = 0 →
    exec (.portRestart t q) s = .next (((u.linkLost q.chan).takePort q.chan).writeResult q (u.pstate q.page) RC.done)) ∧
  (∀ (t : Nat) (q : Req) (s : State), let u := s.start t
    u.verdict q cmdConsistReport = 0 → u.fld 5 Pt.CONSIST_TOPO ≠ u.arg0 q →
    exec (.consistReport t q) s =
      .next ((((u.setFld 5 Pt.CONSIST_TOPO (u.arg0 q)).setReg 5 Pt.CONSIST_INFO_COUNT.off
        (BitVec.ofNat 32 (u.arg1 q % 2 ^ 17))).raise 5 4 (u.arg0 q)).writeResult q (u.pstate q.page) RC.done)) ∧
  (∀ (t : Nat) (q : Req) (s : State), let u := s.start t
    u.verdict q cmdCfgClaim = 0 →
    exec (.cfgClaim t q) s = .next ((u.setHolder (some (q.code - 4))).writeResult q (u.pstate q.page) RC.done)) ∧
  (∀ (t : Nat) (q : Req) (s : State), let u := s.start t
    u.verdict q cmdCfgRelease = 0 →
    exec (.cfgRelease t q) s = .next ((u.setHolder none).writeResult q (u.pstate q.page) RC.done)) ∧
  (∀ (t : Nat) (q : Req) (s : State), let u := s.start t
    u.verdict q cmdSessionClose = 0 →
    exec (.sessionClose t q) s = .next ((u.writeResult q (u.pstate q.page) RC.done).endSession q.chan 3)) ∧
  (∀ (t : Nat) (q : Req) (s : State), let u := s.start t
    u.verdict q cmdHostClear = 0 →
    exec (.hostCountersClear t q) s =
      .next ((((u.setFld 6 Ss.SLOTS_FULL_COUNT 0).setFld 6 Ss.AUTH_FAIL_COUNT 0).setReg 6 Ss.LAST_AUTH_FAIL_PORT.off 0).writeResult q
        (u.pstate q.page) RC.done))

/-- For an active session, a well-formed request with the number that is due and no check of the fabric against it: READ
answers its words, WRITE writes its words and answers, COMMAND issues its command and answers its CMD_RESULT, NOP answers,
EVENT_CTRL stops, starts and acknowledges the records, LOG_OPEN opens a handle over its selection, LOG_READ gives bytes,
LOG_CLOSE closes the handle. A request held for 10 ms above a gap lets the gap be declared lost. (R136, R137, R138, R139,
R141, R143, R144) -/
def Obligations.HanucaRequestsComplete : Prop :=
  (∀ (t : Nat) (slot : Fin 4) (req : HanucaReq) (env : ReqEnv) (s : State), let u := s.start t
    let r := { req with typ := 1 }
    let w := u.atTurn slot r
    let p := w.readWords r.page r.off (4 + slot) r.count
    u.takesNow slot r → w.partDown r.page = false → pageUsed r.page = true → r.gen = 0 ∨ r.gen = w.gen r.page →
    w.hostRight (4 + slot) r.page Right.read = true →
    exec (.hanucaRead t slot req env) s =
      .next (State.turnOver (p.1, pageReply slot r RC.done (w.pstate r.page) p.2) u slot r env)) ∧
  (∀ (t : Nat) (slot : Fin 4) (req : HanucaReq) (env : ReqEnv) (s : State), let u := s.start t
    let r := { req with typ := 2 }
    let w := u.atTurn slot r
    let a := w.writeWords env ((r.writes slot).filter fun x => x.off < 0x100) 0
    let b := a.1.writeOnce r.page env ((r.writes slot).filter fun x => 0x100 ≤ x.off) a.2
    u.takesNow slot r → w.partDown r.page = false → pageUsed r.page = true →
    firstVerdict ((r.writes slot).map w.messageVerdict) = 0 →
    exec (.hanucaWrite t slot req env) s =
      .next (State.turnOver (b.1, pageReply slot r b.2 (w.pstate r.page) []) u slot r env)) ∧
  (∀ (t : Nat) (slot : Fin 4) (req : HanucaReq) (env : ReqEnv) (s : State), let u := s.start t
    let r := { req with typ := 3 }
    let w := u.atTurn slot r
    let v := ((w.setReg r.page 0x34 (r.words.getD 0 0) (4 + slot)).setReg r.page 0x38 (r.words.getD 1 0) (4 + slot)).anyWrite
      ⟨4 + slot, r.gen, r.page, 0x30, r.words.getD 2 0⟩ env.found env.us
    let c := commandAnswer v.out
    u.takesNow slot r → w.partDown r.page = false → pageUsed r.page = true → w.retired = false → r.gen = w.gen r.page →
    c % 256 ≠ RC.busy →
    exec (.hanucaCommand t slot req env) s =
      .next (State.turnOver (v, pageReply slot r (c % 256) (c / 256 % 256) [c]) u slot r env)) ∧
  (∀ (t : Nat) (slot : Fin 4) (req : HanucaReq) (env : ReqEnv) (s : State), let u := s.start t
    let r := { req with typ := 4 }
    let w := u.atTurn slot r
    u.takesNow slot r →
    exec (.hanucaNop t slot req env) s = .next (State.turnOver (w, bareReply slot r 0 (w.outstanding slot) 0 0) u slot r env)) ∧
  (∀ (t : Nat) (slot : Fin 4) (req : HanucaReq) (env : ReqEnv) (s : State), let u := s.start t
    let r := req.action 0
    let w := u.atTurn slot r
    u.takesNow slot r →
    exec (.eventCtrlStop t slot req env) s =
      .next (State.turnOver (w.setSlot slot { w.slot slot with streaming := false }, bareReply slot r 0 0 0 0) u slot r env)) ∧
  (∀ (t : Nat) (slot : Fin 4) (req : HanucaReq) (env : ReqEnv) (s : State), let u := s.start t
    let r := req.action 1
    let w := u.atTurn slot r
    u.takesNow slot r →
    exec (.eventCtrlStart t slot req env) s =
      .next (State.turnOver (w.setSlot slot { w.slot slot with streaming := true }, bareReply slot r 0 0 0 0) u slot r env)) ∧
  (∀ (t : Nat) (slot : Fin 4) (req : HanucaReq) (env : ReqEnv) (s : State), let u := s.start t
    let r := req.action 2
    let w := u.atTurn slot r
    let above (n : Nat) : Bool := decide (2 ^ 31 ≤ (r.w 1 + 2 ^ 32 - n) % 2 ^ 32)
    let v := (w.setDest slot { w.dest slot with recs := (w.dest slot).recs.filter fun x => above x.record.seq }).queueHigh
    u.takesNow slot r →
    exec (.eventCtrlAck t slot req env) s = .next (State.turnOver (v, bareReply slot r 0 0 0 0) u slot r env)) ∧
  (∀ (t : Nat) (slot : Fin 4) (req : HanucaReq) (env : ReqEnv) (s : State), let u := s.start t
    let r := { req with typ := 6 }
    let w := u.atTurn slot r
    let v := w.readFinds r.logLane r.logPart env
    let picks := (v.vat r.logLane).select r.logPart v.lc.vatKeyGen (r.w64 1) (r.w64 3) (r.w 5)
    let bytes := picks.foldl (fun n p => n + p.2.2) 0
    let x := v.slot slot
    let h : LogHandle := ⟨x.nextHandle, r.logLane, r.logPart, picks, bytes, v.now⟩
    u.takesNow slot r → w.hostRight (4 + slot) (vatPage r.logLane) Right.read = true → r.logPart ≤ 4 → r.w64 1 ≤ r.w64 3 →
    w.logMounted r.logLane r.logPart = true → (w.slot slot).handles.length < 4 →
    exec (.logOpen t slot req env) s =
      .next (State.turnOver (v.setSlot slot { x with handles := x.handles ++ [h], nextHandle := (x.nextHandle + 1) % 2 ^ 32 },
        openReply slot r RC.done h.handle bytes) u slot r env)) ∧
  (∀ (t : Nat) (slot : Fin 4) (req : HanucaReq) (env : ReqEnv) (h : LogHandle) (s : State), let u := s.start t
    let r := { req with typ := 7 }
    let w := u.atTurn slot r
    let v := w.readFinds h.lane h.part env
    let picks := (v.vat h.lane).keepReadable h.part v.lc.vatKeyGen h.picks
    u.takesNow slot r → (w.slot slot).handles.find? (fun h => h.handle == r.w 0) = some h → r.w64 1 ≤ h.bytes →
    w.logMounted h.lane h.part = true → w.selectionHeld h = true →
    exec (.logRead t slot req env) s =
      .next (State.turnOver (v.giveLog slot r { h with picks := picks, bytes := picks.foldl (fun n p => n + p.2.2) 0 })
        u slot r env)) ∧
  (∀ (t : Nat) (slot : Fin 4) (req : HanucaReq) (env : ReqEnv) (s : State), let u := s.start t
    let r := { req with typ := 8 }
    let w := u.atTurn slot r
    u.takesNow slot r →
    exec (.logClose t slot req env) s =
      .next (State.turnOver (w.setSlot slot { w.slot slot with
        handles := (w.slot slot).handles.filter fun y => y.handle != r.w 0 }, bareReply slot r 0 0 0 0) u slot r env)) ∧
  (∀ (t e x : Nat) (slot : Fin 4) (env : ReqEnv) (s : State), let u := s.start t
    let c := u.slot slot
    let n := c.gapTo e
    let lost := c.lost ++ (List.range n).map fun i => (e + i) % 2 ^ 32
    c.expected = some e → c.oldest = some x → x + 10000000 ≤ u.now →
    exec (.reqHoldTimeout t slot env) s =
      .next (((u.setSlot slot { c with expected := some ((e + n) % 2 ^ 32), lost := lost.drop (lost.length - 64) }).bump 6
        Ss.SKIPPED_COUNT slot 0 n).serveHeld slot env 32))

/-- START, STOP, HOLD, RESUME and STEP_CYCLE are answered ACCEPTED and wait for the boundary at which the engine, or both
while ALIGNED, carries them out; FAULT_ACK takes a stopped engine to STOP and lets its heartbeats go on; CLE_COUNTERS_CLEAR
clears the counters of page 0x08 or 0x09 and every task's longest time; a scan that ends with stalled tasks stops the engine.
(R195, R197, R200) -/
def Obligations.RunCommandsComplete : Prop :=
  (∀ (t : Nat) (q : Req) (s : State), let u := s.start t
    let l := cleLane q.page
    u.verdict q cmdStart = 0 →
    exec (.startCle t q) s =
      .next (((u.setCle l { u.cle l with runCmds := (u.cle l).runCmds ++ [⟨1, u.arg0 q % 4, 2, u.aligned⟩] }).openCmd q 1).writeResult q
        (u.pstate q.page) RC.accepted)) ∧
  (∀ (t : Nat) (q : Req) (s : State), let u := s.start t
    let l := cleLane q.page
    u.verdict q cmdStopCle = 0 →
    exec (.stopCle t q) s =
      .next (((u.setCle l { u.cle l with runCmds := (u.cle l).runCmds ++ [⟨2, 0, 2, u.aligned⟩] }).openCmd q 2).writeResult q
        (u.pstate q.page) RC.accepted)) ∧
  (∀ (t : Nat) (q : Req) (s : State), let u := s.start t
    let l := cleLane q.page
    u.verdict q cmdFaultAck = 0 →
    exec (.faultAck t q) s =
      .next ((((u.setCleState l 1).setFld q.page Ce.STOP_INFO_CLEAN_STOP 0).hbStart l).writeResult q (u.pstate q.page) RC.done)) ∧
  (∀ (t : Nat) (q : Req) (s : State), let u := s.start t
    let l := cleLane q.page
    let v := [Ce.USAGE_MAX, Ce.LATE_COUNT, Ce.WARN_COUNT, Ce.RETAIN_COMMIT_MAX_US, Ce.RETAIN_SKIPS, Ce.CMP_MISMATCHES,
      Ce.CMP_MISSING].foldl (fun s f => s.setFld q.page f 0) u
    u.verdict q cmdCleClear = 0 →
    exec (.cleCountersClear t q) s =
      .next ((v.setCle l { v.cle l with
        tasks := (List.range 16).foldl (fun m t => m.wr {} t { m.rd {} t with timeMax := 0 }) (v.cle l).tasks }).writeResult q (u.pstate q.page) RC.done)) ∧
  (∀ (t : Nat) (q : Req) (s : State), let u := s.start t
    u.verdict q cmdHold = 0 →
    exec (.holdCle t q) s = .next (((u.decideHold q 3 0).openCmd q 1).writeResult q (u.pstate q.page) RC.accepted)) ∧
  (∀ (t : Nat) (q : Req) (s : State), let u := s.start t
    u.verdict q cmdResume = 0 →
    exec (.resumeCle t q) s = .next (((u.decideHold q 4 0).openCmd q 2).writeResult q (u.pstate q.page) RC.accepted)) ∧
  (∀ (t : Nat) (q : Req) (s : State), let u := s.start t
    u.verdict q cmdStep = 0 →
    exec (.stepCycle t q) s =
      .next (((u.decideHold q 5 (u.arg0 q % 1024)).openCmd q 3).writeResult q (u.pstate q.page) RC.accepted)) ∧
  (∀ (t : Nat) (l : Lane) (s : State), let u := s.start t
    u.pstate (clePage l) = 2 → (u.cle l).phase = .output → (u.cle l).stalls = true →
    exec (.scanEnd t l) s =
      .next ((u.setFld (clePage l) Ce.STALL_TASKS
        ((List.range 16).map fun n => if ((u.cle l).tasks.rd {} n).state = 4 then 2 ^ n else 0).sum).cleFault l Cause.stall 0xFF 0))

/-- For every lane whose running task executes an instruction with the fields its format marks 0 at 0: ADD to MAX and their
immediate forms write G[d] and the flags of R216, CMP and CMPI write the flags only, MOV, MOVI and MOVL write G[d] only. Each
other register, flag, task, word of data memory, staged write and page register stays as it was, for the whole next state is
given. Log entry 18: a row executes its instruction at the task pc without comparing the program word there. (R202, R211,
R216) -/
def Obligations.CleIntegerComplete : Prop :=
  (∀ (l : Lane) (t : Nat) (f : Fields) (s : State), let c := s.cle l
    let k := s.fetched l t 1
    let a := k.G (fA f)
    let b := k.G (fB f)
    let n := b.toNat % 32
    let p := a.toInt * b.toInt
    s.executes l t 1 false → onlyBits f 0xFFF000 = true →
    exec (.add l f) s = .next (s.carried l t c ((k.flagsAdd a b).setG (fD f) (a + b))) ∧
    exec (.sub l f) s = .next (s.carried l t c ((k.flagsSub a b).setG (fD f) (a - b))) ∧
    exec (.andReg l f) s = .next (s.carried l t c ((k.setZN (a &&& b)).setG (fD f) (a &&& b))) ∧
    exec (.orReg l f) s = .next (s.carried l t c ((k.setZN (a ||| b)).setG (fD f) (a ||| b))) ∧
    exec (.xorReg l f) s = .next (s.carried l t c ((k.setZN (a ^^^ b)).setG (fD f) (a ^^^ b))) ∧
    exec (.shl l f) s = .next (s.carried l t c ((k.flagsShift (a <<< n) n (bitAt a.toNat (32 - n))).setG (fD f) (a <<< n))) ∧
    exec (.shr l f) s = .next (s.carried l t c ((k.flagsShift (a >>> n) n (bitAt a.toNat (n - 1))).setG (fD f) (a >>> n))) ∧
    exec (.asr l f) s = .next (s.carried l t c ((k.flagsShift (a.sshiftRight n) n (bitAt a.toNat (n - 1))).setG (fD f) (a.sshiftRight n))) ∧
    exec (.mul l f) s = .next (s.carried l t c ({ k.setZN (BitVec.ofInt 32 p) with v := decide ((BitVec.ofInt 32 p).toInt ≠ p) }.setG (fD f) (BitVec.ofInt 32 p))) ∧
    exec (.mulh l f) s = .next (s.carried l t c ((k.setZN (BitVec.ofInt 32 (p / 2 ^ 32))).setG (fD f) (BitVec.ofInt 32 (p / 2 ^ 32)))) ∧
    exec (.minReg l f) s = .next (s.carried l t c ((k.setZN (if a.toInt ≤ b.toInt then a else b)).setG (fD f) (if a.toInt ≤ b.toInt then a else b))) ∧
    exec (.maxReg l f) s = .next (s.carried l t c ((k.setZN (if a.toInt ≤ b.toInt then b else a)).setG (fD f) (if a.toInt ≤ b.toInt then b else a)))) ∧
  (∀ (l : Lane) (t : Nat) (f : Fields) (s : State), let c := s.cle l
    let k := s.fetched l t 1
    let a := k.G (fA f)
    let b := k.G (fB f)
    let q : Word := if b = 0 then 0 else BitVec.ofInt 32 (Int.tdiv a.toInt b.toInt)
    let r : Word := if b = 0 then 0 else BitVec.ofInt 32 (Int.tmod a.toInt b.toInt)
    s.executes l t 1 false → onlyBits f 0xFFF000 = true →
    exec (.div l f) s = .next (s.carried l t c ({ k.setZN q with v := b == 0 || (a == 0x80000000 && b == 0xFFFFFFFF) }.setG (fD f) q)) ∧
    exec (.rem l f) s = .next (s.carried l t c ({ k.setZN r with v := b == 0 }.setG (fD f) r))) ∧
  (∀ (l : Lane) (t : Nat) (f : Fields) (s : State), let c := s.cle l
    let k := s.fetched l t 1
    let a := k.G (fA f)
    let i : Word := BitVec.ofInt 32 (signedOf 16 (fImm f))
    let u : Word := BitVec.ofNat 32 (fImm f)
    s.executes l t 1 false →
    exec (.addi l f) s = .next (s.carried l t c ((k.flagsAdd a i).setG (fD f) (a + i))) ∧
    exec (.andi l f) s = .next (s.carried l t c ((k.setZN (a &&& u)).setG (fD f) (a &&& u))) ∧
    exec (.ori l f) s = .next (s.carried l t c ((k.setZN (a ||| u)).setG (fD f) (a ||| u))) ∧
    exec (.xori l f) s = .next (s.carried l t c ((k.setZN (a ^^^ u)).setG (fD f) (a ^^^ u)))) ∧
  (∀ (l : Lane) (t : Nat) (f : Fields) (s : State), let c := s.cle l
    let k := s.fetched l t 1
    s.executes l t 1 false → onlyBits f 0x0FF000 = true →
    exec (.cmp l f) s = .next (s.carried l t c (k.flagsSub (k.G (fA f)) (k.G (fB f))))) ∧
  (∀ (l : Lane) (t : Nat) (f : Fields) (s : State), let c := s.cle l
    let k := s.fetched l t 1
    s.executes l t 1 false → onlyBits f 0xFF0000 = true →
    exec (.movReg l f) s = .next (s.carried l t c (k.setG (fD f) (k.G (fA f))))) ∧
  (∀ (l : Lane) (t : Nat) (f : Fields) (s : State), let c := s.cle l
    let k := s.fetched l t 1
    let a := k.G (fA f)
    let n := f.toNat % 32
    s.executes l t 1 false → onlyBits f 0xFF001F = true →
    exec (.shli l f) s = .next (s.carried l t c ((k.flagsShift (a <<< n) n (bitAt a.toNat (32 - n))).setG (fD f) (a <<< n))) ∧
    exec (.shri l f) s = .next (s.carried l t c ((k.flagsShift (a >>> n) n (bitAt a.toNat (n - 1))).setG (fD f) (a >>> n))) ∧
    exec (.asri l f) s = .next (s.carried l t c ((k.flagsShift (a.sshiftRight n) n (bitAt a.toNat (n - 1))).setG (fD f) (a.sshiftRight n)))) ∧
  (∀ (l : Lane) (t : Nat) (f : Fields) (s : State), let c := s.cle l
    let k := s.fetched l t 1
    s.executes l t 1 false → onlyBits f 0x0FFFFF = true →
    exec (.cmpi l f) s = .next (s.carried l t c (k.flagsSub (k.G (fA f)) (BitVec.ofInt 32 (signedOf 16 (fImm f)))))) ∧
  (∀ (l : Lane) (t : Nat) (f : Fields) (s : State), let c := s.cle l
    let k := s.fetched l t 1
    s.executes l t 1 false → onlyBits f 0xF0FFFF = true →
    exec (.movi l f) s = .next (s.carried l t c (k.setG (fD f) (BitVec.ofInt 32 (signedOf 16 (fImm f)))))) ∧
  (∀ (l : Lane) (t : Nat) (f : Fields) (ext : Word) (s : State), let c := s.cle l
    let k := s.fetched l t 2
    s.executes l t 2 false → onlyBits f 0xF00000 = true →
    exec (.movl l f ext) s = .next (s.carried l t c (k.setG (fD f) ext)))

/-- Where the address of the form can be read, a load writes the number read there to its register, zero- or sign-extended as
its size says; where it can be written, a store leaves the engine as CleRec.store says for that address and size; QUAL writes
the quality of the word at its address. Nothing else changes. Memory errors and lost writes: a word read that shows a single-
bit error is corrected and counted, and the load has its effect; one with a double-bit error, or an instruction word with one,
is recorded on port 0 and stops the CLE with cause 5 and the address of the instruction; a STW that wins over port p is stored
and the loser reported, and where port 1 lost, the lane takes its fatal error 17. (R205, R208, R210, R216, R527, R529) -/
def Obligations.CleMemoryComplete : Prop :=
  (∀ (l : Lane) (t : Nat) (f : Fields) (v : Nat) (s : State), let c := s.cle l
    let k := s.fetched l t 1
    let a := addrM k f
    s.executes l t 1 false → c.load a 4 = some v →
    exec (.ldw l f) s = .next (s.carried l t c (k.setG (fD f) (BitVec.ofNat 32 v))) ∧
    exec (.xlds l f) s = .next (s.carried l t c (k.setX (fD f) (BitVec.ofNat 64 v)))) ∧
  (∀ (l : Lane) (t : Nat) (f : Fields) (v : Nat) (s : State), let c := s.cle l
    let k := s.fetched l t 1
    let a := addrM k f
    s.executes l t 1 false → c.load a 2 = some v →
    exec (.ldh l f) s = .next (s.carried l t c (k.setG (fD f) (BitVec.ofInt 32 (signedOf 16 v)))) ∧
    exec (.ldhu l f) s = .next (s.carried l t c (k.setG (fD f) (BitVec.ofNat 32 v)))) ∧
  (∀ (l : Lane) (t : Nat) (f : Fields) (v : Nat) (s : State), let c := s.cle l
    let k := s.fetched l t 1
    let a := addrM k f
    s.executes l t 1 false → c.load a 1 = some v →
    exec (.ldb l f) s = .next (s.carried l t c (k.setG (fD f) (BitVec.ofInt 32 (signedOf 8 v)))) ∧
    exec (.ldbu l f) s = .next (s.carried l t c (k.setG (fD f) (BitVec.ofNat 32 v)))) ∧
  (∀ (l : Lane) (t : Nat) (f : Fields) (v : Nat) (s : State), let c := s.cle l
    let k := s.fetched l t 1
    let a := addrM k f
    s.executes l t 1 false → c.load a 8 = some v →
    exec (.xldd l f) s = .next (s.carried l t c (k.setX (fD f) (BitVec.ofNat 64 v)))) ∧
  (∀ (l : Lane) (t : Nat) (f : Fields) (v : Nat) (s : State), let c := s.cle l
    let k := s.fetched l t 1
    s.executes l t 1 false → onlyBits f 0xF0FFFF = true → c.load (addrMI k f) 4 = some v →
    exec (.liw l f) s = .next (s.carried l t c (k.setG (fD f) (BitVec.ofNat 32 v)))) ∧
  (∀ (l : Lane) (t : Nat) (f : Fields) (d : CleRec) (s : State), let c := s.cle l
    let k := s.fetched l t 1
    s.executes l t 1 false → c.store (addrM k f) ((k.G (fD f)).toNat) 4 = some d →
    exec (.stw l f 0) s = .next (s.carried l t d (k))) ∧
  (∀ (l : Lane) (t : Nat) (f : Fields) (d : CleRec) (s : State), let c := s.cle l
    let k := s.fetched l t 1
    s.executes l t 1 false → c.store (addrM k f) ((k.G (fD f)).toNat) 2 = some d →
    exec (.sth l f) s = .next (s.carried l t d (k))) ∧
  (∀ (l : Lane) (t : Nat) (f : Fields) (d : CleRec) (s : State), let c := s.cle l
    let k := s.fetched l t 1
    s.executes l t 1 false → c.store (addrM k f) ((k.G (fD f)).toNat) 1 = some d →
    exec (.stb l f) s = .next (s.carried l t d (k))) ∧
  (∀ (l : Lane) (t : Nat) (f : Fields) (d : CleRec) (s : State), let c := s.cle l
    let k := s.fetched l t 1
    s.executes l t 1 false → c.store (addrM k f) ((k.X (fD f)).toNat) 8 = some d →
    exec (.xstd l f) s = .next (s.carried l t d (k))) ∧
  (∀ (l : Lane) (t : Nat) (f : Fields) (d : CleRec) (s : State), let c := s.cle l
    let k := s.fetched l t 1
    s.executes l t 1 false → c.store (addrM k f) ((k.X (fD f)).toNat % 2 ^ 32) 4 = some d →
    exec (.xsts l f) s = .next (s.carried l t d (k))) ∧
  (∀ (l : Lane) (t : Nat) (f : Fields) (d : CleRec) (s : State), let c := s.cle l
    let k := s.fetched l t 1
    s.executes l t 1 false → onlyBits f 0xF0FFFF = true → c.store (addrMI k f) (k.G (fD f)).toNat 4 = some d →
    exec (.siw l f) s = .next (s.carried l t d (k))) ∧
  (∀ (l : Lane) (t : Nat) (f : Fields) (v : Nat) (s : State), let c := s.cle l
    let k := s.fetched l t 1
    s.executes l t 1 false → c.quality (addrM k f) = some v →
    exec (.qual l f) s = .next (s.carried l t c (k.setG (fD f) (BitVec.ofNat 32 v)))) ∧
  (∀ (l : Lane) (t : Nat) (f : Fields) (s : State), let c := s.cle l
    let z := s.setCle l { c with upset := [] }
    let k := s.fetched l t 1
    let a := addrM k f
    let w := a / 4 * 4
    let v := ((s.putOut []).setCle l { c with upset := [] }).eccCorrected l
    let done (j : TaskRec) : State := v.setCle l { v.cle l with tasks := (v.cle l).tasks.wr {} t j }
    z.executes l t 1 false → c.upset = [(w, false)] → inWindow a = false → (c.load w 4).isSome = true →
    (∀ p, p ∈ fetchWords (c.tasks.rd {} t).pc 1 → constBase + p ≠ w) →
    (∀ x, c.load a 4 = some x → exec (.ldw l f) s = .next (done (k.setG (fD f) (BitVec.ofNat 32 x)))) ∧
    (∀ x, c.load a 4 = some x → exec (.xlds l f) s = .next (done (k.setX (fD f) (BitVec.ofNat 64 x)))) ∧
    (∀ x, c.load a 2 = some x → exec (.ldh l f) s = .next (done (k.setG (fD f) (BitVec.ofInt 32 (signedOf 16 x))))) ∧
    (∀ x, c.load a 2 = some x → exec (.ldhu l f) s = .next (done (k.setG (fD f) (BitVec.ofNat 32 x)))) ∧
    (∀ x, c.load a 1 = some x → exec (.ldb l f) s = .next (done (k.setG (fD f) (BitVec.ofInt 32 (signedOf 8 x))))) ∧
    (∀ x, c.load a 1 = some x → exec (.ldbu l f) s = .next (done (k.setG (fD f) (BitVec.ofNat 32 x)))) ∧
    (∀ x, c.load a 8 = some x → exec (.xldd l f) s = .next (done (k.setX (fD f) (BitVec.ofNat 64 x))))) ∧
  (∀ (l : Lane) (t : Nat) (f : Fields) (s : State), let c := s.cle l
    let z := s.setCle l { c with upset := [] }
    let k := s.fetched l t 1
    let a := addrM k f
    let w := a / 4 * 4
    let v := (((s.putOut []).eccUncorrected l 0 (sramAddr w)).cleFault l Cause.memory t (c.tasks.rd {} t).pc)
    z.executes l t 1 false → c.upset = [(w, true)] → inWindow a = false → (c.load w 4).isSome = true →
    (∀ p, p ∈ fetchWords (c.tasks.rd {} t).pc 1 → constBase + p ≠ w) →
    ((c.load a 4).isSome = true → exec (.ldw l f) s = .next v) ∧
    ((c.load a 4).isSome = true → exec (.xlds l f) s = .next v) ∧
    ((c.load a 2).isSome = true → exec (.ldh l f) s = .next v) ∧
    ((c.load a 2).isSome = true → exec (.ldhu l f) s = .next v) ∧
    ((c.load a 1).isSome = true → exec (.ldb l f) s = .next v) ∧
    ((c.load a 1).isSome = true → exec (.ldbu l f) s = .next v) ∧
    ((c.load a 8).isSome = true → exec (.xldd l f) s = .next v)) ∧
  (∀ (l : Lane) (t : Nat) (f : Fields) (s : State), let c := s.cle l
    let z := s.setCle l { c with upset := [] }
    let k := s.fetched l t 1
    let a := addrMI k f
    let w := a / 4 * 4
    let v := ((s.putOut []).setCle l { c with upset := [] }).eccCorrected l
    z.executes l t 1 false → onlyBits f 0xF0FFFF = true → inWindow a = false → (c.load w 4).isSome = true →
    (∀ p, p ∈ fetchWords (c.tasks.rd {} t).pc 1 → constBase + p ≠ w) →
    (∀ x, c.upset = [(w, false)] → c.load a 4 = some x →
      exec (.liw l f) s = .next (v.setCle l { v.cle l with
        tasks := (v.cle l).tasks.wr {} t (k.setG (fD f) (BitVec.ofNat 32 x)) })) ∧
    (c.upset = [(w, true)] → (c.load a 4).isSome = true →
      exec (.liw l f) s =
        .next (((s.putOut []).eccUncorrected l 0 (sramAddr w)).cleFault l Cause.memory t (c.tasks.rd {} t).pc))) ∧
  (∀ (l : Lane) (t : Nat) (f : Fields) (s : State), let c := s.cle l
    let z := s.setCle l { c with upset := [] }
    let pc := (c.tasks.rd {} t).pc
    let w := constBase + pc
    z.executes l t 1 true → c.upset = [(w, true)] →
    exec (.nopInstr l f) s = .next (((s.putOut []).eccUncorrected l 0 (sramAddr w)).cleFault l Cause.memory t pc)) ∧
  (∀ (l : Lane) (t : Nat) (f : Fields) (p : Fin 4) (d : CleRec) (s : State), let c := s.cle l
    let k := s.fetched l t 1
    let a := addrM k f
    let v := (s.carried l t d k).collision l 0 p (sramAddr a)
    s.executes l t 1 false → c.store a (k.G (fD f)).toNat 4 = some d → inWindow a = false → p ≠ 0 →
    exec (.stw l f p) s = .next (if p = 1 then v.laneFatal l 17 else v))

/-- NOP moves the pc alone; END and WAIT give way to the next ready task of the scan, or WAIT consumes its events and runs on;
POST posts its SOFT event to every enabled task; WAKE sets the wake time; SYS writes G[d]; CALL, CALLI and RET push and pop
the pc and INST; B and Bcc jump by their offset; SETI and GETI move INST. Nothing else changes. (R177, R178, R179, R202, R214,
R215, R216, R217, R220) -/
def Obligations.CleControlComplete : Prop :=
  (∀ (l : Lane) (t : Nat) (f : Fields) (s : State), let c := s.cle l
    let k := s.fetched l t 1
    s.executes l t 1 true → onlyBits f 0 = true →
    exec (.nopInstr l f) s = .next (s.carried l t c (k))) ∧
  (∀ (l : Lane) (t : Nat) (f : Fields) (cycles : Nat) (s : State), let c := s.cle l
    let k := s.fetched l t 1
    let k := { k.timed cycles with state := 1 }
    let d := { c with tasks := c.tasks.wr {} t k, scanned := t + 1 }.nextTask
    s.executes l t 1 true → onlyBits f 0 = true → (s.fetched l t 1).bstack = [] → (s.fetched l t 1).calls = [] → t ≠ 16 →
    exec (.endTask l f cycles) s = .next (s.carried l t d (d.tasks.rd {} t))) ∧
  (∀ (l : Lane) (t : Nat) (f : Fields) (ext : List Word) (cycles : Nat) (s : State), let c := s.cle l
    let n := f.toNat / 2 ^ 21 + 1
    let es := waitMembers ext n
    let len := 1 + (n + 1) / 2
    let k := s.fetched l t len
    let w := { k.timed cycles with state := 4, wait := es }
    let d := { c with tasks := c.tasks.wr {} t w, scanned := t + 1 }.nextTask
    s.executes l t len true → onlyBits f 0xE00000 = true → n ≤ es.length → es.any reservedEvent = false → t ≠ 16 →
    exec (.waitInstr l f ext cycles) s =
      .next (if es.any k.has then s.carried l t c (k.consume es) else s.carried l t d (d.tasks.rd {} t))) ∧
  (∀ (l : Lane) (t : Nat) (f : Fields) (s : State), let c := s.cle l
    let k := s.fetched l t 1
    let e := 0x820 + f.toNat
    let ts := (List.range 16).foldl (fun (m : Tab TaskRec) i =>
      if i ≠ t ∧ (c.img.tasks.rd {} i).enabled then m.wr {} i ((m.rd {} i).post e 1) else m) c.tasks
    s.executes l t 1 true → onlyBits f 0x3F = true →
    exec (.postTask l f) s = .next (s.carried l t { c with tasks := ts } (k.post e 1))) ∧
  (∀ (l : Lane) (t : Nat) (f : Fields) (s : State), let c := s.cle l
    let k := s.fetched l t 1
    s.executes l t 1 false → onlyBits f 0xF0000 = true →
    exec (.wakeTask l f) s = .next (s.carried l t c ({ k with wake := some (c.progTime + (k.G (fA f)).toNat) }))) ∧
  (∀ (l : Lane) (t : Nat) (f : Fields) (since v : Nat) (s : State), let c := s.cle l
    let k := s.fetched l t 1
    s.executes l t 1 false → onlyBits f 0xF0FFFF = true →
    [c.progTime, c.progTime / 2 ^ 32, c.cycle, c.cycle / 2 ^ 32, t, l.num, since][fImm f]? = some v →
    exec (.sysCall l f since) s = .next (s.carried l t c (k.setG (fD f) (BitVec.ofNat 32 v)))) ∧
  (∀ (l : Lane) (t : Nat) (f : Fields) (s : State), let c := s.cle l
    let k := s.fetched l t 1
    s.executes l t 1 true → k.calls.length < 32 →
    exec (.callSub l f) s = .next (s.carried l t c ({ k with calls := (k.pc, k.inst) :: k.calls, pc := patternOf 22 ((k.pc : Int) - 4 + 4 * signedOf 24 f.toNat) }))) ∧
  (∀ (l : Lane) (t : Nat) (f : Fields) (ext : Word) (s : State), let c := s.cle l
    let k := s.fetched l t 2
    s.executes l t 2 false → onlyBits f 0xF0000 = true → k.calls.length < 32 →
    exec (.calli l f ext) s = .next (s.carried l t c ({ k with calls := (k.pc, k.inst) :: k.calls, inst := k.G (fA f), pc := ext.toNat % 2 ^ 22 }))) ∧
  (∀ (l : Lane) (t : Nat) (f : Fields) (pc : Nat) (inst : Word) (rest : List (Nat × Word)) (s : State), let c := s.cle l
    let k := s.fetched l t 1
    s.executes l t 1 true → onlyBits f 0 = true → k.calls = (pc, inst) :: rest →
    exec (.retSub l f) s = .next (s.carried l t c ({ k with calls := rest, pc := pc, inst := inst }))) ∧
  (∀ (l : Lane) (t : Nat) (f : Fields) (s : State), let c := s.cle l
    let k := s.fetched l t 1
    s.executes l t 1 true →
    exec (.branch l f) s = .next (s.carried l t c ({ k with pc := patternOf 22 ((k.pc : Int) - 4 + 4 * signedOf 24 f.toNat) }))) ∧
  (∀ (l : Lane) (t : Nat) (f : Fields) (b : Bool) (s : State), let c := s.cle l
    let k := s.fetched l t 1
    s.executes l t 1 true → k.cond (fD f) = some b → ((c.taskDef t).bitMode = false ∨ (0xC ≤ fD f ∧ fD f ≤ 0xE)) →
    exec (.bcc l f) s = .next (s.carried l t c (if b then { k with pc := patternOf 22 ((k.pc : Int) - 4 + 4 * signedOf 19 (f.toNat % 2 ^ 19)) } else k))) ∧
  (∀ (l : Lane) (t : Nat) (f : Fields) (s : State), let c := s.cle l
    let k := s.fetched l t 1
    s.executes l t 1 false → onlyBits f 0xF0000 = true →
    exec (.seti l f) s = .next (s.carried l t c ({ k with inst := k.G (fA f) }))) ∧
  (∀ (l : Lane) (t : Nat) (f : Fields) (s : State), let c := s.cle l
    let k := s.fetched l t 1
    s.executes l t 1 false → onlyBits f 0xF00000 = true →
    exec (.geti l f) s = .next (s.carried l t c (k.setG (fD f) k.inst)))

/-- With a BIT operand that can be read, BLD to BXOR fold the bit into ACC and BANDP, BORP and BXORP push ACC with their
operation and load the bit; BST, BSTN, BSET and BRST write the bit; BPOP pops the stack into ACC; BACC sets ACC; BTOG and GTOB
move ACC to and from a general register. Nothing else changes. (R212, R216, R217, R218, R219) -/
def Obligations.CleBitComplete : Prop :=
  (∀ (l : Lane) (t : Nat) (f : Fields) (s : State), let c := s.cle l
    let k := s.fetched l t 1
    s.executes l t 1 false → onlyBits f 0xF00000 = true →
    exec (.btog l f) s = .next (s.carried l t c (k.setG (fD f) (if k.acc then 1 else 0)))) ∧
  (∀ (l : Lane) (t : Nat) (f : Fields) (s : State), let c := s.cle l
    let k := s.fetched l t 1
    s.executes l t 1 false → onlyBits f 0x0F0000 = true →
    exec (.gtob l f) s = .next (s.carried l t c ({ k with acc := k.G (fA f) != 0 }))) ∧
  (∀ (l : Lane) (t : Nat) (f : Fields) (a i v : Nat) (s : State), let c := s.cle l
    let k := s.fetched l t 1
    let b := bitAt v i
    s.executes l t 1 true → bitOperand k f = some (a, i) → c.load a 4 = some v →
    exec (.bld l f) s = .next (s.carried l t c ({ k with acc := b })) ∧
    exec (.bldn l f) s = .next (s.carried l t c ({ k with acc := !b })) ∧
    exec (.band l f) s = .next (s.carried l t c ({ k with acc := k.acc && b })) ∧
    exec (.bandn l f) s = .next (s.carried l t c ({ k with acc := k.acc && !b })) ∧
    exec (.bor l f) s = .next (s.carried l t c ({ k with acc := k.acc || b })) ∧
    exec (.born l f) s = .next (s.carried l t c ({ k with acc := k.acc || !b })) ∧
    exec (.bxor l f) s = .next (s.carried l t c ({ k with acc := k.acc != b }))) ∧
  (∀ (l : Lane) (t : Nat) (f : Fields) (a i v : Nat) (s : State), let c := s.cle l
    let k := s.fetched l t 1
    let push (op : BitOp) : TaskRec := { k with bstack := (k.acc, op) :: k.bstack, acc := bitAt v i }
    s.executes l t 1 true → bitOperand k f = some (a, i) → c.load a 4 = some v → k.bstack.length < 16 →
    exec (.bandp l f) s = .next (s.carried l t c (push .and)) ∧
    exec (.borp l f) s = .next (s.carried l t c (push .or)) ∧
    exec (.bxorp l f) s = .next (s.carried l t c (push .xor))) ∧
  (∀ (l : Lane) (t : Nat) (f : Fields) (a i v : Nat) (d : CleRec) (s : State), let c := s.cle l
    let k := s.fetched l t 1
    s.executes l t 1 true → bitOperand k f = some (a, i) → c.load a 4 = some v →
    (c.store a (setBit v i k.acc) 4 = some d → exec (.bst l f) s = .next (s.carried l t d (k))) ∧
    (c.store a (setBit v i (!k.acc)) 4 = some d → exec (.bstn l f) s = .next (s.carried l t d (k))) ∧
    (k.acc = true → c.store a (setBit v i true) 4 = some d → exec (.bset l f) s = .next (s.carried l t d (k))) ∧
    (k.acc = true → c.store a (setBit v i false) 4 = some d → exec (.brst l f) s = .next (s.carried l t d (k))) ∧
    (k.acc = false → c.store a v 4 = some d →
      exec (.bset l f) s = .next (s.carried l t c (k)) ∧
      exec (.brst l f) s = .next (s.carried l t c (k)))) ∧
  (∀ (l : Lane) (t : Nat) (f : Fields) (v : Bool) (op : BitOp) (rest : List (Bool × BitOp)) (s : State), let c := s.cle l
    let k := s.fetched l t 1
    s.executes l t 1 true → onlyBits f 0 = true → k.bstack = (v, op) :: rest →
    exec (.bpop l f) s = .next (s.carried l t c ({ k with bstack := rest, acc := op.apply v k.acc }))) ∧
  (∀ (l : Lane) (t : Nat) (f : Fields) (b : Bool) (s : State), let c := s.cle l
    let k := s.fetched l t 1
    s.executes l t 1 true → [!k.acc, false, true, k.z, k.n, k.c][f.toNat]? = some b →
    (3 ≤ f.toNat → (c.taskDef t).bitMode = false) →
    exec (.bacc l f) s = .next (s.carried l t c ({ k with acc := b })))

/-- For an instance of the block's type, aligned to 8 bytes and wholly in DATA or RETAIN, whose address the FB operand gives:
TON, TOF and TP take ACC as IN and evaluate with d the program time less START, as the rule's table gives each; the instance
then holds IN, Q and IN_PREV, ET and START, ACC is Q, the pc moves on, and every other register, task, byte of memory and page
register stays as it was. (R212, R221, R222, R223) -/
def Obligations.TimerBlocksComplete : Prop :=
  (∀ (l : Lane) (t a : Nat) (f : Fields) (s : State), let c := s.cle l
    let k := s.fetched l t 1
    let bits := c.w32 (a + 0x10)
    let pt := c.w64 (a + 0x18)
    let start := if k.acc && !bitAt bits 3 then c.progTime else c.w64 (a + 0x28)
    let d := (c.progTime + 2 ^ 64 - start % 2 ^ 64) % 2 ^ 64
    let et := if k.acc then min d pt else 0
    let q := k.acc && decide (pt ≤ d)
    s.executes l t 1 true → fbOperand k (c.taskDef t).bitMode f = .ok a → a % 8 = 0 →
    (c.img.data.holds a 48 = true ∨ c.img.retain.holds a 48 = true) → memRead c.data (a + 8) 2 = 0x0001 →
    exec (.ton l f) s =
      .next (s.carried l t (((c.put32 (a + 0x10) (bool01 k.acc + 2 * bool01 q + 8 * bool01 k.acc)).put64 (a + 0x20) et).put64
        (a + 0x28) start) { k with acc := q })) ∧
  (∀ (l : Lane) (t a : Nat) (f : Fields) (s : State), let c := s.cle l
    let k := s.fetched l t 1
    let bits := c.w32 (a + 0x10)
    let pt := c.w64 (a + 0x18)
    let start := if !k.acc && bitAt bits 3 then c.progTime else c.w64 (a + 0x28)
    let d := (c.progTime + 2 ^ 64 - start % 2 ^ 64) % 2 ^ 64
    let et := if k.acc then 0 else if bitAt bits 1 then min d pt else c.w64 (a + 0x20)
    let q := k.acc || bitAt bits 1 && decide (d < pt)
    s.executes l t 1 true → fbOperand k (c.taskDef t).bitMode f = .ok a → a % 8 = 0 →
    (c.img.data.holds a 48 = true ∨ c.img.retain.holds a 48 = true) → memRead c.data (a + 8) 2 = 0x0002 →
    exec (.tof l f) s =
      .next (s.carried l t (((c.put32 (a + 0x10) (bool01 k.acc + 2 * bool01 q + 8 * bool01 k.acc)).put64 (a + 0x20) et).put64
        (a + 0x28) start) { k with acc := q })) ∧
  (∀ (l : Lane) (t a : Nat) (f : Fields) (s : State), let c := s.cle l
    let k := s.fetched l t 1
    let bits := c.w32 (a + 0x10)
    let pt := c.w64 (a + 0x18)
    let go := !bitAt bits 1 && k.acc && !bitAt bits 3
    let start := if go then c.progTime else c.w64 (a + 0x28)
    let d := (c.progTime + 2 ^ 64 - start % 2 ^ 64) % 2 ^ 64
    let q := (bitAt bits 1 || go) && decide (d < pt)
    let et := if q then min d pt else if k.acc then pt else 0
    s.executes l t 1 true → fbOperand k (c.taskDef t).bitMode f = .ok a → a % 8 = 0 →
    (c.img.data.holds a 48 = true ∨ c.img.retain.holds a 48 = true) → memRead c.data (a + 8) 2 = 0x0003 →
    exec (.tpTimer l f) s =
      .next (s.carried l t (((c.put32 (a + 0x10) (bool01 k.acc + 2 * bool01 q + 8 * bool01 k.acc)).put64 (a + 0x20) et).put64
        (a + 0x28) start) { k with acc := q }))

/-- For an instance of the block's type, aligned to 8 bytes and wholly in DATA or RETAIN, whose address the FB operand gives:
CTU, CTD and CTUD take ACC as their primary input, count a rising edge within the bounds of a signed word, let R and LD come
first, and give QU and QD from the new count; R_TRIG and F_TRIG give Q from CLK and CLK_PREV. The instance then holds the
inputs, the outputs and the previous inputs, ACC is the block's Q output, the pc moves on, and nothing else changes. (R212,
R221, R222, R224, R225) -/
def Obligations.CounterAndEdgeBlocksComplete : Prop :=
  (∀ (l : Lane) (t a : Nat) (f : Fields) (s : State), let c := s.cle l
    let k := s.fetched l t 1
    let b := c.w32 (a + 0x10)
    let pv := signedOf 32 (c.w32 (a + 0x14))
    let cv := signedOf 32 (c.w32 (a + 0x18))
    let n := if bitAt b 2 then 0 else if k.acc && !bitAt b 8 && decide (cv < 2147483647) then cv + 1 else cv
    let q := decide (pv ≤ n)
    s.executes l t 1 true → fbOperand k (c.taskDef t).bitMode f = .ok a → a % 8 = 0 →
    (c.img.data.holds a 32 = true ∨ c.img.retain.holds a 32 = true) → memRead c.data (a + 8) 2 = 0x0011 →
    exec (.ctu l f) s =
      .next (s.carried l t ((c.put32 (a + 0x10) (bool01 k.acc + 2 * bool01 (bitAt b 1) + 4 * bool01 (bitAt b 2) + 8 * bool01 (bitAt b 3) + 16 * bool01 q
        + 32 * bool01 (bitAt b 5) + 256 * bool01 k.acc + 512 * bool01 (bitAt b 1))).put32 (a + 0x18) (patternOf 32 n)) { k with acc := q })) ∧
  (∀ (l : Lane) (t a : Nat) (f : Fields) (s : State), let c := s.cle l
    let k := s.fetched l t 1
    let b := c.w32 (a + 0x10)
    let pv := signedOf 32 (c.w32 (a + 0x14))
    let cv := signedOf 32 (c.w32 (a + 0x18))
    let n := if bitAt b 3 then pv else if k.acc && !bitAt b 9 && decide (-2147483648 < cv) then cv - 1 else cv
    let q := decide (n ≤ 0)
    s.executes l t 1 true → fbOperand k (c.taskDef t).bitMode f = .ok a → a % 8 = 0 →
    (c.img.data.holds a 32 = true ∨ c.img.retain.holds a 32 = true) → memRead c.data (a + 8) 2 = 0x0012 →
    exec (.ctd l f) s =
      .next (s.carried l t ((c.put32 (a + 0x10) (bool01 (bitAt b 0) + 2 * bool01 k.acc + 4 * bool01 (bitAt b 2) + 8 * bool01 (bitAt b 3) + 16 * bool01 (bitAt b 4)
        + 32 * bool01 q + 256 * bool01 (bitAt b 0) + 512 * bool01 k.acc)).put32 (a + 0x18) (patternOf 32 n)) { k with acc := q })) ∧
  (∀ (l : Lane) (t a : Nat) (f : Fields) (s : State), let c := s.cle l
    let k := s.fetched l t 1
    let b := c.w32 (a + 0x10)
    let pv := signedOf 32 (c.w32 (a + 0x14))
    let cv := signedOf 32 (c.w32 (a + 0x18))
    let up := k.acc && !bitAt b 8
    let down := bitAt b 1 && !bitAt b 9
    let n := if bitAt b 2 then 0 else if bitAt b 3 then pv
      else if up && !down && decide (cv < 2147483647) then cv + 1
      else if down && !up && decide (-2147483648 < cv) then cv - 1 else cv
    s.executes l t 1 true → fbOperand k (c.taskDef t).bitMode f = .ok a → a % 8 = 0 →
    (c.img.data.holds a 32 = true ∨ c.img.retain.holds a 32 = true) → memRead c.data (a + 8) 2 = 0x0013 →
    exec (.ctud l f) s =
      .next (s.carried l t ((c.put32 (a + 0x10) (bool01 k.acc + 2 * bool01 (bitAt b 1) + 4 * bool01 (bitAt b 2) + 8 * bool01 (bitAt b 3)
        + 16 * bool01 (decide (pv ≤ n)) + 32 * bool01 (decide (n ≤ 0)) + 256 * bool01 k.acc + 512 * bool01 (bitAt b 1))).put32 (a + 0x18) (patternOf 32 n)) { k with acc := decide (pv ≤ n) })) ∧
  (∀ (l : Lane) (t a : Nat) (f : Fields) (s : State), let c := s.cle l
    let k := s.fetched l t 1
    let q := k.acc && !bitAt (c.w32 (a + 0x10)) 8
    s.executes l t 1 true → fbOperand k (c.taskDef t).bitMode f = .ok a → a % 8 = 0 →
    (c.img.data.holds a 24 = true ∨ c.img.retain.holds a 24 = true) → memRead c.data (a + 8) 2 = 0x0021 →
    exec (.rTrig l f) s =
      .next (s.carried l t (c.put32 (a + 0x10) (bool01 k.acc + 2 * bool01 q + 256 * bool01 k.acc)) { k with acc := q })) ∧
  (∀ (l : Lane) (t a : Nat) (f : Fields) (s : State), let c := s.cle l
    let k := s.fetched l t 1
    let q := bitAt (c.w32 (a + 0x10)) 8 && !k.acc
    s.executes l t 1 true → fbOperand k (c.taskDef t).bitMode f = .ok a → a % 8 = 0 →
    (c.img.data.holds a 24 = true ∨ c.img.retain.holds a 24 = true) → memRead c.data (a + 8) 2 = 0x0022 →
    exec (.fTrig l f) s =
      .next (s.carried l t (c.put32 (a + 0x10) (bool01 k.acc + 2 * bool01 q + 256 * bool01 k.acc)) { k with acc := q }))

/-- For an instance of the block's type, aligned to 8 bytes and wholly in DATA or RETAIN, whose address the FB operand gives:
PID carries out its pseudocode (pidBody, operation by operation as R227 writes it); LAG1 and SLEW give the output of R228,
store it with the program time of the call and FIRST at 0, copy it to X0 and gather the exceptions of the operations in XSR,
INVALID for a negative rate. The pc moves on, and nothing else changes. A numeric block is illegal in bit-logic mode. (R212,
R221, R222, R226, R227, R228) -/
def Obligations.NumericBlocksComplete : Prop :=
  (∀ (l : Lane) (t a : Nat) (f : Fields) (s : State), let c := s.cle l
    let k := s.fetched l t 1
    s.executes l t 1 false → fbOperand k (c.taskDef t).bitMode f = .ok a → a % 8 = 0 →
    (c.img.data.holds a 144 = true ∨ c.img.retain.holds a 144 = true) → memRead c.data (a + 8) 2 = 0x0031 →
    exec (.pid l f) s = .next (s.carried l t (pidBody c k a).1 (pidBody c k a).2)) ∧
  (∀ (l : Lane) (t a : Nat) (f : Fields) (s : State), let c := s.cle l
    let k := s.fetched l t 1
    let field (o : Nat) : Fx := Fx.lit (c.w64 (a + o))
    let dt := Fx.dt c.progTime (c.w64 (a + 0x28))
    let sum := Fx.add (field 0x10) dt
    let out := if bitAt (c.w32 (a + 0x30)) 0 then field 0x18
      else if !(Fx.lit 0).lt sum then (field 0x18).flags sum.2
      else Fx.add (field 0x20) (Fx.mul (Fx.sub (field 0x18) (field 0x20)) (Fx.div dt sum))
    s.executes l t 1 false → fbOperand k (c.taskDef t).bitMode f = .ok a → a % 8 = 0 →
    (c.img.data.holds a 56 = true ∨ c.img.retain.holds a 56 = true) → memRead c.data (a + 8) 2 = 0x0041 →
    exec (.lag1 l f) s =
      .next (s.carried l t (((c.put64 (a + 0x20) out.1).put64 (a + 0x28) c.progTime).put32 (a + 0x30) 0)
        { k.setX 0 (BitVec.ofNat 64 out.1) with xsr := k.xsr ||| out.2 })) ∧
  (∀ (l : Lane) (t a : Nat) (f : Fields) (s : State), let c := s.cle l
    let k := s.fetched l t 1
    let field (o : Nat) : Fx := Fx.lit (c.w64 (a + o))
    let dt := Fx.dt c.progTime (c.w64 (a + 0x30))
    let inp := field 0x20
    let out := if bitAt (c.w32 (a + 0x38)) 0 then inp
      else if inp.ge (field 0x28) then Fx.min inp (Fx.add (field 0x28) (Fx.mul (field 0x10) dt))
      else Fx.max inp (Fx.sub (field 0x28) (Fx.mul (field 0x18) dt))
    let bad := (field 0x10).lt (Fx.lit 0) || (field 0x18).lt (Fx.lit 0)
    s.executes l t 1 false → fbOperand k (c.taskDef t).bitMode f = .ok a → a % 8 = 0 →
    (c.img.data.holds a 64 = true ∨ c.img.retain.holds a 64 = true) → memRead c.data (a + 8) 2 = 0x0042 →
    exec (.slew l f) s =
      .next (s.carried l t (((c.put64 (a + 0x28) out.1).put64 (a + 0x30) c.progTime).put32 (a + 0x38) 0)
        { k.setX 0 (BitVec.ofNat 64 out.1) with xsr := k.xsr ||| out.2 ||| (if bad then Xsr.invalid else 0) }))

/-- For every NCP instruction with the fields its format marks 0 at 0: the operation of R230 on the operands as the format of
P reads them, its result in X[d], or in G[d] or the flags where R230 says so, and its exceptions gathered in XSR. Nothing else
changes. What the transcendental operations answer beyond the bound of R230 is free (log entries 8 and 9). (R211, R229, R230,
R231) -/
def Obligations.CleNumericComplete : Prop :=
  (∀ (l : Lane) (t : Nat) (f : Fields) (s : State), let c := s.cle l
    let k := s.fetched l t 1
    let fm := FloatFmt.ofP (fP f)
    s.executes l t 1 false → onlyBits f 0xFFF001 = true →
    exec (.xadd l f) s = .next (s.carried l t c (k.result (fD f) (fm.add (k.num fm (fA f)) (k.num fm (fB f))))) ∧
    exec (.xsub l f) s = .next (s.carried l t c (k.result (fD f) (fm.add (k.num fm (fA f)) (k.num fm (fB f)).neg))) ∧
    exec (.xmul l f) s = .next (s.carried l t c (k.result (fD f) (fm.mul (k.num fm (fA f)) (k.num fm (fB f))))) ∧
    exec (.xdiv l f) s = .next (s.carried l t c (k.result (fD f) (fm.div (k.num fm (fA f)) (k.num fm (fB f))))) ∧
    exec (.xmin l f) s = .next (s.carried l t c (k.result (fD f) (fm.minNum (k.num fm (fA f)) (k.num fm (fB f))))) ∧
    exec (.xmax l f) s = .next (s.carried l t c (k.result (fD f) (fm.maxNum (k.num fm (fA f)) (k.num fm (fB f))))) ∧
    exec (.xatan2 l f) s = .next (s.carried l t c (k.result (fD f) (fm.atan2 (k.num fm (fA f)) (k.num fm (fB f)))))) ∧
  (∀ (l : Lane) (t : Nat) (f : Fields) (s : State), let c := s.cle l
    let k := s.fetched l t 1
    let fm := FloatFmt.ofP (fP f)
    s.executes l t 1 false → onlyBits f 0xFFFF01 = true →
    exec (.xfma l f) s = .next (s.carried l t c (k.result (fD f) (fm.fma (k.num fm (fA f)) (k.num fm (fB f)) (k.num fm (fC f))))) ∧
    exec (.xlim l f) s = .next (s.carried l t c (k.result (fD f) (fm.limit (k.num fm (fA f)) (k.num fm (fB f)) (k.num fm (fC f)))))) ∧
  (∀ (l : Lane) (t : Nat) (f : Fields) (s : State), let c := s.cle l
    let k := s.fetched l t 1
    let fm := FloatFmt.ofP (fP f)
    s.executes l t 1 false → onlyBits f 0xFF0001 = true →
    exec (.xsqrt l f) s = .next (s.carried l t c (k.result (fD f) (fm.sqrt (k.num fm (fA f))))) ∧
    exec (.xsin l f) s = .next (s.carried l t c (k.result (fD f) (fm.sin (k.num fm (fA f))))) ∧
    exec (.xcos l f) s = .next (s.carried l t c (k.result (fD f) (fm.cos (k.num fm (fA f))))) ∧
    exec (.xexp l f) s = .next (s.carried l t c (k.result (fD f) (fm.exp (k.num fm (fA f))))) ∧
    exec (.xln l f) s = .next (s.carried l t c (k.result (fD f) (fm.ln (k.num fm (fA f))))) ∧
    exec (.xcvtf l f) s = .next (s.carried l t c (k.result (fD f) (fm.ofInt (k.G (fA f)).toInt))) ∧
    exec (.xcvti l f) s = .next (s.carried l t c ({ k.setG (fD f) (BitVec.ofInt 32 (k.num fm (fA f)).toInt32.1) with xsr := k.xsr ||| (k.num fm (fA f)).toInt32.2 })) ∧
    exec (.xmovx l f) s = .next (s.carried l t c (k.setX (fD f) (k.X (fA f))))) ∧
  (∀ (l : Lane) (t : Nat) (f : Fields) (s : State), let c := s.cle l
    let k := s.fetched l t 1
    let n := (FloatFmt.ofP (fP f)).width
    let v := (k.X (fA f)).toNat % 2 ^ n
    s.executes l t 1 false → onlyBits f 0xFF0001 = true →
    exec (.xabs l f) s = .next (s.carried l t c (k.setX (fD f) (BitVec.ofNat 64 (setBit v (n - 1) false)))) ∧
    exec (.xneg l f) s = .next (s.carried l t c (k.setX (fD f) (BitVec.ofNat 64 (setBit v (n - 1) (!bitAt v (n - 1))))))) ∧
  (∀ (l : Lane) (t : Nat) (f : Fields) (z n g v : Bool) (x : Nat) (s : State), let c := s.cle l
    let k := s.fetched l t 1
    let fm := FloatFmt.ofP (fP f)
    s.executes l t 1 false → onlyBits f 0x0FF001 = true →
    (k.num fm (fA f)).compare (k.num fm (fB f)) = ((z, n, g, v), x) →
    exec (.xcmp l f) s = .next (s.carried l t c ({ k with z := z, n := n, c := g, v := v, xsr := k.xsr ||| x }))) ∧
  (∀ (l : Lane) (t : Nat) (f : Fields) (s : State), let c := s.cle l
    let k := s.fetched l t 1
    let x := (k.X (fA f)).toNat
    let y := (k.X (fD f)).toNat
    let g := (k.G (fA f)).toNat
    s.executes l t 1 false → onlyBits f 0xFF1000 = true →
    exec (.xget l f) s = .next (s.carried l t c (k.setG (fD f) (BitVec.ofNat 32 (if fB f = 0 then x else x / 2 ^ 32)))) ∧
    exec (.xput l f) s = .next (s.carried l t c (k.setX (fD f) (BitVec.ofNat 64 (if fB f = 0 then y / 2 ^ 32 * 2 ^ 32 + g else y % 2 ^ 32 + g * 2 ^ 32))))) ∧
  (∀ (l : Lane) (t : Nat) (f : Fields) (s : State), let c := s.cle l
    let k := s.fetched l t 1
    s.executes l t 1 false → onlyBits f 0xF00000 = true →
    exec (.xrsr l f) s = .next (s.carried l t c (k.setG (fD f) (BitVec.ofNat 32 k.xsr)))) ∧
  (∀ (l : Lane) (t : Nat) (f : Fields) (s : State), let c := s.cle l
    let k := s.fetched l t 1
    s.executes l t 1 false → onlyBits f 0x0F0000 = true →
    exec (.xcsr l f) s = .next (s.carried l t c ({ k with xsr := k.xsr &&& (31 - (k.G (fA f)).toNat % 32) }))) ∧
  (∀ (l : Lane) (t : Nat) (f : Fields) (s : State), let c := s.cle l
    let k := s.fetched l t 1
    s.executes l t 1 false → onlyBits f 0xFF0000 = true →
    exec (.xcvts l f) s = .next (s.carried l t c (k.result (fD f) (FloatFmt.b32.convert (k.num .b64 (fA f))))) ∧
    exec (.xcvtd l f) s = .next (s.carried l t c (k.result (fD f) (FloatFmt.b64.convert (k.num .b32 (fA f))))))

/-- OC_LOAD takes page 0x0A to LOADING with both check fields 0; a lane's check is sent with its image's digest and kept, and
a package that passes is taken; OC_COMMIT asks for the commit and is answered ACCEPTED; OC_ABANDON and a READY package older
than HOLD_S abandon the change with reasons 1 and 6. While page 0x0A is in the state the frame belongs to and a good copy
reaches the receiver: AGREE_READY's result and digest are kept by the receiver; AGREE_COMMIT, once the RECEIPT of the cycle
that latched has come, names the cycle two after it; AGREE_CONSENT answers it; AGREE_CONFIRM turns page 0x0A to COMMITTING,
whether or not lane B hears it. (R237, R239, R240, R241, R255, R256, R257, R258) -/
def Obligations.OnlineChangeComplete : Prop :=
  (∀ (t : Nat) (q : Req) (s : State), let u := s.start t
    let v := (u.dropPackage.setFld 0x0A Oc.OC_STATUS_CHECK_A 0).setFld 0x0A Oc.OC_STATUS_CHECK_B 0
    u.verdict q cmdOcLoad = 0 →
    exec (.ocLoad t q) s = .next (((v.setOc 1).openCmd q 1).writeResult q (u.pstate q.page) RC.accepted)) ∧
  (∀ (t : Nat) (signed : Bool) (s : State), let u := s.start t
    let d := (((u.otherSlot 3).bind (·.program)).map (·.digest)).getD 0
    let v := u.sendFrame .b 5 [0, 0, d]
    u.pstate 0x0A = 1 → u.oc.result.of .b = none → u.ocCheck .b signed = 0 →
    exec (.ocLoadDone t .b signed) s =
      .next ((v.putOc { v.oc with
        result := v.oc.result.set .b (some (0, d)), pkg := v.oc.pkg.set .b (v.otherSlot 3) }).wakeUsed .b)) ∧
  (∀ (t : Nat) (signed : Bool) (i : ProgImage) (p : ChangePkg) (s : State), let u := s.start t
    let d := (((u.otherSlot 2).bind (·.program)).map (·.digest)).getD 0
    let w := u.sendFrame .a 5 [0, 0, d]
    let v := w.showPackage .a i p
    u.pstate 0x0A = 1 → u.oc.result.of .a = none → u.ocCheck .a signed = 0 → w.ocPackage .a = some (i, p) →
    exec (.ocLoadDone t .a signed) s =
      .next ((v.putOc { v.oc with
        result := v.oc.result.set .a (some (0, d)), pkg := v.oc.pkg.set .a (v.otherSlot 2) }).wakeUsed .a)) ∧
  (∀ (t : Nat) (signed : Bool) (s : State), let u := s.start t
    let n := u.ocCheck .b signed
    let d := (((u.otherSlot 3).bind (·.program)).map (·.digest)).getD 0
    let v := u.sendFrame .b 5 [0, n, d]
    u.pstate 0x0A = 1 → u.oc.result.of .b = none → n ≠ 0 →
    exec (.ocLoadDone t .b signed) s = .next (v.putOc { v.oc with result := v.oc.result.set .b (some (n, d)) })) ∧
  (∀ (t : Nat) (q : Req) (s : State), let u := s.start t
    u.verdict q cmdOcCommit = 0 →
    exec (.ocCommit t q) s =
      .next (((u.putOc { u.oc with asked := true }).openCmd q 2).writeResult q (u.pstate q.page) RC.accepted)) ∧
  (∀ (t : Nat) (q : Req) (s : State), let u := s.start t
    u.verdict q cmdOcAbandon = 0 →
    exec (.ocAbandon t q) s = .next ((u.ocAbandon 1).writeResult q (u.pstate q.page) RC.done)) ∧
  (∀ (t : Nat) (s : State), let u := s.start t
    u.pstate 0x0A = 2 → u.oc.readyAt + u.fld 0x0A Oc.OC_CFG_HOLD_S * 1000000000 ≤ u.now →
    exec (.ocHoldExpiry t) s = .next (u.ocAbandon 6)) ∧
  (∀ (t : Nat) (r : Nat × Nat) (l : Lane) (c : Copies) (s : State), let u := s.start t
    let o := l.other
    let v := (u.receiveFrame o c).1
    (u.receiveFrame o c).2 = true → v.oc.result.of l = some r → v.pstate 0x0A = 1 →
    exec (.agreeReady t l c) s = .next (v.putOc { v.oc with heard := v.oc.heard.set o (some r) }).ocReady) ∧
  (∀ (t n : Nat) (c : Copies) (s : State), let u := s.start t
    let r := (u.sendFrame .a 5 [1, n + 2]).receiveFrame .b c
    u.oc.latchedAt = some n → u.pstate 0x0A = 3 → u.oc.commitGot = false → (u.cle .a).receipt = some true →
    (u.cle .a).sent.cycle = n → r.2 = true →
    exec (.agreeCommit t c) s = .next (r.1.putOc { r.1.oc with commitN := some (n + 2), commitGot := true })) ∧
  (∀ (t n : Nat) (c : Copies) (s : State), let u := s.start t
    let r := (u.sendFrame .b 5 [2, n]).receiveFrame .a c
    u.pstate 0x0A = 3 → u.oc.commitGot = true → u.oc.consentGot = false → u.oc.commitN = some n → r.2 = true →
    exec (.agreeConsent t c) s = .next (r.1.putOc { r.1.oc with consentGot := true })) ∧
  (∀ (t n : Nat) (c : Copies) (s : State), let u := s.start t
    let r := (u.sendFrame .a 5 [3, n]).receiveFrame .b c
    let v := r.1.setOc 4
    u.pstate 0x0A = 3 → u.oc.consentGot = true → u.oc.confirmSent = false → u.oc.commitN = some n →
    exec (.agreeConfirm t c) s = .next (v.putOc { v.oc with confirmSent := true, confirmGot := r.2 }))

/-- A sample of an Avenue ends the cause of its fault and is taken, or faults the Avenue with the cause of its source; a
silent line and silent mains fault it with causes 4 and 3; a write of AV_SRC restarts the Avenue; a write of AV_IN or
AV_IN_RATE by its writing lane is stored and taken; a Corner written through the window or by CORNER_SET is stored and noted;
CORNER_CLEAR disables the selected Corners; the counters are cleared. (R260, R265, R268, R269, R270, R272, R274, R276, R277,
R278, R279) -/
def Obligations.AvenuesAndCornersComplete : Prop :=
  (∀ (t : Nat) (a : Fin 64) (x : Int) (s : State), let u := s.start t
    u.avState a ≠ 0 → u.avSource a = .value x → exec (.avenueSample t a) s = .next ((u.avCauseEnds a).avSample a x)) ∧
  (∀ (t : Nat) (a : Fin 64) (s : State), let u := s.start t
    u.avState a ≠ 0 → u.avSource a = .nothing → exec (.avenueSample t a) s = .next (u.avCauseEnds a)) ∧
  (∀ (t c : Nat) (a : Fin 64) (s : State), let u := s.start t
    u.avState a ≠ 0 → u.avSource a = .cause c → exec (.avenueSample t a) s = .next (u.avFault a c)) ∧
  (∀ (t : Nat) (a : Fin 64) (s : State), let u := s.start t
    u.avKind a = 6 → u.avSource a = .cause 4 → exec (.lineTimeout t a) s = .next (u.avFault a 4)) ∧
  (∀ (t : Nat) (a : Fin 64) (s : State), let u := s.start t
    u.avKind a = 3 ∨ u.avKind a = 4 → u.avSource a = .cause 3 →
    exec (.mainsCrossingTimeout t a) s = .next (u.avFault a 3)) ∧
  (∀ (t code gen : Nat) (a : Fin 64) (value : Word) (s : State), let u := s.start t
    let w : WriteReq := ⟨code, gen, 0x0C, 0x600 + 0x20 * a, value⟩
    u.writeVerdict w = 0 →
    exec (.avSrcWrite t code gen a value) s =
      .next (((((u.store code 0x0C w.off value).flagCorners a).restartAvenue a 1).showCorners a).writeReply w (u.pstate 0x0C)
        RC.done)) ∧
  (∀ (t code gen : Nat) (a : Fin 64) (value : Word) (s : State), let u := s.start t
    let w : WriteReq := ⟨code, gen, 0x0C, 0x618 + 0x20 * a, value⟩
    let old := match (u.av a).inAt with
      | some x => u.lineValue a x
      | none => 0
    u.writeVerdict w = 0 → u.isWriter code a = true →
    exec (.avInWrite t code gen a false value) s =
      .next (((u.store code 0x0C w.off value).avIn a old).writeReply w (u.pstate 0x0C) RC.done)) ∧
  (∀ (t code gen : Nat) (a : Fin 64) (value : Word) (s : State), let u := s.start t
    let w : WriteReq := ⟨code, gen, 0x0C, 0x61C + 0x20 * a, value⟩
    u.writeVerdict w = 0 → u.isWriter code a = true →
    exec (.avInWrite t code gen a true value) s =
      .next ((u.store code 0x0C w.off value).writeReply w (u.pstate 0x0C) RC.done)) ∧
  (∀ (t code gen : Nat) (c : Fin 64) (ctrl : Bool) (value : Word) (s : State), let u := s.start t
    let w : WriteReq := ⟨code, gen, 0x0D, 0x400 + 0x20 * c + (if ctrl then 4 else 0), value⟩
    let a := bitsOf (u.reg 0x0D Cn.WIN_SEL_AVENUE.off (code % 8)) 5 0
    u.writeVerdict w = 0 → u.isWriter code a = true →
    exec (.cornerWindowWrite t code gen c ctrl value) s =
      .next (((u.store code (cornerPage a) w.off value 0x0D).cornerChanged a c).writeReply w (u.pstate 0x0D) RC.done)) ∧
  (∀ (t : Nat) (q : Req) (s : State), let u := s.start t
    let x := BitVec.ofNat 32 (u.arg0 q)
    let c := bitsOf x 5 0
    let w := bitsOf x 9 9 * 2 ^ 31 + bitsOf x 8 8 * 2 ^ 28 + bitsOf x 7 6 * 2 ^ 24 + bitsOf x 15 12 * 2 ^ 16 + bitsOf x 31 16
    let v := u.setReg (cornerPage q.chan) (Cn.CN_POS.pos c) (BitVec.ofNat 32 (u.arg1 q))
    u.verdict q cmdCornerSet = 0 →
    exec (.cornerSet t q) s =
      .next (((v.setReg (cornerPage q.chan) (Cn.CN_CTRL_ENA.pos c) (BitVec.ofNat 32 w)).cornerChanged q.chan c).writeResult q
        (u.pstate q.page) RC.done)) ∧
  (∀ (t : Nat) (q : Req) (s : State), let u := s.start t
    u.verdict q cmdCornerClear = 0 →
    exec (.cornerClear t q) s =
      .next ((((u.cornersOn q.chan).filter fun c => bitAt (u.arg0 q + u.arg1 q * 2 ^ 32) c).foldl
        (fun v c => (v.setFld (cornerPage q.chan) Cn.CN_CTRL_ENA 0 c).cornerChanged q.chan c) u).writeResult q (u.pstate q.page)
          RC.done)) ∧
  (∀ (t : Nat) (q : Req) (s : State), let u := s.start t
    u.verdict q cmdAvenueClear = 0 →
    exec (.avenueCountersClear t q) s =
      .next ((((u.setFld 0x0C Av.JUMP_TOTAL 0).setFld 0x0C Av.IGNORED_TOTAL 0).each (List.range 64)
        fun v a => v.setReg 0x0C (Av.AV_COUNTS_JUMPS.pos a) 0).writeResult q (u.pstate q.page) RC.done))

/-- A MOVE_ABS, MOVE_REL, MOVE_VEL or HOME that the ration grants begins its motion and is answered ACCEPTED, one that it
delays waits; with the arm bit a move is armed; STOP and QUICK_STOP plan their stop; GROUP_GO asks for its start line; DISARM,
RELEASE, ENGAGE and SET_POSITION change the axis at once. After each, the Corners that the axis's owner had acted on act
again, and the ration of the axis's bus is settled. (R285, R286, R290, R296, R297, R301, R302, R311, R312) -/
def Obligations.MotionCommandsComplete : Prop :=
  (∀ (t r : Nat) (q : Req) (s v : State), let u := s.start t
    let p := q.page
    let ends (v : State) : State := (if v.owner p = q.code then v.cornersAgain p else v).settle (busOf p)
    pageKind p = .axis → (r = RC.accepted ∨ r = RC.delayed) → bitAt (u.arg1 q) 8 = false →
    (u.verdict q (cmdMove p 1) = 0 → u.present p (u.motionOf q 1 (u.arg0 q) (u.arg1 q)) = (v, r) →
      exec (.moveAbs t q) s = .next (ends ((v.openCmd q 1).writeResult q (u.pstate p) r))) ∧
    (u.verdict q (cmdMove p 2) = 0 → u.present p (u.motionOf q 2 (u.arg0 q) (u.arg1 q)) = (v, r) →
      exec (.moveRel t q) s = .next (ends ((v.openCmd q 2).writeResult q (u.pstate p) r))) ∧
    (u.verdict q (cmdMove p 3) = 0 → u.present p (u.motionOf q 3 (u.arg0 q) (u.arg1 q)) = (v, r) →
      exec (.moveVel t q) s = .next (ends ((v.openCmd q 3).writeResult q (u.pstate p) r)))) ∧
  (∀ (t : Nat) (q : Req) (s : State), let u := s.start t
    let p := q.page
    let m (opc : Nat) : Motion := u.motionOf q opc (u.arg0 q) (u.arg1 q)
    let again (v : State) : State := (if v.owner p = q.code then v.cornersAgain p else v).settle (busOf p)
    let ends (opc : Nat) : State := again (((u.arm p (m opc)).openCmd q opc).writeResult q (u.pstate p) RC.accepted)
    pageKind p = .axis → bitAt (u.arg1 q) 8 = true →
    (u.verdict q (cmdMove p 1) = 0 → exec (.moveAbs t q) s = .next (ends 1)) ∧
    (u.verdict q (cmdMove p 2) = 0 → exec (.moveRel t q) s = .next (ends 2)) ∧
    (u.verdict q (cmdMove p 3) = 0 → exec (.moveVel t q) s = .next (ends 3))) ∧
  (∀ (t : Nat) (q : Req) (s : State), let u := s.start t
    let p := q.page
    let ends (v : State) : State := (if v.owner p = q.code then v.cornersAgain p else v).settle (busOf p)
    let w := if u.mstate p = 10 then u.setpointHere p 0 else u
    let v := (w.setMstate p 8).modAxis p fun x => { x with stopReason := 2, stopCmds := x.stopCmds ++ [q.code] }
    pageKind p = .axis → u.verdict q (cmdStop p) = 0 →
    exec (.motionStop t q) s =
      .next (ends (((v.planStop p (v.setBounds p (u.fld p Ax.MOT_STATUS_SET))).openCmd q 4).writeResult q (u.pstate p)
        RC.accepted))) ∧
  (∀ (t : Nat) (q : Req) (s : State), let u := s.start t
    let p := q.page
    let ends (v : State) : State := (if v.owner p = q.code then v.cornersAgain p else v).settle (busOf p)
    let v := if u.mstate p = 11 then u.failHoming p 6 true else u.quickStop p (if (u.axis p).homeResult ≠ 0 then 10 else 3)
    pageKind p = .axis → u.verdict q (cmdQuickStop p) = 0 →
    exec (.quickStop t q) s =
      .next (ends (((v.modAxis p fun x => { x with stopCmds := x.stopCmds ++ [q.code] }).openCmd q 5).writeResult q (u.pstate p)
        RC.accepted))) ∧
  (∀ (t : Nat) (q : Req) (s : State), let u := s.start t
    let p := q.page
    let ends (v : State) : State := (if v.owner p = q.code then v.cornersAgain p else v).settle (busOf p)
    pageKind p = .axis → u.verdict q cmdGroupGo = 0 →
    exec (.groupGo t q) s =
      .next (ends ((u.putLines (if u.lines.contains q.chan then u.lines else u.lines ++ [q.chan])).writeResult q (u.pstate p)
        RC.done))) ∧
  (∀ (t : Nat) (q : Req) (s : State), let u := s.start t
    let p := q.page
    let ends (v : State) : State := (if v.owner p = q.code then v.cornersAgain p else v).settle (busOf p)
    pageKind p = .axis → u.verdict q (cmdDisarm p) = 0 →
    exec (.disarm t q) s =
      .next (ends (((u.endMotion p 11).setMstate p (u.fromState p)).writeResult q (u.pstate p) RC.done))) ∧
  (∀ (t : Nat) (q : Req) (s : State), let u := s.start t
    let p := q.page
    let ends (v : State) : State := (if v.owner p = q.code then v.cornersAgain p else v).settle (busOf p)
    pageKind p = .axis → u.verdict q (cmdRelease p) = 0 →
    exec (.releaseAxis t q) s = .next (ends ((u.setMstate p 1).writeResult q (u.pstate p) RC.done))) ∧
  (∀ (t : Nat) (q : Req) (s : State), let u := s.start t
    let p := q.page
    let ends (v : State) : State := (if v.owner p = q.code then v.cornersAgain p else v).settle (busOf p)
    pageKind p = .axis → u.verdict q (cmdEngage p) = 0 →
    exec (.engageAxis t q) s =
      .next (ends (((u.setpointHere p 0).setMstate p 2).writeResult q (u.pstate p) RC.done))) ∧
  (∀ (t : Nat) (q : Req) (s : State), let u := s.start t
    let p := q.page
    let ends (v : State) : State := (if v.owner p = q.code then v.cornersAgain p else v).settle (busOf p)
    pageKind p = .axis → u.verdict q (cmdSetPosition p) = 0 →
    exec (.setPosition t q) s =
      .next (ends ((u.rereference p (argInt (u.arg0 q) - u.position p)).writeResult q (u.pstate p) RC.done))) ∧
  (∀ (t r : Nat) (q : Req) (s v : State), let u := s.start t
    let p := q.page
    let ends (v : State) : State := (if v.owner p = q.code then v.cornersAgain p else v).settle (busOf p)
    pageKind p = .axis → u.verdict q (cmdHome p) = 0 → u.fld p Ax.HOME_CFG_METHOD ≠ 9 → (r = RC.accepted ∨ r = RC.delayed) →
    u.present p { opc := 0x10, code := some q.code, tag := q.tag, cls := u.fld p Ax.HOME_CFG_CLASS } = (v, r) →
    exec (.homeAxis t q) s = .next (ends ((v.openCmd q 0x10).writeResult q (u.pstate p) r))) ∧
  (∀ (t : Nat) (q : Req) (s : State), let u := s.start t
    let p := q.page
    let ends (v : State) : State := (if v.owner p = q.code then v.cornersAgain p else v).settle (busOf p)
    pageKind p = .axis → u.verdict q (cmdHome p) = 0 → u.fld p Ax.HOME_CFG_METHOD = 9 →
    exec (.homeAxis t q) s =
      .next (ends ((u.homeHere p { opc := 0x10, code := some q.code, tag := q.tag, cls := u.fld p Ax.HOME_CFG_CLASS }).writeResult q
        (u.pstate p) RC.done)))

/-- A start line notes the instant in the motions armed in its group and asks each bus for them; the position loop runs its
tick; a motion in position for INPOS_TIME ends; a fly measurement 2 ms old starts; a push ends after PUSH_MS; a limit written
is stored and PARK_POS follows; a switch edge is seen and qualified; the chatter time, the dwell at the stop and the homing
timeout end. (R280, R283, R287, R292, R294, R295, R297, R298, R299, R300, R303, R306) -/
def Obligations.MotionEventsComplete : Prop :=
  (∀ (t : Nat) (g : Fin 8) (s : State), let u := s.start t
    let v := u.putLines (u.lines.filter (· != g.val))
    let ms := (List.range' 0x10 32).filter fun p => v.armedIn g p
    let w := v.each ms fun v p => v.modAxis p fun x => { x with mot := x.mot.map fun m => { m with origin := some v.now } }
    u.lines.contains g.val = true → (ms.all fun p => v.driveEnabled p) = true →
    exec (.startLine t g) s =
      .next (w.each [0, 1] fun v b =>
        if ms.filter (fun p => busOf p == b) = [] then v
        else v.setBus b { v.bus b with asked := (v.bus b).asked ++ [(g.val, ms.filter fun p => busOf p == b)] })) ∧
  (∀ (t : Nat) (a : Fin 32) (s : State),
    exec (.positionLoopTick t a) s = .next (((s.start t).tick (axisPage a)).settle (busOf (axisPage a)))) ∧
  (∀ (t x : Nat) (a : Fin 32) (s : State), let u := s.start t
    let p := axisPage a
    (u.axis p).inpos = some x → x + u.fld p Ax.INPOS_TIME_MS * 1000000 ≤ u.now → u.mstate p = 7 →
    exec (.inposReached t a) s = .next (((u.endMotion p 0).setMstate p 2).settle (busOf p))) ∧
  (∀ (t : Nat) (a : Fin 32) (m : Motion) (s : State), let u := s.start t
    let p := axisPage a
    (u.axis p).mot = some m → u.mstate p = 5 → (u.axis p).measureAt + 2000000 ≤ u.now →
    exec (.flyMeasureDone t a) s = .next ((u.flyStart p m).settle (busOf p))) ∧
  (∀ (t : Nat) (a : Fin 32) (s : State), let u := s.start t
    let p := axisPage a
    let v := u.endMotion p 1
    u.mstate p = 10 → (u.axis p).pushAt + u.fld p Ax.PUSH_CFG_PUSH_MS * 1000000 ≤ u.now →
    exec (.pushDone t a) s = .next ((v.setMstate p (if v.fld p Ax.PUSH_CFG_HOLD_N = 0 then 1 else 9)).settle (busOf p))) ∧
  (∀ (t code gen : Nat) (a : Fin 32) (pos : Bool) (value : Word) (s : State), let u := s.start t
    let p := axisPage a
    let w : WriteReq := ⟨code, gen, p, if pos then 0x108 else 0x104, value⟩
    u.writeVerdict w = 0 →
    exec (.limitWrite t code gen a pos value) s =
      .next (((u.store code p w.off value).afterLimit p).writeReply w (u.pstate p) RC.done)) ∧
  (∀ (t : Nat) (a : Fin 32) (k : Fin 3) (high : Bool) (s : State), let u := s.start t
    let p := axisPage a
    exec (.switchRawEdge t a k high) s = .next ((u.switchRaw p k high).settle (busOf p))) ∧
  (∀ (t : Nat) (a : Fin 32) (k : Fin 3) (s : State), let u := s.start t
    let p := axisPage a
    exec (.switchQualified t a k) s = .next ((u.switchQualified p k).settle (busOf p))) ∧
  (∀ (t x : Nat) (a : Fin 32) (s : State), let u := s.start t
    let p := axisPage a
    let v := u.modHome p fun h => { h with chatterEnd := none }
    (u.axis p).home.chatterEnd = some x → x ≤ u.now →
    exec (.homeChatterEnd t a) s = .next ((if u.mstate p = 11 then v.inposReached p else v).settle (busOf p))) ∧
  (∀ (t x : Nat) (a : Fin 32) (s : State), let u := s.start t
    let p := axisPage a
    (u.axis p).home.dwellAt = some x → u.mstate p = 11 → u.fld p Ax.HOME_STATUS_PHASE = 4 →
    x + u.fld p Ax.HARD_STOP_DWELL_MS * 1000000 ≤ u.now →
    exec (.homeDwellDone t a) s =
      .next ((((u.setpointHere p 0).takeCapture p (u.position p) none).setReference p).settle (busOf p))) ∧
  (∀ (t : Nat) (a : Fin 32) (s : State), let u := s.start t
    let p := axisPage a
    u.mstate p = 11 → (u.axis p).home.startAt + u.fld p Ax.HOME_LIMITS_TIMEOUT_S * 1000000000 ≤ u.now →
    exec (.homeTimeout t a) s = .next ((u.failHoming p 4 false).settle (busOf p)))

/-- ENABLE starts the phase test, whose end decides; DISABLE removes torque; FAULT_RESET takes the drive to DISABLED; IDENTIFY
that the ration grants begins and its end shows what was found; the current and velocity loops run; an over-current, a failing
current sense, an open phase, an over-temperature, a following error and a lost angle remove torque with their causes. (R321,
R322, R324, R325, R327, R328, R331, R333, R344, R364, R368, R376) -/
def Obligations.DriveRowsComplete : Prop :=
  (∀ (t : Nat) (q : Req) (s : State), let u := s.start t
    let p := q.page
    let ends (v : State) : State := (if v.owner p = q.code then v.cornersAgain p else v).settle (busOf p)
    pageKind p = .axis → u.verdict q (cmdEnable p) = 0 →
    exec (.enableAxis t q) s =
      .next (ends (((((u.dropWaiting p).modAxis p fun x => { x with testAt := (u.dropWaiting p).now }).setDrive p 2 0).openCmd q
        0x20).writeResult q (u.pstate p) RC.accepted))) ∧
  (∀ (t : Nat) (a : Fin 32) (o : Fin 4) (f : Fin 8) (s : State), let u := s.start t
    let p := axisPage a
    u.pstate p = 2 → (u.axis p).testAt + 10000000 ≤ u.now →
    exec (.phaseTestDone t a o f) s = .next ((u.testEnd p o f).settle (busOf p))) ∧
  (∀ (t : Nat) (q : Req) (s : State), let u := s.start t
    let p := q.page
    let ends (v : State) : State := (if v.owner p = q.code then v.cornersAgain p else v).settle (busOf p)
    pageKind p = .axis → u.verdict q (cmdDisable p) = 0 →
    exec (.disableAxis t q) s =
      .next (ends ((if u.pstate p = 6 then (u.dropMotion p).letGo p 0 else u.removeTorque p 1 0).writeResult q (u.pstate p) RC.done))) ∧
  (∀ (t : Nat) (q : Req) (s : State), let u := s.start t
    let p := q.page
    let ends (v : State) : State := (if v.owner p = q.code then v.cornersAgain p else v).settle (busOf p)
    pageKind p = .axis → u.verdict q (cmdFaultReset p) = 0 →
    exec (.faultReset t q) s =
      .next (ends (((if u.pstate p = 6 ∧ u.mstate p ≠ 0 then (u.dropMotion p).letGo p 0 else u.dropMotion p).setDrive p 1 0).writeResult q (u.pstate p) RC.done))) ∧
  (∀ (t r : Nat) (q : Req) (s v : State), let u := s.start t
    let p := q.page
    let ends (v : State) : State := (if v.owner p = q.code then v.cornersAgain p else v).settle (busOf p)
    pageKind p = .axis → u.verdict q (cmdIdentify p) = 0 → (r = RC.accepted ∨ r = RC.delayed) →
    (u.modAxis p fun x => { x with idArg := u.arg0 q }).present p { opc := 0x23, code := some q.code, tag := q.tag, cls := 3 } =
      (v, r) →
    exec (.identify t q) s = .next (ends ((v.openCmd q 0x23).writeResult q (u.pstate p) r))) ∧
  (∀ (t : Nat) (a : Fin 32) (r : IdFound) (s : State), let u := s.start t
    let p := axisPage a
    u.pstate p = 4 → exec (.identifyDone t a r) s = .next ((u.identifyEnd p r).settle (busOf p))) ∧
  (∀ (t : Nat) (a : Fin 32) (c : CurSample) (s : State), let u := s.start t
    let p := axisPage a
    let v := (((u.showCurrents p (u.rebuilt p c)).showEstimate p c).decidePass p).emulate p
    exec (.currentLoopTick t a c) s = .next ((((v.heatUp p).showLimits p).showVoltage p).settle (busOf p))) ∧
  (∀ (t : Nat) (a : Fin 32) (s : State), let u := s.start t
    let p := axisPage a
    exec (.velocityLoopTick t a) s =
      .next ((((((u.computeSpeed p).runVelocity p).modelForce p).gather p).forceDecision p).settle (busOf p))) ∧
  (∀ (t : Nat) (a : Fin 32) (s : State), let u := s.start t
    let p := axisPage a
    u.switching p = true → exec (.overcurrent t a) s = .next ((u.removeTorque p 8 1).settle (busOf p))) ∧
  (∀ (t : Nat) (a : Fin 32) (s : State), let u := s.start t
    let p := axisPage a
    u.pstate p = 3 →
    (∀ k : Fin 3, exec (.senseFailure t a (Fin.ofNat 8 (2 ^ k.val))) s = .next ((u.senseOne p (k + 1)).settle (busOf p))) ∧
    (∀ k : Fin 8, popCount 3 k ≠ 1 → exec (.senseFailure t a k) s = .next ((u.removeTorque p 8 2).settle (busOf p)))) ∧
  (∀ (t : Nat) (a : Fin 32) (k : Fin 3) (s : State), let u := s.start t
    let p := axisPage a
    u.pstate p = 3 ∨ u.pstate p = 5 →
    exec (.phaseOpen t a k) s = .next (((u.setFld p Ax.DRV_STATUS_PHASE_OPEN (k + 1)).removeTorque p 7 7).settle (busOf p))) ∧
  (∀ (t : Nat) (a : Fin 32) (temp : Int) (s : State), let u := s.start t
    let p := axisPage a
    let v := u.setSfld p Ax.STAGE_TEMP (saturateSigned 16 temp)
    1250 < temp → v.switching p = true →
    exec (.stageOvertemp t a temp) s = .next ((v.removeTorque p 8 3).settle (busOf p))) ∧
  (∀ (t x : Nat) (a : Fin 32) (s : State), let u := s.start t
    let p := axisPage a
    (u.axis p).feSince = some x → u.driveEnabled p = true → u.flag p Ax.DRV_STATUS_LIMITED = false →
    x + u.fld p Ax.FE_TIME_MS * 1000000 ≤ u.now →
    exec (.followingError t a) s = .next ((u.removeTorque p 8 4).settle (busOf p))) ∧
  (∀ (t : Nat) (a : Fin 32) (s : State), let u := s.start t
    let p := axisPage a
    u.driveEnabled p = true → u.angleLost p = true →
    exec (.angleLost t a) s = .next ((u.removeTorque p 8 10).settle (busOf p)))

/-- The chopper switches at its two voltages while it is not locked and an over-current locks it; the regeneration limit
follows the bus voltage; the groups that asked are decided, the requests that waited too long are refused, the budget written
is taken, the measured power and an overload are shown, and the counters of page 0x0E are cleared. (R315, R316, R334, R336,
R338, R340, R341, R346, R348, R630) -/
def Obligations.RationRowsComplete : Prop :=
  (∀ (t mv : Nat) (b : Fin 2) (s : State), let u := (s.start t).settleHeat b
    let v := u.setBus b { u.bus b with mv := mv }
    v.fld 0x0E Ra.BR_LOAD_BR_TEMP_PCT b < 100 → v.flag 0x0E Ra.BUS_STATUS_CHOPPER_LOCKED b = false →
    exec (.brakeChopper t b mv) s =
      .next (if v.fld 0x0E Ra.BRAKE_V_BR_ON_V b * 1000 ≤ mv then v.setFld 0x0E Ra.BUS_STATUS_CHOPPER_ON 1 b
        else if mv ≤ v.fld 0x0E Ra.BRAKE_V_BR_OFF_V b * 1000 then v.setFld 0x0E Ra.BUS_STATUS_CHOPPER_ON 0 b
        else v)) ∧
  (∀ (t : Nat) (b : Fin 2) (s : State), let u := (s.start t).settleHeat b
    exec (.chopperOvercurrent t b) s = .next ((u.setBus b { u.bus b with hardLock := true }).lockChopper b true)) ∧
  (∀ (t mv : Nat) (b : Fin 2) (s : State), let u := (s.start t).settleHeat b
    let v := u.setBus b { u.bus b with mv := mv }
    let on := v.fld 0x0E Ra.BRAKE_V_BR_ON_V b * 1000
    let axes (f : Nat → Bool) : State := v.each (busPages b) fun v p =>
      (v.setFld p Ax.DRV_STATUS_REGEN_LIMITED (bool01 (f p))).driveLimit p
    let w := axes fun p => v.flag p Ax.DRV_STATUS_REGEN_LIMITED || decide (v.sfld p Ax.I_W_DC_I_DC < 0)
    let x := axes fun _ => false
    let ends (w : State) : State :=
      (w.setFld 0x0E Ra.BUS_STATUS_REGEN_LIMITED (bool01 ((busPages b).any fun p => w.flag p Ax.DRV_STATUS_REGEN_LIMITED))
        b).busLevel b 2 Ra.BUS_STATUS_REGEN_LIMITED
    (on + 4000 ≤ mv → exec (.regenLimited t b mv) s = .next (ends w)) ∧
    (mv < on + 2000 → exec (.regenLimited t b mv) s = .next (ends x))) ∧
  (∀ (t : Nat) (b : Fin 2) (s : State), let u := s.start t
    exec (.rationRequest t b) s =
      .next (((u.bus b).asked.foldl (fun v x => v.decideGroup b x.1 x.2) (u.setBus b { u.bus b with asked := [] })).settle b)) ∧
  (∀ (t : Nat) (b : Fin 2) (s : State), let u := s.start t
    let due := (u.bus b).waiting.filter fun r =>
      decide (r.since + u.fld 0x0E Ra.CLASS_CFG_MAX_DELAY_MS b (r.cls - 1) * 1000000 ≤ u.now)
    exec (.rationTimeout t b) s = .next ((due.foldl (fun v r => v.refuseWaiting b r 2) u).settle b)) ∧
  (∀ (t code gen : Nat) (b : Fin 2) (reg : Fin 5) (value : Word) (s : State), let u := s.start t
    let w : WriteReq := ⟨code, gen, 0x0E, 0x400 + 0x80 * b + 4 * reg, value⟩
    u.writeVerdict w = 0 →
    exec (.rationConfigWrite t code gen b reg value) s =
      .next (((u.store code 0x0E w.off value).settle b).writeReply w (u.pstate 0x0E) RC.done)) ∧
  (∀ (t : Nat) (watts amps : Int) (b : Fin 2) (s : State), let u := s.start t
    let v := (u.setSfld 0x0E Ra.BUS_P_P_IN_W (saturateSigned 16 watts) b).setSfld 0x0E Ra.BUS_P_I_IN_DA (saturateSigned 16 amps) b
    let v := v.setFld 0x0E Ra.PEAK_P_W (max (v.fld 0x0E Ra.PEAK_P_W b) (saturate 16 watts.toNat)) b
    let v := v.setBus b { v.bus b with
      overSince := if (v.fld 0x0E Ra.CAP_W b : Int) < watts then some ((v.bus b).overSince.getD v.now) else none }
    let long (k : Nat) : Bool := match (v.bus k).overSince with
      | some x => decide (x + 100000000 ≤ v.now)
      | none => false
    exec (.busOverload t b watts amps) s = .next (v.level 0x0E 4 (long 0 || long 1) (b.val * 2 ^ 8))) ∧
  (∀ (t : Nat) (q : Req) (s : State), let u := s.start t
    u.verdict q cmdRationClear = 0 →
    exec (.rationCountersClear t q) s =
      .next ((u.each [0, 1] fun v b =>
        (((v.setReg 0x0E (Ra.BUS_OUTCOMES_A_ADMITTED.pos b) 0).setReg 0x0E (Ra.BUS_OUTCOMES_B_DELAYED.pos b) 0).setFld 0x0E
          Ra.OVERDRAW_COUNT 0 b).setFld 0x0E Ra.PEAK_P_W 0 b).writeResult q (u.pstate q.page) RC.done))

/-- A clear line that fell while the axis closes trips it; FM_TEACH starts teaching with no samples, FM_REBASE takes the
friction learnt as the base, FM_CLEAR empties the map, OBS_INJECT asks for one test force; a bin of the map is written while
the map is open, and the threshold written takes effect. (R378, R380, R381) -/
def Obligations.ForceModelRowsComplete : Prop :=
  (∀ (t : Nat) (a : Fin 32) (s : State), let u := s.start t
    let p := axisPage a
    exec (.clearLineFall t a) s = .next ((u.lineFall p).settle (busOf p))) ∧
  (∀ (t : Nat) (q : Req) (s : State), let u := s.start t
    let p := q.page
    let v := (u.setFld p Ax.OBS_STATUS_MODEL_STATE 1).setFld p Ax.TEACH_LEFT (u.fld p Ax.LEARN_CFG_TEACH_N)
    u.verdict q (cmdFmTeach p) = 0 → u.fld p Ax.OBS_STATUS_MODEL_STATE ≠ 1 →
    exec (.fmTeach t q) s =
      .next (((v.modForce p fun f => { f with map := f.map.map fun e => (e.1, { e.2 with samples := 0 }) }).showModel
        p).writeResult q (u.pstate p) RC.done)) ∧
  (∀ (t : Nat) (q : Req) (s : State), let u := s.start t
    let p := q.page
    u.verdict q (cmdFmRebase p) = 0 →
    exec (.fmRebase t q) s =
      .next (((u.modForce p fun f => { f with map := f.map.map fun e =>
        (e.1, { e.2 with basePos := e.2.fricPos, baseNeg := e.2.fricNeg, frozenPos := false, frozenNeg := false }) }).showModel
          p).writeResult q (u.pstate p) RC.done)) ∧
  (∀ (t : Nat) (q : Req) (s : State), let u := s.start t
    let p := q.page
    u.verdict q (cmdFmClear p) = 0 →
    exec (.fmClear t q) s =
      .next (((((u.setFld p Ax.OBS_STATUS_MODEL_STATE 0).setFld p Ax.TEACH_LEFT 0).modForce p fun f =>
        { f with map := [] }).showModel p).writeResult q (u.pstate p) RC.done)) ∧
  (∀ (t : Nat) (q : Req) (s : State), let u := s.start t
    let p := q.page
    u.verdict q (cmdObsInject p) = 0 →
    exec (.obsInject t q) s =
      .next ((u.modForce p fun f => { f with inject := true }).writeResult q (u.pstate p) RC.done)) ∧
  (∀ (t code gen : Nat) (a : Fin 32) (j : Fin 128) (mass : Bool) (value : Word) (s : State), let u := s.start t
    let p := axisPage a
    let w : WriteReq := ⟨code, gen, p, 0x600 + 0x10 * j + (if mass then 8 else 0), value⟩
    u.writeVerdict w = 0 → u.mapOpen p = true →
    exec (.forceMapWrite t code gen a j mass value) s =
      .next ((u.writeBin p (u.mapBase code p + j) mass value).writeReply w (u.pstate p) RC.done)) ∧
  (∀ (t code gen : Nat) (a : Fin 32) (value : Word) (s : State), let u := s.start t
    let p := axisPage a
    let w : WriteReq := ⟨code, gen, p, Ax.OBS_THRESH.off, value⟩
    let v := u.store code p w.off value
    u.writeVerdict w = 0 →
    exec (.obsThreshWrite t code gen a value) s =
      .next ((v.setFld p Ax.THRESH_EFF (v.fld p Ax.OBS_THRESH)).writeReply w (u.pstate p) RC.done))

/-- A resistance measured is shown and its band kept; an edge becomes ACTIVE, is released, goes to FAULT and recovers after
the times of its band; its configuration is stored and taken; a frame of an enabled beam gives its outcome to the history; a
flood of FB_TIME falls back; a dark test is begun, and those that are over end; the counters of both kinds of page are
cleared. (R386, R388, R390, R392, R396, R397, R399) -/
def Obligations.EdgesAndBeamsComplete : Prop :=
  (∀ (t r : Nat) (k : Fin 32) (s : State), let u := s.start t
    let e := u.edge k
    let b := edgeBand r
    exec (.edgeMeasure t k r) s =
      .next ((u.setFld (edgePage k) Eg.EDGE_R (saturate 16 r) (k % 16)).setEdgeRec k { e with
        band := b, since := if b = e.band then e.since else u.now
        badSince := if b < 2 then none else some (e.badSince.getD u.now), lastActive := if b = 0 then u.now else e.lastActive })) ∧
  (∀ (t : Nat) (k : Fin 32) (s : State), let u := s.start t
    u.edgeOn k = true → u.edgeState k = 0 ∨ u.edgeState k = 1 → (u.edge k).band = 0 → u.edgeFilt k ≤ u.bandTime k →
    exec (.edgeActive t k) s = .next (u.setEdge k 2 0)) ∧
  (∀ (t : Nat) (k : Fin 32) (s : State), let u := s.start t
    u.edgeOn k = true → u.edgeState k = 2 → (u.edge k).band = 1 → u.fld (edgePage k) Eg.EDGE_CFG_TYPE (k % 16) ≠ 2 →
    u.fld (edgePage k) Eg.EDGE_TIMING_RELEASE_MS (k % 16) * 1000000 ≤ u.bandTime k →
    exec (.edgeRelease t k) s = .next (u.setEdge k 1 0)) ∧
  (∀ (t x : Nat) (k : Fin 32) (s : State), let u := s.start t
    (u.edge k).badSince = some x → u.edgeOn k = true → u.edgeState k ≠ 3 → x + 10000000 ≤ u.now →
    exec (.edgeFault t k) s = .next (u.setEdge k 3 ((u.edge k).band - 1))) ∧
  (∀ (t : Nat) (k : Fin 32) (s : State), let u := s.start t
    u.edgeState k = 3 → (u.edge k).band = 1 → 100000000 ≤ u.bandTime k →
    exec (.edgeFaultRecover t k) s = .next (u.setEdge k 1 0)) ∧
  (∀ (t code gen : Nat) (k : Fin 32) (value : Word) (s : State), let u := s.start t
    let w : WriteReq := ⟨code, gen, edgePage k, Eg.EDGE_CFG_ENA.pos (k % 16), value⟩
    u.writeVerdict w = 0 →
    exec (.edgeConfigWrite t code gen k value) s =
      .next (((u.store code w.page w.off value).edgeConfigured k (u.flag w.page Eg.EDGE_CFG_ENA (k % 16))).writeReply w
        (u.pstate w.page) RC.done)) ∧
  (∀ (t : Nat) (q : Req) (s : State), let u := s.start t
    u.verdict q (cmdEdgeClear q.page) = 0 →
    exec (.edgeCountersClear t q) s =
      .next ((u.each (List.range 16) fun v i => (v.setFld q.page Eg.ACT_COUNT 0 i).setFld q.page Eg.FAULT_COUNT 0 i).writeResult q
        (u.pstate q.page) RC.done)) ∧
  (∀ (t : Nat) (g : Fin 4) (fs : List BeamSample) (s : State), let u := s.start t
    u.pstate (0x50 + g) = 1 →
    exec (.beamFrame t g fs) s =
      .next (((List.range 8).zip fs).foldl (fun v x => v.beamFrame (8 * g + x.1) x.2) (u.bump (0x50 + g) Bm.FRAMES))) ∧
  (∀ (t : Nat) (k : Fin 32) (s : State), let u := s.start t
    let p := beamPage k
    let i := k.val % 8
    u.beamState k = 3 → u.flag p Bm.BEAM_FLOOD_FB_ENA i = true → u.flag p Bm.BEAM_STATUS_FALLBACK i = false →
    u.fld p Bm.BEAM_FLOOD_FB_TIME i * 100000000 ≤ u.now - (u.beam k).floodAt →
    exec (.beamFallback t k) s =
      .next ((((u.setFld p Bm.BEAM_STATUS_FALLBACK 1 i).bump p Bm.FALLBACK_COUNT i).beamLevels k).beamLines k)) ∧
  (∀ (t code gen : Nat) (k : Fin 32) (value : Word) (s : State), let u := s.start t
    let w : WriteReq := ⟨code, gen, beamPage k, Bm.BEAM_CFG_ENA.pos (k % 8), value⟩
    u.writeVerdict w = 0 →
    exec (.beamConfigWrite t code gen k value) s =
      .next (((u.store code w.page w.off value).beamConfigured k).writeReply w (u.pstate w.page) RC.done)) ∧
  (∀ (t : Nat) (q : Req) (s : State), let u := s.start t
    let k := 8 * (q.page - 0x50) + q.chan
    u.verdict q (cmdBeamDark q.page) = 0 →
    exec (.beamDark t q) s =
      .next (((u.setBeamRec k { u.beam k with dark := (u.beam k).dark ++ [(u.arg0 q, false, q.code)] }).openCmd q 2).writeResult q
        (u.pstate q.page) RC.accepted)) ∧
  (∀ (t : Nat) (k : Fin 32) (s : State), let u := s.start t
    let v := u.setBeamRec k { u.beam k with dark := (u.beam k).dark.filter fun d => d.1 != 0 }
    exec (.beamDarkDone t k) s =
      .next (((u.beam k).dark.filter fun d => d.1 == 0).foldl (fun w d =>
        (if d.2.1 then (w.setBeam k 4 3).setFld (beamPage k) Bm.BEAM_STATUS_CAUSE 3 (k % 8) else w.startBeam k).completeAll
          (fun o => o.page == beamPage k && o.opc == 2 && o.chan == k % 8 && o.code == d.2.2)
          (if d.2.1 then RC.aborted else RC.done)) v)) ∧
  (∀ (t : Nat) (q : Req) (s : State), let u := s.start t
    let p := q.page
    u.verdict q (cmdBeamClear p) = 0 →
    exec (.beamCountersClear t q) s =
      .next (((u.each (List.range 8) fun v i =>
        ((v.setFld p Bm.BLOCK_COUNT 0 i).setFld p Bm.INDET_COUNT 0 i).setFld p Bm.FALLBACK_COUNT 0 i).setFld p Bm.FRAMES 0).writeResult
          q (u.pstate p) RC.done))

/-- FB_PROBE probes; 60 ms later what was found is taken, a probe is repeated after 1 s without a sensor, and a sensor gone
for 1 s is noted; a serial frame begins and ends good, incomplete, with a failed CRC or with the sensor's error; an edge of a
quadrature line counts by its direction and two edges at once are an error; a Hall code is shown; an index pulse is noted; a
line fault, its end and a supply trip are taken; the configuration is stored; the counters are cleared. (R350, R351, R352,
R356, R359, R366, R369, R370) -/
def Obligations.FeedbackRowsComplete : Prop :=
  (∀ (t : Nat) (q : Req) (s : State), let u := s.start t
    u.verdict q (cmdFbProbe q.page) = 0 →
    exec (.fbProbe t q) s = .next (((u.fbProbe q.page).openCmd q 0x28).writeResult q (u.pstate q.page) RC.accepted)) ∧
  (∀ (t : Nat) (a : Fin 32) (r : ProbeFound) (s : State), let u := s.start t
    let p := axisPage a
    let v := ((u.setFld p Ax.FB_STATUS_DETECTED (foundType r)).fbUnref p).setFld p Ax.FB_STATUS_HALL_PRESENT
      (bool01 (foundType r == 1 && r.hall.isSome))
    let w := v.setFld p Ax.INPUTS_HALL_RAW (r.hall.getD (v.fld p Ax.INPUTS_HALL_RAW))
    u.fbState p = 1 → (u.axis p).fb.since + 60000000 ≤ u.now → foundType r < 3 →
    exec (.probeDecision t a r) s =
      .next ((if foundType r ≠ 0 ∧ (w.fld p Ax.FB_CFG_TYPE = 0 ∨ w.fld p Ax.FB_CFG_TYPE = foundType r) then w.arrive p r
        else w.setFbState p 2).completeAll (fun o => o.page == p && o.opc == 0x28) RC.done)) ∧
  (∀ (t : Nat) (a : Fin 32) (s : State), let u := s.start t
    let p := axisPage a
    u.fbState p = 2 → u.flag p Ax.FB_CFG_ENA = true → (u.axis p).fb.since + 1000000000 ≤ u.now →
    exec (.probeRetry t a) s = .next (u.fbProbe p)) ∧
  (∀ (t : Nat) (a : Fin 32) (s : State), let u := s.start t
    let p := axisPage a
    u.fbState p = 4 → u.fld p Ax.FB_STATUS_CAUSE ∈ [1, 3, 4, 9] → (u.axis p).fb.since + 1000000000 ≤ u.now →
    exec (.sensorDeparted t a) s = .next (((u.setFbState p 2).bump p Ax.ATTACH_DEPARTURES).fbChange p 2 0)) ∧
  (∀ (t x : Nat) (a : Fin 32) (w : SerialWord) (s : State), let u := s.start t
    let p := axisPage a
    let v := u.modFb p fun f => { f with framing := none }
    u.serial p = true → (u.axis p).fb.framing = some x → u.fbState p = 3 ∨ u.fbState p = 4 →
    (w.complete = false → exec (.serialFrame t a w) s = .next (v.badFrame p 4)) ∧
    (w.complete = true → v.frameChecks p w = false → exec (.serialFrame t a w) s = .next (v.badFrame p 5)) ∧
    (w.complete = true → v.frameChecks p w = true → v.frameError p w = true →
      exec (.serialFrame t a w) s = .next (v.badFrame p 6)) ∧
    (w.complete = true → v.frameChecks p w = true → v.frameError p w = false →
      exec (.serialFrame t a w) s = .next (v.goodFrame p w))) ∧
  (∀ (t : Nat) (a : Fin 32) (s : State), let u := s.start t
    let p := axisPage a
    u.serial p = true → u.fbState p = 3 ∨ u.fbState p = 4 →
    exec (.serialFrameStart t a) s = .next (u.modFb p fun f => { f with framing := some u.now })) ∧
  (∀ (t : Nat) (a : Fin 32) (x y : Bool) (s : State), let u := s.start t
    let p := axisPage a
    let f := (u.axis p).fb
    let v := u.modFb p fun f => { f with a := x, b := y }
    u.fld p Ax.FB_STATUS_DETECTED = 1 → u.fbCounts p = true →
    (x ≠ f.a → y = f.b → exec (.quadEdge t a x y) s = .next (v.countEdge p (if x ≠ y then 1 else -1))) ∧
    (x = f.a → y ≠ f.b → exec (.quadEdge t a x y) s = .next (v.countEdge p (if x = y then 1 else -1))) ∧
    (x ≠ f.a → y ≠ f.b →
      let recent := (f.quad.filter fun n => decide (v.now < n + 10000000)) ++ [v.now]
      let w := (v.bump p Ax.QUAD_ERRORS).modFb p fun f => { f with quad := recent, seen := v.now }
      exec (.quadEdge t a x y) s =
        .next (if w.fld p Ax.INC_CFG_QERR_MAX ≤ recent.length then w.fbFault p 2 else w))) ∧
  (∀ (t : Nat) (a : Fin 32) (code : Fin 8) (s : State), let u := s.start t
    let p := axisPage a
    let v := u.setFld p Ax.INPUTS_HALL_RAW code
    (v.fbCounts p = false → exec (.hallCode t a code) s = .next v) ∧
    (v.fbCounts p = true → u.fld p Ax.FB_STATUS_DETECTED = 2 → (v.modFb p fun f => { f with hall := code }).hallSector p code = none →
      exec (.hallCode t a code) s = .next ((v.modFb p fun f => { f with hall := code }).hallError p)) ∧
    (∀ i j, v.fbCounts p = true → u.fld p Ax.FB_STATUS_DETECTED = 2 →
      (v.modFb p fun f => { f with hall := code }).hallSector p (v.axis p).fb.hall = some i →
      (v.modFb p fun f => { f with hall := code }).hallSector p code = some j → i ≠ j → j = (i + 1) % 6 →
      exec (.hallCode t a code) s = .next ((v.modFb p fun f => { f with hall := code }).countEdge p 1))) ∧
  (∀ (t : Nat) (a : Fin 32) (s : State), let u := s.start t
    let p := axisPage a
    let v := (u.setSfld p Ax.INDEX_POS (u.position p)).bump p Ax.INDEX_COUNT
    u.fld p Ax.FB_STATUS_DETECTED = 1 → u.fbCounts p = true → u.flag p Ax.INC_CFG_INDEX_GATE = false →
    v.flag p Ax.FB_STATUS_COMM_VALID = true → v.mstate p ≠ 11 →
    exec (.indexPulse t a) s = .next v) ∧
  (∀ (t : Nat) (a : Fin 32) (s : State), let u := s.start t
    let p := axisPage a
    u.fld p Ax.FB_STATUS_DETECTED = 1 → u.fbCounts p = true →
    exec (.lineFault t a) s =
      .next ((((u.setFld p Ax.FB_STATUS_COMM_VALID 0).showPosition p).fbFault p 1).modFb p fun f =>
        { f with seen := u.now })) ∧
  (∀ (t : Nat) (a : Fin 32) (s : State), let u := s.start t
    let p := axisPage a
    u.fbState p = 4 → 1 ≤ u.fld p Ax.FB_STATUS_CAUSE → u.fld p Ax.FB_STATUS_CAUSE ≤ 3 →
    (u.axis p).fb.seen + 100000000 ≤ u.now →
    exec (.fbFaultRecover t a) s = .next ((u.setFbState p 3).fbChange p 4 0)) ∧
  (∀ (t : Nat) (a : Fin 32) (s : State), let u := s.start t
    let p := axisPage a
    (u.axis p).fb.supply ≠ 0 →
    exec (.sensorSupplyTrip t a) s = .next ((u.modFb p fun f => { f with supply := 0 }).fbFault p 9)) ∧
  (∀ (t code gen : Nat) (a : Fin 32) (reg : Fin 7) (value : Word) (s : State), let u := s.start t
    let p := axisPage a
    let w : WriteReq := ⟨code, gen, p, 0x300 + 4 * reg, value⟩
    u.writeVerdict w = 0 → u.fbHeld p = false →
    exec (.fbConfigWrite t code gen a reg value) s =
      .next (((u.store code p w.off value).fbConfigured p w.off (u.reg p w.off)).writeReply w (u.pstate p) RC.done)) ∧
  (∀ (t : Nat) (q : Req) (s : State), let u := s.start t
    u.verdict q (cmdFbClear q.page) = 0 →
    exec (.fbCountersClear t q) s =
      .next ((u.each [Ax.QUAD_ERRORS.off, Ax.HALL_ERRORS.off, Ax.SER_CRC_ERRORS.off, Ax.SER_TIMEOUTS.off, Ax.SER_ERRBITS.off,
        Ax.ATTACH_ARRIVALS.off] fun v o => v.setReg q.page o 0).writeResult q (u.pstate q.page) RC.done))

/-- A burst whose CRC and sequence number are good is taken by either end, a missed one is counted; a silent link makes the
front end drive the bank; the samples of an input are filtered and a monitored input takes and loses its fault; an output
takes its overload, open load, over-temperature, bank overload and backfeed, and is tried again; OUT_SET and a channel's
configuration are stored; a pulse ends; silent logic makes the bank safe; faults and counters are cleared. (R409, R413, R421) -/
def Obligations.FieldIoRowsComplete : Prop :=
  (∀ (t : Nat) (b : Fin 16) (n : Fin 2) (r : FeBurst) (s : State), let p := 0x30 + b.val
    let u := (s.start t).feMeasure p n r
    let x := u.burst p n
    let good := if x.faulty then x.good + 1 else 0
    let v := u.setBurst p n { x with
      seq := some (r.seq % 256), misses := 0, good := good, faulty := x.faulty && decide (good < 4) }
    r.crc = linkCrc (u.feBytes p n r) → x.seq.all (fun e => r.seq % 256 == (e + 1) % 256) = true →
    exec (.frontEndBurst t b n r) s =
      .next ((if n = 1 then ((v.showStatus p r).showRecords p n).countRefresh p else v.showRecords p n).bankStart p)) ∧
  (∀ (t seq index word crc : Nat) (b : Fin 16) (n : Fin 2) (s : State), let u := s.start t
    let p := 0x30 + b.val
    let x := u.burst p n
    let v := (u.setBurst p n { x with feSeq := some (seq % 256) }).modBank p fun b => { b with feGoodAt := u.now }
    let w := if n = 0 then v.takeFlags p
      else match (v.bank p).dirty with
        | [] => v
        | k :: rest => (v.modBank p fun b => { b with dirty := rest }).takeMode p k
    crc = linkCrc (u.stageBytes p n seq index word) → x.feSeq.all (fun e => seq % 256 == (e + 1) % 256) = true →
    exec (.stageBurst t b n seq index word crc) s =
      .next (((w.each (burstChans n) fun v k => v.takeBit p k).driveBank p).bankStart p)) ∧
  (∀ (t : Nat) (b : Fin 16) (n : Fin 2) (s : State),
    exec (.burstMissed t b n) s = .next ((s.start t).burstMissed (0x30 + b) n)) ∧
  (∀ (t : Nat) (b : Fin 16) (s : State), let u := s.start t
    let p := 0x30 + b.val
    (u.bank p).feGoodAt + 250000 ≤ u.now → (u.bank p).feSilent = false →
    exec (.linkSilence t b) s =
      .next ((u.modBank p fun b => { b with
        feSilent := true, bursts := b.bursts.map fun e => (e.1, { e.2 with feSeq := none }) }).driveBank p)) ∧
  (∀ (t : Nat) (b k : Fin 16) (runs : List SampleRun) (s : State),
    exec (.inputQualified t b k runs) s = .next ((s.start t).sampleRuns (0x30 + b) k runs)) ∧
  (∀ (t : Nat) (b k : Fin 16) (runs : List SampleRun) (s : State), let p := 0x30 + b.val
    let u := (s.start t).sampleRuns p k runs
    (u.ch p k).mode = 2 → 3 ≤ (u.ch p k).cls → u.fld p Bk.WB_MS * 1000 ≤ (u.ch p k).badUs →
    exec (.monitoredFault t b k runs) s = .next (u.chFault p k ((u.ch p k).cls - 1))) ∧
  (∀ (t : Nat) (b k : Fin 16) (runs : List SampleRun) (s : State), let p := 0x30 + b.val
    let u := (s.start t).sampleRuns p k runs
    (u.ch p k).mode = 2 → 2 ≤ (u.ch p k).fault → (u.ch p k).fault ≤ 4 → 10000 ≤ (u.ch p k).goodUs →
    exec (.monitoredRecover t b k runs) s = .next (u.setCh p k { u.ch p k with fault := 0 })) ∧
  (∀ (t : Nat) (b k : Fin 16) (x : Overload) (s : State), let u := s.start t
    let p := 0x30 + b.val
    u.isOutput p k = true → (u.ch p k).cmd = true → u.overloaded p k x = true →
    exec (.outputOverload t b k x) s = .next ((u.chFault p k 5).driveCh p k)) ∧
  (∀ (t ma : Nat) (b k : Fin 16) (s : State), let u := s.start t
    let p := 0x30 + b.val
    u.isOutput p k = true → (u.ch p k).cmd = true → ma < u.fld p Bk.OUT_OPEN_OPEN_MA →
    exec (.openLoad t b k ma) s = .next (u.chFault p k 6)) ∧
  (∀ (t temp : Nat) (b k : Fin 16) (s : State), let u := s.start t
    let p := 0x30 + b.val
    let v := u.setCh p k { u.ch p k with temp := temp }
    v.isOutput p k = true → 165 < temp → exec (.outputOvertemp t b k temp) s = .next ((v.chFault p k 7).driveCh p k)) ∧
  (∀ (t k : Nat) (b : Fin 16) (cur : List Nat) (s : State), let p := 0x30 + b.val
    let v := ((List.range 16).zip cur).foldl (fun v x => v.setCh p x.1 { v.ch p x.1 with cur := x.2 }) (s.start t)
    v.highest p 16 = some k → 4000 < v.bankCurrent p →
    exec (.bankOverload t b cur) s =
      .next ((((v.chFault p k 8).driveCh p k).bump p Bk.BANK_OVL_COUNT).raise p 6 k)) ∧
  (∀ (t : Nat) (b k : Fin 16) (s : State), let u := s.start t
    let p := 0x30 + b.val
    let c := u.ch p k
    c.mode = 3 → c.cmd = false → c.state = true → c.diffAt + 10000000 ≤ u.now →
    exec (.backfeed t b k) s = .next (u.chFault p k 9)) ∧
  (∀ (t temp : Nat) (b k : Fin 16) (s : State), let u := s.start t
    let p := 0x30 + b.val
    let v := u.setCh p k { u.ch p k with temp := temp }
    let ms := v.fld p Bk.OUT_PROT_RETRY_MS
    ms ≠ 0 → (v.ch p k).bit = true → (v.ch p k).offAt + ms * 1000000 ≤ v.now →
    exec (.outputRetry t b k temp) s = .next (v.releaseCh p k)) ∧
  (∀ (t code gen : Nat) (b : Fin 16) (value : Word) (s : State), let u := s.start t
    let p := 0x30 + b.val
    let w : WriteReq := ⟨code, gen, p, Bk.OUT_SET.off, value⟩
    let v := u.store code p Bk.OUT_SET.off value
    u.writeVerdict w = 0 →
    exec (.outSetWrite t code gen b value) s =
      .next ((if (code = 1 ∨ code = 2) ∧ v.owner p = code then (v.ownerRefresh p).modBank p fun b => { b with outAt := some v.now }
        else v).writeReply w (u.pstate p) RC.done)) ∧
  (∀ (t x : Nat) (b k : Fin 16) (s : State), let u := s.start t
    let p := 0x30 + b.val
    (u.ch p k).pulseEnd = some x → x ≤ u.now →
    exec (.outPulseEnd t b k) s = .next ((u.setCh p k { u.ch p k with value := false, pulseEnd := none }).driveCh p k)) ∧
  (∀ (t x : Nat) (b : Fin 16) (s : State), let u := s.start t
    let p := 0x30 + b.val
    let v := u.setFld p Bk.SAFE_STATUS_LOGIC_SILENT 1
    (u.bank p).ownerAt = some x → x + u.fld p Bk.LS_TIMEOUT * 1000 ≤ u.now → v.pstate p = 1 →
    exec (.logicSilence t b) s = .next ((v.setBankState p 2).showSafe p)) ∧
  (∀ (t code gen : Nat) (b k : Fin 16) (value : Word) (s : State), let u := s.start t
    let p := 0x30 + b.val
    let w : WriteReq := ⟨code, gen, p, Bk.CH_CFG_MODE.pos k, value⟩
    u.writeVerdict w = 0 →
    exec (.chCfgWrite t code gen b k value) s =
      .next (((u.store code p w.off value).chConfigured code p k).writeReply w (u.pstate p) RC.done)) ∧
  (∀ (t : Nat) (q : Req) (s : State), let u := s.start t
    u.verdict q (cmdFieldFaultClear q.page) = 0 →
    exec (.fieldFaultClear t q) s =
      .next ((u.each (namedChans 16 q.chan) fun v k => v.releaseCh q.page k).writeResult q (u.pstate q.page) RC.done)) ∧
  (∀ (t : Nat) (q : Req) (s : State), let u := s.start t
    let v := u.each [Bk.LINK_MISSES_BURST0.off, Bk.LINK_FAULTS.off, Bk.SAFE_COUNT.off, Bk.BANK_OVL_COUNT.off] fun v o =>
      v.setReg q.page o 0
    u.verdict q (cmdFieldCountersClear q.page) = 0 →
    exec (.fieldCountersClear t q) s =
      .next ((v.each (List.range 16) fun v k => (v.setFld q.page Bk.CH_EDGES 0 k).setFld q.page Bk.CH_FAULTS 0 k).writeResult q
        (u.pstate q.page) RC.done))

/-- LS_CMD and CH_PWM are stored and taken; a channel that shuts down by temperature is counted and reported, and cools; its
inrush window ends; the energy of a switch-off is added and old energy leaves the sum; the sense slot shows the current;
latched and locked faults and the counters are cleared. (R426, R429, R430) -/
def Obligations.LoadSwitchRowsComplete : Prop :=
  (∀ (t code gen : Nat) (g : Fin 8) (value : Word) (s : State), let u := s.start t
    let p := 0x40 + g.val
    let w : WriteReq := ⟨code, gen, p, Ls.LS_CMD_0.off, value⟩
    let v := u.store code p w.off value
    u.writeVerdict w = 0 →
    exec (.lsCmdWrite t code gen g value) s =
      .next (((if (code = 1 ∨ code = 2) ∧ v.owner p = code then v.ownerWrote p else v).takeCommands p).writeReply w (u.pstate p) RC.done)) ∧
  (∀ (t code gen : Nat) (g k : Fin 8) (value : Word) (s : State), let p := 0x40 + g.val
    let u := (s.start t).setLs p k ((s.start t).pwmNow p k)
    let w : WriteReq := ⟨code, gen, p, Ls.CH_PWM_DUTY.pos k, value⟩
    let v := u.store code p w.off value
    u.writeVerdict w = 0 →
    exec (.chPwmWrite t code gen g k value) s =
      .next (((if (code = 1 ∨ code = 2) ∧ v.owner p = code then v.ownerWrote p else v).driveGroup p).writeReply w (u.pstate p) RC.done)) ∧
  (∀ (t : Nat) (g k : Fin 8) (s : State), let p := 0x40 + g.val
    let u := (s.start t).driveLs p k false
    let c := u.ls p k
    let again := c.inrushEnd.isSome && decide (c.restarts < u.fld p Ls.CH_CFG_INRUSH_N k)
    c.line = true →
    exec (.thermalShutdown t g k) s =
      .next ((((u.setLs p k { c with
        thermal := true, line := false, pending := again, latched := !again && u.flag p Ls.CH_CFG_RESTART k }).bump p
          Ls.CH_COUNTS_SHUTDOWNS k).lsFault p k 1).showGroup p)) ∧
  (∀ (t : Nat) (g k : Fin 8) (s : State), let u := s.start t
    let p := 0x40 + g.val
    let c := u.ls p k
    c.thermal = true → c.pending = false →
    exec (.thermalCooled t g k) s =
      .next (((u.setLs p k { c with thermal := false }).driveLs p k false).showGroup p)) ∧
  (∀ (t x : Nat) (g k : Fin 8) (s : State), let u := s.start t
    let p := 0x40 + g.val
    (u.ls p k).inrushEnd = some x → x ≤ u.now →
    exec (.inrushWindowEnd t g k) s = .next ((u.setLs p k { u.ls p k with inrushEnd := none }).showGroup p)) ∧
  (∀ (t us : Nat) (g k : Fin 8) (s : State), let u := s.start t
    let p := 0x40 + g.val
    let ma := if u.flag p Ls.SENSE_STATUS_FAULT then 10000 else u.fld p Ls.CH_I_I_ON k
    let e := (24 * ma * us + 500000) / 1000000
    let v := u.driveLs p k false
    let c := v.ls p k
    let w := v.setLs p k { c with
      sums := (c.sums.filter fun x => decide (v.now < x.1 + 10000000000)) ++ [(v.now - us * 1000, e)] }
    let x := ((w.setFld p Ls.CH_CLAMP_LAST_MJ (saturate 16 e) k).showSum p k).bump p Ls.SWITCH_OFFS k
    24 * ma * us ≤ 150000000 → x.fld p Ls.CH_CLAMP_SUM_MJ k < 3000 →
    exec (.clampEnd t g k us) s = .next (x.showGroup p)) ∧
  (∀ (t : Nat) (g k : Fin 8) (s : State), let u := s.start t
    let p := 0x40 + g.val
    exec (.clampSumExpiry t g k) s =
      .next ((u.setLs p k { u.ls p k with
        sums := (u.ls p k).sums.filter fun x => decide (u.now < x.1 + 10000000000) }).showSum p k)) ∧
  (∀ (t ma : Nat) (g k : Fin 8) (s : State), let p := 0x40 + g.val
    let u := (s.start t).driveLs p k false
    let v := (u.setFld p Ls.CH_I_I_LAST (min ma 12000) k).setFld p Ls.CH_I_I_ON (min ma 12000) k
    let c := u.ls p k
    (if c.lineAt + 8000 ≤ u.now then c.line else !c.line) = true → k ≠ 7 →
    exec (.senseSlot t g k ma) s =
      .next (v.setFld p Ls.GRP_I (((List.range 8).map fun i => v.fld p Ls.CH_I_I_LAST i).sum))) ∧
  (∀ (t : Nat) (q : Req) (s : State), let u := s.start t
    let p := q.page
    let v := u.each (if q.chan = 0xFF then List.range 8 else [q.chan]) fun v k => v.setLs p k { v.ls p k with
      latched := (v.ls p k).latched && (v.ls p k).thermal
      locked := (v.ls p k).locked && decide (1500 ≤ v.fld p Ls.CH_CLAMP_SUM_MJ k) }
    u.verdict q (cmdLsFaultClear p) = 0 →
    exec (.lsFaultClear t q) s = .next ((v.driveGroup p).writeResult q (u.pstate p) RC.done)) ∧
  (∀ (t : Nat) (q : Req) (s : State), let u := s.start t
    let p := q.page
    u.verdict q (cmdLsCountersClear p) = 0 →
    exec (.lsCountersClear t q) s =
      .next (((u.setFld p Ls.SENSE_ROUNDS 0).each (List.range 8) fun v k =>
        ((v.setReg p (Ls.CH_COUNTS_SHUTDOWNS.pos k) 0).setFld p Ls.SWITCH_OFFS 0 k).setFld p Ls.LOCKS 0 k).writeResult q
          (u.pstate p) RC.done))

/-- KEN qualified sets or clears the pin's part of the Kerb; an input that changed is shown, counted, reported and drives the
outputs; lanes silent for TIMEOUT_MS set the silence part and 100 ms of heartbeats clear it; a word of the map is stored in
PROVISIONING; the counters are cleared. (R435, R440, R446) -/
def Obligations.KerbRowsComplete : Prop :=
  (∀ (t : Nat) (high : Bool) (s : State), let u := s.start t
    u.kerbPowered = true →
    exec (.kenQualified t high) s =
      .next ((u.setFld 0x48 Kb.KERB_STATUS_KEN (bool01 high)).setKerb high (u.flag 0x48 Kb.KERB_STATUS_BY_SILENCE))) ∧
  (∀ (t : Nat) (k : Fin 8) (high : Bool) (s : State), let u := s.start t
    let old := u.fld 0x48 Kb.KERB_STATUS_INPUTS
    u.kerbPowered = true → bitAt old k ≠ high →
    exec (.kinQualified t k high) s =
      .next ((((((u.setFld 0x48 Kb.KERB_STATUS_INPUTS (setBit old k high)).bump 0x48 Kb.KIN_EDGES k).raise 0x48 1
        (k.val * 2 ^ 4 + bool01 high)).each groupPages State.driveGroup).driveAll))) ∧
  (∀ (t d : Nat) (s : State), let u := s.start t
    u.silentFor = some d → u.fld 0x48 Kb.KERB_CFG_TIMEOUT_MS * 1000000 ≤ d → u.flag 0x48 Kb.KERB_STATUS_BY_SILENCE = false →
    exec (.kerbSilenceTimeout t) s = .next (u.setKerb (u.flag 0x48 Kb.KERB_STATUS_BY_PIN) true)) ∧
  (∀ (t : Nat) (s : State), let u := s.start t
    let long (b : Beat) : Bool := b.present && decide (b.since + 100000000 ≤ u.now)
    u.flag 0x48 Kb.KERB_STATUS_BY_SILENCE = true → (long (u.resRec 0x48).beatA || long (u.resRec 0x48).beatB) = true →
    exec (.kerbSilenceEnd t) s = .next (u.setKerb (u.flag 0x48 Kb.KERB_STATUS_BY_PIN) false)) ∧
  (∀ (t code gen : Nat) (i : Fin 8) (j : Fin 4) (value : Word) (s : State), let u := s.start t
    let w : WriteReq := ⟨code, gen, 0x48, 0x400 + 0x40 * i + 4 * j, value⟩
    u.writeVerdict w = 0 → u.lifeCycle = 1 →
    exec (.kmapWrite t code gen i j value) s =
      .next (((u.store code 0x48 w.off value).mapWritten).writeReply w (u.pstate 0x48) RC.done)) ∧
  (∀ (t : Nat) (q : Req) (s : State), let u := s.start t
    u.verdict q cmdKerbClear = 0 →
    exec (.kerbCountersClear t q) s =
      .next ((((u.setReg 0x48 Kb.KERB_COUNT_BY_PIN.off 0).setReg 0x48 Kb.LAST_ACTIVE_MS.off 0).each (List.range 8)
        fun v i => v.setFld 0x48 Kb.KIN_EDGES 0 i).writeResult q (u.pstate q.page) RC.done))

/-- A sample of a current-loop channel is stored and judged by its mode; both voltages of a pair are stored and their phase is
shown; a cause held for its time is entered and a cause gone for 10 ms ends, and that of the temperature stands again while
the channel is off; a temperature above 130 degrees switches the channel off and one below 110 degrees switches it on; a
transmitter arrives after 100 ms and departs after 1 s; OUT_UA and a channel's mode are stored and followed; the counters are
cleared. (R448, R449, R453, R454, R456, R457, R458, R460) -/
def Obligations.LoopRowsComplete : Prop :=
  (∀ (t : Nat) (g : Fin 4) (k : Fin 8) (r : LoopReading) (s : State), let u := s.start t
    let p := 0x4C + g.val
    let v := ((((u.setFld p Lp.LP_VOLTS_SUPPLY_V (u.supplyShown p k r) k).setSfld p Lp.LP_VOLTS_TERM r.term k).setSfld p
      Lp.GRP_TEMP r.front).loopThermal p k r.temp)
    u.loopMode p k = 1 → exec (.loopSample t g k r) s = .next ((v.inputSample p k r).showPower p)) ∧
  (∀ (t : Nat) (g : Fin 4) (k : Fin 8) (r : LoopReading) (s : State), let u := s.start t
    let p := 0x4C + g.val
    let v := ((((u.setFld p Lp.LP_VOLTS_SUPPLY_V (u.supplyShown p k r) k).setSfld p Lp.LP_VOLTS_TERM r.term k).setSfld p
      Lp.GRP_TEMP r.front).loopThermal p k r.temp)
    u.loopMode p k = 2 →
    exec (.loopSample t g k r) s = .next (((v.setSfld p Lp.I_NA r.na k).trackCauses p k (v.outputCond p k r)).showPower p)) ∧
  (∀ (t : Nat) (g j : Fin 4) (ab bc : Int) (s : State), let u := s.start t
    let p := 0x4C + g.val
    let k := 2 * j.val
    let v := (u.voltSample p k ab).trackCauses p k fun c => c == 6 && decide (10500 < ab.natAbs)
    let w := (v.voltSample p (k + 1) bc).trackCauses p (k + 1) fun c => c == 6 && decide (10500 < bc.natAbs)
    u.loopMode p k = 3 → v.loopMode p (k + 1) = 3 → w.loopMode p k = 3 → w.loopMode p (k + 1) = 3 →
    exec (.voltageSample t g j ab bc) s = .next ((w.pairPhase p k ab bc).showPair p k)) ∧
  (∀ (t c x : Nat) (g : Fin 4) (k : Fin 8) (s : State), let u := s.start t
    let p := 0x4C + g.val
    c ∈ [1, 2, 3, 4, 6] → (u.loop p k).held.rd none c = some x → x + u.causeTime p k c ≤ u.now →
    ([1, 2, 3, 4, 6].all fun d => d == c || (u.loop p k).held.rd none d == none) = true →
    exec (.loopFault t g k) s = .next (u.enterCause p k c)) ∧
  (∀ (t x : Nat) (g : Fin 4) (k : Fin 8) (s : State), let u := s.start t
    let p := 0x4C + g.val
    (u.loop p k).gone = some x → u.loopCause p k ≠ 0 → u.loopCause p k ≠ 5 → x + 10000000 ≤ u.now →
    exec (.loopFaultEnd t g k) s =
      .next (if (u.loop p k).off then (u.endCause p k).enterCause p k 5 else u.endCause p k)) ∧
  (∀ (t : Nat) (g : Fin 4) (k : Fin 8) (temp : Int) (s : State), let u := s.start t
    let p := 0x4C + g.val
    let v := u.loopThermal p k temp
    u.loopMode p k ≠ 0 → 1300 < temp →
    exec (.loopOvertemp t g k temp) s =
      .next (((v.setLoop p k { v.loop p k with off := true }).enterCause p k 5).driveLoop p k)) ∧
  (∀ (t : Nat) (g : Fin 4) (k : Fin 8) (temp : Int) (s : State), let u := s.start t
    let p := 0x4C + g.val
    let v := u.loopThermal p k temp
    let w := (v.setLoop p k { v.loop p k with off := false }).driveLoop p k
    u.loopMode p k ≠ 0 → temp < 1100 → (v.loop p k).off = true → w.loopCause p k = 5 →
    exec (.loopTempRecover t g k temp) s = .next (w.endCause p k)) ∧
  (∀ (t x : Nat) (g : Fin 4) (k : Fin 8) (s : State), let u := s.start t
    let p := 0x4C + g.val
    (u.loop p k).okAt = some x → u.loopMode p k = 1 → u.flag p Lp.LP_STATUS_PRESENT k = false → x + 100000000 ≤ u.now →
    exec (.transmitterArrived t g k) s = .next (u.setPresent p k true)) ∧
  (∀ (t x : Nat) (g : Fin 4) (k : Fin 8) (s : State), let u := s.start t
    let p := 0x4C + g.val
    (u.loop p k).lowAt = some x → u.loopMode p k = 1 → u.flag p Lp.LP_STATUS_PRESENT k = true → x + 1000000000 ≤ u.now →
    exec (.transmitterDeparted t g k) s = .next (u.setPresent p k false)) ∧
  (∀ (t code gen : Nat) (g : Fin 4) (k : Fin 8) (value : Word) (s : State), let u := s.start t
    let p := 0x4C + g.val
    let w : WriteReq := ⟨code, gen, p, Lp.OUT_UA.pos k, value⟩
    let v := u.store code p w.off value
    u.writeVerdict w = 0 →
    exec (.outUaWrite t code gen g k value) s =
      .next (((if v.pstate p = 0 ∧ (code = 1 ∨ code = 2) ∧ v.owner p = code then v.setPstate p 1 else v).each (List.range 8) fun s j => s.driveLoop p j).writeReply w
        (u.pstate p) RC.done)) ∧
  (∀ (t code gen : Nat) (g : Fin 4) (k : Fin 8) (value : Word) (s : State), let u := s.start t
    let p := 0x4C + g.val
    let w : WriteReq := ⟨code, gen, p, Lp.LP_CFG_MODE.pos k, value⟩
    u.writeVerdict w = 0 →
    exec (.loopModeWrite t code gen g k value) s =
      .next (((u.store code p w.off value).followMode p k).writeReply w (u.pstate p) RC.done)) ∧
  (∀ (t : Nat) (q : Req) (s : State), let u := s.start t
    u.verdict q cmdLoopClear = 0 →
    exec (.loopCountersClear t q) s =
      .next ((u.each (List.range 8) fun s k =>
        (s.setFld q.page Lp.LP_FAULTS 0 k).setReg q.page (Lp.ATTACH_ARRIVALS.pos k) 0).writeResult q (u.pstate q.page) RC.done))

/-- A frame received while the controller is on the bus is counted, its own identifier and a roll-call answer are seen, and it
is delivered; the end of a sent frame ends the sending and takes one from the transmit error count; an error while sending
ends the attempt and adds 8 unless exempt; an error while receiving adds 1 or 8; a reset waiting for the controller's own
frame then takes place. (R464, R466, R467, R468, R473, R479, R483) -/
def Obligations.CanFramesComplete : Prop :=
  (∀ (t sof : Nat) (c : Fin 8) (x : CanFrame) (s : State), let u := s.start t
    let p := canPage c
    let v := ((u.start t).stopSending p).bump p Cf.FRAMES_RX
    let w := v.frameGood p
    let y := ((if w.ownId p x then w.idConflict p x else w).rollAnswer p x).deliver p x sof
    u.canState p = 2 ∨ u.canState p = 3 →
    exec (.canFrameRx t c sof x) s = .next (((y.frameOver p).putOut (u.out ++ (y.frameOver p).out)).canResetDue p)) ∧
  (∀ (t sof tdcv : Nat) (c : Fin 8) (x : Sending) (s : State), let u := s.start t
    let p := canPage c
    let v := if (((u.start t).sendingFrame p x).map (·.fdf)).getD false then
      (u.start t).setFld p Cf.BUS_STATUS_TDCV tdcv else u.start t
    let w := ((v.attempt p 0 0).1.bump p Cf.FRAMES_TX).sendingEnded p 1 sof
    let y := (w.countErrors p (w.fld p Cf.ERR_COUNT_TEC - 1) (w.fld p Cf.ERR_COUNT_REC)).frameOver p
    (u.can p).sending = some x →
    exec (.canTxEnd t c sof tdcv) s = .next ((y.putOut (u.out ++ y.out)).canResetDue p)) ∧
  (∀ (t pos : Nat) (c kind : Fin 8) (exempt : Bool) (x : Sending) (s : State), let u := s.start t
    let p := canPage c
    let w := (u.start t).attemptFailed p x (if (u.start t).inData p x pos then 7 else kind.val) pos
    let y := (w.countErrors p (w.fld p Cf.ERR_COUNT_TEC + (if exempt then 0 else 8)) (w.fld p Cf.ERR_COUNT_REC)).frameOver p
    (u.can p).sending = some x →
    exec (.canTxError t c kind pos exempt) s = .next ((y.putOut (u.out ++ y.out)).canResetDue p)) ∧
  (∀ (t pos : Nat) (c kind : Fin 8) (by8 : Bool) (s : State), let u := s.start t
    let p := canPage c
    let w := (((u.start t).lastError p kind pos false).bump p Cf.ERR_TOTALS_RX).stopSending p
    let y := (w.countErrors p (w.fld p Cf.ERR_COUNT_TEC) (w.fld p Cf.ERR_COUNT_REC + (if by8 then 8 else 1))).frameOver p
    u.canState p = 2 ∨ u.canState p = 3 →
    exec (.canRxError t c kind pos by8) s = .next ((y.putOut (u.out ++ y.out)).canResetDue p))

/-- Integration and bus-off recovery bring the controller to error active; TX_GO, TXC_ACK, RX_ACK, TXS_LATCH, RXS_ACK and the
mode are written with their effect; the stage takes changed slots; the boundary signal, the SYNC frame, a roll-call round and
a node's time-out have theirs; the transceiver's fault is shown; RECOVER, TX_ABORT, ROLL_CALL and COUNTERS_CLEAR are carried
out. (R464, R465, R470, R473, R474, R475, R476, R477, R478, R479, R483, R484) -/
def Obligations.CanRowsComplete : Prop :=
  (∀ (t : Nat) (c : Fin 8) (s : State), let u := s.start t
    let p := canPage c
    u.canState p = 1 → exec (.canIntegrated t c) s = .next (((u.setCanState p 2).checkErrors p).present_ p)) ∧
  (∀ (t : Nat) (c : Fin 8) (s : State), let u := s.start t
    let p := canPage c
    u.canState p = 5 →
    exec (.busoffRecovered t c) s =
      .next ((((u.setFld p Cf.ERR_COUNT_TEC 0).setFld p Cf.ERR_COUNT_REC 0).setCanState p 2).present_ p)) ∧
  (∀ (t code gen : Nat) (c : Fin 8) (value : Word) (s : State), let u := s.start t
    let p := canPage c
    let w : WriteReq := ⟨code, gen, p, Cf.TX_GO.off, value⟩
    u.writeVerdict w = 0 → u.compat p = false →
    exec (.txGoWrite t code gen c value) s =
      .next (((u.store code p w.off value).modCan p fun c =>
        { c with goBy := c.goBy.wr 0 (Reg.bank p Cf.TX_GO.off code) code }).writeReply w (u.pstate p) RC.done)) ∧
  (∀ (t : Nat) (c : Fin 8) (s : State), let u := s.start t
    let p := canPage c
    u.compat p = false →
    exec (.canStageRefresh t c) s =
      .next ((u.each [1, 3, 4, 5, 6, 7] fun s b => s.each (List.range 8) fun s i =>
        if bitAt (bitsOf (s.reg p Cf.TX_GO.off b ^^^ s.reg p Cf.TX_TAKEN.off b) 7 0) i then s.takeSlot p b i else s).present_ p)) ∧
  (∀ (t code gen : Nat) (c : Fin 8) (value : Word) (s : State), let u := s.start t
    let p := canPage c
    let w : WriteReq := ⟨code, gen, p, Cf.TXC_ACK.off, value⟩
    let v := u.store code p w.off value
    let gone := ackedComps (v.can p) (Reg.bank p Cf.TXC_ACK.off code) (bitsOf value 15 0)
    u.writeVerdict w = 0 → u.compat p = false →
    exec (.txcAckWrite t code gen c value) s =
      .next (((v.modCan p fun c => { c with comps := c.comps.filter fun e => gone.all fun g => g.n != e.n }).showCanQueue p).writeReply
        w (u.pstate p) RC.done)) ∧
  (∀ (t code gen : Nat) (c : Fin 8) (value : Word) (s : State), let u := s.start t
    let p := canPage c
    let w : WriteReq := ⟨code, gen, p, Cf.RX_ACK.off, value⟩
    u.writeVerdict w = 0 → u.isConsumer code p = true → u.compat p = false →
    exec (.rxAckWrite t code gen c value) s =
      .next (((u.store code p w.off value).rxTaken p (bitsOf value 15 0)).writeReply w (u.pstate p) RC.done)) ∧
  (∀ (t code gen : Nat) (c : Fin 8) (value : Word) (s : State), let u := s.start t
    let p := canPage c
    let w : WriteReq := ⟨code, gen, p, Cf.TXS_LATCH.off, value⟩
    u.writeVerdict w = 0 → u.compat p = true →
    exec (.txsLatchWrite t code gen c value) s =
      .next (((u.each ((List.range 32).filter fun b => bitAt value.toNat b) fun s b => s.latchBit p b).present_ p).writeReply w
        (u.pstate p) RC.done)) ∧
  (∀ (t code gen : Nat) (c : Fin 8) (value : Word) (s : State), let u := s.start t
    let p := canPage c
    let w : WriteReq := ⟨code, gen, p, Cf.RXS_ACK.off, value⟩
    u.writeVerdict w = 0 → u.compat p = true →
    exec (.rxsAckWrite t code gen c value) s =
      .next (((u.setFld p Cf.RXS_NEW (u.fld p Cf.RXS_NEW &&& (2 ^ 32 - 1 - value.toNat))).showCanQueue p).writeReply w
        (u.pstate p) RC.done)) ∧
  (∀ (t code gen : Nat) (c : Fin 8) (value : Word) (s : State), let u := s.start t
    let p := canPage c
    let w : WriteReq := ⟨code, gen, p, Cf.CAN_CFG_MODE.off, value⟩
    let v := u.store code p w.off value
    u.writeVerdict w = 0 → u.cfgAllowed p value = true →
    exec (.canModeWrite t code gen c value) s =
      .next ((((if v.compat p = u.compat p then v else v.discardCan p).settleMode p).present_ p).writeReply w (u.pstate p) RC.done)) ∧
  (∀ (t : Nat) (c : Fin 8) (s : State), let u := s.start t
    let p := canPage c
    let l := laneNum (u.owner p)
    (u.resRec p).accepted = true → (if l = .a then (u.resRec p).beatA else (u.resRec p).beatB).present = true →
    exec (.canBoundarySignal t c) s = .next ((u.boundarySignal p (u.pstate (clePage l) == 2)).present_ p)) ∧
  (∀ (t x : Nat) (c : Fin 8) (s : State), let u := s.start t
    let p := canPage c
    let n := u.fld p Cf.SYNC_STATUS_COUNT
    let v := if u.flag p Cf.SYNC_TIMING_COUNTER then u.setFld p Cf.SYNC_STATUS_COUNT (if 240 ≤ n then 1 else n + 1) else u
    (u.can p).syncAt = some x → x ≤ u.now →
    exec (.syncFrameDue t c) s = .next ((v.modCan p fun c => { c with syncAt := none, syncDue := true }).present_ p)) ∧
  (∀ (t : Nat) (c : Fin 8) (s : State), let u := s.start t
    let p := canPage c
    u.rollReady p = true → (u.can p).roundAt + u.fld p Cf.RC_TIMING_PERIOD_MS * 1000000 ≤ u.now →
    exec (.rollCallRound t c) s = .next (u.startRound p)) ∧
  (∀ (t x : Nat) (rest : List Nat) (c : Fin 8) (n : Fin 128) (s : State), let u := s.start t
    let p := canPage c
    ((u.can p).nodes.rd {} n.val).asked = x :: rest → x + u.fld p Cf.RC_TIMING_TIMEOUT_MS * 1000000 ≤ u.now →
    exec (.rollCallTimeout t c n) s = .next (u.nodeMissed p n.val)) ∧
  (∀ (t : Nat) (c : Fin 8) (on : Bool) (s : State), let p := canPage c
    exec (.canTransceiverFault t c on) s =
      .next (((s.start t).setFld p Cf.BUS_STATUS_TRANSCEIVER (if on then 1 else 0)).level p 10 on)) ∧
  (∀ (t : Nat) (q : Req) (s : State), let u := s.start t
    u.verdict q cmdCanRecover = 0 →
    exec (.canRecover t q) s = .next ((u.setCanState q.page 5).writeResult q (u.pstate q.page) RC.done)) ∧
  (∀ (t : Nat) (q : Req) (s : State), let u := s.start t
    u.verdict q cmdTxAbort = 0 →
    exec (.txAbort t q) s =
      .next (((u.named q).foldl (fun v e =>
        if (u.can q.page).sending = some (.entry e.n) then v else v.endEntry q.page e 2 u.time) u).writeResult q
        (u.pstate q.page) RC.done)) ∧
  (∀ (t : Nat) (q : Req) (s : State), let u := s.start t
    u.verdict q cmdRollCall = 0 →
    exec (.rollCall t q) s = .next ((u.startRound q.page).writeResult q (u.pstate q.page) RC.done)) ∧
  (∀ (t : Nat) (q : Req) (s : State), let u := s.start t
    u.verdict q cmdCanClear = 0 →
    exec (.canCountersClear t q) s =
      .next ((([Cf.ERR_TOTALS_TX.off, Cf.BUSOFF_COUNT.off, Cf.FRAMES_TX.off, Cf.FRAMES_RX.off, Cf.RX_OVERFLOWS.off,
        Cf.ID_CONFLICTS.off, Cf.OVERWRITES_TXS.off].foldl (fun s off => s.setReg q.page off 0) u).setFld q.page
          Cf.SYNC_STATUS_LATE 0).writeResult q (u.pstate q.page) RC.done))

/-- MAINT_ENTER, MAINT_EXIT, TRIP_ACK and SAFE_TRIP change the safe state; the maintenance limit and the lost key trip with
causes 7 and 6; an enable wave that is lost, or that runs on, is noted for its half; a discrepant output is reported and
trips; a mirror that does not follow and a feedback contact are judged; SO_DEMAND of a lane is taken; SO_RESET releases the
outputs that are ready; the fault counters are cleared. (R487, R488, R491, R492, R494, R495, R496, R497, R514, R515, R522) -/
def Obligations.SafetyRowsComplete : Prop :=
  (∀ (t : Nat) (q : Req) (s : State), let u := s.start t
    u.verdict q cmdMaintEnter = 0 →
    exec (.maintEnter t q) s = .next ((u.setSafeState 5 0).writeResult q (u.pstate q.page) RC.done)) ∧
  (∀ (t : Nat) (q : Req) (s : State), let u := s.start t
    u.verdict q cmdMaintExit = 0 →
    exec (.maintExit t q) s =
      .next (((u.setAckOwed false).setSafeState 1 0).writeResult q (u.pstate q.page) RC.done)) ∧
  (∀ (t : Nat) (q : Req) (s : State), let u := s.start t
    u.verdict q cmdTripAck = 0 →
    exec (.tripAck t q) s =
      .next (((u.setAckOwed false).setSafeState 1 0).writeResult q (u.pstate q.page) RC.done)) ∧
  (∀ (t : Nat) (q : Req) (s : State), let u := s.start t
    u.verdict q cmdSafeTrip = 0 → u.pstate 0x60 = 1 →
    exec (.safeTrip t q) s =
      .next (((u.setAckOwed true).trip60 9).writeResult q (u.pstate q.page) RC.done)) ∧
  (∀ (t : Nat) (s : State), let u := s.start t
    let lim := u.fld 0x60 Sf.SAFE_CFG_MAINT_LIMIT_MIN
    u.pstate 0x60 = 5 → lim ≠ 0 → u.safe.maintAt + lim * 60000000000 ≤ u.now →
    exec (.maintTimeout t) s = .next (u.setSafeState 2 7)) ∧
  (∀ (t : Nat) (s : State), let u := s.start t
    u.pstate 0x60 = 5 → u.safe.keyLost = 2 → exec (.maintKeyLost t) s = .next (u.setSafeState 2 6)) ∧
  (∀ (t : Nat) (l : Lane) (k : Fin 8) (wave : EnableWave) (s : State), let u := s.start t
    let h := u.half l
    exec (.enableWaveLoss t l k wave) s =
      .next ((u.setHalf l { h with
        lost := setBit h.lost k (wave == .lost), stuck := setBit h.stuck k (wave == .running) }).driveOutputs)) ∧
  (∀ (t x : Nat) (k : Fin 8) (s : State), let u := s.start t
    (u.so k).discAt = some x → u.pstate 0x60 = 1 → x + u.fld 0x62 So.DISC_MS * 1000000 ≤ u.now →
    exec (.outDisc t k) s =
      .next (((u.raise 0x62 2 (k.val * 2 ^ 8 + (if u.enable .a k then 1 else 2))).modSafe fun x =>
        { x with disc := true }).safetyCause 4)) ∧
  (∀ (t x : Nat) (k : Fin 8) (m1 m2 : Bool) (s : State), let u := s.start t
    let v := (u.setFld 0x62 So.SO_STATUS_MIRROR_K1 (bool01 m1) k).setFld 0x62 So.SO_STATUS_MIRROR_K2 (bool01 m2) k
    let on := v.soState k == 1
    (v.so k).dropAt = none → (v.so k).coilAt = some x → x + 20000000 ≤ v.now →
    (m1 = on → exec (.mirrorCheck t k m1 m2) s = .next (v.soFault k 1)) ∧
    (m1 ≠ on → m2 = on → exec (.mirrorCheck t k m1 m2) s = .next (v.soFault k 2)) ∧
    (m1 ≠ on → m2 ≠ on → exec (.mirrorCheck t k m1 m2) s = .next v)) ∧
  (∀ (t x : Nat) (k : Fin 8) (s : State), let u := s.start t
    let v := (u.setFld 0x62 So.SO_STATUS_MIRROR_K1 1 k).setFld 0x62 So.SO_STATUS_MIRROR_K2 1 k
    (v.so k).dropAt = some x → (v.so k).coilAt = none →
    exec (.mirrorCheck t k true true) s =
      .next ((v.setFld 0x62 So.DROP_US (saturate 16 ((v.now - x) / 1000)) k).setSo k { v.so k with dropAt := none })) ∧
  (∀ (t : Nat) (k : Fin 8) (edm : Bool) (s : State), let u := s.start t
    let v := if u.flag 0x62 So.SO_STATUS_EDM k = edm then u else u.setSo k { u.so k with edmAt := u.now }
    exec (.edmCheck t k edm) s =
      .next (((v.setFld 0x62 So.SO_STATUS_EDM (bool01 edm) k).judgeEdm k).driveSo k)) ∧
  (∀ (t code gen : Nat) (l : Lane) (value : Word) (s : State), let u := s.start t
    let w : WriteReq := ⟨code, gen, 0x62, So.SO_DEMAND.off, value⟩
    u.writeVerdict w = 0 → laneOf? code = some l →
    exec (.soDemandWrite t code gen value) s =
      .next ((u.setHalf l { u.half l with demand := bitsOf value 7 0 }).writeReply w (u.pstate 0x62) RC.done)) ∧
  (∀ (t : Nat) (q : Req) (s : State), let u := s.start t
    u.verdict q cmdSoReset = 0 →
    exec (.soReset t q) s =
      .next ((((namedOutputs q.chan).filter u.soReady).foldl (fun s k =>
        ((s.setFld 0x62 So.SO_STATUS_CAUSE 0 k).setSoState k 0 0).driveSo k) u).writeResult q (u.pstate q.page) RC.done)) ∧
  (∀ (t : Nat) (q : Req) (s : State), let u := s.start t
    u.verdict q cmdSoClear = 0 →
    exec (.soCountersClear t q) s =
      .next ((u.each (List.range 8) fun s k => s.setFld 0x62 So.FAULT_COUNT 0 k).writeResult q (u.pstate q.page) RC.done))

/-- A frame of no known connection is counted; a frame of a connection is judged by each lane that runs, under the connection
that its own image names; equal frames of both lanes are sent once, differing ones are a discrepancy; a watchdog that expires
breaks the connection; the counters are cleared. (R500, R504, R507, R519, R611) -/
def Obligations.TarfevikRowsComplete : Prop :=
  (∀ (t : Nat) (bs : List Nat) (s : State), let u := s.start t
    u.connNamed .a (bytesAt bs 0 4) = none → u.connNamed .b (bytesAt bs 0 4) = none →
    exec (.tarfevikFrameRx t bs) s = .next (u.unknownConn (bytesAt bs 0 4))) ∧
  (∀ (t c d : Nat) (bs : List Nat) (s : State), let u := s.start t
    let v := if 2 ≤ u.laneState .a then u.admitFrame .a c bs else u
    u.connNamed .a (bytesAt bs 0 4) = some c → u.connNamed .b (bytesAt bs 0 4) = some d →
    exec (.tarfevikFrameRx t bs) s = .next (if 2 ≤ v.laneState .b then v.admitFrame .b d bs else v)) ∧
  (∀ (t : Nat) (c : Fin 64) (a b : Nat × List Nat) (s : State), let u := s.start t
    (u.safe.handed.a).rd none c = some a → (u.safe.handed.b).rd none c = some b →
    max a.1 b.1 ≤ min a.1 b.1 + 20000 →
    exec (.tarfevikTxDecide t c) s = .next (((u.dropHanded .a c).dropHanded .b c).twoFrames c a.2 b.2)) ∧
  (∀ (t : Nat) (l : Lane) (c : Fin 64) (s : State), let u := s.start t
    let r := u.conn l c
    r.acceptAt + u.connField l c Sc.CONN_TIMING_WDT_MS * 1000000 ≤ u.now →
    exec (.connWatchdog t l c) s = .next (u.connFault l c (if r.badCrc then 2 else 1))) ∧
  (∀ (t : Nat) (q : Req) (s : State), let u := s.start t
    let v := (u.setFld 0x61 Sc.UNKNOWN_CONN 0).setFld 0x61 Sc.TX_MISSING 0
    u.verdict q cmdConnClear = 0 →
    exec (.connCountersClear t q) s =
      .next ((v.each (List.range 64) fun s c =>
        (s.setReg 0x61 (Sc.CONN_ERRORS_CRC.pos c) 0).setFld (connPage c) Sc.DISC_COUNT 0).writeResult q (u.pstate q.page) RC.done))

/-- A segment in retention wakes and the longest wake time is kept; an idle segment goes into retention; a block test counts
its yields and moves its position over segments in retention; BT_RESTART begins a pass; the counters are cleared; SECURE_WIPE
wipes the powered secure memories named. (R530, R531, R534, R536, R542, R545) -/
def Obligations.MemoryRowsComplete : Prop :=
  (∀ (t : Nat) (l : Lane) (seg : Fin 16) (us : Fin 41) (s : State), let u := s.start t
    let p := memPage l
    let ret := u.fld p Mm.SEG_RET
    bitAt ret seg = true →
    exec (.segmentWake t l seg us) s =
      .next (((u.setFld p Mm.SEG_RET (setBit ret seg false)).bump p Mm.WAKE_COUNT).setFld p Mm.WAKE_MAX_US
        (max (u.fld p Mm.WAKE_MAX_US) us))) ∧
  (∀ (t idleMs : Nat) (l : Lane) (seg : Fin 16) (s : State), let u := s.start t
    let p := memPage l
    u.flag p Mm.RET_CFG_ENA = true → bitAt (u.segUse l) seg = false → u.fld p Mm.RET_CFG_RET_IDLE_MS ≤ idleMs →
    exec (.segmentRetention t l seg idleMs) s = .next (u.setFld p Mm.SEG_RET (setBit (u.fld p Mm.SEG_RET) seg true))) ∧
  (∀ (t yields : Nat) (l : Lane) (s : State), let u := s.start t
    let p := memPage l
    let r := skipRetained (u.fld p Mm.SEG_RET) 16 (u.fld p Mm.BT_POS)
    let v := (u.setMem l { u.mem l with btAt := u.now, skipped := (u.mem l).skipped + r.2 }).bump p Mm.BT_YIELDS 0 0 yields
    2 ≤ u.laneState l → u.flag p Mm.BT_CFG_ENA = true → (u.mem l).btAt + u.fld p Mm.BT_CFG_INTERVAL_US * 1000 ≤ u.now →
    exec (.btBlock t l none yields) s =
      .next (if 262144 ≤ r.1 + 1 then v.passDone l else v.setFld p Mm.BT_POS (r.1 + 1))) ∧
  (∀ (t : Nat) (q : Req) (s : State), let u := s.start t
    let l := memLane q.page
    let v := u.setFld q.page Mm.BT_POS 0
    u.verdict q cmdBtRestart = 0 →
    exec (.btRestart t q) s =
      .next ((v.setMem l { v.mem l with passAt := u.now, skipped := 0 }).writeResult q (u.pstate q.page) RC.done)) ∧
  (∀ (t : Nat) (q : Req) (s : State), let u := s.start t
    let l := if q.page = 0x65 then Lane.b else Lane.a
    let v := [Mm.CONFLICTS_P0.off, Mm.DMA_WAIT_MAX_P2.off, Mm.COLLIDE_COUNT.off, Mm.ECC_CORR.off, Mm.ECC_UNCORR.off,
        Mm.MRAM_ECC_CORR.off, Mm.WAKE_COUNT.off, Mm.WAKE_MAX_US.off, Mm.BT_YIELDS.off, Mm.BT_DEFECTS_CORR.off].foldl
          (fun s off => s.setReg q.page off 0) u
    u.verdict q cmdMemClear = 0 →
    exec (.memCountersClear t q) s =
      .next ((v.setMem l { v.mem l with lost := (0, 0), before := (0, 0) }).writeResult q (u.pstate q.page) RC.done)) ∧
  (∀ (t : Nat) (q : Req) (s : State), let u := s.start t
    u.verdict q cmdSecureWipe = 0 →
    exec (.secureWipe t q) s =
      .next ((u.wipe (q.chan != 2 && u.secPowered .a) (q.chan != 1 && u.secPowered .b) 3 2).writeResult q (u.pstate q.page) RC.done))

/-- A CURD waiting at an axis is originated by its present owner; a mirror report overdue is sent again; a capture sample is
kept in the ring and taken; a capture ends at ten times its rate; a unit of records is programmed, a mount ends, a scrub is
noted; FLUSH is accepted and ends when nothing waits; a Vat behind for 10 s is reported; the counters are cleared. (R547,
R550, R553, R554, R555, R556, R559, R566, R567, R570, R571) -/
def Obligations.RecordRowsComplete : Prop :=
  (∀ (t : Nat) (axis : Fin 32) (c : Curd) (rest : List Curd) (s : State), let u := s.start t
    let p := 0x10 + axis.val
    let l := laneNum (u.owner p)
    (u.axis p).curds = c :: rest → (u.beat p l).present = true →
    exec (.curdRecord t axis) s = .next ((u.modAxis p fun x => { x with curds := rest }).originate l c)) ∧
  (∀ (t since : Nat) (l : Lane) (s : State), let u := s.start t
    (u.vat l).lagSince = some since → max (u.vat l).reportAt since + 1000000000 ≤ u.now →
    exec (.mirrorResend t l) s = .next (u.mirrorAgain l)) ∧
  (∀ (t : Nat) (axis : Fin 32) (l : Lane) (c : Capture) (s : State), let u := s.start t
    let p := 0x10 + axis.val
    let sig := u.signals p c.aux
    u.sampleRate p ≠ 0 → (u.axis p).ringAt + 1000000000 / u.sampleRate p ≤ u.now → u.captureOf p = some (l, c) →
    exec (.captureSample t axis) s =
      .next ((u.modAxis p fun x => { x with ring := (sig :: x.ring).take 8000, ringAt := u.now }).captureTake l c sig)) ∧
  (∀ (t : Nat) (axis : Fin 32) (l : Lane) (c : Capture) (s : State), let u := s.start t
    u.captureOf (0x10 + axis.val) = some (l, c) → 10 * c.rate ≤ c.taken →
    exec (.captureEnd t axis) s = .next (u.captureEnd l c.axis 3)) ∧
  (∀ (t : Nat) (l : Lane) (part : Fin 5) (h : NandReport) (s : State), let u := s.start t
    let n := if part.val = 3 then unitBytes else min unitBytes ((u.vat l).waiting part)
    let v := if part.val = 3 then u.setVat l ((u.vat l).hand 3 n) else u
    (u.vatState l = 2 ∨ u.vatState l = 3) → u.servesPart l part = true →
    exec (.vatUnitProgrammed t l part h) s =
      .next ((((v.program l part n).nand l h).showCurdFill l).fillActions l)) ∧
  (∀ (t : Nat) (l : Lane) (h : NandReport) (s : State), let u := s.start t
    let p := vatPage l
    let h' := if (u.vat l).marker then { h with lost := [] } else h
    let v := (u.setFld p Vt.VAT_STATUS_MOUNT_CLEAN (if (u.vat l).marker then 1 else 0)).setFld p Vt.LOST_AT_MOUNT
      (saturate 16 h'.lost.length)
    let w := (v.setVat l { u.vat l with marker := false, scrubAt := u.now }).nand l h'
    u.vatState l = 1 → 2 ≤ u.laneState l → w.vatState l = 1 →
    exec (.vatMountDone t l h) s =
      .next ((w.setVatState l (if 0 < w.fld p Vt.DIES_DIES_FAILED ∨ h.spare < 10 then 3 else 2)).raise p 7
        (w.fld p Vt.LOST_AT_MOUNT))) ∧
  (∀ (t : Nat) (l : Lane) (h : NandReport) (s : State), let u := s.start t
    (u.vatState l = 2 ∨ u.vatState l = 3) → (u.vat l).scrubAt + 30 * 86400 * 1000000000 ≤ u.now →
    exec (.vatScrub t l h) s = .next ((u.setVat l { u.vat l with scrubAt := u.now }).nand l h)) ∧
  (∀ (t : Nat) (q : Req) (s : State), let u := s.start t
    u.verdict q cmdFlush = 0 →
    exec (.flushVat t q) s = .next ((u.openCmd q 1).writeResult q (u.pstate q.page) RC.accepted)) ∧
  (∀ (t : Nat) (l : Lane) (s : State), let u := s.start t
    ([0, 1, 2, 4].all fun p => (u.vat l).waiting p == 0) = true →
    exec (.flushDone t l) s = .next (u.completeAll (fun o => o.page == vatPage l && o.opc == 0x01) RC.done)) ∧
  (∀ (t : Nat) (q : Req) (s : State), let u := s.start t
    u.verdict q cmdVatClear = 0 →
    exec (.vatCountersClear t q) s =
      .next (([Vt.DECIMATED, Vt.DROPPED, Vt.NOT_STARTED, Vt.MIRROR_DUPS, Vt.MIRROR_LOST, Vt.UNSEALED, Vt.HELD_HELD_DROPS,
        Vt.LOST_AT_MOUNT, Vt.TAG_FAILS].foldl (fun s f => s.setFld q.page f 0) u).writeResult q (u.pstate q.page) RC.done)) ∧
  (∀ (t since : Nat) (l : Lane) (s : State), let u := s.start t
    (u.vat l).lagSince = some since → since + 10000000000 ≤ u.now →
    exec (.mirrorBehindTimeout t l) s = .next (u.level (vatPage l) 3 true))

/-- DUMP_REQUEST is accepted and starts a dump of the lane named; a dump is written, and abandoned at its limit; MINI_CLEAR
empties the minimal dumps; the counters are cleared. (R563, R573) -/
def Obligations.DumpRowsComplete : Prop :=
  (∀ (t : Nat) (q : Req) (s : State), let u := s.start t
    let l := laneNum q.chan
    let r := ((u.openCmd q 1).writeResult q (u.pstate q.page) RC.accepted).dumpStart l 32 0xFF 0 false
    u.verdict q cmdDumpRequest = 0 → r.2 = true → exec (.dumpRequest t q) s = .next r.1) ∧
  (∀ (t : Nat) (l : Lane) (j : DumpJob) (s : State), let u := s.start t
    (u.vat l).dumping = some j → exec (.dumpDone t l) s = .next ((u.dumpWritten l j).afterDump l j)) ∧
  (∀ (t : Nat) (l : Lane) (j : DumpJob) (s : State), let u := s.start t
    (u.vat l).dumping = some j → j.since + u.fld 0x7F Dp.DUMP_CFG_DUMP_LIMIT_MS * 1000000 ≤ u.now →
    exec (.dumpAbandon t l) s = .next ((u.dumpAbandoned l j).afterDump l j)) ∧
  (∀ (t : Nat) (q : Req) (s : State), let u := s.start t
    u.verdict q cmdMiniClear = 0 →
    exec (.miniClear t q) s =
      .next (((u.setMini []).setFld 0x7F Dp.MINI_STATUS_OLDEST 0).writeResult q (u.pstate q.page) RC.done)) ∧
  (∀ (t : Nat) (q : Req) (s : State), let u := s.start t
    u.verdict q cmdDumpClear = 0 →
    exec (.dumpCountersClear t q) s =
      .next ((u.each [0, 1] fun s n => (s.setFld 0x7F Dp.DUMPS_SUPPRESSED 0 n).setFld 0x7F Dp.ABANDONED 0 n).writeResult q
        (u.pstate q.page) RC.done))

/-- While management runs: its load is shown each second, the supplies are shown and the sensors are sampled at their time,
the telemetry entries are written at theirs, a host's request is received and served; a ripening run takes place when due or
is deferred; the plan is rechecked; MINMAX_CLEAR, RIP_RUN, RIP_REBASE, RIP_SET_REF and the clearing of the counters are
carried out. (R577, R578, R579, R580, R582, R584, R585, R596, R598, R600) -/
def Obligations.ManagementRowsComplete : Prop :=
  (∀ (t : Nat) (pct : Fin 101) (shares : List Nat) (s : State), let u := s.start t
    let v := (u.putMgmt { u.mgmt with loadAt := u.now }).setFld 0x70 Mg.MGMT_LOAD_LOAD_PCT pct
    let w := v.setFld 0x70 Mg.MGMT_LOAD_PEAK_PCT (max pct.val (v.fld 0x70 Mg.MGMT_LOAD_PEAK_PCT))
    let share (n : Nat) : Nat := min 100 (shares.getD n 0)
    let x := (w.setFld 0x70 Mg.CLASS_LOAD_UPDATE (share 0)).setFld 0x70 Mg.CLASS_LOAD_HOST (share 1)
    u.mgmtRuns = true → u.mgmt.loadAt + 1000000000 ≤ u.now →
    exec (.mgmtLoadCheck t pct shares) s =
      .next ((((x.setFld 0x70 Mg.CLASS_LOAD_RIPENING (share 2)).setFld 0x70 Mg.CLASS_LOAD_TELEMETRY (share 3)).occupancySteps
        pct).showLoad)) ∧
  (∀ (t : Nat) (vals : List (Option Int)) (s : State), let u := (s.start t).supplyVolts vals
    let d := u.fld 0x70 Mg.MGMT_LOAD_TELEM_DIV
    let v := u.putMgmt { u.mgmt with sampleAt := u.now }
    u.mgmtRuns = true → u.mgmt.sampleAt + u.fld 0x71 Sn.SAMPLE_CFG_SAMPLE_MS * 2 ^ d * 1000000 ≤ u.now →
    exec (.sensorSample t vals) s =
      .next ((if d = 0 then v else v.bump 0x70 Mg.DEFER_TELEM 0 0 (2 ^ d - 1)).each (List.range 64) fun s n =>
        match vals.getD n none with
        | some v => s.sensorValue n v
        | none => s.sensorSilent n)) ∧
  (∀ (t : Nat) (s : State), let u := s.start t
    u.mgmtRuns = true → u.mgmt.telemAt + u.fld 0x70 Mg.TELEM_CFG_TELEM_S * 1000000000 ≤ u.now →
    exec (.telemEntry t) s =
      .next ((u.putMgmt { u.mgmt with telemAt := u.now }).each [0, 21, 42, 63] State.sensorsEntry)) ∧
  (∀ (t : Nat) (k : Fin 4) (r : HanucaReq) (env : ReqEnv) (s : State),
    exec (.hostMgmtRequest t (some (k, r)) env) s = .next ((s.start t).receive k r env)) ∧
  (∀ (t : Nat) (env : ReqEnv) (s : State),
    exec (.hostMgmtRequest t none env) s = .next ((s.start t).mgmtServe env)) ∧
  (∀ (t : Nat) (q : Req) (s : State), let u := s.start t
    u.verdict q cmdMinmaxClear = 0 →
    exec (.minmaxClear t q) s =
      .next ((u.each (List.range 64) fun s n => ((s.setFld 0x71 Sn.S_SEEN_MAX 0x8000 n).setFld 0x71 Sn.S_SEEN_MIN 0x7FFF n).setFld
        0x71 Sn.S_STATUS_EXCURSIONS 0 n).writeResult q (u.pstate q.page) RC.done)) ∧
  (∀ (t : Nat) (q : Req) (s : State), let u := s.start t
    u.verdict q cmdMgmtClear = 0 →
    exec (.mgmtCountersClear t q) s =
      .next (([Mg.MGMT_LOAD_PEAK_PCT, Mg.DEFER_TELEM, Mg.DEFER_RIP, Mg.REFUSED_HOST, Mg.HOST_QUEUE_HWM].foldl
        (fun s f => s.setFld 0x70 f 0) u).writeResult q (u.pstate q.page) RC.done)) ∧
  (∀ (t : Nat) (meas : List (Nat × Nat)) (s : State), let u := s.start t
    u.mgmtRuns = true → u.mgmt.ripDue = true → u.flag 0x70 Mg.MGMT_LOAD_RIP_DEFERRED = false →
    exec (.ripeningRun t meas) s = .next (u.ripRun meas)) ∧
  (∀ (t : Nat) (meas : List (Nat × Nat)) (s : State), let u := s.start t
    u.mgmtRuns = true → u.flag 0x72 Rp.RIP_CFG_ENA = true → u.mgmt.ripDue = false →
    u.mgmt.ripAt + u.fld 0x72 Rp.RIP_CFG_PERIOD_H * 3600000000000 ≤ u.now → u.flag 0x70 Mg.MGMT_LOAD_RIP_DEFERRED = true →
    exec (.ripeningRun t meas) s = .next ((u.putMgmt { u.mgmt with ripDue := true }).bump 0x70 Mg.DEFER_RIP)) ∧
  (∀ (t x : Nat) (s : State), let u := s.start t
    u.mgmt.recheckAt = some x → u.mgmtRuns = true → x ≤ u.now →
    exec (.planRecheck t) s =
      .next (((u.putMgmt { u.mgmt with recheckAt := none }).each ((List.range 110).filter ripAction) fun s i =>
        let r := s.ripAsked i
        let v := r.2.ripDiffers i
        v.setFld 0x72 Rp.RIP_OUTLOOK_STATE (v.ripState i (ripBeyond i (v.fld 0x72 Rp.RIP_BOUND_BOUND i) r.1)) i).showRipening)) ∧
  (∀ (t : Nat) (q : Req) (s : State), let u := s.start t
    let v := if u.flag 0x70 Mg.MGMT_LOAD_RIP_DEFERRED = true ∧ u.mgmt.ripDue = false then u.bump 0x70 Mg.DEFER_RIP else u
    u.verdict q cmdRipRun = 0 →
    exec (.ripRun t q) s =
      .next (((v.putMgmt { v.mgmt with ripDue := true, ripAt := v.now }).openCmd q 1).writeResult q (u.pstate q.page)
        RC.accepted)) ∧
  (∀ (t : Nat) (q : Req) (s : State), let u := s.start t
    let i := q.chan
    let v := u.setRipItem i { u.ripItem i with daily := [] }
    let w := v.setFld 0x72 Rp.RIP_VALUE_BASE (v.fld 0x72 Rp.RIP_VALUE_NOW i) i
    u.verdict q cmdRipRebase = 0 →
    exec (.ripRebase t q) s =
      .next ((if ripAction i then w.setFld 0x72 Rp.RIP_PLAN_REF (w.ripField i) i else w).writeResult q (u.pstate q.page)
        RC.done)) ∧
  (∀ (t : Nat) (q : Req) (s : State), let u := s.start t
    let i := q.chan
    u.verdict q cmdRipSetRef = 0 →
    exec (.ripSetRef t q) s =
      .next (((u.setRipItem i { u.ripItem i with refSet := true }).setFld 0x72 Rp.RIP_PLAN_REF (u.ripField i) i).writeResult q
        (u.pstate q.page) RC.done))

/-- UPD_BEGIN empties the staging area and takes target and length; UPD_CHUNK places the window's bytes at their offset;
UPD_VERIFY goes to VERIFYING and its end is judged; UPD_ACTIVATE begins the activation, each step carries it on by its target;
an aligned lane's trial is confirmed after its time; UPD_ABORT ends the update; UPD_ROLLBACK begins the way back. (R588, R589,
R590, R602) -/
def Obligations.UpdateRowsComplete : Prop :=
  (∀ (t : Nat) (q : Req) (s : State), let u := s.start t
    let v := (u.clearStaging.setFld 0x73 Up.UPD_SESSION_TARGET (u.arg0 q)).setFld 0x73 Up.UPD_LEN (u.arg1 q)
    u.verdict q cmdUpdBegin = 0 →
    exec (.updBegin t q) s =
      .next (((v.setFld 0x73 Up.UPD_SESSION_STEP 0).setUpd 1).writeResult q (u.pstate q.page) RC.done)) ∧
  (∀ (t : Nat) (q : Req) (s : State), let u := s.start t
    let a := u.arg0 q
    let b := u.arg1 q
    let chunks := u.mgmt.chunks.wr 0 a (max b (u.mgmt.chunks.rd 0 a))
    u.verdict q cmdUpdChunk = 0 →
    exec (.updChunk t q) s =
      .next (((u.putMgmt { u.mgmt with
        staging := placeBytes u.mgmt.staging a (u.updWindow b), chunks := chunks }).setFld 0x73 Up.UPD_RECEIVED
          (chunks.map (·.2)).sum).writeResult q (u.pstate q.page) RC.done)) ∧
  (∀ (t : Nat) (q : Req) (s : State), let u := s.start t
    u.verdict q cmdUpdVerify = 0 →
    exec (.updVerify t q) s = .next (((u.setUpd 2).openCmd q 3).writeResult q (u.pstate q.page) RC.accepted)) ∧
  (∀ (t : Nat) (f : UpdFound) (s : State), let u := s.start t
    u.mgmtRuns = true → u.pstate 0x73 = 2 → exec (.updVerifyDone t f) s = .next (u.updVerified f)) ∧
  (∀ (t : Nat) (q : Req) (s : State), let u := s.start t
    let g := u.fld 0x73 Up.UPD_SESSION_TARGET
    u.verdict q cmdUpdActivate = 0 →
    exec (.updActivate t q) s =
      .next (((u.beginActivation g (targetInstances g) false).openCmd q 4).writeResult q (u.pstate q.page) RC.accepted)) ∧
  (∀ (t : Nat) (f : SlotFound) (s : State), let u := s.start t
    let g := u.fld 0x73 Up.UPD_SESSION_TARGET
    u.mgmtRuns = true → u.pstate 0x73 = 4 →
    exec (.updStep t f) s =
      .next (if g = 0 then u.stepLanes else if g = 1 then u.stepMgmt f
        else if g = 2 then ((u.swapSlots 3).swapSlots 4).finishActivation else u.stepConfig)) ∧
  (∀ (t : Nat) (l : Lane) (s : State), let u := s.start t
    u.laneState l = 4 → u.flag 0x73 Up.SLOT_STATE_TRIAL (fwInstance l) = true →
    (u.lane l).alignedAt + u.fld 0x73 Up.CONFIRM_CFG_CONFIRM_S * 1000000000 ≤ u.now →
    exec (.trialConfirmed t l) s = .next (u.confirmTrial (fwInstance l))) ∧
  (∀ (t : Nat) (q : Req) (s : State), let u := s.start t
    u.verdict q cmdUpdAbort = 0 →
    exec (.updAbort t q) s = .next (((u.endUpdate 9).clearStaging).writeResult q (u.pstate q.page) RC.done)) ∧
  (∀ (t : Nat) (q : Req) (s : State), let u := s.start t
    u.verdict q cmdUpdRollback = 0 →
    exec (.updRollback t q) s =
      .next (((u.beginActivation (u.arg0 q) (u.rollable (u.arg0 q)) true).openCmd q 6).writeResult q (u.pstate q.page)
        RC.accepted))

/-- A breach stores its measurements and is counted, and erases where its cause is armed; keys are generated after it, and
what was kept of the breaches is told; closing the seal completes a pending PROV_COMMIT and its time-out drops it;
FACTORY_CLOSE, PROV_BEGIN, CERT_INSTALL, ANCHOR_SET, PROV_COMMIT, REPROVISION, ERASE and RETIRE have their effect. (R605,
R606, R612, R613, R616, R617, R618, R619, R621) -/
def Obligations.LifeCycleRowsComplete : Prop :=
  (∀ (t traceA traceB us : Nat) (cause : Fin 5) (inputs : Fin 32) (temp : Int) (s : State), let u := s.start t
    let v := u.showInputs inputs traceA traceB temp
    let x := v.bump 0x74 Lc.BREACH_COUNT
    v.rindOpen (cause + 1) = true →
    exec (.rindBreach t cause inputs traceA traceB temp us) s =
      .next (if x.rindArmed (cause + 1) then x.erase (cause + 1) us 3 else x.raise 0x74 1 (cause + 1))) ∧
  (∀ (t : Nat) (s : State), let u := s.start t
    let v := ((u.setFld 0x74 Lc.IDENTITY_GEN ((u.fld 0x74 Lc.IDENTITY_GEN + 1) % 2 ^ 16)).setFld 0x74
      Lc.IDENTITY_PROVISIONAL 1).setFld 0x74 Lc.RIND_STATUS_KEYSTORE_VALID 1
    u.lc.keysDue = true → u.power.common = true →
    exec (.keyGenerationDone t) s =
      .next (v.putLc { v.lc with keysDue := false, vatKeyGen := (v.lc.vatKeyGen + 1) % 2 ^ 16 }).tellBreaches) ∧
  (∀ (t : Nat) (s : State), let u := (s.start t).setFld 0x74 Lc.RIND_STATUS_SEAL_OK 1
    u.lifeCycle = 1 → u.flag 0x74 Lc.LC_STATUS_COMMIT_PENDING = true →
    exec (.sealClosed t) s =
      .next (((u.setCommit false).changeLc 2).completeAll (fun o => o.page == 0x74 && o.opc == 0x05) RC.done)) ∧
  (∀ (t x : Nat) (s : State), let u := s.start t
    u.lc.commitAt = some x → x + u.fld 0x74 Lc.RIND_CFG_SEAL_WAIT_S * 1000000000 ≤ u.now →
    exec (.sealWaitExpiry t) s = .next u.dropCommit) ∧
  (∀ (t : Nat) (q : Req) (s : State), let u := s.start t
    u.verdict q cmdFactoryClose = 0 →
    exec (.factoryClose t q) s =
      .next (((u.bump 0x74 Lc.PROV_COUNT).changeLc 1).writeResult q (u.pstate q.page) RC.done)) ∧
  (∀ (t : Nat) (q : Req) (s : State), let u := s.start t
    u.verdict q cmdProvBegin = 0 →
    exec (.provBegin t q) s =
      .next (((u.bump 0x74 Lc.PROV_COUNT).changeLc 1).writeResult q (u.pstate q.page) RC.done)) ∧
  (∀ (t : Nat) (q : Req) (c : CertFound) (s : State), let u := s.start t
    let v := ((u.putLc { u.lc with ownRef := some (c.ref % 2 ^ 64) }).setFld 0x74 Lc.IDENTITY_PROVISIONAL 0).setFld64 0x74
      Lc.CERT_NOT_AFTER_LO (c.notAfter % 2 ^ 64)
    u.verdict q (cmdCertInstall c) = 0 →
    exec (.certInstall t q c) s =
      .next ((v.raise 0x74 4 (c.ref % 2 ^ 16)).writeResult q (u.pstate q.page) RC.done)) ∧
  (∀ (t : Nat) (q : Req) (c : CertFound) (s : State), let u := s.start t
    let v := (u.putLc { u.lc with hostAnchor := true }).setFld 0x74 Lc.HOST_ANCHOR_REF (c.ref % 2 ^ 32)
    u.verdict q (cmdAnchorSet c) = 0 → u.fld 0x74 Lc.WIN_CTRL_KIND = 3 →
    exec (.anchorSet t q c) s =
      .next ((v.showAnchors v.hostAnchor v.contentAnchor).writeResult q (u.pstate q.page) RC.done)) ∧
  (∀ (t : Nat) (q : Req) (s : State), let u := s.start t
    u.verdict q cmdProvCommit = 0 →
    exec (.provCommit t q) s =
      .next (((u.setCommit true).openCmd q 5).writeResult q (u.pstate q.page) RC.accepted)) ∧
  (∀ (t : Nat) (q : Req) (s : State), let u := s.start t
    u.verdict q cmdReprovision = 0 →
    exec (.reprovision t q) s =
      .next ((((u.putLc { u.lc with fromErased := false }).bump 0x74 Lc.PROV_COUNT).changeLc 1).writeResult q (u.pstate q.page)
        RC.done)) ∧
  (∀ (t us : Nat) (q : Req) (s : State), let u := s.start t
    u.verdict q (cmdErase us) = 0 →
    exec (.eraseKeys t q us) s = .next ((u.writeResult q (u.pstate q.page) RC.done).erase 6 us 3)) ∧
  (∀ (t us : Nat) (q : Req) (s : State), let u := s.start t
    u.verdict q (cmdRetire us) = 0 →
    exec (.retire t q us) s = .next ((u.writeResult q (u.pstate q.page) RC.done).erase 7 us 4))

/-- A lost grandmaster is noted; a chopper model that has cooled to 50 percent without a hard lock unlocks the chopper; the
Hall fault clears 100 ms after the last bad code; an output's open load and its backfeed end. (R68, R129, R315, R354, R413) -/
def Obligations.ClocksAndModelsComplete : Prop :=
  (∀ (t : Nat) (s : State), let u := s.start t
    let v := u.setFld 0 Dev.TIME_STATUS_GM_PRESENT 0
    u.flag 0 Dev.TIME_STATUS_GM_PRESENT = true →
    exec (.grandmasterLost t) s = .next (v.putHost { v.host with gmLost := some v.now }).ptpRoles) ∧
  (∀ (t : Nat) (b : Fin 2) (s : State), let u := (s.start t).settleHeat b
    u.resistorCooled b = true → (u.bus b).hardLock = false →
    exec (.chopperModelCooled t b) s = .next (u.lockChopper b false)) ∧
  (∀ (t : Nat) (a : Fin 32) (s : State), let u := s.start t
    let p := axisPage a
    u.flag p Ax.FB_STATUS_HALL_FAULT = true → (u.axis p).fb.hallErr + 100000000 ≤ u.now →
    exec (.hallFaultClear t a) s = .next (u.setFld p Ax.FB_STATUS_HALL_FAULT 0)) ∧
  (∀ (t ma : Nat) (b k : Fin 16) (s : State), let u := s.start t
    let p := 0x30 + b.val
    (u.ch p k).fault = 6 → u.fld p Bk.OUT_OPEN_OPEN_MA ≤ ma →
    exec (.fieldOutputFaultEnd t b k ma) s = .next (u.chFaultEnd p k 6)) ∧
  (∀ (t ma : Nat) (b k : Fin 16) (s : State), let u := s.start t
    let p := 0x30 + b.val
    (u.ch p k).fault = 9 → (u.ch p k).state = false → (u.ch p k).diffAt + 10000000 ≤ u.now →
    exec (.fieldOutputFaultEnd t b k ma) s = .next (u.chFaultEnd p k 9))

/-- For every state s whose queue is c followed by a rest, step s is exec of c on s with the rest as its queue; with an empty
queue step answers s itself (the model's choice, log entry 1). (R54) -/
def Obligations.StepTakesTheFrontCommand : Prop :=
  (∀ (c : Instr) (rest : List Instr) (s : State),
    step { s with pending := c :: rest } = exec c { s with pending := rest }) ∧
  (∀ s : State, s.pending = [] → step s = .next s)

/-- At reset every register holds its reset value, every used page has the generation 0x0001, the module is not retired, no
engine runs, no safe output is energised, no host session is active, no command is open and none waits. The chosen parts (a
common rail up, both lane supplies present) are log entry 2. (R6, R57, R103, R113) -/
def Obligations.ResetState : Prop :=
  (∀ p o b : Nat, State.reset.reg p o b = Reg.reset (Reg.key p o b)) ∧
  (∀ p : Nat, p < 128 → pageUsed p = true → State.reset.gen p = 1) ∧
  (∀ l : Lane, State.reset.laneState l = 0 ∧ State.reset.pstate (clePage l) = 0 ∧ (State.reset.cle l).running = none) ∧
  (∀ k : Nat, k < 8 → State.reset.soState k = 0 ∧ State.reset.offCause k = 3) ∧ (∀ k : Nat, (State.reset.slot k).active = false) ∧
  State.reset.retired = false ∧ State.reset.opens = [] ∧ State.reset.pending = [] ∧ State.reset.out = []

/-- State.reset is at no earlier instant than 0, counts the first boot, holds no command that is not well formed, and its
register table is in canonical form. (R9, R68) -/
def Obligations.ResetMeetsTheInvariants : Prop := State.reset.atLeast 0 1 ∧ State.reset.canonical = true

/-- For every state and every instant n and boot count b: if the state is at least there and holds only well-formed commands,
so is the state after a step; and the queue after a step is the queue before it without its front command. (R9, R54, R68) -/
def Obligations.StepKeepsClockBootsAndQueue : Prop :=
  ∀ (n b : Nat) (s s' : State), s.atLeast n b → step s = .next s' → s'.atLeast n b ∧ s'.pending = s.pending.tail

/-- If two states hold their registers in canonical form and every register of every page and bank reads alike in both, their
register tables are equal; so the form keeps exactly what can be read. (R38, R45) -/
def Obligations.CanonicalRegistersAreTheirReadings : Prop :=
  ∀ s u : State, s.canonical = true → u.canonical = true →
    (∀ p o b : Nat, o < 4096 → b < 8 → s.reg p o b = u.reg p o b) → s.regs = u.regs

/-- Storing a value as a register's table says keeps the canonical form of the register table and changes no register of a
page other than the written one and page 0x7E, which takes the drop counts of an event that finds no room; a register set as a
whole reads back in its bank and every other register reads as before. (R38, R45, R61) -/
def Obligations.RegisterWriteKeepsForm : Prop :=
  (∀ (s : State) (code page off : Nat) (value : Word), s.canonical = true → (s.store code page off value).canonical = true) ∧
  (∀ (s : State) (code page off p o b : Nat) (value : Word), o < 4096 → b < 8 → page < 128 → off < 4096 → p ≠ page → p ≠ 0x7E →
    (s.store code page off value).reg p o b = s.reg p o b) ∧
  (∀ (s : State) (page off bank p o b : Nat) (w : Word), off < 4096 → bank < 8 → o < 4096 → b < 8 →
    (s.setReg page off w bank).reg p o b = if p = page ∧ o = off ∧ b = bank then w else s.reg p o b)

/-- For each of the commands that isHostCommand names (every command of the pages but those of the axes, the power ration's
forms and those with a second operand): where a check of R50 fails, and the command does not wait behind an ownership request
of its lane, exec answers a next state that differs from the state before only in the registers, the event fabric, the events
posted to the engines and what was sent; of the registers only CMD_RESULT in the requester's bank and EVT_PEND of the page,
and those of page 0x7E, may differ, and CMD_RESULT holds the code and the block state of that moment. (R50, R51) -/
def Obligations.RefusedCommandHasNoEffect : Prop :=
  ∀ (t us : Nat) (q : Req) (c : CertFound) (s : State) (x : Instr × Cmd), isHostCommand t us q c x →
    let u := s.start t
    u.verdict q x.2 ≠ 0 → u.verdict q x.2 ≠ RC.held → ∃ v, exec x.1 s = .next v ∧
      v = { u with regs := v.regs, fabric := v.fabric, clePosts := v.clePosts, out := v.out } ∧
      (∀ p o b, o < 4096 → b < 8 → p ≠ 0x7E → ¬(p = q.page ∧ (o = 0x3C ∧ b = q.code % 8 ∨ o = 0x24)) →
        v.reg p o b = s.reg p o b) ∧
      (pageUsed q.page = true →
        v.reg q.page 0x3C (q.code % 8) = resultWord q.tag (u.pstate q.page) (u.verdict q x.2))

/-- NOP on a used page under its generation changes CMD_RESULT of the requester's bank alone; CLAMP_CLEAR besides it only the
four clamp registers of its page, which it sets to 0; a write of CMD_ARG0 or CMD_ARG1 only that register in the writer's bank;
a write of EVT_PEND only that register. No other register of any page changes, and of the rest of the state only the instant
and what was sent. (R45, R56, R62) -/
def Obligations.HeaderCommandFrames : Prop :=
  (∀ (t : Nat) (q : Req) (s : State), let u := s.start t
    u.holds q.page q.code = false → pageUsed q.page = true → q.gen = u.gen q.page →
    ∃ v, exec (.nop t q) s = .next v ∧ v = { u with regs := v.regs, out := v.out } ∧
      ∀ p o b, o < 4096 → b < 8 → ¬(p = q.page ∧ o = 0x3C ∧ b = q.code % 8) → v.reg p o b = s.reg p o b) ∧
  (∀ (t : Nat) (q : Req) (s : State), let u := s.start t
    u.verdict q cmdClampClear = 0 →
    ∃ v, exec (.clampClear t q) s = .next v ∧ v = { u with regs := v.regs, out := v.out } ∧
      (∀ o ∈ [0x40, 0x44, 0x48, 0x4C], v.reg q.page o = 0) ∧
      ∀ p o b, o < 4096 → b < 8 →
        ¬(p = q.page ∧ (o = 0x3C ∧ b = q.code % 8 ∨ o ∈ [0x40, 0x44, 0x48, 0x4C] ∧ b = 0)) → v.reg p o b = s.reg p o b) ∧
  (∀ (t : Nat) (w : WriteReq) (s : State), let u := s.start t
    w.off = 0x34 ∨ w.off = 0x38 → pageUsed w.page = true → u.holds w.page w.code = false → u.quietVerdict w = 0 →
    ∃ v, exec (.cmdArgWrite t w) s = .next v ∧ v = { u with regs := v.regs, out := v.out } ∧
      v.reg w.page w.off (w.code % 8) = w.value ∧
      ∀ p o b, o < 4096 → b < 8 → ¬(p = w.page ∧ o = w.off ∧ b = w.code % 8) → v.reg p o b = s.reg p o b) ∧
  (∀ (t : Nat) (w : WriteReq) (s : State), let u := s.start t
    w.off = 0x24 → pageUsed w.page = true → u.writeVerdict w = 0 →
    ∃ v, exec (.evtPendClear t w) s = .next v ∧ v = { u with regs := v.regs, out := v.out } ∧
      (∀ i, i < 16 → bitAt (v.fld w.page Hd.EVT_PEND) i = (bitAt (s.fld w.page Hd.EVT_PEND) i && !bitAt w.value.toNat i)) ∧
      ∀ p o b, o < 4096 → b < 8 → ¬(p = w.page ∧ o = 0x24 ∧ b = 0) → v.reg p o b = s.reg p o b)

/-- For ADD, SUB, AND, OR, XOR, SHL, SHR, ASR, MUL, MULH, MIN, MAX, DIV and REM that execute with their unused field bits 0:
of the block only the running task of that engine changes, and nothing is sent; of the task only the pc, G[d] and the flags Z,
N, C and V change. All of the engine's memory, every other task, the other engine and every register of the block stay as they
are. (R202, R216) -/
def Obligations.IntegerFrame : Prop :=
  ∀ (l : Lane) (t : Nat) (f : Fields) (s : State), s.executes l t 1 false → onlyBits f 0xFFF000 = true →
    ∀ i ∈ [Instr.add l f, Instr.sub l f, Instr.andReg l f, Instr.orReg l f, Instr.xorReg l f, Instr.shl l f, Instr.shr l f,
      Instr.asr l f, Instr.mul l f, Instr.mulh l f, Instr.minReg l f, Instr.maxReg l f, Instr.div l f, Instr.rem l f],
    let k := (s.cle l).tasks.rd {} t
    ∃ v, exec i s = .next v ∧ s.onlyTask v l t ∧ (v.cle l).data = (s.cle l).data ∧
      let j := (v.cle l).tasks.rd {} t
      (∀ r, r ≠ fD f → j.G r = k.G r) ∧
      j = { k with pc := pcAfter k.pc 1, g := j.g, z := j.z, n := j.n, c := j.c, v := j.v }

/-- For STW, STH, STB, SIW, XSTD and XSTS that execute where the address they compute admits the store: the bytes at that
address read back as the value stored where it lies in data memory, every byte outside them reads as before, no register of
the task changes but the pc, and every other task, the other engine and every register of the block stay as they are. (R205,
R208, R216) -/
def Obligations.StoreFrame : Prop :=
  ∀ (l : Lane) (t : Nat) (f : Fields) (s : State), s.executes l t 1 false →
    let c := s.cle l
    let k := s.fetched l t 1
    ∀ x ∈ [(Instr.stw l f 0, addrM k f, (k.G (fD f)).toNat, 4), (.sth l f, addrM k f, (k.G (fD f)).toNat, 2),
      (.stb l f, addrM k f, (k.G (fD f)).toNat, 1), (.siw l f, addrMI k f, (k.G (fD f)).toNat, 4),
      (.xstd l f, addrM k f, (k.X (fD f)).toNat, 8), (.xsts l f, addrM k f, (k.X (fD f)).toNat % 2 ^ 32, 4)],
    (x.1 = .siw l f → onlyBits f 0xF0FFFF = true) → (c.store x.2.1 x.2.2.1 x.2.2.2).isSome = true →
    ∃ v, exec x.1 s = .next v ∧ v = { s with out := [], cles := v.cles } ∧ v.cle l.other = s.cle l.other ∧
      (∀ j, j ≠ t → (v.cle l).tasks.rd {} j = c.tasks.rd {} j) ∧ (v.cle l).tasks.rd {} t = k ∧
      (∀ b, b < x.2.1 ∨ x.2.1 + x.2.2.2 ≤ b → (v.cle l).load b 1 = c.load b 1) ∧
      (x.2.1 < dataSize → (v.cle l).load x.2.1 x.2.2.2 = some (x.2.2.1 % 256 ^ x.2.2.2))

/-- For an engine that executes BANDP, BORP or BXORP with an operand bit b: at depth 16 it stops with ILLEGAL_INSTR; below it
the pair of ACC and the operation is pushed and ACC becomes b. BPOP at depth 0 stops with ILLEGAL_INSTR; above it the
innermost pair (v, op) leaves the stack and ACC becomes v op ACC, op being AND, OR or XOR. Nothing else of the task changes
but the pc. (R219) -/
def Obligations.BitStack : Prop :=
  (∀ (l : Lane) (t a i v : Nat) (f : Fields) (s : State), let c := s.cle l
    let k := s.fetched l t 1
    s.executes l t 1 true → bitOperand k f = some (a, i) → c.load a 4 = some v →
    ∀ x ∈ [(Instr.bandp l f, BitOp.and), (.borp l f, .or), (.bxorp l f, .xor)],
    exec x.1 s = .next (if k.bstack.length < 16 then
        s.carried l t c { k with bstack := (k.acc, x.2) :: k.bstack, acc := bitAt v i }
      else (s.putOut []).cleFault l Cause.illegal t (c.tasks.rd {} t).pc)) ∧
  (∀ (l : Lane) (t : Nat) (f : Fields) (s : State), let c := s.cle l
    let k := s.fetched l t 1
    s.executes l t 1 true → onlyBits f 0 = true → k.bstack = [] →
    exec (.bpop l f) s = .next ((s.putOut []).cleFault l Cause.illegal t (c.tasks.rd {} t).pc)) ∧
  (∀ (l : Lane) (t : Nat) (f : Fields) (v : Bool) (op : BitOp) (rest : List (Bool × BitOp)) (s : State), let c := s.cle l
    let k := s.fetched l t 1
    s.executes l t 1 true → onlyBits f 0 = true → k.bstack = (v, op) :: rest →
    exec (.bpop l f) s = .next (s.carried l t c { k with bstack := rest, acc := (match op with
      | .and => v && k.acc
      | .or => v || k.acc
      | .xor => v != k.acc) }))

/-- For every page that is not in use: a read of any offset by any requester gives 0; a write by any requester changes no
state but the instant and the reply sent; NOP and every command that isHostCommand names, written to it, returns
UNKNOWN_OPCODE, and no register of any page, so no event either, changes. A retired module, which refuses every request but
NOP before that, and a command that waits behind an ownership request are left aside. (R41) -/
def Obligations.UnusedPages : Prop :=
  (∀ (page off code : Nat) (s : State), pageUsed page = false → (s.readReg page off code).1 = 0) ∧
  (∀ (t us : Nat) (w : WriteReq) (found : CertFound) (s : State), let u := s.start t
    pageUsed w.page = false → w.off % 4096 / 4 * 4 ≠ 0x30 →
    exec (.configWrite t w found us) s =
      .next { u with out := [⟨.writeReply, [w.code, w.page, w.off % 4096 / 4 * 4, RC.done, 0, w.gen], none⟩] }) ∧
  (∀ (t us : Nat) (q : Req) (c : CertFound) (s : State), let u := s.start t
    pageUsed q.page = false → u.retired = false → u.holds q.page q.code = false →
    ∀ i, (i = .nop t q ∨ ∃ d, isHostCommand t us q c (i, d)) →
    exec i s =
      .next { u with out := [⟨.cmdReply, [q.code, q.page, (resultWord q.tag (u.pstate q.page) RC.opcode).toNat, q.gen], none⟩] })

/-- Whatever the state before, once a lane's enable wave of an output stops, comes back or sticks running, each output that is
ON, that is energised, has the enables of both lanes: each lane demands ON over its own and its wave reads as running. (R24,
R487, R493) -/
def Obligations.SafeRelaysNeedTheirLane : Prop :=
  ∀ (t : Nat) (l : Lane) (k : Fin 8) (wave : EnableWave) (s : State), ∃ v, exec (.enableWaveLoss t l k wave) s = .next v ∧
    ∀ j, j < 8 → v.soState j = 1 → v.enable .a j = true ∧ v.enable .b j = true
end

