-- ==== Sys2Proof/Laws/Sparse.lean ====
section
/-! SUPPORT. Sparse tables and the memories held in them: what is read after a change, and that every change keeps the
canonical form. -/

namespace Sys2Proof.Machine

variable {α : Type}

theorem Sparse.get_erase (d : Nat → α) (m : List (Nat × α)) (k j : Nat) :
    Sparse.get d (Sparse.erase m k) j = if j = k then d k else Sparse.get d m j := by
  induction m with
  | nil => simp only [Sparse.erase, Sparse.get]; split <;> simp_all
  | cons e r ih =>
    obtain ⟨k', v⟩ := e
    simp only [Sparse.erase, Sparse.get]
    by_cases h : k = k'
    · subst h; simp only [if_true, ih]; split <;> rfl
    · simp only [if_neg h, Sparse.get, ih]
      by_cases hj : j = k'
      · subst hj; simp [Ne.symm h]
      · simp [hj]

theorem Sparse.get_insert (d : Nat → α) (m : List (Nat × α)) (k : Nat) (v : α) (j : Nat) :
    Sparse.get d (Sparse.insert m k v) j = if j = k then v else Sparse.get d m j := by
  induction m with
  | nil => simp [Sparse.insert, Sparse.get]
  | cons e r ih =>
    obtain ⟨k', v'⟩ := e
    simp only [Sparse.insert]
    split
    · simp [Sparse.get]
    · split
      · rename_i h; subst h; simp only [Sparse.get]; split <;> rfl
      · rename_i h; simp only [Sparse.get, ih]
        by_cases hj : j = k'
        · subst hj; simp [Ne.symm h]
        · simp [hj]

/-- A value set is read back at its key, and nowhere else is anything read otherwise. -/
@[simp] theorem Sparse.get_set [DecidableEq α] (d : Nat → α) (m : List (Nat × α)) (k : Nat) (v : α) (j : Nat) :
    Sparse.get d (Sparse.set d m k v) j = if j = k then v else Sparse.get d m j := by
  unfold Sparse.set
  split
  · rename_i h; rw [Sparse.get_erase, h]
  · exact Sparse.get_insert d m k v j

theorem Sparse.rising_mono {lo lo' : Nat} (m : List (Nat × α)) (h : Sparse.rising lo' m = true) (hl : lo ≤ lo') :
    Sparse.rising lo m = true := by
  cases m with
  | nil => rfl
  | cons e r => simp only [Sparse.rising, Bool.and_eq_true, decide_eq_true_eq] at h ⊢; exact ⟨by omega, h.2⟩

theorem Sparse.rising_erase (m : List (Nat × α)) (k lo : Nat) (h : Sparse.rising lo m = true) :
    Sparse.rising lo (Sparse.erase m k) = true := by
  induction m generalizing lo with
  | nil => rfl
  | cons e r ih =>
    simp only [Sparse.rising, Bool.and_eq_true, decide_eq_true_eq] at h
    simp only [Sparse.erase]
    split
    · exact ih lo (Sparse.rising_mono r h.2 (by omega))
    · simp only [Sparse.rising, Bool.and_eq_true, decide_eq_true_eq]; exact ⟨h.1, ih _ h.2⟩

theorem Sparse.rising_insert (m : List (Nat × α)) (k lo : Nat) (v : α) (h : Sparse.rising lo m = true) (hk : lo ≤ k) :
    Sparse.rising lo (Sparse.insert m k v) = true := by
  induction m generalizing lo with
  | nil => simp [Sparse.insert, Sparse.rising, hk]
  | cons e r ih =>
    simp only [Sparse.rising, Bool.and_eq_true, decide_eq_true_eq] at h
    simp only [Sparse.insert]
    split
    · simp only [Sparse.rising, Bool.and_eq_true, decide_eq_true_eq]; exact ⟨hk, by omega, h.2⟩
    · split
      · rename_i hk'; subst hk'
        simp only [Sparse.rising, Bool.and_eq_true, decide_eq_true_eq]; exact ⟨hk, h.2⟩
      · simp only [Sparse.rising, Bool.and_eq_true, decide_eq_true_eq]; exact ⟨h.1, ih _ h.2 (by omega)⟩

theorem Sparse.tight_erase [DecidableEq α] (d : Nat → α) (m : List (Nat × α)) (k : Nat) (h : Sparse.tight d m = true) :
    Sparse.tight d (Sparse.erase m k) = true := by
  induction m with
  | nil => rfl
  | cons e r ih =>
    simp only [Sparse.tight, Bool.and_eq_true] at h
    simp only [Sparse.erase]
    split
    · exact ih h.2
    · simp only [Sparse.tight, Bool.and_eq_true]; exact ⟨h.1, ih h.2⟩

theorem Sparse.tight_insert [DecidableEq α] (d : Nat → α) (m : List (Nat × α)) (k : Nat) (v : α)
    (h : Sparse.tight d m = true) (hv : v ≠ d k) : Sparse.tight d (Sparse.insert m k v) = true := by
  induction m with
  | nil => simp [Sparse.insert, Sparse.tight, hv]
  | cons e r ih =>
    have h0 := h
    simp only [Sparse.tight, Bool.and_eq_true] at h
    simp only [Sparse.insert]
    split
    · rw [Sparse.tight, h0]; simp [hv]
    · split
      · rw [Sparse.tight, h.2]; simp [hv]
      · rw [Sparse.tight, ih h.2, h.1]; rfl

theorem Sparse.wf_erase [DecidableEq α] (d : Nat → α) (m : List (Nat × α)) (k : Nat) (h : Sparse.wf d m = true) :
    Sparse.wf d (Sparse.erase m k) = true := by
  simp only [Sparse.wf, Bool.and_eq_true] at h ⊢
  exact ⟨Sparse.rising_erase m k 0 h.1, Sparse.tight_erase d m k h.2⟩

/-- Setting a value keeps the canonical form. -/
theorem Sparse.wf_set [DecidableEq α] (d : Nat → α) (m : List (Nat × α)) (k : Nat) (v : α) (h : Sparse.wf d m = true) :
    Sparse.wf d (Sparse.set d m k v) = true := by
  unfold Sparse.set
  split
  · exact Sparse.wf_erase d m k h
  · rename_i hv
    simp only [Sparse.wf, Bool.and_eq_true] at h ⊢
    exact ⟨Sparse.rising_insert m k 0 v h.1 (Nat.zero_le k), Sparse.tight_insert d m k v h.2 hv⟩

theorem Sparse.rising_restrict (keep : Nat → Bool) (m : List (Nat × α)) (lo : Nat) (h : Sparse.rising lo m = true) :
    Sparse.rising lo (Sparse.restrict keep m) = true := by
  induction m generalizing lo with
  | nil => rfl
  | cons e r ih =>
    simp only [Sparse.rising, Bool.and_eq_true, decide_eq_true_eq] at h
    simp only [Sparse.restrict]
    split
    · simp only [Sparse.rising, Bool.and_eq_true, decide_eq_true_eq]; exact ⟨h.1, ih _ h.2⟩
    · exact ih lo (Sparse.rising_mono r h.2 (by omega))

theorem Sparse.tight_restrict [DecidableEq α] (d : Nat → α) (keep : Nat → Bool) (m : List (Nat × α))
    (h : Sparse.tight d m = true) : Sparse.tight d (Sparse.restrict keep m) = true := by
  induction m with
  | nil => rfl
  | cons e r ih =>
    simp only [Sparse.tight, Bool.and_eq_true] at h
    simp only [Sparse.restrict]
    split
    · simp only [Sparse.tight, Bool.and_eq_true]; exact ⟨h.1, ih h.2⟩
    · exact ih h.2

/-- Dropping keys keeps the canonical form. -/
theorem Sparse.wf_restrict [DecidableEq α] (d : Nat → α) (keep : Nat → Bool) (m : List (Nat × α)) (h : Sparse.wf d m = true) :
    Sparse.wf d (Sparse.restrict keep m) = true := by
  simp only [Sparse.wf, Bool.and_eq_true] at h ⊢
  exact ⟨Sparse.rising_restrict keep m 0 h.1, Sparse.tight_restrict d keep m h.2⟩

theorem Sparse.get_below (d : Nat → α) (m : List (Nat × α)) (lo k : Nat) (h : Sparse.rising lo m = true) (hk : k < lo) :
    Sparse.get d m k = d k := by
  induction m generalizing lo with
  | nil => rfl
  | cons e r ih =>
    simp only [Sparse.rising, Bool.and_eq_true, decide_eq_true_eq] at h
    rw [Sparse.get, if_neg (by omega)]
    exact ih _ h.2 (by omega)

/-! The memory operations. -/

theorem memByte_memPut (m : List Host.Cell) (a j : Nat) (b : Byte) :
    memByte (memPut m a b) j = if j = a then b else memByte m j := Sparse.get_set _ m a b j

/-- A byte written keeps the canonical form of a memory. -/
theorem wf_memPut (m : List Host.Cell) (a : Nat) (b : Byte) (h : Memory.wf m = true) : Memory.wf (memPut m a b) = true :=
  Sparse.wf_set _ m a b h

/-- Bytes written keep the canonical form of a memory. -/
theorem wf_memWrite (m : List Host.Cell) (a v n : Nat) (h : Memory.wf m = true) : Memory.wf (memWrite m a v n) = true := by
  induction n generalizing m a v with
  | zero => exact h
  | succ n ih => exact ih _ _ _ (wf_memPut m a _ h)

/-- Outside the bytes written, a memory reads as before. -/
theorem memByte_memWrite_of_outside (m : List Host.Cell) (a v n j : Nat) (h : j < a ∨ a + n ≤ j) :
    memByte (memWrite m a v n) j = memByte m j := by
  induction n generalizing m a v with
  | zero => rfl
  | succ n ih =>
    rw [memWrite, ih _ _ _ (by omega), memByte_memPut, if_neg (by omega)]

end Sys2Proof.Machine
end

