-- ==== Sys2Proof/Laws/State.lean ====
section
/-! SUPPORT. What each part of the state holds after each update, and what is read of a register after another is written: one
small lemma each, so that no later proof unfolds an update. -/

namespace Sys2Proof.Machine

/-! State.setReg. -/

@[simp] theorem State.setReg_now (s : State) (page off : Nat) (w : Word) (bank : Nat) : (s.setReg page off w bank).now = s.now := (rfl)
@[simp] theorem State.setReg_timeShift (s : State) (page off : Nat) (w : Word) (bank : Nat) : (s.setReg page off w bank).timeShift = s.timeShift := (rfl)
@[simp] theorem State.setReg_clockUnset (s : State) (page off : Nat) (w : Word) (bank : Nat) : (s.setReg page off w bank).clockUnset = s.clockUnset := (rfl)
@[simp] theorem State.setReg_regs (s : State) (page off : Nat) (w : Word) (bank : Nat) :
    (s.setReg page off w bank).regs = Sparse.set Reg.reset s.regs (Reg.key page off bank) w := (rfl)
@[simp] theorem State.setReg_latched (s : State) (page off : Nat) (w : Word) (bank : Nat) : (s.setReg page off w bank).latched = s.latched := (rfl)
@[simp] theorem State.setReg_lowWrites (s : State) (page off : Nat) (w : Word) (bank : Nat) : (s.setReg page off w bank).lowWrites = s.lowWrites := (rfl)
@[simp] theorem State.setReg_out (s : State) (page off : Nat) (w : Word) (bank : Nat) : (s.setReg page off w bank).out = s.out := (rfl)
@[simp] theorem State.setReg_opens (s : State) (page off : Nat) (w : Word) (bank : Nat) : (s.setReg page off w bank).opens = s.opens := (rfl)
@[simp] theorem State.setReg_fabric (s : State) (page off : Nat) (w : Word) (bank : Nat) : (s.setReg page off w bank).fabric = s.fabric := (rfl)
@[simp] theorem State.setReg_clePosts (s : State) (page off : Nat) (w : Word) (bank : Nat) : (s.setReg page off w bank).clePosts = s.clePosts := (rfl)
@[simp] theorem State.setReg_res (s : State) (page off : Nat) (w : Word) (bank : Nat) : (s.setReg page off w bank).res = s.res := (rfl)
@[simp] theorem State.setReg_bootCount (s : State) (page off : Nat) (w : Word) (bank : Nat) : (s.setReg page off w bank).bootCount = s.bootCount := (rfl)
@[simp] theorem State.setReg_host (s : State) (page off : Nat) (w : Word) (bank : Nat) : (s.setReg page off w bank).host = s.host := (rfl)
@[simp] theorem State.setReg_lanes (s : State) (page off : Nat) (w : Word) (bank : Nat) : (s.setReg page off w bank).lanes = s.lanes := (rfl)
@[simp] theorem State.setReg_pair (s : State) (page off : Nat) (w : Word) (bank : Nat) : (s.setReg page off w bank).pair = s.pair := (rfl)
@[simp] theorem State.setReg_cles (s : State) (page off : Nat) (w : Word) (bank : Nat) : (s.setReg page off w bank).cles = s.cles := (rfl)
@[simp] theorem State.setReg_oc (s : State) (page off : Nat) (w : Word) (bank : Nat) : (s.setReg page off w bank).oc = s.oc := (rfl)
@[simp] theorem State.setReg_mems (s : State) (page off : Nat) (w : Word) (bank : Nat) : (s.setReg page off w bank).mems = s.mems := (rfl)
@[simp] theorem State.setReg_axes (s : State) (page off : Nat) (w : Word) (bank : Nat) : (s.setReg page off w bank).axes = s.axes := (rfl)
@[simp] theorem State.setReg_buses (s : State) (page off : Nat) (w : Word) (bank : Nat) : (s.setReg page off w bank).buses = s.buses := (rfl)
@[simp] theorem State.setReg_lines (s : State) (page off : Nat) (w : Word) (bank : Nat) : (s.setReg page off w bank).lines = s.lines := (rfl)
@[simp] theorem State.setReg_edges (s : State) (page off : Nat) (w : Word) (bank : Nat) : (s.setReg page off w bank).edges = s.edges := (rfl)
@[simp] theorem State.setReg_beams (s : State) (page off : Nat) (w : Word) (bank : Nat) : (s.setReg page off w bank).beams = s.beams := (rfl)
@[simp] theorem State.setReg_banks (s : State) (page off : Nat) (w : Word) (bank : Nat) : (s.setReg page off w bank).banks = s.banks := (rfl)
@[simp] theorem State.setReg_groups (s : State) (page off : Nat) (w : Word) (bank : Nat) : (s.setReg page off w bank).groups = s.groups := (rfl)
@[simp] theorem State.setReg_loops (s : State) (page off : Nat) (w : Word) (bank : Nat) : (s.setReg page off w bank).loops = s.loops := (rfl)
@[simp] theorem State.setReg_kerb (s : State) (page off : Nat) (w : Word) (bank : Nat) : (s.setReg page off w bank).kerb = s.kerb := (rfl)
@[simp] theorem State.setReg_cans (s : State) (page off : Nat) (w : Word) (bank : Nat) : (s.setReg page off w bank).cans = s.cans := (rfl)
@[simp] theorem State.setReg_safe (s : State) (page off : Nat) (w : Word) (bank : Nat) : (s.setReg page off w bank).safe = s.safe := (rfl)
@[simp] theorem State.setReg_avenues (s : State) (page off : Nat) (w : Word) (bank : Nat) : (s.setReg page off w bank).avenues = s.avenues := (rfl)
@[simp] theorem State.setReg_vats (s : State) (page off : Nat) (w : Word) (bank : Nat) : (s.setReg page off w bank).vats = s.vats := (rfl)
@[simp] theorem State.setReg_dumpStore (s : State) (page off : Nat) (w : Word) (bank : Nat) : (s.setReg page off w bank).dumpStore = s.dumpStore := (rfl)
@[simp] theorem State.setReg_mgmt (s : State) (page off : Nat) (w : Word) (bank : Nat) : (s.setReg page off w bank).mgmt = s.mgmt := (rfl)
@[simp] theorem State.setReg_lc (s : State) (page off : Nat) (w : Word) (bank : Nat) : (s.setReg page off w bank).lc = s.lc := (rfl)
@[simp] theorem State.setReg_power (s : State) (page off : Nat) (w : Word) (bank : Nat) : (s.setReg page off w bank).power = s.power := (rfl)
@[simp] theorem State.setReg_freeCtr (s : State) (page off : Nat) (w : Word) (bank : Nat) : (s.setReg page off w bank).freeCtr = s.freeCtr := (rfl)
@[simp] theorem State.setReg_pending (s : State) (page off : Nat) (w : Word) (bank : Nat) : (s.setReg page off w bank).pending = s.pending := (rfl)

/-! State.start. -/

@[simp] theorem State.start_now (s : State) (t : Nat) :
    (s.start t).now = max s.now t := (rfl)
@[simp] theorem State.start_timeShift (s : State) (t : Nat) : (s.start t).timeShift = s.timeShift := (rfl)
@[simp] theorem State.start_clockUnset (s : State) (t : Nat) : (s.start t).clockUnset = s.clockUnset := (rfl)
@[simp] theorem State.start_regs (s : State) (t : Nat) : (s.start t).regs = s.regs := (rfl)
@[simp] theorem State.start_latched (s : State) (t : Nat) : (s.start t).latched = s.latched := (rfl)
@[simp] theorem State.start_lowWrites (s : State) (t : Nat) : (s.start t).lowWrites = s.lowWrites := (rfl)
@[simp] theorem State.start_out (s : State) (t : Nat) :
    (s.start t).out = [] := (rfl)
@[simp] theorem State.start_opens (s : State) (t : Nat) : (s.start t).opens = s.opens := (rfl)
@[simp] theorem State.start_fabric (s : State) (t : Nat) : (s.start t).fabric = s.fabric := (rfl)
@[simp] theorem State.start_clePosts (s : State) (t : Nat) : (s.start t).clePosts = s.clePosts := (rfl)
@[simp] theorem State.start_res (s : State) (t : Nat) : (s.start t).res = s.res := (rfl)
@[simp] theorem State.start_bootCount (s : State) (t : Nat) : (s.start t).bootCount = s.bootCount := (rfl)
@[simp] theorem State.start_host (s : State) (t : Nat) : (s.start t).host = s.host := (rfl)
@[simp] theorem State.start_lanes (s : State) (t : Nat) : (s.start t).lanes = s.lanes := (rfl)
@[simp] theorem State.start_pair (s : State) (t : Nat) : (s.start t).pair = s.pair := (rfl)
@[simp] theorem State.start_cles (s : State) (t : Nat) : (s.start t).cles = s.cles := (rfl)
@[simp] theorem State.start_oc (s : State) (t : Nat) : (s.start t).oc = s.oc := (rfl)
@[simp] theorem State.start_mems (s : State) (t : Nat) : (s.start t).mems = s.mems := (rfl)
@[simp] theorem State.start_axes (s : State) (t : Nat) : (s.start t).axes = s.axes := (rfl)
@[simp] theorem State.start_buses (s : State) (t : Nat) : (s.start t).buses = s.buses := (rfl)
@[simp] theorem State.start_lines (s : State) (t : Nat) : (s.start t).lines = s.lines := (rfl)
@[simp] theorem State.start_edges (s : State) (t : Nat) : (s.start t).edges = s.edges := (rfl)
@[simp] theorem State.start_beams (s : State) (t : Nat) : (s.start t).beams = s.beams := (rfl)
@[simp] theorem State.start_banks (s : State) (t : Nat) : (s.start t).banks = s.banks := (rfl)
@[simp] theorem State.start_groups (s : State) (t : Nat) : (s.start t).groups = s.groups := (rfl)
@[simp] theorem State.start_loops (s : State) (t : Nat) : (s.start t).loops = s.loops := (rfl)
@[simp] theorem State.start_kerb (s : State) (t : Nat) : (s.start t).kerb = s.kerb := (rfl)
@[simp] theorem State.start_cans (s : State) (t : Nat) : (s.start t).cans = s.cans := (rfl)
@[simp] theorem State.start_safe (s : State) (t : Nat) : (s.start t).safe = s.safe := (rfl)
@[simp] theorem State.start_avenues (s : State) (t : Nat) : (s.start t).avenues = s.avenues := (rfl)
@[simp] theorem State.start_vats (s : State) (t : Nat) : (s.start t).vats = s.vats := (rfl)
@[simp] theorem State.start_dumpStore (s : State) (t : Nat) : (s.start t).dumpStore = s.dumpStore := (rfl)
@[simp] theorem State.start_mgmt (s : State) (t : Nat) : (s.start t).mgmt = s.mgmt := (rfl)
@[simp] theorem State.start_lc (s : State) (t : Nat) : (s.start t).lc = s.lc := (rfl)
@[simp] theorem State.start_power (s : State) (t : Nat) : (s.start t).power = s.power := (rfl)
@[simp] theorem State.start_freeCtr (s : State) (t : Nat) : (s.start t).freeCtr = s.freeCtr := (rfl)
@[simp] theorem State.start_pending (s : State) (t : Nat) : (s.start t).pending = s.pending := (rfl)

/-! State.putOut. -/

@[simp] theorem State.putOut_now (s : State) (x : List OutMsg) : (s.putOut x).now = s.now := (rfl)
@[simp] theorem State.putOut_timeShift (s : State) (x : List OutMsg) : (s.putOut x).timeShift = s.timeShift := (rfl)
@[simp] theorem State.putOut_clockUnset (s : State) (x : List OutMsg) : (s.putOut x).clockUnset = s.clockUnset := (rfl)
@[simp] theorem State.putOut_regs (s : State) (x : List OutMsg) : (s.putOut x).regs = s.regs := (rfl)
@[simp] theorem State.putOut_latched (s : State) (x : List OutMsg) : (s.putOut x).latched = s.latched := (rfl)
@[simp] theorem State.putOut_lowWrites (s : State) (x : List OutMsg) : (s.putOut x).lowWrites = s.lowWrites := (rfl)
@[simp] theorem State.putOut_out (s : State) (x : List OutMsg) :
    (s.putOut x).out = x := (rfl)
@[simp] theorem State.putOut_opens (s : State) (x : List OutMsg) : (s.putOut x).opens = s.opens := (rfl)
@[simp] theorem State.putOut_fabric (s : State) (x : List OutMsg) : (s.putOut x).fabric = s.fabric := (rfl)
@[simp] theorem State.putOut_clePosts (s : State) (x : List OutMsg) : (s.putOut x).clePosts = s.clePosts := (rfl)
@[simp] theorem State.putOut_res (s : State) (x : List OutMsg) : (s.putOut x).res = s.res := (rfl)
@[simp] theorem State.putOut_bootCount (s : State) (x : List OutMsg) : (s.putOut x).bootCount = s.bootCount := (rfl)
@[simp] theorem State.putOut_host (s : State) (x : List OutMsg) : (s.putOut x).host = s.host := (rfl)
@[simp] theorem State.putOut_lanes (s : State) (x : List OutMsg) : (s.putOut x).lanes = s.lanes := (rfl)
@[simp] theorem State.putOut_pair (s : State) (x : List OutMsg) : (s.putOut x).pair = s.pair := (rfl)
@[simp] theorem State.putOut_cles (s : State) (x : List OutMsg) : (s.putOut x).cles = s.cles := (rfl)
@[simp] theorem State.putOut_oc (s : State) (x : List OutMsg) : (s.putOut x).oc = s.oc := (rfl)
@[simp] theorem State.putOut_mems (s : State) (x : List OutMsg) : (s.putOut x).mems = s.mems := (rfl)
@[simp] theorem State.putOut_axes (s : State) (x : List OutMsg) : (s.putOut x).axes = s.axes := (rfl)
@[simp] theorem State.putOut_buses (s : State) (x : List OutMsg) : (s.putOut x).buses = s.buses := (rfl)
@[simp] theorem State.putOut_lines (s : State) (x : List OutMsg) : (s.putOut x).lines = s.lines := (rfl)
@[simp] theorem State.putOut_edges (s : State) (x : List OutMsg) : (s.putOut x).edges = s.edges := (rfl)
@[simp] theorem State.putOut_beams (s : State) (x : List OutMsg) : (s.putOut x).beams = s.beams := (rfl)
@[simp] theorem State.putOut_banks (s : State) (x : List OutMsg) : (s.putOut x).banks = s.banks := (rfl)
@[simp] theorem State.putOut_groups (s : State) (x : List OutMsg) : (s.putOut x).groups = s.groups := (rfl)
@[simp] theorem State.putOut_loops (s : State) (x : List OutMsg) : (s.putOut x).loops = s.loops := (rfl)
@[simp] theorem State.putOut_kerb (s : State) (x : List OutMsg) : (s.putOut x).kerb = s.kerb := (rfl)
@[simp] theorem State.putOut_cans (s : State) (x : List OutMsg) : (s.putOut x).cans = s.cans := (rfl)
@[simp] theorem State.putOut_safe (s : State) (x : List OutMsg) : (s.putOut x).safe = s.safe := (rfl)
@[simp] theorem State.putOut_avenues (s : State) (x : List OutMsg) : (s.putOut x).avenues = s.avenues := (rfl)
@[simp] theorem State.putOut_vats (s : State) (x : List OutMsg) : (s.putOut x).vats = s.vats := (rfl)
@[simp] theorem State.putOut_dumpStore (s : State) (x : List OutMsg) : (s.putOut x).dumpStore = s.dumpStore := (rfl)
@[simp] theorem State.putOut_mgmt (s : State) (x : List OutMsg) : (s.putOut x).mgmt = s.mgmt := (rfl)
@[simp] theorem State.putOut_lc (s : State) (x : List OutMsg) : (s.putOut x).lc = s.lc := (rfl)
@[simp] theorem State.putOut_power (s : State) (x : List OutMsg) : (s.putOut x).power = s.power := (rfl)
@[simp] theorem State.putOut_freeCtr (s : State) (x : List OutMsg) : (s.putOut x).freeCtr = s.freeCtr := (rfl)
@[simp] theorem State.putOut_pending (s : State) (x : List OutMsg) : (s.putOut x).pending = s.pending := (rfl)

/-! State.putOpens. -/

@[simp] theorem State.putOpens_now (s : State) (x : List OpenCmd) : (s.putOpens x).now = s.now := (rfl)
@[simp] theorem State.putOpens_timeShift (s : State) (x : List OpenCmd) : (s.putOpens x).timeShift = s.timeShift := (rfl)
@[simp] theorem State.putOpens_clockUnset (s : State) (x : List OpenCmd) : (s.putOpens x).clockUnset = s.clockUnset := (rfl)
@[simp] theorem State.putOpens_regs (s : State) (x : List OpenCmd) : (s.putOpens x).regs = s.regs := (rfl)
@[simp] theorem State.putOpens_latched (s : State) (x : List OpenCmd) : (s.putOpens x).latched = s.latched := (rfl)
@[simp] theorem State.putOpens_lowWrites (s : State) (x : List OpenCmd) : (s.putOpens x).lowWrites = s.lowWrites := (rfl)
@[simp] theorem State.putOpens_out (s : State) (x : List OpenCmd) : (s.putOpens x).out = s.out := (rfl)
@[simp] theorem State.putOpens_opens (s : State) (x : List OpenCmd) :
    (s.putOpens x).opens = x := (rfl)
@[simp] theorem State.putOpens_fabric (s : State) (x : List OpenCmd) : (s.putOpens x).fabric = s.fabric := (rfl)
@[simp] theorem State.putOpens_clePosts (s : State) (x : List OpenCmd) : (s.putOpens x).clePosts = s.clePosts := (rfl)
@[simp] theorem State.putOpens_res (s : State) (x : List OpenCmd) : (s.putOpens x).res = s.res := (rfl)
@[simp] theorem State.putOpens_bootCount (s : State) (x : List OpenCmd) : (s.putOpens x).bootCount = s.bootCount := (rfl)
@[simp] theorem State.putOpens_host (s : State) (x : List OpenCmd) : (s.putOpens x).host = s.host := (rfl)
@[simp] theorem State.putOpens_lanes (s : State) (x : List OpenCmd) : (s.putOpens x).lanes = s.lanes := (rfl)
@[simp] theorem State.putOpens_pair (s : State) (x : List OpenCmd) : (s.putOpens x).pair = s.pair := (rfl)
@[simp] theorem State.putOpens_cles (s : State) (x : List OpenCmd) : (s.putOpens x).cles = s.cles := (rfl)
@[simp] theorem State.putOpens_oc (s : State) (x : List OpenCmd) : (s.putOpens x).oc = s.oc := (rfl)
@[simp] theorem State.putOpens_mems (s : State) (x : List OpenCmd) : (s.putOpens x).mems = s.mems := (rfl)
@[simp] theorem State.putOpens_axes (s : State) (x : List OpenCmd) : (s.putOpens x).axes = s.axes := (rfl)
@[simp] theorem State.putOpens_buses (s : State) (x : List OpenCmd) : (s.putOpens x).buses = s.buses := (rfl)
@[simp] theorem State.putOpens_lines (s : State) (x : List OpenCmd) : (s.putOpens x).lines = s.lines := (rfl)
@[simp] theorem State.putOpens_edges (s : State) (x : List OpenCmd) : (s.putOpens x).edges = s.edges := (rfl)
@[simp] theorem State.putOpens_beams (s : State) (x : List OpenCmd) : (s.putOpens x).beams = s.beams := (rfl)
@[simp] theorem State.putOpens_banks (s : State) (x : List OpenCmd) : (s.putOpens x).banks = s.banks := (rfl)
@[simp] theorem State.putOpens_groups (s : State) (x : List OpenCmd) : (s.putOpens x).groups = s.groups := (rfl)
@[simp] theorem State.putOpens_loops (s : State) (x : List OpenCmd) : (s.putOpens x).loops = s.loops := (rfl)
@[simp] theorem State.putOpens_kerb (s : State) (x : List OpenCmd) : (s.putOpens x).kerb = s.kerb := (rfl)
@[simp] theorem State.putOpens_cans (s : State) (x : List OpenCmd) : (s.putOpens x).cans = s.cans := (rfl)
@[simp] theorem State.putOpens_safe (s : State) (x : List OpenCmd) : (s.putOpens x).safe = s.safe := (rfl)
@[simp] theorem State.putOpens_avenues (s : State) (x : List OpenCmd) : (s.putOpens x).avenues = s.avenues := (rfl)
@[simp] theorem State.putOpens_vats (s : State) (x : List OpenCmd) : (s.putOpens x).vats = s.vats := (rfl)
@[simp] theorem State.putOpens_dumpStore (s : State) (x : List OpenCmd) : (s.putOpens x).dumpStore = s.dumpStore := (rfl)
@[simp] theorem State.putOpens_mgmt (s : State) (x : List OpenCmd) : (s.putOpens x).mgmt = s.mgmt := (rfl)
@[simp] theorem State.putOpens_lc (s : State) (x : List OpenCmd) : (s.putOpens x).lc = s.lc := (rfl)
@[simp] theorem State.putOpens_power (s : State) (x : List OpenCmd) : (s.putOpens x).power = s.power := (rfl)
@[simp] theorem State.putOpens_freeCtr (s : State) (x : List OpenCmd) : (s.putOpens x).freeCtr = s.freeCtr := (rfl)
@[simp] theorem State.putOpens_pending (s : State) (x : List OpenCmd) : (s.putOpens x).pending = s.pending := (rfl)

/-! State.putFabric. -/

@[simp] theorem State.putFabric_now (s : State) (x : Fabric) : (s.putFabric x).now = s.now := (rfl)
@[simp] theorem State.putFabric_timeShift (s : State) (x : Fabric) : (s.putFabric x).timeShift = s.timeShift := (rfl)
@[simp] theorem State.putFabric_clockUnset (s : State) (x : Fabric) : (s.putFabric x).clockUnset = s.clockUnset := (rfl)
@[simp] theorem State.putFabric_regs (s : State) (x : Fabric) : (s.putFabric x).regs = s.regs := (rfl)
@[simp] theorem State.putFabric_latched (s : State) (x : Fabric) : (s.putFabric x).latched = s.latched := (rfl)
@[simp] theorem State.putFabric_lowWrites (s : State) (x : Fabric) : (s.putFabric x).lowWrites = s.lowWrites := (rfl)
@[simp] theorem State.putFabric_out (s : State) (x : Fabric) : (s.putFabric x).out = s.out := (rfl)
@[simp] theorem State.putFabric_opens (s : State) (x : Fabric) : (s.putFabric x).opens = s.opens := (rfl)
@[simp] theorem State.putFabric_fabric (s : State) (x : Fabric) :
    (s.putFabric x).fabric = x := (rfl)
@[simp] theorem State.putFabric_clePosts (s : State) (x : Fabric) : (s.putFabric x).clePosts = s.clePosts := (rfl)
@[simp] theorem State.putFabric_res (s : State) (x : Fabric) : (s.putFabric x).res = s.res := (rfl)
@[simp] theorem State.putFabric_bootCount (s : State) (x : Fabric) : (s.putFabric x).bootCount = s.bootCount := (rfl)
@[simp] theorem State.putFabric_host (s : State) (x : Fabric) : (s.putFabric x).host = s.host := (rfl)
@[simp] theorem State.putFabric_lanes (s : State) (x : Fabric) : (s.putFabric x).lanes = s.lanes := (rfl)
@[simp] theorem State.putFabric_pair (s : State) (x : Fabric) : (s.putFabric x).pair = s.pair := (rfl)
@[simp] theorem State.putFabric_cles (s : State) (x : Fabric) : (s.putFabric x).cles = s.cles := (rfl)
@[simp] theorem State.putFabric_oc (s : State) (x : Fabric) : (s.putFabric x).oc = s.oc := (rfl)
@[simp] theorem State.putFabric_mems (s : State) (x : Fabric) : (s.putFabric x).mems = s.mems := (rfl)
@[simp] theorem State.putFabric_axes (s : State) (x : Fabric) : (s.putFabric x).axes = s.axes := (rfl)
@[simp] theorem State.putFabric_buses (s : State) (x : Fabric) : (s.putFabric x).buses = s.buses := (rfl)
@[simp] theorem State.putFabric_lines (s : State) (x : Fabric) : (s.putFabric x).lines = s.lines := (rfl)
@[simp] theorem State.putFabric_edges (s : State) (x : Fabric) : (s.putFabric x).edges = s.edges := (rfl)
@[simp] theorem State.putFabric_beams (s : State) (x : Fabric) : (s.putFabric x).beams = s.beams := (rfl)
@[simp] theorem State.putFabric_banks (s : State) (x : Fabric) : (s.putFabric x).banks = s.banks := (rfl)
@[simp] theorem State.putFabric_groups (s : State) (x : Fabric) : (s.putFabric x).groups = s.groups := (rfl)
@[simp] theorem State.putFabric_loops (s : State) (x : Fabric) : (s.putFabric x).loops = s.loops := (rfl)
@[simp] theorem State.putFabric_kerb (s : State) (x : Fabric) : (s.putFabric x).kerb = s.kerb := (rfl)
@[simp] theorem State.putFabric_cans (s : State) (x : Fabric) : (s.putFabric x).cans = s.cans := (rfl)
@[simp] theorem State.putFabric_safe (s : State) (x : Fabric) : (s.putFabric x).safe = s.safe := (rfl)
@[simp] theorem State.putFabric_avenues (s : State) (x : Fabric) : (s.putFabric x).avenues = s.avenues := (rfl)
@[simp] theorem State.putFabric_vats (s : State) (x : Fabric) : (s.putFabric x).vats = s.vats := (rfl)
@[simp] theorem State.putFabric_dumpStore (s : State) (x : Fabric) : (s.putFabric x).dumpStore = s.dumpStore := (rfl)
@[simp] theorem State.putFabric_mgmt (s : State) (x : Fabric) : (s.putFabric x).mgmt = s.mgmt := (rfl)
@[simp] theorem State.putFabric_lc (s : State) (x : Fabric) : (s.putFabric x).lc = s.lc := (rfl)
@[simp] theorem State.putFabric_power (s : State) (x : Fabric) : (s.putFabric x).power = s.power := (rfl)
@[simp] theorem State.putFabric_freeCtr (s : State) (x : Fabric) : (s.putFabric x).freeCtr = s.freeCtr := (rfl)
@[simp] theorem State.putFabric_pending (s : State) (x : Fabric) : (s.putFabric x).pending = s.pending := (rfl)

/-! State.putHost. -/

@[simp] theorem State.putHost_now (s : State) (x : HostState) : (s.putHost x).now = s.now := (rfl)
@[simp] theorem State.putHost_timeShift (s : State) (x : HostState) : (s.putHost x).timeShift = s.timeShift := (rfl)
@[simp] theorem State.putHost_clockUnset (s : State) (x : HostState) : (s.putHost x).clockUnset = s.clockUnset := (rfl)
@[simp] theorem State.putHost_regs (s : State) (x : HostState) : (s.putHost x).regs = s.regs := (rfl)
@[simp] theorem State.putHost_latched (s : State) (x : HostState) : (s.putHost x).latched = s.latched := (rfl)
@[simp] theorem State.putHost_lowWrites (s : State) (x : HostState) : (s.putHost x).lowWrites = s.lowWrites := (rfl)
@[simp] theorem State.putHost_out (s : State) (x : HostState) : (s.putHost x).out = s.out := (rfl)
@[simp] theorem State.putHost_opens (s : State) (x : HostState) : (s.putHost x).opens = s.opens := (rfl)
@[simp] theorem State.putHost_fabric (s : State) (x : HostState) : (s.putHost x).fabric = s.fabric := (rfl)
@[simp] theorem State.putHost_clePosts (s : State) (x : HostState) : (s.putHost x).clePosts = s.clePosts := (rfl)
@[simp] theorem State.putHost_res (s : State) (x : HostState) : (s.putHost x).res = s.res := (rfl)
@[simp] theorem State.putHost_bootCount (s : State) (x : HostState) : (s.putHost x).bootCount = s.bootCount := (rfl)
@[simp] theorem State.putHost_host (s : State) (x : HostState) :
    (s.putHost x).host = x := (rfl)
@[simp] theorem State.putHost_lanes (s : State) (x : HostState) : (s.putHost x).lanes = s.lanes := (rfl)
@[simp] theorem State.putHost_pair (s : State) (x : HostState) : (s.putHost x).pair = s.pair := (rfl)
@[simp] theorem State.putHost_cles (s : State) (x : HostState) : (s.putHost x).cles = s.cles := (rfl)
@[simp] theorem State.putHost_oc (s : State) (x : HostState) : (s.putHost x).oc = s.oc := (rfl)
@[simp] theorem State.putHost_mems (s : State) (x : HostState) : (s.putHost x).mems = s.mems := (rfl)
@[simp] theorem State.putHost_axes (s : State) (x : HostState) : (s.putHost x).axes = s.axes := (rfl)
@[simp] theorem State.putHost_buses (s : State) (x : HostState) : (s.putHost x).buses = s.buses := (rfl)
@[simp] theorem State.putHost_lines (s : State) (x : HostState) : (s.putHost x).lines = s.lines := (rfl)
@[simp] theorem State.putHost_edges (s : State) (x : HostState) : (s.putHost x).edges = s.edges := (rfl)
@[simp] theorem State.putHost_beams (s : State) (x : HostState) : (s.putHost x).beams = s.beams := (rfl)
@[simp] theorem State.putHost_banks (s : State) (x : HostState) : (s.putHost x).banks = s.banks := (rfl)
@[simp] theorem State.putHost_groups (s : State) (x : HostState) : (s.putHost x).groups = s.groups := (rfl)
@[simp] theorem State.putHost_loops (s : State) (x : HostState) : (s.putHost x).loops = s.loops := (rfl)
@[simp] theorem State.putHost_kerb (s : State) (x : HostState) : (s.putHost x).kerb = s.kerb := (rfl)
@[simp] theorem State.putHost_cans (s : State) (x : HostState) : (s.putHost x).cans = s.cans := (rfl)
@[simp] theorem State.putHost_safe (s : State) (x : HostState) : (s.putHost x).safe = s.safe := (rfl)
@[simp] theorem State.putHost_avenues (s : State) (x : HostState) : (s.putHost x).avenues = s.avenues := (rfl)
@[simp] theorem State.putHost_vats (s : State) (x : HostState) : (s.putHost x).vats = s.vats := (rfl)
@[simp] theorem State.putHost_dumpStore (s : State) (x : HostState) : (s.putHost x).dumpStore = s.dumpStore := (rfl)
@[simp] theorem State.putHost_mgmt (s : State) (x : HostState) : (s.putHost x).mgmt = s.mgmt := (rfl)
@[simp] theorem State.putHost_lc (s : State) (x : HostState) : (s.putHost x).lc = s.lc := (rfl)
@[simp] theorem State.putHost_power (s : State) (x : HostState) : (s.putHost x).power = s.power := (rfl)
@[simp] theorem State.putHost_freeCtr (s : State) (x : HostState) : (s.putHost x).freeCtr = s.freeCtr := (rfl)
@[simp] theorem State.putHost_pending (s : State) (x : HostState) : (s.putHost x).pending = s.pending := (rfl)

/-! State.putOc. -/

@[simp] theorem State.putOc_now (s : State) (x : OcRec) : (s.putOc x).now = s.now := (rfl)
@[simp] theorem State.putOc_timeShift (s : State) (x : OcRec) : (s.putOc x).timeShift = s.timeShift := (rfl)
@[simp] theorem State.putOc_clockUnset (s : State) (x : OcRec) : (s.putOc x).clockUnset = s.clockUnset := (rfl)
@[simp] theorem State.putOc_regs (s : State) (x : OcRec) : (s.putOc x).regs = s.regs := (rfl)
@[simp] theorem State.putOc_latched (s : State) (x : OcRec) : (s.putOc x).latched = s.latched := (rfl)
@[simp] theorem State.putOc_lowWrites (s : State) (x : OcRec) : (s.putOc x).lowWrites = s.lowWrites := (rfl)
@[simp] theorem State.putOc_out (s : State) (x : OcRec) : (s.putOc x).out = s.out := (rfl)
@[simp] theorem State.putOc_opens (s : State) (x : OcRec) : (s.putOc x).opens = s.opens := (rfl)
@[simp] theorem State.putOc_fabric (s : State) (x : OcRec) : (s.putOc x).fabric = s.fabric := (rfl)
@[simp] theorem State.putOc_clePosts (s : State) (x : OcRec) : (s.putOc x).clePosts = s.clePosts := (rfl)
@[simp] theorem State.putOc_res (s : State) (x : OcRec) : (s.putOc x).res = s.res := (rfl)
@[simp] theorem State.putOc_bootCount (s : State) (x : OcRec) : (s.putOc x).bootCount = s.bootCount := (rfl)
@[simp] theorem State.putOc_host (s : State) (x : OcRec) : (s.putOc x).host = s.host := (rfl)
@[simp] theorem State.putOc_lanes (s : State) (x : OcRec) : (s.putOc x).lanes = s.lanes := (rfl)
@[simp] theorem State.putOc_pair (s : State) (x : OcRec) : (s.putOc x).pair = s.pair := (rfl)
@[simp] theorem State.putOc_cles (s : State) (x : OcRec) : (s.putOc x).cles = s.cles := (rfl)
@[simp] theorem State.putOc_oc (s : State) (x : OcRec) :
    (s.putOc x).oc = x := (rfl)
@[simp] theorem State.putOc_mems (s : State) (x : OcRec) : (s.putOc x).mems = s.mems := (rfl)
@[simp] theorem State.putOc_axes (s : State) (x : OcRec) : (s.putOc x).axes = s.axes := (rfl)
@[simp] theorem State.putOc_buses (s : State) (x : OcRec) : (s.putOc x).buses = s.buses := (rfl)
@[simp] theorem State.putOc_lines (s : State) (x : OcRec) : (s.putOc x).lines = s.lines := (rfl)
@[simp] theorem State.putOc_edges (s : State) (x : OcRec) : (s.putOc x).edges = s.edges := (rfl)
@[simp] theorem State.putOc_beams (s : State) (x : OcRec) : (s.putOc x).beams = s.beams := (rfl)
@[simp] theorem State.putOc_banks (s : State) (x : OcRec) : (s.putOc x).banks = s.banks := (rfl)
@[simp] theorem State.putOc_groups (s : State) (x : OcRec) : (s.putOc x).groups = s.groups := (rfl)
@[simp] theorem State.putOc_loops (s : State) (x : OcRec) : (s.putOc x).loops = s.loops := (rfl)
@[simp] theorem State.putOc_kerb (s : State) (x : OcRec) : (s.putOc x).kerb = s.kerb := (rfl)
@[simp] theorem State.putOc_cans (s : State) (x : OcRec) : (s.putOc x).cans = s.cans := (rfl)
@[simp] theorem State.putOc_safe (s : State) (x : OcRec) : (s.putOc x).safe = s.safe := (rfl)
@[simp] theorem State.putOc_avenues (s : State) (x : OcRec) : (s.putOc x).avenues = s.avenues := (rfl)
@[simp] theorem State.putOc_vats (s : State) (x : OcRec) : (s.putOc x).vats = s.vats := (rfl)
@[simp] theorem State.putOc_dumpStore (s : State) (x : OcRec) : (s.putOc x).dumpStore = s.dumpStore := (rfl)
@[simp] theorem State.putOc_mgmt (s : State) (x : OcRec) : (s.putOc x).mgmt = s.mgmt := (rfl)
@[simp] theorem State.putOc_lc (s : State) (x : OcRec) : (s.putOc x).lc = s.lc := (rfl)
@[simp] theorem State.putOc_power (s : State) (x : OcRec) : (s.putOc x).power = s.power := (rfl)
@[simp] theorem State.putOc_freeCtr (s : State) (x : OcRec) : (s.putOc x).freeCtr = s.freeCtr := (rfl)
@[simp] theorem State.putOc_pending (s : State) (x : OcRec) : (s.putOc x).pending = s.pending := (rfl)

/-! State.putKerb. -/

@[simp] theorem State.putKerb_now (s : State) (x : KerbRec) : (s.putKerb x).now = s.now := (rfl)
@[simp] theorem State.putKerb_timeShift (s : State) (x : KerbRec) : (s.putKerb x).timeShift = s.timeShift := (rfl)
@[simp] theorem State.putKerb_clockUnset (s : State) (x : KerbRec) : (s.putKerb x).clockUnset = s.clockUnset := (rfl)
@[simp] theorem State.putKerb_regs (s : State) (x : KerbRec) : (s.putKerb x).regs = s.regs := (rfl)
@[simp] theorem State.putKerb_latched (s : State) (x : KerbRec) : (s.putKerb x).latched = s.latched := (rfl)
@[simp] theorem State.putKerb_lowWrites (s : State) (x : KerbRec) : (s.putKerb x).lowWrites = s.lowWrites := (rfl)
@[simp] theorem State.putKerb_out (s : State) (x : KerbRec) : (s.putKerb x).out = s.out := (rfl)
@[simp] theorem State.putKerb_opens (s : State) (x : KerbRec) : (s.putKerb x).opens = s.opens := (rfl)
@[simp] theorem State.putKerb_fabric (s : State) (x : KerbRec) : (s.putKerb x).fabric = s.fabric := (rfl)
@[simp] theorem State.putKerb_clePosts (s : State) (x : KerbRec) : (s.putKerb x).clePosts = s.clePosts := (rfl)
@[simp] theorem State.putKerb_res (s : State) (x : KerbRec) : (s.putKerb x).res = s.res := (rfl)
@[simp] theorem State.putKerb_bootCount (s : State) (x : KerbRec) : (s.putKerb x).bootCount = s.bootCount := (rfl)
@[simp] theorem State.putKerb_host (s : State) (x : KerbRec) : (s.putKerb x).host = s.host := (rfl)
@[simp] theorem State.putKerb_lanes (s : State) (x : KerbRec) : (s.putKerb x).lanes = s.lanes := (rfl)
@[simp] theorem State.putKerb_pair (s : State) (x : KerbRec) : (s.putKerb x).pair = s.pair := (rfl)
@[simp] theorem State.putKerb_cles (s : State) (x : KerbRec) : (s.putKerb x).cles = s.cles := (rfl)
@[simp] theorem State.putKerb_oc (s : State) (x : KerbRec) : (s.putKerb x).oc = s.oc := (rfl)
@[simp] theorem State.putKerb_mems (s : State) (x : KerbRec) : (s.putKerb x).mems = s.mems := (rfl)
@[simp] theorem State.putKerb_axes (s : State) (x : KerbRec) : (s.putKerb x).axes = s.axes := (rfl)
@[simp] theorem State.putKerb_buses (s : State) (x : KerbRec) : (s.putKerb x).buses = s.buses := (rfl)
@[simp] theorem State.putKerb_lines (s : State) (x : KerbRec) : (s.putKerb x).lines = s.lines := (rfl)
@[simp] theorem State.putKerb_edges (s : State) (x : KerbRec) : (s.putKerb x).edges = s.edges := (rfl)
@[simp] theorem State.putKerb_beams (s : State) (x : KerbRec) : (s.putKerb x).beams = s.beams := (rfl)
@[simp] theorem State.putKerb_banks (s : State) (x : KerbRec) : (s.putKerb x).banks = s.banks := (rfl)
@[simp] theorem State.putKerb_groups (s : State) (x : KerbRec) : (s.putKerb x).groups = s.groups := (rfl)
@[simp] theorem State.putKerb_loops (s : State) (x : KerbRec) : (s.putKerb x).loops = s.loops := (rfl)
@[simp] theorem State.putKerb_kerb (s : State) (x : KerbRec) :
    (s.putKerb x).kerb = x := (rfl)
@[simp] theorem State.putKerb_cans (s : State) (x : KerbRec) : (s.putKerb x).cans = s.cans := (rfl)
@[simp] theorem State.putKerb_safe (s : State) (x : KerbRec) : (s.putKerb x).safe = s.safe := (rfl)
@[simp] theorem State.putKerb_avenues (s : State) (x : KerbRec) : (s.putKerb x).avenues = s.avenues := (rfl)
@[simp] theorem State.putKerb_vats (s : State) (x : KerbRec) : (s.putKerb x).vats = s.vats := (rfl)
@[simp] theorem State.putKerb_dumpStore (s : State) (x : KerbRec) : (s.putKerb x).dumpStore = s.dumpStore := (rfl)
@[simp] theorem State.putKerb_mgmt (s : State) (x : KerbRec) : (s.putKerb x).mgmt = s.mgmt := (rfl)
@[simp] theorem State.putKerb_lc (s : State) (x : KerbRec) : (s.putKerb x).lc = s.lc := (rfl)
@[simp] theorem State.putKerb_power (s : State) (x : KerbRec) : (s.putKerb x).power = s.power := (rfl)
@[simp] theorem State.putKerb_freeCtr (s : State) (x : KerbRec) : (s.putKerb x).freeCtr = s.freeCtr := (rfl)
@[simp] theorem State.putKerb_pending (s : State) (x : KerbRec) : (s.putKerb x).pending = s.pending := (rfl)

/-! State.putDumpStore. -/

@[simp] theorem State.putDumpStore_now (s : State) (x : DumpStore) : (s.putDumpStore x).now = s.now := (rfl)
@[simp] theorem State.putDumpStore_timeShift (s : State) (x : DumpStore) : (s.putDumpStore x).timeShift = s.timeShift := (rfl)
@[simp] theorem State.putDumpStore_clockUnset (s : State) (x : DumpStore) : (s.putDumpStore x).clockUnset = s.clockUnset := (rfl)
@[simp] theorem State.putDumpStore_regs (s : State) (x : DumpStore) : (s.putDumpStore x).regs = s.regs := (rfl)
@[simp] theorem State.putDumpStore_latched (s : State) (x : DumpStore) : (s.putDumpStore x).latched = s.latched := (rfl)
@[simp] theorem State.putDumpStore_lowWrites (s : State) (x : DumpStore) : (s.putDumpStore x).lowWrites = s.lowWrites := (rfl)
@[simp] theorem State.putDumpStore_out (s : State) (x : DumpStore) : (s.putDumpStore x).out = s.out := (rfl)
@[simp] theorem State.putDumpStore_opens (s : State) (x : DumpStore) : (s.putDumpStore x).opens = s.opens := (rfl)
@[simp] theorem State.putDumpStore_fabric (s : State) (x : DumpStore) : (s.putDumpStore x).fabric = s.fabric := (rfl)
@[simp] theorem State.putDumpStore_clePosts (s : State) (x : DumpStore) : (s.putDumpStore x).clePosts = s.clePosts := (rfl)
@[simp] theorem State.putDumpStore_res (s : State) (x : DumpStore) : (s.putDumpStore x).res = s.res := (rfl)
@[simp] theorem State.putDumpStore_bootCount (s : State) (x : DumpStore) : (s.putDumpStore x).bootCount = s.bootCount := (rfl)
@[simp] theorem State.putDumpStore_host (s : State) (x : DumpStore) : (s.putDumpStore x).host = s.host := (rfl)
@[simp] theorem State.putDumpStore_lanes (s : State) (x : DumpStore) : (s.putDumpStore x).lanes = s.lanes := (rfl)
@[simp] theorem State.putDumpStore_pair (s : State) (x : DumpStore) : (s.putDumpStore x).pair = s.pair := (rfl)
@[simp] theorem State.putDumpStore_cles (s : State) (x : DumpStore) : (s.putDumpStore x).cles = s.cles := (rfl)
@[simp] theorem State.putDumpStore_oc (s : State) (x : DumpStore) : (s.putDumpStore x).oc = s.oc := (rfl)
@[simp] theorem State.putDumpStore_mems (s : State) (x : DumpStore) : (s.putDumpStore x).mems = s.mems := (rfl)
@[simp] theorem State.putDumpStore_axes (s : State) (x : DumpStore) : (s.putDumpStore x).axes = s.axes := (rfl)
@[simp] theorem State.putDumpStore_buses (s : State) (x : DumpStore) : (s.putDumpStore x).buses = s.buses := (rfl)
@[simp] theorem State.putDumpStore_lines (s : State) (x : DumpStore) : (s.putDumpStore x).lines = s.lines := (rfl)
@[simp] theorem State.putDumpStore_edges (s : State) (x : DumpStore) : (s.putDumpStore x).edges = s.edges := (rfl)
@[simp] theorem State.putDumpStore_beams (s : State) (x : DumpStore) : (s.putDumpStore x).beams = s.beams := (rfl)
@[simp] theorem State.putDumpStore_banks (s : State) (x : DumpStore) : (s.putDumpStore x).banks = s.banks := (rfl)
@[simp] theorem State.putDumpStore_groups (s : State) (x : DumpStore) : (s.putDumpStore x).groups = s.groups := (rfl)
@[simp] theorem State.putDumpStore_loops (s : State) (x : DumpStore) : (s.putDumpStore x).loops = s.loops := (rfl)
@[simp] theorem State.putDumpStore_kerb (s : State) (x : DumpStore) : (s.putDumpStore x).kerb = s.kerb := (rfl)
@[simp] theorem State.putDumpStore_cans (s : State) (x : DumpStore) : (s.putDumpStore x).cans = s.cans := (rfl)
@[simp] theorem State.putDumpStore_safe (s : State) (x : DumpStore) : (s.putDumpStore x).safe = s.safe := (rfl)
@[simp] theorem State.putDumpStore_avenues (s : State) (x : DumpStore) : (s.putDumpStore x).avenues = s.avenues := (rfl)
@[simp] theorem State.putDumpStore_vats (s : State) (x : DumpStore) : (s.putDumpStore x).vats = s.vats := (rfl)
@[simp] theorem State.putDumpStore_dumpStore (s : State) (x : DumpStore) :
    (s.putDumpStore x).dumpStore = x := (rfl)
@[simp] theorem State.putDumpStore_mgmt (s : State) (x : DumpStore) : (s.putDumpStore x).mgmt = s.mgmt := (rfl)
@[simp] theorem State.putDumpStore_lc (s : State) (x : DumpStore) : (s.putDumpStore x).lc = s.lc := (rfl)
@[simp] theorem State.putDumpStore_power (s : State) (x : DumpStore) : (s.putDumpStore x).power = s.power := (rfl)
@[simp] theorem State.putDumpStore_freeCtr (s : State) (x : DumpStore) : (s.putDumpStore x).freeCtr = s.freeCtr := (rfl)
@[simp] theorem State.putDumpStore_pending (s : State) (x : DumpStore) : (s.putDumpStore x).pending = s.pending := (rfl)

/-! State.putMgmt. -/

@[simp] theorem State.putMgmt_now (s : State) (x : MgmtRec) : (s.putMgmt x).now = s.now := (rfl)
@[simp] theorem State.putMgmt_timeShift (s : State) (x : MgmtRec) : (s.putMgmt x).timeShift = s.timeShift := (rfl)
@[simp] theorem State.putMgmt_clockUnset (s : State) (x : MgmtRec) : (s.putMgmt x).clockUnset = s.clockUnset := (rfl)
@[simp] theorem State.putMgmt_regs (s : State) (x : MgmtRec) : (s.putMgmt x).regs = s.regs := (rfl)
@[simp] theorem State.putMgmt_latched (s : State) (x : MgmtRec) : (s.putMgmt x).latched = s.latched := (rfl)
@[simp] theorem State.putMgmt_lowWrites (s : State) (x : MgmtRec) : (s.putMgmt x).lowWrites = s.lowWrites := (rfl)
@[simp] theorem State.putMgmt_out (s : State) (x : MgmtRec) : (s.putMgmt x).out = s.out := (rfl)
@[simp] theorem State.putMgmt_opens (s : State) (x : MgmtRec) : (s.putMgmt x).opens = s.opens := (rfl)
@[simp] theorem State.putMgmt_fabric (s : State) (x : MgmtRec) : (s.putMgmt x).fabric = s.fabric := (rfl)
@[simp] theorem State.putMgmt_clePosts (s : State) (x : MgmtRec) : (s.putMgmt x).clePosts = s.clePosts := (rfl)
@[simp] theorem State.putMgmt_res (s : State) (x : MgmtRec) : (s.putMgmt x).res = s.res := (rfl)
@[simp] theorem State.putMgmt_bootCount (s : State) (x : MgmtRec) : (s.putMgmt x).bootCount = s.bootCount := (rfl)
@[simp] theorem State.putMgmt_host (s : State) (x : MgmtRec) : (s.putMgmt x).host = s.host := (rfl)
@[simp] theorem State.putMgmt_lanes (s : State) (x : MgmtRec) : (s.putMgmt x).lanes = s.lanes := (rfl)
@[simp] theorem State.putMgmt_pair (s : State) (x : MgmtRec) : (s.putMgmt x).pair = s.pair := (rfl)
@[simp] theorem State.putMgmt_cles (s : State) (x : MgmtRec) : (s.putMgmt x).cles = s.cles := (rfl)
@[simp] theorem State.putMgmt_oc (s : State) (x : MgmtRec) : (s.putMgmt x).oc = s.oc := (rfl)
@[simp] theorem State.putMgmt_mems (s : State) (x : MgmtRec) : (s.putMgmt x).mems = s.mems := (rfl)
@[simp] theorem State.putMgmt_axes (s : State) (x : MgmtRec) : (s.putMgmt x).axes = s.axes := (rfl)
@[simp] theorem State.putMgmt_buses (s : State) (x : MgmtRec) : (s.putMgmt x).buses = s.buses := (rfl)
@[simp] theorem State.putMgmt_lines (s : State) (x : MgmtRec) : (s.putMgmt x).lines = s.lines := (rfl)
@[simp] theorem State.putMgmt_edges (s : State) (x : MgmtRec) : (s.putMgmt x).edges = s.edges := (rfl)
@[simp] theorem State.putMgmt_beams (s : State) (x : MgmtRec) : (s.putMgmt x).beams = s.beams := (rfl)
@[simp] theorem State.putMgmt_banks (s : State) (x : MgmtRec) : (s.putMgmt x).banks = s.banks := (rfl)
@[simp] theorem State.putMgmt_groups (s : State) (x : MgmtRec) : (s.putMgmt x).groups = s.groups := (rfl)
@[simp] theorem State.putMgmt_loops (s : State) (x : MgmtRec) : (s.putMgmt x).loops = s.loops := (rfl)
@[simp] theorem State.putMgmt_kerb (s : State) (x : MgmtRec) : (s.putMgmt x).kerb = s.kerb := (rfl)
@[simp] theorem State.putMgmt_cans (s : State) (x : MgmtRec) : (s.putMgmt x).cans = s.cans := (rfl)
@[simp] theorem State.putMgmt_safe (s : State) (x : MgmtRec) : (s.putMgmt x).safe = s.safe := (rfl)
@[simp] theorem State.putMgmt_avenues (s : State) (x : MgmtRec) : (s.putMgmt x).avenues = s.avenues := (rfl)
@[simp] theorem State.putMgmt_vats (s : State) (x : MgmtRec) : (s.putMgmt x).vats = s.vats := (rfl)
@[simp] theorem State.putMgmt_dumpStore (s : State) (x : MgmtRec) : (s.putMgmt x).dumpStore = s.dumpStore := (rfl)
@[simp] theorem State.putMgmt_mgmt (s : State) (x : MgmtRec) :
    (s.putMgmt x).mgmt = x := (rfl)
@[simp] theorem State.putMgmt_lc (s : State) (x : MgmtRec) : (s.putMgmt x).lc = s.lc := (rfl)
@[simp] theorem State.putMgmt_power (s : State) (x : MgmtRec) : (s.putMgmt x).power = s.power := (rfl)
@[simp] theorem State.putMgmt_freeCtr (s : State) (x : MgmtRec) : (s.putMgmt x).freeCtr = s.freeCtr := (rfl)
@[simp] theorem State.putMgmt_pending (s : State) (x : MgmtRec) : (s.putMgmt x).pending = s.pending := (rfl)

/-! State.putLc. -/

@[simp] theorem State.putLc_now (s : State) (x : LcRec) : (s.putLc x).now = s.now := (rfl)
@[simp] theorem State.putLc_timeShift (s : State) (x : LcRec) : (s.putLc x).timeShift = s.timeShift := (rfl)
@[simp] theorem State.putLc_clockUnset (s : State) (x : LcRec) : (s.putLc x).clockUnset = s.clockUnset := (rfl)
@[simp] theorem State.putLc_regs (s : State) (x : LcRec) : (s.putLc x).regs = s.regs := (rfl)
@[simp] theorem State.putLc_latched (s : State) (x : LcRec) : (s.putLc x).latched = s.latched := (rfl)
@[simp] theorem State.putLc_lowWrites (s : State) (x : LcRec) : (s.putLc x).lowWrites = s.lowWrites := (rfl)
@[simp] theorem State.putLc_out (s : State) (x : LcRec) : (s.putLc x).out = s.out := (rfl)
@[simp] theorem State.putLc_opens (s : State) (x : LcRec) : (s.putLc x).opens = s.opens := (rfl)
@[simp] theorem State.putLc_fabric (s : State) (x : LcRec) : (s.putLc x).fabric = s.fabric := (rfl)
@[simp] theorem State.putLc_clePosts (s : State) (x : LcRec) : (s.putLc x).clePosts = s.clePosts := (rfl)
@[simp] theorem State.putLc_res (s : State) (x : LcRec) : (s.putLc x).res = s.res := (rfl)
@[simp] theorem State.putLc_bootCount (s : State) (x : LcRec) : (s.putLc x).bootCount = s.bootCount := (rfl)
@[simp] theorem State.putLc_host (s : State) (x : LcRec) : (s.putLc x).host = s.host := (rfl)
@[simp] theorem State.putLc_lanes (s : State) (x : LcRec) : (s.putLc x).lanes = s.lanes := (rfl)
@[simp] theorem State.putLc_pair (s : State) (x : LcRec) : (s.putLc x).pair = s.pair := (rfl)
@[simp] theorem State.putLc_cles (s : State) (x : LcRec) : (s.putLc x).cles = s.cles := (rfl)
@[simp] theorem State.putLc_oc (s : State) (x : LcRec) : (s.putLc x).oc = s.oc := (rfl)
@[simp] theorem State.putLc_mems (s : State) (x : LcRec) : (s.putLc x).mems = s.mems := (rfl)
@[simp] theorem State.putLc_axes (s : State) (x : LcRec) : (s.putLc x).axes = s.axes := (rfl)
@[simp] theorem State.putLc_buses (s : State) (x : LcRec) : (s.putLc x).buses = s.buses := (rfl)
@[simp] theorem State.putLc_lines (s : State) (x : LcRec) : (s.putLc x).lines = s.lines := (rfl)
@[simp] theorem State.putLc_edges (s : State) (x : LcRec) : (s.putLc x).edges = s.edges := (rfl)
@[simp] theorem State.putLc_beams (s : State) (x : LcRec) : (s.putLc x).beams = s.beams := (rfl)
@[simp] theorem State.putLc_banks (s : State) (x : LcRec) : (s.putLc x).banks = s.banks := (rfl)
@[simp] theorem State.putLc_groups (s : State) (x : LcRec) : (s.putLc x).groups = s.groups := (rfl)
@[simp] theorem State.putLc_loops (s : State) (x : LcRec) : (s.putLc x).loops = s.loops := (rfl)
@[simp] theorem State.putLc_kerb (s : State) (x : LcRec) : (s.putLc x).kerb = s.kerb := (rfl)
@[simp] theorem State.putLc_cans (s : State) (x : LcRec) : (s.putLc x).cans = s.cans := (rfl)
@[simp] theorem State.putLc_safe (s : State) (x : LcRec) : (s.putLc x).safe = s.safe := (rfl)
@[simp] theorem State.putLc_avenues (s : State) (x : LcRec) : (s.putLc x).avenues = s.avenues := (rfl)
@[simp] theorem State.putLc_vats (s : State) (x : LcRec) : (s.putLc x).vats = s.vats := (rfl)
@[simp] theorem State.putLc_dumpStore (s : State) (x : LcRec) : (s.putLc x).dumpStore = s.dumpStore := (rfl)
@[simp] theorem State.putLc_mgmt (s : State) (x : LcRec) : (s.putLc x).mgmt = s.mgmt := (rfl)
@[simp] theorem State.putLc_lc (s : State) (x : LcRec) :
    (s.putLc x).lc = x := (rfl)
@[simp] theorem State.putLc_power (s : State) (x : LcRec) : (s.putLc x).power = s.power := (rfl)
@[simp] theorem State.putLc_freeCtr (s : State) (x : LcRec) : (s.putLc x).freeCtr = s.freeCtr := (rfl)
@[simp] theorem State.putLc_pending (s : State) (x : LcRec) : (s.putLc x).pending = s.pending := (rfl)

/-! State.putPower. -/

@[simp] theorem State.putPower_now (s : State) (x : PowerRec) : (s.putPower x).now = s.now := (rfl)
@[simp] theorem State.putPower_timeShift (s : State) (x : PowerRec) : (s.putPower x).timeShift = s.timeShift := (rfl)
@[simp] theorem State.putPower_clockUnset (s : State) (x : PowerRec) : (s.putPower x).clockUnset = s.clockUnset := (rfl)
@[simp] theorem State.putPower_regs (s : State) (x : PowerRec) : (s.putPower x).regs = s.regs := (rfl)
@[simp] theorem State.putPower_latched (s : State) (x : PowerRec) : (s.putPower x).latched = s.latched := (rfl)
@[simp] theorem State.putPower_lowWrites (s : State) (x : PowerRec) : (s.putPower x).lowWrites = s.lowWrites := (rfl)
@[simp] theorem State.putPower_out (s : State) (x : PowerRec) : (s.putPower x).out = s.out := (rfl)
@[simp] theorem State.putPower_opens (s : State) (x : PowerRec) : (s.putPower x).opens = s.opens := (rfl)
@[simp] theorem State.putPower_fabric (s : State) (x : PowerRec) : (s.putPower x).fabric = s.fabric := (rfl)
@[simp] theorem State.putPower_clePosts (s : State) (x : PowerRec) : (s.putPower x).clePosts = s.clePosts := (rfl)
@[simp] theorem State.putPower_res (s : State) (x : PowerRec) : (s.putPower x).res = s.res := (rfl)
@[simp] theorem State.putPower_bootCount (s : State) (x : PowerRec) : (s.putPower x).bootCount = s.bootCount := (rfl)
@[simp] theorem State.putPower_host (s : State) (x : PowerRec) : (s.putPower x).host = s.host := (rfl)
@[simp] theorem State.putPower_lanes (s : State) (x : PowerRec) : (s.putPower x).lanes = s.lanes := (rfl)
@[simp] theorem State.putPower_pair (s : State) (x : PowerRec) : (s.putPower x).pair = s.pair := (rfl)
@[simp] theorem State.putPower_cles (s : State) (x : PowerRec) : (s.putPower x).cles = s.cles := (rfl)
@[simp] theorem State.putPower_oc (s : State) (x : PowerRec) : (s.putPower x).oc = s.oc := (rfl)
@[simp] theorem State.putPower_mems (s : State) (x : PowerRec) : (s.putPower x).mems = s.mems := (rfl)
@[simp] theorem State.putPower_axes (s : State) (x : PowerRec) : (s.putPower x).axes = s.axes := (rfl)
@[simp] theorem State.putPower_buses (s : State) (x : PowerRec) : (s.putPower x).buses = s.buses := (rfl)
@[simp] theorem State.putPower_lines (s : State) (x : PowerRec) : (s.putPower x).lines = s.lines := (rfl)
@[simp] theorem State.putPower_edges (s : State) (x : PowerRec) : (s.putPower x).edges = s.edges := (rfl)
@[simp] theorem State.putPower_beams (s : State) (x : PowerRec) : (s.putPower x).beams = s.beams := (rfl)
@[simp] theorem State.putPower_banks (s : State) (x : PowerRec) : (s.putPower x).banks = s.banks := (rfl)
@[simp] theorem State.putPower_groups (s : State) (x : PowerRec) : (s.putPower x).groups = s.groups := (rfl)
@[simp] theorem State.putPower_loops (s : State) (x : PowerRec) : (s.putPower x).loops = s.loops := (rfl)
@[simp] theorem State.putPower_kerb (s : State) (x : PowerRec) : (s.putPower x).kerb = s.kerb := (rfl)
@[simp] theorem State.putPower_cans (s : State) (x : PowerRec) : (s.putPower x).cans = s.cans := (rfl)
@[simp] theorem State.putPower_safe (s : State) (x : PowerRec) : (s.putPower x).safe = s.safe := (rfl)
@[simp] theorem State.putPower_avenues (s : State) (x : PowerRec) : (s.putPower x).avenues = s.avenues := (rfl)
@[simp] theorem State.putPower_vats (s : State) (x : PowerRec) : (s.putPower x).vats = s.vats := (rfl)
@[simp] theorem State.putPower_dumpStore (s : State) (x : PowerRec) : (s.putPower x).dumpStore = s.dumpStore := (rfl)
@[simp] theorem State.putPower_mgmt (s : State) (x : PowerRec) : (s.putPower x).mgmt = s.mgmt := (rfl)
@[simp] theorem State.putPower_lc (s : State) (x : PowerRec) : (s.putPower x).lc = s.lc := (rfl)
@[simp] theorem State.putPower_power (s : State) (x : PowerRec) :
    (s.putPower x).power = x := (rfl)
@[simp] theorem State.putPower_freeCtr (s : State) (x : PowerRec) : (s.putPower x).freeCtr = s.freeCtr := (rfl)
@[simp] theorem State.putPower_pending (s : State) (x : PowerRec) : (s.putPower x).pending = s.pending := (rfl)

/-! State.putLines. -/

@[simp] theorem State.putLines_now (s : State) (x : List Nat) : (s.putLines x).now = s.now := (rfl)
@[simp] theorem State.putLines_timeShift (s : State) (x : List Nat) : (s.putLines x).timeShift = s.timeShift := (rfl)
@[simp] theorem State.putLines_clockUnset (s : State) (x : List Nat) : (s.putLines x).clockUnset = s.clockUnset := (rfl)
@[simp] theorem State.putLines_regs (s : State) (x : List Nat) : (s.putLines x).regs = s.regs := (rfl)
@[simp] theorem State.putLines_latched (s : State) (x : List Nat) : (s.putLines x).latched = s.latched := (rfl)
@[simp] theorem State.putLines_lowWrites (s : State) (x : List Nat) : (s.putLines x).lowWrites = s.lowWrites := (rfl)
@[simp] theorem State.putLines_out (s : State) (x : List Nat) : (s.putLines x).out = s.out := (rfl)
@[simp] theorem State.putLines_opens (s : State) (x : List Nat) : (s.putLines x).opens = s.opens := (rfl)
@[simp] theorem State.putLines_fabric (s : State) (x : List Nat) : (s.putLines x).fabric = s.fabric := (rfl)
@[simp] theorem State.putLines_clePosts (s : State) (x : List Nat) : (s.putLines x).clePosts = s.clePosts := (rfl)
@[simp] theorem State.putLines_res (s : State) (x : List Nat) : (s.putLines x).res = s.res := (rfl)
@[simp] theorem State.putLines_bootCount (s : State) (x : List Nat) : (s.putLines x).bootCount = s.bootCount := (rfl)
@[simp] theorem State.putLines_host (s : State) (x : List Nat) : (s.putLines x).host = s.host := (rfl)
@[simp] theorem State.putLines_lanes (s : State) (x : List Nat) : (s.putLines x).lanes = s.lanes := (rfl)
@[simp] theorem State.putLines_pair (s : State) (x : List Nat) : (s.putLines x).pair = s.pair := (rfl)
@[simp] theorem State.putLines_cles (s : State) (x : List Nat) : (s.putLines x).cles = s.cles := (rfl)
@[simp] theorem State.putLines_oc (s : State) (x : List Nat) : (s.putLines x).oc = s.oc := (rfl)
@[simp] theorem State.putLines_mems (s : State) (x : List Nat) : (s.putLines x).mems = s.mems := (rfl)
@[simp] theorem State.putLines_axes (s : State) (x : List Nat) : (s.putLines x).axes = s.axes := (rfl)
@[simp] theorem State.putLines_buses (s : State) (x : List Nat) : (s.putLines x).buses = s.buses := (rfl)
@[simp] theorem State.putLines_lines (s : State) (x : List Nat) :
    (s.putLines x).lines = x := (rfl)
@[simp] theorem State.putLines_edges (s : State) (x : List Nat) : (s.putLines x).edges = s.edges := (rfl)
@[simp] theorem State.putLines_beams (s : State) (x : List Nat) : (s.putLines x).beams = s.beams := (rfl)
@[simp] theorem State.putLines_banks (s : State) (x : List Nat) : (s.putLines x).banks = s.banks := (rfl)
@[simp] theorem State.putLines_groups (s : State) (x : List Nat) : (s.putLines x).groups = s.groups := (rfl)
@[simp] theorem State.putLines_loops (s : State) (x : List Nat) : (s.putLines x).loops = s.loops := (rfl)
@[simp] theorem State.putLines_kerb (s : State) (x : List Nat) : (s.putLines x).kerb = s.kerb := (rfl)
@[simp] theorem State.putLines_cans (s : State) (x : List Nat) : (s.putLines x).cans = s.cans := (rfl)
@[simp] theorem State.putLines_safe (s : State) (x : List Nat) : (s.putLines x).safe = s.safe := (rfl)
@[simp] theorem State.putLines_avenues (s : State) (x : List Nat) : (s.putLines x).avenues = s.avenues := (rfl)
@[simp] theorem State.putLines_vats (s : State) (x : List Nat) : (s.putLines x).vats = s.vats := (rfl)
@[simp] theorem State.putLines_dumpStore (s : State) (x : List Nat) : (s.putLines x).dumpStore = s.dumpStore := (rfl)
@[simp] theorem State.putLines_mgmt (s : State) (x : List Nat) : (s.putLines x).mgmt = s.mgmt := (rfl)
@[simp] theorem State.putLines_lc (s : State) (x : List Nat) : (s.putLines x).lc = s.lc := (rfl)
@[simp] theorem State.putLines_power (s : State) (x : List Nat) : (s.putLines x).power = s.power := (rfl)
@[simp] theorem State.putLines_freeCtr (s : State) (x : List Nat) : (s.putLines x).freeCtr = s.freeCtr := (rfl)
@[simp] theorem State.putLines_pending (s : State) (x : List Nat) : (s.putLines x).pending = s.pending := (rfl)

/-! State.putPosts. -/

@[simp] theorem State.putPosts_now (s : State) (x : PerLane (List ClePost)) : (s.putPosts x).now = s.now := (rfl)
@[simp] theorem State.putPosts_timeShift (s : State) (x : PerLane (List ClePost)) : (s.putPosts x).timeShift = s.timeShift := (rfl)
@[simp] theorem State.putPosts_clockUnset (s : State) (x : PerLane (List ClePost)) : (s.putPosts x).clockUnset = s.clockUnset := (rfl)
@[simp] theorem State.putPosts_regs (s : State) (x : PerLane (List ClePost)) : (s.putPosts x).regs = s.regs := (rfl)
@[simp] theorem State.putPosts_latched (s : State) (x : PerLane (List ClePost)) : (s.putPosts x).latched = s.latched := (rfl)
@[simp] theorem State.putPosts_lowWrites (s : State) (x : PerLane (List ClePost)) : (s.putPosts x).lowWrites = s.lowWrites := (rfl)
@[simp] theorem State.putPosts_out (s : State) (x : PerLane (List ClePost)) : (s.putPosts x).out = s.out := (rfl)
@[simp] theorem State.putPosts_opens (s : State) (x : PerLane (List ClePost)) : (s.putPosts x).opens = s.opens := (rfl)
@[simp] theorem State.putPosts_fabric (s : State) (x : PerLane (List ClePost)) : (s.putPosts x).fabric = s.fabric := (rfl)
@[simp] theorem State.putPosts_clePosts (s : State) (x : PerLane (List ClePost)) :
    (s.putPosts x).clePosts = x := (rfl)
@[simp] theorem State.putPosts_res (s : State) (x : PerLane (List ClePost)) : (s.putPosts x).res = s.res := (rfl)
@[simp] theorem State.putPosts_bootCount (s : State) (x : PerLane (List ClePost)) : (s.putPosts x).bootCount = s.bootCount := (rfl)
@[simp] theorem State.putPosts_host (s : State) (x : PerLane (List ClePost)) : (s.putPosts x).host = s.host := (rfl)
@[simp] theorem State.putPosts_lanes (s : State) (x : PerLane (List ClePost)) : (s.putPosts x).lanes = s.lanes := (rfl)
@[simp] theorem State.putPosts_pair (s : State) (x : PerLane (List ClePost)) : (s.putPosts x).pair = s.pair := (rfl)
@[simp] theorem State.putPosts_cles (s : State) (x : PerLane (List ClePost)) : (s.putPosts x).cles = s.cles := (rfl)
@[simp] theorem State.putPosts_oc (s : State) (x : PerLane (List ClePost)) : (s.putPosts x).oc = s.oc := (rfl)
@[simp] theorem State.putPosts_mems (s : State) (x : PerLane (List ClePost)) : (s.putPosts x).mems = s.mems := (rfl)
@[simp] theorem State.putPosts_axes (s : State) (x : PerLane (List ClePost)) : (s.putPosts x).axes = s.axes := (rfl)
@[simp] theorem State.putPosts_buses (s : State) (x : PerLane (List ClePost)) : (s.putPosts x).buses = s.buses := (rfl)
@[simp] theorem State.putPosts_lines (s : State) (x : PerLane (List ClePost)) : (s.putPosts x).lines = s.lines := (rfl)
@[simp] theorem State.putPosts_edges (s : State) (x : PerLane (List ClePost)) : (s.putPosts x).edges = s.edges := (rfl)
@[simp] theorem State.putPosts_beams (s : State) (x : PerLane (List ClePost)) : (s.putPosts x).beams = s.beams := (rfl)
@[simp] theorem State.putPosts_banks (s : State) (x : PerLane (List ClePost)) : (s.putPosts x).banks = s.banks := (rfl)
@[simp] theorem State.putPosts_groups (s : State) (x : PerLane (List ClePost)) : (s.putPosts x).groups = s.groups := (rfl)
@[simp] theorem State.putPosts_loops (s : State) (x : PerLane (List ClePost)) : (s.putPosts x).loops = s.loops := (rfl)
@[simp] theorem State.putPosts_kerb (s : State) (x : PerLane (List ClePost)) : (s.putPosts x).kerb = s.kerb := (rfl)
@[simp] theorem State.putPosts_cans (s : State) (x : PerLane (List ClePost)) : (s.putPosts x).cans = s.cans := (rfl)
@[simp] theorem State.putPosts_safe (s : State) (x : PerLane (List ClePost)) : (s.putPosts x).safe = s.safe := (rfl)
@[simp] theorem State.putPosts_avenues (s : State) (x : PerLane (List ClePost)) : (s.putPosts x).avenues = s.avenues := (rfl)
@[simp] theorem State.putPosts_vats (s : State) (x : PerLane (List ClePost)) : (s.putPosts x).vats = s.vats := (rfl)
@[simp] theorem State.putPosts_dumpStore (s : State) (x : PerLane (List ClePost)) : (s.putPosts x).dumpStore = s.dumpStore := (rfl)
@[simp] theorem State.putPosts_mgmt (s : State) (x : PerLane (List ClePost)) : (s.putPosts x).mgmt = s.mgmt := (rfl)
@[simp] theorem State.putPosts_lc (s : State) (x : PerLane (List ClePost)) : (s.putPosts x).lc = s.lc := (rfl)
@[simp] theorem State.putPosts_power (s : State) (x : PerLane (List ClePost)) : (s.putPosts x).power = s.power := (rfl)
@[simp] theorem State.putPosts_freeCtr (s : State) (x : PerLane (List ClePost)) : (s.putPosts x).freeCtr = s.freeCtr := (rfl)
@[simp] theorem State.putPosts_pending (s : State) (x : PerLane (List ClePost)) : (s.putPosts x).pending = s.pending := (rfl)

/-! State.putAvenues. -/

@[simp] theorem State.putAvenues_now (s : State) (x : Tab AvRec) : (s.putAvenues x).now = s.now := (rfl)
@[simp] theorem State.putAvenues_timeShift (s : State) (x : Tab AvRec) : (s.putAvenues x).timeShift = s.timeShift := (rfl)
@[simp] theorem State.putAvenues_clockUnset (s : State) (x : Tab AvRec) : (s.putAvenues x).clockUnset = s.clockUnset := (rfl)
@[simp] theorem State.putAvenues_regs (s : State) (x : Tab AvRec) : (s.putAvenues x).regs = s.regs := (rfl)
@[simp] theorem State.putAvenues_latched (s : State) (x : Tab AvRec) : (s.putAvenues x).latched = s.latched := (rfl)
@[simp] theorem State.putAvenues_lowWrites (s : State) (x : Tab AvRec) : (s.putAvenues x).lowWrites = s.lowWrites := (rfl)
@[simp] theorem State.putAvenues_out (s : State) (x : Tab AvRec) : (s.putAvenues x).out = s.out := (rfl)
@[simp] theorem State.putAvenues_opens (s : State) (x : Tab AvRec) : (s.putAvenues x).opens = s.opens := (rfl)
@[simp] theorem State.putAvenues_fabric (s : State) (x : Tab AvRec) : (s.putAvenues x).fabric = s.fabric := (rfl)
@[simp] theorem State.putAvenues_clePosts (s : State) (x : Tab AvRec) : (s.putAvenues x).clePosts = s.clePosts := (rfl)
@[simp] theorem State.putAvenues_res (s : State) (x : Tab AvRec) : (s.putAvenues x).res = s.res := (rfl)
@[simp] theorem State.putAvenues_bootCount (s : State) (x : Tab AvRec) : (s.putAvenues x).bootCount = s.bootCount := (rfl)
@[simp] theorem State.putAvenues_host (s : State) (x : Tab AvRec) : (s.putAvenues x).host = s.host := (rfl)
@[simp] theorem State.putAvenues_lanes (s : State) (x : Tab AvRec) : (s.putAvenues x).lanes = s.lanes := (rfl)
@[simp] theorem State.putAvenues_pair (s : State) (x : Tab AvRec) : (s.putAvenues x).pair = s.pair := (rfl)
@[simp] theorem State.putAvenues_cles (s : State) (x : Tab AvRec) : (s.putAvenues x).cles = s.cles := (rfl)
@[simp] theorem State.putAvenues_oc (s : State) (x : Tab AvRec) : (s.putAvenues x).oc = s.oc := (rfl)
@[simp] theorem State.putAvenues_mems (s : State) (x : Tab AvRec) : (s.putAvenues x).mems = s.mems := (rfl)
@[simp] theorem State.putAvenues_axes (s : State) (x : Tab AvRec) : (s.putAvenues x).axes = s.axes := (rfl)
@[simp] theorem State.putAvenues_buses (s : State) (x : Tab AvRec) : (s.putAvenues x).buses = s.buses := (rfl)
@[simp] theorem State.putAvenues_lines (s : State) (x : Tab AvRec) : (s.putAvenues x).lines = s.lines := (rfl)
@[simp] theorem State.putAvenues_edges (s : State) (x : Tab AvRec) : (s.putAvenues x).edges = s.edges := (rfl)
@[simp] theorem State.putAvenues_beams (s : State) (x : Tab AvRec) : (s.putAvenues x).beams = s.beams := (rfl)
@[simp] theorem State.putAvenues_banks (s : State) (x : Tab AvRec) : (s.putAvenues x).banks = s.banks := (rfl)
@[simp] theorem State.putAvenues_groups (s : State) (x : Tab AvRec) : (s.putAvenues x).groups = s.groups := (rfl)
@[simp] theorem State.putAvenues_loops (s : State) (x : Tab AvRec) : (s.putAvenues x).loops = s.loops := (rfl)
@[simp] theorem State.putAvenues_kerb (s : State) (x : Tab AvRec) : (s.putAvenues x).kerb = s.kerb := (rfl)
@[simp] theorem State.putAvenues_cans (s : State) (x : Tab AvRec) : (s.putAvenues x).cans = s.cans := (rfl)
@[simp] theorem State.putAvenues_safe (s : State) (x : Tab AvRec) : (s.putAvenues x).safe = s.safe := (rfl)
@[simp] theorem State.putAvenues_avenues (s : State) (x : Tab AvRec) :
    (s.putAvenues x).avenues = x := (rfl)
@[simp] theorem State.putAvenues_vats (s : State) (x : Tab AvRec) : (s.putAvenues x).vats = s.vats := (rfl)
@[simp] theorem State.putAvenues_dumpStore (s : State) (x : Tab AvRec) : (s.putAvenues x).dumpStore = s.dumpStore := (rfl)
@[simp] theorem State.putAvenues_mgmt (s : State) (x : Tab AvRec) : (s.putAvenues x).mgmt = s.mgmt := (rfl)
@[simp] theorem State.putAvenues_lc (s : State) (x : Tab AvRec) : (s.putAvenues x).lc = s.lc := (rfl)
@[simp] theorem State.putAvenues_power (s : State) (x : Tab AvRec) : (s.putAvenues x).power = s.power := (rfl)
@[simp] theorem State.putAvenues_freeCtr (s : State) (x : Tab AvRec) : (s.putAvenues x).freeCtr = s.freeCtr := (rfl)
@[simp] theorem State.putAvenues_pending (s : State) (x : Tab AvRec) : (s.putAvenues x).pending = s.pending := (rfl)

/-! State.putClock. -/

@[simp] theorem State.putClock_now (s : State) (shift : Int) (unset : Bool) : (s.putClock shift unset).now = s.now := (rfl)
@[simp] theorem State.putClock_timeShift (s : State) (shift : Int) (unset : Bool) :
    (s.putClock shift unset).timeShift = shift := (rfl)
@[simp] theorem State.putClock_clockUnset (s : State) (shift : Int) (unset : Bool) :
    (s.putClock shift unset).clockUnset = unset := (rfl)
@[simp] theorem State.putClock_regs (s : State) (shift : Int) (unset : Bool) : (s.putClock shift unset).regs = s.regs := (rfl)
@[simp] theorem State.putClock_latched (s : State) (shift : Int) (unset : Bool) : (s.putClock shift unset).latched = s.latched := (rfl)
@[simp] theorem State.putClock_lowWrites (s : State) (shift : Int) (unset : Bool) : (s.putClock shift unset).lowWrites = s.lowWrites := (rfl)
@[simp] theorem State.putClock_out (s : State) (shift : Int) (unset : Bool) : (s.putClock shift unset).out = s.out := (rfl)
@[simp] theorem State.putClock_opens (s : State) (shift : Int) (unset : Bool) : (s.putClock shift unset).opens = s.opens := (rfl)
@[simp] theorem State.putClock_fabric (s : State) (shift : Int) (unset : Bool) : (s.putClock shift unset).fabric = s.fabric := (rfl)
@[simp] theorem State.putClock_clePosts (s : State) (shift : Int) (unset : Bool) : (s.putClock shift unset).clePosts = s.clePosts := (rfl)
@[simp] theorem State.putClock_res (s : State) (shift : Int) (unset : Bool) : (s.putClock shift unset).res = s.res := (rfl)
@[simp] theorem State.putClock_bootCount (s : State) (shift : Int) (unset : Bool) : (s.putClock shift unset).bootCount = s.bootCount := (rfl)
@[simp] theorem State.putClock_host (s : State) (shift : Int) (unset : Bool) : (s.putClock shift unset).host = s.host := (rfl)
@[simp] theorem State.putClock_lanes (s : State) (shift : Int) (unset : Bool) : (s.putClock shift unset).lanes = s.lanes := (rfl)
@[simp] theorem State.putClock_pair (s : State) (shift : Int) (unset : Bool) : (s.putClock shift unset).pair = s.pair := (rfl)
@[simp] theorem State.putClock_cles (s : State) (shift : Int) (unset : Bool) : (s.putClock shift unset).cles = s.cles := (rfl)
@[simp] theorem State.putClock_oc (s : State) (shift : Int) (unset : Bool) : (s.putClock shift unset).oc = s.oc := (rfl)
@[simp] theorem State.putClock_mems (s : State) (shift : Int) (unset : Bool) : (s.putClock shift unset).mems = s.mems := (rfl)
@[simp] theorem State.putClock_axes (s : State) (shift : Int) (unset : Bool) : (s.putClock shift unset).axes = s.axes := (rfl)
@[simp] theorem State.putClock_buses (s : State) (shift : Int) (unset : Bool) : (s.putClock shift unset).buses = s.buses := (rfl)
@[simp] theorem State.putClock_lines (s : State) (shift : Int) (unset : Bool) : (s.putClock shift unset).lines = s.lines := (rfl)
@[simp] theorem State.putClock_edges (s : State) (shift : Int) (unset : Bool) : (s.putClock shift unset).edges = s.edges := (rfl)
@[simp] theorem State.putClock_beams (s : State) (shift : Int) (unset : Bool) : (s.putClock shift unset).beams = s.beams := (rfl)
@[simp] theorem State.putClock_banks (s : State) (shift : Int) (unset : Bool) : (s.putClock shift unset).banks = s.banks := (rfl)
@[simp] theorem State.putClock_groups (s : State) (shift : Int) (unset : Bool) : (s.putClock shift unset).groups = s.groups := (rfl)
@[simp] theorem State.putClock_loops (s : State) (shift : Int) (unset : Bool) : (s.putClock shift unset).loops = s.loops := (rfl)
@[simp] theorem State.putClock_kerb (s : State) (shift : Int) (unset : Bool) : (s.putClock shift unset).kerb = s.kerb := (rfl)
@[simp] theorem State.putClock_cans (s : State) (shift : Int) (unset : Bool) : (s.putClock shift unset).cans = s.cans := (rfl)
@[simp] theorem State.putClock_safe (s : State) (shift : Int) (unset : Bool) : (s.putClock shift unset).safe = s.safe := (rfl)
@[simp] theorem State.putClock_avenues (s : State) (shift : Int) (unset : Bool) : (s.putClock shift unset).avenues = s.avenues := (rfl)
@[simp] theorem State.putClock_vats (s : State) (shift : Int) (unset : Bool) : (s.putClock shift unset).vats = s.vats := (rfl)
@[simp] theorem State.putClock_dumpStore (s : State) (shift : Int) (unset : Bool) : (s.putClock shift unset).dumpStore = s.dumpStore := (rfl)
@[simp] theorem State.putClock_mgmt (s : State) (shift : Int) (unset : Bool) : (s.putClock shift unset).mgmt = s.mgmt := (rfl)
@[simp] theorem State.putClock_lc (s : State) (shift : Int) (unset : Bool) : (s.putClock shift unset).lc = s.lc := (rfl)
@[simp] theorem State.putClock_power (s : State) (shift : Int) (unset : Bool) : (s.putClock shift unset).power = s.power := (rfl)
@[simp] theorem State.putClock_freeCtr (s : State) (shift : Int) (unset : Bool) : (s.putClock shift unset).freeCtr = s.freeCtr := (rfl)
@[simp] theorem State.putClock_pending (s : State) (shift : Int) (unset : Bool) : (s.putClock shift unset).pending = s.pending := (rfl)

/-! State.putCle. -/

@[simp] theorem State.putCle_now (s : State) (l : Lane) (x : CleRec) : (s.putCle l x).now = s.now := (rfl)
@[simp] theorem State.putCle_timeShift (s : State) (l : Lane) (x : CleRec) : (s.putCle l x).timeShift = s.timeShift := (rfl)
@[simp] theorem State.putCle_clockUnset (s : State) (l : Lane) (x : CleRec) : (s.putCle l x).clockUnset = s.clockUnset := (rfl)
@[simp] theorem State.putCle_regs (s : State) (l : Lane) (x : CleRec) : (s.putCle l x).regs = s.regs := (rfl)
@[simp] theorem State.putCle_latched (s : State) (l : Lane) (x : CleRec) : (s.putCle l x).latched = s.latched := (rfl)
@[simp] theorem State.putCle_lowWrites (s : State) (l : Lane) (x : CleRec) : (s.putCle l x).lowWrites = s.lowWrites := (rfl)
@[simp] theorem State.putCle_out (s : State) (l : Lane) (x : CleRec) : (s.putCle l x).out = s.out := (rfl)
@[simp] theorem State.putCle_opens (s : State) (l : Lane) (x : CleRec) : (s.putCle l x).opens = s.opens := (rfl)
@[simp] theorem State.putCle_fabric (s : State) (l : Lane) (x : CleRec) : (s.putCle l x).fabric = s.fabric := (rfl)
@[simp] theorem State.putCle_clePosts (s : State) (l : Lane) (x : CleRec) : (s.putCle l x).clePosts = s.clePosts := (rfl)
@[simp] theorem State.putCle_res (s : State) (l : Lane) (x : CleRec) : (s.putCle l x).res = s.res := (rfl)
@[simp] theorem State.putCle_bootCount (s : State) (l : Lane) (x : CleRec) : (s.putCle l x).bootCount = s.bootCount := (rfl)
@[simp] theorem State.putCle_host (s : State) (l : Lane) (x : CleRec) : (s.putCle l x).host = s.host := (rfl)
@[simp] theorem State.putCle_lanes (s : State) (l : Lane) (x : CleRec) : (s.putCle l x).lanes = s.lanes := (rfl)
@[simp] theorem State.putCle_pair (s : State) (l : Lane) (x : CleRec) : (s.putCle l x).pair = s.pair := (rfl)
@[simp] theorem State.putCle_cles (s : State) (l : Lane) (x : CleRec) :
    (s.putCle l x).cles = s.cles.set l x := (rfl)
@[simp] theorem State.putCle_oc (s : State) (l : Lane) (x : CleRec) : (s.putCle l x).oc = s.oc := (rfl)
@[simp] theorem State.putCle_mems (s : State) (l : Lane) (x : CleRec) : (s.putCle l x).mems = s.mems := (rfl)
@[simp] theorem State.putCle_axes (s : State) (l : Lane) (x : CleRec) : (s.putCle l x).axes = s.axes := (rfl)
@[simp] theorem State.putCle_buses (s : State) (l : Lane) (x : CleRec) : (s.putCle l x).buses = s.buses := (rfl)
@[simp] theorem State.putCle_lines (s : State) (l : Lane) (x : CleRec) : (s.putCle l x).lines = s.lines := (rfl)
@[simp] theorem State.putCle_edges (s : State) (l : Lane) (x : CleRec) : (s.putCle l x).edges = s.edges := (rfl)
@[simp] theorem State.putCle_beams (s : State) (l : Lane) (x : CleRec) : (s.putCle l x).beams = s.beams := (rfl)
@[simp] theorem State.putCle_banks (s : State) (l : Lane) (x : CleRec) : (s.putCle l x).banks = s.banks := (rfl)
@[simp] theorem State.putCle_groups (s : State) (l : Lane) (x : CleRec) : (s.putCle l x).groups = s.groups := (rfl)
@[simp] theorem State.putCle_loops (s : State) (l : Lane) (x : CleRec) : (s.putCle l x).loops = s.loops := (rfl)
@[simp] theorem State.putCle_kerb (s : State) (l : Lane) (x : CleRec) : (s.putCle l x).kerb = s.kerb := (rfl)
@[simp] theorem State.putCle_cans (s : State) (l : Lane) (x : CleRec) : (s.putCle l x).cans = s.cans := (rfl)
@[simp] theorem State.putCle_safe (s : State) (l : Lane) (x : CleRec) : (s.putCle l x).safe = s.safe := (rfl)
@[simp] theorem State.putCle_avenues (s : State) (l : Lane) (x : CleRec) : (s.putCle l x).avenues = s.avenues := (rfl)
@[simp] theorem State.putCle_vats (s : State) (l : Lane) (x : CleRec) : (s.putCle l x).vats = s.vats := (rfl)
@[simp] theorem State.putCle_dumpStore (s : State) (l : Lane) (x : CleRec) : (s.putCle l x).dumpStore = s.dumpStore := (rfl)
@[simp] theorem State.putCle_mgmt (s : State) (l : Lane) (x : CleRec) : (s.putCle l x).mgmt = s.mgmt := (rfl)
@[simp] theorem State.putCle_lc (s : State) (l : Lane) (x : CleRec) : (s.putCle l x).lc = s.lc := (rfl)
@[simp] theorem State.putCle_power (s : State) (l : Lane) (x : CleRec) : (s.putCle l x).power = s.power := (rfl)
@[simp] theorem State.putCle_freeCtr (s : State) (l : Lane) (x : CleRec) : (s.putCle l x).freeCtr = s.freeCtr := (rfl)
@[simp] theorem State.putCle_pending (s : State) (l : Lane) (x : CleRec) : (s.putCle l x).pending = s.pending := (rfl)

/-! State.putMem. -/

@[simp] theorem State.putMem_now (s : State) (l : Lane) (x : MemRec) : (s.putMem l x).now = s.now := (rfl)
@[simp] theorem State.putMem_timeShift (s : State) (l : Lane) (x : MemRec) : (s.putMem l x).timeShift = s.timeShift := (rfl)
@[simp] theorem State.putMem_clockUnset (s : State) (l : Lane) (x : MemRec) : (s.putMem l x).clockUnset = s.clockUnset := (rfl)
@[simp] theorem State.putMem_regs (s : State) (l : Lane) (x : MemRec) : (s.putMem l x).regs = s.regs := (rfl)
@[simp] theorem State.putMem_latched (s : State) (l : Lane) (x : MemRec) : (s.putMem l x).latched = s.latched := (rfl)
@[simp] theorem State.putMem_lowWrites (s : State) (l : Lane) (x : MemRec) : (s.putMem l x).lowWrites = s.lowWrites := (rfl)
@[simp] theorem State.putMem_out (s : State) (l : Lane) (x : MemRec) : (s.putMem l x).out = s.out := (rfl)
@[simp] theorem State.putMem_opens (s : State) (l : Lane) (x : MemRec) : (s.putMem l x).opens = s.opens := (rfl)
@[simp] theorem State.putMem_fabric (s : State) (l : Lane) (x : MemRec) : (s.putMem l x).fabric = s.fabric := (rfl)
@[simp] theorem State.putMem_clePosts (s : State) (l : Lane) (x : MemRec) : (s.putMem l x).clePosts = s.clePosts := (rfl)
@[simp] theorem State.putMem_res (s : State) (l : Lane) (x : MemRec) : (s.putMem l x).res = s.res := (rfl)
@[simp] theorem State.putMem_bootCount (s : State) (l : Lane) (x : MemRec) : (s.putMem l x).bootCount = s.bootCount := (rfl)
@[simp] theorem State.putMem_host (s : State) (l : Lane) (x : MemRec) : (s.putMem l x).host = s.host := (rfl)
@[simp] theorem State.putMem_lanes (s : State) (l : Lane) (x : MemRec) : (s.putMem l x).lanes = s.lanes := (rfl)
@[simp] theorem State.putMem_pair (s : State) (l : Lane) (x : MemRec) : (s.putMem l x).pair = s.pair := (rfl)
@[simp] theorem State.putMem_cles (s : State) (l : Lane) (x : MemRec) : (s.putMem l x).cles = s.cles := (rfl)
@[simp] theorem State.putMem_oc (s : State) (l : Lane) (x : MemRec) : (s.putMem l x).oc = s.oc := (rfl)
@[simp] theorem State.putMem_mems (s : State) (l : Lane) (x : MemRec) :
    (s.putMem l x).mems = s.mems.set l x := (rfl)
@[simp] theorem State.putMem_axes (s : State) (l : Lane) (x : MemRec) : (s.putMem l x).axes = s.axes := (rfl)
@[simp] theorem State.putMem_buses (s : State) (l : Lane) (x : MemRec) : (s.putMem l x).buses = s.buses := (rfl)
@[simp] theorem State.putMem_lines (s : State) (l : Lane) (x : MemRec) : (s.putMem l x).lines = s.lines := (rfl)
@[simp] theorem State.putMem_edges (s : State) (l : Lane) (x : MemRec) : (s.putMem l x).edges = s.edges := (rfl)
@[simp] theorem State.putMem_beams (s : State) (l : Lane) (x : MemRec) : (s.putMem l x).beams = s.beams := (rfl)
@[simp] theorem State.putMem_banks (s : State) (l : Lane) (x : MemRec) : (s.putMem l x).banks = s.banks := (rfl)
@[simp] theorem State.putMem_groups (s : State) (l : Lane) (x : MemRec) : (s.putMem l x).groups = s.groups := (rfl)
@[simp] theorem State.putMem_loops (s : State) (l : Lane) (x : MemRec) : (s.putMem l x).loops = s.loops := (rfl)
@[simp] theorem State.putMem_kerb (s : State) (l : Lane) (x : MemRec) : (s.putMem l x).kerb = s.kerb := (rfl)
@[simp] theorem State.putMem_cans (s : State) (l : Lane) (x : MemRec) : (s.putMem l x).cans = s.cans := (rfl)
@[simp] theorem State.putMem_safe (s : State) (l : Lane) (x : MemRec) : (s.putMem l x).safe = s.safe := (rfl)
@[simp] theorem State.putMem_avenues (s : State) (l : Lane) (x : MemRec) : (s.putMem l x).avenues = s.avenues := (rfl)
@[simp] theorem State.putMem_vats (s : State) (l : Lane) (x : MemRec) : (s.putMem l x).vats = s.vats := (rfl)
@[simp] theorem State.putMem_dumpStore (s : State) (l : Lane) (x : MemRec) : (s.putMem l x).dumpStore = s.dumpStore := (rfl)
@[simp] theorem State.putMem_mgmt (s : State) (l : Lane) (x : MemRec) : (s.putMem l x).mgmt = s.mgmt := (rfl)
@[simp] theorem State.putMem_lc (s : State) (l : Lane) (x : MemRec) : (s.putMem l x).lc = s.lc := (rfl)
@[simp] theorem State.putMem_power (s : State) (l : Lane) (x : MemRec) : (s.putMem l x).power = s.power := (rfl)
@[simp] theorem State.putMem_freeCtr (s : State) (l : Lane) (x : MemRec) : (s.putMem l x).freeCtr = s.freeCtr := (rfl)
@[simp] theorem State.putMem_pending (s : State) (l : Lane) (x : MemRec) : (s.putMem l x).pending = s.pending := (rfl)

/-! State.putLowWrites. -/

@[simp] theorem State.putLowWrites_now (s : State) (x : Tab Nat) : (s.putLowWrites x).now = s.now := (rfl)
@[simp] theorem State.putLowWrites_timeShift (s : State) (x : Tab Nat) : (s.putLowWrites x).timeShift = s.timeShift := (rfl)
@[simp] theorem State.putLowWrites_clockUnset (s : State) (x : Tab Nat) : (s.putLowWrites x).clockUnset = s.clockUnset := (rfl)
@[simp] theorem State.putLowWrites_regs (s : State) (x : Tab Nat) : (s.putLowWrites x).regs = s.regs := (rfl)
@[simp] theorem State.putLowWrites_latched (s : State) (x : Tab Nat) : (s.putLowWrites x).latched = s.latched := (rfl)
@[simp] theorem State.putLowWrites_lowWrites (s : State) (x : Tab Nat) :
    (s.putLowWrites x).lowWrites = x := (rfl)
@[simp] theorem State.putLowWrites_out (s : State) (x : Tab Nat) : (s.putLowWrites x).out = s.out := (rfl)
@[simp] theorem State.putLowWrites_opens (s : State) (x : Tab Nat) : (s.putLowWrites x).opens = s.opens := (rfl)
@[simp] theorem State.putLowWrites_fabric (s : State) (x : Tab Nat) : (s.putLowWrites x).fabric = s.fabric := (rfl)
@[simp] theorem State.putLowWrites_clePosts (s : State) (x : Tab Nat) : (s.putLowWrites x).clePosts = s.clePosts := (rfl)
@[simp] theorem State.putLowWrites_res (s : State) (x : Tab Nat) : (s.putLowWrites x).res = s.res := (rfl)
@[simp] theorem State.putLowWrites_bootCount (s : State) (x : Tab Nat) : (s.putLowWrites x).bootCount = s.bootCount := (rfl)
@[simp] theorem State.putLowWrites_host (s : State) (x : Tab Nat) : (s.putLowWrites x).host = s.host := (rfl)
@[simp] theorem State.putLowWrites_lanes (s : State) (x : Tab Nat) : (s.putLowWrites x).lanes = s.lanes := (rfl)
@[simp] theorem State.putLowWrites_pair (s : State) (x : Tab Nat) : (s.putLowWrites x).pair = s.pair := (rfl)
@[simp] theorem State.putLowWrites_cles (s : State) (x : Tab Nat) : (s.putLowWrites x).cles = s.cles := (rfl)
@[simp] theorem State.putLowWrites_oc (s : State) (x : Tab Nat) : (s.putLowWrites x).oc = s.oc := (rfl)
@[simp] theorem State.putLowWrites_mems (s : State) (x : Tab Nat) : (s.putLowWrites x).mems = s.mems := (rfl)
@[simp] theorem State.putLowWrites_axes (s : State) (x : Tab Nat) : (s.putLowWrites x).axes = s.axes := (rfl)
@[simp] theorem State.putLowWrites_buses (s : State) (x : Tab Nat) : (s.putLowWrites x).buses = s.buses := (rfl)
@[simp] theorem State.putLowWrites_lines (s : State) (x : Tab Nat) : (s.putLowWrites x).lines = s.lines := (rfl)
@[simp] theorem State.putLowWrites_edges (s : State) (x : Tab Nat) : (s.putLowWrites x).edges = s.edges := (rfl)
@[simp] theorem State.putLowWrites_beams (s : State) (x : Tab Nat) : (s.putLowWrites x).beams = s.beams := (rfl)
@[simp] theorem State.putLowWrites_banks (s : State) (x : Tab Nat) : (s.putLowWrites x).banks = s.banks := (rfl)
@[simp] theorem State.putLowWrites_groups (s : State) (x : Tab Nat) : (s.putLowWrites x).groups = s.groups := (rfl)
@[simp] theorem State.putLowWrites_loops (s : State) (x : Tab Nat) : (s.putLowWrites x).loops = s.loops := (rfl)
@[simp] theorem State.putLowWrites_kerb (s : State) (x : Tab Nat) : (s.putLowWrites x).kerb = s.kerb := (rfl)
@[simp] theorem State.putLowWrites_cans (s : State) (x : Tab Nat) : (s.putLowWrites x).cans = s.cans := (rfl)
@[simp] theorem State.putLowWrites_safe (s : State) (x : Tab Nat) : (s.putLowWrites x).safe = s.safe := (rfl)
@[simp] theorem State.putLowWrites_avenues (s : State) (x : Tab Nat) : (s.putLowWrites x).avenues = s.avenues := (rfl)
@[simp] theorem State.putLowWrites_vats (s : State) (x : Tab Nat) : (s.putLowWrites x).vats = s.vats := (rfl)
@[simp] theorem State.putLowWrites_dumpStore (s : State) (x : Tab Nat) : (s.putLowWrites x).dumpStore = s.dumpStore := (rfl)
@[simp] theorem State.putLowWrites_mgmt (s : State) (x : Tab Nat) : (s.putLowWrites x).mgmt = s.mgmt := (rfl)
@[simp] theorem State.putLowWrites_lc (s : State) (x : Tab Nat) : (s.putLowWrites x).lc = s.lc := (rfl)
@[simp] theorem State.putLowWrites_power (s : State) (x : Tab Nat) : (s.putLowWrites x).power = s.power := (rfl)
@[simp] theorem State.putLowWrites_freeCtr (s : State) (x : Tab Nat) : (s.putLowWrites x).freeCtr = s.freeCtr := (rfl)
@[simp] theorem State.putLowWrites_pending (s : State) (x : Tab Nat) : (s.putLowWrites x).pending = s.pending := (rfl)

/-! State.putPair. -/

@[simp] theorem State.putPair_now (s : State) (x : PairRec) : (s.putPair x).now = s.now := (rfl)
@[simp] theorem State.putPair_timeShift (s : State) (x : PairRec) : (s.putPair x).timeShift = s.timeShift := (rfl)
@[simp] theorem State.putPair_clockUnset (s : State) (x : PairRec) : (s.putPair x).clockUnset = s.clockUnset := (rfl)
@[simp] theorem State.putPair_regs (s : State) (x : PairRec) : (s.putPair x).regs = s.regs := (rfl)
@[simp] theorem State.putPair_latched (s : State) (x : PairRec) : (s.putPair x).latched = s.latched := (rfl)
@[simp] theorem State.putPair_lowWrites (s : State) (x : PairRec) : (s.putPair x).lowWrites = s.lowWrites := (rfl)
@[simp] theorem State.putPair_out (s : State) (x : PairRec) : (s.putPair x).out = s.out := (rfl)
@[simp] theorem State.putPair_opens (s : State) (x : PairRec) : (s.putPair x).opens = s.opens := (rfl)
@[simp] theorem State.putPair_fabric (s : State) (x : PairRec) : (s.putPair x).fabric = s.fabric := (rfl)
@[simp] theorem State.putPair_clePosts (s : State) (x : PairRec) : (s.putPair x).clePosts = s.clePosts := (rfl)
@[simp] theorem State.putPair_res (s : State) (x : PairRec) : (s.putPair x).res = s.res := (rfl)
@[simp] theorem State.putPair_bootCount (s : State) (x : PairRec) : (s.putPair x).bootCount = s.bootCount := (rfl)
@[simp] theorem State.putPair_host (s : State) (x : PairRec) : (s.putPair x).host = s.host := (rfl)
@[simp] theorem State.putPair_lanes (s : State) (x : PairRec) : (s.putPair x).lanes = s.lanes := (rfl)
@[simp] theorem State.putPair_pair (s : State) (x : PairRec) :
    (s.putPair x).pair = x := (rfl)
@[simp] theorem State.putPair_cles (s : State) (x : PairRec) : (s.putPair x).cles = s.cles := (rfl)
@[simp] theorem State.putPair_oc (s : State) (x : PairRec) : (s.putPair x).oc = s.oc := (rfl)
@[simp] theorem State.putPair_mems (s : State) (x : PairRec) : (s.putPair x).mems = s.mems := (rfl)
@[simp] theorem State.putPair_axes (s : State) (x : PairRec) : (s.putPair x).axes = s.axes := (rfl)
@[simp] theorem State.putPair_buses (s : State) (x : PairRec) : (s.putPair x).buses = s.buses := (rfl)
@[simp] theorem State.putPair_lines (s : State) (x : PairRec) : (s.putPair x).lines = s.lines := (rfl)
@[simp] theorem State.putPair_edges (s : State) (x : PairRec) : (s.putPair x).edges = s.edges := (rfl)
@[simp] theorem State.putPair_beams (s : State) (x : PairRec) : (s.putPair x).beams = s.beams := (rfl)
@[simp] theorem State.putPair_banks (s : State) (x : PairRec) : (s.putPair x).banks = s.banks := (rfl)
@[simp] theorem State.putPair_groups (s : State) (x : PairRec) : (s.putPair x).groups = s.groups := (rfl)
@[simp] theorem State.putPair_loops (s : State) (x : PairRec) : (s.putPair x).loops = s.loops := (rfl)
@[simp] theorem State.putPair_kerb (s : State) (x : PairRec) : (s.putPair x).kerb = s.kerb := (rfl)
@[simp] theorem State.putPair_cans (s : State) (x : PairRec) : (s.putPair x).cans = s.cans := (rfl)
@[simp] theorem State.putPair_safe (s : State) (x : PairRec) : (s.putPair x).safe = s.safe := (rfl)
@[simp] theorem State.putPair_avenues (s : State) (x : PairRec) : (s.putPair x).avenues = s.avenues := (rfl)
@[simp] theorem State.putPair_vats (s : State) (x : PairRec) : (s.putPair x).vats = s.vats := (rfl)
@[simp] theorem State.putPair_dumpStore (s : State) (x : PairRec) : (s.putPair x).dumpStore = s.dumpStore := (rfl)
@[simp] theorem State.putPair_mgmt (s : State) (x : PairRec) : (s.putPair x).mgmt = s.mgmt := (rfl)
@[simp] theorem State.putPair_lc (s : State) (x : PairRec) : (s.putPair x).lc = s.lc := (rfl)
@[simp] theorem State.putPair_power (s : State) (x : PairRec) : (s.putPair x).power = s.power := (rfl)
@[simp] theorem State.putPair_freeCtr (s : State) (x : PairRec) : (s.putPair x).freeCtr = s.freeCtr := (rfl)
@[simp] theorem State.putPair_pending (s : State) (x : PairRec) : (s.putPair x).pending = s.pending := (rfl)

/-! State.putLatched. -/

@[simp] theorem State.putLatched_now (s : State) (x : Tab Nat) : (s.putLatched x).now = s.now := (rfl)
@[simp] theorem State.putLatched_timeShift (s : State) (x : Tab Nat) : (s.putLatched x).timeShift = s.timeShift := (rfl)
@[simp] theorem State.putLatched_clockUnset (s : State) (x : Tab Nat) : (s.putLatched x).clockUnset = s.clockUnset := (rfl)
@[simp] theorem State.putLatched_regs (s : State) (x : Tab Nat) : (s.putLatched x).regs = s.regs := (rfl)
@[simp] theorem State.putLatched_latched (s : State) (x : Tab Nat) :
    (s.putLatched x).latched = x := (rfl)
@[simp] theorem State.putLatched_lowWrites (s : State) (x : Tab Nat) : (s.putLatched x).lowWrites = s.lowWrites := (rfl)
@[simp] theorem State.putLatched_out (s : State) (x : Tab Nat) : (s.putLatched x).out = s.out := (rfl)
@[simp] theorem State.putLatched_opens (s : State) (x : Tab Nat) : (s.putLatched x).opens = s.opens := (rfl)
@[simp] theorem State.putLatched_fabric (s : State) (x : Tab Nat) : (s.putLatched x).fabric = s.fabric := (rfl)
@[simp] theorem State.putLatched_clePosts (s : State) (x : Tab Nat) : (s.putLatched x).clePosts = s.clePosts := (rfl)
@[simp] theorem State.putLatched_res (s : State) (x : Tab Nat) : (s.putLatched x).res = s.res := (rfl)
@[simp] theorem State.putLatched_bootCount (s : State) (x : Tab Nat) : (s.putLatched x).bootCount = s.bootCount := (rfl)
@[simp] theorem State.putLatched_host (s : State) (x : Tab Nat) : (s.putLatched x).host = s.host := (rfl)
@[simp] theorem State.putLatched_lanes (s : State) (x : Tab Nat) : (s.putLatched x).lanes = s.lanes := (rfl)
@[simp] theorem State.putLatched_pair (s : State) (x : Tab Nat) : (s.putLatched x).pair = s.pair := (rfl)
@[simp] theorem State.putLatched_cles (s : State) (x : Tab Nat) : (s.putLatched x).cles = s.cles := (rfl)
@[simp] theorem State.putLatched_oc (s : State) (x : Tab Nat) : (s.putLatched x).oc = s.oc := (rfl)
@[simp] theorem State.putLatched_mems (s : State) (x : Tab Nat) : (s.putLatched x).mems = s.mems := (rfl)
@[simp] theorem State.putLatched_axes (s : State) (x : Tab Nat) : (s.putLatched x).axes = s.axes := (rfl)
@[simp] theorem State.putLatched_buses (s : State) (x : Tab Nat) : (s.putLatched x).buses = s.buses := (rfl)
@[simp] theorem State.putLatched_lines (s : State) (x : Tab Nat) : (s.putLatched x).lines = s.lines := (rfl)
@[simp] theorem State.putLatched_edges (s : State) (x : Tab Nat) : (s.putLatched x).edges = s.edges := (rfl)
@[simp] theorem State.putLatched_beams (s : State) (x : Tab Nat) : (s.putLatched x).beams = s.beams := (rfl)
@[simp] theorem State.putLatched_banks (s : State) (x : Tab Nat) : (s.putLatched x).banks = s.banks := (rfl)
@[simp] theorem State.putLatched_groups (s : State) (x : Tab Nat) : (s.putLatched x).groups = s.groups := (rfl)
@[simp] theorem State.putLatched_loops (s : State) (x : Tab Nat) : (s.putLatched x).loops = s.loops := (rfl)
@[simp] theorem State.putLatched_kerb (s : State) (x : Tab Nat) : (s.putLatched x).kerb = s.kerb := (rfl)
@[simp] theorem State.putLatched_cans (s : State) (x : Tab Nat) : (s.putLatched x).cans = s.cans := (rfl)
@[simp] theorem State.putLatched_safe (s : State) (x : Tab Nat) : (s.putLatched x).safe = s.safe := (rfl)
@[simp] theorem State.putLatched_avenues (s : State) (x : Tab Nat) : (s.putLatched x).avenues = s.avenues := (rfl)
@[simp] theorem State.putLatched_vats (s : State) (x : Tab Nat) : (s.putLatched x).vats = s.vats := (rfl)
@[simp] theorem State.putLatched_dumpStore (s : State) (x : Tab Nat) : (s.putLatched x).dumpStore = s.dumpStore := (rfl)
@[simp] theorem State.putLatched_mgmt (s : State) (x : Tab Nat) : (s.putLatched x).mgmt = s.mgmt := (rfl)
@[simp] theorem State.putLatched_lc (s : State) (x : Tab Nat) : (s.putLatched x).lc = s.lc := (rfl)
@[simp] theorem State.putLatched_power (s : State) (x : Tab Nat) : (s.putLatched x).power = s.power := (rfl)
@[simp] theorem State.putLatched_freeCtr (s : State) (x : Tab Nat) : (s.putLatched x).freeCtr = s.freeCtr := (rfl)
@[simp] theorem State.putLatched_pending (s : State) (x : Tab Nat) : (s.putLatched x).pending = s.pending := (rfl)

/-! State.setRes. -/

@[simp] theorem State.setRes_now (s : State) (page : Nat) (r : ResRec) : (s.setRes page r).now = s.now := (rfl)
@[simp] theorem State.setRes_timeShift (s : State) (page : Nat) (r : ResRec) : (s.setRes page r).timeShift = s.timeShift := (rfl)
@[simp] theorem State.setRes_clockUnset (s : State) (page : Nat) (r : ResRec) : (s.setRes page r).clockUnset = s.clockUnset := (rfl)
@[simp] theorem State.setRes_regs (s : State) (page : Nat) (r : ResRec) : (s.setRes page r).regs = s.regs := (rfl)
@[simp] theorem State.setRes_latched (s : State) (page : Nat) (r : ResRec) : (s.setRes page r).latched = s.latched := (rfl)
@[simp] theorem State.setRes_lowWrites (s : State) (page : Nat) (r : ResRec) : (s.setRes page r).lowWrites = s.lowWrites := (rfl)
@[simp] theorem State.setRes_out (s : State) (page : Nat) (r : ResRec) : (s.setRes page r).out = s.out := (rfl)
@[simp] theorem State.setRes_opens (s : State) (page : Nat) (r : ResRec) : (s.setRes page r).opens = s.opens := (rfl)
@[simp] theorem State.setRes_fabric (s : State) (page : Nat) (r : ResRec) : (s.setRes page r).fabric = s.fabric := (rfl)
@[simp] theorem State.setRes_clePosts (s : State) (page : Nat) (r : ResRec) : (s.setRes page r).clePosts = s.clePosts := (rfl)
@[simp] theorem State.setRes_res (s : State) (page : Nat) (r : ResRec) :
    (s.setRes page r).res = s.res.wr {} page r := (rfl)
@[simp] theorem State.setRes_bootCount (s : State) (page : Nat) (r : ResRec) : (s.setRes page r).bootCount = s.bootCount := (rfl)
@[simp] theorem State.setRes_host (s : State) (page : Nat) (r : ResRec) : (s.setRes page r).host = s.host := (rfl)
@[simp] theorem State.setRes_lanes (s : State) (page : Nat) (r : ResRec) : (s.setRes page r).lanes = s.lanes := (rfl)
@[simp] theorem State.setRes_pair (s : State) (page : Nat) (r : ResRec) : (s.setRes page r).pair = s.pair := (rfl)
@[simp] theorem State.setRes_cles (s : State) (page : Nat) (r : ResRec) : (s.setRes page r).cles = s.cles := (rfl)
@[simp] theorem State.setRes_oc (s : State) (page : Nat) (r : ResRec) : (s.setRes page r).oc = s.oc := (rfl)
@[simp] theorem State.setRes_mems (s : State) (page : Nat) (r : ResRec) : (s.setRes page r).mems = s.mems := (rfl)
@[simp] theorem State.setRes_axes (s : State) (page : Nat) (r : ResRec) : (s.setRes page r).axes = s.axes := (rfl)
@[simp] theorem State.setRes_buses (s : State) (page : Nat) (r : ResRec) : (s.setRes page r).buses = s.buses := (rfl)
@[simp] theorem State.setRes_lines (s : State) (page : Nat) (r : ResRec) : (s.setRes page r).lines = s.lines := (rfl)
@[simp] theorem State.setRes_edges (s : State) (page : Nat) (r : ResRec) : (s.setRes page r).edges = s.edges := (rfl)
@[simp] theorem State.setRes_beams (s : State) (page : Nat) (r : ResRec) : (s.setRes page r).beams = s.beams := (rfl)
@[simp] theorem State.setRes_banks (s : State) (page : Nat) (r : ResRec) : (s.setRes page r).banks = s.banks := (rfl)
@[simp] theorem State.setRes_groups (s : State) (page : Nat) (r : ResRec) : (s.setRes page r).groups = s.groups := (rfl)
@[simp] theorem State.setRes_loops (s : State) (page : Nat) (r : ResRec) : (s.setRes page r).loops = s.loops := (rfl)
@[simp] theorem State.setRes_kerb (s : State) (page : Nat) (r : ResRec) : (s.setRes page r).kerb = s.kerb := (rfl)
@[simp] theorem State.setRes_cans (s : State) (page : Nat) (r : ResRec) : (s.setRes page r).cans = s.cans := (rfl)
@[simp] theorem State.setRes_safe (s : State) (page : Nat) (r : ResRec) : (s.setRes page r).safe = s.safe := (rfl)
@[simp] theorem State.setRes_avenues (s : State) (page : Nat) (r : ResRec) : (s.setRes page r).avenues = s.avenues := (rfl)
@[simp] theorem State.setRes_vats (s : State) (page : Nat) (r : ResRec) : (s.setRes page r).vats = s.vats := (rfl)
@[simp] theorem State.setRes_dumpStore (s : State) (page : Nat) (r : ResRec) : (s.setRes page r).dumpStore = s.dumpStore := (rfl)
@[simp] theorem State.setRes_mgmt (s : State) (page : Nat) (r : ResRec) : (s.setRes page r).mgmt = s.mgmt := (rfl)
@[simp] theorem State.setRes_lc (s : State) (page : Nat) (r : ResRec) : (s.setRes page r).lc = s.lc := (rfl)
@[simp] theorem State.setRes_power (s : State) (page : Nat) (r : ResRec) : (s.setRes page r).power = s.power := (rfl)
@[simp] theorem State.setRes_freeCtr (s : State) (page : Nat) (r : ResRec) : (s.setRes page r).freeCtr = s.freeCtr := (rfl)
@[simp] theorem State.setRes_pending (s : State) (page : Nat) (r : ResRec) : (s.setRes page r).pending = s.pending := (rfl)

/-! State.setLane. -/

@[simp] theorem State.setLane_now (s : State) (l : Lane) (x : LaneRec) : (s.setLane l x).now = s.now := (rfl)
@[simp] theorem State.setLane_timeShift (s : State) (l : Lane) (x : LaneRec) : (s.setLane l x).timeShift = s.timeShift := (rfl)
@[simp] theorem State.setLane_clockUnset (s : State) (l : Lane) (x : LaneRec) : (s.setLane l x).clockUnset = s.clockUnset := (rfl)
@[simp] theorem State.setLane_regs (s : State) (l : Lane) (x : LaneRec) : (s.setLane l x).regs = s.regs := (rfl)
@[simp] theorem State.setLane_latched (s : State) (l : Lane) (x : LaneRec) : (s.setLane l x).latched = s.latched := (rfl)
@[simp] theorem State.setLane_lowWrites (s : State) (l : Lane) (x : LaneRec) : (s.setLane l x).lowWrites = s.lowWrites := (rfl)
@[simp] theorem State.setLane_out (s : State) (l : Lane) (x : LaneRec) : (s.setLane l x).out = s.out := (rfl)
@[simp] theorem State.setLane_opens (s : State) (l : Lane) (x : LaneRec) : (s.setLane l x).opens = s.opens := (rfl)
@[simp] theorem State.setLane_fabric (s : State) (l : Lane) (x : LaneRec) : (s.setLane l x).fabric = s.fabric := (rfl)
@[simp] theorem State.setLane_clePosts (s : State) (l : Lane) (x : LaneRec) : (s.setLane l x).clePosts = s.clePosts := (rfl)
@[simp] theorem State.setLane_res (s : State) (l : Lane) (x : LaneRec) : (s.setLane l x).res = s.res := (rfl)
@[simp] theorem State.setLane_bootCount (s : State) (l : Lane) (x : LaneRec) : (s.setLane l x).bootCount = s.bootCount := (rfl)
@[simp] theorem State.setLane_host (s : State) (l : Lane) (x : LaneRec) : (s.setLane l x).host = s.host := (rfl)
@[simp] theorem State.setLane_lanes (s : State) (l : Lane) (x : LaneRec) :
    (s.setLane l x).lanes = s.lanes.set l x := (rfl)
@[simp] theorem State.setLane_pair (s : State) (l : Lane) (x : LaneRec) : (s.setLane l x).pair = s.pair := (rfl)
@[simp] theorem State.setLane_cles (s : State) (l : Lane) (x : LaneRec) : (s.setLane l x).cles = s.cles := (rfl)
@[simp] theorem State.setLane_oc (s : State) (l : Lane) (x : LaneRec) : (s.setLane l x).oc = s.oc := (rfl)
@[simp] theorem State.setLane_mems (s : State) (l : Lane) (x : LaneRec) : (s.setLane l x).mems = s.mems := (rfl)
@[simp] theorem State.setLane_axes (s : State) (l : Lane) (x : LaneRec) : (s.setLane l x).axes = s.axes := (rfl)
@[simp] theorem State.setLane_buses (s : State) (l : Lane) (x : LaneRec) : (s.setLane l x).buses = s.buses := (rfl)
@[simp] theorem State.setLane_lines (s : State) (l : Lane) (x : LaneRec) : (s.setLane l x).lines = s.lines := (rfl)
@[simp] theorem State.setLane_edges (s : State) (l : Lane) (x : LaneRec) : (s.setLane l x).edges = s.edges := (rfl)
@[simp] theorem State.setLane_beams (s : State) (l : Lane) (x : LaneRec) : (s.setLane l x).beams = s.beams := (rfl)
@[simp] theorem State.setLane_banks (s : State) (l : Lane) (x : LaneRec) : (s.setLane l x).banks = s.banks := (rfl)
@[simp] theorem State.setLane_groups (s : State) (l : Lane) (x : LaneRec) : (s.setLane l x).groups = s.groups := (rfl)
@[simp] theorem State.setLane_loops (s : State) (l : Lane) (x : LaneRec) : (s.setLane l x).loops = s.loops := (rfl)
@[simp] theorem State.setLane_kerb (s : State) (l : Lane) (x : LaneRec) : (s.setLane l x).kerb = s.kerb := (rfl)
@[simp] theorem State.setLane_cans (s : State) (l : Lane) (x : LaneRec) : (s.setLane l x).cans = s.cans := (rfl)
@[simp] theorem State.setLane_safe (s : State) (l : Lane) (x : LaneRec) : (s.setLane l x).safe = s.safe := (rfl)
@[simp] theorem State.setLane_avenues (s : State) (l : Lane) (x : LaneRec) : (s.setLane l x).avenues = s.avenues := (rfl)
@[simp] theorem State.setLane_vats (s : State) (l : Lane) (x : LaneRec) : (s.setLane l x).vats = s.vats := (rfl)
@[simp] theorem State.setLane_dumpStore (s : State) (l : Lane) (x : LaneRec) : (s.setLane l x).dumpStore = s.dumpStore := (rfl)
@[simp] theorem State.setLane_mgmt (s : State) (l : Lane) (x : LaneRec) : (s.setLane l x).mgmt = s.mgmt := (rfl)
@[simp] theorem State.setLane_lc (s : State) (l : Lane) (x : LaneRec) : (s.setLane l x).lc = s.lc := (rfl)
@[simp] theorem State.setLane_power (s : State) (l : Lane) (x : LaneRec) : (s.setLane l x).power = s.power := (rfl)
@[simp] theorem State.setLane_freeCtr (s : State) (l : Lane) (x : LaneRec) : (s.setLane l x).freeCtr = s.freeCtr := (rfl)
@[simp] theorem State.setLane_pending (s : State) (l : Lane) (x : LaneRec) : (s.setLane l x).pending = s.pending := (rfl)

/-! State.clearPages. -/

@[simp] theorem State.clearPages_now (s : State) (p : Nat → Bool) : (s.clearPages p).now = s.now := (rfl)
@[simp] theorem State.clearPages_timeShift (s : State) (p : Nat → Bool) : (s.clearPages p).timeShift = s.timeShift := (rfl)
@[simp] theorem State.clearPages_clockUnset (s : State) (p : Nat → Bool) : (s.clearPages p).clockUnset = s.clockUnset := (rfl)
@[simp] theorem State.clearPages_regs (s : State) (p : Nat → Bool) :
    (s.clearPages p).regs = Sparse.restrict (fun k => !p (k / 8 / 4096)) s.regs := (rfl)
@[simp] theorem State.clearPages_latched (s : State) (p : Nat → Bool) : (s.clearPages p).latched = s.latched := (rfl)
@[simp] theorem State.clearPages_lowWrites (s : State) (p : Nat → Bool) : (s.clearPages p).lowWrites = s.lowWrites := (rfl)
@[simp] theorem State.clearPages_out (s : State) (p : Nat → Bool) : (s.clearPages p).out = s.out := (rfl)
@[simp] theorem State.clearPages_opens (s : State) (p : Nat → Bool) : (s.clearPages p).opens = s.opens := (rfl)
@[simp] theorem State.clearPages_fabric (s : State) (p : Nat → Bool) : (s.clearPages p).fabric = s.fabric := (rfl)
@[simp] theorem State.clearPages_clePosts (s : State) (p : Nat → Bool) : (s.clearPages p).clePosts = s.clePosts := (rfl)
@[simp] theorem State.clearPages_res (s : State) (p : Nat → Bool) : (s.clearPages p).res = s.res := (rfl)
@[simp] theorem State.clearPages_bootCount (s : State) (p : Nat → Bool) : (s.clearPages p).bootCount = s.bootCount := (rfl)
@[simp] theorem State.clearPages_host (s : State) (p : Nat → Bool) : (s.clearPages p).host = s.host := (rfl)
@[simp] theorem State.clearPages_lanes (s : State) (p : Nat → Bool) : (s.clearPages p).lanes = s.lanes := (rfl)
@[simp] theorem State.clearPages_pair (s : State) (p : Nat → Bool) : (s.clearPages p).pair = s.pair := (rfl)
@[simp] theorem State.clearPages_cles (s : State) (p : Nat → Bool) : (s.clearPages p).cles = s.cles := (rfl)
@[simp] theorem State.clearPages_oc (s : State) (p : Nat → Bool) : (s.clearPages p).oc = s.oc := (rfl)
@[simp] theorem State.clearPages_mems (s : State) (p : Nat → Bool) : (s.clearPages p).mems = s.mems := (rfl)
@[simp] theorem State.clearPages_axes (s : State) (p : Nat → Bool) : (s.clearPages p).axes = s.axes := (rfl)
@[simp] theorem State.clearPages_buses (s : State) (p : Nat → Bool) : (s.clearPages p).buses = s.buses := (rfl)
@[simp] theorem State.clearPages_lines (s : State) (p : Nat → Bool) : (s.clearPages p).lines = s.lines := (rfl)
@[simp] theorem State.clearPages_edges (s : State) (p : Nat → Bool) : (s.clearPages p).edges = s.edges := (rfl)
@[simp] theorem State.clearPages_beams (s : State) (p : Nat → Bool) : (s.clearPages p).beams = s.beams := (rfl)
@[simp] theorem State.clearPages_banks (s : State) (p : Nat → Bool) : (s.clearPages p).banks = s.banks := (rfl)
@[simp] theorem State.clearPages_groups (s : State) (p : Nat → Bool) : (s.clearPages p).groups = s.groups := (rfl)
@[simp] theorem State.clearPages_loops (s : State) (p : Nat → Bool) : (s.clearPages p).loops = s.loops := (rfl)
@[simp] theorem State.clearPages_kerb (s : State) (p : Nat → Bool) : (s.clearPages p).kerb = s.kerb := (rfl)
@[simp] theorem State.clearPages_cans (s : State) (p : Nat → Bool) : (s.clearPages p).cans = s.cans := (rfl)
@[simp] theorem State.clearPages_safe (s : State) (p : Nat → Bool) : (s.clearPages p).safe = s.safe := (rfl)
@[simp] theorem State.clearPages_avenues (s : State) (p : Nat → Bool) : (s.clearPages p).avenues = s.avenues := (rfl)
@[simp] theorem State.clearPages_vats (s : State) (p : Nat → Bool) : (s.clearPages p).vats = s.vats := (rfl)
@[simp] theorem State.clearPages_dumpStore (s : State) (p : Nat → Bool) : (s.clearPages p).dumpStore = s.dumpStore := (rfl)
@[simp] theorem State.clearPages_mgmt (s : State) (p : Nat → Bool) : (s.clearPages p).mgmt = s.mgmt := (rfl)
@[simp] theorem State.clearPages_lc (s : State) (p : Nat → Bool) : (s.clearPages p).lc = s.lc := (rfl)
@[simp] theorem State.clearPages_power (s : State) (p : Nat → Bool) : (s.clearPages p).power = s.power := (rfl)
@[simp] theorem State.clearPages_freeCtr (s : State) (p : Nat → Bool) : (s.clearPages p).freeCtr = s.freeCtr := (rfl)
@[simp] theorem State.clearPages_pending (s : State) (p : Nat → Bool) : (s.clearPages p).pending = s.pending := (rfl)

/-! State.setCle. -/

@[simp] theorem State.setCle_now (s : State) (l : Lane) (c : CleRec) : (s.setCle l c).now = s.now := (rfl)
@[simp] theorem State.setCle_timeShift (s : State) (l : Lane) (c : CleRec) : (s.setCle l c).timeShift = s.timeShift := (rfl)
@[simp] theorem State.setCle_clockUnset (s : State) (l : Lane) (c : CleRec) : (s.setCle l c).clockUnset = s.clockUnset := (rfl)
@[simp] theorem State.setCle_regs (s : State) (l : Lane) (c : CleRec) : (s.setCle l c).regs = s.regs := (rfl)
@[simp] theorem State.setCle_latched (s : State) (l : Lane) (c : CleRec) : (s.setCle l c).latched = s.latched := (rfl)
@[simp] theorem State.setCle_lowWrites (s : State) (l : Lane) (c : CleRec) : (s.setCle l c).lowWrites = s.lowWrites := (rfl)
@[simp] theorem State.setCle_out (s : State) (l : Lane) (c : CleRec) : (s.setCle l c).out = s.out := (rfl)
@[simp] theorem State.setCle_opens (s : State) (l : Lane) (c : CleRec) : (s.setCle l c).opens = s.opens := (rfl)
@[simp] theorem State.setCle_fabric (s : State) (l : Lane) (c : CleRec) : (s.setCle l c).fabric = s.fabric := (rfl)
@[simp] theorem State.setCle_clePosts (s : State) (l : Lane) (c : CleRec) : (s.setCle l c).clePosts = s.clePosts := (rfl)
@[simp] theorem State.setCle_res (s : State) (l : Lane) (c : CleRec) : (s.setCle l c).res = s.res := (rfl)
@[simp] theorem State.setCle_bootCount (s : State) (l : Lane) (c : CleRec) : (s.setCle l c).bootCount = s.bootCount := (rfl)
@[simp] theorem State.setCle_host (s : State) (l : Lane) (c : CleRec) : (s.setCle l c).host = s.host := (rfl)
@[simp] theorem State.setCle_lanes (s : State) (l : Lane) (c : CleRec) : (s.setCle l c).lanes = s.lanes := (rfl)
@[simp] theorem State.setCle_pair (s : State) (l : Lane) (c : CleRec) : (s.setCle l c).pair = s.pair := (rfl)
@[simp] theorem State.setCle_cles (s : State) (l : Lane) (c : CleRec) :
    (s.setCle l c).cles = s.cles.set l c := (rfl)
@[simp] theorem State.setCle_oc (s : State) (l : Lane) (c : CleRec) : (s.setCle l c).oc = s.oc := (rfl)
@[simp] theorem State.setCle_mems (s : State) (l : Lane) (c : CleRec) : (s.setCle l c).mems = s.mems := (rfl)
@[simp] theorem State.setCle_axes (s : State) (l : Lane) (c : CleRec) : (s.setCle l c).axes = s.axes := (rfl)
@[simp] theorem State.setCle_buses (s : State) (l : Lane) (c : CleRec) : (s.setCle l c).buses = s.buses := (rfl)
@[simp] theorem State.setCle_lines (s : State) (l : Lane) (c : CleRec) : (s.setCle l c).lines = s.lines := (rfl)
@[simp] theorem State.setCle_edges (s : State) (l : Lane) (c : CleRec) : (s.setCle l c).edges = s.edges := (rfl)
@[simp] theorem State.setCle_beams (s : State) (l : Lane) (c : CleRec) : (s.setCle l c).beams = s.beams := (rfl)
@[simp] theorem State.setCle_banks (s : State) (l : Lane) (c : CleRec) : (s.setCle l c).banks = s.banks := (rfl)
@[simp] theorem State.setCle_groups (s : State) (l : Lane) (c : CleRec) : (s.setCle l c).groups = s.groups := (rfl)
@[simp] theorem State.setCle_loops (s : State) (l : Lane) (c : CleRec) : (s.setCle l c).loops = s.loops := (rfl)
@[simp] theorem State.setCle_kerb (s : State) (l : Lane) (c : CleRec) : (s.setCle l c).kerb = s.kerb := (rfl)
@[simp] theorem State.setCle_cans (s : State) (l : Lane) (c : CleRec) : (s.setCle l c).cans = s.cans := (rfl)
@[simp] theorem State.setCle_safe (s : State) (l : Lane) (c : CleRec) : (s.setCle l c).safe = s.safe := (rfl)
@[simp] theorem State.setCle_avenues (s : State) (l : Lane) (c : CleRec) : (s.setCle l c).avenues = s.avenues := (rfl)
@[simp] theorem State.setCle_vats (s : State) (l : Lane) (c : CleRec) : (s.setCle l c).vats = s.vats := (rfl)
@[simp] theorem State.setCle_dumpStore (s : State) (l : Lane) (c : CleRec) : (s.setCle l c).dumpStore = s.dumpStore := (rfl)
@[simp] theorem State.setCle_mgmt (s : State) (l : Lane) (c : CleRec) : (s.setCle l c).mgmt = s.mgmt := (rfl)
@[simp] theorem State.setCle_lc (s : State) (l : Lane) (c : CleRec) : (s.setCle l c).lc = s.lc := (rfl)
@[simp] theorem State.setCle_power (s : State) (l : Lane) (c : CleRec) : (s.setCle l c).power = s.power := (rfl)
@[simp] theorem State.setCle_freeCtr (s : State) (l : Lane) (c : CleRec) : (s.setCle l c).freeCtr = s.freeCtr := (rfl)
@[simp] theorem State.setCle_pending (s : State) (l : Lane) (c : CleRec) : (s.setCle l c).pending = s.pending := (rfl)

/-! State.modAv. -/

@[simp] theorem State.modAv_now (s : State) (a : Nat) (f : AvRec → AvRec) : (s.modAv a f).now = s.now := (rfl)
@[simp] theorem State.modAv_timeShift (s : State) (a : Nat) (f : AvRec → AvRec) : (s.modAv a f).timeShift = s.timeShift := (rfl)
@[simp] theorem State.modAv_clockUnset (s : State) (a : Nat) (f : AvRec → AvRec) : (s.modAv a f).clockUnset = s.clockUnset := (rfl)
@[simp] theorem State.modAv_regs (s : State) (a : Nat) (f : AvRec → AvRec) : (s.modAv a f).regs = s.regs := (rfl)
@[simp] theorem State.modAv_latched (s : State) (a : Nat) (f : AvRec → AvRec) : (s.modAv a f).latched = s.latched := (rfl)
@[simp] theorem State.modAv_lowWrites (s : State) (a : Nat) (f : AvRec → AvRec) : (s.modAv a f).lowWrites = s.lowWrites := (rfl)
@[simp] theorem State.modAv_out (s : State) (a : Nat) (f : AvRec → AvRec) : (s.modAv a f).out = s.out := (rfl)
@[simp] theorem State.modAv_opens (s : State) (a : Nat) (f : AvRec → AvRec) : (s.modAv a f).opens = s.opens := (rfl)
@[simp] theorem State.modAv_fabric (s : State) (a : Nat) (f : AvRec → AvRec) : (s.modAv a f).fabric = s.fabric := (rfl)
@[simp] theorem State.modAv_clePosts (s : State) (a : Nat) (f : AvRec → AvRec) : (s.modAv a f).clePosts = s.clePosts := (rfl)
@[simp] theorem State.modAv_res (s : State) (a : Nat) (f : AvRec → AvRec) : (s.modAv a f).res = s.res := (rfl)
@[simp] theorem State.modAv_bootCount (s : State) (a : Nat) (f : AvRec → AvRec) : (s.modAv a f).bootCount = s.bootCount := (rfl)
@[simp] theorem State.modAv_host (s : State) (a : Nat) (f : AvRec → AvRec) : (s.modAv a f).host = s.host := (rfl)
@[simp] theorem State.modAv_lanes (s : State) (a : Nat) (f : AvRec → AvRec) : (s.modAv a f).lanes = s.lanes := (rfl)
@[simp] theorem State.modAv_pair (s : State) (a : Nat) (f : AvRec → AvRec) : (s.modAv a f).pair = s.pair := (rfl)
@[simp] theorem State.modAv_cles (s : State) (a : Nat) (f : AvRec → AvRec) : (s.modAv a f).cles = s.cles := (rfl)
@[simp] theorem State.modAv_oc (s : State) (a : Nat) (f : AvRec → AvRec) : (s.modAv a f).oc = s.oc := (rfl)
@[simp] theorem State.modAv_mems (s : State) (a : Nat) (f : AvRec → AvRec) : (s.modAv a f).mems = s.mems := (rfl)
@[simp] theorem State.modAv_axes (s : State) (a : Nat) (f : AvRec → AvRec) : (s.modAv a f).axes = s.axes := (rfl)
@[simp] theorem State.modAv_buses (s : State) (a : Nat) (f : AvRec → AvRec) : (s.modAv a f).buses = s.buses := (rfl)
@[simp] theorem State.modAv_lines (s : State) (a : Nat) (f : AvRec → AvRec) : (s.modAv a f).lines = s.lines := (rfl)
@[simp] theorem State.modAv_edges (s : State) (a : Nat) (f : AvRec → AvRec) : (s.modAv a f).edges = s.edges := (rfl)
@[simp] theorem State.modAv_beams (s : State) (a : Nat) (f : AvRec → AvRec) : (s.modAv a f).beams = s.beams := (rfl)
@[simp] theorem State.modAv_banks (s : State) (a : Nat) (f : AvRec → AvRec) : (s.modAv a f).banks = s.banks := (rfl)
@[simp] theorem State.modAv_groups (s : State) (a : Nat) (f : AvRec → AvRec) : (s.modAv a f).groups = s.groups := (rfl)
@[simp] theorem State.modAv_loops (s : State) (a : Nat) (f : AvRec → AvRec) : (s.modAv a f).loops = s.loops := (rfl)
@[simp] theorem State.modAv_kerb (s : State) (a : Nat) (f : AvRec → AvRec) : (s.modAv a f).kerb = s.kerb := (rfl)
@[simp] theorem State.modAv_cans (s : State) (a : Nat) (f : AvRec → AvRec) : (s.modAv a f).cans = s.cans := (rfl)
@[simp] theorem State.modAv_safe (s : State) (a : Nat) (f : AvRec → AvRec) : (s.modAv a f).safe = s.safe := (rfl)
@[simp] theorem State.modAv_avenues (s : State) (a : Nat) (f : AvRec → AvRec) :
    (s.modAv a f).avenues = s.avenues.wr {} a (f (s.av a)) := (rfl)
@[simp] theorem State.modAv_vats (s : State) (a : Nat) (f : AvRec → AvRec) : (s.modAv a f).vats = s.vats := (rfl)
@[simp] theorem State.modAv_dumpStore (s : State) (a : Nat) (f : AvRec → AvRec) : (s.modAv a f).dumpStore = s.dumpStore := (rfl)
@[simp] theorem State.modAv_mgmt (s : State) (a : Nat) (f : AvRec → AvRec) : (s.modAv a f).mgmt = s.mgmt := (rfl)
@[simp] theorem State.modAv_lc (s : State) (a : Nat) (f : AvRec → AvRec) : (s.modAv a f).lc = s.lc := (rfl)
@[simp] theorem State.modAv_power (s : State) (a : Nat) (f : AvRec → AvRec) : (s.modAv a f).power = s.power := (rfl)
@[simp] theorem State.modAv_freeCtr (s : State) (a : Nat) (f : AvRec → AvRec) : (s.modAv a f).freeCtr = s.freeCtr := (rfl)
@[simp] theorem State.modAv_pending (s : State) (a : Nat) (f : AvRec → AvRec) : (s.modAv a f).pending = s.pending := (rfl)

/-! State.setAxis. -/

@[simp] theorem State.setAxis_now (s : State) (p : Nat) (x : AxisRec) : (s.setAxis p x).now = s.now := (rfl)
@[simp] theorem State.setAxis_timeShift (s : State) (p : Nat) (x : AxisRec) : (s.setAxis p x).timeShift = s.timeShift := (rfl)
@[simp] theorem State.setAxis_clockUnset (s : State) (p : Nat) (x : AxisRec) : (s.setAxis p x).clockUnset = s.clockUnset := (rfl)
@[simp] theorem State.setAxis_regs (s : State) (p : Nat) (x : AxisRec) : (s.setAxis p x).regs = s.regs := (rfl)
@[simp] theorem State.setAxis_latched (s : State) (p : Nat) (x : AxisRec) : (s.setAxis p x).latched = s.latched := (rfl)
@[simp] theorem State.setAxis_lowWrites (s : State) (p : Nat) (x : AxisRec) : (s.setAxis p x).lowWrites = s.lowWrites := (rfl)
@[simp] theorem State.setAxis_out (s : State) (p : Nat) (x : AxisRec) : (s.setAxis p x).out = s.out := (rfl)
@[simp] theorem State.setAxis_opens (s : State) (p : Nat) (x : AxisRec) : (s.setAxis p x).opens = s.opens := (rfl)
@[simp] theorem State.setAxis_fabric (s : State) (p : Nat) (x : AxisRec) : (s.setAxis p x).fabric = s.fabric := (rfl)
@[simp] theorem State.setAxis_clePosts (s : State) (p : Nat) (x : AxisRec) : (s.setAxis p x).clePosts = s.clePosts := (rfl)
@[simp] theorem State.setAxis_res (s : State) (p : Nat) (x : AxisRec) : (s.setAxis p x).res = s.res := (rfl)
@[simp] theorem State.setAxis_bootCount (s : State) (p : Nat) (x : AxisRec) : (s.setAxis p x).bootCount = s.bootCount := (rfl)
@[simp] theorem State.setAxis_host (s : State) (p : Nat) (x : AxisRec) : (s.setAxis p x).host = s.host := (rfl)
@[simp] theorem State.setAxis_lanes (s : State) (p : Nat) (x : AxisRec) : (s.setAxis p x).lanes = s.lanes := (rfl)
@[simp] theorem State.setAxis_pair (s : State) (p : Nat) (x : AxisRec) : (s.setAxis p x).pair = s.pair := (rfl)
@[simp] theorem State.setAxis_cles (s : State) (p : Nat) (x : AxisRec) : (s.setAxis p x).cles = s.cles := (rfl)
@[simp] theorem State.setAxis_oc (s : State) (p : Nat) (x : AxisRec) : (s.setAxis p x).oc = s.oc := (rfl)
@[simp] theorem State.setAxis_mems (s : State) (p : Nat) (x : AxisRec) : (s.setAxis p x).mems = s.mems := (rfl)
@[simp] theorem State.setAxis_axes (s : State) (p : Nat) (x : AxisRec) :
    (s.setAxis p x).axes = s.axes.wr {} p x := (rfl)
@[simp] theorem State.setAxis_buses (s : State) (p : Nat) (x : AxisRec) : (s.setAxis p x).buses = s.buses := (rfl)
@[simp] theorem State.setAxis_lines (s : State) (p : Nat) (x : AxisRec) : (s.setAxis p x).lines = s.lines := (rfl)
@[simp] theorem State.setAxis_edges (s : State) (p : Nat) (x : AxisRec) : (s.setAxis p x).edges = s.edges := (rfl)
@[simp] theorem State.setAxis_beams (s : State) (p : Nat) (x : AxisRec) : (s.setAxis p x).beams = s.beams := (rfl)
@[simp] theorem State.setAxis_banks (s : State) (p : Nat) (x : AxisRec) : (s.setAxis p x).banks = s.banks := (rfl)
@[simp] theorem State.setAxis_groups (s : State) (p : Nat) (x : AxisRec) : (s.setAxis p x).groups = s.groups := (rfl)
@[simp] theorem State.setAxis_loops (s : State) (p : Nat) (x : AxisRec) : (s.setAxis p x).loops = s.loops := (rfl)
@[simp] theorem State.setAxis_kerb (s : State) (p : Nat) (x : AxisRec) : (s.setAxis p x).kerb = s.kerb := (rfl)
@[simp] theorem State.setAxis_cans (s : State) (p : Nat) (x : AxisRec) : (s.setAxis p x).cans = s.cans := (rfl)
@[simp] theorem State.setAxis_safe (s : State) (p : Nat) (x : AxisRec) : (s.setAxis p x).safe = s.safe := (rfl)
@[simp] theorem State.setAxis_avenues (s : State) (p : Nat) (x : AxisRec) : (s.setAxis p x).avenues = s.avenues := (rfl)
@[simp] theorem State.setAxis_vats (s : State) (p : Nat) (x : AxisRec) : (s.setAxis p x).vats = s.vats := (rfl)
@[simp] theorem State.setAxis_dumpStore (s : State) (p : Nat) (x : AxisRec) : (s.setAxis p x).dumpStore = s.dumpStore := (rfl)
@[simp] theorem State.setAxis_mgmt (s : State) (p : Nat) (x : AxisRec) : (s.setAxis p x).mgmt = s.mgmt := (rfl)
@[simp] theorem State.setAxis_lc (s : State) (p : Nat) (x : AxisRec) : (s.setAxis p x).lc = s.lc := (rfl)
@[simp] theorem State.setAxis_power (s : State) (p : Nat) (x : AxisRec) : (s.setAxis p x).power = s.power := (rfl)
@[simp] theorem State.setAxis_freeCtr (s : State) (p : Nat) (x : AxisRec) : (s.setAxis p x).freeCtr = s.freeCtr := (rfl)
@[simp] theorem State.setAxis_pending (s : State) (p : Nat) (x : AxisRec) : (s.setAxis p x).pending = s.pending := (rfl)

/-! State.setBus. -/

@[simp] theorem State.setBus_now (s : State) (b : Nat) (x : BusRec) : (s.setBus b x).now = s.now := (rfl)
@[simp] theorem State.setBus_timeShift (s : State) (b : Nat) (x : BusRec) : (s.setBus b x).timeShift = s.timeShift := (rfl)
@[simp] theorem State.setBus_clockUnset (s : State) (b : Nat) (x : BusRec) : (s.setBus b x).clockUnset = s.clockUnset := (rfl)
@[simp] theorem State.setBus_regs (s : State) (b : Nat) (x : BusRec) : (s.setBus b x).regs = s.regs := (rfl)
@[simp] theorem State.setBus_latched (s : State) (b : Nat) (x : BusRec) : (s.setBus b x).latched = s.latched := (rfl)
@[simp] theorem State.setBus_lowWrites (s : State) (b : Nat) (x : BusRec) : (s.setBus b x).lowWrites = s.lowWrites := (rfl)
@[simp] theorem State.setBus_out (s : State) (b : Nat) (x : BusRec) : (s.setBus b x).out = s.out := (rfl)
@[simp] theorem State.setBus_opens (s : State) (b : Nat) (x : BusRec) : (s.setBus b x).opens = s.opens := (rfl)
@[simp] theorem State.setBus_fabric (s : State) (b : Nat) (x : BusRec) : (s.setBus b x).fabric = s.fabric := (rfl)
@[simp] theorem State.setBus_clePosts (s : State) (b : Nat) (x : BusRec) : (s.setBus b x).clePosts = s.clePosts := (rfl)
@[simp] theorem State.setBus_res (s : State) (b : Nat) (x : BusRec) : (s.setBus b x).res = s.res := (rfl)
@[simp] theorem State.setBus_bootCount (s : State) (b : Nat) (x : BusRec) : (s.setBus b x).bootCount = s.bootCount := (rfl)
@[simp] theorem State.setBus_host (s : State) (b : Nat) (x : BusRec) : (s.setBus b x).host = s.host := (rfl)
@[simp] theorem State.setBus_lanes (s : State) (b : Nat) (x : BusRec) : (s.setBus b x).lanes = s.lanes := (rfl)
@[simp] theorem State.setBus_pair (s : State) (b : Nat) (x : BusRec) : (s.setBus b x).pair = s.pair := (rfl)
@[simp] theorem State.setBus_cles (s : State) (b : Nat) (x : BusRec) : (s.setBus b x).cles = s.cles := (rfl)
@[simp] theorem State.setBus_oc (s : State) (b : Nat) (x : BusRec) : (s.setBus b x).oc = s.oc := (rfl)
@[simp] theorem State.setBus_mems (s : State) (b : Nat) (x : BusRec) : (s.setBus b x).mems = s.mems := (rfl)
@[simp] theorem State.setBus_axes (s : State) (b : Nat) (x : BusRec) : (s.setBus b x).axes = s.axes := (rfl)
@[simp] theorem State.setBus_buses (s : State) (b : Nat) (x : BusRec) :
    (s.setBus b x).buses = s.buses.wr {} b x := (rfl)
@[simp] theorem State.setBus_lines (s : State) (b : Nat) (x : BusRec) : (s.setBus b x).lines = s.lines := (rfl)
@[simp] theorem State.setBus_edges (s : State) (b : Nat) (x : BusRec) : (s.setBus b x).edges = s.edges := (rfl)
@[simp] theorem State.setBus_beams (s : State) (b : Nat) (x : BusRec) : (s.setBus b x).beams = s.beams := (rfl)
@[simp] theorem State.setBus_banks (s : State) (b : Nat) (x : BusRec) : (s.setBus b x).banks = s.banks := (rfl)
@[simp] theorem State.setBus_groups (s : State) (b : Nat) (x : BusRec) : (s.setBus b x).groups = s.groups := (rfl)
@[simp] theorem State.setBus_loops (s : State) (b : Nat) (x : BusRec) : (s.setBus b x).loops = s.loops := (rfl)
@[simp] theorem State.setBus_kerb (s : State) (b : Nat) (x : BusRec) : (s.setBus b x).kerb = s.kerb := (rfl)
@[simp] theorem State.setBus_cans (s : State) (b : Nat) (x : BusRec) : (s.setBus b x).cans = s.cans := (rfl)
@[simp] theorem State.setBus_safe (s : State) (b : Nat) (x : BusRec) : (s.setBus b x).safe = s.safe := (rfl)
@[simp] theorem State.setBus_avenues (s : State) (b : Nat) (x : BusRec) : (s.setBus b x).avenues = s.avenues := (rfl)
@[simp] theorem State.setBus_vats (s : State) (b : Nat) (x : BusRec) : (s.setBus b x).vats = s.vats := (rfl)
@[simp] theorem State.setBus_dumpStore (s : State) (b : Nat) (x : BusRec) : (s.setBus b x).dumpStore = s.dumpStore := (rfl)
@[simp] theorem State.setBus_mgmt (s : State) (b : Nat) (x : BusRec) : (s.setBus b x).mgmt = s.mgmt := (rfl)
@[simp] theorem State.setBus_lc (s : State) (b : Nat) (x : BusRec) : (s.setBus b x).lc = s.lc := (rfl)
@[simp] theorem State.setBus_power (s : State) (b : Nat) (x : BusRec) : (s.setBus b x).power = s.power := (rfl)
@[simp] theorem State.setBus_freeCtr (s : State) (b : Nat) (x : BusRec) : (s.setBus b x).freeCtr = s.freeCtr := (rfl)
@[simp] theorem State.setBus_pending (s : State) (b : Nat) (x : BusRec) : (s.setBus b x).pending = s.pending := (rfl)

/-! State.setCan. -/

@[simp] theorem State.setCan_now (s : State) (p : Nat) (c : CanRec) : (s.setCan p c).now = s.now := (rfl)
@[simp] theorem State.setCan_timeShift (s : State) (p : Nat) (c : CanRec) : (s.setCan p c).timeShift = s.timeShift := (rfl)
@[simp] theorem State.setCan_clockUnset (s : State) (p : Nat) (c : CanRec) : (s.setCan p c).clockUnset = s.clockUnset := (rfl)
@[simp] theorem State.setCan_regs (s : State) (p : Nat) (c : CanRec) : (s.setCan p c).regs = s.regs := (rfl)
@[simp] theorem State.setCan_latched (s : State) (p : Nat) (c : CanRec) : (s.setCan p c).latched = s.latched := (rfl)
@[simp] theorem State.setCan_lowWrites (s : State) (p : Nat) (c : CanRec) : (s.setCan p c).lowWrites = s.lowWrites := (rfl)
@[simp] theorem State.setCan_out (s : State) (p : Nat) (c : CanRec) : (s.setCan p c).out = s.out := (rfl)
@[simp] theorem State.setCan_opens (s : State) (p : Nat) (c : CanRec) : (s.setCan p c).opens = s.opens := (rfl)
@[simp] theorem State.setCan_fabric (s : State) (p : Nat) (c : CanRec) : (s.setCan p c).fabric = s.fabric := (rfl)
@[simp] theorem State.setCan_clePosts (s : State) (p : Nat) (c : CanRec) : (s.setCan p c).clePosts = s.clePosts := (rfl)
@[simp] theorem State.setCan_res (s : State) (p : Nat) (c : CanRec) : (s.setCan p c).res = s.res := (rfl)
@[simp] theorem State.setCan_bootCount (s : State) (p : Nat) (c : CanRec) : (s.setCan p c).bootCount = s.bootCount := (rfl)
@[simp] theorem State.setCan_host (s : State) (p : Nat) (c : CanRec) : (s.setCan p c).host = s.host := (rfl)
@[simp] theorem State.setCan_lanes (s : State) (p : Nat) (c : CanRec) : (s.setCan p c).lanes = s.lanes := (rfl)
@[simp] theorem State.setCan_pair (s : State) (p : Nat) (c : CanRec) : (s.setCan p c).pair = s.pair := (rfl)
@[simp] theorem State.setCan_cles (s : State) (p : Nat) (c : CanRec) : (s.setCan p c).cles = s.cles := (rfl)
@[simp] theorem State.setCan_oc (s : State) (p : Nat) (c : CanRec) : (s.setCan p c).oc = s.oc := (rfl)
@[simp] theorem State.setCan_mems (s : State) (p : Nat) (c : CanRec) : (s.setCan p c).mems = s.mems := (rfl)
@[simp] theorem State.setCan_axes (s : State) (p : Nat) (c : CanRec) : (s.setCan p c).axes = s.axes := (rfl)
@[simp] theorem State.setCan_buses (s : State) (p : Nat) (c : CanRec) : (s.setCan p c).buses = s.buses := (rfl)
@[simp] theorem State.setCan_lines (s : State) (p : Nat) (c : CanRec) : (s.setCan p c).lines = s.lines := (rfl)
@[simp] theorem State.setCan_edges (s : State) (p : Nat) (c : CanRec) : (s.setCan p c).edges = s.edges := (rfl)
@[simp] theorem State.setCan_beams (s : State) (p : Nat) (c : CanRec) : (s.setCan p c).beams = s.beams := (rfl)
@[simp] theorem State.setCan_banks (s : State) (p : Nat) (c : CanRec) : (s.setCan p c).banks = s.banks := (rfl)
@[simp] theorem State.setCan_groups (s : State) (p : Nat) (c : CanRec) : (s.setCan p c).groups = s.groups := (rfl)
@[simp] theorem State.setCan_loops (s : State) (p : Nat) (c : CanRec) : (s.setCan p c).loops = s.loops := (rfl)
@[simp] theorem State.setCan_kerb (s : State) (p : Nat) (c : CanRec) : (s.setCan p c).kerb = s.kerb := (rfl)
@[simp] theorem State.setCan_cans (s : State) (p : Nat) (c : CanRec) :
    (s.setCan p c).cans = s.cans.wr {} (p - 0x58) c := (rfl)
@[simp] theorem State.setCan_safe (s : State) (p : Nat) (c : CanRec) : (s.setCan p c).safe = s.safe := (rfl)
@[simp] theorem State.setCan_avenues (s : State) (p : Nat) (c : CanRec) : (s.setCan p c).avenues = s.avenues := (rfl)
@[simp] theorem State.setCan_vats (s : State) (p : Nat) (c : CanRec) : (s.setCan p c).vats = s.vats := (rfl)
@[simp] theorem State.setCan_dumpStore (s : State) (p : Nat) (c : CanRec) : (s.setCan p c).dumpStore = s.dumpStore := (rfl)
@[simp] theorem State.setCan_mgmt (s : State) (p : Nat) (c : CanRec) : (s.setCan p c).mgmt = s.mgmt := (rfl)
@[simp] theorem State.setCan_lc (s : State) (p : Nat) (c : CanRec) : (s.setCan p c).lc = s.lc := (rfl)
@[simp] theorem State.setCan_power (s : State) (p : Nat) (c : CanRec) : (s.setCan p c).power = s.power := (rfl)
@[simp] theorem State.setCan_freeCtr (s : State) (p : Nat) (c : CanRec) : (s.setCan p c).freeCtr = s.freeCtr := (rfl)
@[simp] theorem State.setCan_pending (s : State) (p : Nat) (c : CanRec) : (s.setCan p c).pending = s.pending := (rfl)

/-! State.modBank. -/

@[simp] theorem State.modBank_now (s : State) (p : Nat) (f : BankRec → BankRec) : (s.modBank p f).now = s.now := (rfl)
@[simp] theorem State.modBank_timeShift (s : State) (p : Nat) (f : BankRec → BankRec) : (s.modBank p f).timeShift = s.timeShift := (rfl)
@[simp] theorem State.modBank_clockUnset (s : State) (p : Nat) (f : BankRec → BankRec) : (s.modBank p f).clockUnset = s.clockUnset := (rfl)
@[simp] theorem State.modBank_regs (s : State) (p : Nat) (f : BankRec → BankRec) : (s.modBank p f).regs = s.regs := (rfl)
@[simp] theorem State.modBank_latched (s : State) (p : Nat) (f : BankRec → BankRec) : (s.modBank p f).latched = s.latched := (rfl)
@[simp] theorem State.modBank_lowWrites (s : State) (p : Nat) (f : BankRec → BankRec) : (s.modBank p f).lowWrites = s.lowWrites := (rfl)
@[simp] theorem State.modBank_out (s : State) (p : Nat) (f : BankRec → BankRec) : (s.modBank p f).out = s.out := (rfl)
@[simp] theorem State.modBank_opens (s : State) (p : Nat) (f : BankRec → BankRec) : (s.modBank p f).opens = s.opens := (rfl)
@[simp] theorem State.modBank_fabric (s : State) (p : Nat) (f : BankRec → BankRec) : (s.modBank p f).fabric = s.fabric := (rfl)
@[simp] theorem State.modBank_clePosts (s : State) (p : Nat) (f : BankRec → BankRec) : (s.modBank p f).clePosts = s.clePosts := (rfl)
@[simp] theorem State.modBank_res (s : State) (p : Nat) (f : BankRec → BankRec) : (s.modBank p f).res = s.res := (rfl)
@[simp] theorem State.modBank_bootCount (s : State) (p : Nat) (f : BankRec → BankRec) : (s.modBank p f).bootCount = s.bootCount := (rfl)
@[simp] theorem State.modBank_host (s : State) (p : Nat) (f : BankRec → BankRec) : (s.modBank p f).host = s.host := (rfl)
@[simp] theorem State.modBank_lanes (s : State) (p : Nat) (f : BankRec → BankRec) : (s.modBank p f).lanes = s.lanes := (rfl)
@[simp] theorem State.modBank_pair (s : State) (p : Nat) (f : BankRec → BankRec) : (s.modBank p f).pair = s.pair := (rfl)
@[simp] theorem State.modBank_cles (s : State) (p : Nat) (f : BankRec → BankRec) : (s.modBank p f).cles = s.cles := (rfl)
@[simp] theorem State.modBank_oc (s : State) (p : Nat) (f : BankRec → BankRec) : (s.modBank p f).oc = s.oc := (rfl)
@[simp] theorem State.modBank_mems (s : State) (p : Nat) (f : BankRec → BankRec) : (s.modBank p f).mems = s.mems := (rfl)
@[simp] theorem State.modBank_axes (s : State) (p : Nat) (f : BankRec → BankRec) : (s.modBank p f).axes = s.axes := (rfl)
@[simp] theorem State.modBank_buses (s : State) (p : Nat) (f : BankRec → BankRec) : (s.modBank p f).buses = s.buses := (rfl)
@[simp] theorem State.modBank_lines (s : State) (p : Nat) (f : BankRec → BankRec) : (s.modBank p f).lines = s.lines := (rfl)
@[simp] theorem State.modBank_edges (s : State) (p : Nat) (f : BankRec → BankRec) : (s.modBank p f).edges = s.edges := (rfl)
@[simp] theorem State.modBank_beams (s : State) (p : Nat) (f : BankRec → BankRec) : (s.modBank p f).beams = s.beams := (rfl)
@[simp] theorem State.modBank_banks (s : State) (p : Nat) (f : BankRec → BankRec) :
    (s.modBank p f).banks = s.banks.wr {} p (f (s.bank p)) := (rfl)
@[simp] theorem State.modBank_groups (s : State) (p : Nat) (f : BankRec → BankRec) : (s.modBank p f).groups = s.groups := (rfl)
@[simp] theorem State.modBank_loops (s : State) (p : Nat) (f : BankRec → BankRec) : (s.modBank p f).loops = s.loops := (rfl)
@[simp] theorem State.modBank_kerb (s : State) (p : Nat) (f : BankRec → BankRec) : (s.modBank p f).kerb = s.kerb := (rfl)
@[simp] theorem State.modBank_cans (s : State) (p : Nat) (f : BankRec → BankRec) : (s.modBank p f).cans = s.cans := (rfl)
@[simp] theorem State.modBank_safe (s : State) (p : Nat) (f : BankRec → BankRec) : (s.modBank p f).safe = s.safe := (rfl)
@[simp] theorem State.modBank_avenues (s : State) (p : Nat) (f : BankRec → BankRec) : (s.modBank p f).avenues = s.avenues := (rfl)
@[simp] theorem State.modBank_vats (s : State) (p : Nat) (f : BankRec → BankRec) : (s.modBank p f).vats = s.vats := (rfl)
@[simp] theorem State.modBank_dumpStore (s : State) (p : Nat) (f : BankRec → BankRec) : (s.modBank p f).dumpStore = s.dumpStore := (rfl)
@[simp] theorem State.modBank_mgmt (s : State) (p : Nat) (f : BankRec → BankRec) : (s.modBank p f).mgmt = s.mgmt := (rfl)
@[simp] theorem State.modBank_lc (s : State) (p : Nat) (f : BankRec → BankRec) : (s.modBank p f).lc = s.lc := (rfl)
@[simp] theorem State.modBank_power (s : State) (p : Nat) (f : BankRec → BankRec) : (s.modBank p f).power = s.power := (rfl)
@[simp] theorem State.modBank_freeCtr (s : State) (p : Nat) (f : BankRec → BankRec) : (s.modBank p f).freeCtr = s.freeCtr := (rfl)
@[simp] theorem State.modBank_pending (s : State) (p : Nat) (f : BankRec → BankRec) : (s.modBank p f).pending = s.pending := (rfl)

/-! State.modGroup. -/

@[simp] theorem State.modGroup_now (s : State) (p : Nat) (f : LsRec → LsRec) : (s.modGroup p f).now = s.now := (rfl)
@[simp] theorem State.modGroup_timeShift (s : State) (p : Nat) (f : LsRec → LsRec) : (s.modGroup p f).timeShift = s.timeShift := (rfl)
@[simp] theorem State.modGroup_clockUnset (s : State) (p : Nat) (f : LsRec → LsRec) : (s.modGroup p f).clockUnset = s.clockUnset := (rfl)
@[simp] theorem State.modGroup_regs (s : State) (p : Nat) (f : LsRec → LsRec) : (s.modGroup p f).regs = s.regs := (rfl)
@[simp] theorem State.modGroup_latched (s : State) (p : Nat) (f : LsRec → LsRec) : (s.modGroup p f).latched = s.latched := (rfl)
@[simp] theorem State.modGroup_lowWrites (s : State) (p : Nat) (f : LsRec → LsRec) : (s.modGroup p f).lowWrites = s.lowWrites := (rfl)
@[simp] theorem State.modGroup_out (s : State) (p : Nat) (f : LsRec → LsRec) : (s.modGroup p f).out = s.out := (rfl)
@[simp] theorem State.modGroup_opens (s : State) (p : Nat) (f : LsRec → LsRec) : (s.modGroup p f).opens = s.opens := (rfl)
@[simp] theorem State.modGroup_fabric (s : State) (p : Nat) (f : LsRec → LsRec) : (s.modGroup p f).fabric = s.fabric := (rfl)
@[simp] theorem State.modGroup_clePosts (s : State) (p : Nat) (f : LsRec → LsRec) : (s.modGroup p f).clePosts = s.clePosts := (rfl)
@[simp] theorem State.modGroup_res (s : State) (p : Nat) (f : LsRec → LsRec) : (s.modGroup p f).res = s.res := (rfl)
@[simp] theorem State.modGroup_bootCount (s : State) (p : Nat) (f : LsRec → LsRec) : (s.modGroup p f).bootCount = s.bootCount := (rfl)
@[simp] theorem State.modGroup_host (s : State) (p : Nat) (f : LsRec → LsRec) : (s.modGroup p f).host = s.host := (rfl)
@[simp] theorem State.modGroup_lanes (s : State) (p : Nat) (f : LsRec → LsRec) : (s.modGroup p f).lanes = s.lanes := (rfl)
@[simp] theorem State.modGroup_pair (s : State) (p : Nat) (f : LsRec → LsRec) : (s.modGroup p f).pair = s.pair := (rfl)
@[simp] theorem State.modGroup_cles (s : State) (p : Nat) (f : LsRec → LsRec) : (s.modGroup p f).cles = s.cles := (rfl)
@[simp] theorem State.modGroup_oc (s : State) (p : Nat) (f : LsRec → LsRec) : (s.modGroup p f).oc = s.oc := (rfl)
@[simp] theorem State.modGroup_mems (s : State) (p : Nat) (f : LsRec → LsRec) : (s.modGroup p f).mems = s.mems := (rfl)
@[simp] theorem State.modGroup_axes (s : State) (p : Nat) (f : LsRec → LsRec) : (s.modGroup p f).axes = s.axes := (rfl)
@[simp] theorem State.modGroup_buses (s : State) (p : Nat) (f : LsRec → LsRec) : (s.modGroup p f).buses = s.buses := (rfl)
@[simp] theorem State.modGroup_lines (s : State) (p : Nat) (f : LsRec → LsRec) : (s.modGroup p f).lines = s.lines := (rfl)
@[simp] theorem State.modGroup_edges (s : State) (p : Nat) (f : LsRec → LsRec) : (s.modGroup p f).edges = s.edges := (rfl)
@[simp] theorem State.modGroup_beams (s : State) (p : Nat) (f : LsRec → LsRec) : (s.modGroup p f).beams = s.beams := (rfl)
@[simp] theorem State.modGroup_banks (s : State) (p : Nat) (f : LsRec → LsRec) : (s.modGroup p f).banks = s.banks := (rfl)
@[simp] theorem State.modGroup_groups (s : State) (p : Nat) (f : LsRec → LsRec) :
    (s.modGroup p f).groups = s.groups.wr {} p (f (s.group p)) := (rfl)
@[simp] theorem State.modGroup_loops (s : State) (p : Nat) (f : LsRec → LsRec) : (s.modGroup p f).loops = s.loops := (rfl)
@[simp] theorem State.modGroup_kerb (s : State) (p : Nat) (f : LsRec → LsRec) : (s.modGroup p f).kerb = s.kerb := (rfl)
@[simp] theorem State.modGroup_cans (s : State) (p : Nat) (f : LsRec → LsRec) : (s.modGroup p f).cans = s.cans := (rfl)
@[simp] theorem State.modGroup_safe (s : State) (p : Nat) (f : LsRec → LsRec) : (s.modGroup p f).safe = s.safe := (rfl)
@[simp] theorem State.modGroup_avenues (s : State) (p : Nat) (f : LsRec → LsRec) : (s.modGroup p f).avenues = s.avenues := (rfl)
@[simp] theorem State.modGroup_vats (s : State) (p : Nat) (f : LsRec → LsRec) : (s.modGroup p f).vats = s.vats := (rfl)
@[simp] theorem State.modGroup_dumpStore (s : State) (p : Nat) (f : LsRec → LsRec) : (s.modGroup p f).dumpStore = s.dumpStore := (rfl)
@[simp] theorem State.modGroup_mgmt (s : State) (p : Nat) (f : LsRec → LsRec) : (s.modGroup p f).mgmt = s.mgmt := (rfl)
@[simp] theorem State.modGroup_lc (s : State) (p : Nat) (f : LsRec → LsRec) : (s.modGroup p f).lc = s.lc := (rfl)
@[simp] theorem State.modGroup_power (s : State) (p : Nat) (f : LsRec → LsRec) : (s.modGroup p f).power = s.power := (rfl)
@[simp] theorem State.modGroup_freeCtr (s : State) (p : Nat) (f : LsRec → LsRec) : (s.modGroup p f).freeCtr = s.freeCtr := (rfl)
@[simp] theorem State.modGroup_pending (s : State) (p : Nat) (f : LsRec → LsRec) : (s.modGroup p f).pending = s.pending := (rfl)

/-! State.setLoop. -/

@[simp] theorem State.setLoop_now (s : State) (p k : Nat) (c : LoopChan) : (s.setLoop p k c).now = s.now := (rfl)
@[simp] theorem State.setLoop_timeShift (s : State) (p k : Nat) (c : LoopChan) : (s.setLoop p k c).timeShift = s.timeShift := (rfl)
@[simp] theorem State.setLoop_clockUnset (s : State) (p k : Nat) (c : LoopChan) : (s.setLoop p k c).clockUnset = s.clockUnset := (rfl)
@[simp] theorem State.setLoop_regs (s : State) (p k : Nat) (c : LoopChan) : (s.setLoop p k c).regs = s.regs := (rfl)
@[simp] theorem State.setLoop_latched (s : State) (p k : Nat) (c : LoopChan) : (s.setLoop p k c).latched = s.latched := (rfl)
@[simp] theorem State.setLoop_lowWrites (s : State) (p k : Nat) (c : LoopChan) : (s.setLoop p k c).lowWrites = s.lowWrites := (rfl)
@[simp] theorem State.setLoop_out (s : State) (p k : Nat) (c : LoopChan) : (s.setLoop p k c).out = s.out := (rfl)
@[simp] theorem State.setLoop_opens (s : State) (p k : Nat) (c : LoopChan) : (s.setLoop p k c).opens = s.opens := (rfl)
@[simp] theorem State.setLoop_fabric (s : State) (p k : Nat) (c : LoopChan) : (s.setLoop p k c).fabric = s.fabric := (rfl)
@[simp] theorem State.setLoop_clePosts (s : State) (p k : Nat) (c : LoopChan) : (s.setLoop p k c).clePosts = s.clePosts := (rfl)
@[simp] theorem State.setLoop_res (s : State) (p k : Nat) (c : LoopChan) : (s.setLoop p k c).res = s.res := (rfl)
@[simp] theorem State.setLoop_bootCount (s : State) (p k : Nat) (c : LoopChan) : (s.setLoop p k c).bootCount = s.bootCount := (rfl)
@[simp] theorem State.setLoop_host (s : State) (p k : Nat) (c : LoopChan) : (s.setLoop p k c).host = s.host := (rfl)
@[simp] theorem State.setLoop_lanes (s : State) (p k : Nat) (c : LoopChan) : (s.setLoop p k c).lanes = s.lanes := (rfl)
@[simp] theorem State.setLoop_pair (s : State) (p k : Nat) (c : LoopChan) : (s.setLoop p k c).pair = s.pair := (rfl)
@[simp] theorem State.setLoop_cles (s : State) (p k : Nat) (c : LoopChan) : (s.setLoop p k c).cles = s.cles := (rfl)
@[simp] theorem State.setLoop_oc (s : State) (p k : Nat) (c : LoopChan) : (s.setLoop p k c).oc = s.oc := (rfl)
@[simp] theorem State.setLoop_mems (s : State) (p k : Nat) (c : LoopChan) : (s.setLoop p k c).mems = s.mems := (rfl)
@[simp] theorem State.setLoop_axes (s : State) (p k : Nat) (c : LoopChan) : (s.setLoop p k c).axes = s.axes := (rfl)
@[simp] theorem State.setLoop_buses (s : State) (p k : Nat) (c : LoopChan) : (s.setLoop p k c).buses = s.buses := (rfl)
@[simp] theorem State.setLoop_lines (s : State) (p k : Nat) (c : LoopChan) : (s.setLoop p k c).lines = s.lines := (rfl)
@[simp] theorem State.setLoop_edges (s : State) (p k : Nat) (c : LoopChan) : (s.setLoop p k c).edges = s.edges := (rfl)
@[simp] theorem State.setLoop_beams (s : State) (p k : Nat) (c : LoopChan) : (s.setLoop p k c).beams = s.beams := (rfl)
@[simp] theorem State.setLoop_banks (s : State) (p k : Nat) (c : LoopChan) : (s.setLoop p k c).banks = s.banks := (rfl)
@[simp] theorem State.setLoop_groups (s : State) (p k : Nat) (c : LoopChan) : (s.setLoop p k c).groups = s.groups := (rfl)
@[simp] theorem State.setLoop_loops (s : State) (p k : Nat) (c : LoopChan) :
    (s.setLoop p k c).loops = s.loops.wr {} (8 * (p - 0x4C) + k) c := (rfl)
@[simp] theorem State.setLoop_kerb (s : State) (p k : Nat) (c : LoopChan) : (s.setLoop p k c).kerb = s.kerb := (rfl)
@[simp] theorem State.setLoop_cans (s : State) (p k : Nat) (c : LoopChan) : (s.setLoop p k c).cans = s.cans := (rfl)
@[simp] theorem State.setLoop_safe (s : State) (p k : Nat) (c : LoopChan) : (s.setLoop p k c).safe = s.safe := (rfl)
@[simp] theorem State.setLoop_avenues (s : State) (p k : Nat) (c : LoopChan) : (s.setLoop p k c).avenues = s.avenues := (rfl)
@[simp] theorem State.setLoop_vats (s : State) (p k : Nat) (c : LoopChan) : (s.setLoop p k c).vats = s.vats := (rfl)
@[simp] theorem State.setLoop_dumpStore (s : State) (p k : Nat) (c : LoopChan) : (s.setLoop p k c).dumpStore = s.dumpStore := (rfl)
@[simp] theorem State.setLoop_mgmt (s : State) (p k : Nat) (c : LoopChan) : (s.setLoop p k c).mgmt = s.mgmt := (rfl)
@[simp] theorem State.setLoop_lc (s : State) (p k : Nat) (c : LoopChan) : (s.setLoop p k c).lc = s.lc := (rfl)
@[simp] theorem State.setLoop_power (s : State) (p k : Nat) (c : LoopChan) : (s.setLoop p k c).power = s.power := (rfl)
@[simp] theorem State.setLoop_freeCtr (s : State) (p k : Nat) (c : LoopChan) : (s.setLoop p k c).freeCtr = s.freeCtr := (rfl)
@[simp] theorem State.setLoop_pending (s : State) (p k : Nat) (c : LoopChan) : (s.setLoop p k c).pending = s.pending := (rfl)

/-! State.setEdgeRec. -/

@[simp] theorem State.setEdgeRec_now (s : State) (k : Nat) (e : EdgeRec) : (s.setEdgeRec k e).now = s.now := (rfl)
@[simp] theorem State.setEdgeRec_timeShift (s : State) (k : Nat) (e : EdgeRec) : (s.setEdgeRec k e).timeShift = s.timeShift := (rfl)
@[simp] theorem State.setEdgeRec_clockUnset (s : State) (k : Nat) (e : EdgeRec) : (s.setEdgeRec k e).clockUnset = s.clockUnset := (rfl)
@[simp] theorem State.setEdgeRec_regs (s : State) (k : Nat) (e : EdgeRec) : (s.setEdgeRec k e).regs = s.regs := (rfl)
@[simp] theorem State.setEdgeRec_latched (s : State) (k : Nat) (e : EdgeRec) : (s.setEdgeRec k e).latched = s.latched := (rfl)
@[simp] theorem State.setEdgeRec_lowWrites (s : State) (k : Nat) (e : EdgeRec) : (s.setEdgeRec k e).lowWrites = s.lowWrites := (rfl)
@[simp] theorem State.setEdgeRec_out (s : State) (k : Nat) (e : EdgeRec) : (s.setEdgeRec k e).out = s.out := (rfl)
@[simp] theorem State.setEdgeRec_opens (s : State) (k : Nat) (e : EdgeRec) : (s.setEdgeRec k e).opens = s.opens := (rfl)
@[simp] theorem State.setEdgeRec_fabric (s : State) (k : Nat) (e : EdgeRec) : (s.setEdgeRec k e).fabric = s.fabric := (rfl)
@[simp] theorem State.setEdgeRec_clePosts (s : State) (k : Nat) (e : EdgeRec) : (s.setEdgeRec k e).clePosts = s.clePosts := (rfl)
@[simp] theorem State.setEdgeRec_res (s : State) (k : Nat) (e : EdgeRec) : (s.setEdgeRec k e).res = s.res := (rfl)
@[simp] theorem State.setEdgeRec_bootCount (s : State) (k : Nat) (e : EdgeRec) : (s.setEdgeRec k e).bootCount = s.bootCount := (rfl)
@[simp] theorem State.setEdgeRec_host (s : State) (k : Nat) (e : EdgeRec) : (s.setEdgeRec k e).host = s.host := (rfl)
@[simp] theorem State.setEdgeRec_lanes (s : State) (k : Nat) (e : EdgeRec) : (s.setEdgeRec k e).lanes = s.lanes := (rfl)
@[simp] theorem State.setEdgeRec_pair (s : State) (k : Nat) (e : EdgeRec) : (s.setEdgeRec k e).pair = s.pair := (rfl)
@[simp] theorem State.setEdgeRec_cles (s : State) (k : Nat) (e : EdgeRec) : (s.setEdgeRec k e).cles = s.cles := (rfl)
@[simp] theorem State.setEdgeRec_oc (s : State) (k : Nat) (e : EdgeRec) : (s.setEdgeRec k e).oc = s.oc := (rfl)
@[simp] theorem State.setEdgeRec_mems (s : State) (k : Nat) (e : EdgeRec) : (s.setEdgeRec k e).mems = s.mems := (rfl)
@[simp] theorem State.setEdgeRec_axes (s : State) (k : Nat) (e : EdgeRec) : (s.setEdgeRec k e).axes = s.axes := (rfl)
@[simp] theorem State.setEdgeRec_buses (s : State) (k : Nat) (e : EdgeRec) : (s.setEdgeRec k e).buses = s.buses := (rfl)
@[simp] theorem State.setEdgeRec_lines (s : State) (k : Nat) (e : EdgeRec) : (s.setEdgeRec k e).lines = s.lines := (rfl)
@[simp] theorem State.setEdgeRec_edges (s : State) (k : Nat) (e : EdgeRec) :
    (s.setEdgeRec k e).edges = s.edges.wr {} k e := (rfl)
@[simp] theorem State.setEdgeRec_beams (s : State) (k : Nat) (e : EdgeRec) : (s.setEdgeRec k e).beams = s.beams := (rfl)
@[simp] theorem State.setEdgeRec_banks (s : State) (k : Nat) (e : EdgeRec) : (s.setEdgeRec k e).banks = s.banks := (rfl)
@[simp] theorem State.setEdgeRec_groups (s : State) (k : Nat) (e : EdgeRec) : (s.setEdgeRec k e).groups = s.groups := (rfl)
@[simp] theorem State.setEdgeRec_loops (s : State) (k : Nat) (e : EdgeRec) : (s.setEdgeRec k e).loops = s.loops := (rfl)
@[simp] theorem State.setEdgeRec_kerb (s : State) (k : Nat) (e : EdgeRec) : (s.setEdgeRec k e).kerb = s.kerb := (rfl)
@[simp] theorem State.setEdgeRec_cans (s : State) (k : Nat) (e : EdgeRec) : (s.setEdgeRec k e).cans = s.cans := (rfl)
@[simp] theorem State.setEdgeRec_safe (s : State) (k : Nat) (e : EdgeRec) : (s.setEdgeRec k e).safe = s.safe := (rfl)
@[simp] theorem State.setEdgeRec_avenues (s : State) (k : Nat) (e : EdgeRec) : (s.setEdgeRec k e).avenues = s.avenues := (rfl)
@[simp] theorem State.setEdgeRec_vats (s : State) (k : Nat) (e : EdgeRec) : (s.setEdgeRec k e).vats = s.vats := (rfl)
@[simp] theorem State.setEdgeRec_dumpStore (s : State) (k : Nat) (e : EdgeRec) : (s.setEdgeRec k e).dumpStore = s.dumpStore := (rfl)
@[simp] theorem State.setEdgeRec_mgmt (s : State) (k : Nat) (e : EdgeRec) : (s.setEdgeRec k e).mgmt = s.mgmt := (rfl)
@[simp] theorem State.setEdgeRec_lc (s : State) (k : Nat) (e : EdgeRec) : (s.setEdgeRec k e).lc = s.lc := (rfl)
@[simp] theorem State.setEdgeRec_power (s : State) (k : Nat) (e : EdgeRec) : (s.setEdgeRec k e).power = s.power := (rfl)
@[simp] theorem State.setEdgeRec_freeCtr (s : State) (k : Nat) (e : EdgeRec) : (s.setEdgeRec k e).freeCtr = s.freeCtr := (rfl)
@[simp] theorem State.setEdgeRec_pending (s : State) (k : Nat) (e : EdgeRec) : (s.setEdgeRec k e).pending = s.pending := (rfl)

/-! State.setBeamRec. -/

@[simp] theorem State.setBeamRec_now (s : State) (k : Nat) (b : BeamRec) : (s.setBeamRec k b).now = s.now := (rfl)
@[simp] theorem State.setBeamRec_timeShift (s : State) (k : Nat) (b : BeamRec) : (s.setBeamRec k b).timeShift = s.timeShift := (rfl)
@[simp] theorem State.setBeamRec_clockUnset (s : State) (k : Nat) (b : BeamRec) : (s.setBeamRec k b).clockUnset = s.clockUnset := (rfl)
@[simp] theorem State.setBeamRec_regs (s : State) (k : Nat) (b : BeamRec) : (s.setBeamRec k b).regs = s.regs := (rfl)
@[simp] theorem State.setBeamRec_latched (s : State) (k : Nat) (b : BeamRec) : (s.setBeamRec k b).latched = s.latched := (rfl)
@[simp] theorem State.setBeamRec_lowWrites (s : State) (k : Nat) (b : BeamRec) : (s.setBeamRec k b).lowWrites = s.lowWrites := (rfl)
@[simp] theorem State.setBeamRec_out (s : State) (k : Nat) (b : BeamRec) : (s.setBeamRec k b).out = s.out := (rfl)
@[simp] theorem State.setBeamRec_opens (s : State) (k : Nat) (b : BeamRec) : (s.setBeamRec k b).opens = s.opens := (rfl)
@[simp] theorem State.setBeamRec_fabric (s : State) (k : Nat) (b : BeamRec) : (s.setBeamRec k b).fabric = s.fabric := (rfl)
@[simp] theorem State.setBeamRec_clePosts (s : State) (k : Nat) (b : BeamRec) : (s.setBeamRec k b).clePosts = s.clePosts := (rfl)
@[simp] theorem State.setBeamRec_res (s : State) (k : Nat) (b : BeamRec) : (s.setBeamRec k b).res = s.res := (rfl)
@[simp] theorem State.setBeamRec_bootCount (s : State) (k : Nat) (b : BeamRec) : (s.setBeamRec k b).bootCount = s.bootCount := (rfl)
@[simp] theorem State.setBeamRec_host (s : State) (k : Nat) (b : BeamRec) : (s.setBeamRec k b).host = s.host := (rfl)
@[simp] theorem State.setBeamRec_lanes (s : State) (k : Nat) (b : BeamRec) : (s.setBeamRec k b).lanes = s.lanes := (rfl)
@[simp] theorem State.setBeamRec_pair (s : State) (k : Nat) (b : BeamRec) : (s.setBeamRec k b).pair = s.pair := (rfl)
@[simp] theorem State.setBeamRec_cles (s : State) (k : Nat) (b : BeamRec) : (s.setBeamRec k b).cles = s.cles := (rfl)
@[simp] theorem State.setBeamRec_oc (s : State) (k : Nat) (b : BeamRec) : (s.setBeamRec k b).oc = s.oc := (rfl)
@[simp] theorem State.setBeamRec_mems (s : State) (k : Nat) (b : BeamRec) : (s.setBeamRec k b).mems = s.mems := (rfl)
@[simp] theorem State.setBeamRec_axes (s : State) (k : Nat) (b : BeamRec) : (s.setBeamRec k b).axes = s.axes := (rfl)
@[simp] theorem State.setBeamRec_buses (s : State) (k : Nat) (b : BeamRec) : (s.setBeamRec k b).buses = s.buses := (rfl)
@[simp] theorem State.setBeamRec_lines (s : State) (k : Nat) (b : BeamRec) : (s.setBeamRec k b).lines = s.lines := (rfl)
@[simp] theorem State.setBeamRec_edges (s : State) (k : Nat) (b : BeamRec) : (s.setBeamRec k b).edges = s.edges := (rfl)
@[simp] theorem State.setBeamRec_beams (s : State) (k : Nat) (b : BeamRec) :
    (s.setBeamRec k b).beams = s.beams.wr {} k b := (rfl)
@[simp] theorem State.setBeamRec_banks (s : State) (k : Nat) (b : BeamRec) : (s.setBeamRec k b).banks = s.banks := (rfl)
@[simp] theorem State.setBeamRec_groups (s : State) (k : Nat) (b : BeamRec) : (s.setBeamRec k b).groups = s.groups := (rfl)
@[simp] theorem State.setBeamRec_loops (s : State) (k : Nat) (b : BeamRec) : (s.setBeamRec k b).loops = s.loops := (rfl)
@[simp] theorem State.setBeamRec_kerb (s : State) (k : Nat) (b : BeamRec) : (s.setBeamRec k b).kerb = s.kerb := (rfl)
@[simp] theorem State.setBeamRec_cans (s : State) (k : Nat) (b : BeamRec) : (s.setBeamRec k b).cans = s.cans := (rfl)
@[simp] theorem State.setBeamRec_safe (s : State) (k : Nat) (b : BeamRec) : (s.setBeamRec k b).safe = s.safe := (rfl)
@[simp] theorem State.setBeamRec_avenues (s : State) (k : Nat) (b : BeamRec) : (s.setBeamRec k b).avenues = s.avenues := (rfl)
@[simp] theorem State.setBeamRec_vats (s : State) (k : Nat) (b : BeamRec) : (s.setBeamRec k b).vats = s.vats := (rfl)
@[simp] theorem State.setBeamRec_dumpStore (s : State) (k : Nat) (b : BeamRec) : (s.setBeamRec k b).dumpStore = s.dumpStore := (rfl)
@[simp] theorem State.setBeamRec_mgmt (s : State) (k : Nat) (b : BeamRec) : (s.setBeamRec k b).mgmt = s.mgmt := (rfl)
@[simp] theorem State.setBeamRec_lc (s : State) (k : Nat) (b : BeamRec) : (s.setBeamRec k b).lc = s.lc := (rfl)
@[simp] theorem State.setBeamRec_power (s : State) (k : Nat) (b : BeamRec) : (s.setBeamRec k b).power = s.power := (rfl)
@[simp] theorem State.setBeamRec_freeCtr (s : State) (k : Nat) (b : BeamRec) : (s.setBeamRec k b).freeCtr = s.freeCtr := (rfl)
@[simp] theorem State.setBeamRec_pending (s : State) (k : Nat) (b : BeamRec) : (s.setBeamRec k b).pending = s.pending := (rfl)

/-! State.modSafe. -/

@[simp] theorem State.modSafe_now (s : State) (f : SafeRec → SafeRec) : (s.modSafe f).now = s.now := (rfl)
@[simp] theorem State.modSafe_timeShift (s : State) (f : SafeRec → SafeRec) : (s.modSafe f).timeShift = s.timeShift := (rfl)
@[simp] theorem State.modSafe_clockUnset (s : State) (f : SafeRec → SafeRec) : (s.modSafe f).clockUnset = s.clockUnset := (rfl)
@[simp] theorem State.modSafe_regs (s : State) (f : SafeRec → SafeRec) : (s.modSafe f).regs = s.regs := (rfl)
@[simp] theorem State.modSafe_latched (s : State) (f : SafeRec → SafeRec) : (s.modSafe f).latched = s.latched := (rfl)
@[simp] theorem State.modSafe_lowWrites (s : State) (f : SafeRec → SafeRec) : (s.modSafe f).lowWrites = s.lowWrites := (rfl)
@[simp] theorem State.modSafe_out (s : State) (f : SafeRec → SafeRec) : (s.modSafe f).out = s.out := (rfl)
@[simp] theorem State.modSafe_opens (s : State) (f : SafeRec → SafeRec) : (s.modSafe f).opens = s.opens := (rfl)
@[simp] theorem State.modSafe_fabric (s : State) (f : SafeRec → SafeRec) : (s.modSafe f).fabric = s.fabric := (rfl)
@[simp] theorem State.modSafe_clePosts (s : State) (f : SafeRec → SafeRec) : (s.modSafe f).clePosts = s.clePosts := (rfl)
@[simp] theorem State.modSafe_res (s : State) (f : SafeRec → SafeRec) : (s.modSafe f).res = s.res := (rfl)
@[simp] theorem State.modSafe_bootCount (s : State) (f : SafeRec → SafeRec) : (s.modSafe f).bootCount = s.bootCount := (rfl)
@[simp] theorem State.modSafe_host (s : State) (f : SafeRec → SafeRec) : (s.modSafe f).host = s.host := (rfl)
@[simp] theorem State.modSafe_lanes (s : State) (f : SafeRec → SafeRec) : (s.modSafe f).lanes = s.lanes := (rfl)
@[simp] theorem State.modSafe_pair (s : State) (f : SafeRec → SafeRec) : (s.modSafe f).pair = s.pair := (rfl)
@[simp] theorem State.modSafe_cles (s : State) (f : SafeRec → SafeRec) : (s.modSafe f).cles = s.cles := (rfl)
@[simp] theorem State.modSafe_oc (s : State) (f : SafeRec → SafeRec) : (s.modSafe f).oc = s.oc := (rfl)
@[simp] theorem State.modSafe_mems (s : State) (f : SafeRec → SafeRec) : (s.modSafe f).mems = s.mems := (rfl)
@[simp] theorem State.modSafe_axes (s : State) (f : SafeRec → SafeRec) : (s.modSafe f).axes = s.axes := (rfl)
@[simp] theorem State.modSafe_buses (s : State) (f : SafeRec → SafeRec) : (s.modSafe f).buses = s.buses := (rfl)
@[simp] theorem State.modSafe_lines (s : State) (f : SafeRec → SafeRec) : (s.modSafe f).lines = s.lines := (rfl)
@[simp] theorem State.modSafe_edges (s : State) (f : SafeRec → SafeRec) : (s.modSafe f).edges = s.edges := (rfl)
@[simp] theorem State.modSafe_beams (s : State) (f : SafeRec → SafeRec) : (s.modSafe f).beams = s.beams := (rfl)
@[simp] theorem State.modSafe_banks (s : State) (f : SafeRec → SafeRec) : (s.modSafe f).banks = s.banks := (rfl)
@[simp] theorem State.modSafe_groups (s : State) (f : SafeRec → SafeRec) : (s.modSafe f).groups = s.groups := (rfl)
@[simp] theorem State.modSafe_loops (s : State) (f : SafeRec → SafeRec) : (s.modSafe f).loops = s.loops := (rfl)
@[simp] theorem State.modSafe_kerb (s : State) (f : SafeRec → SafeRec) : (s.modSafe f).kerb = s.kerb := (rfl)
@[simp] theorem State.modSafe_cans (s : State) (f : SafeRec → SafeRec) : (s.modSafe f).cans = s.cans := (rfl)
@[simp] theorem State.modSafe_safe (s : State) (f : SafeRec → SafeRec) :
    (s.modSafe f).safe = f s.safe := (rfl)
@[simp] theorem State.modSafe_avenues (s : State) (f : SafeRec → SafeRec) : (s.modSafe f).avenues = s.avenues := (rfl)
@[simp] theorem State.modSafe_vats (s : State) (f : SafeRec → SafeRec) : (s.modSafe f).vats = s.vats := (rfl)
@[simp] theorem State.modSafe_dumpStore (s : State) (f : SafeRec → SafeRec) : (s.modSafe f).dumpStore = s.dumpStore := (rfl)
@[simp] theorem State.modSafe_mgmt (s : State) (f : SafeRec → SafeRec) : (s.modSafe f).mgmt = s.mgmt := (rfl)
@[simp] theorem State.modSafe_lc (s : State) (f : SafeRec → SafeRec) : (s.modSafe f).lc = s.lc := (rfl)
@[simp] theorem State.modSafe_power (s : State) (f : SafeRec → SafeRec) : (s.modSafe f).power = s.power := (rfl)
@[simp] theorem State.modSafe_freeCtr (s : State) (f : SafeRec → SafeRec) : (s.modSafe f).freeCtr = s.freeCtr := (rfl)
@[simp] theorem State.modSafe_pending (s : State) (f : SafeRec → SafeRec) : (s.modSafe f).pending = s.pending := (rfl)

/-! State.setVat. -/

@[simp] theorem State.setVat_now (s : State) (l : Lane) (v : VatRec) : (s.setVat l v).now = s.now := (rfl)
@[simp] theorem State.setVat_timeShift (s : State) (l : Lane) (v : VatRec) : (s.setVat l v).timeShift = s.timeShift := (rfl)
@[simp] theorem State.setVat_clockUnset (s : State) (l : Lane) (v : VatRec) : (s.setVat l v).clockUnset = s.clockUnset := (rfl)
@[simp] theorem State.setVat_regs (s : State) (l : Lane) (v : VatRec) : (s.setVat l v).regs = s.regs := (rfl)
@[simp] theorem State.setVat_latched (s : State) (l : Lane) (v : VatRec) : (s.setVat l v).latched = s.latched := (rfl)
@[simp] theorem State.setVat_lowWrites (s : State) (l : Lane) (v : VatRec) : (s.setVat l v).lowWrites = s.lowWrites := (rfl)
@[simp] theorem State.setVat_out (s : State) (l : Lane) (v : VatRec) : (s.setVat l v).out = s.out := (rfl)
@[simp] theorem State.setVat_opens (s : State) (l : Lane) (v : VatRec) : (s.setVat l v).opens = s.opens := (rfl)
@[simp] theorem State.setVat_fabric (s : State) (l : Lane) (v : VatRec) : (s.setVat l v).fabric = s.fabric := (rfl)
@[simp] theorem State.setVat_clePosts (s : State) (l : Lane) (v : VatRec) : (s.setVat l v).clePosts = s.clePosts := (rfl)
@[simp] theorem State.setVat_res (s : State) (l : Lane) (v : VatRec) : (s.setVat l v).res = s.res := (rfl)
@[simp] theorem State.setVat_bootCount (s : State) (l : Lane) (v : VatRec) : (s.setVat l v).bootCount = s.bootCount := (rfl)
@[simp] theorem State.setVat_host (s : State) (l : Lane) (v : VatRec) : (s.setVat l v).host = s.host := (rfl)
@[simp] theorem State.setVat_lanes (s : State) (l : Lane) (v : VatRec) : (s.setVat l v).lanes = s.lanes := (rfl)
@[simp] theorem State.setVat_pair (s : State) (l : Lane) (v : VatRec) : (s.setVat l v).pair = s.pair := (rfl)
@[simp] theorem State.setVat_cles (s : State) (l : Lane) (v : VatRec) : (s.setVat l v).cles = s.cles := (rfl)
@[simp] theorem State.setVat_oc (s : State) (l : Lane) (v : VatRec) : (s.setVat l v).oc = s.oc := (rfl)
@[simp] theorem State.setVat_mems (s : State) (l : Lane) (v : VatRec) : (s.setVat l v).mems = s.mems := (rfl)
@[simp] theorem State.setVat_axes (s : State) (l : Lane) (v : VatRec) : (s.setVat l v).axes = s.axes := (rfl)
@[simp] theorem State.setVat_buses (s : State) (l : Lane) (v : VatRec) : (s.setVat l v).buses = s.buses := (rfl)
@[simp] theorem State.setVat_lines (s : State) (l : Lane) (v : VatRec) : (s.setVat l v).lines = s.lines := (rfl)
@[simp] theorem State.setVat_edges (s : State) (l : Lane) (v : VatRec) : (s.setVat l v).edges = s.edges := (rfl)
@[simp] theorem State.setVat_beams (s : State) (l : Lane) (v : VatRec) : (s.setVat l v).beams = s.beams := (rfl)
@[simp] theorem State.setVat_banks (s : State) (l : Lane) (v : VatRec) : (s.setVat l v).banks = s.banks := (rfl)
@[simp] theorem State.setVat_groups (s : State) (l : Lane) (v : VatRec) : (s.setVat l v).groups = s.groups := (rfl)
@[simp] theorem State.setVat_loops (s : State) (l : Lane) (v : VatRec) : (s.setVat l v).loops = s.loops := (rfl)
@[simp] theorem State.setVat_kerb (s : State) (l : Lane) (v : VatRec) : (s.setVat l v).kerb = s.kerb := (rfl)
@[simp] theorem State.setVat_cans (s : State) (l : Lane) (v : VatRec) : (s.setVat l v).cans = s.cans := (rfl)
@[simp] theorem State.setVat_safe (s : State) (l : Lane) (v : VatRec) : (s.setVat l v).safe = s.safe := (rfl)
@[simp] theorem State.setVat_avenues (s : State) (l : Lane) (v : VatRec) : (s.setVat l v).avenues = s.avenues := (rfl)
@[simp] theorem State.setVat_vats (s : State) (l : Lane) (v : VatRec) :
    (s.setVat l v).vats = s.vats.set l v := (rfl)
@[simp] theorem State.setVat_dumpStore (s : State) (l : Lane) (v : VatRec) : (s.setVat l v).dumpStore = s.dumpStore := (rfl)
@[simp] theorem State.setVat_mgmt (s : State) (l : Lane) (v : VatRec) : (s.setVat l v).mgmt = s.mgmt := (rfl)
@[simp] theorem State.setVat_lc (s : State) (l : Lane) (v : VatRec) : (s.setVat l v).lc = s.lc := (rfl)
@[simp] theorem State.setVat_power (s : State) (l : Lane) (v : VatRec) : (s.setVat l v).power = s.power := (rfl)
@[simp] theorem State.setVat_freeCtr (s : State) (l : Lane) (v : VatRec) : (s.setVat l v).freeCtr = s.freeCtr := (rfl)
@[simp] theorem State.setVat_pending (s : State) (l : Lane) (v : VatRec) : (s.setVat l v).pending = s.pending := (rfl)

/-! Setters made of setReg. -/

@[simp] theorem State.setFld_now (s : State) (page : Nat) (f : Field) (v i j : Nat) : (s.setFld page f v i j).now = s.now := (rfl)
@[simp] theorem State.setFld_timeShift (s : State) (page : Nat) (f : Field) (v i j : Nat) : (s.setFld page f v i j).timeShift = s.timeShift := (rfl)
@[simp] theorem State.setFld_clockUnset (s : State) (page : Nat) (f : Field) (v i j : Nat) : (s.setFld page f v i j).clockUnset = s.clockUnset := (rfl)
@[simp] theorem State.setFld_latched (s : State) (page : Nat) (f : Field) (v i j : Nat) : (s.setFld page f v i j).latched = s.latched := (rfl)
@[simp] theorem State.setFld_lowWrites (s : State) (page : Nat) (f : Field) (v i j : Nat) : (s.setFld page f v i j).lowWrites = s.lowWrites := (rfl)
@[simp] theorem State.setFld_out (s : State) (page : Nat) (f : Field) (v i j : Nat) : (s.setFld page f v i j).out = s.out := (rfl)
@[simp] theorem State.setFld_opens (s : State) (page : Nat) (f : Field) (v i j : Nat) : (s.setFld page f v i j).opens = s.opens := (rfl)
@[simp] theorem State.setFld_fabric (s : State) (page : Nat) (f : Field) (v i j : Nat) : (s.setFld page f v i j).fabric = s.fabric := (rfl)
@[simp] theorem State.setFld_clePosts (s : State) (page : Nat) (f : Field) (v i j : Nat) : (s.setFld page f v i j).clePosts = s.clePosts := (rfl)
@[simp] theorem State.setFld_res (s : State) (page : Nat) (f : Field) (v i j : Nat) : (s.setFld page f v i j).res = s.res := (rfl)
@[simp] theorem State.setFld_bootCount (s : State) (page : Nat) (f : Field) (v i j : Nat) : (s.setFld page f v i j).bootCount = s.bootCount := (rfl)
@[simp] theorem State.setFld_host (s : State) (page : Nat) (f : Field) (v i j : Nat) : (s.setFld page f v i j).host = s.host := (rfl)
@[simp] theorem State.setFld_lanes (s : State) (page : Nat) (f : Field) (v i j : Nat) : (s.setFld page f v i j).lanes = s.lanes := (rfl)
@[simp] theorem State.setFld_pair (s : State) (page : Nat) (f : Field) (v i j : Nat) : (s.setFld page f v i j).pair = s.pair := (rfl)
@[simp] theorem State.setFld_cles (s : State) (page : Nat) (f : Field) (v i j : Nat) : (s.setFld page f v i j).cles = s.cles := (rfl)
@[simp] theorem State.setFld_oc (s : State) (page : Nat) (f : Field) (v i j : Nat) : (s.setFld page f v i j).oc = s.oc := (rfl)
@[simp] theorem State.setFld_mems (s : State) (page : Nat) (f : Field) (v i j : Nat) : (s.setFld page f v i j).mems = s.mems := (rfl)
@[simp] theorem State.setFld_axes (s : State) (page : Nat) (f : Field) (v i j : Nat) : (s.setFld page f v i j).axes = s.axes := (rfl)
@[simp] theorem State.setFld_buses (s : State) (page : Nat) (f : Field) (v i j : Nat) : (s.setFld page f v i j).buses = s.buses := (rfl)
@[simp] theorem State.setFld_lines (s : State) (page : Nat) (f : Field) (v i j : Nat) : (s.setFld page f v i j).lines = s.lines := (rfl)
@[simp] theorem State.setFld_edges (s : State) (page : Nat) (f : Field) (v i j : Nat) : (s.setFld page f v i j).edges = s.edges := (rfl)
@[simp] theorem State.setFld_beams (s : State) (page : Nat) (f : Field) (v i j : Nat) : (s.setFld page f v i j).beams = s.beams := (rfl)
@[simp] theorem State.setFld_banks (s : State) (page : Nat) (f : Field) (v i j : Nat) : (s.setFld page f v i j).banks = s.banks := (rfl)
@[simp] theorem State.setFld_groups (s : State) (page : Nat) (f : Field) (v i j : Nat) : (s.setFld page f v i j).groups = s.groups := (rfl)
@[simp] theorem State.setFld_loops (s : State) (page : Nat) (f : Field) (v i j : Nat) : (s.setFld page f v i j).loops = s.loops := (rfl)
@[simp] theorem State.setFld_kerb (s : State) (page : Nat) (f : Field) (v i j : Nat) : (s.setFld page f v i j).kerb = s.kerb := (rfl)
@[simp] theorem State.setFld_cans (s : State) (page : Nat) (f : Field) (v i j : Nat) : (s.setFld page f v i j).cans = s.cans := (rfl)
@[simp] theorem State.setFld_safe (s : State) (page : Nat) (f : Field) (v i j : Nat) : (s.setFld page f v i j).safe = s.safe := (rfl)
@[simp] theorem State.setFld_avenues (s : State) (page : Nat) (f : Field) (v i j : Nat) : (s.setFld page f v i j).avenues = s.avenues := (rfl)
@[simp] theorem State.setFld_vats (s : State) (page : Nat) (f : Field) (v i j : Nat) : (s.setFld page f v i j).vats = s.vats := (rfl)
@[simp] theorem State.setFld_dumpStore (s : State) (page : Nat) (f : Field) (v i j : Nat) : (s.setFld page f v i j).dumpStore = s.dumpStore := (rfl)
@[simp] theorem State.setFld_mgmt (s : State) (page : Nat) (f : Field) (v i j : Nat) : (s.setFld page f v i j).mgmt = s.mgmt := (rfl)
@[simp] theorem State.setFld_lc (s : State) (page : Nat) (f : Field) (v i j : Nat) : (s.setFld page f v i j).lc = s.lc := (rfl)
@[simp] theorem State.setFld_power (s : State) (page : Nat) (f : Field) (v i j : Nat) : (s.setFld page f v i j).power = s.power := (rfl)
@[simp] theorem State.setFld_freeCtr (s : State) (page : Nat) (f : Field) (v i j : Nat) : (s.setFld page f v i j).freeCtr = s.freeCtr := (rfl)
@[simp] theorem State.setFld_pending (s : State) (page : Nat) (f : Field) (v i j : Nat) : (s.setFld page f v i j).pending = s.pending := (rfl)

@[simp] theorem State.setSfld_now (s : State) (page : Nat) (f : Field) (v : Int) (i j : Nat) : (s.setSfld page f v i j).now = s.now := (rfl)
@[simp] theorem State.setSfld_timeShift (s : State) (page : Nat) (f : Field) (v : Int) (i j : Nat) : (s.setSfld page f v i j).timeShift = s.timeShift := (rfl)
@[simp] theorem State.setSfld_clockUnset (s : State) (page : Nat) (f : Field) (v : Int) (i j : Nat) : (s.setSfld page f v i j).clockUnset = s.clockUnset := (rfl)
@[simp] theorem State.setSfld_latched (s : State) (page : Nat) (f : Field) (v : Int) (i j : Nat) : (s.setSfld page f v i j).latched = s.latched := (rfl)
@[simp] theorem State.setSfld_lowWrites (s : State) (page : Nat) (f : Field) (v : Int) (i j : Nat) : (s.setSfld page f v i j).lowWrites = s.lowWrites := (rfl)
@[simp] theorem State.setSfld_out (s : State) (page : Nat) (f : Field) (v : Int) (i j : Nat) : (s.setSfld page f v i j).out = s.out := (rfl)
@[simp] theorem State.setSfld_opens (s : State) (page : Nat) (f : Field) (v : Int) (i j : Nat) : (s.setSfld page f v i j).opens = s.opens := (rfl)
@[simp] theorem State.setSfld_fabric (s : State) (page : Nat) (f : Field) (v : Int) (i j : Nat) : (s.setSfld page f v i j).fabric = s.fabric := (rfl)
@[simp] theorem State.setSfld_clePosts (s : State) (page : Nat) (f : Field) (v : Int) (i j : Nat) : (s.setSfld page f v i j).clePosts = s.clePosts := (rfl)
@[simp] theorem State.setSfld_res (s : State) (page : Nat) (f : Field) (v : Int) (i j : Nat) : (s.setSfld page f v i j).res = s.res := (rfl)
@[simp] theorem State.setSfld_bootCount (s : State) (page : Nat) (f : Field) (v : Int) (i j : Nat) : (s.setSfld page f v i j).bootCount = s.bootCount := (rfl)
@[simp] theorem State.setSfld_host (s : State) (page : Nat) (f : Field) (v : Int) (i j : Nat) : (s.setSfld page f v i j).host = s.host := (rfl)
@[simp] theorem State.setSfld_lanes (s : State) (page : Nat) (f : Field) (v : Int) (i j : Nat) : (s.setSfld page f v i j).lanes = s.lanes := (rfl)
@[simp] theorem State.setSfld_pair (s : State) (page : Nat) (f : Field) (v : Int) (i j : Nat) : (s.setSfld page f v i j).pair = s.pair := (rfl)
@[simp] theorem State.setSfld_cles (s : State) (page : Nat) (f : Field) (v : Int) (i j : Nat) : (s.setSfld page f v i j).cles = s.cles := (rfl)
@[simp] theorem State.setSfld_oc (s : State) (page : Nat) (f : Field) (v : Int) (i j : Nat) : (s.setSfld page f v i j).oc = s.oc := (rfl)
@[simp] theorem State.setSfld_mems (s : State) (page : Nat) (f : Field) (v : Int) (i j : Nat) : (s.setSfld page f v i j).mems = s.mems := (rfl)
@[simp] theorem State.setSfld_axes (s : State) (page : Nat) (f : Field) (v : Int) (i j : Nat) : (s.setSfld page f v i j).axes = s.axes := (rfl)
@[simp] theorem State.setSfld_buses (s : State) (page : Nat) (f : Field) (v : Int) (i j : Nat) : (s.setSfld page f v i j).buses = s.buses := (rfl)
@[simp] theorem State.setSfld_lines (s : State) (page : Nat) (f : Field) (v : Int) (i j : Nat) : (s.setSfld page f v i j).lines = s.lines := (rfl)
@[simp] theorem State.setSfld_edges (s : State) (page : Nat) (f : Field) (v : Int) (i j : Nat) : (s.setSfld page f v i j).edges = s.edges := (rfl)
@[simp] theorem State.setSfld_beams (s : State) (page : Nat) (f : Field) (v : Int) (i j : Nat) : (s.setSfld page f v i j).beams = s.beams := (rfl)
@[simp] theorem State.setSfld_banks (s : State) (page : Nat) (f : Field) (v : Int) (i j : Nat) : (s.setSfld page f v i j).banks = s.banks := (rfl)
@[simp] theorem State.setSfld_groups (s : State) (page : Nat) (f : Field) (v : Int) (i j : Nat) : (s.setSfld page f v i j).groups = s.groups := (rfl)
@[simp] theorem State.setSfld_loops (s : State) (page : Nat) (f : Field) (v : Int) (i j : Nat) : (s.setSfld page f v i j).loops = s.loops := (rfl)
@[simp] theorem State.setSfld_kerb (s : State) (page : Nat) (f : Field) (v : Int) (i j : Nat) : (s.setSfld page f v i j).kerb = s.kerb := (rfl)
@[simp] theorem State.setSfld_cans (s : State) (page : Nat) (f : Field) (v : Int) (i j : Nat) : (s.setSfld page f v i j).cans = s.cans := (rfl)
@[simp] theorem State.setSfld_safe (s : State) (page : Nat) (f : Field) (v : Int) (i j : Nat) : (s.setSfld page f v i j).safe = s.safe := (rfl)
@[simp] theorem State.setSfld_avenues (s : State) (page : Nat) (f : Field) (v : Int) (i j : Nat) : (s.setSfld page f v i j).avenues = s.avenues := (rfl)
@[simp] theorem State.setSfld_vats (s : State) (page : Nat) (f : Field) (v : Int) (i j : Nat) : (s.setSfld page f v i j).vats = s.vats := (rfl)
@[simp] theorem State.setSfld_dumpStore (s : State) (page : Nat) (f : Field) (v : Int) (i j : Nat) : (s.setSfld page f v i j).dumpStore = s.dumpStore := (rfl)
@[simp] theorem State.setSfld_mgmt (s : State) (page : Nat) (f : Field) (v : Int) (i j : Nat) : (s.setSfld page f v i j).mgmt = s.mgmt := (rfl)
@[simp] theorem State.setSfld_lc (s : State) (page : Nat) (f : Field) (v : Int) (i j : Nat) : (s.setSfld page f v i j).lc = s.lc := (rfl)
@[simp] theorem State.setSfld_power (s : State) (page : Nat) (f : Field) (v : Int) (i j : Nat) : (s.setSfld page f v i j).power = s.power := (rfl)
@[simp] theorem State.setSfld_freeCtr (s : State) (page : Nat) (f : Field) (v : Int) (i j : Nat) : (s.setSfld page f v i j).freeCtr = s.freeCtr := (rfl)
@[simp] theorem State.setSfld_pending (s : State) (page : Nat) (f : Field) (v : Int) (i j : Nat) : (s.setSfld page f v i j).pending = s.pending := (rfl)

@[simp] theorem State.bump_now (s : State) (page : Nat) (f : Field) (i j n : Nat) : (s.bump page f i j n).now = s.now := (rfl)
@[simp] theorem State.bump_timeShift (s : State) (page : Nat) (f : Field) (i j n : Nat) : (s.bump page f i j n).timeShift = s.timeShift := (rfl)
@[simp] theorem State.bump_clockUnset (s : State) (page : Nat) (f : Field) (i j n : Nat) : (s.bump page f i j n).clockUnset = s.clockUnset := (rfl)
@[simp] theorem State.bump_latched (s : State) (page : Nat) (f : Field) (i j n : Nat) : (s.bump page f i j n).latched = s.latched := (rfl)
@[simp] theorem State.bump_lowWrites (s : State) (page : Nat) (f : Field) (i j n : Nat) : (s.bump page f i j n).lowWrites = s.lowWrites := (rfl)
@[simp] theorem State.bump_out (s : State) (page : Nat) (f : Field) (i j n : Nat) : (s.bump page f i j n).out = s.out := (rfl)
@[simp] theorem State.bump_opens (s : State) (page : Nat) (f : Field) (i j n : Nat) : (s.bump page f i j n).opens = s.opens := (rfl)
@[simp] theorem State.bump_fabric (s : State) (page : Nat) (f : Field) (i j n : Nat) : (s.bump page f i j n).fabric = s.fabric := (rfl)
@[simp] theorem State.bump_clePosts (s : State) (page : Nat) (f : Field) (i j n : Nat) : (s.bump page f i j n).clePosts = s.clePosts := (rfl)
@[simp] theorem State.bump_res (s : State) (page : Nat) (f : Field) (i j n : Nat) : (s.bump page f i j n).res = s.res := (rfl)
@[simp] theorem State.bump_bootCount (s : State) (page : Nat) (f : Field) (i j n : Nat) : (s.bump page f i j n).bootCount = s.bootCount := (rfl)
@[simp] theorem State.bump_host (s : State) (page : Nat) (f : Field) (i j n : Nat) : (s.bump page f i j n).host = s.host := (rfl)
@[simp] theorem State.bump_lanes (s : State) (page : Nat) (f : Field) (i j n : Nat) : (s.bump page f i j n).lanes = s.lanes := (rfl)
@[simp] theorem State.bump_pair (s : State) (page : Nat) (f : Field) (i j n : Nat) : (s.bump page f i j n).pair = s.pair := (rfl)
@[simp] theorem State.bump_cles (s : State) (page : Nat) (f : Field) (i j n : Nat) : (s.bump page f i j n).cles = s.cles := (rfl)
@[simp] theorem State.bump_oc (s : State) (page : Nat) (f : Field) (i j n : Nat) : (s.bump page f i j n).oc = s.oc := (rfl)
@[simp] theorem State.bump_mems (s : State) (page : Nat) (f : Field) (i j n : Nat) : (s.bump page f i j n).mems = s.mems := (rfl)
@[simp] theorem State.bump_axes (s : State) (page : Nat) (f : Field) (i j n : Nat) : (s.bump page f i j n).axes = s.axes := (rfl)
@[simp] theorem State.bump_buses (s : State) (page : Nat) (f : Field) (i j n : Nat) : (s.bump page f i j n).buses = s.buses := (rfl)
@[simp] theorem State.bump_lines (s : State) (page : Nat) (f : Field) (i j n : Nat) : (s.bump page f i j n).lines = s.lines := (rfl)
@[simp] theorem State.bump_edges (s : State) (page : Nat) (f : Field) (i j n : Nat) : (s.bump page f i j n).edges = s.edges := (rfl)
@[simp] theorem State.bump_beams (s : State) (page : Nat) (f : Field) (i j n : Nat) : (s.bump page f i j n).beams = s.beams := (rfl)
@[simp] theorem State.bump_banks (s : State) (page : Nat) (f : Field) (i j n : Nat) : (s.bump page f i j n).banks = s.banks := (rfl)
@[simp] theorem State.bump_groups (s : State) (page : Nat) (f : Field) (i j n : Nat) : (s.bump page f i j n).groups = s.groups := (rfl)
@[simp] theorem State.bump_loops (s : State) (page : Nat) (f : Field) (i j n : Nat) : (s.bump page f i j n).loops = s.loops := (rfl)
@[simp] theorem State.bump_kerb (s : State) (page : Nat) (f : Field) (i j n : Nat) : (s.bump page f i j n).kerb = s.kerb := (rfl)
@[simp] theorem State.bump_cans (s : State) (page : Nat) (f : Field) (i j n : Nat) : (s.bump page f i j n).cans = s.cans := (rfl)
@[simp] theorem State.bump_safe (s : State) (page : Nat) (f : Field) (i j n : Nat) : (s.bump page f i j n).safe = s.safe := (rfl)
@[simp] theorem State.bump_avenues (s : State) (page : Nat) (f : Field) (i j n : Nat) : (s.bump page f i j n).avenues = s.avenues := (rfl)
@[simp] theorem State.bump_vats (s : State) (page : Nat) (f : Field) (i j n : Nat) : (s.bump page f i j n).vats = s.vats := (rfl)
@[simp] theorem State.bump_dumpStore (s : State) (page : Nat) (f : Field) (i j n : Nat) : (s.bump page f i j n).dumpStore = s.dumpStore := (rfl)
@[simp] theorem State.bump_mgmt (s : State) (page : Nat) (f : Field) (i j n : Nat) : (s.bump page f i j n).mgmt = s.mgmt := (rfl)
@[simp] theorem State.bump_lc (s : State) (page : Nat) (f : Field) (i j n : Nat) : (s.bump page f i j n).lc = s.lc := (rfl)
@[simp] theorem State.bump_power (s : State) (page : Nat) (f : Field) (i j n : Nat) : (s.bump page f i j n).power = s.power := (rfl)
@[simp] theorem State.bump_freeCtr (s : State) (page : Nat) (f : Field) (i j n : Nat) : (s.bump page f i j n).freeCtr = s.freeCtr := (rfl)
@[simp] theorem State.bump_pending (s : State) (page : Nat) (f : Field) (i j n : Nat) : (s.bump page f i j n).pending = s.pending := (rfl)

@[simp] theorem State.setFld64_now (s : State) (page : Nat) (f : Field) (v i : Nat) : (s.setFld64 page f v i).now = s.now := (rfl)
@[simp] theorem State.setFld64_timeShift (s : State) (page : Nat) (f : Field) (v i : Nat) : (s.setFld64 page f v i).timeShift = s.timeShift := (rfl)
@[simp] theorem State.setFld64_clockUnset (s : State) (page : Nat) (f : Field) (v i : Nat) : (s.setFld64 page f v i).clockUnset = s.clockUnset := (rfl)
@[simp] theorem State.setFld64_latched (s : State) (page : Nat) (f : Field) (v i : Nat) : (s.setFld64 page f v i).latched = s.latched := (rfl)
@[simp] theorem State.setFld64_lowWrites (s : State) (page : Nat) (f : Field) (v i : Nat) : (s.setFld64 page f v i).lowWrites = s.lowWrites := (rfl)
@[simp] theorem State.setFld64_out (s : State) (page : Nat) (f : Field) (v i : Nat) : (s.setFld64 page f v i).out = s.out := (rfl)
@[simp] theorem State.setFld64_opens (s : State) (page : Nat) (f : Field) (v i : Nat) : (s.setFld64 page f v i).opens = s.opens := (rfl)
@[simp] theorem State.setFld64_fabric (s : State) (page : Nat) (f : Field) (v i : Nat) : (s.setFld64 page f v i).fabric = s.fabric := (rfl)
@[simp] theorem State.setFld64_clePosts (s : State) (page : Nat) (f : Field) (v i : Nat) : (s.setFld64 page f v i).clePosts = s.clePosts := (rfl)
@[simp] theorem State.setFld64_res (s : State) (page : Nat) (f : Field) (v i : Nat) : (s.setFld64 page f v i).res = s.res := (rfl)
@[simp] theorem State.setFld64_bootCount (s : State) (page : Nat) (f : Field) (v i : Nat) : (s.setFld64 page f v i).bootCount = s.bootCount := (rfl)
@[simp] theorem State.setFld64_host (s : State) (page : Nat) (f : Field) (v i : Nat) : (s.setFld64 page f v i).host = s.host := (rfl)
@[simp] theorem State.setFld64_lanes (s : State) (page : Nat) (f : Field) (v i : Nat) : (s.setFld64 page f v i).lanes = s.lanes := (rfl)
@[simp] theorem State.setFld64_pair (s : State) (page : Nat) (f : Field) (v i : Nat) : (s.setFld64 page f v i).pair = s.pair := (rfl)
@[simp] theorem State.setFld64_cles (s : State) (page : Nat) (f : Field) (v i : Nat) : (s.setFld64 page f v i).cles = s.cles := (rfl)
@[simp] theorem State.setFld64_oc (s : State) (page : Nat) (f : Field) (v i : Nat) : (s.setFld64 page f v i).oc = s.oc := (rfl)
@[simp] theorem State.setFld64_mems (s : State) (page : Nat) (f : Field) (v i : Nat) : (s.setFld64 page f v i).mems = s.mems := (rfl)
@[simp] theorem State.setFld64_axes (s : State) (page : Nat) (f : Field) (v i : Nat) : (s.setFld64 page f v i).axes = s.axes := (rfl)
@[simp] theorem State.setFld64_buses (s : State) (page : Nat) (f : Field) (v i : Nat) : (s.setFld64 page f v i).buses = s.buses := (rfl)
@[simp] theorem State.setFld64_lines (s : State) (page : Nat) (f : Field) (v i : Nat) : (s.setFld64 page f v i).lines = s.lines := (rfl)
@[simp] theorem State.setFld64_edges (s : State) (page : Nat) (f : Field) (v i : Nat) : (s.setFld64 page f v i).edges = s.edges := (rfl)
@[simp] theorem State.setFld64_beams (s : State) (page : Nat) (f : Field) (v i : Nat) : (s.setFld64 page f v i).beams = s.beams := (rfl)
@[simp] theorem State.setFld64_banks (s : State) (page : Nat) (f : Field) (v i : Nat) : (s.setFld64 page f v i).banks = s.banks := (rfl)
@[simp] theorem State.setFld64_groups (s : State) (page : Nat) (f : Field) (v i : Nat) : (s.setFld64 page f v i).groups = s.groups := (rfl)
@[simp] theorem State.setFld64_loops (s : State) (page : Nat) (f : Field) (v i : Nat) : (s.setFld64 page f v i).loops = s.loops := (rfl)
@[simp] theorem State.setFld64_kerb (s : State) (page : Nat) (f : Field) (v i : Nat) : (s.setFld64 page f v i).kerb = s.kerb := (rfl)
@[simp] theorem State.setFld64_cans (s : State) (page : Nat) (f : Field) (v i : Nat) : (s.setFld64 page f v i).cans = s.cans := (rfl)
@[simp] theorem State.setFld64_safe (s : State) (page : Nat) (f : Field) (v i : Nat) : (s.setFld64 page f v i).safe = s.safe := (rfl)
@[simp] theorem State.setFld64_avenues (s : State) (page : Nat) (f : Field) (v i : Nat) : (s.setFld64 page f v i).avenues = s.avenues := (rfl)
@[simp] theorem State.setFld64_vats (s : State) (page : Nat) (f : Field) (v i : Nat) : (s.setFld64 page f v i).vats = s.vats := (rfl)
@[simp] theorem State.setFld64_dumpStore (s : State) (page : Nat) (f : Field) (v i : Nat) : (s.setFld64 page f v i).dumpStore = s.dumpStore := (rfl)
@[simp] theorem State.setFld64_mgmt (s : State) (page : Nat) (f : Field) (v i : Nat) : (s.setFld64 page f v i).mgmt = s.mgmt := (rfl)
@[simp] theorem State.setFld64_lc (s : State) (page : Nat) (f : Field) (v i : Nat) : (s.setFld64 page f v i).lc = s.lc := (rfl)
@[simp] theorem State.setFld64_power (s : State) (page : Nat) (f : Field) (v i : Nat) : (s.setFld64 page f v i).power = s.power := (rfl)
@[simp] theorem State.setFld64_freeCtr (s : State) (page : Nat) (f : Field) (v i : Nat) : (s.setFld64 page f v i).freeCtr = s.freeCtr := (rfl)
@[simp] theorem State.setFld64_pending (s : State) (page : Nat) (f : Field) (v i : Nat) : (s.setFld64 page f v i).pending = s.pending := (rfl)

@[simp] theorem State.setPstate_now (s : State) (page v : Nat) : (s.setPstate page v).now = s.now := (rfl)
@[simp] theorem State.setPstate_timeShift (s : State) (page v : Nat) : (s.setPstate page v).timeShift = s.timeShift := (rfl)
@[simp] theorem State.setPstate_clockUnset (s : State) (page v : Nat) : (s.setPstate page v).clockUnset = s.clockUnset := (rfl)
@[simp] theorem State.setPstate_latched (s : State) (page v : Nat) : (s.setPstate page v).latched = s.latched := (rfl)
@[simp] theorem State.setPstate_lowWrites (s : State) (page v : Nat) : (s.setPstate page v).lowWrites = s.lowWrites := (rfl)
@[simp] theorem State.setPstate_out (s : State) (page v : Nat) : (s.setPstate page v).out = s.out := (rfl)
@[simp] theorem State.setPstate_opens (s : State) (page v : Nat) : (s.setPstate page v).opens = s.opens := (rfl)
@[simp] theorem State.setPstate_fabric (s : State) (page v : Nat) : (s.setPstate page v).fabric = s.fabric := (rfl)
@[simp] theorem State.setPstate_clePosts (s : State) (page v : Nat) : (s.setPstate page v).clePosts = s.clePosts := (rfl)
@[simp] theorem State.setPstate_res (s : State) (page v : Nat) : (s.setPstate page v).res = s.res := (rfl)
@[simp] theorem State.setPstate_bootCount (s : State) (page v : Nat) : (s.setPstate page v).bootCount = s.bootCount := (rfl)
@[simp] theorem State.setPstate_host (s : State) (page v : Nat) : (s.setPstate page v).host = s.host := (rfl)
@[simp] theorem State.setPstate_lanes (s : State) (page v : Nat) : (s.setPstate page v).lanes = s.lanes := (rfl)
@[simp] theorem State.setPstate_pair (s : State) (page v : Nat) : (s.setPstate page v).pair = s.pair := (rfl)
@[simp] theorem State.setPstate_cles (s : State) (page v : Nat) : (s.setPstate page v).cles = s.cles := (rfl)
@[simp] theorem State.setPstate_oc (s : State) (page v : Nat) : (s.setPstate page v).oc = s.oc := (rfl)
@[simp] theorem State.setPstate_mems (s : State) (page v : Nat) : (s.setPstate page v).mems = s.mems := (rfl)
@[simp] theorem State.setPstate_axes (s : State) (page v : Nat) : (s.setPstate page v).axes = s.axes := (rfl)
@[simp] theorem State.setPstate_buses (s : State) (page v : Nat) : (s.setPstate page v).buses = s.buses := (rfl)
@[simp] theorem State.setPstate_lines (s : State) (page v : Nat) : (s.setPstate page v).lines = s.lines := (rfl)
@[simp] theorem State.setPstate_edges (s : State) (page v : Nat) : (s.setPstate page v).edges = s.edges := (rfl)
@[simp] theorem State.setPstate_beams (s : State) (page v : Nat) : (s.setPstate page v).beams = s.beams := (rfl)
@[simp] theorem State.setPstate_banks (s : State) (page v : Nat) : (s.setPstate page v).banks = s.banks := (rfl)
@[simp] theorem State.setPstate_groups (s : State) (page v : Nat) : (s.setPstate page v).groups = s.groups := (rfl)
@[simp] theorem State.setPstate_loops (s : State) (page v : Nat) : (s.setPstate page v).loops = s.loops := (rfl)
@[simp] theorem State.setPstate_kerb (s : State) (page v : Nat) : (s.setPstate page v).kerb = s.kerb := (rfl)
@[simp] theorem State.setPstate_cans (s : State) (page v : Nat) : (s.setPstate page v).cans = s.cans := (rfl)
@[simp] theorem State.setPstate_safe (s : State) (page v : Nat) : (s.setPstate page v).safe = s.safe := (rfl)
@[simp] theorem State.setPstate_avenues (s : State) (page v : Nat) : (s.setPstate page v).avenues = s.avenues := (rfl)
@[simp] theorem State.setPstate_vats (s : State) (page v : Nat) : (s.setPstate page v).vats = s.vats := (rfl)
@[simp] theorem State.setPstate_dumpStore (s : State) (page v : Nat) : (s.setPstate page v).dumpStore = s.dumpStore := (rfl)
@[simp] theorem State.setPstate_mgmt (s : State) (page v : Nat) : (s.setPstate page v).mgmt = s.mgmt := (rfl)
@[simp] theorem State.setPstate_lc (s : State) (page v : Nat) : (s.setPstate page v).lc = s.lc := (rfl)
@[simp] theorem State.setPstate_power (s : State) (page v : Nat) : (s.setPstate page v).power = s.power := (rfl)
@[simp] theorem State.setPstate_freeCtr (s : State) (page v : Nat) : (s.setPstate page v).freeCtr = s.freeCtr := (rfl)
@[simp] theorem State.setPstate_pending (s : State) (page v : Nat) : (s.setPstate page v).pending = s.pending := (rfl)

/-! Registers. -/

theorem State.reg_setReg (s : State) (page off page' off' bank bank' : Nat) (w : Word) :
    (s.setReg page off w bank).reg page' off' bank' =
      if Reg.key page' off' bank' = Reg.key page off bank then w else s.reg page' off' bank' := by
  simp only [State.reg, State.setReg, Sparse.get_set]

/-- A register written is read back. -/
@[simp] theorem State.reg_setReg_same (s : State) (page off bank : Nat) (w : Word) :
    (s.setReg page off w bank).reg page off bank = w := by
  rw [State.reg_setReg, if_pos rfl]

/-- A register of another page, offset or bank is not changed by a write. -/
theorem State.reg_setReg_of_ne (s : State) (page off page' off' bank bank' : Nat) (w : Word)
    (h : Reg.key page' off' bank' ≠ Reg.key page off bank) :
    (s.setReg page off w bank).reg page' off' bank' = s.reg page' off' bank' := by
  rw [State.reg_setReg, if_neg h]

/-- Different pages keep their registers under different keys. -/
theorem Reg.key_ne_of_page {page page' off off' bank bank' : Nat} (hp : page ≠ page') (ho : off < 4096) (ho' : off' < 4096)
    (hb : bank < 8) (hb' : bank' < 8) : Reg.key page' off' bank' ≠ Reg.key page off bank := by
  unfold Reg.key; omega

/-- Different offsets of a page have different keys. -/
theorem Reg.key_ne_of_off {page off off' bank bank' : Nat} (ho : off ≠ off') (hb : bank < 8) (hb' : bank' < 8) :
    Reg.key page off' bank' ≠ Reg.key page off bank := by
  unfold Reg.key; omega

/-- A field written reads as the low bits of its value. -/
theorem bitsOf_putBits (w : Word) (hi lo v : Nat) (h : lo ≤ hi) (h32 : hi < 32) :
    bitsOf (putBits w hi lo v) hi lo = v % 2 ^ (hi + 1 - lo) := by
  have hw := w.isLt
  have hl := Nat.mod_lt w.toNat (Nat.two_pow_pos lo)
  have hv := Nat.mod_lt v (Nat.two_pow_pos (hi + 1 - lo))
  have hs : 2 ^ (hi + 1) = 2 ^ lo * 2 ^ (hi + 1 - lo) := by rw [← Nat.pow_add]; congr 1; omega
  have ht : 2 ^ 32 = 2 ^ (hi + 1) * 2 ^ (31 - hi) := by rw [← Nat.pow_add]; congr 1; omega
  have hq : w.toNat / 2 ^ (hi + 1) < 2 ^ (31 - hi) :=
    Nat.div_lt_of_lt_mul (by rw [← ht]; exact hw)
  generalize hx : w.toNat / 2 ^ (hi + 1) = x at hq
  generalize hy : w.toNat % 2 ^ lo = y at hl
  generalize hz : v % 2 ^ (hi + 1 - lo) = z at hv
  have key : y + z * 2 ^ lo + x * 2 ^ (hi + 1) = y + 2 ^ lo * (z + x * 2 ^ (hi + 1 - lo)) := by
    rw [hs, Nat.mul_add]; ac_rfl
  have hlt : y + z * 2 ^ lo + x * 2 ^ (hi + 1) < 2 ^ 32 := by
    have h1 : z + x * 2 ^ (hi + 1 - lo) < 2 ^ (hi + 1 - lo) * 2 ^ (31 - hi) := by
      calc z + x * 2 ^ (hi + 1 - lo) < (x + 1) * 2 ^ (hi + 1 - lo) := by rw [Nat.add_mul]; omega
        _ ≤ 2 ^ (31 - hi) * 2 ^ (hi + 1 - lo) := Nat.mul_le_mul_right _ hq
        _ = _ := Nat.mul_comm _ _
    have h2 : y + 2 ^ lo * (z + x * 2 ^ (hi + 1 - lo)) < 2 ^ lo * (z + x * 2 ^ (hi + 1 - lo) + 1) := by
      have e : 2 ^ lo * (z + x * 2 ^ (hi + 1 - lo) + 1) = 2 ^ lo * (z + x * 2 ^ (hi + 1 - lo)) + 2 ^ lo := Nat.mul_succ _ _
      rw [e]; omega
    have h3 : 2 ^ lo * (z + x * 2 ^ (hi + 1 - lo) + 1) ≤ 2 ^ lo * (2 ^ (hi + 1 - lo) * 2 ^ (31 - hi)) :=
      Nat.mul_le_mul_left _ h1
    rw [key, ht, hs]
    calc _ < _ := h2
      _ ≤ _ := h3
      _ = _ := by ac_rfl
  unfold bitsOf putBits
  rw [hx, hy, hz, BitVec.toNat_ofNat, Nat.mod_eq_of_lt hlt, key, Nat.add_mul_div_left _ _ (Nat.two_pow_pos lo),
    Nat.div_eq_of_lt hl, Nat.zero_add, Nat.add_mul_mod_self_right, Nat.mod_eq_of_lt hv]

/-- A field of a page written is read back, cut to its width. -/
theorem State.fld_setFld_same (s : State) (page : Nat) (f : Field) (v i j : Nat) (h : f.lo ≤ f.hi) (h32 : f.hi < 32) :
    (s.setFld page f v i j).fld page f i j = v % 2 ^ (f.hi + 1 - f.lo) := by
  unfold State.setFld State.fld
  rw [State.reg_setReg_same, bitsOf_putBits _ _ _ _ h h32]

/-- A field at another key is not changed by a field written. -/
theorem State.fld_setFld_of_ne (s : State) (page page' : Nat) (f f' : Field) (v i j i' j' : Nat)
    (h : Reg.key page' (f'.pos i' j') 0 ≠ Reg.key page (f.pos i j) 0) :
    (s.setFld page f v i j).fld page' f' i' j' = s.fld page' f' i' j' := by
  unfold State.setFld State.fld
  rw [State.reg_setReg_of_ne _ _ _ _ _ _ _ _ h]

/-- Registers written keep the canonical form. -/
theorem State.canonical_setReg (s : State) (page off bank : Nat) (w : Word) (h : Sparse.wf Reg.reset s.regs = true) :
    Sparse.wf Reg.reset (s.setReg page off w bank).regs = true := Sparse.wf_set _ _ _ _ h

/-- Pages cleared keep the canonical form. -/
theorem State.canonical_clearPages (s : State) (p : Nat → Bool) (h : Sparse.wf Reg.reset s.regs = true) :
    Sparse.wf Reg.reset (s.clearPages p).regs = true := Sparse.wf_restrict _ _ _ h

end Sys2Proof.Machine
end

