-- ==== Sys2Proof/Laws/Ops.lean ====
section
/-! SUPPORT. What each shared operation does, once: a command that is refused, done or left open, a write that is refused or
stored, an event raised, and one instruction of a CLE. -/

namespace Sys2Proof.Machine

/-! Commands of a page (R50-R52). -/

/-- A command that fails a check is refused with that check's code and has no other effect. -/
theorem State.command_refused (s : State) (q : Req) (c : Cmd) (hh : s.verdict q c ≠ RC.held) (h : s.verdict q c ≠ 0) :
    s.command q c = s.refuse q (s.verdict q c) := by
  simp only [State.command, if_neg hh, if_pos h]

/-- A lane's request behind an ownership request of that lane waits with it. -/
theorem State.command_held (s : State) (q : Req) (c : Cmd) (h : s.verdict q c = RC.held) :
    s.command q c = s.holdReq q.page (.cmd q c.opc) := by
  simp only [State.command, if_pos h]

/-- A command that passes every check and completes at once. -/
theorem State.command_done {s e : State} {q : Req} {c : Cmd} (h : s.verdict q c = 0)
    (ha : c.act s q (s.arg0 q) (s.arg1 q) = (e, RC.done)) :
    s.command q c = c.after (e.writeResult q (s.pstate q.page) RC.done) q := by
  simp [State.command, h, ha, RC.held, RC.done, RC.accepted, RC.delayed]

/-- A command that passes every check and is left open. -/
theorem State.command_open {s e : State} {q : Req} {c : Cmd} {r : Nat} (h : s.verdict q c = 0)
    (ha : c.act s q (s.arg0 q) (s.arg1 q) = (e, r)) (hr : r = RC.accepted ∨ r = RC.delayed) :
    s.command q c = c.after ((e.openCmd q c.opc).writeResult q (s.pstate q.page) r) q := by
  rcases hr with rfl | rfl <;> simp [State.command, h, ha, RC.held, RC.accepted, RC.delayed]

/-- A command that its page's own admission refuses. -/
theorem State.command_turnedAway {s e : State} {q : Req} {c : Cmd} {r : Nat} (h : s.verdict q c = 0)
    (ha : c.act s q (s.arg0 q) (s.arg1 q) = (e, r)) (hr : 3 ≤ r) : s.command q c = e.refuse q r := by
  simp [State.command, h, ha, hr, RC.held]

/-- The result of a command on a used page stands in the requester's bank of CMD_RESULT. -/
theorem State.reg_writeResult (s : State) (q : Req) (st r : Nat) (h : pageUsed q.page = true) :
    (s.writeResult q st r).reg q.page Hd.CMD_RESULT_RESULT.off (q.code % 8) = resultWord q.tag st r := by
  simp [State.writeResult, h, State.send, State.reg, State.setReg]

/-! Writes (R55). -/

/-- A write that fails a check is refused with that check's code. -/
theorem State.writeGuard_refused {s : State} {w : WriteReq} {g : State → Nat} {e : State → State}
    (ho : w.off % 4096 / 4 * 4 = w.off) (hp : pageUsed w.page = true) (h : s.writeVerdict w ≠ 0)
    (hh : s.writeVerdict w ≠ RC.held) (hi : s.writeVerdict w ≠ RC.ignored) :
    s.writeGuard w g e = s.refuseWrite w (s.writeVerdict w) := by
  obtain ⟨code, gen, page, off, value⟩ := w
  simp only at ho hp
  simp only [State.writeGuard, ho, hp, Bool.not_true, Bool.false_eq_true, if_false, if_neg hh, if_neg hi, if_pos h]

/-- A write to a read-only or reserved word is answered and has no effect, whoever sends it (R4, R5, R44). -/
theorem State.writeGuard_ignored {s : State} {w : WriteReq} {g : State → Nat} {e : State → State}
    (ho : w.off % 4096 / 4 * 4 = w.off) (hp : pageUsed w.page = true) (h : s.writeVerdict w = RC.ignored) :
    s.writeGuard w g e = s.writeReply w (s.pstate w.page) (s.quietVerdict w) := by
  obtain ⟨code, gen, page, off, value⟩ := w
  simp only at ho hp
  simp [State.writeGuard, ho, hp, h, RC.held, RC.ignored]

/-- A write that passes every check, and that its page takes, has its effect and is answered. -/
theorem State.writeGuard_done {s : State} {w : WriteReq} {g : State → Nat} {e : State → State}
    (ho : w.off % 4096 / 4 * 4 = w.off) (hp : pageUsed w.page = true) (h : s.writeVerdict w = 0) (hg : w.code ≠ 0 → g s = 0) :
    s.writeGuard w g e = (e s).writeReply w (s.pstate w.page) RC.done := by
  obtain ⟨code, gen, page, off, value⟩ := w
  simp only at ho hp hg
  have hn : ¬(code ≠ 0 ∧ g s ≠ 0) := fun hc => hc.2 (hg hc.1)
  simp only [State.writeGuard, ho, hp, h, RC.held, RC.ignored, Bool.not_true, Bool.false_eq_true, if_false, ne_eq, not_true_eq_false,
    show ¬(0 = 0x100) from by decide, show ¬(0 = 0x101) from by decide]
  rw [if_neg hn]

theorem State.writeWith_done {s : State} {w : WriteReq} {p : State → Bool} {e : State → State}
    (ho : w.off % 4096 / 4 * 4 = w.off) (hp : pageUsed w.page = true) (h : s.writeVerdict w = 0)
    (hg : w.code ≠ 0 → p s = true) : s.writeWith w p e = (e s).writeReply w (s.pstate w.page) RC.done :=
  State.writeGuard_done ho hp h fun hc => by simp [hg hc]

/-- A write that passes every check stores its value as the register's table says, and the page follows. -/
theorem State.write_done {s : State} {w : WriteReq} {e : State → State}
    (ho : w.off % 4096 / 4 * 4 = w.off) (hp : pageUsed w.page = true) (h : s.writeVerdict w = 0) :
    s.write w e = (e (s.store w.code w.page w.off w.value)).writeReply w (s.pstate w.page) RC.done := by
  have h1 := State.writeWith_done (p := fun _ => true)
    (e := fun s => e (s.store w.code w.page (w.off % 4096 / 4 * 4) w.value)) ho hp h (fun _ => rfl)
  simp only [ho] at h1
  simpa only [State.write, ho] using h1

/-! Events (R65). -/

/-- A level event that is off already and is brought to off changes nothing but its own RAW bit. -/
theorem State.level_off (s : State) (page bit arg : Nat) :
    s.level page bit false arg = s.setFld page Hd.EVT_RAW (setBit (s.fld page Hd.EVT_RAW) bit false) := by
  simp [State.level]

/-- An event that is disabled sets its PEND bit and nothing more. -/
theorem State.occur_disabled {s : State} {page bit arg : Nat} {test : Bool}
    (h : bitAt ((s.setFld page Hd.EVT_PEND (setBit (s.fld page Hd.EVT_PEND) bit true)).fld page Hd.EVT_ENA) bit = false) :
    s.occur page bit arg test = s.setFld page Hd.EVT_PEND (setBit (s.fld page Hd.EVT_PEND) bit true) := by
  simp only [State.occur, h, Bool.false_and, Bool.false_eq_true, if_false]

/-! One instruction of a CLE (R205, R213, R217). -/

/-- A lane that runs no task executes nothing. -/
theorem State.cleStepReading_idle {s : State} {l : Lane} {bitOk : Bool} {len : Nat} {eff : CleRec → TaskRec → Nat → Eff}
    {reads : CleRec → TaskRec → Nat → List Nat} (h : (s.putOut []).pstate (clePage l) ≠ 2) :
    s.cleStepReading l bitOk len eff reads = s.putOut [] := by
  simp only [State.cleStepReading, if_neg h]

theorem State.cleStep_idle {s : State} {l : Lane} {bitOk : Bool} {len : Nat} {eff : CleRec → TaskRec → Nat → Eff}
    (h : (s.putOut []).pstate (clePage l) ≠ 2) : s.cleStep l bitOk len eff = s.putOut [] :=
  State.cleStepReading_idle h

/-- Every word of an instruction that lies aligned within CODE can be fetched. -/
theorem CleRec.badFetch_none {c : CleRec} {pc len : Nat} (h : c.img.code.holds pc (4 * len) = true) (h4 : pc % 4 = 0) :
    c.badFetch pc len = none := by
  simp only [CleRec.badFetch, fetchWords, List.find?_eq_none, List.mem_map, List.mem_range]
  rintro x ⟨i, hi, rfl⟩
  simp only [Region.holds, decide_eq_true_eq] at h
  have h4' : (pc + 4 * i) % 4 = 0 := by omega
  have h1 : c.img.code.holds (pc + 4 * i) 4 = true := by
    simp only [Region.holds, decide_eq_true_eq]; omega
  simp [h1, h4']

/-- A word of SRAM whose check bits show no error is only read. -/
theorem State.sramRead_clean {s : State} {l : Lane} (h : (s.cle l).upset = []) (ws : List Nat) : s.sramRead l ws = (s, false) := by
  have h0 : ∀ a, (s.cle l).checkBits a = 0 := fun a => by simp [CleRec.checkBits, h]
  have h1 : ws.filter (fun a => (s.cle l).checkBits a == 1) = [] := by simp [h0]
  have h2 : ws.find? (fun a => (s.cle l).checkBits a == 2) = none := by simp [h0]
  simp only [State.sramRead, State.each, h1, h2, List.foldl_nil]

/-- An instruction that executes either has its whole effect or stops the engine with a program fault. -/
theorem State.cleStepReading_executes {s : State} {l : Lane} {t len : Nat} {bitOk : Bool} {eff : CleRec → TaskRec → Nat → Eff}
    {reads : CleRec → TaskRec → Nat → List Nat} (h : s.executes l t len bitOk) :
    s.cleStepReading l bitOk len eff reads =
      match eff (s.cle l) (s.fetched l t len) t with
      | .ok c k => s.carried l t c k
      | .fault cause => (s.putOut []).cleFault l cause t ((s.cle l).tasks.rd {} t).pc := by
  obtain ⟨h1, h2, h3, h4, h5, h6, h7, h8⟩ := h
  have hb : (s.putOut []).breaksAt t ((s.cle l).tasks.rd {} t).pc = [] := h5
  have hm : (!bitOk && ((s.cle l).taskDef t).bitMode) = false := by
    rcases h6 with h6 | h6 <;> simp [h6]
  have hc : (s.putOut []).cle l = s.cle l := rfl
  have hp : (s.putOut []).pstate (clePage l) = 2 := h1
  have hu : ((s.putOut []).cle l).upset = [] := h8
  simp only [State.cleStepReading, hc, hp, if_true, h2, CleRec.badFetch_none h3 h4, State.breakCheck, hb, hm, State.fetched,
    State.carried, State.sramRead_clean hu, h7]
  simp only [Bool.not_true, Bool.or_false, Bool.false_eq_true, if_false] <;> rfl

theorem State.cleStep_executes {s : State} {l : Lane} {t len : Nat} {bitOk : Bool} {eff : CleRec → TaskRec → Nat → Eff}
    (h : s.executes l t len bitOk) :
    s.cleStep l bitOk len eff =
      match eff (s.cle l) (s.fetched l t len) t with
      | .ok c k => s.carried l t c k
      | .fault cause => (s.putOut []).cleFault l cause t ((s.cle l).tasks.rd {} t).pc :=
  State.cleStepReading_executes h

end Sys2Proof.Machine
end

