-- ==== Sys2Proof/Laws/Tables.lean ====
section
/-! SUPPORT. What reads of the tables and lane pairs of the state give after a write: the record written, or the one that stood
there. -/

namespace Sys2Proof.Machine

@[simp] theorem Tab.rd_wr {α : Type} [DecidableEq α] (m : Tab α) (d : α) (k j : Nat) (v : α) :
    (m.wr d k v).rd d j = if j = k then v else m.rd d j := Sparse.get_set _ m k v j

theorem Tab.rd_wr_same {α : Type} [DecidableEq α] (m : Tab α) (d : α) (k : Nat) (v : α) : (m.wr d k v).rd d k = v := by simp

@[simp] theorem PerLane.of_set {α : Type} (p : PerLane α) (l k : Lane) (v : α) :
    (p.set l v).of k = if k = l then v else p.of k := by cases l <;> cases k <;> rfl

@[simp] theorem State.slot_setSlot (s : State) (k j : Nat) (x : Session) :
    (s.setSlot k x).slot j = if j = k then x else s.slot j := Tab.rd_wr _ _ _ _ _

@[simp] theorem State.dest_setDest (s : State) (d j : Nat) (q : DestQ) :
    (s.setDest d q).dest j = if j = d then q else s.dest j := by
  have h : (s.setDest d q).fabric = { s.fabric with dests := s.fabric.dests.wr {} d q } := by
    simp only [State.setDest]
    (repeat' split) <;> simp
  simp only [State.dest, h, Tab.rd_wr]

@[simp] theorem State.resRec_setRes (s : State) (p j : Nat) (r : ResRec) :
    (s.setRes p r).resRec j = if j = p then r else s.resRec j := Tab.rd_wr _ _ _ _ _

@[simp] theorem State.axis_setAxis (s : State) (p j : Nat) (x : AxisRec) :
    (s.setAxis p x).axis j = if j = p then x else s.axis j := Tab.rd_wr _ _ _ _ _

@[simp] theorem State.bus_setBus (s : State) (b j : Nat) (x : BusRec) :
    (s.setBus b x).bus j = if j = b then x else s.bus j := Tab.rd_wr _ _ _ _ _

@[simp] theorem State.lane_setLane (s : State) (l k : Lane) (x : LaneRec) :
    (s.setLane l x).lane k = if k = l then x else s.lane k := PerLane.of_set _ _ _ _

@[simp] theorem State.cle_setCle (s : State) (l k : Lane) (c : CleRec) :
    (s.setCle l c).cle k = if k = l then c else s.cle k := PerLane.of_set _ _ _ _

@[simp] theorem State.vat_setVat (s : State) (l k : Lane) (v : VatRec) :
    (s.setVat l v).vat k = if k = l then v else s.vat k := PerLane.of_set _ _ _ _

@[simp] theorem State.mem_putMem (s : State) (l k : Lane) (x : MemRec) :
    (s.putMem l x).mem k = if k = l then x else s.mem k := PerLane.of_set _ _ _ _

end Sys2Proof.Machine
end

