-- ==== Sys2Proof/Laws/TrunkShared.lean ====
section
/-! SUPPORT. The frame of the shared operations: registers, events, clamps, commands and writes, ownership, the logs, the fabric, the clock, the axes' measurement,
the captures and the force maps:
each keeps the instant, the boot count and the queue of the state it starts from. -/

namespace Sys2Proof.Machine

/-- The part of the state that no command but a start of the whole module changes, the clock apart: the instant, the boot count and
the commands waiting. -/
def State.trunk (s : State) : Nat × Nat × List Instr := (s.now, s.bootCount, s.pending)

@[simp] theorem trunk_ite (c : Prop) [Decidable c] (a b : State) :
    (if c then a else b).trunk = if c then a.trunk else b.trunk := by split <;> rfl

@[simp] theorem trunk_fst_ite {β : Type} (c : Prop) [Decidable c] (a b : State × β) :
    (if c then a else b).1.trunk = if c then a.1.trunk else b.1.trunk := by split <;> rfl

@[simp] theorem trunk_snd_ite {β : Type} (c : Prop) [Decidable c] (a b : β × State) :
    (if c then a else b).2.trunk = if c then a.2.trunk else b.2.trunk := by split <;> rfl

/-- What a step of a fold keeps, the fold keeps. -/
theorem trunk_foldl {α : Type} (f : State → α → State) (h : ∀ s x, (f s x).trunk = s.trunk) (l : List α) (s : State) :
    (l.foldl f s).trunk = s.trunk := by
  induction l generalizing s with
  | nil => rfl
  | cons x l ih => simp [ih, h]

theorem trunk_of_fst {β : Type} {p : State × β} {a : State} {b : β} {c} (h : p = (a, b)) (hc : p.1.trunk = c) :
    a.trunk = c := by subst h; exact hc

theorem trunk_of_snd {β : Type} {p : β × State} {a : State} {b : β} {c} (h : p = (b, a)) (hc : p.2.trunk = c) :
    a.trunk = c := by subst h; exact hc

/-- A command of a page whose carrying out and whose follow-up keep the trunk. -/
def Cmd.Keeps (c : Cmd) : Prop := (∀ s q a b, (c.act s q a b).1.trunk = s.trunk) ∧ ∀ s q, (c.after s q).trunk = s.trunk

/-- An outcome whose next state, if it has one, holds a given trunk. -/
structure OutcomeKeeps (c : Nat × Nat × List Instr) (o : Host.Outcome State Fault Refusal) : Prop where
  kept : ∀ u, o = .next u → u.trunk = c

@[simp] theorem outcomeKeeps_next (c) (u : State) :
    OutcomeKeeps c (.next u) ↔ u.trunk = c := ⟨fun h => h.kept u rfl, fun h => ⟨fun _ e => by cases e; exact h⟩⟩

@[simp] theorem outcomeKeeps_ite (c) (p : Prop) [Decidable p] (a b) :
    OutcomeKeeps c (if p then a else b) ↔ if p then OutcomeKeeps c a else OutcomeKeeps c b := by split <;> rfl

@[simp] theorem trunk_start_start (s : State) (t : Nat) :
    ((s.start t).start t).trunk = (s.start t).trunk := by simp [State.start, State.trunk]

theorem trunk_start_now (s : State) : (s.start s.now).trunk = s.trunk := by simp [State.start, State.trunk]

/-! Regs. -/

@[simp] theorem trunk_setReg (s : State) (page : Nat) (off : Nat) (w : Word) (bank : Nat) :
    (State.setReg s page off w bank).trunk = s.trunk := by cases s; rfl

@[simp] theorem trunk_setFld (s : State) (page : Nat) (f : Field) (v : Nat) (i : Nat) (j : Nat) :
    (State.setFld s page f v i j).trunk = s.trunk := by
  simp [State.setFld]

@[simp] theorem trunk_setSfld (s : State) (page : Nat) (f : Field) (v : Int) (i : Nat) (j : Nat) :
    (State.setSfld s page f v i j).trunk = s.trunk := by
  simp [State.setSfld]

@[simp] theorem trunk_bump (s : State) (page : Nat) (f : Field) (i : Nat) (j : Nat) (n : Nat) :
    (State.bump s page f i j n).trunk = s.trunk := by
  simp [State.bump]

@[simp] theorem trunk_setFld64 (s : State) (page : Nat) (f : Field) (v : Nat) (i : Nat) :
    (State.setFld64 s page f v i).trunk = s.trunk := by
  simp [State.setFld64]

@[simp] theorem trunk_setPstate (s : State) (page : Nat) (v : Nat) : (State.setPstate s page v).trunk = s.trunk := by
  simp [State.setPstate]

@[simp] theorem trunk_putOut (s : State) (x : List OutMsg) : (State.putOut s x).trunk = s.trunk := by cases s; rfl

@[simp] theorem trunk_putOpens (s : State) (x : List OpenCmd) : (State.putOpens s x).trunk = s.trunk := by cases s; rfl

@[simp] theorem trunk_putFabric (s : State) (x : Fabric) : (State.putFabric s x).trunk = s.trunk := by cases s; rfl

@[simp] theorem trunk_putHost (s : State) (x : HostState) : (State.putHost s x).trunk = s.trunk := by cases s; rfl

@[simp] theorem trunk_putOc (s : State) (x : OcRec) : (State.putOc s x).trunk = s.trunk := by cases s; rfl

@[simp] theorem trunk_putKerb (s : State) (x : KerbRec) : (State.putKerb s x).trunk = s.trunk := by cases s; rfl

@[simp] theorem trunk_putDumpStore (s : State) (x : DumpStore) : (State.putDumpStore s x).trunk = s.trunk := by cases s; rfl

@[simp] theorem trunk_putMgmt (s : State) (x : MgmtRec) : (State.putMgmt s x).trunk = s.trunk := by cases s; rfl

@[simp] theorem trunk_putLc (s : State) (x : LcRec) : (State.putLc s x).trunk = s.trunk := by cases s; rfl

@[simp] theorem trunk_putPower (s : State) (x : PowerRec) : (State.putPower s x).trunk = s.trunk := by cases s; rfl

@[simp] theorem trunk_putLines (s : State) (x : List Nat) : (State.putLines s x).trunk = s.trunk := by cases s; rfl

@[simp] theorem trunk_putPosts (s : State) (x : PerLane (List ClePost)) : (State.putPosts s x).trunk = s.trunk := by cases s; rfl

@[simp] theorem trunk_putAvenues (s : State) (x : Tab AvRec) : (State.putAvenues s x).trunk = s.trunk := by cases s; rfl

@[simp] theorem trunk_putClock (s : State) (shift : Int) (unset : Bool) :
    (State.putClock s shift unset).trunk = s.trunk := by cases s; rfl

@[simp] theorem trunk_putCle (s : State) (l : Lane) (x : CleRec) : (State.putCle s l x).trunk = s.trunk := by cases s; rfl

@[simp] theorem trunk_putMem (s : State) (l : Lane) (x : MemRec) : (State.putMem s l x).trunk = s.trunk := by cases s; rfl

@[simp] theorem trunk_putLowWrites (s : State) (x : Tab Nat) : (State.putLowWrites s x).trunk = s.trunk := by cases s; rfl

@[simp] theorem trunk_putPair (s : State) (x : PairRec) : (State.putPair s x).trunk = s.trunk := by cases s; rfl

@[simp] theorem trunk_putLatched (s : State) (x : Tab Nat) : (State.putLatched s x).trunk = s.trunk := by cases s; rfl

@[simp] theorem trunk_send (s : State) (k : OutKind) (ws : List Nat) : (State.send s k ws).trunk = s.trunk := by
  simp [State.send]

@[simp] theorem trunk_sendOn (s : State) (p : Nat) (ip : Nat) (udp : Nat) (m : OutMsg) (ttl : Nat) :
    (State.sendOn s p ip udp m ttl).trunk = s.trunk := by
  simp [State.sendOn]

@[simp] theorem trunk_tell (s : State) (k : Nat) (m : OutMsg) : (State.tell s k m).trunk = s.trunk := by
  simp [State.tell]

@[simp] theorem trunk_sendEvents (s : State) (k : Nat) (rs : List EvtRec) : (State.sendEvents s k rs).trunk = s.trunk := by
  simp [State.sendEvents]

@[simp] theorem trunk_free (s : State) : (State.free s).2.trunk = s.trunk := by cases s; rfl

@[simp] theorem trunk_setRes (s : State) (page : Nat) (r : ResRec) : (State.setRes s page r).trunk = s.trunk := by cases s; rfl

@[simp] theorem trunk_setSlot (s : State) (k : Nat) (x : Session) : (State.setSlot s k x).trunk = s.trunk := by
  simp [State.setSlot]

@[simp] theorem trunk_setLane (s : State) (l : Lane) (x : LaneRec) : (State.setLane s l x).trunk = s.trunk := by cases s; rfl

@[simp] theorem trunk_each (s : State) (ks : List Nat) (f : State → Nat → State) (h : ∀ s k, (f s k).trunk = s.trunk) :
    (s.each ks f).trunk = s.trunk := trunk_foldl f h ks s

/-! Events. -/

@[simp] theorem trunk_dropFor (s : State) (r : EvtRec) (d : Nat) : (State.dropFor s r d).trunk = s.trunk := by
  simp [State.dropFor]

@[simp] theorem trunk_produce (s : State) (r : EvtRec) (ds : List Nat) : (State.produce s r ds).trunk = s.trunk := by
  unfold State.produce
  simp only [trunk_ite]
  rw [trunk_foldl _ (by intro s x; simp [State.dropFor])]
  simp

@[simp] theorem trunk_postCle (s : State) (page : Nat) (bit : Nat) : (State.postCle s page bit).trunk = s.trunk := by
  simp [State.postCle]

@[simp] theorem trunk_produceLoud (s : State) (r : EvtRec) (ds : List Nat) : (State.produceLoud s r ds).trunk = s.trunk := by
  simp [State.produceLoud, trunk_foldl]

@[simp] theorem trunk_occur (s : State) (page : Nat) (bit : Nat) (arg : Nat) (test : Bool) :
    (State.occur s page bit arg test).trunk = s.trunk := by
  simp [State.occur]

@[simp] theorem trunk_raise (s : State) (page : Nat) (bit : Nat) (arg : Nat) : (State.raise s page bit arg).trunk = s.trunk := by
  simp [State.raise]

@[simp] theorem trunk_level (s : State) (page : Nat) (bit : Nat) (on : Bool) (arg : Nat) :
    (State.level s page bit on arg).trunk = s.trunk := by
  simp [State.level]

/-! Clamp. -/

@[simp] theorem trunk_reportClamp (s : State) (code : Nat) (page : Nat) (off : Nat) (bit : Nat) (req : Nat) (applied : Nat) :
    (State.reportClamp s code page off bit req applied).trunk = s.trunk := by
  simp [State.reportClamp]

@[simp] theorem trunk_writeField (s : State) (code : Nat) (page : Nat) (off : Nat) (bank : Nat) (value : Word) (rep : Nat) (r : RegField × Nat × Nat) :
    (State.writeField s code page off bank value rep r).1.trunk = s.trunk := by
  simp [State.writeField] <;> (repeat' split) <;> simp

@[simp] theorem trunk_writeFields (s : State) (code page off bank : Nat) (value : Word) (rep : Nat) (l : List (RegField × Nat × Nat)) :
    (s.writeFields code page off bank value rep l).1.trunk = s.trunk := by
  induction l generalizing s with
  | nil => rfl
  | cons r l ih => simp [State.writeFields, ih]

@[simp] theorem trunk_storeWord (s : State) (code : Nat) (page : Nat) (off : Nat) (value : Word) (rep : Nat) :
    (State.storeWord s code page off value rep).1.trunk = s.trunk := by
  simp [State.storeWord]

@[simp] theorem trunk_store (s : State) (code : Nat) (page : Nat) (off : Nat) (value : Word) (rep : Nat) :
    (State.store s code page off value rep).trunk = s.trunk := by
  simp [State.store]

/-! Ops. -/

@[simp] theorem trunk_writeResult (s : State) (q : Req) (state : Nat) (result : Nat) :
    (State.writeResult s q state result).trunk = s.trunk := by
  simp [State.writeResult]

@[simp] theorem trunk_refuse (s : State) (q : Req) (result : Nat) : (State.refuse s q result).trunk = s.trunk := by
  simp [State.refuse]

@[simp] theorem trunk_holdReq (s : State) (page : Nat) (h : LaneReq) : (State.holdReq s page h).trunk = s.trunk := by
  simp [State.holdReq]

@[simp] theorem trunk_openCmd (s : State) (q : Req) (opc : Nat) : (State.openCmd s q opc).trunk = s.trunk := by
  simp [State.openCmd]

@[simp] theorem trunk_command (s : State) (q : Req) (c : Cmd) (h : c.Keeps) : (s.command q c).trunk = s.trunk := by
  have h1 := h.1
  have h2 := h.2
  unfold State.command
  simp [h1, h2]

@[simp] theorem trunk_complete (s : State) (o : OpenCmd) (result : Nat) : (State.complete s o result).trunk = s.trunk := by
  simp [State.complete] <;> (repeat' split) <;> simp

@[simp] theorem trunk_completeAll (s : State) (p : OpenCmd → Bool) (result : Nat) :
    (State.completeAll s p result).trunk = s.trunk := by
  simp [State.completeAll, trunk_foldl]

@[simp] theorem trunk_nextGeneration (s : State) (page : Nat) : (State.nextGeneration s page).trunk = s.trunk := by
  simp [State.nextGeneration]

@[simp] theorem trunk_clearPages (s : State) (p : Nat → Bool) : (State.clearPages s p).trunk = s.trunk := by cases s; rfl

@[simp] theorem trunk_resetPage (s : State) (page : Nat) : (State.resetPage s page).trunk = s.trunk := by
  simp [State.resetPage]

@[simp] theorem trunk_writeReply (s : State) (w : WriteReq) (state : Nat) (result : Nat) :
    (State.writeReply s w state result).trunk = s.trunk := by
  simp [State.writeReply]

@[simp] theorem trunk_refuseWrite (s : State) (w : WriteReq) (result : Nat) : (State.refuseWrite s w result).trunk = s.trunk := by
  simp [State.refuseWrite]

@[simp] theorem trunk_writeGuard (s : State) (w : WriteReq) (g : State → Nat) (e : State → State) (h : ∀ s, (e s).trunk = s.trunk) :
    (s.writeGuard w g e).trunk = s.trunk := by
  unfold State.writeGuard
  simp [h]

@[simp] theorem trunk_writeWith (s : State) (w : WriteReq) (g : State → Bool) (e : State → State) (h : ∀ s, (e s).trunk = s.trunk) :
    (s.writeWith w g e).trunk = s.trunk := by
  unfold State.writeWith
  simp [h]

@[simp] theorem trunk_write (s : State) (w : WriteReq) (e : State → State) (h : ∀ s, (e s).trunk = s.trunk) :
    (s.write w e).trunk = s.trunk := by
  unfold State.write
  simp [h]

/-! Ownership. -/

@[simp] theorem trunk_setBeat (s : State) (page : Nat) (l : Lane) (b : Beat) : (State.setBeat s page l b).trunk = s.trunk := by
  simp [State.setBeat] <;> (repeat' split) <;> simp

@[simp] theorem trunk_changeOwner (s : State) (page : Nat) (l : Lane) (cause : Nat) :
    (State.changeOwner s page l cause).trunk = s.trunk := by
  simp [State.changeOwner]

@[simp] theorem trunk_setOwnNext (s : State) (page : Nat) (l : Lane) (a3 : Nat) :
    (State.setOwnNext s page l a3).trunk = s.trunk := by
  simp [State.setOwnNext] <;> (repeat' split) <;> simp

@[simp] theorem trunk_setErrands (s : State) (l : Lane) (es : List OwnErrand) : (State.setErrands s l es).trunk = s.trunk := by
  simp [State.setErrands]

@[simp] theorem trunk_endMove (s : State) (l : Lane) (page : Nat) (result : Nat) :
    (State.endMove s l page result).trunk = s.trunk := by
  simp [State.endMove]

@[simp] theorem trunk_settleRelease (s : State) (l : Lane) : (State.settleRelease s l).trunk = s.trunk := by
  simp [State.settleRelease]

@[simp] theorem trunk_settleErrands (s : State) : (State.settleErrands s).trunk = s.trunk := by
  simp [State.settleErrands, trunk_foldl]

@[simp] theorem trunk_ownEffect (s : State) (r : ArbReq) : (State.ownEffect s r).trunk = s.trunk := by
  simp [State.ownEffect] <;> (repeat' split) <;> simp

@[simp] theorem trunk_ownArrive (s : State) (q : Req) (opc : Nat) (arg0 : Nat) (firmware : Bool) :
    (State.ownArrive s q opc arg0 firmware).trunk = s.trunk := by
  simp [State.ownArrive]

@[simp] theorem trunk_ownIssue (s : State) (l : Lane) (page : Nat) (opc : Nat) : (State.ownIssue s l page opc).trunk = s.trunk := by
  simp [State.ownIssue]

@[simp] theorem trunk_errandCollided (s : State) (l : Lane) (page : Nat) : (State.errandCollided s l page).trunk = s.trunk := by
  simp [State.errandCollided, trunk_foldl]

@[simp] theorem trunk_ownSeen (s : State) (r : ArbReq) (result : Nat) : (State.ownSeen s r result).trunk = s.trunk := by
  simp [State.ownSeen] <;> (repeat' split) <;> simp

@[simp] theorem trunk_ownDecide (s : State) (r : ArbReq) : (State.ownDecide s r).trunk = s.trunk := by
  simp [State.ownDecide]

@[simp] theorem trunk_ownCollide (s : State) (r1 : ArbReq) (r2 : ArbReq) : (State.ownCollide s r1 r2).trunk = s.trunk := by
  simp [State.ownCollide] <;> (repeat' split) <;> simp

@[simp] theorem trunk_ownArbitrate (s : State) (page : Nat) : (State.ownArbitrate s page).trunk = s.trunk := by
  simp [State.ownArbitrate] <;> (repeat' split) <;> simp

@[simp] theorem trunk_fwAnswer (s : State) (l : Lane) (offers : Bool) : (State.fwAnswer s l offers).trunk = s.trunk := by
  simp [State.fwAnswer]

@[simp] theorem trunk_beginErrand (s : State) (l : Lane) (page : Nat) (kind : Nat) (opc : Nat) :
    (State.beginErrand s l page kind opc).trunk = s.trunk := by
  simp [State.beginErrand]

@[simp] theorem trunk_beginMove (s : State) (l : Lane) (page : Nat) (kind : Nat) :
    (State.beginMove s l page kind).trunk = s.trunk := by
  simp [State.beginMove]

@[simp] theorem trunk_abortErrands (s : State) : (State.abortErrands s).trunk = s.trunk := by
  simp [State.abortErrands]

@[simp] theorem keeps_cmdOwnMove  : cmdOwnMove.Keeps := by
  constructor
  · intro s q a b
    simp [cmdOwnMove] <;> (repeat' split) <;> simp
  · intro s q
    simp [cmdOwnMove]

@[simp] theorem keeps_cmdReleaseAll  : cmdReleaseAll.Keeps := by
  constructor
  · intro s q a b
    simp [cmdReleaseAll] <;> (repeat' split) <;> simp
  · intro s q
    simp [cmdReleaseAll]

@[simp] theorem keeps_execOwnMove (t : Nat) (q : Req) (s : State) : OutcomeKeeps (s.start t).trunk (execOwnMove t q s) := by
  simp [execOwnMove]

@[simp] theorem keeps_execOwnMoveTimeout (t : Nat) (l : Lane) (page : Nat) (s : State) :
    OutcomeKeeps (s.start t).trunk (execOwnMoveTimeout t l page s) := by
  simp [execOwnMoveTimeout]

@[simp] theorem keeps_execReleaseAll (t : Nat) (q : Req) (s : State) : OutcomeKeeps (s.start t).trunk (execReleaseAll t q s) := by
  simp [execReleaseAll]

@[simp] theorem keeps_execOwnOffer (t : Nat) (q : Req) (s : State) : OutcomeKeeps (s.start t).trunk (execOwnOffer t q s) := by
  simp [execOwnOffer]

@[simp] theorem keeps_execOwnAccept (t : Nat) (q : Req) (s : State) : OutcomeKeeps (s.start t).trunk (execOwnAccept t q s) := by
  simp [execOwnAccept]

@[simp] theorem keeps_execOwnWithdraw (t : Nat) (q : Req) (s : State) : OutcomeKeeps (s.start t).trunk (execOwnWithdraw t q s) := by
  simp [execOwnWithdraw]

@[simp] theorem keeps_execOwnRequest (t : Nat) (q : Req) (s : State) : OutcomeKeeps (s.start t).trunk (execOwnRequest t q s) := by
  simp [execOwnRequest]

@[simp] theorem keeps_execOwnRetry (t : Nat) (l : Lane) (page : Nat) (s : State) :
    OutcomeKeeps (s.start t).trunk (execOwnRetry t l page s) := by
  simp [execOwnRetry] <;> (repeat' split) <;> simp

@[simp] theorem keeps_execOfferExpiry (t : Nat) (page : Nat) (s : State) :
    OutcomeKeeps (s.start t).trunk (execOfferExpiry t page s) := by
  simp [execOfferExpiry]

@[simp] theorem keeps_execRequestExpiry (t : Nat) (page : Nat) (s : State) :
    OutcomeKeeps (s.start t).trunk (execRequestExpiry t page s) := by
  simp [execRequestExpiry]

@[simp] theorem keeps_execHeartbeat (t : Nat) (l : Lane) (page : Nat) (count : Nat) (s : State) :
    OutcomeKeeps (s.start t).trunk (execHeartbeat t l page count s) := by
  simp [execHeartbeat]

@[simp] theorem keeps_execTakeover (t : Nat) (page : Nat) (s : State) : OutcomeKeeps (s.start t).trunk (execTakeover t page s) := by
  simp [execTakeover] <;> (repeat' split) <;> simp

@[simp] theorem keeps_execTakeoverMsWrite (t : Nat) (w : WriteReq) (s : State) :
    OutcomeKeeps (s.start t).trunk (execTakeoverMsWrite t w s) := by
  simp [execTakeoverMsWrite]

/-! VatLog. -/

@[simp] theorem trunk_setVat (s : State) (l : Lane) (v : VatRec) : (State.setVat s l v).trunk = s.trunk := by cases s; rfl

@[simp] theorem trunk_showWear (s : State) (l : Lane) : (State.showWear s l).trunk = s.trunk := by
  simp [State.showWear]

@[simp] theorem trunk_showCurdFill (s : State) (l : Lane) : (State.showCurdFill s l).trunk = s.trunk := by
  simp [State.showCurdFill]

@[simp] theorem trunk_logEntry (s : State) (l : Lane) (r : EvtRec) (kind : Nat) (words : List Nat) :
    (State.logEntry s l r kind words).trunk = s.trunk := by
  simp [State.logEntry]

@[simp] theorem trunk_histEntry (s : State) (l : Lane) (kind : Nat) (len : Nat) (digest : Nat) (content : (List Nat)) :
    (State.histEntry s l kind len digest content).trunk = s.trunk := by
  unfold State.histEntry
  (repeat' split) <;> (try simp) <;> (repeat' split) <;> simp [trunk_foldl]

@[simp] theorem trunk_vatKeyLoaded (s : State) (l : Lane) : (State.vatKeyLoaded s l).trunk = s.trunk := by
  simp [State.vatKeyLoaded]

@[simp] theorem trunk_sendFrame (s : State) (l : Lane) (type : Nat) (ws : List Nat) :
    (State.sendFrame s l type ws).trunk = s.trunk := by
  simp [State.sendFrame]

@[simp] theorem trunk_fwLogs (s : State) (l : Lane) (r : EvtRec) : (State.fwLogs s l r).trunk = s.trunk := by
  simp [State.fwLogs]

/-! MgmtLog. -/

@[simp] theorem trunk_mlog (s : State) (kind : Nat) (data : List Nat) : (State.mlog s kind data).trunk = s.trunk := by
  simp [State.mlog]

@[simp] theorem trunk_ripSignal (s : State) (beam : Nat) (signal : Nat) (ma : Nat) :
    (State.ripSignal s beam signal ma).trunk = s.trunk := by
  simp [State.ripSignal]

@[simp] theorem trunk_mgmtLogs (s : State) (r : EvtRec) : (State.mgmtLogs s r).trunk = s.trunk := by
  simp [State.mgmtLogs]

/-! Fabric. -/

@[simp] theorem trunk_setDest (s : State) (d : Nat) (q : DestQ) : (State.setDest s d q).trunk = s.trunk := by
  simp [State.setDest]

@[simp] theorem trunk_queueHigh (s : State) : (State.queueHigh s).trunk = s.trunk := by
  simp [State.queueHigh]

@[simp] theorem trunk_putGap (s : State) (d : Nat) : (State.putGap s d).trunk = s.trunk := by
  simp [State.putGap]

@[simp] theorem trunk_consume (s : State) (d : Nat) : (State.consume s d).trunk = s.trunk := by
  simp [State.consume, trunk_foldl]

@[simp] theorem trunk_sendNew (s : State) (d : Nat) (had : Nat) : (State.sendNew s d had).trunk = s.trunk := by
  simp [State.sendNew]

@[simp] theorem trunk_enqueue (s : State) (r : EvtRec) (d : Nat) : (State.enqueue s r d).trunk = s.trunk := by
  simp [State.enqueue]

@[simp] theorem keeps_execFabricDistribute (t : Nat) (s : State) : OutcomeKeeps (s.start t).trunk (execFabricDistribute t s) := by
  unfold execFabricDistribute
  (repeat' split) <;> (try simp) <;> (repeat' split) <;> simp [trunk_foldl]

@[simp] theorem keeps_execGapRecord (t : Nat) (d : Fin 7) (s : State) : OutcomeKeeps (s.start t).trunk (execGapRecord t d s) := by
  simp [execGapRecord]

@[simp] theorem keeps_cmdFabricClear  : cmdFabricClear.Keeps := by
  constructor
  · intro s q a b
    simp [cmdFabricClear]
  · intro s q
    simp [cmdFabricClear]

@[simp] theorem keeps_execFabricCountersClear (t : Nat) (q : Req) (s : State) :
    OutcomeKeeps (s.start t).trunk (execFabricCountersClear t q s) := by
  simp [execFabricCountersClear]

/-! Device. -/

@[simp] theorem trunk_applyBus (s : State) (bus : Nat) : (State.applyBus s bus).trunk = s.trunk := by
  simp [State.applyBus]

@[simp] theorem trunk_afterProfile (s : State) : (State.afterProfile s).trunk = s.trunk := by
  simp [State.afterProfile]

@[simp] theorem trunk_timeStep (s : State) (step : Int) : (State.timeStep s step).trunk = s.trunk := by
  simp [State.timeStep]

@[simp] theorem trunk_setTime (s : State) (v : Nat) : (State.setTime s v).trunk = s.trunk := by
  simp [State.setTime]

@[simp] theorem trunk_profileWrite (s : State) (w : WriteReq) : (State.profileWrite s w).trunk = s.trunk := by
  simp [State.profileWrite]

@[simp] theorem keeps_execProfileWrite (t : Nat) (code : Nat) (gen : Nat) (reg : Fin 3) (value : Word) (s : State) :
    OutcomeKeeps (s.start t).trunk (execProfileWrite t code gen reg value s) := by
  simp [execProfileWrite]

@[simp] theorem keeps_execHoldoverExpiry (t : Nat) (s : State) : OutcomeKeeps (s.start t).trunk (execHoldoverExpiry t s) := by
  simp [execHoldoverExpiry] <;> (repeat' split) <;> simp

/-! Axis. -/

@[simp] theorem trunk_setAxis (s : State) (p : Nat) (x : AxisRec) : (State.setAxis s p x).trunk = s.trunk := by cases s; rfl

@[simp] theorem trunk_modAxis (s : State) (p : Nat) (f : AxisRec → AxisRec) : (State.modAxis s p f).trunk = s.trunk := by
  simp [State.modAxis]

@[simp] theorem trunk_setBus (s : State) (b : Nat) (x : BusRec) : (State.setBus s b x).trunk = s.trunk := by cases s; rfl

@[simp] theorem trunk_setMstate (s : State) (p : Nat) (v : Nat) : (State.setMstate s p v).trunk = s.trunk := by
  simp [State.setMstate]

@[simp] theorem trunk_noteCause (s : State) (p : Nat) (cause : Nat) : (State.noteCause s p cause).trunk = s.trunk := by
  simp [State.noteCause]

@[simp] theorem trunk_setDrive (s : State) (p : Nat) (new : Nat) (cause : Nat) :
    (State.setDrive s p new cause).trunk = s.trunk := by
  simp [State.setDrive]

/-! Position. -/

@[simp] theorem trunk_modFb (s : State) (p : Nat) (f : FbRec → FbRec) : (State.modFb s p f).trunk = s.trunk := by
  simp [State.modFb]

@[simp] theorem trunk_fbChange (s : State) (p : Nat) (kind : Nat) (cause : Nat) :
    (State.fbChange s p kind cause).trunk = s.trunk := by
  simp [State.fbChange]

@[simp] theorem trunk_fbLevel (s : State) (p : Nat) : (State.fbLevel s p).trunk = s.trunk := by
  simp [State.fbLevel]

@[simp] theorem trunk_setFbState (s : State) (p : Nat) (v : Nat) : (State.setFbState s p v).trunk = s.trunk := by
  simp [State.setFbState]

@[simp] theorem trunk_fbFault (s : State) (p : Nat) (cause : Nat) : (State.fbFault s p cause).trunk = s.trunk := by
  simp [State.fbFault]

@[simp] theorem trunk_fbRecover (s : State) (p : Nat) : (State.fbRecover s p).trunk = s.trunk := by
  simp [State.fbRecover]

@[simp] theorem trunk_reref (s : State) (p : Nat) : (State.reref s p).trunk = s.trunk := by
  simp [State.reref]

@[simp] theorem trunk_showBeyond (s : State) (p : Nat) : (State.showBeyond s p).trunk = s.trunk := by
  simp [State.showBeyond]

@[simp] theorem trunk_showCounts (s : State) (p : Nat) (q : Int) : (State.showCounts s p q).trunk = s.trunk := by
  simp [State.showCounts]

@[simp] theorem trunk_showAngle (s : State) (p : Nat) : (State.showAngle s p).trunk = s.trunk := by
  simp [State.showAngle] <;> (repeat' split) <;> simp

@[simp] theorem trunk_checkRange (s : State) (p : Nat) (out : Bool) : (State.checkRange s p out).trunk = s.trunk := by
  simp [State.checkRange]

@[simp] theorem trunk_showPosition (s : State) (p : Nat) : (State.showPosition s p).trunk = s.trunk := by
  simp [State.showPosition]

@[simp] theorem trunk_rereference (s : State) (p : Nat) (d : Int) : (State.rereference s p d).trunk = s.trunk := by
  simp [State.rereference]

/-! Capture. -/

@[simp] theorem trunk_showFill (s : State) (l : Lane) : (State.showFill s l).trunk = s.trunk := by
  simp [State.showFill]

@[simp] theorem trunk_modCapture (s : State) (l : Lane) (axis : Nat) (f : Capture → Capture) :
    (State.modCapture s l axis f).trunk = s.trunk := by
  simp [State.modCapture]

@[simp] theorem trunk_captureRateNow (s : State) (l : Lane) : (State.captureRateNow s l).2.trunk = s.trunk := by
  simp [State.captureRateNow]

@[simp] theorem trunk_captureStart (s : State) (page : Nat) (cause : Nat) : (State.captureStart s page cause).trunk = s.trunk := by
  simp [State.captureStart]

@[simp] theorem trunk_captureEnd (s : State) (l : Lane) (axis : Nat) (cause : Nat) :
    (State.captureEnd s l axis cause).trunk = s.trunk := by
  simp [State.captureEnd] <;> (repeat' split) <;> simp

@[simp] theorem trunk_capturePost (s : State) (page : Nat) : (State.capturePost s page).trunk = s.trunk := by
  simp [State.capturePost] <;> (repeat' split) <;> simp

@[simp] theorem trunk_captureMark (s : State) (page : Nat) (code : Nat) (avenue : Nat) (falling : Bool) :
    (State.captureMark s page code avenue falling).trunk = s.trunk := by
  simp [State.captureMark] <;> (repeat' split) <;> simp

/-! Force. -/

@[simp] theorem trunk_modForce (s : State) (p : Nat) (f : ForceRec → ForceRec) : (State.modForce s p f).trunk = s.trunk := by
  simp [State.modForce]

@[simp] theorem trunk_setBin (s : State) (p : Nat) (b : Nat) (v : Bin) : (State.setBin s p b v).trunk = s.trunk := by
  simp [State.setBin]

@[simp] theorem trunk_showModel (s : State) (p : Nat) : (State.showModel s p).trunk = s.trunk := by
  simp [State.showModel]

@[simp] theorem trunk_learnBin (s : State) (p : Nat) (key : Nat) (q : PassBin) : (State.learnBin s p key q).trunk = s.trunk := by
  simp [State.learnBin]

@[simp] theorem trunk_learnPass (s : State) (p : Nat) : (State.learnPass s p).trunk = s.trunk := by
  simp [State.learnPass, trunk_foldl]

@[simp] theorem trunk_passSample (s : State) (p : Nat) (sgn : Int) (fEst : Int) (a : Int) :
    (State.passSample s p sgn fEst a).trunk = s.trunk := by
  simp [State.passSample]

@[simp] theorem trunk_curdOpen (s : State) (p : Nat) (m : Motion) : (State.curdOpen s p m).trunk = s.trunk := by
  simp [State.curdOpen]

@[simp] theorem trunk_modCurd (s : State) (p : Nat) (f : Curd → Curd) : (State.modCurd s p f).trunk = s.trunk := by
  simp [State.modCurd]

@[simp] theorem trunk_curdFlag (s : State) (p : Nat) (k : Nat) : (State.curdFlag s p k).trunk = s.trunk := by
  simp [State.curdFlag]

@[simp] theorem trunk_curdSample (s : State) (p : Nat) : (State.curdSample s p).trunk = s.trunk := by
  simp [State.curdSample]

@[simp] theorem trunk_keepCurd (s : State) (p : Nat) (c : Curd) : (State.keepCurd s p c).trunk = s.trunk := by
  simp [State.keepCurd]

@[simp] theorem trunk_curdClose (s : State) (p : Nat) (reason : Nat) : (State.curdClose s p reason).trunk = s.trunk := by
  simp [State.curdClose] <;> (repeat' split) <;> simp

@[simp] theorem trunk_showPermit (s : State) (p : Nat) : (State.showPermit s p).trunk = s.trunk := by
  simp [State.showPermit]

@[simp] theorem trunk_showPresence (s : State) (p : Nat) : (State.showPresence s p).trunk = s.trunk := by
  simp [State.showPresence, trunk_foldl]

@[simp] theorem trunk_showAllPresence (s : State) : (State.showAllPresence s).trunk = s.trunk := by
  simp [State.showAllPresence]

end Sys2Proof.Machine
end

