-- ==== Sys2Proof/Laws/TrunkUnits.lean ====
section
/-! SUPPORT. The frame of the ration, the motion, the drives, the loops, the feedbacks and the profiles:
each keeps the instant, the boot count and the queue of the state it starts from. -/

namespace Sys2Proof.Machine

/-! Ration. -/

@[simp] theorem trunk_showCharges (s : State) (b : Nat) : (State.showCharges s b).trunk = s.trunk := by
  simp [State.showCharges]

@[simp] theorem trunk_setCharge (s : State) (p : Nat) (gen : Nat) (res : Nat) : (State.setCharge s p gen res).trunk = s.trunk := by
  simp [State.setCharge]

@[simp] theorem trunk_chargeZero (s : State) (p : Nat) (w : Nat) : (State.chargeZero s p w).trunk = s.trunk := by
  simp [State.chargeZero]

@[simp] theorem trunk_countOutcome (s : State) (p : Nat) (b : Nat) (g : Grant) : (State.countOutcome s p b g).trunk = s.trunk := by
  simp [State.countOutcome] <;> (repeat' split) <;> simp

@[simp] theorem trunk_outcome (s : State) (p : Nat) (cls : Nat) (g : Grant) : (State.outcome s p cls g).trunk = s.trunk := by
  simp [State.outcome]

@[simp] theorem trunk_enqueueReq (s : State) (b : Nat) (r : WaitReq) : (State.enqueueReq s b r).trunk = s.trunk := by
  simp [State.enqueueReq]

@[simp] theorem trunk_unqueue (s : State) (p : Nat) : (State.unqueue s p).trunk = s.trunk := by
  simp [State.unqueue]

@[simp] theorem trunk_settleHeat (s : State) (b : Nat) : (State.settleHeat s b).trunk = s.trunk := by
  simp [State.settleHeat]

@[simp] theorem keeps_cmdRationClear  : cmdRationClear.Keeps := by
  constructor
  · intro s q a b
    simp [cmdRationClear]
  · intro s q
    simp [cmdRationClear]

@[simp] theorem keeps_execRationCountersClear (t : Nat) (q : Req) (s : State) :
    OutcomeKeeps (s.start t).trunk (execRationCountersClear t q s) := by
  simp [execRationCountersClear]

/-! Motion. -/

@[simp] theorem trunk_setPlan (s : State) (p : Nat) (g : List Seg) (goal : Option Int) (endV : Int) :
    (State.setPlan s p g goal endV).trunk = s.trunk := by
  simp [State.setPlan]

@[simp] theorem trunk_planStop (s : State) (p : Nat) (b : Bounds) : (State.planStop s p b).trunk = s.trunk := by
  simp [State.planStop]

@[simp] theorem trunk_planTo (s : State) (p : Nat) (b : Bounds) (v : Nat) (target : Int) :
    (State.planTo s p b v target).trunk = s.trunk := by
  simp [State.planTo]

@[simp] theorem trunk_planSpeed (s : State) (p : Nat) (b : Bounds) (v : Nat) (speed : Int) (limit : Bool) :
    (State.planSpeed s p b v speed limit).trunk = s.trunk := by
  simp [State.planSpeed]

@[simp] theorem trunk_showLimit (s : State) (p : Nat) (l : Nat × Nat) : (State.showLimit s p l).trunk = s.trunk := by
  simp [State.showLimit]

@[simp] theorem trunk_planMove (s : State) (p : Nat) (m : Motion) : (State.planMove s p m).trunk = s.trunk := by
  simp [State.planMove]

@[simp] theorem trunk_showSetpoint (s : State) (p : Nat) : (State.showSetpoint s p).trunk = s.trunk := by
  simp [State.showSetpoint]

@[simp] theorem trunk_setpointHere (s : State) (p : Nat) (v : Int) : (State.setpointHere s p v).trunk = s.trunk := by
  simp [State.setpointHere]

@[simp] theorem trunk_finishCmd (s : State) (p : Nat) (code : Option Nat) (result : Nat) :
    (State.finishCmd s p code result).trunk = s.trunk := by
  simp [State.finishCmd] <;> (repeat' split) <;> simp

@[simp] theorem trunk_endMotion (s : State) (p : Nat) (reason : Nat) : (State.endMotion s p reason).trunk = s.trunk := by
  simp [State.endMotion] <;> (repeat' split) <;> simp

@[simp] theorem trunk_endHoming (s : State) (p : Nat) (result : Nat) : (State.endHoming s p result).trunk = s.trunk := by
  simp [State.endHoming]

@[simp] theorem trunk_limitHit (s : State) (p : Nat) (arg : Nat) : (State.limitHit s p arg).trunk = s.trunk := by
  simp [State.limitHit]

@[simp] theorem trunk_quickStop (s : State) (p : Nat) (reason : Nat) : (State.quickStop s p reason).trunk = s.trunk := by
  simp [State.quickStop]

@[simp] theorem trunk_dropMotion (s : State) (p : Nat) : (State.dropMotion s p).trunk = s.trunk := by
  unfold State.dropMotion
  (repeat' split) <;> (try simp [trunk_foldl]) <;> (repeat' split) <;> simp

@[simp] theorem trunk_dropTest (s : State) (p : Nat) : (State.dropTest s p).trunk = s.trunk := by
  simp [State.dropTest]

@[simp] theorem trunk_letGo (s : State) (p : Nat) (cause : Nat) : (State.letGo s p cause).trunk = s.trunk := by
  simp [State.letGo]

@[simp] theorem trunk_removeTorque (s : State) (p : Nat) (state : Nat) (cause : Nat) :
    (State.removeTorque s p state cause).trunk = s.trunk := by
  simp [State.removeTorque]

@[simp] theorem trunk_openMotion (s : State) (p : Nat) (m : Motion) : (State.openMotion s p m).trunk = s.trunk := by
  simp [State.openMotion]

@[simp] theorem trunk_goMoving (s : State) (p : Nat) (m : Motion) : (State.goMoving s p m).trunk = s.trunk := by
  simp [State.goMoving]

@[simp] theorem trunk_closingStart (s : State) (p : Nat) (m : Motion) : (State.closingStart s p m).trunk = s.trunk := by
  simp [State.closingStart]

@[simp] theorem trunk_homePhase (s : State) (p : Nat) (phase : Nat) (speed : Int) :
    (State.homePhase s p phase speed).trunk = s.trunk := by
  simp [State.homePhase]

@[simp] theorem trunk_homeGo (s : State) (p : Nat) : (State.homeGo s p).trunk = s.trunk := by
  simp [State.homeGo]

@[simp] theorem trunk_goMotion (s : State) (p : Nat) (m : Motion) : (State.goMotion s p m).trunk = s.trunk := by
  simp [State.goMotion]

@[simp] theorem trunk_flyStart (s : State) (p : Nat) (m : Motion) : (State.flyStart s p m).trunk = s.trunk := by
  simp [State.flyStart]

@[simp] theorem trunk_beginIdentify (s : State) (p : Nat) : (State.beginIdentify s p).trunk = s.trunk := by
  simp [State.beginIdentify]

@[simp] theorem trunk_beginMotion (s : State) (p : Nat) (m : Motion) (from_ : Nat) (armed : Bool) :
    (State.beginMotion s p m from_ armed).trunk = s.trunk := by
  simp [State.beginMotion]

@[simp] theorem trunk_dropStops (s : State) (p : Nat) : (State.dropStops s p).trunk = s.trunk := by
  simp [State.dropStops, trunk_foldl]

@[simp] theorem trunk_dropWaiting (s : State) (p : Nat) : (State.dropWaiting s p).trunk = s.trunk := by
  simp [State.dropWaiting] <;> (repeat' split) <;> simp

@[simp] theorem trunk_supersede (s : State) (p : Nat) : (State.supersede s p).trunk = s.trunk := by
  simp [State.supersede]

@[simp] theorem trunk_grant (s : State) (p : Nat) (m : Motion) (w : Nat) (g : Grant) (armed : Bool) :
    (State.grant s p m w g armed).trunk = s.trunk := by
  simp [State.grant]

@[simp] theorem trunk_present (s : State) (p : Nat) (m : Motion) : (State.present s p m).1.trunk = s.trunk := by
  simp [State.present] <;> (repeat' split) <;> simp

@[simp] theorem trunk_admitWaiting (s : State) (r : WaitReq) (g : Grant) : (State.admitWaiting s r g).trunk = s.trunk := by
  unfold State.admitWaiting
  refine trunk_foldl _ ?_ _ _
  rintro s ⟨p, w⟩
  simp only
  split <;> simp

@[simp] theorem trunk_reexamine (s : State) (b n : Nat) : (s.reexamine b n).trunk = s.trunk := by
  induction n generalizing s with
  | zero => rfl
  | succ n ih => unfold State.reexamine; (repeat' split) <;> simp [ih]

@[simp] theorem trunk_settle (s : State) (b : Nat) : (State.settle s b).trunk = s.trunk := by
  simp [State.settle]

@[simp] theorem trunk_refuseWaiting (s : State) (b : Nat) (r : WaitReq) (reason : Nat) :
    (State.refuseWaiting s b r reason).trunk = s.trunk := by
  unfold State.refuseWaiting
  simp only
  rw [trunk_foldl]
  · simp
  · intro s x
    split <;> simp

/-! Engine. -/

@[simp] theorem trunk_modHome (s : State) (p : Nat) (f : HomeRec → HomeRec) : (State.modHome s p f).trunk = s.trunk := by
  simp [State.modHome]

@[simp] theorem trunk_failHoming (s : State) (p : Nat) (result : Nat) (quick : Bool) :
    (State.failHoming s p result quick).trunk = s.trunk := by
  simp [State.failHoming]

@[simp] theorem trunk_homingDone (s : State) (p : Nat) : (State.homingDone s p).trunk = s.trunk := by
  simp [State.homingDone]

@[simp] theorem trunk_planPark (s : State) (p : Nat) : (State.planPark s p).trunk = s.trunk := by
  simp [State.planPark]

@[simp] theorem trunk_setReference (s : State) (p : Nat) : (State.setReference s p).trunk = s.trunk := by
  simp [State.setReference]

@[simp] theorem trunk_takeCapture (s : State) (p : Nat) (c : Int) (chatter : Option Nat) :
    (State.takeCapture s p c chatter).trunk = s.trunk := by
  simp [State.takeCapture]

@[simp] theorem trunk_reverseCharge (s : State) (p : Nat) : (State.reverseCharge s p).trunk = s.trunk := by
  simp [State.reverseCharge]

@[simp] theorem trunk_reportTrip (s : State) (p : Nat) (src : Nat) (ch : Nat) (excess : Nat) (injected : Bool) :
    (State.reportTrip s p src ch excess injected).trunk = s.trunk := by
  simp [State.reportTrip]

@[simp] theorem trunk_yieldMotion (s : State) (p : Nat) : (State.yieldMotion s p).trunk = s.trunk := by
  unfold State.yieldMotion
  (repeat' split) <;> (try simp [trunk_foldl]) <;> (repeat' split) <;> simp

@[simp] theorem trunk_reverse (s : State) (p : Nat) : (State.reverse s p).trunk = s.trunk := by
  simp [State.reverse]

@[simp] theorem trunk_brakeReversal (s : State) (p : Nat) (reason : Nat) (b : Bounds) :
    (State.brakeReversal s p reason b).trunk = s.trunk := by
  simp [State.brakeReversal]

@[simp] theorem trunk_trip (s : State) (p : Nat) (src : Nat) (ch : Nat) (excess : Nat) (injected : Bool) :
    (State.trip s p src ch excess injected).trunk = s.trunk := by
  simp [State.trip]

@[simp] theorem trunk_endReversal (s : State) (p : Nat) (reason : Nat) : (State.endReversal s p reason).trunk = s.trunk := by
  simp [State.endReversal]

@[simp] theorem trunk_goReturn (s : State) (p : Nat) (m : Motion) : (State.goReturn s p m).trunk = s.trunk := by
  simp [State.goReturn]

@[simp] theorem trunk_cornerSpeed (s : State) (p : Nat) (arg : Nat) : (State.cornerSpeed s p arg).trunk = s.trunk := by
  simp [State.cornerSpeed]

@[simp] theorem trunk_cornerPush (s : State) (p : Nat) (arg : Nat) : (State.cornerPush s p arg).trunk = s.trunk := by
  simp [State.cornerPush] <;> (repeat' split) <;> simp

@[simp] theorem trunk_cornerMove (s : State) (p : Nat) (action : Nat) (arg : Nat) :
    (State.cornerMove s p action arg).trunk = s.trunk := by
  simp [State.cornerMove] <;> (repeat' split) <;> simp

@[simp] theorem trunk_noteCorner (s : State) (p : Nat) (action : Nat) (arg : Nat) :
    (State.noteCorner s p action arg).trunk = s.trunk := by
  simp [State.noteCorner]

@[simp] theorem trunk_cornersAgain (s : State) (p : Nat) : (State.cornersAgain s p).trunk = s.trunk := by
  simp [State.cornersAgain, trunk_foldl]

@[simp] theorem trunk_updateHeld (s : State) (p : Nat) : (State.updateHeld s p).trunk = s.trunk := by
  simp [State.updateHeld]

@[simp] theorem trunk_moveSetpoint (s : State) (p : Nat) : (State.moveSetpoint s p).1.trunk = s.trunk := by
  simp [State.moveSetpoint]

@[simp] theorem trunk_trackInpos (s : State) (p : Nat) (done : Bool) : (State.trackInpos s p done).trunk = s.trunk := by
  simp [State.trackInpos]

@[simp] theorem trunk_softLimit (s : State) (p : Nat) (up : Bool) : (State.softLimit s p up).trunk = s.trunk := by
  simp [State.softLimit]

@[simp] theorem trunk_toLimit (s : State) (p : Nat) (m : Motion) (b : Bounds) (up : Bool) :
    (State.toLimit s p m b up).trunk = s.trunk := by
  simp [State.toLimit]

@[simp] theorem trunk_replanLimit (s : State) (p : Nat) (m : Motion) (b : Bounds) :
    (State.replanLimit s p m b).trunk = s.trunk := by
  simp [State.replanLimit]

@[simp] theorem trunk_tickMoving (s : State) (p : Nat) (m : Motion) : (State.tickMoving s p m).trunk = s.trunk := by
  simp [State.tickMoving]

@[simp] theorem trunk_finishStop (s : State) (p : Nat) : (State.finishStop s p).trunk = s.trunk := by
  simp [State.finishStop, trunk_foldl]

@[simp] theorem trunk_tickStopping (s : State) (p : Nat) : (State.tickStopping s p).trunk = s.trunk := by
  simp [State.tickStopping]

@[simp] theorem trunk_tickBrake (s : State) (p : Nat) (m : Motion) : (State.tickBrake s p m).trunk = s.trunk := by
  simp [State.tickBrake]

@[simp] theorem trunk_homingPhase (s : State) (p : Nat) (h : HomeRec) (done : Bool) :
    (State.homingPhase s p h done).trunk = s.trunk := by
  simp [State.homingPhase] <;> (repeat' split) <;> simp

@[simp] theorem trunk_homeLimit (s : State) (p : Nat) : (State.homeLimit s p).trunk = s.trunk := by
  simp [State.homeLimit] <;> (repeat' split) <;> simp

@[simp] theorem trunk_tickHoming (s : State) (p : Nat) : (State.tickHoming s p).trunk = s.trunk := by
  simp [State.tickHoming]

@[simp] theorem trunk_tickReversal (s : State) (p : Nat) (m : Motion) : (State.tickReversal s p m).trunk = s.trunk := by
  simp [State.tickReversal]

@[simp] theorem trunk_showFollow (s : State) (p : Nat) : (State.showFollow s p).trunk = s.trunk := by
  simp [State.showFollow]

@[simp] theorem trunk_interimCurd (s : State) (p : Nat) (m : Motion) : (State.interimCurd s p m).trunk = s.trunk := by
  simp [State.interimCurd] <;> (repeat' split) <;> simp

@[simp] theorem trunk_tick (s : State) (p : Nat) : (State.tick s p).trunk = s.trunk := by
  simp [State.tick] <;> (repeat' split) <;> simp

/-! MotionCmds. -/

@[simp] theorem trunk_axisCommand (s : State) (q : Req) (c : Cmd) (h : c.Keeps) : (s.axisCommand q c).trunk = s.trunk := by
  simp [State.axisCommand, h]

@[simp] theorem trunk_atAxis (s : State) (a : Fin 32) (f : State → Nat → State) (h : ∀ s p, (f s p).trunk = s.trunk) :
    (s.atAxis a f).trunk = s.trunk := by
  simp [State.atAxis, h]

@[simp] theorem trunk_arm (s : State) (p : Nat) (m : Motion) : (State.arm s p m).trunk = s.trunk := by
  simp [State.arm]

@[simp] theorem keeps_cmdMove (p : Nat) (opc : Nat) : (cmdMove p opc).Keeps := by
  constructor
  · intro s q a b
    simp [cmdMove]
  · intro s q
    simp [cmdMove]

@[simp] theorem keeps_cmdStop (p : Nat) : (cmdStop p).Keeps := by
  constructor
  · intro s q a b
    simp [cmdStop]
  · intro s q
    simp [cmdStop]

@[simp] theorem keeps_cmdQuickStop (p : Nat) : (cmdQuickStop p).Keeps := by
  constructor
  · intro s q a b
    simp [cmdQuickStop]
  · intro s q
    simp [cmdQuickStop]

@[simp] theorem keeps_cmdGroupGo  : cmdGroupGo.Keeps := by
  constructor
  · intro s q a b
    simp [cmdGroupGo]
  · intro s q
    simp [cmdGroupGo]

@[simp] theorem keeps_cmdDisarm (p : Nat) : (cmdDisarm p).Keeps := by
  constructor
  · intro s q a b
    simp [cmdDisarm]
  · intro s q
    simp [cmdDisarm]

@[simp] theorem keeps_cmdRelease (p : Nat) : (cmdRelease p).Keeps := by
  constructor
  · intro s q a b
    simp [cmdRelease]
  · intro s q
    simp [cmdRelease]

@[simp] theorem keeps_cmdEngage (p : Nat) : (cmdEngage p).Keeps := by
  constructor
  · intro s q a b
    simp [cmdEngage]
  · intro s q
    simp [cmdEngage]

@[simp] theorem keeps_cmdSetPosition (p : Nat) : (cmdSetPosition p).Keeps := by
  constructor
  · intro s q a b
    simp [cmdSetPosition]
  · intro s q
    simp [cmdSetPosition]

@[simp] theorem trunk_homeHere (s : State) (p : Nat) (m : Motion) : (State.homeHere s p m).trunk = s.trunk := by
  simp [State.homeHere]

@[simp] theorem keeps_cmdHome (p : Nat) : (cmdHome p).Keeps := by
  constructor
  · intro s q a b
    simp [cmdHome]
  · intro s q
    simp [cmdHome]

@[simp] theorem keeps_execMoveAbs (t : Nat) (q : Req) (s : State) : OutcomeKeeps (s.start t).trunk (execMoveAbs t q s) := by
  simp [execMoveAbs]

@[simp] theorem keeps_execMoveRel (t : Nat) (q : Req) (s : State) : OutcomeKeeps (s.start t).trunk (execMoveRel t q s) := by
  simp [execMoveRel]

@[simp] theorem keeps_execMoveVel (t : Nat) (q : Req) (s : State) : OutcomeKeeps (s.start t).trunk (execMoveVel t q s) := by
  simp [execMoveVel]

@[simp] theorem keeps_execMotionStop (t : Nat) (q : Req) (s : State) : OutcomeKeeps (s.start t).trunk (execMotionStop t q s) := by
  simp [execMotionStop]

@[simp] theorem keeps_execQuickStop (t : Nat) (q : Req) (s : State) : OutcomeKeeps (s.start t).trunk (execQuickStop t q s) := by
  simp [execQuickStop]

@[simp] theorem keeps_execGroupGo (t : Nat) (q : Req) (s : State) : OutcomeKeeps (s.start t).trunk (execGroupGo t q s) := by
  simp [execGroupGo]

@[simp] theorem keeps_execDisarm (t : Nat) (q : Req) (s : State) : OutcomeKeeps (s.start t).trunk (execDisarm t q s) := by
  simp [execDisarm]

@[simp] theorem keeps_execReleaseAxis (t : Nat) (q : Req) (s : State) : OutcomeKeeps (s.start t).trunk (execReleaseAxis t q s) := by
  simp [execReleaseAxis]

@[simp] theorem keeps_execEngageAxis (t : Nat) (q : Req) (s : State) : OutcomeKeeps (s.start t).trunk (execEngageAxis t q s) := by
  simp [execEngageAxis]

@[simp] theorem keeps_execSetPosition (t : Nat) (q : Req) (s : State) : OutcomeKeeps (s.start t).trunk (execSetPosition t q s) := by
  simp [execSetPosition]

@[simp] theorem keeps_execHomeAxis (t : Nat) (q : Req) (s : State) : OutcomeKeeps (s.start t).trunk (execHomeAxis t q s) := by
  simp [execHomeAxis]

@[simp] theorem keeps_execStartLine (t : Nat) (g : Fin 8) (s : State) : OutcomeKeeps (s.start t).trunk (execStartLine t g s) := by
  simp [execStartLine]

@[simp] theorem trunk_decideGroup (s : State) (b : Nat) (g : Nat) (ms : List Nat) :
    (State.decideGroup s b g ms).trunk = s.trunk := by
  unfold State.decideGroup
  (repeat' split) <;> (try simp) <;> (repeat' split) <;> simp [trunk_foldl]

@[simp] theorem keeps_execRationRequest (t : Nat) (b : Fin 2) (s : State) :
    OutcomeKeeps (s.start t).trunk (execRationRequest t b s) := by
  simp [execRationRequest, trunk_foldl]

@[simp] theorem keeps_execRationTimeout (t : Nat) (b : Fin 2) (s : State) :
    OutcomeKeeps (s.start t).trunk (execRationTimeout t b s) := by
  simp [execRationTimeout, trunk_foldl]

@[simp] theorem keeps_execPositionLoopTick (t : Nat) (a : Fin 32) (s : State) :
    OutcomeKeeps (s.start t).trunk (execPositionLoopTick t a s) := by
  simp [execPositionLoopTick]

@[simp] theorem trunk_inposReached (s : State) (p : Nat) : (State.inposReached s p).trunk = s.trunk := by
  simp [State.inposReached] <;> (repeat' split) <;> simp

@[simp] theorem keeps_execInposReached (t : Nat) (a : Fin 32) (s : State) :
    OutcomeKeeps (s.start t).trunk (execInposReached t a s) := by
  simp [execInposReached]

@[simp] theorem keeps_execFlyMeasureDone (t : Nat) (a : Fin 32) (s : State) :
    OutcomeKeeps (s.start t).trunk (execFlyMeasureDone t a s) := by
  unfold execFlyMeasureDone
  rw [outcomeKeeps_next, trunk_atAxis]
  intro s p
  (repeat' split) <;> simp

@[simp] theorem keeps_execPushDone (t : Nat) (a : Fin 32) (s : State) : OutcomeKeeps (s.start t).trunk (execPushDone t a s) := by
  simp [execPushDone]

@[simp] theorem trunk_afterLimit (s : State) (p : Nat) : (State.afterLimit s p).trunk = s.trunk := by
  simp [State.afterLimit]

@[simp] theorem keeps_execLimitWrite (t : Nat) (code : Nat) (gen : Nat) (a : Fin 32) (pos : Bool) (value : Word) (s : State) :
    OutcomeKeeps (s.start t).trunk (execLimitWrite t code gen a pos value s) := by
  simp [execLimitWrite]

@[simp] theorem trunk_switchRaw (s : State) (p : Nat) (k : Nat) (high : Bool) : (State.switchRaw s p k high).trunk = s.trunk := by
  simp [State.switchRaw]

@[simp] theorem keeps_execSwitchRawEdge (t : Nat) (a : Fin 32) (k : Fin 3) (high : Bool) (s : State) :
    OutcomeKeeps (s.start t).trunk (execSwitchRawEdge t a k high s) := by
  simp [execSwitchRawEdge]

@[simp] theorem trunk_showSwitches (s : State) (p : Nat) : (State.showSwitches s p).trunk = s.trunk := by
  simp [State.showSwitches]

@[simp] theorem trunk_hwLimit (s : State) (p : Nat) (role : Nat) : (State.hwLimit s p role).trunk = s.trunk := by
  simp [State.hwLimit]

@[simp] theorem trunk_homeEdge (s : State) (p : Nat) (k : Nat) (role : Nat) : (State.homeEdge s p k role).trunk = s.trunk := by
  simp [State.homeEdge]

@[simp] theorem trunk_switchQualified (s : State) (p : Nat) (k : Nat) : (State.switchQualified s p k).trunk = s.trunk := by
  simp [State.switchQualified]

@[simp] theorem keeps_execSwitchQualified (t : Nat) (a : Fin 32) (k : Fin 3) (s : State) :
    OutcomeKeeps (s.start t).trunk (execSwitchQualified t a k s) := by
  simp [execSwitchQualified]

@[simp] theorem keeps_execHomeChatterEnd (t : Nat) (a : Fin 32) (s : State) :
    OutcomeKeeps (s.start t).trunk (execHomeChatterEnd t a s) := by
  unfold execHomeChatterEnd
  rw [outcomeKeeps_next, trunk_atAxis]
  intro s p
  (repeat' split) <;> simp

@[simp] theorem keeps_execHomeDwellDone (t : Nat) (a : Fin 32) (s : State) :
    OutcomeKeeps (s.start t).trunk (execHomeDwellDone t a s) := by
  unfold execHomeDwellDone
  rw [outcomeKeeps_next, trunk_atAxis]
  intro s p
  (repeat' split) <;> simp

@[simp] theorem keeps_execHomeTimeout (t : Nat) (a : Fin 32) (s : State) :
    OutcomeKeeps (s.start t).trunk (execHomeTimeout t a s) := by
  simp [execHomeTimeout]

/-! Drive. -/

@[simp] theorem keeps_cmdEnable (p : Nat) : (cmdEnable p).Keeps := by
  constructor
  · intro s q a b
    simp [cmdEnable]
  · intro s q
    simp [cmdEnable]

@[simp] theorem trunk_testEnd (s : State) (p : Nat) (open_ : Nat) (failed : Nat) :
    (State.testEnd s p open_ failed).trunk = s.trunk := by
  simp [State.testEnd]

@[simp] theorem keeps_cmdDisable (p : Nat) : (cmdDisable p).Keeps := by
  constructor
  · intro s q a b
    simp [cmdDisable]
  · intro s q
    simp [cmdDisable]

@[simp] theorem keeps_cmdFaultReset (p : Nat) : (cmdFaultReset p).Keeps := by
  constructor
  · intro s q a b
    simp [cmdFaultReset]
  · intro s q
    simp [cmdFaultReset]

@[simp] theorem keeps_cmdIdentify (p : Nat) : (cmdIdentify p).Keeps := by
  constructor
  · intro s q a b
    simp [cmdIdentify]
  · intro s q
    simp [cmdIdentify]

@[simp] theorem trunk_showFound (s : State) (p : Nat) (m : Nat) (r : IdFound) : (State.showFound s p m r).trunk = s.trunk := by
  simp [State.showFound]

@[simp] theorem trunk_applyFound (s : State) (code : Nat) (p : Nat) (m : Nat) : (State.applyFound s code p m).trunk = s.trunk := by
  simp [State.applyFound]

@[simp] theorem trunk_identifyEnd (s : State) (p : Nat) (r : IdFound) : (State.identifyEnd s p r).trunk = s.trunk := by
  simp [State.identifyEnd] <;> (repeat' split) <;> simp

@[simp] theorem keeps_execEnableAxis (t : Nat) (q : Req) (s : State) : OutcomeKeeps (s.start t).trunk (execEnableAxis t q s) := by
  simp [execEnableAxis]

@[simp] theorem keeps_execPhaseTestDone (t : Nat) (a : Fin 32) (open_ : Fin 4) (failed : Fin 8) (s : State) :
    OutcomeKeeps (s.start t).trunk (execPhaseTestDone t a open_ failed s) := by
  simp [execPhaseTestDone]

@[simp] theorem keeps_execDisableAxis (t : Nat) (q : Req) (s : State) : OutcomeKeeps (s.start t).trunk (execDisableAxis t q s) := by
  simp [execDisableAxis]

@[simp] theorem keeps_execFaultReset (t : Nat) (q : Req) (s : State) : OutcomeKeeps (s.start t).trunk (execFaultReset t q s) := by
  simp [execFaultReset]

@[simp] theorem keeps_execIdentify (t : Nat) (q : Req) (s : State) : OutcomeKeeps (s.start t).trunk (execIdentify t q s) := by
  simp [execIdentify]

@[simp] theorem keeps_execIdentifyDone (t : Nat) (a : Fin 32) (r : IdFound) (s : State) :
    OutcomeKeeps (s.start t).trunk (execIdentifyDone t a r s) := by
  simp [execIdentifyDone]

@[simp] theorem keeps_execOvercurrent (t : Nat) (a : Fin 32) (s : State) :
    OutcomeKeeps (s.start t).trunk (execOvercurrent t a s) := by
  simp [execOvercurrent]

@[simp] theorem trunk_senseOne (s : State) (p : Nat) (sensor : Nat) : (State.senseOne s p sensor).trunk = s.trunk := by
  simp [State.senseOne]

@[simp] theorem keeps_execSenseFailure (t : Nat) (a : Fin 32) (agree : Fin 8) (s : State) :
    OutcomeKeeps (s.start t).trunk (execSenseFailure t a agree s) := by
  simp [execSenseFailure] <;> (repeat' split) <;> simp

@[simp] theorem keeps_execPhaseOpen (t : Nat) (a : Fin 32) (phase : Fin 3) (s : State) :
    OutcomeKeeps (s.start t).trunk (execPhaseOpen t a phase s) := by
  simp [execPhaseOpen]

@[simp] theorem keeps_execStageOvertemp (t : Nat) (a : Fin 32) (temp : Int) (s : State) :
    OutcomeKeeps (s.start t).trunk (execStageOvertemp t a temp s) := by
  simp [execStageOvertemp]

@[simp] theorem keeps_execFollowingError (t : Nat) (a : Fin 32) (s : State) :
    OutcomeKeeps (s.start t).trunk (execFollowingError t a s) := by
  unfold execFollowingError
  rw [outcomeKeeps_next, trunk_atAxis]
  intro s p
  (repeat' split) <;> simp

@[simp] theorem keeps_execAngleLost (t : Nat) (a : Fin 32) (s : State) : OutcomeKeeps (s.start t).trunk (execAngleLost t a s) := by
  simp [execAngleLost]

@[simp] theorem trunk_busLevel (s : State) (b : Nat) (bit : Nat) (f : Field) : (State.busLevel s b bit f).trunk = s.trunk := by
  simp [State.busLevel]

@[simp] theorem trunk_lockChopper (s : State) (b : Nat) (on : Bool) : (State.lockChopper s b on).trunk = s.trunk := by
  simp [State.lockChopper]

@[simp] theorem keeps_execBrakeChopper (t : Nat) (b : Fin 2) (mv : Nat) (s : State) :
    OutcomeKeeps (s.start t).trunk (execBrakeChopper t b mv s) := by
  simp [execBrakeChopper]

@[simp] theorem keeps_execChopperOvercurrent (t : Nat) (b : Fin 2) (s : State) :
    OutcomeKeeps (s.start t).trunk (execChopperOvercurrent t b s) := by
  simp [execChopperOvercurrent]

@[simp] theorem keeps_execChopperModelCooled (t : Nat) (b : Fin 2) (s : State) :
    OutcomeKeeps (s.start t).trunk (execChopperModelCooled t b s) := by
  simp [execChopperModelCooled]

@[simp] theorem trunk_driveLimit (s : State) (p : Nat) : (State.driveLimit s p).trunk = s.trunk := by
  simp [State.driveLimit]

@[simp] theorem keeps_execRegenLimited (t : Nat) (b : Fin 2) (mv : Nat) (s : State) :
    OutcomeKeeps (s.start t).trunk (execRegenLimited t b mv s) := by
  simp [execRegenLimited]

@[simp] theorem keeps_execRationConfigWrite (t : Nat) (code : Nat) (gen : Nat) (b : Fin 2) (reg : Fin 5) (value : Word) (s : State) :
    OutcomeKeeps (s.start t).trunk (execRationConfigWrite t code gen b reg value s) := by
  simp [execRationConfigWrite]

@[simp] theorem keeps_execBusOverload (t : Nat) (b : Fin 2) (watts : Int) (amps : Int) (s : State) :
    OutcomeKeeps (s.start t).trunk (execBusOverload t b watts amps s) := by
  simp [execBusOverload]

/-! Loops. -/

@[simp] theorem trunk_heatUp (s : State) (p : Nat) : (State.heatUp s p).trunk = s.trunk := by
  simp [State.heatUp]

@[simp] theorem trunk_showLimits (s : State) (p : Nat) : (State.showLimits s p).trunk = s.trunk := by
  simp [State.showLimits]

@[simp] theorem trunk_showEstimate (s : State) (p : Nat) (c : CurSample) : (State.showEstimate s p c).trunk = s.trunk := by
  simp [State.showEstimate]

@[simp] theorem trunk_showVoltage (s : State) (p : Nat) : (State.showVoltage s p).trunk = s.trunk := by
  simp [State.showVoltage]

@[simp] theorem trunk_decidePass (s : State) (p : Nat) : (State.decidePass s p).trunk = s.trunk := by
  simp [State.decidePass]

@[simp] theorem trunk_emulate (s : State) (p : Nat) : (State.emulate s p).trunk = s.trunk := by
  simp [State.emulate]

@[simp] theorem trunk_showCurrents (s : State) (p : Nat) (c : CurSample) : (State.showCurrents s p c).trunk = s.trunk := by
  simp [State.showCurrents]

@[simp] theorem keeps_execCurrentLoopTick (t : Nat) (a : Fin 32) (c : CurSample) (s : State) :
    OutcomeKeeps (s.start t).trunk (execCurrentLoopTick t a c s) := by
  simp [execCurrentLoopTick]

@[simp] theorem trunk_computeSpeed (s : State) (p : Nat) : (State.computeSpeed s p).trunk = s.trunk := by
  simp [State.computeSpeed]

@[simp] theorem trunk_askedForce (s : State) (p : Nat) : (State.askedForce s p).2.trunk = s.trunk := by
  simp [State.askedForce]

@[simp] theorem trunk_cutForce (s : State) (p : Nat) (f : Int) : (State.cutForce s p f).trunk = s.trunk := by
  simp [State.cutForce]

@[simp] theorem trunk_runVelocity (s : State) (p : Nat) : (State.runVelocity s p).trunk = s.trunk := by
  simp [State.runVelocity]

@[simp] theorem trunk_modelForce (s : State) (p : Nat) : (State.modelForce s p).trunk = s.trunk := by
  simp [State.modelForce]

@[simp] theorem trunk_forceDecision (s : State) (p : Nat) : (State.forceDecision s p).trunk = s.trunk := by
  simp [State.forceDecision]

@[simp] theorem trunk_gather (s : State) (p : Nat) : (State.gather s p).trunk = s.trunk := by
  simp [State.gather]

@[simp] theorem keeps_execVelocityLoopTick (t : Nat) (a : Fin 32) (s : State) :
    OutcomeKeeps (s.start t).trunk (execVelocityLoopTick t a s) := by
  simp [execVelocityLoopTick]

/-! Feedback. -/

@[simp] theorem trunk_fbUnref (s : State) (p : Nat) : (State.fbUnref s p).trunk = s.trunk := by
  simp [State.fbUnref]

@[simp] theorem trunk_fbProbe (s : State) (p : Nat) : (State.fbProbe s p).trunk = s.trunk := by
  simp [State.fbProbe]

@[simp] theorem trunk_fbOff (s : State) (p : Nat) : (State.fbOff s p).trunk = s.trunk := by
  simp [State.fbOff]

@[simp] theorem keeps_cmdFbProbe (p : Nat) : (cmdFbProbe p).Keeps := by
  constructor
  · intro s q a b
    simp [cmdFbProbe]
  · intro s q
    simp [cmdFbProbe]

@[simp] theorem trunk_showRaw (s : State) (p : Nat) (raw : Nat) : (State.showRaw s p raw).trunk = s.trunk := by
  simp [State.showRaw]

@[simp] theorem trunk_adoptLength (s : State) (p : Nat) (r : ProbeFound) : (State.adoptLength s p r).trunk = s.trunk := by
  simp [State.adoptLength] <;> (repeat' split) <;> simp

@[simp] theorem trunk_checkTiming (s : State) (p : Nat) : (State.checkTiming s p).trunk = s.trunk := by
  simp [State.checkTiming]

@[simp] theorem trunk_arrive (s : State) (p : Nat) (r : ProbeFound) : (State.arrive s p r).trunk = s.trunk := by
  simp [State.arrive]

@[simp] theorem trunk_probeDecision (s : State) (p : Nat) (r : ProbeFound) : (State.probeDecision s p r).trunk = s.trunk := by
  simp [State.probeDecision]

@[simp] theorem keeps_execFbProbe (t : Nat) (q : Req) (s : State) : OutcomeKeeps (s.start t).trunk (execFbProbe t q s) := by
  simp [execFbProbe]

@[simp] theorem keeps_execProbeDecision (t : Nat) (a : Fin 32) (r : ProbeFound) (s : State) :
    OutcomeKeeps (s.start t).trunk (execProbeDecision t a r s) := by
  simp [execProbeDecision]

@[simp] theorem keeps_execProbeRetry (t : Nat) (a : Fin 32) (s : State) :
    OutcomeKeeps (s.start t).trunk (execProbeRetry t a s) := by
  simp [execProbeRetry]

@[simp] theorem keeps_execSensorDeparted (t : Nat) (a : Fin 32) (s : State) :
    OutcomeKeeps (s.start t).trunk (execSensorDeparted t a s) := by
  simp [execSensorDeparted]

@[simp] theorem trunk_badFrame (s : State) (p : Nat) (cause : Nat) : (State.badFrame s p cause).trunk = s.trunk := by
  simp [State.badFrame]

@[simp] theorem trunk_frameWarn (s : State) (p : Nat) (w : SerialWord) : (State.frameWarn s p w).trunk = s.trunk := by
  simp [State.frameWarn]

@[simp] theorem trunk_stepCount (s : State) (p : Nat) (raw : Nat) : (State.stepCount s p raw).trunk = s.trunk := by
  simp [State.stepCount]

@[simp] theorem trunk_goodFrame (s : State) (p : Nat) (w : SerialWord) : (State.goodFrame s p w).trunk = s.trunk := by
  simp [State.goodFrame]

@[simp] theorem trunk_serialFrame (s : State) (p : Nat) (w : SerialWord) : (State.serialFrame s p w).trunk = s.trunk := by
  simp [State.serialFrame]

@[simp] theorem keeps_execSerialFrame (t : Nat) (a : Fin 32) (w : SerialWord) (s : State) :
    OutcomeKeeps (s.start t).trunk (execSerialFrame t a w s) := by
  simp [execSerialFrame]

@[simp] theorem keeps_execSerialFrameStart (t : Nat) (a : Fin 32) (s : State) :
    OutcomeKeeps (s.start t).trunk (execSerialFrameStart t a s) := by
  simp [execSerialFrameStart]

@[simp] theorem trunk_countEdge (s : State) (p : Nat) (d : Int) : (State.countEdge s p d).trunk = s.trunk := by
  simp [State.countEdge]

@[simp] theorem trunk_quadEdge (s : State) (p : Nat) (a : Bool) (b : Bool) : (State.quadEdge s p a b).trunk = s.trunk := by
  simp [State.quadEdge]

@[simp] theorem keeps_execQuadEdge (t : Nat) (a : Fin 32) (la : Bool) (lb : Bool) (s : State) :
    OutcomeKeeps (s.start t).trunk (execQuadEdge t a la lb s) := by
  simp [execQuadEdge]

@[simp] theorem trunk_hallError (s : State) (p : Nat) : (State.hallError s p).trunk = s.trunk := by
  simp [State.hallError]

@[simp] theorem trunk_hallCode (s : State) (p : Nat) (code : Nat) : (State.hallCode s p code).trunk = s.trunk := by
  simp [State.hallCode] <;> (repeat' split) <;> simp

@[simp] theorem keeps_execHallCode (t : Nat) (a : Fin 32) (code : Fin 8) (s : State) :
    OutcomeKeeps (s.start t).trunk (execHallCode t a code s) := by
  simp [execHallCode]

@[simp] theorem trunk_indexPulse (s : State) (p : Nat) : (State.indexPulse s p).trunk = s.trunk := by
  simp [State.indexPulse]

@[simp] theorem keeps_execIndexPulse (t : Nat) (a : Fin 32) (s : State) :
    OutcomeKeeps (s.start t).trunk (execIndexPulse t a s) := by
  simp [execIndexPulse]

@[simp] theorem keeps_execLineFault (t : Nat) (a : Fin 32) (s : State) : OutcomeKeeps (s.start t).trunk (execLineFault t a s) := by
  simp [execLineFault]

@[simp] theorem keeps_execFbFaultRecover (t : Nat) (a : Fin 32) (s : State) :
    OutcomeKeeps (s.start t).trunk (execFbFaultRecover t a s) := by
  simp [execFbFaultRecover]

@[simp] theorem keeps_execSensorSupplyTrip (t : Nat) (a : Fin 32) (s : State) :
    OutcomeKeeps (s.start t).trunk (execSensorSupplyTrip t a s) := by
  simp [execSensorSupplyTrip]

@[simp] theorem trunk_fbConfigured (s : State) (p : Nat) (off : Nat) (old : Word) :
    (State.fbConfigured s p off old).trunk = s.trunk := by
  simp [State.fbConfigured]

@[simp] theorem keeps_execFbConfigWrite (t : Nat) (code : Nat) (gen : Nat) (a : Fin 32) (reg : Fin 7) (value : Word) (s : State) :
    OutcomeKeeps (s.start t).trunk (execFbConfigWrite t code gen a reg value s) := by
  simp [execFbConfigWrite]

@[simp] theorem keeps_cmdFbClear (p : Nat) : (cmdFbClear p).Keeps := by
  constructor
  · intro s q a b
    simp [cmdFbClear]
  · intro s q
    simp [cmdFbClear]

@[simp] theorem keeps_execFbCountersClear (t : Nat) (q : Req) (s : State) :
    OutcomeKeeps (s.start t).trunk (execFbCountersClear t q s) := by
  simp [execFbCountersClear]

@[simp] theorem keeps_execHallFaultClear (t : Nat) (a : Fin 32) (s : State) :
    OutcomeKeeps (s.start t).trunk (execHallFaultClear t a s) := by
  simp [execHallFaultClear]

/-! Profiles. -/

@[simp] theorem trunk_recheckField (s : State) (p : Nat) (off : Nat) (r : RegField × Nat × Nat) :
    (State.recheckField s p off r).trunk = s.trunk := by
  simp [State.recheckField]

@[simp] theorem trunk_recheckLoops (s : State) (bus : Nat) : (State.recheckLoops s bus).trunk = s.trunk := by
  unfold State.recheckLoops
  refine trunk_each _ _ _ fun s p => trunk_each _ _ _ fun s o => trunk_foldl _ (fun s r => ?_) _ _
  simp

@[simp] theorem trunk_recheckPorts (s : State) (bus : Nat) : (State.recheckPorts s bus).trunk = s.trunk := by
  simp [State.recheckPorts]

@[simp] theorem keeps_cmdProfileApply  : cmdProfileApply.Keeps := by
  constructor
  · intro s q a b
    simp [cmdProfileApply]
  · intro s q
    simp [cmdProfileApply]

@[simp] theorem keeps_execProfileApply (t : Nat) (q : Req) (s : State) :
    OutcomeKeeps (s.start t).trunk (execProfileApply t q s) := by
  simp [execProfileApply]

/-! Operands. -/

@[simp] theorem trunk_setCle (s : State) (l : Lane) (c : CleRec) : (State.setCle s l c).trunk = s.trunk := by cases s; rfl

end Sys2Proof.Machine
end

