-- ==== Sys2Proof/Laws/TrunkFields.lean ====
section
/-! SUPPORT. The frame of the memories, the Vats, the dumps, the safe-output unit, the sessions, the slots, the field inputs and outputs and the loads:
each keeps the instant, the boot count and the queue of the state it starts from. -/

namespace Sys2Proof.Machine

/-! Memory. -/

@[simp] theorem trunk_setMem (s : State) (l : Lane) (m : MemRec) : (State.setMem s l m).trunk = s.trunk := by
  simp [State.setMem]

@[simp] theorem trunk_eccCorrected (s : State) (l : Lane) : (State.eccCorrected s l).trunk = s.trunk := by
  simp [State.eccCorrected]

@[simp] theorem trunk_eccUncorrected (s : State) (l : Lane) (port : Nat) (addr : Nat) :
    (State.eccUncorrected s l port addr).trunk = s.trunk := by
  simp [State.eccUncorrected]

@[simp] theorem trunk_collision (s : State) (l : Lane) (winner : Nat) (loser : Nat) (addr : Nat) :
    (State.collision s l winner loser addr).trunk = s.trunk := by
  simp [State.collision]

@[simp] theorem trunk_bankClash (s : State) (l : Lane) (x : BankClock) : (State.bankClash s l x).trunk = s.trunk := by
  simp [State.bankClash]

@[simp] theorem trunk_readMram (s : State) (l : Lane) : (State.readMram s l).trunk = s.trunk := by
  simp [State.readMram, trunk_foldl]

@[simp] theorem trunk_wakeSegment (s : State) (l : Lane) (seg : Nat) (us : Nat) :
    (State.wakeSegment s l seg us).trunk = s.trunk := by
  simp [State.wakeSegment]

@[simp] theorem trunk_wakeUsed (s : State) (l : Lane) : (State.wakeUsed s l).trunk = s.trunk := by
  simp [State.wakeUsed]

@[simp] theorem keeps_execSegmentWake (t : Nat) (l : Lane) (seg : Fin 16) (us : Fin 41) (s : State) :
    OutcomeKeeps (s.start t).trunk (execSegmentWake t l seg us s) := by
  simp [execSegmentWake]

@[simp] theorem keeps_execSegmentRetention (t : Nat) (l : Lane) (seg : Fin 16) (idleMs : Nat) (s : State) :
    OutcomeKeeps (s.start t).trunk (execSegmentRetention t l seg idleMs s) := by
  simp [execSegmentRetention]

@[simp] theorem keeps_cmdMemClear  : cmdMemClear.Keeps := by
  constructor
  · intro s q a b
    simp [cmdMemClear]
  · intro s q
    simp [cmdMemClear]

@[simp] theorem keeps_execMemCountersClear (t : Nat) (q : Req) (s : State) :
    OutcomeKeeps (s.start t).trunk (execMemCountersClear t q s) := by
  simp [execMemCountersClear]

@[simp] theorem keeps_cmdBtRestart  : cmdBtRestart.Keeps := by
  constructor
  · intro s q a b
    simp [cmdBtRestart]
  · intro s q
    simp [cmdBtRestart]

@[simp] theorem keeps_execBtRestart (t : Nat) (q : Req) (s : State) : OutcomeKeeps (s.start t).trunk (execBtRestart t q s) := by
  simp [execBtRestart]

@[simp] theorem trunk_showSecLoaded (s : State) : (State.showSecLoaded s).trunk = s.trunk := by
  simp [State.showSecLoaded]

@[simp] theorem trunk_wipe (s : State) (a : Bool) (b : Bool) (cause : Nat) (state : Nat) :
    (State.wipe s a b cause state).trunk = s.trunk := by
  simp [State.wipe]

@[simp] theorem keeps_cmdSecureWipe  : cmdSecureWipe.Keeps := by
  constructor
  · intro s q a b
    simp [cmdSecureWipe]
  · intro s q
    simp [cmdSecureWipe]

@[simp] theorem keeps_execSecureWipe (t : Nat) (q : Req) (s : State) : OutcomeKeeps (s.start t).trunk (execSecureWipe t q s) := by
  simp [execSecureWipe]

/-! Vat. -/

@[simp] theorem trunk_setVatState (s : State) (l : Lane) (n : Nat) : (State.setVatState s l n).trunk = s.trunk := by
  simp [State.setVatState]

@[simp] theorem trunk_showLag (s : State) (l : Lane) : (State.showLag s l).trunk = s.trunk := by
  simp [State.showLag]

@[simp] theorem trunk_storeCurd (s : State) (l : Lane) (r : VatCurd) : (State.storeCurd s l r).trunk = s.trunk := by
  simp [State.storeCurd]

@[simp] theorem trunk_linkCapture (s : State) (c : Curd) (seq : Nat) : (State.linkCapture s c seq).trunk = s.trunk := by
  simp [State.linkCapture] <;> (repeat' split) <;> simp

@[simp] theorem trunk_originate (s : State) (l : Lane) (c : Curd) : (State.originate s l c).trunk = s.trunk := by
  simp [State.originate]

@[simp] theorem keeps_execCurdRecord (t : Nat) (axis : Fin 32) (s : State) :
    OutcomeKeeps (s.start t).trunk (execCurdRecord t axis s) := by
  simp [execCurdRecord] <;> (repeat' split) <;> simp

@[simp] theorem trunk_receiveMirror (s : State) (l : Lane) (r : VatCurd) : (State.receiveMirror s l r).trunk = s.trunk := by
  simp [State.receiveMirror]

@[simp] theorem trunk_mirrorReport (s : State) (l : Lane) (n : Nat) : (State.mirrorReport s l n).trunk = s.trunk := by
  simp [State.mirrorReport]

@[simp] theorem trunk_mirrorAgain (s : State) (l : Lane) : (State.mirrorAgain s l).trunk = s.trunk := by
  simp [State.mirrorAgain]

@[simp] theorem keeps_execMirrorResend (t : Nat) (l : Lane) (s : State) :
    OutcomeKeeps (s.start t).trunk (execMirrorResend t l s) := by
  simp [execMirrorResend] <;> (repeat' split) <;> simp

@[simp] theorem keeps_execMirrorBehindTimeout (t : Nat) (l : Lane) (s : State) :
    OutcomeKeeps (s.start t).trunk (execMirrorBehindTimeout t l s) := by
  simp [execMirrorBehindTimeout] <;> (repeat' split) <;> simp

@[simp] theorem trunk_dropCapture (s : State) (l : Lane) (axis : Nat) : (State.dropCapture s l axis).trunk = s.trunk := by
  simp [State.dropCapture]

@[simp] theorem trunk_halveCapture (s : State) (l : Lane) (c : Capture) : (State.halveCapture s l c).trunk = s.trunk := by
  simp [State.halveCapture]

@[simp] theorem trunk_fillActions (s : State) (l : Lane) : (State.fillActions s l).trunk = s.trunk := by
  simp [State.fillActions, trunk_foldl]

@[simp] theorem trunk_captureTake (s : State) (l : Lane) (c : Capture) (sig : List Int) :
    (State.captureTake s l c sig).trunk = s.trunk := by
  simp [State.captureTake]

@[simp] theorem keeps_execCaptureSample (t : Nat) (axis : Fin 32) (s : State) :
    OutcomeKeeps (s.start t).trunk (execCaptureSample t axis s) := by
  simp [execCaptureSample] <;> (repeat' split) <;> simp

@[simp] theorem keeps_execCaptureEnd (t : Nat) (axis : Fin 32) (s : State) :
    OutcomeKeeps (s.start t).trunk (execCaptureEnd t axis s) := by
  simp [execCaptureEnd] <;> (repeat' split) <;> simp

@[simp] theorem keeps_execHeartbeatLapse (t : Nat) (l : Lane) (page : Nat) (s : State) :
    OutcomeKeeps (s.start t).trunk (execHeartbeatLapse t l page s) := by
  simp [execHeartbeatLapse]

@[simp] theorem trunk_nand (s : State) (l : Lane) (h : NandReport) : (State.nand s l h).trunk = s.trunk := by
  simp [State.nand, trunk_foldl]

@[simp] theorem trunk_program (s : State) (l : Lane) (p : Nat) (n : Nat) : (State.program s l p n).trunk = s.trunk := by
  simp [State.program]

@[simp] theorem keeps_execVatUnitProgrammed (t : Nat) (l : Lane) (part : Fin 5) (h : NandReport) (s : State) :
    OutcomeKeeps (s.start t).trunk (execVatUnitProgrammed t l part h s) := by
  simp [execVatUnitProgrammed]

@[simp] theorem keeps_execVatMountDone (t : Nat) (l : Lane) (h : NandReport) (s : State) :
    OutcomeKeeps (s.start t).trunk (execVatMountDone t l h s) := by
  simp [execVatMountDone]

@[simp] theorem keeps_execVatScrub (t : Nat) (l : Lane) (h : NandReport) (s : State) :
    OutcomeKeeps (s.start t).trunk (execVatScrub t l h s) := by
  simp [execVatScrub]

@[simp] theorem keeps_cmdFlush  : cmdFlush.Keeps := by
  constructor
  · intro s q a b
    simp [cmdFlush]
  · intro s q
    simp [cmdFlush]

@[simp] theorem keeps_execFlushVat (t : Nat) (q : Req) (s : State) : OutcomeKeeps (s.start t).trunk (execFlushVat t q s) := by
  simp [execFlushVat]

@[simp] theorem keeps_execFlushDone (t : Nat) (l : Lane) (s : State) : OutcomeKeeps (s.start t).trunk (execFlushDone t l s) := by
  simp [execFlushDone]

@[simp] theorem keeps_cmdVatClear  : cmdVatClear.Keeps := by
  constructor
  · intro s q a b
    simp [cmdVatClear]
  · intro s q
    simp [cmdVatClear]

@[simp] theorem keeps_execVatCountersClear (t : Nat) (q : Req) (s : State) :
    OutcomeKeeps (s.start t).trunk (execVatCountersClear t q s) := by
  simp [execVatCountersClear]

/-! Dumps. -/

@[simp] theorem trunk_setMini (s : State) (ms : List (Nat × DumpRec)) : (State.setMini s ms).trunk = s.trunk := by
  simp [State.setMini]

@[simp] theorem trunk_dumpStart (s : State) (l : Lane) (cause : Nat) (task : Nat) (pc : Nat) (fatal : Bool) :
    (State.dumpStart s l cause task pc fatal).1.trunk = s.trunk := by
  simp [State.dumpStart, trunk_foldl]

@[simp] theorem trunk_showDump (s : State) (l : Lane) (d : DumpRec) (place : Nat) :
    (State.showDump s l d place).trunk = s.trunk := by
  simp [State.showDump]

@[simp] theorem trunk_endDumpRequest (s : State) (l : Lane) (result : Nat) : (State.endDumpRequest s l result).trunk = s.trunk := by
  simp [State.endDumpRequest]

@[simp] theorem trunk_dumpWritten (s : State) (l : Lane) (j : DumpJob) : (State.dumpWritten s l j).trunk = s.trunk := by
  simp [State.dumpWritten]

@[simp] theorem trunk_dumpAbandoned (s : State) (l : Lane) (j : DumpJob) : (State.dumpAbandoned s l j).trunk = s.trunk := by
  simp [State.dumpAbandoned]

@[simp] theorem keeps_cmdDumpRequest  : cmdDumpRequest.Keeps := by
  constructor
  · intro s q a b
    simp [cmdDumpRequest]
  · intro s q
    simp [cmdDumpRequest]

@[simp] theorem keeps_execDumpRequest (t : Nat) (q : Req) (s : State) : OutcomeKeeps (s.start t).trunk (execDumpRequest t q s) := by
  simp [execDumpRequest]

@[simp] theorem keeps_cmdMiniClear  : cmdMiniClear.Keeps := by
  constructor
  · intro s q a b
    simp [cmdMiniClear]
  · intro s q
    simp [cmdMiniClear]

@[simp] theorem keeps_execMiniClear (t : Nat) (q : Req) (s : State) : OutcomeKeeps (s.start t).trunk (execMiniClear t q s) := by
  simp [execMiniClear]

@[simp] theorem keeps_cmdDumpClear  : cmdDumpClear.Keeps := by
  constructor
  · intro s q a b
    simp [cmdDumpClear]
  · intro s q
    simp [cmdDumpClear]

@[simp] theorem keeps_execDumpCountersClear (t : Nat) (q : Req) (s : State) :
    OutcomeKeeps (s.start t).trunk (execDumpCountersClear t q s) := by
  simp [execDumpCountersClear]

/-! SafeUnit. -/

@[simp] theorem trunk_modSafe (s : State) (f : SafeRec → SafeRec) : (State.modSafe s f).trunk = s.trunk := by
  cases s; rfl

@[simp] theorem trunk_setHalf (s : State) (l : Lane) (h : HalfRec) : (State.setHalf s l h).trunk = s.trunk := by
  simp [State.setHalf]

@[simp] theorem trunk_setSo (s : State) (k : Nat) (o : SoRec) : (State.setSo s k o).trunk = s.trunk := by
  simp [State.setSo]

@[simp] theorem trunk_showOutputs (s : State) (arg : Nat) : (State.showOutputs s arg).trunk = s.trunk := by
  simp [State.showOutputs]

@[simp] theorem trunk_setSoState (s : State) (k : Nat) (v : Nat) (arg : Nat) : (State.setSoState s k v arg).trunk = s.trunk := by
  simp [State.setSoState]

@[simp] theorem trunk_soFault (s : State) (k : Nat) (cause : Nat) : (State.soFault s k cause).trunk = s.trunk := by
  simp [State.soFault]

@[simp] theorem trunk_driveSo (s : State) (k : Nat) : (State.driveSo s k).trunk = s.trunk := by
  simp [State.driveSo]

@[simp] theorem trunk_driveOutputs (s : State) : (State.driveOutputs s).trunk = s.trunk := by
  simp [State.driveOutputs]

@[simp] theorem trunk_setSafeState (s : State) (v : Nat) (cause : Nat) : (State.setSafeState s v cause).trunk = s.trunk := by
  simp [State.setSafeState]

@[simp] theorem trunk_setAckOwed (s : State) (on : Bool) : (State.setAckOwed s on).trunk = s.trunk := by
  simp [State.setAckOwed]

@[simp] theorem trunk_causeSeen (s : State) (c : Nat) : (State.causeSeen s c).trunk = s.trunk := by
  simp [State.causeSeen]

@[simp] theorem trunk_causesOver (s : State) : (State.causesOver s).trunk = s.trunk := by
  simp [State.causesOver]

@[simp] theorem trunk_trip60 (s : State) (cause : Nat) : (State.trip60 s cause).trunk = s.trunk := by
  simp [State.trip60]

@[simp] theorem trunk_safetyCause (s : State) (c : Nat) : (State.safetyCause s c).trunk = s.trunk := by
  simp [State.safetyCause]

@[simp] theorem trunk_safetyCycle (s : State) (clean : Bool) : (State.safetyCycle s clean).trunk = s.trunk := by
  simp [State.safetyCycle] <;> (repeat' split) <;> simp

@[simp] theorem trunk_safetyLane (s : State) (laneState : Nat) : (State.safetyLane s laneState).trunk = s.trunk := by
  simp [State.safetyLane]

@[simp] theorem trunk_safetyRejoin (s : State) : (State.safetyRejoin s).trunk = s.trunk := by
  simp [State.safetyRejoin]

@[simp] theorem trunk_safetyReset (s : State) : (State.safetyReset s).trunk = s.trunk := by
  simp [State.safetyReset]

@[simp] theorem trunk_watchKey (s : State) : (State.watchKey s).trunk = s.trunk := by
  simp [State.watchKey]

@[simp] theorem trunk_showGuards (s : State) : (State.showGuards s).trunk = s.trunk := by
  simp [State.showGuards, trunk_foldl]

@[simp] theorem trunk_driveHalf (s : State) (l : Lane) : (State.driveHalf s l).trunk = s.trunk := by
  simp [State.driveHalf]

@[simp] theorem trunk_judgeGuards (s : State) (l : Lane) : (State.judgeGuards s l).trunk = s.trunk := by
  simp [State.judgeGuards]

@[simp] theorem trunk_halfStops (s : State) (l : Lane) : (State.halfStops s l).trunk = s.trunk := by
  simp [State.halfStops]

@[simp] theorem trunk_readBack (s : State) (l : Lane) : (State.readBack s l).trunk = s.trunk := by
  simp [State.readBack]

@[simp] theorem keeps_execEnableWaveLoss (t : Nat) (l : Lane) (k : Fin 8) (wave : EnableWave) (s : State) :
    OutcomeKeeps (s.start t).trunk (execEnableWaveLoss t l k wave s) := by
  simp [execEnableWaveLoss]

@[simp] theorem keeps_execOutDisc (t : Nat) (k : Fin 8) (s : State) : OutcomeKeeps (s.start t).trunk (execOutDisc t k s) := by
  simp [execOutDisc] <;> (repeat' split) <;> simp

@[simp] theorem keeps_execMirrorCheck (t : Nat) (k : Fin 8) (m1 : Bool) (m2 : Bool) (s : State) :
    OutcomeKeeps (s.start t).trunk (execMirrorCheck t k m1 m2 s) := by
  simp [execMirrorCheck] <;> (repeat' split) <;> simp

@[simp] theorem trunk_judgeEdm (s : State) (k : Nat) : (State.judgeEdm s k).trunk = s.trunk := by
  simp [State.judgeEdm] <;> (repeat' split) <;> simp

@[simp] theorem keeps_execEdmCheck (t : Nat) (k : Fin 8) (edm : Bool) (s : State) :
    OutcomeKeeps (s.start t).trunk (execEdmCheck t k edm s) := by
  simp [execEdmCheck]

@[simp] theorem keeps_execSoDemandWrite (t : Nat) (code : Nat) (gen : Nat) (value : Word) (s : State) :
    OutcomeKeeps (s.start t).trunk (execSoDemandWrite t code gen value s) := by
  simp [execSoDemandWrite] <;> (repeat' split) <;> simp

@[simp] theorem keeps_cmdSoReset  : cmdSoReset.Keeps := by
  constructor
  · intro s q a b
    simp [cmdSoReset, trunk_foldl]
  · intro s q
    simp [cmdSoReset]

@[simp] theorem keeps_execSoReset (t : Nat) (q : Req) (s : State) : OutcomeKeeps (s.start t).trunk (execSoReset t q s) := by
  simp [execSoReset]

@[simp] theorem keeps_cmdSoClear  : cmdSoClear.Keeps := by
  constructor
  · intro s q a b
    simp [cmdSoClear]
  · intro s q
    simp [cmdSoClear]

@[simp] theorem keeps_execSoCountersClear (t : Nat) (q : Req) (s : State) :
    OutcomeKeeps (s.start t).trunk (execSoCountersClear t q s) := by
  simp [execSoCountersClear]

@[simp] theorem keeps_cmdMaintEnter  : cmdMaintEnter.Keeps := by
  constructor
  · intro s q a b
    simp [cmdMaintEnter]
  · intro s q
    simp [cmdMaintEnter]

@[simp] theorem keeps_execMaintEnter (t : Nat) (q : Req) (s : State) : OutcomeKeeps (s.start t).trunk (execMaintEnter t q s) := by
  simp [execMaintEnter]

@[simp] theorem keeps_cmdMaintExit  : cmdMaintExit.Keeps := by
  constructor
  · intro s q a b
    simp [cmdMaintExit]
  · intro s q
    simp [cmdMaintExit]

@[simp] theorem keeps_execMaintExit (t : Nat) (q : Req) (s : State) : OutcomeKeeps (s.start t).trunk (execMaintExit t q s) := by
  simp [execMaintExit]

@[simp] theorem keeps_cmdTripAck  : cmdTripAck.Keeps := by
  constructor
  · intro s q a b
    simp [cmdTripAck]
  · intro s q
    simp [cmdTripAck]

@[simp] theorem keeps_execTripAck (t : Nat) (q : Req) (s : State) : OutcomeKeeps (s.start t).trunk (execTripAck t q s) := by
  simp [execTripAck]

@[simp] theorem trunk_safeTrip (s : State) : (State.safeTrip s).trunk = s.trunk := by
  simp [State.safeTrip]

@[simp] theorem keeps_cmdSafeTrip  : cmdSafeTrip.Keeps := by
  constructor
  · intro s q a b
    simp [cmdSafeTrip]
  · intro s q
    simp [cmdSafeTrip]

@[simp] theorem keeps_execSafeTrip (t : Nat) (q : Req) (s : State) : OutcomeKeeps (s.start t).trunk (execSafeTrip t q s) := by
  simp [execSafeTrip]

@[simp] theorem keeps_execMaintTimeout (t : Nat) (s : State) : OutcomeKeeps (s.start t).trunk (execMaintTimeout t s) := by
  simp [execMaintTimeout]

@[simp] theorem keeps_execMaintKeyLost (t : Nat) (s : State) : OutcomeKeeps (s.start t).trunk (execMaintKeyLost t s) := by
  simp [execMaintKeyLost]

@[simp] theorem trunk_showReactions (s : State) : (State.showReactions s).trunk = s.trunk := by
  simp [State.showReactions]

@[simp] theorem trunk_showSafeCfg (s : State) : (State.showSafeCfg s).trunk = s.trunk := by
  simp [State.showSafeCfg]

/-! Sessions. -/

@[simp] theorem trunk_setHolder (s : State) (h : Option Nat) : (State.setHolder s h).trunk = s.trunk := by
  simp [State.setHolder]

@[simp] theorem trunk_clearSlotRegs (s : State) (k : Nat) : (State.clearSlotRegs s k).trunk = s.trunk := by
  simp [State.clearSlotRegs]

@[simp] theorem trunk_dropRequests (s : State) (k : Nat) : (State.dropRequests s k).trunk = s.trunk := by
  simp [State.dropRequests]

@[simp] theorem trunk_endSession (s : State) (k : Nat) (reason : Nat) (tell : Bool) :
    (State.endSession s k reason tell).trunk = s.trunk := by
  simp [State.endSession]

@[simp] theorem trunk_openSession (s : State) (k : Nat) (x : Session) (ref : Nat) :
    (State.openSession s k x ref).trunk = s.trunk := by
  simp [State.openSession]

@[simp] theorem trunk_admitSession (s : State) (x : Session) (ref : Nat) : (State.admitSession s x ref).trunk = s.trunk := by
  simp [State.admitSession] <;> (repeat' split) <;> simp

@[simp] theorem trunk_setAddress (s : State) (p : Nat) (addr : Nat) : (State.setAddress s p addr).trunk = s.trunk := by
  simp [State.setAddress]

@[simp] theorem trunk_setPtpRole (s : State) (p : Nat) (role : Nat) : (State.setPtpRole s p role).trunk = s.trunk := by
  simp [State.setPtpRole]

@[simp] theorem trunk_ptpRoles (s : State) : (State.ptpRoles s).trunk = s.trunk := by
  simp [State.ptpRoles]

@[simp] theorem trunk_takePort (s : State) (p : Nat) : (State.takePort s p).trunk = s.trunk := by
  simp [State.takePort]

@[simp] theorem trunk_portInForce (s : State) (p : Nat) : (State.portInForce s p).trunk = s.trunk := by
  simp [State.portInForce]

@[simp] theorem trunk_linkLost (s : State) (p : Nat) : (State.linkLost s p).trunk = s.trunk := by
  simp [State.linkLost]

@[simp] theorem keeps_execPortLinkUp (t : Nat) (port : Fin 5) (fast : Bool) (s : State) :
    OutcomeKeeps (s.start t).trunk (execPortLinkUp t port fast s) := by
  simp [execPortLinkUp]

@[simp] theorem keeps_execPortLinkDown (t : Nat) (port : Fin 5) (s : State) :
    OutcomeKeeps (s.start t).trunk (execPortLinkDown t port s) := by
  simp [execPortLinkDown]

@[simp] theorem keeps_execAddressChanged (t : Nat) (port : Fin 5) (addr : Word) (s : State) :
    OutcomeKeeps (s.start t).trunk (execAddressChanged t port addr s) := by
  simp [execAddressChanged]

@[simp] theorem keeps_execAnnounce (t : Nat) (port : Fin 5) (s : State) :
    OutcomeKeeps (s.start t).trunk (execAnnounce t port s) := by
  simp [execAnnounce]

@[simp] theorem keeps_execClientHello (t : Nat) (port : Fin 5) (ip : Nat) (udp : Nat) (cookie : Bool) (o : DtlsOffer) (s : State) :
    OutcomeKeeps (s.start t).trunk (execClientHello t port ip udp cookie o s) := by
  simp [execClientHello]

@[simp] theorem keeps_execHandshakeTimeout (t : Nat) (s : State) : OutcomeKeeps (s.start t).trunk (execHandshakeTimeout t s) := by
  simp [execHandshakeTimeout]

@[simp] theorem keeps_execSessionIdleTimeout (t : Nat) (slot : Fin 4) (s : State) :
    OutcomeKeeps (s.start t).trunk (execSessionIdleTimeout t slot s) := by
  simp [execSessionIdleTimeout]

@[simp] theorem keeps_execCertExpiry (t : Nat) (slot : Fin 4) (s : State) :
    OutcomeKeeps (s.start t).trunk (execCertExpiry t slot s) := by
  simp [execCertExpiry]

@[simp] theorem trunk_verifySessions (s : State) : (State.verifySessions s).trunk = s.trunk := by
  simp [State.verifySessions]

@[simp] theorem trunk_timeSync (s : State) (r : SyncReport) : (State.timeSync s r).trunk = s.trunk := by
  simp [State.timeSync]

@[simp] theorem keeps_execEventResend (t : Nat) (slot : Fin 4) (s : State) :
    OutcomeKeeps (s.start t).trunk (execEventResend t slot s) := by
  simp [execEventResend]

@[simp] theorem keeps_execLogHandleIdle (t : Nat) (slot : Fin 4) (s : State) :
    OutcomeKeeps (s.start t).trunk (execLogHandleIdle t slot s) := by
  simp [execLogHandleIdle]

@[simp] theorem keeps_cmdPortRestart  : cmdPortRestart.Keeps := by
  constructor
  · intro s q a b
    simp [cmdPortRestart]
  · intro s q
    simp [cmdPortRestart]

@[simp] theorem keeps_execPortRestart (t : Nat) (q : Req) (s : State) : OutcomeKeeps (s.start t).trunk (execPortRestart t q s) := by
  simp [execPortRestart]

@[simp] theorem keeps_cmdConsistReport  : cmdConsistReport.Keeps := by
  constructor
  · intro s q a b
    simp [cmdConsistReport]
  · intro s q
    simp [cmdConsistReport]

@[simp] theorem keeps_execConsistReport (t : Nat) (q : Req) (s : State) :
    OutcomeKeeps (s.start t).trunk (execConsistReport t q s) := by
  simp [execConsistReport]

@[simp] theorem keeps_cmdCfgClaim  : cmdCfgClaim.Keeps := by
  constructor
  · intro s q a b
    simp [cmdCfgClaim]
  · intro s q
    simp [cmdCfgClaim]

@[simp] theorem keeps_execCfgClaim (t : Nat) (q : Req) (s : State) : OutcomeKeeps (s.start t).trunk (execCfgClaim t q s) := by
  simp [execCfgClaim]

@[simp] theorem keeps_cmdCfgRelease  : cmdCfgRelease.Keeps := by
  constructor
  · intro s q a b
    simp [cmdCfgRelease]
  · intro s q
    simp [cmdCfgRelease]

@[simp] theorem keeps_execCfgRelease (t : Nat) (q : Req) (s : State) : OutcomeKeeps (s.start t).trunk (execCfgRelease t q s) := by
  simp [execCfgRelease]

@[simp] theorem keeps_cmdSessionClose  : cmdSessionClose.Keeps := by
  constructor
  · intro s q a b
    simp [cmdSessionClose]
  · intro s q
    simp [cmdSessionClose]

@[simp] theorem keeps_execSessionClose (t : Nat) (q : Req) (s : State) :
    OutcomeKeeps (s.start t).trunk (execSessionClose t q s) := by
  simp [execSessionClose]

@[simp] theorem keeps_cmdHostClear  : cmdHostClear.Keeps := by
  constructor
  · intro s q a b
    simp [cmdHostClear]
  · intro s q
    simp [cmdHostClear]

@[simp] theorem keeps_execHostCountersClear (t : Nat) (q : Req) (s : State) :
    OutcomeKeeps (s.start t).trunk (execHostCountersClear t q s) := by
  simp [execHostCountersClear]

@[simp] theorem keeps_execTimeSync (t : Nat) (port : Fin 4) (domain : Nat) (delayNs : Nat) (gmId : Nat) (gmTime : Nat) (s : State) :
    OutcomeKeeps (s.start t).trunk (execTimeSync t port domain delayNs gmId gmTime s) := by
  simp [execTimeSync]

@[simp] theorem keeps_execGrandmasterLost (t : Nat) (s : State) : OutcomeKeeps (s.start t).trunk (execGrandmasterLost t s) := by
  simp [execGrandmasterLost]

@[simp] theorem keeps_cmdRtcSet  : cmdRtcSet.Keeps := by
  constructor
  · intro s q a b
    simp [cmdRtcSet]
  · intro s q
    simp [cmdRtcSet]

@[simp] theorem keeps_execRtcSet (t : Nat) (q : Req) (s : State) : OutcomeKeeps (s.start t).trunk (execRtcSet t q s) := by
  simp [execRtcSet]

/-! Slots. -/

@[simp] theorem trunk_showTrials (s : State) : (State.showTrials s).trunk = s.trunk := by
  simp [State.showTrials]

@[simp] theorem trunk_fwBoots (s : State) (n : Nat) : (State.fwBoots s n).trunk = s.trunk := by
  simp [State.fwBoots]

@[simp] theorem trunk_setSlots (s : State) (n : Nat) (active : Option Container) (other : Option Container) :
    (State.setSlots s n active other).trunk = s.trunk := by
  simp [State.setSlots]

@[simp] theorem trunk_swapSlots (s : State) (n : Nat) : (State.swapSlots s n).trunk = s.trunk := by
  simp [State.swapSlots]

@[simp] theorem trunk_spoilOther (s : State) (n : Nat) : (State.spoilOther s n).trunk = s.trunk := by
  simp [State.spoilOther]

@[simp] theorem trunk_setUpd (s : State) (n : Nat) : (State.setUpd s n).trunk = s.trunk := by
  simp [State.setUpd]

@[simp] theorem trunk_updLog (s : State) (result : Nat) : (State.updLog s result).trunk = s.trunk := by
  simp [State.updLog]

@[simp] theorem trunk_endUpdate (s : State) (result : Nat) : (State.endUpdate s result).trunk = s.trunk := by
  simp [State.endUpdate]

@[simp] theorem trunk_resetEndsUpdate (s : State) : (State.resetEndsUpdate s).trunk = s.trunk := by
  simp [State.resetEndsUpdate]

@[simp] theorem trunk_trialAbandon (s : State) (n : Nat) : (State.trialAbandon s n).trunk = s.trunk := by
  simp [State.trialAbandon]

@[simp] theorem trunk_chooseMgmt (s : State) (f : SlotFound) : (State.chooseMgmt s f).trunk = s.trunk := by
  simp [State.chooseMgmt]

@[simp] theorem trunk_bootMgmt (s : State) (f : SlotFound) : (State.bootMgmt s f).trunk = s.trunk := by
  simp [State.bootMgmt]

/-! FieldIo. -/

@[simp] theorem trunk_modBank (s : State) (p : Nat) (f : BankRec → BankRec) :
    (State.modBank s p f).trunk = s.trunk := by cases s; rfl

@[simp] theorem trunk_setCh (s : State) (p : Nat) (k : Nat) (c : FeChan) : (State.setCh s p k c).trunk = s.trunk := by
  simp [State.setCh]

@[simp] theorem trunk_setBurst (s : State) (p : Nat) (n : Nat) (x : BurstRec) : (State.setBurst s p n x).trunk = s.trunk := by
  simp [State.setBurst]

@[simp] theorem trunk_chFault (s : State) (p : Nat) (k : Nat) (code : Nat) : (State.chFault s p k code).trunk = s.trunk := by
  simp [State.chFault]

@[simp] theorem trunk_chFaultEnd (s : State) (p : Nat) (k : Nat) (code : Nat) : (State.chFaultEnd s p k code).trunk = s.trunk := by
  simp [State.chFaultEnd]

@[simp] theorem trunk_driveCh (s : State) (p : Nat) (k : Nat) : (State.driveCh s p k).trunk = s.trunk := by
  simp [State.driveCh]

@[simp] theorem trunk_driveBank (s : State) (p : Nat) : (State.driveBank s p).trunk = s.trunk := by
  simp [State.driveBank]

@[simp] theorem trunk_qualified (s : State) (p : Nat) (k : Nat) (us : Nat) (up : Bool) :
    (State.qualified s p k us up).trunk = s.trunk := by
  simp [State.qualified]

@[simp] theorem trunk_qualifiedAll (s : State) (p k ago : Nat) (up : Bool) (l : List Nat) :
    (s.qualifiedAll p k ago up l).trunk = s.trunk := by
  induction l generalizing s ago up with
  | nil => rfl
  | cons r l ih => simp [State.qualifiedAll, ih]

@[simp] theorem trunk_sampleRun (s : State) (p : Nat) (k : Nat) (ago : Nat) (r : SampleRun) :
    (State.sampleRun s p k ago r).trunk = s.trunk := by
  simp [State.sampleRun] <;> (repeat' split) <;> simp

@[simp] theorem trunk_sampleRuns (s : State) (p k : Nat) (l : List SampleRun) : (s.sampleRuns p k l).trunk = s.trunk := by
  induction l generalizing s with
  | nil => rfl
  | cons r l ih => simp [State.sampleRuns, ih]

@[simp] theorem keeps_execInputQualified (t : Nat) (b : Fin 16) (k : Fin 16) (runs : List SampleRun) (s : State) :
    OutcomeKeeps (s.start t).trunk (execInputQualified t b k runs s) := by
  simp [execInputQualified]

@[simp] theorem keeps_execMonitoredFault (t : Nat) (b : Fin 16) (k : Fin 16) (runs : List SampleRun) (s : State) :
    OutcomeKeeps (s.start t).trunk (execMonitoredFault t b k runs s) := by
  simp [execMonitoredFault]

@[simp] theorem keeps_execMonitoredRecover (t : Nat) (b : Fin 16) (k : Fin 16) (runs : List SampleRun) (s : State) :
    OutcomeKeeps (s.start t).trunk (execMonitoredRecover t b k runs s) := by
  simp [execMonitoredRecover]

@[simp] theorem keeps_execOutputOverload (t : Nat) (b : Fin 16) (k : Fin 16) (x : Overload) (s : State) :
    OutcomeKeeps (s.start t).trunk (execOutputOverload t b k x s) := by
  simp [execOutputOverload]

@[simp] theorem keeps_execOpenLoad (t : Nat) (b : Fin 16) (k : Fin 16) (ma : Nat) (s : State) :
    OutcomeKeeps (s.start t).trunk (execOpenLoad t b k ma s) := by
  simp [execOpenLoad]

@[simp] theorem keeps_execOutputOvertemp (t : Nat) (b : Fin 16) (k : Fin 16) (temp : Nat) (s : State) :
    OutcomeKeeps (s.start t).trunk (execOutputOvertemp t b k temp s) := by
  simp [execOutputOvertemp]

@[simp] theorem keeps_execBankOverload (t : Nat) (b : Fin 16) (cur : List Nat) (s : State) :
    OutcomeKeeps (s.start t).trunk (execBankOverload t b cur s) := by
  unfold execBankOverload
  (repeat' split) <;> (try simp) <;> (repeat' split) <;> simp [trunk_foldl]

@[simp] theorem keeps_execBackfeed (t : Nat) (b : Fin 16) (k : Fin 16) (s : State) :
    OutcomeKeeps (s.start t).trunk (execBackfeed t b k s) := by
  simp [execBackfeed]

@[simp] theorem keeps_execFieldOutputFaultEnd (t : Nat) (b : Fin 16) (k : Fin 16) (ma : Nat) (s : State) :
    OutcomeKeeps (s.start t).trunk (execFieldOutputFaultEnd t b k ma s) := by
  simp [execFieldOutputFaultEnd]

@[simp] theorem trunk_releaseCh (s : State) (p : Nat) (k : Nat) : (State.releaseCh s p k).trunk = s.trunk := by
  simp [State.releaseCh]

@[simp] theorem keeps_execOutputRetry (t : Nat) (b : Fin 16) (k : Fin 16) (temp : Nat) (s : State) :
    OutcomeKeeps (s.start t).trunk (execOutputRetry t b k temp s) := by
  simp [execOutputRetry]

@[simp] theorem keeps_execOutPulseEnd (t : Nat) (b : Fin 16) (k : Fin 16) (s : State) :
    OutcomeKeeps (s.start t).trunk (execOutPulseEnd t b k s) := by
  simp [execOutPulseEnd] <;> (repeat' split) <;> simp

@[simp] theorem trunk_cornerOut (s : State) (p : Nat) (k : Nat) (level : Bool) (pulse : Option Nat) :
    (State.cornerOut s p k level pulse).trunk = s.trunk := by
  simp [State.cornerOut]

@[simp] theorem trunk_showSafe (s : State) (p : Nat) : (State.showSafe s p).trunk = s.trunk := by
  simp [State.showSafe]

@[simp] theorem trunk_setBankState (s : State) (p : Nat) (v : Nat) : (State.setBankState s p v).trunk = s.trunk := by
  simp [State.setBankState]

@[simp] theorem trunk_bankStart (s : State) (p : Nat) : (State.bankStart s p).trunk = s.trunk := by
  simp [State.bankStart]

@[simp] theorem trunk_ownerRefresh (s : State) (p : Nat) : (State.ownerRefresh s p).trunk = s.trunk := by
  simp [State.ownerRefresh]

@[simp] theorem trunk_showRecord (s : State) (p : Nat) (k : Nat) (faulty : Bool) :
    (State.showRecord s p k faulty).trunk = s.trunk := by
  simp [State.showRecord]

@[simp] theorem trunk_showBank (s : State) (p : Nat) (changed : List Nat) : (State.showBank s p changed).trunk = s.trunk := by
  simp [State.showBank]

@[simp] theorem trunk_showRecords (s : State) (p : Nat) (n : Nat) : (State.showRecords s p n).trunk = s.trunk := by
  simp [State.showRecords]

@[simp] theorem trunk_showStatus (s : State) (p : Nat) (r : FeBurst) : (State.showStatus s p r).trunk = s.trunk := by
  simp [State.showStatus]

@[simp] theorem trunk_countRefresh (s : State) (p : Nat) : (State.countRefresh s p).trunk = s.trunk := by
  simp [State.countRefresh] <;> (repeat' split) <;> simp

@[simp] theorem trunk_feMeasure (s : State) (p : Nat) (n : Nat) (r : FeBurst) : (State.feMeasure s p n r).trunk = s.trunk := by
  simp [State.feMeasure, trunk_foldl]

@[simp] theorem trunk_frontEndBurst (s : State) (p : Nat) (n : Nat) (r : FeBurst) :
    (State.frontEndBurst s p n r).trunk = s.trunk := by
  simp [State.frontEndBurst]

@[simp] theorem keeps_execFrontEndBurst (t : Nat) (b : Fin 16) (n : Fin 2) (r : FeBurst) (s : State) :
    OutcomeKeeps (s.start t).trunk (execFrontEndBurst t b n r s) := by
  simp [execFrontEndBurst]

@[simp] theorem trunk_retrain (s : State) (p : Nat) : (State.retrain s p).trunk = s.trunk := by
  simp [State.retrain]

@[simp] theorem trunk_burstMissed (s : State) (p : Nat) (n : Nat) : (State.burstMissed s p n).trunk = s.trunk := by
  simp [State.burstMissed, trunk_foldl]

@[simp] theorem keeps_execBurstMissed (t : Nat) (b : Fin 16) (n : Fin 2) (s : State) :
    OutcomeKeeps (s.start t).trunk (execBurstMissed t b n s) := by
  simp [execBurstMissed]

@[simp] theorem trunk_takeBit (s : State) (p : Nat) (k : Nat) : (State.takeBit s p k).trunk = s.trunk := by
  simp [State.takeBit]

@[simp] theorem trunk_takeMode (s : State) (p : Nat) (k : Nat) : (State.takeMode s p k).trunk = s.trunk := by
  simp [State.takeMode]

@[simp] theorem trunk_leaveSafe (s : State) (p : Nat) : (State.leaveSafe s p).trunk = s.trunk := by
  simp [State.leaveSafe]

@[simp] theorem trunk_takeFlags (s : State) (p : Nat) : (State.takeFlags s p).trunk = s.trunk := by
  simp [State.takeFlags]

@[simp] theorem trunk_stageBurst (s : State) (p : Nat) (n : Nat) (seq : Nat) (index : Nat) (word : Nat) (crc : Nat) :
    (State.stageBurst s p n seq index word crc).trunk = s.trunk := by
  simp [State.stageBurst] <;> (repeat' split) <;> simp

@[simp] theorem keeps_execStageBurst (t : Nat) (b : Fin 16) (n : Fin 2) (seq : Nat) (index : Nat) (word : Nat) (crc : Nat) (s : State) :
    OutcomeKeeps (s.start t).trunk (execStageBurst t b n seq index word crc s) := by
  simp [execStageBurst]

@[simp] theorem keeps_execLinkSilence (t : Nat) (b : Fin 16) (s : State) :
    OutcomeKeeps (s.start t).trunk (execLinkSilence t b s) := by
  simp [execLinkSilence]

@[simp] theorem keeps_execLogicSilence (t : Nat) (b : Fin 16) (s : State) :
    OutcomeKeeps (s.start t).trunk (execLogicSilence t b s) := by
  simp [execLogicSilence] <;> (repeat' split) <;> simp

@[simp] theorem keeps_execOutSetWrite (t : Nat) (code : Nat) (gen : Nat) (b : Fin 16) (value : Word) (s : State) :
    OutcomeKeeps (s.start t).trunk (execOutSetWrite t code gen b value s) := by
  simp [execOutSetWrite]

@[simp] theorem trunk_limitMode (s : State) (code : Nat) (p : Nat) (k : Nat) : (State.limitMode s code p k).trunk = s.trunk := by
  simp [State.limitMode]

@[simp] theorem trunk_chConfigured (s : State) (code : Nat) (p : Nat) (k : Nat) :
    (State.chConfigured s code p k).trunk = s.trunk := by
  simp [State.chConfigured]

@[simp] theorem trunk_bankConfigured (s : State) (p : Nat) : (State.bankConfigured s p).trunk = s.trunk := by
  simp [State.bankConfigured]

@[simp] theorem keeps_execChCfgWrite (t : Nat) (code : Nat) (gen : Nat) (b : Fin 16) (k : Fin 16) (value : Word) (s : State) :
    OutcomeKeeps (s.start t).trunk (execChCfgWrite t code gen b k value s) := by
  simp [execChCfgWrite]

@[simp] theorem keeps_cmdFieldFaultClear (p : Nat) : (cmdFieldFaultClear p).Keeps := by
  constructor
  · intro s q a b
    simp [cmdFieldFaultClear]
  · intro s q
    simp [cmdFieldFaultClear]

@[simp] theorem keeps_execFieldFaultClear (t : Nat) (q : Req) (s : State) :
    OutcomeKeeps (s.start t).trunk (execFieldFaultClear t q s) := by
  simp [execFieldFaultClear]

@[simp] theorem keeps_cmdFieldCountersClear (p : Nat) : (cmdFieldCountersClear p).Keeps := by
  constructor
  · intro s q a b
    simp [cmdFieldCountersClear]
  · intro s q
    simp [cmdFieldCountersClear]

@[simp] theorem keeps_execFieldCountersClear (t : Nat) (q : Req) (s : State) :
    OutcomeKeeps (s.start t).trunk (execFieldCountersClear t q s) := by
  simp [execFieldCountersClear]

@[simp] theorem trunk_fieldSupplyChanged (s : State) (p : Nat) : (State.fieldSupplyChanged s p).trunk = s.trunk := by
  simp [State.fieldSupplyChanged]

/-! Loads. -/

@[simp] theorem trunk_modGroup (s : State) (p : Nat) (f : LsRec → LsRec) : (State.modGroup s p f).trunk = s.trunk := by cases s; rfl

@[simp] theorem trunk_setLs (s : State) (p : Nat) (k : Nat) (c : LsChan) : (State.setLs s p k c).trunk = s.trunk := by
  simp [State.setLs]

@[simp] theorem trunk_driveLs (s : State) (p : Nat) (k : Nat) (open_ : Bool) : (State.driveLs s p k open_).trunk = s.trunk := by
  simp [State.driveLs]

@[simp] theorem trunk_showLs (s : State) (p : Nat) (k : Nat) : (State.showLs s p k).trunk = s.trunk := by
  simp [State.showLs]

@[simp] theorem trunk_showGroup (s : State) (p : Nat) : (State.showGroup s p).trunk = s.trunk := by
  simp [State.showGroup]

@[simp] theorem trunk_driveGroup (s : State) (p : Nat) : (State.driveGroup s p).trunk = s.trunk := by
  simp [State.driveGroup]

@[simp] theorem trunk_takeCommands (s : State) (p : Nat) : (State.takeCommands s p).trunk = s.trunk := by
  simp [State.takeCommands]

@[simp] theorem trunk_ownerWrote (s : State) (p : Nat) : (State.ownerWrote s p).trunk = s.trunk := by
  simp [State.ownerWrote]

@[simp] theorem trunk_groupWritten (s : State) (p : Nat) (code : Nat) : (State.groupWritten s p code).trunk = s.trunk := by
  simp [State.groupWritten]

@[simp] theorem keeps_execLsCmdWrite (t : Nat) (code : Nat) (gen : Nat) (g : Fin 8) (value : Word) (s : State) :
    OutcomeKeeps (s.start t).trunk (execLsCmdWrite t code gen g value s) := by
  simp [execLsCmdWrite]

@[simp] theorem keeps_execChPwmWrite (t : Nat) (code : Nat) (gen : Nat) (g : Fin 8) (k : Fin 8) (value : Word) (s : State) :
    OutcomeKeeps (s.start t).trunk (execChPwmWrite t code gen g k value s) := by
  simp [execChPwmWrite]

@[simp] theorem trunk_lsFault (s : State) (p : Nat) (k : Nat) (cause : Nat) : (State.lsFault s p k cause).trunk = s.trunk := by
  simp [State.lsFault]

@[simp] theorem trunk_thermalShutdown (s : State) (p : Nat) (k : Nat) : (State.thermalShutdown s p k).trunk = s.trunk := by
  simp [State.thermalShutdown]

@[simp] theorem keeps_execThermalShutdown (t : Nat) (g : Fin 8) (k : Fin 8) (s : State) :
    OutcomeKeeps (s.start t).trunk (execThermalShutdown t g k s) := by
  simp [execThermalShutdown]

@[simp] theorem trunk_thermalCooled (s : State) (p : Nat) (k : Nat) : (State.thermalCooled s p k).trunk = s.trunk := by
  simp [State.thermalCooled]

@[simp] theorem keeps_execThermalCooled (t : Nat) (g : Fin 8) (k : Fin 8) (s : State) :
    OutcomeKeeps (s.start t).trunk (execThermalCooled t g k s) := by
  simp [execThermalCooled]

@[simp] theorem keeps_execInrushWindowEnd (t : Nat) (g : Fin 8) (k : Fin 8) (s : State) :
    OutcomeKeeps (s.start t).trunk (execInrushWindowEnd t g k s) := by
  simp [execInrushWindowEnd] <;> (repeat' split) <;> simp

@[simp] theorem trunk_showSum (s : State) (p : Nat) (k : Nat) : (State.showSum s p k).trunk = s.trunk := by
  simp [State.showSum]

@[simp] theorem trunk_clampEnd (s : State) (p : Nat) (k : Nat) (us : Nat) : (State.clampEnd s p k us).trunk = s.trunk := by
  simp [State.clampEnd]

@[simp] theorem keeps_execClampEnd (t : Nat) (g : Fin 8) (k : Fin 8) (us : Nat) (s : State) :
    OutcomeKeeps (s.start t).trunk (execClampEnd t g k us s) := by
  simp [execClampEnd]

@[simp] theorem keeps_execClampSumExpiry (t : Nat) (g : Fin 8) (k : Fin 8) (s : State) :
    OutcomeKeeps (s.start t).trunk (execClampSumExpiry t g k s) := by
  simp [execClampSumExpiry]

@[simp] theorem trunk_senseRound (s : State) (p : Nat) : (State.senseRound s p).trunk = s.trunk := by
  simp [State.senseRound]

@[simp] theorem trunk_senseSlot (s : State) (p : Nat) (k : Nat) (ma : Nat) : (State.senseSlot s p k ma).trunk = s.trunk := by
  simp [State.senseSlot]

@[simp] theorem keeps_execSenseSlot (t : Nat) (g : Fin 8) (k : Fin 8) (ma : Nat) (s : State) :
    OutcomeKeeps (s.start t).trunk (execSenseSlot t g k ma s) := by
  simp [execSenseSlot]

@[simp] theorem keeps_cmdLsFaultClear (p : Nat) : (cmdLsFaultClear p).Keeps := by
  constructor
  · intro s q a b
    simp [cmdLsFaultClear]
  · intro s q
    simp [cmdLsFaultClear]

@[simp] theorem keeps_execLsFaultClear (t : Nat) (q : Req) (s : State) :
    OutcomeKeeps (s.start t).trunk (execLsFaultClear t q s) := by
  simp [execLsFaultClear]

@[simp] theorem keeps_cmdLsCountersClear (p : Nat) : (cmdLsCountersClear p).Keeps := by
  constructor
  · intro s q a b
    simp [cmdLsCountersClear]
  · intro s q
    simp [cmdLsCountersClear]

@[simp] theorem keeps_execLsCountersClear (t : Nat) (q : Req) (s : State) :
    OutcomeKeeps (s.start t).trunk (execLsCountersClear t q s) := by
  simp [execLsCountersClear]

@[simp] theorem trunk_groupRailLost (s : State) (p : Nat) : (State.groupRailLost s p).trunk = s.trunk := by
  simp [State.groupRailLost]

@[simp] theorem trunk_groupRailBack (s : State) (p : Nat) : (State.groupRailBack s p).trunk = s.trunk := by
  simp [State.groupRailBack]

@[simp] theorem trunk_groupKact (s : State) (p : Nat) (rise : Bool) (silent : Bool) :
    (State.groupKact s p rise silent).trunk = s.trunk := by
  simp [State.groupKact]

end Sys2Proof.Machine
end

