-- ==== Sys2Proof/Laws/TrunkStages.lean ====
section
/-! SUPPORT. The frame of the kerb, the beams and edges, the life cycle, the lane resets, the avenues, the loop modules, the faults of the CLEs and the memory tests:
each keeps the instant, the boot count and the queue of the state it starts from. -/

namespace Sys2Proof.Machine

/-! Kerb. -/

@[simp] theorem trunk_driveAll (s : State) : (State.driveAll s).trunk = s.trunk := by
  simp [State.driveAll]

@[simp] theorem trunk_setKerb (s : State) (pin : Bool) (silence : Bool) : (State.setKerb s pin silence).trunk = s.trunk := by
  simp [State.setKerb]

@[simp] theorem keeps_execKenQualified (t : Nat) (high : Bool) (s : State) :
    OutcomeKeeps (s.start t).trunk (execKenQualified t high s) := by
  simp [execKenQualified]

@[simp] theorem keeps_execKinQualified (t : Nat) (i : Fin 8) (high : Bool) (s : State) :
    OutcomeKeeps (s.start t).trunk (execKinQualified t i high s) := by
  simp [execKinQualified]

@[simp] theorem keeps_execKerbSilenceTimeout (t : Nat) (s : State) :
    OutcomeKeeps (s.start t).trunk (execKerbSilenceTimeout t s) := by
  simp [execKerbSilenceTimeout] <;> (repeat' split) <;> simp

@[simp] theorem keeps_execKerbSilenceEnd (t : Nat) (s : State) : OutcomeKeeps (s.start t).trunk (execKerbSilenceEnd t s) := by
  simp [execKerbSilenceEnd]

@[simp] theorem trunk_mapWritten (s : State) : (State.mapWritten s).trunk = s.trunk := by
  simp [State.mapWritten]

@[simp] theorem keeps_execKmapWrite (t : Nat) (code : Nat) (gen : Nat) (i : Fin 8) (j : Fin 4) (value : Word) (s : State) :
    OutcomeKeeps (s.start t).trunk (execKmapWrite t code gen i j value s) := by
  simp [execKmapWrite]

@[simp] theorem keeps_cmdKerbClear  : cmdKerbClear.Keeps := by
  constructor
  · intro s q a b
    simp [cmdKerbClear]
  · intro s q
    simp [cmdKerbClear]

@[simp] theorem keeps_execKerbCountersClear (t : Nat) (q : Req) (s : State) :
    OutcomeKeeps (s.start t).trunk (execKerbCountersClear t q s) := by
  simp [execKerbCountersClear]

@[simp] theorem trunk_railChanged (s : State) (l : Lane) (on : Bool) : (State.railChanged s l on).trunk = s.trunk := by
  simp [State.railChanged]

/-! Obstacle. -/

@[simp] theorem trunk_lineFall (s : State) (p : Nat) : (State.lineFall s p).trunk = s.trunk := by
  simp [State.lineFall] <;> (repeat' split) <;> simp

@[simp] theorem keeps_cmdFmTeach (p : Nat) : (cmdFmTeach p).Keeps := by
  constructor
  · intro s q a b
    simp [cmdFmTeach]
  · intro s q
    simp [cmdFmTeach]

@[simp] theorem keeps_cmdFmRebase (p : Nat) : (cmdFmRebase p).Keeps := by
  constructor
  · intro s q a b
    simp [cmdFmRebase]
  · intro s q
    simp [cmdFmRebase]

@[simp] theorem keeps_cmdFmClear (p : Nat) : (cmdFmClear p).Keeps := by
  constructor
  · intro s q a b
    simp [cmdFmClear]
  · intro s q
    simp [cmdFmClear]

@[simp] theorem keeps_cmdObsInject (p : Nat) : (cmdObsInject p).Keeps := by
  constructor
  · intro s q a b
    simp [cmdObsInject]
  · intro s q
    simp [cmdObsInject]

@[simp] theorem keeps_execClearLineFall (t : Nat) (a : Fin 32) (s : State) :
    OutcomeKeeps (s.start t).trunk (execClearLineFall t a s) := by
  simp [execClearLineFall]

@[simp] theorem keeps_execFmTeach (t : Nat) (q : Req) (s : State) : OutcomeKeeps (s.start t).trunk (execFmTeach t q s) := by
  simp [execFmTeach]

@[simp] theorem keeps_execFmRebase (t : Nat) (q : Req) (s : State) : OutcomeKeeps (s.start t).trunk (execFmRebase t q s) := by
  simp [execFmRebase]

@[simp] theorem keeps_execFmClear (t : Nat) (q : Req) (s : State) : OutcomeKeeps (s.start t).trunk (execFmClear t q s) := by
  simp [execFmClear]

@[simp] theorem keeps_execObsInject (t : Nat) (q : Req) (s : State) : OutcomeKeeps (s.start t).trunk (execObsInject t q s) := by
  simp [execObsInject]

@[simp] theorem trunk_writeBin (s : State) (p : Nat) (n : Nat) (mass : Bool) (value : Word) :
    (State.writeBin s p n mass value).trunk = s.trunk := by
  simp [State.writeBin]

@[simp] theorem keeps_execForceMapWrite (t : Nat) (code : Nat) (gen : Nat) (a : Fin 32) (j : Fin 128) (mass : Bool) (value : Word) (s : State) :
    OutcomeKeeps (s.start t).trunk (execForceMapWrite t code gen a j mass value s) := by
  simp [execForceMapWrite]

@[simp] theorem keeps_execObsThreshWrite (t : Nat) (code : Nat) (gen : Nat) (a : Fin 32) (value : Word) (s : State) :
    OutcomeKeeps (s.start t).trunk (execObsThreshWrite t code gen a value s) := by
  simp [execObsThreshWrite]

/-! LifeCycle. -/

@[simp] theorem trunk_showAnchors (s : State) (host : Bool) (content : Bool) :
    (State.showAnchors s host content).trunk = s.trunk := by
  simp [State.showAnchors]

@[simp] theorem trunk_showArmed (s : State) : (State.showArmed s).trunk = s.trunk := by
  simp [State.showArmed]

@[simp] theorem trunk_setCommit (s : State) (on : Bool) : (State.setCommit s on).trunk = s.trunk := by
  simp [State.setCommit]

@[simp] theorem trunk_enterLc (s : State) (st : Nat) : (State.enterLc s st).trunk = s.trunk := by
  simp [State.enterLc]

@[simp] theorem trunk_changeLc (s : State) (st : Nat) : (State.changeLc s st).trunk = s.trunk := by
  simp [State.changeLc]

@[simp] theorem trunk_dropCommit (s : State) : (State.dropCommit s).trunk = s.trunk := by
  simp [State.dropCommit]

@[simp] theorem trunk_dropImages (s : State) : (State.dropImages s).trunk = s.trunk := by
  simp [State.dropImages]

@[simp] theorem trunk_tellBreaches (s : State) : (State.tellBreaches s).trunk = s.trunk := by
  simp [State.tellBreaches, trunk_foldl]

@[simp] theorem trunk_erase (s : State) (cause : Nat) (us : Nat) (dest_ : Nat) :
    (State.erase s cause us dest_).trunk = s.trunk := by
  simp [State.erase]

@[simp] theorem trunk_showInputs (s : State) (switches : Nat) (traceA : Nat) (traceB : Nat) (temp : Int) :
    (State.showInputs s switches traceA traceB temp).trunk = s.trunk := by
  simp [State.showInputs]

@[simp] theorem keeps_execRindBreach (t : Nat) (cause : Fin 5) (inputs : Fin 32) (traceA : Nat) (traceB : Nat) (temp : Int) (us : Nat) (s : State) :
    OutcomeKeeps (s.start t).trunk (execRindBreach t cause inputs traceA traceB temp us s) := by
  simp [execRindBreach]

@[simp] theorem keeps_execKeyGenerationDone (t : Nat) (s : State) : OutcomeKeeps (s.start t).trunk (execKeyGenerationDone t s) := by
  simp [execKeyGenerationDone] <;> (repeat' split) <;> simp

@[simp] theorem keeps_execSealClosed (t : Nat) (s : State) : OutcomeKeeps (s.start t).trunk (execSealClosed t s) := by
  simp [execSealClosed]

@[simp] theorem keeps_execSealWaitExpiry (t : Nat) (s : State) : OutcomeKeeps (s.start t).trunk (execSealWaitExpiry t s) := by
  simp [execSealWaitExpiry] <;> (repeat' split) <;> simp

@[simp] theorem keeps_cmdFactoryClose  : cmdFactoryClose.Keeps := by
  constructor
  · intro s q a b
    simp [cmdFactoryClose]
  · intro s q
    simp [cmdFactoryClose]

@[simp] theorem keeps_execFactoryClose (t : Nat) (q : Req) (s : State) :
    OutcomeKeeps (s.start t).trunk (execFactoryClose t q s) := by
  simp [execFactoryClose]

@[simp] theorem keeps_cmdProvBegin  : cmdProvBegin.Keeps := by
  constructor
  · intro s q a b
    simp [cmdProvBegin]
  · intro s q
    simp [cmdProvBegin]

@[simp] theorem keeps_execProvBegin (t : Nat) (q : Req) (s : State) : OutcomeKeeps (s.start t).trunk (execProvBegin t q s) := by
  simp [execProvBegin]

@[simp] theorem keeps_cmdCertInstall (c : CertFound) : (cmdCertInstall c).Keeps := by
  constructor
  · intro s q a b
    simp [cmdCertInstall]
  · intro s q
    simp [cmdCertInstall]

@[simp] theorem keeps_execCertInstall (t : Nat) (q : Req) (c : CertFound) (s : State) :
    OutcomeKeeps (s.start t).trunk (execCertInstall t q c s) := by
  simp [execCertInstall]

@[simp] theorem keeps_cmdAnchorSet (c : CertFound) : (cmdAnchorSet c).Keeps := by
  constructor
  · intro s q a b
    simp [cmdAnchorSet] <;> (repeat' split) <;> simp
  · intro s q
    simp [cmdAnchorSet]

@[simp] theorem keeps_execAnchorSet (t : Nat) (q : Req) (c : CertFound) (s : State) :
    OutcomeKeeps (s.start t).trunk (execAnchorSet t q c s) := by
  simp [execAnchorSet]

@[simp] theorem keeps_cmdProvCommit  : cmdProvCommit.Keeps := by
  constructor
  · intro s q a b
    simp [cmdProvCommit]
  · intro s q
    simp [cmdProvCommit]

@[simp] theorem keeps_execProvCommit (t : Nat) (q : Req) (s : State) : OutcomeKeeps (s.start t).trunk (execProvCommit t q s) := by
  simp [execProvCommit]

@[simp] theorem keeps_cmdReprovision  : cmdReprovision.Keeps := by
  constructor
  · intro s q a b
    simp [cmdReprovision]
  · intro s q
    simp [cmdReprovision]

@[simp] theorem keeps_execReprovision (t : Nat) (q : Req) (s : State) : OutcomeKeeps (s.start t).trunk (execReprovision t q s) := by
  simp [execReprovision]

@[simp] theorem keeps_cmdErase (us : Nat) : (cmdErase us).Keeps := by
  constructor
  · intro s q a b
    simp [cmdErase]
  · intro s q
    simp [cmdErase]

@[simp] theorem keeps_execEraseKeys (t : Nat) (q : Req) (us : Nat) (s : State) :
    OutcomeKeeps (s.start t).trunk (execEraseKeys t q us s) := by
  simp [execEraseKeys]

@[simp] theorem keeps_cmdRetire (us : Nat) : (cmdRetire us).Keeps := by
  constructor
  · intro s q a b
    simp [cmdRetire]
  · intro s q
    simp [cmdRetire]

@[simp] theorem keeps_execRetire (t : Nat) (q : Req) (us : Nat) (s : State) :
    OutcomeKeeps (s.start t).trunk (execRetire t q us s) := by
  simp [execRetire]

/-! LaneReset. -/

@[simp] theorem trunk_setOc (s : State) (n : Nat) : (State.setOc s n).trunk = s.trunk := by
  simp [State.setOc]

@[simp] theorem trunk_dropPackage (s : State) : (State.dropPackage s).trunk = s.trunk := by
  simp [State.dropPackage]

@[simp] theorem trunk_ocAbandon (s : State) (reason : Nat) : (State.ocAbandon s reason).trunk = s.trunk := by
  simp [State.ocAbandon]

@[simp] theorem trunk_ocLeft (s : State) (l : Lane) : (State.ocLeft s l).trunk = s.trunk := by
  simp [State.ocLeft]

@[simp] theorem trunk_enablesOff (s : State) (l : Lane) : (State.enablesOff s l).trunk = s.trunk := by
  simp [State.enablesOff]

@[simp] theorem trunk_showHeld (s : State) (l : Lane) : (State.showHeld s l).trunk = s.trunk := by
  simp [State.showHeld]

@[simp] theorem trunk_runAborted (s : State) (l : Lane) (n : Nat) : (State.runAborted s l n).trunk = s.trunk := by
  simp [State.runAborted]

@[simp] theorem trunk_setCleState (s : State) (l : Lane) (n : Nat) : (State.setCleState s l n).trunk = s.trunk := by
  simp [State.setCleState]

@[simp] theorem trunk_clearRejoin (s : State) : (State.clearRejoin s).trunk = s.trunk := by
  simp [State.clearRejoin]

@[simp] theorem trunk_afterLaneState (s : State) (l : Lane) (n : Nat) : (State.afterLaneState s l n).trunk = s.trunk := by
  simp [State.afterLaneState]

@[simp] theorem trunk_setLaneState (s : State) (l : Lane) (n : Nat) : (State.setLaneState s l n).trunk = s.trunk := by
  simp [State.setLaneState]

@[simp] theorem trunk_hbStop (s : State) (l : Lane) (cause : Nat) : (State.hbStop s l cause).trunk = s.trunk := by
  simp [State.hbStop]

@[simp] theorem trunk_hbStart (s : State) (l : Lane) : (State.hbStart s l).trunk = s.trunk := by
  simp [State.hbStart]

@[simp] theorem trunk_hbFault (s : State) (l : Lane) : (State.hbFault s l).trunk = s.trunk := by
  simp [State.hbFault]

@[simp] theorem trunk_logReset (s : State) (code : Nat) (part : List Field) : (State.logReset s code part).trunk = s.trunk := by
  simp [State.logReset, trunk_foldl]

@[simp] theorem trunk_laneReset (s : State) (l : Lane) (code : Nat) (trial : Bool) :
    (State.laneReset s l code trial).trunk = s.trunk := by
  simp [State.laneReset] <;> (repeat' split) <;> simp

@[simp] theorem trunk_resetKeeping (s : State) (page : Nat) (keep : List (Nat × Nat)) :
    (State.resetKeeping s page keep).trunk = s.trunk := by
  simp [State.resetKeeping, trunk_foldl]

@[simp] theorem trunk_holdLane (s : State) (l : Lane) : (State.holdLane s l).trunk = s.trunk := by
  unfold State.holdLane
  simp only [trunk_showSecLoaded, trunk_setPstate]
  split <;> simp only [List.foldl_cons, List.foldl_nil, trunk_setFld, trunk_setLane, trunk_putMem, trunk_setCle, trunk_setVat, trunk_resetKeeping, trunk_setVatState]

@[simp] theorem trunk_laneFatal (s : State) (l : Lane) (cause : Nat) : (State.laneFatal s l cause).trunk = s.trunk := by
  simp [State.laneFatal] <;> (repeat' split) <;> simp

@[simp] theorem keeps_execLaneWatchdog (t : Nat) (l : Lane) (s : State) :
    OutcomeKeeps (s.start t).trunk (execLaneWatchdog t l s) := by
  simp [execLaneWatchdog]

@[simp] theorem keeps_execLaneOvertemp (t : Nat) (l : Lane) (s : State) :
    OutcomeKeeps (s.start t).trunk (execLaneOvertemp t l s) := by
  simp [execLaneOvertemp]

@[simp] theorem trunk_causeOver (s : State) (l : Lane) : (State.causeOver s l).trunk = s.trunk := by
  simp [State.causeOver]

@[simp] theorem keeps_execLaneTempRecover (t : Nat) (l : Lane) (s : State) :
    OutcomeKeeps (s.start t).trunk (execLaneTempRecover t l s) := by
  simp [execLaneTempRecover]

@[simp] theorem keeps_execCrossingStop (t : Nat) (l : Lane) (s : State) :
    OutcomeKeeps (s.start t).trunk (execCrossingStop t l s) := by
  simp [execCrossingStop]

@[simp] theorem trunk_shutdownCurds (s : State) (l : Lane) : (State.shutdownCurds s l).trunk = s.trunk := by
  unfold State.shutdownCurds
  refine trunk_foldl _ ?_ _ _
  intro s x
  (repeat' split) <;> simp

@[simp] theorem trunk_flushVat (s : State) (l : Lane) : (State.flushVat s l).trunk = s.trunk := by
  simp [State.flushVat]

@[simp] theorem trunk_shutdownVat (s : State) (l : Lane) (ms : Nat) : (State.shutdownVat s l ms).trunk = s.trunk := by
  unfold State.shutdownVat
  (repeat' split) <;> (try simp [trunk_foldl]) <;> (repeat' split) <;> simp [trunk_foldl]

@[simp] theorem keeps_execLaneShutdownDone (t : Nat) (l : Lane) (flushMs : Fin 40) (s : State) :
    OutcomeKeeps (s.start t).trunk (execLaneShutdownDone t l flushMs s) := by
  simp [execLaneShutdownDone]

@[simp] theorem trunk_afterDump (s : State) (l : Lane) (j : DumpJob) : (State.afterDump s l j).trunk = s.trunk := by
  simp [State.afterDump]

@[simp] theorem keeps_execDumpDone (t : Nat) (l : Lane) (s : State) : OutcomeKeeps (s.start t).trunk (execDumpDone t l s) := by
  simp [execDumpDone] <;> (repeat' split) <;> simp

@[simp] theorem keeps_execDumpAbandon (t : Nat) (l : Lane) (s : State) :
    OutcomeKeeps (s.start t).trunk (execDumpAbandon t l s) := by
  simp [execDumpAbandon] <;> (repeat' split) <;> simp

/-! Avenue. -/

@[simp] theorem trunk_modAv (s : State) (a : Nat) (f : AvRec → AvRec) : (State.modAv s a f).trunk = s.trunk := by cases s; rfl

@[simp] theorem trunk_showAvenues (s : State) (arg : Nat) : (State.showAvenues s arg).trunk = s.trunk := by
  simp [State.showAvenues]

@[simp] theorem trunk_setAvState (s : State) (a : Nat) (v : Nat) (arg : Nat) : (State.setAvState s a v arg).trunk = s.trunk := by
  simp [State.setAvState]

@[simp] theorem trunk_showCorners (s : State) (a : Nat) : (State.showCorners s a).trunk = s.trunk := by
  simp [State.showCorners]

@[simp] theorem trunk_avFault (s : State) (a : Nat) (cause : Nat) : (State.avFault s a cause).trunk = s.trunk := by
  simp [State.avFault]

@[simp] theorem trunk_cornerAct (s : State) (a : Nat) (p : Nat) (action : Nat) (arg : Nat) (falling : Bool) :
    (State.cornerAct s a p action arg falling).trunk = s.trunk := by
  simp [State.cornerAct] <;> (repeat' split) <;> simp

@[simp] theorem trunk_countFire (s : State) (a : Nat) (c : Nat) (falling : Bool) :
    (State.countFire s a c falling).trunk = s.trunk := by
  simp [State.countFire]

@[simp] theorem trunk_cornerFire (s : State) (a : Nat) (c : Nat) (falling : Bool) :
    (State.cornerFire s a c falling).trunk = s.trunk := by
  simp [State.cornerFire]

@[simp] theorem trunk_setArms (s : State) (a : Nat) (c : Nat) (v : Int) : (State.setArms s a c v).trunk = s.trunk := by
  simp [State.setArms]

@[simp] theorem trunk_evalCorner (s : State) (a : Nat) (c : Nat) (old : Int) (new : Int) :
    (State.evalCorner s a c old new).1.trunk = s.trunk := by
  simp [State.evalCorner]

@[simp] theorem trunk_evalCorners (s : State) (a : Nat) (x y : Int) (l : List Nat) : (s.evalCorners a x y l).1.trunk = s.trunk := by
  induction l generalizing s with
  | nil => rfl
  | cons r l ih => simp [State.evalCorners, ih]

@[simp] theorem trunk_showValue (s : State) (a : Nat) (v : Int) : (State.showValue s a v).trunk = s.trunk := by
  simp [State.showValue]

@[simp] theorem trunk_avStep (s : State) (a : Nat) (v : Int) : (State.avStep s a v).trunk = s.trunk := by
  simp [State.avStep, trunk_foldl]

@[simp] theorem trunk_avSample (s : State) (a : Nat) (src : Int) : (State.avSample s a src).trunk = s.trunk := by
  simp [State.avSample, trunk_foldl]

@[simp] theorem trunk_avCauseEnds (s : State) (a : Nat) : (State.avCauseEnds s a).trunk = s.trunk := by
  simp [State.avCauseEnds]

@[simp] theorem keeps_execAvenueSample (t : Nat) (a : Fin 64) (s : State) :
    OutcomeKeeps (s.start t).trunk (execAvenueSample t a s) := by
  simp [execAvenueSample] <;> (repeat' split) <;> simp

@[simp] theorem keeps_execLineTimeout (t : Nat) (a : Fin 64) (s : State) :
    OutcomeKeeps (s.start t).trunk (execLineTimeout t a s) := by
  simp [execLineTimeout]

@[simp] theorem keeps_execMainsCrossingTimeout (t : Nat) (a : Fin 64) (s : State) :
    OutcomeKeeps (s.start t).trunk (execMainsCrossingTimeout t a s) := by
  simp [execMainsCrossingTimeout]

@[simp] theorem trunk_flagCorners (s : State) (a : Nat) : (State.flagCorners s a).trunk = s.trunk := by
  simp [State.flagCorners, trunk_foldl]

@[simp] theorem trunk_restartAvenue (s : State) (a : Nat) (why : Nat) : (State.restartAvenue s a why).trunk = s.trunk := by
  simp [State.restartAvenue]

@[simp] theorem keeps_execAvSrcWrite (t : Nat) (code : Nat) (gen : Nat) (a : Fin 64) (value : Word) (s : State) :
    OutcomeKeeps (s.start t).trunk (execAvSrcWrite t code gen a value s) := by
  simp [execAvSrcWrite]

@[simp] theorem trunk_avIn (s : State) (a : Nat) (old : Int) : (State.avIn s a old).trunk = s.trunk := by
  simp [State.avIn] <;> (repeat' split) <;> simp

@[simp] theorem keeps_execAvInWrite (t : Nat) (code : Nat) (gen : Nat) (a : Fin 64) (rate : Bool) (value : Word) (s : State) :
    OutcomeKeeps (s.start t).trunk (execAvInWrite t code gen a rate value s) := by
  simp [execAvInWrite]

@[simp] theorem trunk_cornerChanged (s : State) (a : Nat) (c : Nat) : (State.cornerChanged s a c).trunk = s.trunk := by
  simp [State.cornerChanged]

@[simp] theorem keeps_execCornerWindowWrite (t : Nat) (code : Nat) (gen : Nat) (c : Fin 64) (ctrl : Bool) (value : Word) (s : State) :
    OutcomeKeeps (s.start t).trunk (execCornerWindowWrite t code gen c ctrl value s) := by
  simp [execCornerWindowWrite]

@[simp] theorem keeps_cmdCornerSet  : cmdCornerSet.Keeps := by
  constructor
  · intro s q a b
    simp [cmdCornerSet]
  · intro s q
    simp [cmdCornerSet]

@[simp] theorem keeps_execCornerSet (t : Nat) (q : Req) (s : State) : OutcomeKeeps (s.start t).trunk (execCornerSet t q s) := by
  simp [execCornerSet]

@[simp] theorem keeps_cmdCornerClear  : cmdCornerClear.Keeps := by
  constructor
  · intro s q a b
    simp [cmdCornerClear, trunk_foldl]
  · intro s q
    simp [cmdCornerClear]

@[simp] theorem keeps_execCornerClear (t : Nat) (q : Req) (s : State) : OutcomeKeeps (s.start t).trunk (execCornerClear t q s) := by
  simp [execCornerClear]

@[simp] theorem keeps_cmdAvenueClear  : cmdAvenueClear.Keeps := by
  constructor
  · intro s q a b
    simp [cmdAvenueClear]
  · intro s q
    simp [cmdAvenueClear]

@[simp] theorem keeps_execAvenueCountersClear (t : Nat) (q : Req) (s : State) :
    OutcomeKeeps (s.start t).trunk (execAvenueCountersClear t q s) := by
  simp [execAvenueCountersClear]

/-! LoopIo. -/

@[simp] theorem trunk_setLoop (s : State) (p : Nat) (k : Nat) (c : LoopChan) :
    (State.setLoop s p k c).trunk = s.trunk := by cases s; rfl

@[simp] theorem trunk_groupBit (s : State) (p : Nat) (f : Field) (k : Nat) (on : Bool) :
    (State.groupBit s p f k on).trunk = s.trunk := by
  simp [State.groupBit]

@[simp] theorem trunk_loopChange (s : State) (p : Nat) (k : Nat) (kind : Nat) : (State.loopChange s p k kind).trunk = s.trunk := by
  simp [State.loopChange]

@[simp] theorem trunk_setCause (s : State) (p : Nat) (k : Nat) (c : Nat) : (State.setCause s p k c).trunk = s.trunk := by
  simp [State.setCause]

@[simp] theorem trunk_driveLoop (s : State) (p : Nat) (k : Nat) : (State.driveLoop s p k).trunk = s.trunk := by
  simp [State.driveLoop]

@[simp] theorem trunk_trackCauses (s : State) (p : Nat) (k : Nat) (cond : Nat → Bool) :
    (State.trackCauses s p k cond).trunk = s.trunk := by
  simp [State.trackCauses]

@[simp] theorem trunk_showPower (s : State) (p : Nat) : (State.showPower s p).trunk = s.trunk := by
  simp [State.showPower]

@[simp] theorem trunk_loopThermal (s : State) (p : Nat) (k : Nat) (temp : Int) :
    (State.loopThermal s p k temp).trunk = s.trunk := by
  simp [State.loopThermal]

@[simp] theorem trunk_inputSample (s : State) (p : Nat) (k : Nat) (r : LoopReading) :
    (State.inputSample s p k r).trunk = s.trunk := by
  simp [State.inputSample]

@[simp] theorem keeps_execLoopSample (t : Nat) (g : Fin 4) (k : Fin 8) (r : LoopReading) (s : State) :
    OutcomeKeeps (s.start t).trunk (execLoopSample t g k r s) := by
  simp [execLoopSample]

@[simp] theorem trunk_voltSample (s : State) (p : Nat) (k : Nat) (v : Int) : (State.voltSample s p k v).trunk = s.trunk := by
  simp [State.voltSample] <;> (repeat' split) <;> simp

@[simp] theorem trunk_pairPhase (s : State) (p : Nat) (k : Nat) (ab : Int) (bc : Int) :
    (State.pairPhase s p k ab bc).trunk = s.trunk := by
  simp [State.pairPhase] <;> (repeat' split) <;> simp

@[simp] theorem trunk_showPair (s : State) (p : Nat) (k : Nat) : (State.showPair s p k).trunk = s.trunk := by
  simp [State.showPair]

@[simp] theorem keeps_execVoltageSample (t : Nat) (g : Fin 4) (j : Fin 4) (ab : Int) (bc : Int) (s : State) :
    OutcomeKeeps (s.start t).trunk (execVoltageSample t g j ab bc s) := by
  simp [execVoltageSample]

@[simp] theorem trunk_enterCause (s : State) (p : Nat) (k : Nat) (c : Nat) : (State.enterCause s p k c).trunk = s.trunk := by
  simp [State.enterCause]

@[simp] theorem trunk_endCause (s : State) (p : Nat) (k : Nat) : (State.endCause s p k).trunk = s.trunk := by
  simp [State.endCause]

@[simp] theorem keeps_execLoopFault (t : Nat) (g : Fin 4) (k : Fin 8) (s : State) :
    OutcomeKeeps (s.start t).trunk (execLoopFault t g k s) := by
  simp [execLoopFault, trunk_foldl]

@[simp] theorem keeps_execLoopFaultEnd (t : Nat) (g : Fin 4) (k : Fin 8) (s : State) :
    OutcomeKeeps (s.start t).trunk (execLoopFaultEnd t g k s) := by
  simp [execLoopFaultEnd] <;> (repeat' split) <;> simp

@[simp] theorem keeps_execLoopOvertemp (t : Nat) (g : Fin 4) (k : Fin 8) (temp : Int) (s : State) :
    OutcomeKeeps (s.start t).trunk (execLoopOvertemp t g k temp s) := by
  simp [execLoopOvertemp]

@[simp] theorem keeps_execLoopTempRecover (t : Nat) (g : Fin 4) (k : Fin 8) (temp : Int) (s : State) :
    OutcomeKeeps (s.start t).trunk (execLoopTempRecover t g k temp s) := by
  simp [execLoopTempRecover]

@[simp] theorem trunk_setPresent (s : State) (p : Nat) (k : Nat) (on : Bool) : (State.setPresent s p k on).trunk = s.trunk := by
  simp [State.setPresent]

@[simp] theorem keeps_execTransmitterArrived (t : Nat) (g : Fin 4) (k : Fin 8) (s : State) :
    OutcomeKeeps (s.start t).trunk (execTransmitterArrived t g k s) := by
  simp [execTransmitterArrived] <;> (repeat' split) <;> simp

@[simp] theorem keeps_execTransmitterDeparted (t : Nat) (g : Fin 4) (k : Fin 8) (s : State) :
    OutcomeKeeps (s.start t).trunk (execTransmitterDeparted t g k s) := by
  simp [execTransmitterDeparted] <;> (repeat' split) <;> simp

@[simp] theorem keeps_execOutUaWrite (t : Nat) (code : Nat) (gen : Nat) (g : Fin 4) (k : Fin 8) (value : Word) (s : State) :
    OutcomeKeeps (s.start t).trunk (execOutUaWrite t code gen g k value s) := by
  simp [execOutUaWrite]

@[simp] theorem trunk_startMode (s : State) (p : Nat) (k : Nat) (mode : Nat) : (State.startMode s p k mode).trunk = s.trunk := by
  simp [State.startMode, trunk_foldl]

@[simp] theorem trunk_followMode (s : State) (p : Nat) (k : Nat) : (State.followMode s p k).trunk = s.trunk := by
  simp [State.followMode]

@[simp] theorem keeps_execLoopModeWrite (t : Nat) (code : Nat) (gen : Nat) (g : Fin 4) (k : Fin 8) (value : Word) (s : State) :
    OutcomeKeeps (s.start t).trunk (execLoopModeWrite t code gen g k value s) := by
  simp [execLoopModeWrite]

@[simp] theorem keeps_cmdLoopClear  : cmdLoopClear.Keeps := by
  constructor
  · intro s q a b
    simp [cmdLoopClear]
  · intro s q
    simp [cmdLoopClear]

@[simp] theorem keeps_execLoopCountersClear (t : Nat) (q : Req) (s : State) :
    OutcomeKeeps (s.start t).trunk (execLoopCountersClear t q s) := by
  simp [execLoopCountersClear]

/-! CleFault. -/

@[simp] theorem trunk_safeBank (s : State) (c : CleRec) (p : Nat) : (State.safeBank s c p).trunk = s.trunk := by
  simp [State.safeBank]

@[simp] theorem trunk_safeGroup (s : State) (c : CleRec) (p : Nat) : (State.safeGroup s c p).trunk = s.trunk := by
  simp [State.safeGroup]

@[simp] theorem trunk_safeLoops (s : State) (c : CleRec) (p : Nat) : (State.safeLoops s c p).trunk = s.trunk := by
  unfold State.safeLoops
  simp only
  rw [trunk_each _ _ _ (by intro s k; simp), trunk_ite, trunk_setPstate]
  rw [trunk_each _ _ _ (by intro s k; split <;> simp)]
  simp

@[simp] theorem trunk_safeAxis (s : State) (c : CleRec) (p : Nat) : (State.safeAxis s c p).trunk = s.trunk := by
  simp [State.safeAxis] <;> (repeat' split) <;> simp

@[simp] theorem trunk_safeValues (s : State) (l : Lane) : (State.safeValues s l).trunk = s.trunk := by
  unfold State.safeValues
  rw [trunk_each]
  intro s p
  (repeat' split) <;> simp

@[simp] theorem trunk_faultEvent (s : State) (l : Lane) (cause : Nat) (task : Nat) :
    (State.faultEvent s l cause task).trunk = s.trunk := by
  simp [State.faultEvent] <;> (repeat' split) <;> simp

@[simp] theorem trunk_cleFault (s : State) (l : Lane) (cause : Nat) (task : Nat) (pc : Nat) :
    (State.cleFault s l cause task pc).trunk = s.trunk := by
  simp [State.cleFault]

@[simp] theorem trunk_heldDone (s : State) : (State.heldDone s).trunk = s.trunk := by
  simp [State.heldDone]

@[simp] theorem trunk_enterHold (s : State) (l : Lane) (place : Nat) : (State.enterHold s l place).trunk = s.trunk := by
  simp [State.enterHold]

@[simp] theorem trunk_breakCheck (s : State) (l : Lane) (a2 : Nat) (pc : Nat) : (State.breakCheck s l a2 pc).1.trunk = s.trunk := by
  unfold State.breakCheck
  (repeat' split) <;> (try simp) <;> (repeat' split) <;> simp [trunk_foldl]

/-! MemTest. -/

@[simp] theorem trunk_markBad (s : State) (l : Lane) (seg : Nat) : (State.markBad s l seg).trunk = s.trunk := by
  simp [State.markBad]

@[simp] theorem trunk_testDefect (s : State) (l : Lane) (addr : Nat) (uncorr : Bool) :
    (State.testDefect s l addr uncorr).trunk = s.trunk := by
  simp [State.testDefect]

@[simp] theorem trunk_passDone (s : State) (l : Lane) : (State.passDone s l).trunk = s.trunk := by
  simp [State.passDone]

@[simp] theorem keeps_execBtBlock (t : Nat) (l : Lane) (defect : Option (Fin 16 × Bool)) (yields : Nat) (s : State) :
    OutcomeKeeps (s.start t).trunk (execBtBlock t l defect yields s) := by
  simp [execBtBlock] <;> (repeat' split) <;> simp

@[simp] theorem keeps_execLaneFatal (t : Nat) (l : Lane) (code : Fin 4) (addr : Nat) (s : State) :
    OutcomeKeeps (s.start t).trunk (execLaneFatal t l code addr s) := by
  simp [execLaneFatal]

@[simp] theorem trunk_bankClock (s : State) (l : Lane) (x : BankClock) : (State.bankClock s l x).trunk = s.trunk := by
  unfold State.bankClock
  (repeat' split) <;> (try simp [trunk_foldl]) <;> (repeat' split) <;> simp [trunk_foldl]

@[simp] theorem trunk_portRead (s : State) (l : Lane) (r : PortRead) : (State.portRead s l r).trunk = s.trunk := by
  simp [State.portRead]

@[simp] theorem trunk_secureError (s : State) (l : Lane) (double : Bool) : (State.secureError s l double).trunk = s.trunk := by
  simp [State.secureError]

@[simp] theorem trunk_memSenses (s : State) (l : Lane) (x : LaneSense) : (State.memSenses s l x).trunk = s.trunk := by
  simp [State.memSenses, trunk_foldl]

end Sys2Proof.Machine
end

