-- ==== Sys2Proof/Laws/TrunkBuses.lean ====
section
/-! SUPPORT. The frame of the CAN interfaces, the control waves, the answers to requests, the branches of the CLEs and the reads:
each keeps the instant, the boot count and the queue of the state it starts from. -/

namespace Sys2Proof.Machine

/-! CanCore. -/

@[simp] theorem trunk_setCan (s : State) (p : Nat) (c : CanRec) : (State.setCan s p c).trunk = s.trunk := by cases s; rfl

@[simp] theorem trunk_modCan (s : State) (p : Nat) (f : CanRec → CanRec) : (State.modCan s p f).trunk = s.trunk := by
  simp [State.modCan]

@[simp] theorem trunk_showCanQueue (s : State) (p : Nat) : (State.showCanQueue s p).trunk = s.trunk := by
  simp [State.showCanQueue]

@[simp] theorem trunk_setCanState (s : State) (p : Nat) (v : Nat) : (State.setCanState s p v).trunk = s.trunk := by
  simp [State.setCanState]

@[simp] theorem trunk_txError (s : State) (p : Nat) (n : Nat) (kind : Nat) (pos : Nat) :
    (State.txError s p n kind pos).trunk = s.trunk := by
  simp [State.txError]

@[simp] theorem trunk_endEntry (s : State) (p : Nat) (e : TxEntry) (result : Nat) (time : Nat) :
    (State.endEntry s p e result time).trunk = s.trunk := by
  simp [State.endEntry]

@[simp] theorem trunk_endEntries (s : State) (p : Nat) (result : Nat) (pick : TxEntry → Bool) :
    (State.endEntries s p result pick).trunk = s.trunk := by
  simp [State.endEntries, trunk_foldl]

@[simp] theorem trunk_present_ (s : State) (p : Nat) : (State.present_ s p).trunk = s.trunk := by
  simp [State.present_] <;> (repeat' split) <;> simp

@[simp] theorem trunk_busOff (s : State) (p : Nat) : (State.busOff s p).trunk = s.trunk := by
  simp [State.busOff]

@[simp] theorem trunk_checkErrors (s : State) (p : Nat) : (State.checkErrors s p).trunk = s.trunk := by
  simp [State.checkErrors]

@[simp] theorem trunk_followCanMode (s : State) (p : Nat) : (State.followCanMode s p).trunk = s.trunk := by
  simp [State.followCanMode]

@[simp] theorem trunk_settleMode (s : State) (p : Nat) : (State.settleMode s p).trunk = s.trunk := by
  simp [State.settleMode]

@[simp] theorem trunk_countErrors (s : State) (p : Nat) (tec : Nat) (rec_ : Nat) :
    (State.countErrors s p tec rec_).trunk = s.trunk := by
  simp [State.countErrors]

@[simp] theorem trunk_frameOver (s : State) (p : Nat) : (State.frameOver s p).trunk = s.trunk := by
  simp [State.frameOver]

@[simp] theorem trunk_syncEnded (s : State) (p : Nat) : (State.syncEnded s p).trunk = s.trunk := by
  simp [State.syncEnded]

@[simp] theorem trunk_latchBuffer (s : State) (p : Nat) (b : Nat) : (State.latchBuffer s p b).trunk = s.trunk := by
  simp [State.latchBuffer]

@[simp] theorem trunk_relatched (s : State) (p : Nat) : (State.relatched s p).trunk = s.trunk := by
  simp [State.relatched]

@[simp] theorem trunk_stopSending (s : State) (p : Nat) : (State.stopSending s p).trunk = s.trunk := by
  simp [State.stopSending]

@[simp] theorem trunk_sendingEnded (s : State) (p : Nat) (result : Nat) (time : Nat) :
    (State.sendingEnded s p result time).trunk = s.trunk := by
  simp [State.sendingEnded] <;> (repeat' split) <;> simp

@[simp] theorem trunk_attempt (s : State) (p : Nat) (kind : Nat) (pos : Nat) : (State.attempt s p kind pos).1.trunk = s.trunk := by
  simp [State.attempt] <;> (repeat' split) <;> simp

@[simp] theorem trunk_nodeAnswer (s : State) (p : Nat) (n : Nat) : (State.nodeAnswer s p n).trunk = s.trunk := by
  simp [State.nodeAnswer]

@[simp] theorem trunk_deliverBuffer (s : State) (p : Nat) (b : Nat) (x : CanFrame) :
    (State.deliverBuffer s p b x).trunk = s.trunk := by
  simp [State.deliverBuffer]

@[simp] theorem trunk_deliverQueue (s : State) (p : Nat) (f : Nat) (x : CanFrame) (sof : Nat) :
    (State.deliverQueue s p f x sof).trunk = s.trunk := by
  simp [State.deliverQueue]

@[simp] theorem trunk_deliver (s : State) (p : Nat) (x : CanFrame) (sof : Nat) : (State.deliver s p x sof).trunk = s.trunk := by
  simp [State.deliver] <;> (repeat' split) <;> simp

@[simp] theorem trunk_discardCan (s : State) (p : Nat) : (State.discardCan s p).trunk = s.trunk := by
  simp [State.discardCan]

/-! Can. -/

@[simp] theorem trunk_frameGood (s : State) (p : Nat) : (State.frameGood s p).trunk = s.trunk := by
  simp [State.frameGood]

@[simp] theorem trunk_idConflict (s : State) (p : Nat) (x : CanFrame) : (State.idConflict s p x).trunk = s.trunk := by
  simp [State.idConflict]

@[simp] theorem trunk_rollAnswer (s : State) (p : Nat) (x : CanFrame) : (State.rollAnswer s p x).trunk = s.trunk := by
  simp [State.rollAnswer]

@[simp] theorem keeps_canFrameRxed (t : Nat) (c : Fin 8) (sof : Nat) (x : CanFrame) (s : State) :
    OutcomeKeeps (s.start t).trunk (canFrameRxed t c sof x s) := by
  simp [canFrameRxed]

@[simp] theorem keeps_canTxEnded (t : Nat) (c : Fin 8) (sof : Nat) (tdcv : Nat) (s : State) :
    OutcomeKeeps (s.start t).trunk (canTxEnded t c sof tdcv s) := by
  simp [canTxEnded] <;> (repeat' split) <;> simp

@[simp] theorem trunk_lastError (s : State) (p : Nat) (kind : Nat) (pos : Nat) (tx : Bool) :
    (State.lastError s p kind pos tx).trunk = s.trunk := by
  simp [State.lastError]

@[simp] theorem trunk_attemptFailed (s : State) (p : Nat) (x : Sending) (kind : Nat) (pos : Nat) :
    (State.attemptFailed s p x kind pos).trunk = s.trunk := by
  simp [State.attemptFailed]

@[simp] theorem keeps_canTxFailed (t : Nat) (c : Fin 8) (kind : Fin 8) (pos : Nat) (exempt : Bool) (s : State) :
    OutcomeKeeps (s.start t).trunk (canTxFailed t c kind pos exempt s) := by
  unfold canTxFailed
  simp only [outcomeKeeps_next]
  split
  · rfl
  · rw [trunk_frameOver, trunk_countErrors, trunk_attemptFailed]

@[simp] theorem keeps_canRxFailed (t : Nat) (c : Fin 8) (kind : Fin 8) (pos : Nat) (by8 : Bool) (s : State) :
    OutcomeKeeps (s.start t).trunk (canRxFailed t c kind pos by8 s) := by
  simp [canRxFailed]

@[simp] theorem keeps_execCanIntegrated (t : Nat) (c : Fin 8) (s : State) :
    OutcomeKeeps (s.start t).trunk (execCanIntegrated t c s) := by
  simp [execCanIntegrated]

@[simp] theorem keeps_execBusoffRecovered (t : Nat) (c : Fin 8) (s : State) :
    OutcomeKeeps (s.start t).trunk (execBusoffRecovered t c s) := by
  simp [execBusoffRecovered]

@[simp] theorem keeps_execTxGoWrite (t : Nat) (code : Nat) (gen : Nat) (c : Fin 8) (value : Word) (s : State) :
    OutcomeKeeps (s.start t).trunk (execTxGoWrite t code gen c value s) := by
  simp [execTxGoWrite]

@[simp] theorem trunk_slotDone (s : State) (p : Nat) (bank : Nat) (slot : Nat) (stat : Nat) :
    (State.slotDone s p bank slot stat).trunk = s.trunk := by
  simp [State.slotDone]

@[simp] theorem trunk_takeSlot (s : State) (p : Nat) (bank : Nat) (slot : Nat) :
    (State.takeSlot s p bank slot).trunk = s.trunk := by
  simp [State.takeSlot]

@[simp] theorem keeps_execCanStageRefresh (t : Nat) (c : Fin 8) (s : State) :
    OutcomeKeeps (s.start t).trunk (execCanStageRefresh t c s) := by
  simp [execCanStageRefresh]

@[simp] theorem keeps_execTxcAckWrite (t : Nat) (code : Nat) (gen : Nat) (c : Fin 8) (value : Word) (s : State) :
    OutcomeKeeps (s.start t).trunk (execTxcAckWrite t code gen c value s) := by
  simp [execTxcAckWrite]

@[simp] theorem trunk_rxTaken (s : State) (p : Nat) (seq : Nat) : (State.rxTaken s p seq).trunk = s.trunk := by
  simp [State.rxTaken] <;> (repeat' split) <;> simp

@[simp] theorem keeps_execRxAckWrite (t : Nat) (code : Nat) (gen : Nat) (c : Fin 8) (value : Word) (s : State) :
    OutcomeKeeps (s.start t).trunk (execRxAckWrite t code gen c value s) := by
  simp [execRxAckWrite]

@[simp] theorem trunk_latchBit (s : State) (p : Nat) (b : Nat) : (State.latchBit s p b).trunk = s.trunk := by
  simp [State.latchBit]

@[simp] theorem keeps_execTxsLatchWrite (t : Nat) (code : Nat) (gen : Nat) (c : Fin 8) (value : Word) (s : State) :
    OutcomeKeeps (s.start t).trunk (execTxsLatchWrite t code gen c value s) := by
  simp [execTxsLatchWrite]

@[simp] theorem keeps_execRxsAckWrite (t : Nat) (code : Nat) (gen : Nat) (c : Fin 8) (value : Word) (s : State) :
    OutcomeKeeps (s.start t).trunk (execRxsAckWrite t code gen c value s) := by
  simp [execRxsAckWrite]

@[simp] theorem keeps_execCanModeWrite (t : Nat) (code : Nat) (gen : Nat) (c : Fin 8) (value : Word) (s : State) :
    OutcomeKeeps (s.start t).trunk (execCanModeWrite t code gen c value s) := by
  simp [execCanModeWrite]

@[simp] theorem trunk_boundarySignal (s : State) (p : Nat) (release : Bool) :
    (State.boundarySignal s p release).trunk = s.trunk := by
  simp [State.boundarySignal]

@[simp] theorem keeps_execCanBoundarySignal (t : Nat) (c : Fin 8) (s : State) :
    OutcomeKeeps (s.start t).trunk (execCanBoundarySignal t c s) := by
  simp [execCanBoundarySignal]

@[simp] theorem keeps_execSyncFrameDue (t : Nat) (c : Fin 8) (s : State) :
    OutcomeKeeps (s.start t).trunk (execSyncFrameDue t c s) := by
  simp [execSyncFrameDue] <;> (repeat' split) <;> simp

@[simp] theorem trunk_startRound (s : State) (p : Nat) : (State.startRound s p).trunk = s.trunk := by
  simp [State.startRound]

@[simp] theorem keeps_execRollCallRound (t : Nat) (c : Fin 8) (s : State) :
    OutcomeKeeps (s.start t).trunk (execRollCallRound t c s) := by
  simp [execRollCallRound]

@[simp] theorem trunk_nodeMissed (s : State) (p : Nat) (n : Nat) : (State.nodeMissed s p n).trunk = s.trunk := by
  simp [State.nodeMissed]

@[simp] theorem keeps_execRollCallTimeout (t : Nat) (c : Fin 8) (n : Fin 128) (s : State) :
    OutcomeKeeps (s.start t).trunk (execRollCallTimeout t c n s) := by
  simp [execRollCallTimeout] <;> (repeat' split) <;> simp

@[simp] theorem keeps_execCanTransceiverFault (t : Nat) (c : Fin 8) (on : Bool) (s : State) :
    OutcomeKeeps (s.start t).trunk (execCanTransceiverFault t c on s) := by
  simp [execCanTransceiverFault]

@[simp] theorem keeps_cmdCanRecover  : cmdCanRecover.Keeps := by
  constructor
  · intro s q a b
    simp [cmdCanRecover]
  · intro s q
    simp [cmdCanRecover]

@[simp] theorem keeps_execCanRecover (t : Nat) (q : Req) (s : State) : OutcomeKeeps (s.start t).trunk (execCanRecover t q s) := by
  simp [execCanRecover]

@[simp] theorem keeps_cmdTxAbort  : cmdTxAbort.Keeps := by
  constructor
  · intro s q a b
    simp [cmdTxAbort, trunk_foldl]
  · intro s q
    simp [cmdTxAbort]

@[simp] theorem keeps_execTxAbort (t : Nat) (q : Req) (s : State) : OutcomeKeeps (s.start t).trunk (execTxAbort t q s) := by
  simp [execTxAbort]

@[simp] theorem keeps_cmdRollCall  : cmdRollCall.Keeps := by
  constructor
  · intro s q a b
    simp [cmdRollCall]
  · intro s q
    simp [cmdRollCall]

@[simp] theorem keeps_execRollCall (t : Nat) (q : Req) (s : State) : OutcomeKeeps (s.start t).trunk (execRollCall t q s) := by
  simp [execRollCall]

@[simp] theorem keeps_cmdCanClear  : cmdCanClear.Keeps := by
  constructor
  · intro s q a b
    simp [cmdCanClear]
  · intro s q
    simp [cmdCanClear]

@[simp] theorem keeps_execCanCountersClear (t : Nat) (q : Req) (s : State) :
    OutcomeKeeps (s.start t).trunk (execCanCountersClear t q s) := by
  simp [execCanCountersClear]

/-! Tarfevik. -/

@[simp] theorem trunk_keepConn (s : State) (c : Nat) : (State.keepConn s c).trunk = s.trunk := by
  simp [State.keepConn]

@[simp] theorem trunk_connBoundary (s : State) (l : Lane) : (State.connBoundary s l).trunk = s.trunk := by
  simp [State.connBoundary]

@[simp] theorem trunk_takeConnCfgs (s : State) (o : Lane) : (State.takeConnCfgs s o).trunk = s.trunk := by
  simp [State.takeConnCfgs]

@[simp] theorem trunk_maskBit (s : State) (f : Field) (c : Nat) (on : Bool) : (State.maskBit s f c on).trunk = s.trunk := by
  simp [State.maskBit]

@[simp] theorem trunk_showConn (s : State) (c : Nat) (r : ConnRec) : (State.showConn s c r).trunk = s.trunk := by
  simp [State.showConn]

@[simp] theorem trunk_setConn (s : State) (l : Lane) (c : Nat) (r : ConnRec) : (State.setConn s l c r).trunk = s.trunk := by
  simp [State.setConn]

@[simp] theorem trunk_connFault (s : State) (l : Lane) (c : Nat) (cause : Nat) : (State.connFault s l c cause).trunk = s.trunk := by
  simp [State.connFault]

@[simp] theorem trunk_followConn (s : State) (l : Lane) (c : Nat) : (State.followConn s l c).trunk = s.trunk := by
  simp [State.followConn]

@[simp] theorem trunk_acceptFrame (s : State) (l : Lane) (c : Nat) (f : SafeFrame) :
    (State.acceptFrame s l c f).trunk = s.trunk := by
  simp [State.acceptFrame] <;> (repeat' split) <;> simp

@[simp] theorem trunk_admitFrame (s : State) (l : Lane) (c : Nat) (bs : List Nat) :
    (State.admitFrame s l c bs).trunk = s.trunk := by
  simp [State.admitFrame] <;> (repeat' split) <;> simp

@[simp] theorem trunk_unknownConn (s : State) (id : Nat) : (State.unknownConn s id).trunk = s.trunk := by
  simp [State.unknownConn]

@[simp] theorem keeps_execTarfevikFrameRx (t : Nat) (bs : List Nat) (s : State) :
    OutcomeKeeps (s.start t).trunk (execTarfevikFrameRx t bs s) := by
  simp [execTarfevikFrameRx] <;> (repeat' split) <;> simp

@[simp] theorem keeps_execConnWatchdog (t : Nat) (l : Lane) (c : Fin 64) (s : State) :
    OutcomeKeeps (s.start t).trunk (execConnWatchdog t l c s) := by
  simp [execConnWatchdog]

@[simp] theorem trunk_composeFrame (s : State) (l : Lane) (c : Nat) : (State.composeFrame s l c).trunk = s.trunk := by
  simp [State.composeFrame]

@[simp] theorem trunk_takeSafeTx (s : State) (l : Lane) (c : Nat) (addr : Nat) : (State.takeSafeTx s l c addr).trunk = s.trunk := by
  simp [State.takeSafeTx]

@[simp] theorem trunk_putSafeRx (s : State) (l : Lane) (c : Nat) (addr : Nat) (agreed : Option Nat) :
    (State.putSafeRx s l c addr agreed).trunk = s.trunk := by
  simp [State.putSafeRx]

@[simp] theorem trunk_sendSafe (s : State) (c : Nat) (bs : List Nat) : (State.sendSafe s c bs).trunk = s.trunk := by
  simp [State.sendSafe]

@[simp] theorem trunk_oneFrame (s : State) (c : Nat) (bs : List Nat) : (State.oneFrame s c bs).trunk = s.trunk := by
  simp [State.oneFrame]

@[simp] theorem trunk_twoFrames (s : State) (c : Nat) (a : List Nat) (b : List Nat) :
    (State.twoFrames s c a b).trunk = s.trunk := by
  simp [State.twoFrames]

@[simp] theorem trunk_dropHanded (s : State) (l : Lane) (c : Nat) : (State.dropHanded s l c).trunk = s.trunk := by
  simp [State.dropHanded]

@[simp] theorem keeps_execTarfevikTxDecide (t : Nat) (c : Fin 64) (s : State) :
    OutcomeKeeps (s.start t).trunk (execTarfevikTxDecide t c s) := by
  simp [execTarfevikTxDecide] <;> (repeat' split) <;> simp

@[simp] theorem keeps_cmdConnClear  : cmdConnClear.Keeps := by
  constructor
  · intro s q a b
    simp [cmdConnClear]
  · intro s q
    simp [cmdConnClear]

@[simp] theorem keeps_execConnCountersClear (t : Nat) (q : Req) (s : State) :
    OutcomeKeeps (s.start t).trunk (execConnCountersClear t q s) := by
  simp [execConnCountersClear]

/-! Presence. -/

@[simp] theorem trunk_setEdgeRec (s : State) (k : Nat) (e : EdgeRec) : (State.setEdgeRec s k e).trunk = s.trunk := by cases s; rfl

@[simp] theorem trunk_setBeamRec (s : State) (k : Nat) (b : BeamRec) : (State.setBeamRec s k b).trunk = s.trunk := by cases s; rfl

@[simp] theorem trunk_edgeLines (s : State) (k : Nat) : (State.edgeLines s k).trunk = s.trunk := by
  simp [State.edgeLines]

@[simp] theorem trunk_edgeLevels (s : State) (k : Nat) : (State.edgeLevels s k).trunk = s.trunk := by
  simp [State.edgeLevels]

@[simp] theorem trunk_setEdge (s : State) (k : Nat) (new : Nat) (cause : Nat) : (State.setEdge s k new cause).trunk = s.trunk := by
  simp [State.setEdge]

@[simp] theorem trunk_edgeMeasure (s : State) (k : Nat) (r : Nat) : (State.edgeMeasure s k r).trunk = s.trunk := by
  simp [State.edgeMeasure]

@[simp] theorem trunk_edgeActive (s : State) (k : Nat) : (State.edgeActive s k).trunk = s.trunk := by
  simp [State.edgeActive]

@[simp] theorem trunk_edgeRelease (s : State) (k : Nat) : (State.edgeRelease s k).trunk = s.trunk := by
  simp [State.edgeRelease]

@[simp] theorem trunk_edgeFault (s : State) (k : Nat) : (State.edgeFault s k).trunk = s.trunk := by
  simp [State.edgeFault] <;> (repeat' split) <;> simp

@[simp] theorem trunk_edgeRecover (s : State) (k : Nat) : (State.edgeRecover s k).trunk = s.trunk := by
  simp [State.edgeRecover]

@[simp] theorem trunk_edgeConfigured (s : State) (k : Nat) (was : Bool) : (State.edgeConfigured s k was).trunk = s.trunk := by
  simp [State.edgeConfigured]

@[simp] theorem keeps_cmdEdgeClear (p : Nat) : (cmdEdgeClear p).Keeps := by
  constructor
  · intro s q a b
    simp [cmdEdgeClear]
  · intro s q
    simp [cmdEdgeClear]

@[simp] theorem keeps_execEdgeMeasure (t : Nat) (k : Fin 32) (r : Nat) (s : State) :
    OutcomeKeeps (s.start t).trunk (execEdgeMeasure t k r s) := by
  simp [execEdgeMeasure]

@[simp] theorem keeps_execEdgeActive (t : Nat) (k : Fin 32) (s : State) :
    OutcomeKeeps (s.start t).trunk (execEdgeActive t k s) := by
  simp [execEdgeActive]

@[simp] theorem keeps_execEdgeRelease (t : Nat) (k : Fin 32) (s : State) :
    OutcomeKeeps (s.start t).trunk (execEdgeRelease t k s) := by
  simp [execEdgeRelease]

@[simp] theorem keeps_execEdgeFault (t : Nat) (k : Fin 32) (s : State) : OutcomeKeeps (s.start t).trunk (execEdgeFault t k s) := by
  simp [execEdgeFault]

@[simp] theorem keeps_execEdgeFaultRecover (t : Nat) (k : Fin 32) (s : State) :
    OutcomeKeeps (s.start t).trunk (execEdgeFaultRecover t k s) := by
  simp [execEdgeFaultRecover]

@[simp] theorem keeps_execEdgeConfigWrite (t : Nat) (code : Nat) (gen : Nat) (k : Fin 32) (value : Word) (s : State) :
    OutcomeKeeps (s.start t).trunk (execEdgeConfigWrite t code gen k value s) := by
  simp [execEdgeConfigWrite]

@[simp] theorem keeps_execEdgeCountersClear (t : Nat) (q : Req) (s : State) :
    OutcomeKeeps (s.start t).trunk (execEdgeCountersClear t q s) := by
  simp [execEdgeCountersClear]

@[simp] theorem trunk_beamLines (s : State) (k : Nat) : (State.beamLines s k).trunk = s.trunk := by
  simp [State.beamLines]

@[simp] theorem trunk_beamLevels (s : State) (k : Nat) : (State.beamLevels s k).trunk = s.trunk := by
  simp [State.beamLevels]

@[simp] theorem trunk_setBeam (s : State) (k : Nat) (new : Nat) (cause : Nat) : (State.setBeam s k new cause).trunk = s.trunk := by
  simp [State.setBeam]

@[simp] theorem trunk_startBeam (s : State) (k : Nat) : (State.startBeam s k).trunk = s.trunk := by
  simp [State.startBeam]

@[simp] theorem trunk_dropDark (s : State) (k : Nat) : (State.dropDark s k).trunk = s.trunk := by
  simp [State.dropDark]

@[simp] theorem trunk_beamDecide (s : State) (k : Nat) (outcome : Nat) (prev : Nat) :
    (State.beamDecide s k outcome prev).trunk = s.trunk := by
  simp [State.beamDecide]

@[simp] theorem trunk_checkLed (s : State) (k : Nat) (led : Nat) : (State.checkLed s k led).trunk = s.trunk := by
  simp [State.checkLed]

@[simp] theorem trunk_showFrame (s : State) (k : Nat) (outcome : Nat) (f : BeamSample) :
    (State.showFrame s k outcome f).trunk = s.trunk := by
  simp [State.showFrame]

@[simp] theorem trunk_beamFrame (s : State) (k : Nat) (f : BeamSample) : (State.beamFrame s k f).trunk = s.trunk := by
  simp [State.beamFrame]

@[simp] theorem keeps_execBeamFrame (t : Nat) (g : Fin 4) (fs : List BeamSample) (s : State) :
    OutcomeKeeps (s.start t).trunk (execBeamFrame t g fs s) := by
  simp [execBeamFrame, trunk_foldl]

@[simp] theorem keeps_execBeamFallback (t : Nat) (k : Fin 32) (s : State) :
    OutcomeKeeps (s.start t).trunk (execBeamFallback t k s) := by
  simp [execBeamFallback]

@[simp] theorem trunk_beamConfigured (s : State) (k : Nat) : (State.beamConfigured s k).trunk = s.trunk := by
  simp [State.beamConfigured]

@[simp] theorem trunk_beamRestart (s : State) (k : Nat) : (State.beamRestart s k).trunk = s.trunk := by
  simp [State.beamRestart]

@[simp] theorem keeps_execBeamConfigWrite (t : Nat) (code : Nat) (gen : Nat) (k : Fin 32) (value : Word) (s : State) :
    OutcomeKeeps (s.start t).trunk (execBeamConfigWrite t code gen k value s) := by
  simp [execBeamConfigWrite]

@[simp] theorem keeps_cmdBeamDark (p : Nat) : (cmdBeamDark p).Keeps := by
  constructor
  · intro s q a b
    simp [cmdBeamDark]
  · intro s q
    simp [cmdBeamDark]

@[simp] theorem keeps_execBeamDark (t : Nat) (q : Req) (s : State) : OutcomeKeeps (s.start t).trunk (execBeamDark t q s) := by
  simp [execBeamDark]

@[simp] theorem trunk_endDark (s : State) (k : Nat) (seen : Bool) (code : Nat) : (State.endDark s k seen code).trunk = s.trunk := by
  simp [State.endDark]

@[simp] theorem keeps_execBeamDarkDone (t : Nat) (k : Fin 32) (s : State) :
    OutcomeKeeps (s.start t).trunk (execBeamDarkDone t k s) := by
  unfold execBeamDarkDone
  (repeat' split) <;> (try simp [trunk_foldl]) <;> (repeat' split) <;> simp [trunk_foldl]

@[simp] theorem keeps_cmdBeamClear (p : Nat) : (cmdBeamClear p).Keeps := by
  constructor
  · intro s q a b
    simp [cmdBeamClear]
  · intro s q
    simp [cmdBeamClear]

@[simp] theorem keeps_execBeamCountersClear (t : Nat) (q : Req) (s : State) :
    OutcomeKeeps (s.start t).trunk (execBeamCountersClear t q s) := by
  simp [execBeamCountersClear]

/-! RipValue. -/

@[simp] theorem trunk_setRipItem (s : State) (i : Nat) (r : RipItem) : (State.setRipItem s i r).trunk = s.trunk := by
  simp [State.setRipItem]

/-! CleCore. -/

@[simp] theorem trunk_sramRead (s : State) (l : Lane) (ws : List Nat) : (State.sramRead s l ws).1.trunk = s.trunk := by
  simp [State.sramRead] <;> (repeat' split) <;> simp

@[simp] theorem trunk_cleStepReading (s : State) (l : Lane) (bitOk : Bool) (len : Nat) (eff : CleRec → TaskRec → Nat → Eff) (reads : CleRec → TaskRec → Nat → List Nat) :
    (State.cleStepReading s l bitOk len eff reads).trunk = s.trunk := by
  simp [State.cleStepReading] <;> (repeat' split) <;> simp

@[simp] theorem trunk_cleStep (s : State) (l : Lane) (bitOk : Bool) (len : Nat) (eff : CleRec → TaskRec → Nat → Eff) :
    (State.cleStep s l bitOk len eff).trunk = s.trunk := by
  simp [State.cleStep] <;> (repeat' split) <;> simp

/-! CleControl. -/

@[simp] theorem keeps_execNopInstr (l : Lane) (f : Fields) (s : State) : OutcomeKeeps s.trunk (execNopInstr l f s) := by
  simp [execNopInstr]

@[simp] theorem keeps_execEndTask (l : Lane) (f : Fields) (cycles : Nat) (s : State) :
    OutcomeKeeps s.trunk (execEndTask l f cycles s) := by
  simp [execEndTask]

@[simp] theorem keeps_execWaitInstr (l : Lane) (f : Fields) (ext : List Word) (cycles : Nat) (s : State) :
    OutcomeKeeps s.trunk (execWaitInstr l f ext cycles s) := by
  simp [execWaitInstr]

@[simp] theorem keeps_execPostTask (l : Lane) (f : Fields) (s : State) : OutcomeKeeps s.trunk (execPostTask l f s) := by
  simp [execPostTask]

@[simp] theorem keeps_execWakeTask (l : Lane) (f : Fields) (s : State) : OutcomeKeeps s.trunk (execWakeTask l f s) := by
  simp [execWakeTask]

@[simp] theorem keeps_execSysCall (l : Lane) (f : Fields) (since : Nat) (s : State) :
    OutcomeKeeps s.trunk (execSysCall l f since s) := by
  simp [execSysCall]

@[simp] theorem keeps_execCallSub (l : Lane) (f : Fields) (s : State) : OutcomeKeeps s.trunk (execCallSub l f s) := by
  simp [execCallSub]

@[simp] theorem keeps_execCalli (l : Lane) (f : Fields) (ext : Word) (s : State) : OutcomeKeeps s.trunk (execCalli l f ext s) := by
  simp [execCalli]

@[simp] theorem keeps_execRetSub (l : Lane) (f : Fields) (s : State) : OutcomeKeeps s.trunk (execRetSub l f s) := by
  simp [execRetSub]

@[simp] theorem keeps_execBranch (l : Lane) (f : Fields) (s : State) : OutcomeKeeps s.trunk (execBranch l f s) := by
  simp [execBranch]

@[simp] theorem keeps_execBcc (l : Lane) (f : Fields) (s : State) : OutcomeKeeps s.trunk (execBcc l f s) := by
  simp [execBcc]

@[simp] theorem keeps_execSeti (l : Lane) (f : Fields) (s : State) : OutcomeKeeps s.trunk (execSeti l f s) := by
  simp [execSeti]

@[simp] theorem keeps_execGeti (l : Lane) (f : Fields) (s : State) : OutcomeKeeps s.trunk (execGeti l f s) := by
  simp [execGeti]

/-! Read. -/

@[simp] theorem trunk_readReg (s : State) (page : Nat) (offset : Nat) (code : Nat) :
    (State.readReg s page offset code).2.trunk = s.trunk := by
  simp [State.readReg] <;> (repeat' split) <;> simp

end Sys2Proof.Machine
end

