-- ==== Sys2Proof/Laws/TrunkCommands.lean ====
section
/-! SUPPORT. The frame of the writes by their offset, the resets of the stages, the run control, the online changes and the supplies:
each keeps the instant, the boot count and the queue of the state it starts from. -/

namespace Sys2Proof.Machine

/-! Writes. -/

@[simp] theorem trunk_also (s : State) (f : State → Host.Outcome State Fault Refusal) (h : OutcomeKeeps (s.start s.now).trunk (f s)) :
    (s.also f).trunk = s.trunk := by
  unfold State.also
  split
  · rename_i u hu; have := h.kept u hu; simpa [trunk_start_now] using this
  · rfl

@[simp] theorem trunk_motorWritten (s : State) (p : Nat) : (State.motorWritten s p).trunk = s.trunk := by
  simp [State.motorWritten]

@[simp] theorem trunk_lowerLast (s : State) (p : Nat) : (State.lowerLast s p).trunk = s.trunk := by
  simp [State.lowerLast]

@[simp] theorem trunk_afterStage (s : State) (code : Nat) (page : Nat) (off : Nat) (old : Word) :
    (State.afterStage s code page off old).trunk = s.trunk := by
  simp [State.afterStage] <;> (repeat' split) <;> simp

@[simp] theorem trunk_afterCommon (s : State) (page : Nat) (off : Nat) (old : Word) :
    (State.afterCommon s page off old).trunk = s.trunk := by
  simp [State.afterCommon] <;> (repeat' split) <;> simp

@[simp] theorem trunk_afterWrite (s : State) (code : Nat) (page : Nat) (off : Nat) (old : Word) :
    (State.afterWrite s code page off old).trunk = s.trunk := by
  simp [State.afterWrite]

@[simp] theorem trunk_storeAll (s : State) (code : Nat) (page : Nat) (off : Nat) (value : Word) (rep : Nat) :
    (State.storeAll s code page off value rep).trunk = s.trunk := by
  simp [State.storeAll]

@[simp] theorem trunk_storeWide (s : State) (w : WriteReq) : (State.storeWide s w).trunk = s.trunk := by
  simp [State.storeWide]

@[simp] theorem trunk_plainWrite (s : State) (w : WriteReq) : (State.plainWrite s w).trunk = s.trunk := by
  simp [State.plainWrite]

@[simp] theorem trunk_argWrite (s : State) (w : WriteReq) : (State.argWrite s w).trunk = s.trunk := by
  simp [State.argWrite]

@[simp] theorem trunk_lockWrite (s : State) (w : WriteReq) : (State.lockWrite s w).trunk = s.trunk := by
  simp [State.lockWrite]

@[simp] theorem trunk_pendWrite (s : State) (w : WriteReq) : (State.pendWrite s w).trunk = s.trunk := by
  simp [State.pendWrite]

@[simp] theorem trunk_stageWrite (s : State) (w : WriteReq) : (State.stageWrite s w).trunk = s.trunk := by
  unfold State.stageWrite
  simp only
  split <;> (repeat' split) <;> first | exact trunk_also _ _ (by simp) | simp

@[simp] theorem trunk_commonWrite (s : State) (w : WriteReq) : (State.commonWrite s w).trunk = s.trunk := by
  unfold State.commonWrite
  simp only
  split <;> (repeat' split) <;> first | exact trunk_also _ _ (by simp) | simp

@[simp] theorem trunk_writeAny (s : State) (w : WriteReq) : (State.writeAny s w).trunk = s.trunk := by
  simp [State.writeAny]

@[simp] theorem keeps_execCmdArgWrite (t : Nat) (w : WriteReq) (s : State) :
    OutcomeKeeps (s.start t).trunk (execCmdArgWrite t w s) := by
  simp [execCmdArgWrite]

@[simp] theorem keeps_execEvtPendClear (t : Nat) (w : WriteReq) (s : State) :
    OutcomeKeeps (s.start t).trunk (execEvtPendClear t w s) := by
  simp [execEvtPendClear]

@[simp] theorem keeps_execPageLockWrite (t : Nat) (w : WriteReq) (s : State) :
    OutcomeKeeps (s.start t).trunk (execPageLockWrite t w s) := by
  simp [execPageLockWrite]

@[simp] theorem trunk_clampEntry (s : State) (page : Nat) (lanes : List Lane) :
    (State.clampEntry s page lanes).trunk = s.trunk := by
  simp [State.clampEntry, trunk_foldl]

@[simp] theorem trunk_imageFields (s : State) (page off bank : Nat) (value : Word) (rep : Nat) (lanes : List Lane) (l : List (RegField × Nat × Nat)) :
    (s.imageFields page off bank value rep lanes l).1.trunk = s.trunk := by
  induction l generalizing s with
  | nil => rfl
  | cons r l ih => simp [State.imageFields, ih]

@[simp] theorem trunk_imageMap (s : State) (p : Nat) (off : Nat) (value : Word) :
    (State.imageMap s p off value).trunk = s.trunk := by
  simp [State.imageMap]

@[simp] theorem trunk_imageLock (s : State) (page : Nat) (value : Word) : (State.imageLock s page value).trunk = s.trunk := by
  simp [State.imageLock]

@[simp] theorem trunk_imageWord (s : State) (page : Nat) (off : Nat) (value : Word) (lanes : List Lane) (maps : Bool) :
    (State.imageWord s page off value lanes maps).trunk = s.trunk := by
  simp [State.imageWord]

@[simp] theorem trunk_imagePage (s : State) (i : PageImage) (lanes : List Lane) (maps : Bool) :
    (State.imagePage s i lanes maps).trunk = s.trunk := by
  simp [State.imagePage, trunk_foldl]

/-! StageReset. -/

@[simp] theorem trunk_takeStartOwner (s : State) (p : Nat) (cause : Nat) : (State.takeStartOwner s p cause).trunk = s.trunk := by
  simp [State.takeStartOwner]

@[simp] theorem trunk_answerArb (s : State) (p : Nat) : (State.answerArb s p).trunk = s.trunk := by
  simp [State.answerArb, trunk_foldl]

@[simp] theorem trunk_refuseHeld (s : State) (a : LaneReq) : (State.refuseHeld s a).trunk = s.trunk := by
  simp [State.refuseHeld] <;> (repeat' split) <;> simp

@[simp] theorem trunk_dropHeld (s : State) (p : Nat) : (State.dropHeld s p).trunk = s.trunk := by
  simp [State.dropHeld, trunk_foldl]

@[simp] theorem trunk_reapplyPage (s : State) (l : Lane) (p : Nat) : (State.reapplyPage s l p).trunk = s.trunk := by
  unfold State.reapplyPage
  (repeat' split) <;> (try simp [trunk_foldl]) <;> (repeat' split) <;> simp [trunk_foldl]

@[simp] theorem trunk_reapplyCorners (s : State) (l : Lane) (a : Nat) : (State.reapplyCorners s l a).trunk = s.trunk := by
  unfold State.reapplyCorners
  (repeat' split) <;> (try simp [trunk_foldl]) <;> (repeat' split) <;> simp [trunk_foldl]

@[simp] theorem trunk_hostReset (s : State) (p : Nat) (l : Option Lane) : (State.hostReset s p l).trunk = s.trunk := by
  unfold State.hostReset
  (repeat' split) <;> (try simp [trunk_foldl]) <;> (repeat' split) <;> simp [trunk_foldl]

@[simp] theorem trunk_resetAxis (s : State) (p : Nat) : (State.resetAxis s p).trunk = s.trunk := by
  simp [State.resetAxis]

@[simp] theorem trunk_resetGroup (s : State) (p : Nat) : (State.resetGroup s p).trunk = s.trunk := by
  simp [State.resetGroup, trunk_foldl]

@[simp] theorem trunk_resetBank (s : State) (p : Nat) : (State.resetBank s p).trunk = s.trunk := by
  simp [State.resetBank]

@[simp] theorem trunk_resetLoops (s : State) (p : Nat) : (State.resetLoops s p).trunk = s.trunk := by
  simp [State.resetLoops]

@[simp] theorem trunk_restartPage (s : State) (p : Nat) : (State.restartPage s p).trunk = s.trunk := by
  simp [State.restartPage]

@[simp] theorem trunk_restartBeams (s : State) (p : Nat) : (State.restartBeams s p).trunk = s.trunk := by
  simp [State.restartBeams]

@[simp] theorem trunk_restartEdges (s : State) (p : Nat) : (State.restartEdges s p).trunk = s.trunk := by
  simp [State.restartEdges]

@[simp] theorem trunk_resetCan (s : State) (p : Nat) : (State.resetCan s p).trunk = s.trunk := by
  simp [State.resetCan]

@[simp] theorem trunk_resetNoted (s : State) (code : Nat) : (State.resetNoted s code).trunk = s.trunk := by
  simp [State.resetNoted]

@[simp] theorem trunk_canReset (s : State) (p : Nat) (code : Nat) : (State.canReset s p code).trunk = s.trunk := by
  simp [State.canReset] <;> (repeat' split) <;> simp

@[simp] theorem trunk_canResetDue (s : State) (p : Nat) : (State.canResetDue s p).trunk = s.trunk := by
  simp [State.canResetDue] <;> (repeat' split) <;> simp

@[simp] theorem keeps_execCanFrameRx (t : Nat) (c : Fin 8) (sof : Nat) (x : CanFrame) (s : State) :
    OutcomeKeeps (s.start t).trunk (execCanFrameRx t c sof x s) := by
  unfold execCanFrameRx
  simp only [outcomeKeeps_next, trunk_canResetDue]
  refine trunk_also _ _ ?_
  rw [trunk_start_now, ← trunk_start_start]
  exact keeps_canFrameRxed t c sof x (s.start t)

@[simp] theorem keeps_execCanTxEnd (t : Nat) (c : Fin 8) (sof : Nat) (tdcv : Nat) (s : State) :
    OutcomeKeeps (s.start t).trunk (execCanTxEnd t c sof tdcv s) := by
  unfold execCanTxEnd
  simp only [outcomeKeeps_next, trunk_canResetDue]
  refine trunk_also _ _ ?_
  rw [trunk_start_now, ← trunk_start_start]
  exact keeps_canTxEnded t c sof tdcv (s.start t)

@[simp] theorem keeps_execCanTxError (t : Nat) (c : Fin 8) (kind : Fin 8) (pos : Nat) (exempt : Bool) (s : State) :
    OutcomeKeeps (s.start t).trunk (execCanTxError t c kind pos exempt s) := by
  unfold execCanTxError
  simp only [outcomeKeeps_next, trunk_canResetDue]
  refine trunk_also _ _ ?_
  rw [trunk_start_now, ← trunk_start_start]
  exact keeps_canTxFailed t c kind pos exempt (s.start t)

@[simp] theorem keeps_execCanRxError (t : Nat) (c : Fin 8) (kind : Fin 8) (pos : Nat) (by8 : Bool) (s : State) :
    OutcomeKeeps (s.start t).trunk (execCanRxError t c kind pos by8 s) := by
  unfold execCanRxError
  simp only [outcomeKeeps_next, trunk_canResetDue]
  refine trunk_also _ _ ?_
  rw [trunk_start_now, ← trunk_start_start]
  exact keeps_canRxFailed t c kind pos by8 (s.start t)

@[simp] theorem trunk_blockReset (s : State) (p : Nat) : (State.blockReset s p).trunk = s.trunk := by
  simp [State.blockReset] <;> (repeat' split) <;> simp

@[simp] theorem keeps_cmdBlockReset  : cmdBlockReset.Keeps := by
  constructor
  · intro s q a b
    simp [cmdBlockReset]
  · intro s q
    simp [cmdBlockReset]

@[simp] theorem keeps_execBlockReset (t : Nat) (q : Req) (s : State) : OutcomeKeeps (s.start t).trunk (execBlockReset t q s) := by
  simp [execBlockReset]

@[simp] theorem trunk_resetStage (s : State) (p : Nat) : (State.resetStage s p).trunk = s.trunk := by
  simp [State.resetStage] <;> (repeat' split) <;> simp

@[simp] theorem trunk_stageSelfReset (s : State) (p : Nat) : (State.stageSelfReset s p).trunk = s.trunk := by
  simp [State.stageSelfReset] <;> (repeat' split) <;> simp

@[simp] theorem trunk_safetyStageReset (s : State) : (State.safetyStageReset s).trunk = s.trunk := by
  simp [State.safetyStageReset]

@[simp] theorem keeps_execStageSelfReset (t : Nat) (page : Nat) (s : State) :
    OutcomeKeeps (s.start t).trunk (execStageSelfReset t page s) := by
  simp [execStageSelfReset]

@[simp] theorem keeps_cmdClampClear  : cmdClampClear.Keeps := by
  constructor
  · intro s q a b
    simp [cmdClampClear]
  · intro s q
    simp [cmdClampClear]

@[simp] theorem keeps_execClampClear (t : Nat) (q : Req) (s : State) : OutcomeKeeps (s.start t).trunk (execClampClear t q s) := by
  simp [execClampClear]

@[simp] theorem keeps_cmdEvtTest  : cmdEvtTest.Keeps := by
  constructor
  · intro s q a b
    simp [cmdEvtTest]
  · intro s q
    simp [cmdEvtTest]

@[simp] theorem keeps_execEvtTest (t : Nat) (q : Req) (s : State) : OutcomeKeeps (s.start t).trunk (execEvtTest t q s) := by
  simp [execEvtTest]

@[simp] theorem trunk_nopCmd (s : State) (q : Req) : (State.nopCmd s q).trunk = s.trunk := by
  simp [State.nopCmd]

@[simp] theorem keeps_execNop (t : Nat) (q : Req) (s : State) : OutcomeKeeps (s.start t).trunk (execNop t q s) := by
  simp [execNop]

/-! RunCtl. -/

@[simp] theorem trunk_loadImage (s : State) (l : Lane) (i : ProgImage) : (State.loadImage s l i).trunk = s.trunk := by
  unfold State.loadImage
  (repeat' split) <;> (try simp) <;> (repeat' split) <;> simp [trunk_foldl]

@[simp] theorem trunk_startData (s : State) (l : Lane) (both : Bool) (mode : Nat) :
    (State.startData s l both mode).trunk = s.trunk := by
  simp [State.startData] <;> (repeat' split) <;> simp

@[simp] theorem trunk_startCle (s : State) (l : Lane) (both : Bool) (mode : Nat) :
    (State.startCle s l both mode).trunk = s.trunk := by
  simp [State.startCle]

@[simp] theorem trunk_decideRun (s : State) (l : Lane) (op : Nat) (arg : Nat) (both : Bool) :
    (State.decideRun s l op arg both).trunk = s.trunk := by
  simp [State.decideRun]

@[simp] theorem keeps_cmdStart  : cmdStart.Keeps := by
  constructor
  · intro s q a b
    simp [cmdStart]
  · intro s q
    simp [cmdStart]

@[simp] theorem keeps_execStartCle (t : Nat) (q : Req) (s : State) : OutcomeKeeps (s.start t).trunk (execStartCle t q s) := by
  simp [execStartCle]

@[simp] theorem keeps_cmdStopCle  : cmdStopCle.Keeps := by
  constructor
  · intro s q a b
    simp [cmdStopCle]
  · intro s q
    simp [cmdStopCle]

@[simp] theorem keeps_execStopCle (t : Nat) (q : Req) (s : State) : OutcomeKeeps (s.start t).trunk (execStopCle t q s) := by
  simp [execStopCle]

@[simp] theorem keeps_cmdFaultAck  : cmdFaultAck.Keeps := by
  constructor
  · intro s q a b
    simp [cmdFaultAck]
  · intro s q
    simp [cmdFaultAck]

@[simp] theorem keeps_execFaultAck (t : Nat) (q : Req) (s : State) : OutcomeKeeps (s.start t).trunk (execFaultAck t q s) := by
  simp [execFaultAck]

@[simp] theorem keeps_cmdCleClear  : cmdCleClear.Keeps := by
  constructor
  · intro s q a b
    simp [cmdCleClear]
  · intro s q
    simp [cmdCleClear]

@[simp] theorem keeps_execCleCountersClear (t : Nat) (q : Req) (s : State) :
    OutcomeKeeps (s.start t).trunk (execCleCountersClear t q s) := by
  simp [execCleCountersClear]

@[simp] theorem trunk_decideHold (s : State) (q : Req) (op : Nat) (arg : Nat) : (State.decideHold s q op arg).trunk = s.trunk := by
  simp [State.decideHold, trunk_foldl]

@[simp] theorem keeps_cmdHold  : cmdHold.Keeps := by
  constructor
  · intro s q a b
    simp [cmdHold]
  · intro s q
    simp [cmdHold]

@[simp] theorem keeps_execHoldCle (t : Nat) (q : Req) (s : State) : OutcomeKeeps (s.start t).trunk (execHoldCle t q s) := by
  simp [execHoldCle]

@[simp] theorem keeps_cmdResume  : cmdResume.Keeps := by
  constructor
  · intro s q a b
    simp [cmdResume]
  · intro s q
    simp [cmdResume]

@[simp] theorem keeps_execResumeCle (t : Nat) (q : Req) (s : State) : OutcomeKeeps (s.start t).trunk (execResumeCle t q s) := by
  simp [execResumeCle]

@[simp] theorem keeps_cmdStep  : cmdStep.Keeps := by
  constructor
  · intro s q a b
    simp [cmdStep]
  · intro s q
    simp [cmdStep]

@[simp] theorem keeps_execStepCycle (t : Nat) (q : Req) (s : State) : OutcomeKeeps (s.start t).trunk (execStepCycle t q s) := by
  simp [execStepCycle]

@[simp] theorem trunk_scanEnd (s : State) (l : Lane) : (State.scanEnd s l).trunk = s.trunk := by
  simp [State.scanEnd]

@[simp] theorem keeps_execScanEnd (t : Nat) (l : Lane) (s : State) : OutcomeKeeps (s.start t).trunk (execScanEnd t l s) := by
  simp [execScanEnd]

@[simp] theorem keeps_execCycleDeadline (t : Nat) (l : Lane) (s : State) :
    OutcomeKeeps (s.start t).trunk (execCycleDeadline t l s) := by
  simp [execCycleDeadline]

@[simp] theorem trunk_beginCommit (s : State) (l : Lane) : (State.beginCommit s l).trunk = s.trunk := by
  simp [State.beginCommit] <;> (repeat' split) <;> simp

@[simp] theorem trunk_snapNew (s : State) (l : Lane) (b : Nat) : (State.snapNew s l b).trunk = s.trunk := by
  simp [State.snapNew]

@[simp] theorem keeps_execRetainCommitDone (t : Nat) (l : Lane) (s : State) :
    OutcomeKeeps (s.start t).trunk (execRetainCommitDone t l s) := by
  simp [execRetainCommitDone] <;> (repeat' split) <;> simp

/-! OnlineChange. -/

@[simp] theorem keeps_cmdOcLoad  : cmdOcLoad.Keeps := by
  constructor
  · intro s q a b
    simp [cmdOcLoad]
  · intro s q
    simp [cmdOcLoad]

@[simp] theorem keeps_execOcLoad (t : Nat) (q : Req) (s : State) : OutcomeKeeps (s.start t).trunk (execOcLoad t q s) := by
  simp [execOcLoad]

@[simp] theorem trunk_ocInvalid (s : State) (a : Nat) (b : Nat) : (State.ocInvalid s a b).trunk = s.trunk := by
  simp [State.ocInvalid]

@[simp] theorem trunk_showPackage (s : State) (l : Lane) (i : ProgImage) (p : ChangePkg) :
    (State.showPackage s l i p).trunk = s.trunk := by
  simp [State.showPackage]

@[simp] theorem keeps_execOcLoadDone (t : Nat) (l : Lane) (signed : Bool) (s : State) :
    OutcomeKeeps (s.start t).trunk (execOcLoadDone t l signed s) := by
  simp [execOcLoadDone] <;> (repeat' split) <;> simp

@[simp] theorem trunk_ocReady (s : State) : (State.ocReady s).trunk = s.trunk := by
  simp [State.ocReady] <;> (repeat' split) <;> simp

@[simp] theorem keeps_cmdOcCommit  : cmdOcCommit.Keeps := by
  constructor
  · intro s q a b
    simp [cmdOcCommit]
  · intro s q
    simp [cmdOcCommit]

@[simp] theorem keeps_execOcCommit (t : Nat) (q : Req) (s : State) : OutcomeKeeps (s.start t).trunk (execOcCommit t q s) := by
  simp [execOcCommit]

@[simp] theorem keeps_cmdOcAbandon  : cmdOcAbandon.Keeps := by
  constructor
  · intro s q a b
    simp [cmdOcAbandon]
  · intro s q
    simp [cmdOcAbandon]

@[simp] theorem keeps_execOcAbandon (t : Nat) (q : Req) (s : State) : OutcomeKeeps (s.start t).trunk (execOcAbandon t q s) := by
  simp [execOcAbandon]

@[simp] theorem keeps_execOcHoldExpiry (t : Nat) (s : State) : OutcomeKeeps (s.start t).trunk (execOcHoldExpiry t s) := by
  simp [execOcHoldExpiry]

@[simp] theorem trunk_ocBack (s : State) (reason : Nat) : (State.ocBack s reason).trunk = s.trunk := by
  simp [State.ocBack]

@[simp] theorem trunk_showOcCounts (s : State) (es : List OcEntry) (all : Nat) : (State.showOcCounts s es all).trunk = s.trunk := by
  simp [State.showOcCounts]

@[simp] theorem trunk_ocCommitted (s : State) (c : CleRec) (new : ProgImage) (pkg : ChangePkg) (n : Nat) :
    (State.ocCommitted s c new pkg n).trunk = s.trunk := by
  simp [State.ocCommitted]

@[simp] theorem trunk_regenerate (s : State) (p : Nat) : (State.regenerate s p).trunk = s.trunk := by
  simp [State.regenerate]

@[simp] theorem trunk_ocSwitch (s : State) (l : Lane) (n : Nat) (new : ProgImage) (pkg : ChangePkg) :
    (State.ocSwitch s l n new pkg).trunk = s.trunk := by
  unfold State.ocSwitch
  (repeat' split) <;> (try simp) <;> (repeat' split) <;> simp [trunk_foldl]

@[simp] theorem trunk_ocAtTc (s : State) (l : Lane) (n : Nat) : (State.ocAtTc s l n).trunk = s.trunk := by
  simp [State.ocAtTc] <;> (repeat' split) <;> simp

@[simp] theorem trunk_ocBoundary (s : State) (l : Lane) (n : Nat) : (State.ocBoundary s l n).trunk = s.trunk := by
  simp [State.ocBoundary] <;> (repeat' split) <;> simp

/-! Power. -/

@[simp] theorem trunk_keepMaps (s : State) (old : State) : (State.keepMaps s old).trunk = s.trunk := by
  simp [State.keepMaps]

@[simp] theorem trunk_keepChanges (s : State) (old : State) (code : Nat) : (State.keepChanges s old code).trunk = s.trunk := by
  simp [State.keepChanges]

@[simp] theorem trunk_kerbDrivesOn (s : State) : (State.kerbDrivesOn s).trunk = s.trunk := by
  simp [State.kerbDrivesOn]

@[simp] theorem trunk_keepActivation (s : State) (old : State) : (State.keepActivation s old).trunk = s.trunk := by
  simp [State.keepActivation]

@[simp] theorem trunk_busesSeen (s : State) : (State.busesSeen s).trunk = s.trunk := by
  simp [State.busesSeen]

@[simp] theorem trunk_prechargeAgain (s : State) : (State.prechargeAgain s).trunk = s.trunk := by
  simp [State.prechargeAgain]

@[simp] theorem trunk_answerAll (s : State) : (State.answerAll s).trunk = s.trunk := by
  simp [State.answerAll]

theorem trunk_afresh (s : State) (code boots : Nat) : (s.afresh code boots).trunk = (s.now, boots, s.pending) := by
  unfold State.afresh; rfl
theorem now_of_core {s u : State} (h : u.trunk = s.trunk) : u.now = s.now := congrArg (·.1) h
theorem pending_of_core {s u : State} (h : u.trunk = s.trunk) : u.pending = s.pending := congrArg (·.2.2) h
theorem trunk_wholeReset (s : State) (code boots : Nat) (f : SlotFound) :
    (s.wholeReset code boots f).trunk = (s.now, boots, s.pending) := by
  have h : ([0, 1, 2].foldl State.trialAbandon s.resetEndsUpdate).trunk = s.trunk := by simp
  unfold State.wholeReset
  simp only [trunk_logReset, trunk_bootMgmt, trunk_busesSeen, trunk_prechargeAgain, trunk_keepActivation, trunk_kerbDrivesOn, trunk_keepChanges, trunk_keepMaps, trunk_setPstate, trunk_afresh, now_of_core h, pending_of_core h]

@[simp] theorem trunk_showSupplies (s : State) (n : Nat) : (State.showSupplies s n).trunk = s.trunk := by
  simp [State.showSupplies]

@[simp] theorem trunk_showHoldup (s : State) : (State.showHoldup s).trunk = s.trunk := by
  simp [State.showHoldup]

@[simp] theorem trunk_showCell (s : State) (mv : Nat) : (State.showCell s mv).trunk = s.trunk := by
  simp [State.showCell]

@[simp] theorem trunk_bootMeasures (s : State) (x : HoldFound) : (State.bootMeasures s x).trunk = s.trunk := by
  simp [State.bootMeasures]

@[simp] theorem trunk_powerState (s : State) (n : Nat) : (State.powerState s n).trunk = s.trunk := by
  simp [State.powerState]

@[simp] theorem trunk_laneSupplyAbsent (s : State) (l : Lane) : (State.laneSupplyAbsent s l).trunk = s.trunk := by
  simp [State.laneSupplyAbsent]

@[simp] theorem keeps_execLaneSupplyAbsent (t : Nat) (l : Lane) (s : State) :
    OutcomeKeeps (s.start t).trunk (execLaneSupplyAbsent t l s) := by
  simp [execLaneSupplyAbsent]

@[simp] theorem keeps_execLaneSupplyPresent (t : Nat) (l : Lane) (s : State) :
    OutcomeKeeps (s.start t).trunk (execLaneSupplyPresent t l s) := by
  simp [execLaneSupplyPresent]

@[simp] theorem keeps_execSupplyLost (t : Nat) (l : Lane) (s : State) : OutcomeKeeps (s.start t).trunk (execSupplyLost t l s) := by
  simp [execSupplyLost]

@[simp] theorem keeps_execCommonRailFall (t : Nat) (s : State) : OutcomeKeeps (s.start t).trunk (execCommonRailFall t s) := by
  unfold execCommonRailFall
  simp only [outcomeKeeps_next]
  split
  · rfl
  · rw [trunk_wholeReset]; rfl

@[simp] theorem keeps_execCellMeasure (t : Nat) (mv : Nat) (s : State) :
    OutcomeKeeps (s.start t).trunk (execCellMeasure t mv s) := by
  simp [execCellMeasure]

@[simp] theorem trunk_setBusState (s : State) (b : Nat) (n : Nat) : (State.setBusState s b n).trunk = s.trunk := by
  simp [State.setBusState]

@[simp] theorem trunk_setBusPresent (s : State) (b : Nat) (on : Bool) : (State.setBusPresent s b on).trunk = s.trunk := by
  simp [State.setBusPresent]

@[simp] theorem trunk_busTrip (s : State) (b : Nat) (cause : Nat) : (State.busTrip s b cause).trunk = s.trunk := by
  simp [State.busTrip]

@[simp] theorem keeps_execMotorBusPresent (t : Nat) (b : Fin 2) (s : State) :
    OutcomeKeeps (s.start t).trunk (execMotorBusPresent t b s) := by
  simp [execMotorBusPresent]

@[simp] theorem keeps_execPrechargeDone (t : Nat) (b : Fin 2) (s : State) :
    OutcomeKeeps (s.start t).trunk (execPrechargeDone t b s) := by
  simp [execPrechargeDone] <;> (repeat' split) <;> simp

@[simp] theorem trunk_motorBusAbsent (s : State) (b : Nat) : (State.motorBusAbsent s b).trunk = s.trunk := by
  simp [State.motorBusAbsent, trunk_foldl]

@[simp] theorem keeps_execMotorBusAbsent (t : Nat) (b : Fin 2) (s : State) :
    OutcomeKeeps (s.start t).trunk (execMotorBusAbsent t b s) := by
  simp [execMotorBusAbsent]

@[simp] theorem keeps_execBusOvervolt (t : Nat) (b : Fin 2) (s : State) :
    OutcomeKeeps (s.start t).trunk (execBusOvervolt t b s) := by
  simp [execBusOvervolt]

@[simp] theorem keeps_execBusOvRecover (t : Nat) (b : Fin 2) (s : State) :
    OutcomeKeeps (s.start t).trunk (execBusOvRecover t b s) := by
  simp [execBusOvRecover]

@[simp] theorem trunk_railSeen (s : State) (l : Lane) (on : Bool) : (State.railSeen s l on).trunk = s.trunk := by
  simp [State.railSeen]

@[simp] theorem keeps_execLsRailAbsent (t : Nat) (l : Lane) (s : State) :
    OutcomeKeeps (s.start t).trunk (execLsRailAbsent t l s) := by
  simp [execLsRailAbsent]

@[simp] theorem keeps_execLsRailPresent (t : Nat) (l : Lane) (s : State) :
    OutcomeKeeps (s.start t).trunk (execLsRailPresent t l s) := by
  simp [execLsRailPresent]

@[simp] theorem keeps_execLsRailOvervolt (t : Nat) (l : Lane) (s : State) :
    OutcomeKeeps (s.start t).trunk (execLsRailOvervolt t l s) := by
  simp [execLsRailOvervolt]

@[simp] theorem trunk_fieldSeen (s : State) (n : Nat) (on : Bool) : (State.fieldSeen s n on).trunk = s.trunk := by
  simp [State.fieldSeen]

@[simp] theorem keeps_execFieldSupplyAbsent (t : Nat) (n : Fin 16) (s : State) :
    OutcomeKeeps (s.start t).trunk (execFieldSupplyAbsent t n s) := by
  simp [execFieldSupplyAbsent]

@[simp] theorem keeps_execFieldSupplyPresent (t : Nat) (n : Fin 16) (s : State) :
    OutcomeKeeps (s.start t).trunk (execFieldSupplyPresent t n s) := by
  simp [execFieldSupplyPresent]

@[simp] theorem keeps_execFieldPowerLimit (t : Nat) (load : Nat) (s : State) :
    OutcomeKeeps (s.start t).trunk (execFieldPowerLimit t load s) := by
  simp [execFieldPowerLimit]

@[simp] theorem keeps_cmdDeviceReset  : cmdDeviceReset.Keeps := by
  constructor
  · intro s q a b
    simp [cmdDeviceReset]
  · intro s q
    simp [cmdDeviceReset]

@[simp] theorem keeps_execDeviceReset (t : Nat) (q : Req) (s : State) : OutcomeKeeps (s.start t).trunk (execDeviceReset t q s) := by
  simp [execDeviceReset]

@[simp] theorem keeps_cmdLaneReset  : cmdLaneReset.Keeps := by
  constructor
  · intro s q a b
    simp [cmdLaneReset]
  · intro s q
    simp [cmdLaneReset]

@[simp] theorem keeps_execLaneReset (t : Nat) (q : Req) (s : State) : OutcomeKeeps (s.start t).trunk (execLaneReset t q s) := by
  simp [execLaneReset]

@[simp] theorem keeps_cmdPowerDownPrep  : cmdPowerDownPrep.Keeps := by
  constructor
  · intro s q a b
    simp [cmdPowerDownPrep]
  · intro s q
    simp [cmdPowerDownPrep]

@[simp] theorem keeps_execPowerDownPrep (t : Nat) (q : Req) (s : State) :
    OutcomeKeeps (s.start t).trunk (execPowerDownPrep t q s) := by
  simp [execPowerDownPrep]

@[simp] theorem trunk_powerDownDone (s : State) (msA : Nat) (msB : Nat) : (State.powerDownDone s msA msB).trunk = s.trunk := by
  simp [State.powerDownDone] <;> (repeat' split) <;> simp

@[simp] theorem keeps_execPowerDownDone (t : Nat) (msA : Fin 40) (msB : Fin 40) (s : State) :
    OutcomeKeeps (s.start t).trunk (execPowerDownDone t msA msB s) := by
  simp [execPowerDownDone]

end Sys2Proof.Machine
end

