-- ==== Sys2Proof/Laws/TrunkSystem.lean ====
section
/-! SUPPORT. The frame of the boot, the management processor, the ripening, the updates, the crossing and the choice of a command's row:
each keeps the instant, the boot count and the queue of the state it starts from. -/

namespace Sys2Proof.Machine

/-! Boot. -/

@[simp] theorem trunk_placeConfig (s : State) (l : Lane) (i : ConfigImage) : (State.placeConfig s l i).trunk = s.trunk := by
  unfold State.placeConfig
  (repeat' split) <;> (try simp) <;> (repeat' split) <;> simp [trunk_foldl]

@[simp] theorem trunk_rejectActive (s : State) (l : Lane) : (State.rejectActive s l).trunk = s.trunk := by
  simp [State.rejectActive]

@[simp] theorem trunk_reconcile (s : State) : (State.reconcile s).trunk = s.trunk := by
  simp [State.reconcile] <;> (repeat' split) <;> simp

@[simp] theorem trunk_recheckWord (s : State) (page : Nat) (off : Nat) (lanes : List Lane) :
    (State.recheckWord s page off lanes).trunk = s.trunk := by
  simp [State.recheckWord]

@[simp] theorem trunk_applyPages (s : State) (l : Lane) (ps : List PageImage) (checked : List Nat) :
    (State.applyPages s l ps checked).trunk = s.trunk := by
  simp [State.applyPages, trunk_foldl]

@[simp] theorem trunk_takeMap (s : State) (map : List (Nat × Nat)) : (State.takeMap s map).trunk = s.trunk := by
  simp [State.takeMap]

@[simp] theorem trunk_copyShared (s : State) (l : Lane) : (State.copyShared s l).trunk = s.trunk := by
  simp [State.copyShared]

@[simp] theorem trunk_sharedApplied (s : State) (i : ConfigImage) : (State.sharedApplied s i).trunk = s.trunk := by
  simp [State.sharedApplied]

@[simp] theorem trunk_lateApply (s : State) : (State.lateApply s).trunk = s.trunk := by
  simp [State.lateApply] <;> (repeat' split) <;> simp

@[simp] theorem trunk_shareTurn (s : State) (l : Lane) : (State.shareTurn s l).trunk = s.trunk := by
  simp [State.shareTurn] <;> (repeat' split) <;> simp

@[simp] theorem trunk_loadConfig (s : State) (l : Lane) : (State.loadConfig s l).1.trunk = s.trunk := by
  simp [State.loadConfig] <;> (repeat' split) <;> simp

@[simp] theorem trunk_selfTest (s : State) : (State.selfTest s).trunk = s.trunk := by
  simp [State.selfTest]

@[simp] theorem trunk_release (s : State) (l : Lane) : (State.release s l).trunk = s.trunk := by
  simp [State.release] <;> (repeat' split) <;> simp

@[simp] theorem keeps_execLaneResetHoldEnd (t : Nat) (l : Lane) (s : State) :
    OutcomeKeeps (s.start t).trunk (execLaneResetHoldEnd t l s) := by
  simp [execLaneResetHoldEnd]

@[simp] theorem trunk_checkKeys (s : State) (ok : Bool) (us : Nat) : (State.checkKeys s ok us).trunk = s.trunk := by
  simp [State.checkKeys]

@[simp] theorem trunk_chooseFirmware (s : State) (l : Lane) (active : Bool) (other : Bool) :
    (State.chooseFirmware s l active other).trunk = s.trunk := by
  simp [State.chooseFirmware]

@[simp] theorem trunk_bootMemory (s : State) (l : Lane) (bad : List (Fin 16)) : (State.bootMemory s l bad).trunk = s.trunk := by
  simp [State.bootMemory, trunk_foldl]

@[simp] theorem trunk_chooseProgram (s : State) (l : Lane) : (State.chooseProgram s l).trunk = s.trunk := by
  simp [State.chooseProgram]

@[simp] theorem trunk_bootProgram (s : State) (l : Lane) (bad : List (Fin 16)) (configured : Bool) :
    (State.bootProgram s l bad configured).trunk = s.trunk := by
  simp [State.bootProgram] <;> (repeat' split) <;> simp

@[simp] theorem trunk_bootKeys (s : State) (l : Lane) (kb : Nat) : (State.bootKeys s l kb).trunk = s.trunk := by
  simp [State.bootKeys]

@[simp] theorem trunk_bootVat (s : State) (l : Lane) : (State.bootVat s l).trunk = s.trunk := by
  simp [State.bootVat] <;> (repeat' split) <;> simp

@[simp] theorem trunk_applyTrim (s : State) (l : Lane) : (State.applyTrim s l).trunk = s.trunk := by
  simp [State.applyTrim]

@[simp] theorem trunk_boot (s : State) (l : Lane) (f : BootFound) : (State.boot s l f).trunk = s.trunk := by
  simp [State.boot]

@[simp] theorem keeps_execResetRelease (t : Nat) (l : Lane) (f : BootFound) (s : State) :
    OutcomeKeeps (s.start t).trunk (execResetRelease t l f s) := by
  simp [execResetRelease]

@[simp] theorem trunk_bootStart (s : State) (l : Lane) (both : Bool) (warm : Bool) :
    (State.bootStart s l both warm).trunk = s.trunk := by
  simp [State.bootStart] <;> (repeat' split) <;> simp

@[simp] theorem trunk_boundaryNow (s : State) (l : Lane) : (State.boundaryNow s l).trunk = s.trunk := by
  simp [State.boundaryNow]

@[simp] theorem trunk_startAligned (s : State) : (State.startAligned s).trunk = s.trunk := by
  simp [State.startAligned]

@[simp] theorem trunk_startAlone (s : State) (l : Lane) : (State.startAlone s l).trunk = s.trunk := by
  simp [State.startAlone]

@[simp] theorem trunk_beginJoin (s : State) (l : Lane) (resync : Bool) : (State.beginJoin s l resync).trunk = s.trunk := by
  simp [State.beginJoin]

@[simp] theorem trunk_settleBoot (s : State) (l : Lane) : (State.settleBoot s l).trunk = s.trunk := by
  simp [State.settleBoot] <;> (repeat' split) <;> simp

@[simp] theorem trunk_settleBoots (s : State) : (State.settleBoots s).trunk = s.trunk := by
  simp [State.settleBoots]

@[simp] theorem trunk_firstProfile (s : State) : (State.firstProfile s).trunk = s.trunk := by
  simp [State.firstProfile]

@[simp] theorem keeps_execBootComplete (t : Nat) (l : Lane) (s : State) :
    OutcomeKeeps (s.start t).trunk (execBootComplete t l s) := by
  simp [execBootComplete]

@[simp] theorem keeps_execBootWaitExpiry (t : Nat) (l : Lane) (s : State) :
    OutcomeKeeps (s.start t).trunk (execBootWaitExpiry t l s) := by
  simp [execBootWaitExpiry] <;> (repeat' split) <;> simp

/-! Mgmt. -/

@[simp] theorem trunk_showLoad (s : State) : (State.showLoad s).trunk = s.trunk := by
  simp [State.showLoad]

@[simp] theorem trunk_occupancyStep (s : State) (f : Field) (v : Nat) : (State.occupancyStep s f v).trunk = s.trunk := by
  simp [State.occupancyStep]

@[simp] theorem trunk_occupancySteps (s : State) (pct : Nat) : (State.occupancySteps s pct).trunk = s.trunk := by
  simp [State.occupancySteps]

@[simp] theorem keeps_execMgmtLoadCheck (t : Nat) (pct : Fin 101) (shares : List Nat) (s : State) :
    OutcomeKeeps (s.start t).trunk (execMgmtLoadCheck t pct shares s) := by
  simp [execMgmtLoadCheck]

@[simp] theorem trunk_showSensors (s : State) (n : Nat) : (State.showSensors s n).trunk = s.trunk := by
  simp [State.showSensors]

@[simp] theorem trunk_sensorState (s : State) (n : Nat) (st : Nat) : (State.sensorState s n st).trunk = s.trunk := by
  simp [State.sensorState]

@[simp] theorem trunk_sensorValue (s : State) (n : Nat) (v : Int) : (State.sensorValue s n v).trunk = s.trunk := by
  simp [State.sensorValue]

@[simp] theorem trunk_sensorSilent (s : State) (n : Nat) : (State.sensorSilent s n).trunk = s.trunk := by
  simp [State.sensorSilent]

@[simp] theorem trunk_supplyVolts (s : State) (vals : List (Option Int)) : (State.supplyVolts s vals).trunk = s.trunk := by
  simp [State.supplyVolts] <;> (repeat' split) <;> simp

@[simp] theorem keeps_execSensorSample (t : Nat) (vals : List (Option Int)) (s : State) :
    OutcomeKeeps (s.start t).trunk (execSensorSample t vals s) := by
  unfold execSensorSample
  simp only [outcomeKeeps_next]
  split
  · simp
  · rw [trunk_each]
    · simp
    · intro s n; split <;> simp

@[simp] theorem trunk_sensorsEntry (s : State) (n : Nat) : (State.sensorsEntry s n).trunk = s.trunk := by
  simp [State.sensorsEntry]

@[simp] theorem keeps_execTelemEntry (t : Nat) (s : State) : OutcomeKeeps (s.start t).trunk (execTelemEntry t s) := by
  simp [execTelemEntry]

@[simp] theorem keeps_cmdMinmaxClear  : cmdMinmaxClear.Keeps := by
  constructor
  · intro s q a b
    simp [cmdMinmaxClear]
  · intro s q
    simp [cmdMinmaxClear]

@[simp] theorem keeps_execMinmaxClear (t : Nat) (q : Req) (s : State) : OutcomeKeeps (s.start t).trunk (execMinmaxClear t q s) := by
  simp [execMinmaxClear]

@[simp] theorem keeps_cmdMgmtClear  : cmdMgmtClear.Keeps := by
  constructor
  · intro s q a b
    simp [cmdMgmtClear]
  · intro s q
    simp [cmdMgmtClear]

@[simp] theorem keeps_execMgmtCountersClear (t : Nat) (q : Req) (s : State) :
    OutcomeKeeps (s.start t).trunk (execMgmtCountersClear t q s) := by
  simp [execMgmtCountersClear]

@[simp] theorem trunk_mgmtReset (s : State) (code : Nat) (trial : Bool) (f : SlotFound) :
    (State.mgmtReset s code trial f).trunk = s.trunk := by
  simp [State.mgmtReset]

@[simp] theorem keeps_execMgmtWatchdog (t : Nat) (f : SlotFound) (s : State) :
    OutcomeKeeps (s.start t).trunk (execMgmtWatchdog t f s) := by
  simp [execMgmtWatchdog]

@[simp] theorem keeps_cmdMgmtReset (f : SlotFound) : (cmdMgmtReset f).Keeps := by
  constructor
  · intro s q a b
    simp [cmdMgmtReset]
  · intro s q
    simp [cmdMgmtReset]

@[simp] theorem keeps_execMgmtReset (t : Nat) (q : Req) (f : SlotFound) (s : State) :
    OutcomeKeeps (s.start t).trunk (execMgmtReset t q f s) := by
  simp [execMgmtReset]

/-! Ripening. -/

@[simp] theorem trunk_ripMargin (s : State) (i : Nat) : (State.ripMargin s i).2.trunk = s.trunk := by
  simp [State.ripMargin]

@[simp] theorem trunk_ripAsked (s : State) (i : Nat) : (State.ripAsked s i).2.trunk = s.trunk := by
  simp [State.ripAsked]

@[simp] theorem trunk_ripDiffers (s : State) (i : Nat) : (State.ripDiffers s i).trunk = s.trunk := by
  simp [State.ripDiffers]

@[simp] theorem trunk_showRipening (s : State) : (State.showRipening s).trunk = s.trunk := by
  simp [State.showRipening]

@[simp] theorem trunk_ripMeasure (s : State) (i : Nat) (v : Nat) : (State.ripMeasure s i v).trunk = s.trunk := by
  simp [State.ripMeasure]

@[simp] theorem trunk_ripDaily (s : State) (i : Nat) : (State.ripDaily s i).trunk = s.trunk := by
  simp [State.ripDaily]

@[simp] theorem trunk_ripRunItem (s : State) (meas : List (Nat × Nat)) (i : Nat) : (State.ripRunItem s meas i).trunk = s.trunk := by
  simp [State.ripRunItem] <;> (repeat' split) <;> simp

@[simp] theorem trunk_ripRun (s : State) (meas : List (Nat × Nat)) : (State.ripRun s meas).trunk = s.trunk := by
  simp [State.ripRun]

@[simp] theorem keeps_execRipeningRun (t : Nat) (meas : List (Nat × Nat)) (s : State) :
    OutcomeKeeps (s.start t).trunk (execRipeningRun t meas s) := by
  simp [execRipeningRun]

@[simp] theorem keeps_execPlanRecheck (t : Nat) (s : State) : OutcomeKeeps (s.start t).trunk (execPlanRecheck t s) := by
  simp [execPlanRecheck] <;> (repeat' split) <;> simp

@[simp] theorem keeps_cmdRipRun  : cmdRipRun.Keeps := by
  constructor
  · intro s q a b
    simp [cmdRipRun]
  · intro s q
    simp [cmdRipRun]

@[simp] theorem keeps_execRipRun (t : Nat) (q : Req) (s : State) : OutcomeKeeps (s.start t).trunk (execRipRun t q s) := by
  simp [execRipRun]

@[simp] theorem keeps_cmdRipRebase  : cmdRipRebase.Keeps := by
  constructor
  · intro s q a b
    simp [cmdRipRebase]
  · intro s q
    simp [cmdRipRebase]

@[simp] theorem keeps_execRipRebase (t : Nat) (q : Req) (s : State) : OutcomeKeeps (s.start t).trunk (execRipRebase t q s) := by
  simp [execRipRebase]

@[simp] theorem keeps_cmdRipSetRef  : cmdRipSetRef.Keeps := by
  constructor
  · intro s q a b
    simp [cmdRipSetRef]
  · intro s q
    simp [cmdRipSetRef]

@[simp] theorem keeps_execRipSetRef (t : Nat) (q : Req) (s : State) : OutcomeKeeps (s.start t).trunk (execRipSetRef t q s) := by
  simp [execRipSetRef]

/-! Update. -/

@[simp] theorem trunk_clearStaging (s : State) : (State.clearStaging s).trunk = s.trunk := by
  simp [State.clearStaging]

@[simp] theorem keeps_cmdUpdBegin  : cmdUpdBegin.Keeps := by
  constructor
  · intro s q a b
    simp [cmdUpdBegin]
  · intro s q
    simp [cmdUpdBegin]

@[simp] theorem keeps_execUpdBegin (t : Nat) (q : Req) (s : State) : OutcomeKeeps (s.start t).trunk (execUpdBegin t q s) := by
  simp [execUpdBegin]

@[simp] theorem keeps_cmdUpdChunk  : cmdUpdChunk.Keeps := by
  constructor
  · intro s q a b
    simp [cmdUpdChunk]
  · intro s q
    simp [cmdUpdChunk]

@[simp] theorem keeps_execUpdChunk (t : Nat) (q : Req) (s : State) : OutcomeKeeps (s.start t).trunk (execUpdChunk t q s) := by
  simp [execUpdChunk]

@[simp] theorem keeps_cmdUpdVerify  : cmdUpdVerify.Keeps := by
  constructor
  · intro s q a b
    simp [cmdUpdVerify]
  · intro s q
    simp [cmdUpdVerify]

@[simp] theorem keeps_execUpdVerify (t : Nat) (q : Req) (s : State) : OutcomeKeeps (s.start t).trunk (execUpdVerify t q s) := by
  simp [execUpdVerify]

@[simp] theorem trunk_writeSlots (s : State) (target : Nat) (c : Container) : (State.writeSlots s target c).trunk = s.trunk := by
  simp [State.writeSlots] <;> (repeat' split) <;> simp

@[simp] theorem trunk_updVerified (s : State) (f : UpdFound) : (State.updVerified s f).trunk = s.trunk := by
  simp [State.updVerified]

@[simp] theorem keeps_execUpdVerifyDone (t : Nat) (f : UpdFound) (s : State) :
    OutcomeKeeps (s.start t).trunk (execUpdVerifyDone t f s) := by
  simp [execUpdVerifyDone]

@[simp] theorem trunk_beginActivation (s : State) (target : Nat) (ns : List Nat) (rollback : Bool) :
    (State.beginActivation s target ns rollback).trunk = s.trunk := by
  simp [State.beginActivation]

@[simp] theorem keeps_cmdUpdActivate  : cmdUpdActivate.Keeps := by
  constructor
  · intro s q a b
    simp [cmdUpdActivate]
  · intro s q
    simp [cmdUpdActivate]

@[simp] theorem keeps_execUpdActivate (t : Nat) (q : Req) (s : State) : OutcomeKeeps (s.start t).trunk (execUpdActivate t q s) := by
  simp [execUpdActivate]

@[simp] theorem keeps_cmdUpdRollback  : cmdUpdRollback.Keeps := by
  constructor
  · intro s q a b
    simp [cmdUpdRollback]
  · intro s q
    simp [cmdUpdRollback]

@[simp] theorem keeps_execUpdRollback (t : Nat) (q : Req) (s : State) : OutcomeKeeps (s.start t).trunk (execUpdRollback t q s) := by
  simp [execUpdRollback]

@[simp] theorem keeps_cmdUpdAbort  : cmdUpdAbort.Keeps := by
  constructor
  · intro s q a b
    simp [cmdUpdAbort]
  · intro s q
    simp [cmdUpdAbort]

@[simp] theorem keeps_execUpdAbort (t : Nat) (q : Req) (s : State) : OutcomeKeeps (s.start t).trunk (execUpdAbort t q s) := by
  simp [execUpdAbort]

@[simp] theorem trunk_updStepTo (s : State) (n : Nat) : (State.updStepTo s n).trunk = s.trunk := by
  simp [State.updStepTo]

@[simp] theorem trunk_beginTrial (s : State) (n : Nat) : (State.beginTrial s n).trunk = s.trunk := by
  simp [State.beginTrial]

@[simp] theorem trunk_confirmTrial (s : State) (n : Nat) : (State.confirmTrial s n).trunk = s.trunk := by
  simp [State.confirmTrial]

@[simp] theorem trunk_finishActivation (s : State) : (State.finishActivation s).trunk = s.trunk := by
  simp [State.finishActivation]

@[simp] theorem trunk_laneStepFrom (s : State) (step : Nat) : (State.laneStepFrom s step).trunk = s.trunk := by
  simp [State.laneStepFrom]

@[simp] theorem trunk_stepHandover (s : State) (l : Lane) (step : Nat) : (State.stepHandover s l step).trunk = s.trunk := by
  simp [State.stepHandover]

@[simp] theorem trunk_stepTrial (s : State) (l : Lane) (step : Nat) : (State.stepTrial s l step).trunk = s.trunk := by
  simp [State.stepTrial]

@[simp] theorem trunk_stepLanes (s : State) : (State.stepLanes s).trunk = s.trunk := by
  simp [State.stepLanes] <;> (repeat' split) <;> simp

@[simp] theorem trunk_stepMgmt (s : State) (f : SlotFound) : (State.stepMgmt s f).trunk = s.trunk := by
  simp [State.stepMgmt]

@[simp] theorem trunk_swapConfig (s : State) : (State.swapConfig s).trunk = s.trunk := by
  simp [State.swapConfig]

@[simp] theorem trunk_logActivation (s : State) (l : Lane) : (State.logActivation s l).trunk = s.trunk := by
  unfold State.logActivation
  (repeat' split) <;> (try simp) <;> (repeat' split) <;> simp [trunk_foldl]

@[simp] theorem trunk_stepConfig (s : State) : (State.stepConfig s).trunk = s.trunk := by
  simp [State.stepConfig]

@[simp] theorem keeps_execUpdStep (t : Nat) (f : SlotFound) (s : State) : OutcomeKeeps (s.start t).trunk (execUpdStep t f s) := by
  simp [execUpdStep] <;> (repeat' split) <;> simp

@[simp] theorem keeps_execTrialConfirmed (t : Nat) (l : Lane) (s : State) :
    OutcomeKeeps (s.start t).trunk (execTrialConfirmed t l s) := by
  simp [execTrialConfirmed]

/-! Crossing. -/

@[simp] theorem trunk_setLink (s : State) (l : Lane) (k : Nat) (x : LinkRec) : (State.setLink s l k x).trunk = s.trunk := by
  simp [State.setLink]

@[simp] theorem trunk_joinFails (s : State) (l : Lane) : (State.joinFails s l).trunk = s.trunk := by
  simp [State.joinFails]

@[simp] theorem trunk_crossingLost (s : State) (l : Lane) : (State.crossingLost s l).trunk = s.trunk := by
  simp [State.crossingLost]

@[simp] theorem trunk_linkDown (s : State) (l : Lane) (k : Nat) : (State.linkDown s l k).trunk = s.trunk := by
  simp [State.linkDown]

@[simp] theorem keeps_execLinkSignalDetect (t : Nat) (l : Lane) (k : Fin 2) (s : State) :
    OutcomeKeeps (s.start t).trunk (execLinkSignalDetect t l k s) := by
  simp [execLinkSignalDetect]

@[simp] theorem trunk_sendHello (s : State) (l : Lane) : (State.sendHello s l).trunk = s.trunk := by
  simp [State.sendHello]

@[simp] theorem keeps_execLinkTrainDone (t : Nat) (l : Lane) (k : Fin 2) (s : State) :
    OutcomeKeeps (s.start t).trunk (execLinkTrainDone t l k s) := by
  simp [execLinkTrainDone]

@[simp] theorem keeps_execLinkTimeout (t : Nat) (l : Lane) (k : Fin 2) (burst : Bool) (s : State) :
    OutcomeKeeps (s.start t).trunk (execLinkTimeout t l k burst s) := by
  simp [execLinkTimeout]

@[simp] theorem trunk_crcFailed (s : State) (l : Lane) (k : Nat) : (State.crcFailed s l k).trunk = s.trunk := by
  simp [State.crcFailed]

@[simp] theorem trunk_takeCopy (s : State) (l : Lane) (k : Nat) (c : Copy) : (State.takeCopy s l k c).trunk = s.trunk := by
  simp [State.takeCopy] <;> (repeat' split) <;> simp

@[simp] theorem trunk_arrives (s : State) (l : Lane) (c : Copies) : (State.arrives s l c).1.trunk = s.trunk := by
  simp [State.arrives]

@[simp] theorem trunk_receiveFrame (s : State) (l : Lane) (c : Copies) : (State.receiveFrame s l c).1.trunk = s.trunk := by
  simp [State.receiveFrame]

@[simp] theorem keeps_execIdleFrame (t : Nat) (l : Lane) (k : Fin 2) (c : Copy) (s : State) :
    OutcomeKeeps (s.start t).trunk (execIdleFrame t l k c s) := by
  simp [execIdleFrame]

@[simp] theorem keeps_execFreqLimit (t : Nat) (s : State) : OutcomeKeeps (s.start t).trunk (execFreqLimit t s) := by
  simp [execFreqLimit]

@[simp] theorem keeps_execFreqLimitClear (t : Nat) (s : State) : OutcomeKeeps (s.start t).trunk (execFreqLimitClear t s) := by
  simp [execFreqLimitClear]

@[simp] theorem trunk_hello (s : State) (l : Lane) : (State.hello s l).trunk = s.trunk := by
  simp [State.hello]

@[simp] theorem keeps_execHelloFrame (t : Nat) (l : Lane) (c : Copies) (s : State) :
    OutcomeKeeps (s.start t).trunk (execHelloFrame t l c s) := by
  simp [execHelloFrame]

@[simp] theorem keeps_execMarkFrame (t : Nat) (c : Copies) (s : State) : OutcomeKeeps (s.start t).trunk (execMarkFrame t c s) := by
  simp [execMarkFrame] <;> (repeat' split) <;> simp

@[simp] theorem keeps_execMirrorFrame (t : Nat) (l : Lane) (c : Copies) (s : State) :
    OutcomeKeeps (s.start t).trunk (execMirrorFrame t l c s) := by
  simp [execMirrorFrame] <;> (repeat' split) <;> simp

@[simp] theorem keeps_execJoinFrame (t : Nat) (l : Lane) (c : Copies) (x : JoinPart) (s : State) :
    OutcomeKeeps (s.start t).trunk (execJoinFrame t l c x s) := by
  simp [execJoinFrame]

@[simp] theorem trunk_copyEngine (s : State) (l : Lane) : (State.copyEngine s l).trunk = s.trunk := by
  simp [State.copyEngine]

@[simp] theorem trunk_restoreMap (s : State) (l : Lane) : (State.restoreMap s l).trunk = s.trunk := by
  simp [State.restoreMap, trunk_foldl]

@[simp] theorem keeps_execJoinCommit (t : Nat) (l : Lane) (s : State) : OutcomeKeeps (s.start t).trunk (execJoinCommit t l s) := by
  simp [execJoinCommit]

@[simp] theorem keeps_execJoinLimitExpiry (t : Nat) (l : Lane) (s : State) :
    OutcomeKeeps (s.start t).trunk (execJoinLimitExpiry t l s) := by
  simp [execJoinLimitExpiry]

@[simp] theorem keeps_execJoinRetry (t : Nat) (l : Lane) (s : State) : OutcomeKeeps (s.start t).trunk (execJoinRetry t l s) := by
  simp [execJoinRetry] <;> (repeat' split) <;> simp

@[simp] theorem keeps_execSplitPartnerTimeout (t : Nat) (l : Lane) (s : State) :
    OutcomeKeeps (s.start t).trunk (execSplitPartnerTimeout t l s) := by
  simp [execSplitPartnerTimeout]

@[simp] theorem keeps_cmdAckRejoin  : cmdAckRejoin.Keeps := by
  constructor
  · intro s q a b
    simp [cmdAckRejoin]
  · intro s q
    simp [cmdAckRejoin]

@[simp] theorem keeps_execAckRejoin (t : Nat) (q : Req) (s : State) : OutcomeKeeps (s.start t).trunk (execAckRejoin t q s) := by
  simp [execAckRejoin]

@[simp] theorem keeps_cmdCrossingClear  : cmdCrossingClear.Keeps := by
  constructor
  · intro s q a b
    simp [cmdCrossingClear]
  · intro s q
    simp [cmdCrossingClear]

@[simp] theorem keeps_execCrossingCountersClear (t : Nat) (q : Req) (s : State) :
    OutcomeKeeps (s.start t).trunk (execCrossingCountersClear t q s) := by
  simp [execCrossingCountersClear]

@[simp] theorem keeps_cmdLaneResync  : cmdLaneResync.Keeps := by
  constructor
  · intro s q a b
    simp [cmdLaneResync]
  · intro s q
    simp [cmdLaneResync]

@[simp] theorem keeps_execLaneResync (t : Nat) (q : Req) (s : State) : OutcomeKeeps (s.start t).trunk (execLaneResync t q s) := by
  simp [execLaneResync]

@[simp] theorem keeps_execAgreeReady (t : Nat) (l : Lane) (c : Copies) (s : State) :
    OutcomeKeeps (s.start t).trunk (execAgreeReady t l c s) := by
  simp [execAgreeReady] <;> (repeat' split) <;> simp

@[simp] theorem keeps_execAgreeCommit (t : Nat) (c : Copies) (s : State) :
    OutcomeKeeps (s.start t).trunk (execAgreeCommit t c s) := by
  simp [execAgreeCommit] <;> (repeat' split) <;> simp

@[simp] theorem keeps_execAgreeConsent (t : Nat) (c : Copies) (s : State) :
    OutcomeKeeps (s.start t).trunk (execAgreeConsent t c s) := by
  simp [execAgreeConsent]

@[simp] theorem keeps_execAgreeConfirm (t : Nat) (c : Copies) (s : State) :
    OutcomeKeeps (s.start t).trunk (execAgreeConfirm t c s) := by
  simp [execAgreeConfirm]

/-! Commands. -/

@[simp] theorem keeps_cmdUndefined  : cmdUndefined.Keeps := by
  constructor
  · intro s q a b
    simp [cmdUndefined]
  · intro s q
    simp [cmdUndefined]

theorem commonOp_keeps {opc : Nat} {f} (h : commonOp opc = some f) (t : Nat) (q : Req) (s : State) :
    OutcomeKeeps (s.start t).trunk (f t q s) := by
  unfold commonOp at h
  split at h <;> first | (obtain rfl := Option.some.inj h; simp) | cases h
theorem axisOp_keeps {opc : Nat} {f} (h : axisOp opc = some f) (t : Nat) (q : Req) (s : State) :
    OutcomeKeeps (s.start t).trunk (f t q s) := by
  unfold axisOp at h
  split at h <;> first | (obtain rfl := Option.some.inj h; simp) | cases h
theorem stageOp_keeps {k : PageKind} {opc : Nat} {f} (h : stageOp k opc = some f) (t : Nat) (q : Req) (s : State) :
    OutcomeKeeps (s.start t).trunk (f t q s) := by
  unfold stageOp at h
  split at h <;> first | (obtain rfl := Option.some.inj h; simp) | cases h | exact axisOp_keeps h t q s
theorem systemOp_keeps {k : PageKind} {opc : Nat} {f} (h : systemOp k opc = some f) (t : Nat) (q : Req) (s : State) :
    OutcomeKeeps (s.start t).trunk (f t q s) := by
  unfold systemOp at h
  split at h <;> first | (obtain rfl := Option.some.inj h; simp) | cases h
theorem supportOp_keeps {k : PageKind} {opc : Nat} {f} (h : supportOp k opc = some f) (t : Nat) (q : Req) (s : State) :
    OutcomeKeeps (s.start t).trunk (f t q s) := by
  unfold supportOp at h
  split at h <;> first | (obtain rfl := Option.some.inj h; simp) | cases h
theorem opRow_keeps {k : PageKind} {opc us : Nat} {found : CertFound} {f} (h : opRow k opc found us = some f) (t : Nat) (q : Req) (s : State) :
    OutcomeKeeps (s.start t).trunk (f t q s) := by
  unfold opRow at h
  split at h
  · exact commonOp_keeps h t q s
  split at h
  · obtain rfl := Option.some.inj h; simp
  split at h
  · obtain rfl := Option.some.inj h; simp
  split at h
  · obtain rfl := Option.some.inj h; simp
  split at h
  · obtain rfl := Option.some.inj h; simp
  split at h
  · obtain rfl := Option.some.inj h; simp
  split at h
  · exact stageOp_keeps h t q s
  · cases hs : systemOp k opc with
    | some g => rw [hs] at h; obtain rfl := Option.some.inj h; exact systemOp_keeps hs t q s
    | none => rw [hs] at h; exact supportOp_keeps h t q s
@[simp] theorem trunk_issue (s : State) (q : Req) (opc : Nat) (found : CertFound) (us : Nat) :
    (s.issue q opc found us).trunk = s.trunk := by
  unfold State.issue
  split
  · rename_i f hf
    exact trunk_also _ _ (opRow_keeps hf _ _ _)
  · simp

@[simp] theorem trunk_anyWrite (s : State) (w : WriteReq) (found : CertFound) (us : Nat) :
    (State.anyWrite s w found us).trunk = s.trunk := by
  simp [State.anyWrite]

@[simp] theorem trunk_runHeld (s : State) (code addr : Nat) (run : State → State) (h : ∀ s, (run s).trunk = s.trunk) :
    (s.runHeld code addr run).trunk = s.trunk := by
  simp [State.runHeld, h]

@[simp] theorem trunk_serveHeldPage (s : State) (page n : Nat) : (s.serveHeldPage page n).trunk = s.trunk := by
  induction n generalizing s with
  | zero => rfl
  | succ n ih =>
    unfold State.serveHeldPage
    split
    · rfl
    · simp only [ih]
      split <;> simp

@[simp] theorem keeps_execOwnArbitration (t : Nat) (page : Nat) (s : State) :
    OutcomeKeeps (s.start t).trunk (execOwnArbitration t page s) := by
  simp [execOwnArbitration]

@[simp] theorem keeps_execConfigWrite (t : Nat) (w : WriteReq) (found : CertFound) (us : Nat) (s : State) :
    OutcomeKeeps (s.start t).trunk (execConfigWrite t w found us s) := by
  simp [execConfigWrite]

end Sys2Proof.Machine
end

