-- ==== Sys2Proof/Laws/TrunkHost.lean ====
section
/-! SUPPORT. The frame of the cycle, the exchange, the hosts' messages and the instructions of the CLEs:
each keeps the instant, the boot count and the queue of the state it starts from. -/

namespace Sys2Proof.Machine

/-! Latch. -/

@[simp] theorem trunk_sendStore (s : State) (l : Lane) (x : Staged) : (State.sendStore s l x).trunk = s.trunk := by
  simp [State.sendStore]

@[simp] theorem trunk_sendStores (s : State) (l : Lane) (n : Nat) (xs : List Staged) : (s.sendStores l n xs).trunk = s.trunk := by
  induction xs generalizing s n with
  | nil => rfl
  | cons x xs ih => simp [State.sendStores, ih]

@[simp] theorem trunk_applyOutputs (s : State) (l : Lane) : (State.applyOutputs s l).trunk = s.trunk := by
  simp [State.applyOutputs]

@[simp] theorem trunk_takeFirings (s : State) (page : Nat) (off : Nat) : (State.takeFirings s page off).trunk = s.trunk := by
  simp [State.takeFirings]

@[simp] theorem trunk_latchWord (s : State) (old : State) (l : Lane) (w : Nat) : (State.latchWord s old l w).trunk = s.trunk := by
  simp [State.latchWord]

@[simp] theorem trunk_latchInputs (s : State) (old : State) (l : Lane) : (State.latchInputs s old l).trunk = s.trunk := by
  simp [State.latchInputs]

/-! Cycle. -/

@[simp] theorem trunk_unclean (s : State) : (State.unclean s).trunk = s.trunk := by
  simp [State.unclean]

@[simp] theorem trunk_compareMissing (s : State) (l : Lane) : (State.compareMissing s l).trunk = s.trunk := by
  simp [State.compareMissing]

@[simp] theorem trunk_rejoinBoundary (s : State) (l : Lane) : (State.rejoinBoundary s l).trunk = s.trunk := by
  simp [State.rejoinBoundary]

@[simp] theorem trunk_safetyBoundary (s : State) (l : Lane) : (State.safetyBoundary s l).trunk = s.trunk := by
  simp [State.safetyBoundary]

@[simp] theorem trunk_stopNow (s : State) (l : Lane) : (State.stopNow s l).trunk = s.trunk := by
  simp [State.stopNow]

@[simp] theorem trunk_resumeDone (s : State) : (State.resumeDone s).trunk = s.trunk := by
  simp [State.resumeDone]

@[simp] theorem trunk_resumeNow (s : State) (l : Lane) (steps : Option Nat) : (State.resumeNow s l steps).trunk = s.trunk := by
  simp [State.resumeNow]

@[simp] theorem trunk_abortHold (s : State) (opc : Nat) : (State.abortHold s opc).trunk = s.trunk := by
  simp [State.abortHold]

@[simp] theorem trunk_runNow (s : State) (l : Lane) (k : RunCmd) : (State.runNow s l k).trunk = s.trunk := by
  simp [State.runNow] <;> (repeat' split) <;> simp

@[simp] theorem trunk_stepEnd (s : State) (l : Lane) : (State.stepEnd s l).trunk = s.trunk := by
  simp [State.stepEnd]

@[simp] theorem trunk_runCommands (s : State) (l : Lane) (late : Bool) : (State.runCommands s l late).trunk = s.trunk := by
  simp [State.runCommands, trunk_foldl]

@[simp] theorem trunk_latchShared (s : State) (l : Lane) : (State.latchShared s l).trunk = s.trunk := by
  simp [State.latchShared]

@[simp] theorem trunk_openExchange (s : State) (l : Lane) : (State.openExchange s l).trunk = s.trunk := by
  simp [State.openExchange]

@[simp] theorem trunk_applyItem (s : State) (l : Lane) (i : Nat) : (State.applyItem s l i).trunk = s.trunk := by
  simp [State.applyItem] <;> (repeat' split) <;> simp

@[simp] theorem trunk_applyPlan (s : State) (l : Lane) : (State.applyPlan s l).trunk = s.trunk := by
  simp [State.applyPlan] <;> (repeat' split) <;> simp

@[simp] theorem trunk_offerAll (s : State) (l : Lane) : (State.offerAll s l).trunk = s.trunk := by
  simp [State.offerAll]

@[simp] theorem trunk_refreshOwned (s : State) (l : Lane) : (State.refreshOwned s l).trunk = s.trunk := by
  unfold State.refreshOwned
  rw [trunk_each]
  intro s p
  (repeat' split) <;> simp

@[simp] theorem trunk_serveConns (s : State) (l : Lane) : (State.serveConns s l).trunk = s.trunk := by
  simp [State.serveConns]

@[simp] theorem trunk_measureAlign (s : State) : (State.measureAlign s).trunk = s.trunk := by
  simp [State.measureAlign] <;> (repeat' split) <;> simp

@[simp] theorem trunk_endCycle (s : State) (l : Lane) : (State.endCycle s l).trunk = s.trunk := by
  simp [State.endCycle]

@[simp] theorem trunk_takePosts (s : State) (l : Lane) : (State.takePosts s l).trunk = s.trunk := by
  simp [State.takePosts]

@[simp] theorem trunk_atBoundary (s : State) (l : Lane) : (State.atBoundary s l).trunk = s.trunk := by
  simp [State.atBoundary]

@[simp] theorem trunk_putConns (s : State) (l : Lane) : (State.putConns s l).trunk = s.trunk := by
  simp [State.putConns, trunk_foldl]

@[simp] theorem trunk_startDone (s : State) (l : Lane) : (State.startDone s l).trunk = s.trunk := by
  simp [State.startDone] <;> (repeat' split) <;> simp

@[simp] theorem trunk_beginCycle (s : State) (l : Lane) : (State.beginCycle s l).trunk = s.trunk := by
  simp [State.beginCycle]

@[simp] theorem trunk_beginIfReady (s : State) (l : Lane) : (State.beginIfReady s l).trunk = s.trunk := by
  simp [State.beginIfReady]

/-! Exchange. -/

@[simp] theorem trunk_ocDiverged (s : State) : (State.ocDiverged s).trunk = s.trunk := by
  simp [State.ocDiverged]

@[simp] theorem trunk_takeShared (s : State) (f : ExchangeFrame) : (State.takeShared s f).trunk = s.trunk := by
  simp [State.takeShared, trunk_foldl]

@[simp] theorem trunk_takeFrame (s : State) (l : Lane) (f : ExchangeFrame) : (State.takeFrame s l f).trunk = s.trunk := by
  simp [State.takeFrame]

@[simp] theorem trunk_senses (s : State) (l : Lane) (x : LaneSense) : (State.senses s l x).trunk = s.trunk := by
  simp [State.senses]

@[simp] theorem keeps_execCycleBoundary (t : Nat) (l : Lane) (x : LaneSense) (s : State) :
    OutcomeKeeps (s.start t).trunk (execCycleBoundary t l x s) := by
  simp [execCycleBoundary] <;> (repeat' split) <;> simp

@[simp] theorem trunk_exchLate (s : State) (l : Lane) : (State.exchLate s l).trunk = s.trunk := by
  simp [State.exchLate]

@[simp] theorem trunk_settleExchange (s : State) (l : Lane) (late : Bool) : (State.settleExchange s l late).trunk = s.trunk := by
  simp [State.settleExchange]

@[simp] theorem keeps_execExchangeFrame (t : Nat) (l : Lane) (c : Copies) (s : State) :
    OutcomeKeeps (s.start t).trunk (execExchangeFrame t l c s) := by
  simp [execExchangeFrame]

@[simp] theorem trunk_othersStale (s : State) (l : Lane) : (State.othersStale s l).trunk = s.trunk := by
  simp [State.othersStale]

@[simp] theorem keeps_execExchangeDeadline (t : Nat) (l : Lane) (s : State) :
    OutcomeKeeps (s.start t).trunk (execExchangeDeadline t l s) := by
  simp [execExchangeDeadline]

@[simp] theorem trunk_ownStale (s : State) (l : Lane) : (State.ownStale s l).trunk = s.trunk := by
  simp [State.ownStale]

@[simp] theorem keeps_execReceiptFrame (t : Nat) (l : Lane) (c : Copies) (s : State) :
    OutcomeKeeps (s.start t).trunk (execReceiptFrame t l c s) := by
  simp [execReceiptFrame] <;> (repeat' split) <;> simp

@[simp] theorem keeps_execReceiptDeadline (t : Nat) (l : Lane) (s : State) :
    OutcomeKeeps (s.start t).trunk (execReceiptDeadline t l s) := by
  simp [execReceiptDeadline]

@[simp] theorem trunk_cycleClean (s : State) : (State.cycleClean s).trunk = s.trunk := by
  simp [State.cycleClean]

@[simp] theorem trunk_compareDiffers (s : State) (l : Lane) (i : Nat) (mine : Word) (other : Word) :
    (State.compareDiffers s l i mine other).trunk = s.trunk := by
  simp [State.compareDiffers]

@[simp] theorem trunk_compareNow (s : State) (l : Lane) : (State.compareNow s l).trunk = s.trunk := by
  simp [State.compareNow] <;> (repeat' split) <;> simp

@[simp] theorem keeps_execCompareFrame (t : Nat) (l : Lane) (c : Copies) (s : State) :
    OutcomeKeeps (s.start t).trunk (execCompareFrame t l c s) := by
  simp [execCompareFrame] <;> (repeat' split) <;> simp

@[simp] theorem trunk_showUsage (s : State) (l : Lane) : (State.showUsage s l).trunk = s.trunk := by
  simp [State.showUsage]

@[simp] theorem trunk_endLate (s : State) (l : Lane) : (State.endLate s l).trunk = s.trunk := by
  simp [State.endLate, trunk_foldl]

@[simp] theorem trunk_finishCycle (s : State) (l : Lane) : (State.finishCycle s l).trunk = s.trunk := by
  simp [State.finishCycle, trunk_foldl]

@[simp] theorem keeps_execOutputPhaseEnd (t : Nat) (l : Lane) (s : State) :
    OutcomeKeeps (s.start t).trunk (execOutputPhaseEnd t l s) := by
  simp [execOutputPhaseEnd]

/-! LogRead. -/

@[simp] theorem trunk_readFinds (s : State) (l : Lane) (part : Nat) (env : ReqEnv) :
    (State.readFinds s l part env).trunk = s.trunk := by
  simp [State.readFinds, trunk_foldl]

/-! HostServe. -/

@[simp] theorem trunk_readWords (s : State) (p o c n : Nat) : (s.readWords p o c n).1.trunk = s.trunk := by
  induction n generalizing s o with
  | zero => rfl
  | succ n ih => simp [State.readWords, ih]

@[simp] theorem trunk_serveRead (s : State) (k : Nat) (r : HanucaReq) : (State.serveRead s k r).1.trunk = s.trunk := by
  simp [State.serveRead]

@[simp] theorem trunk_writeWords (s : State) (env : ReqEnv) (ws : List WriteReq) (r : Nat) :
    (s.writeWords env ws r).1.trunk = s.trunk := by
  induction ws generalizing s r with
  | nil => rfl
  | cons w ws ih => simp [State.writeWords, ih]

@[simp] theorem trunk_writeOnce (s : State) (page : Nat) (env : ReqEnv) (ws : List WriteReq) (r : Nat) :
    (State.writeOnce s page env ws r).1.trunk = s.trunk := by
  simp [State.writeOnce]

@[simp] theorem trunk_serveWrite (s : State) (k : Nat) (r : HanucaReq) (env : ReqEnv) :
    (State.serveWrite s k r env).1.trunk = s.trunk := by
  simp [State.serveWrite]

@[simp] theorem trunk_serveCommand (s : State) (k : Nat) (r : HanucaReq) (env : ReqEnv) :
    (State.serveCommand s k r env).1.trunk = s.trunk := by
  simp [State.serveCommand]

@[simp] theorem trunk_eventCtrl (s : State) (k : Nat) (action : Nat) (ack : Nat) :
    (State.eventCtrl s k action ack).trunk = s.trunk := by
  simp [State.eventCtrl] <;> (repeat' split) <;> simp

@[simp] theorem trunk_serveLogOpen (s : State) (k : Nat) (r : HanucaReq) (env : ReqEnv) :
    (State.serveLogOpen s k r env).1.trunk = s.trunk := by
  simp [State.serveLogOpen]

@[simp] theorem trunk_putHandle (s : State) (k : Nat) (h : LogHandle) : (State.putHandle s k h).trunk = s.trunk := by
  simp [State.putHandle]

@[simp] theorem trunk_closeHandle (s : State) (k : Nat) (handle : Nat) : (State.closeHandle s k handle).trunk = s.trunk := by
  simp [State.closeHandle]

@[simp] theorem trunk_giveLog (s : State) (k : Nat) (r : HanucaReq) (h : LogHandle) :
    (State.giveLog s k r h).1.trunk = s.trunk := by
  simp [State.giveLog] <;> (repeat' split) <;> simp

@[simp] theorem trunk_serveLogRead (s : State) (k : Nat) (r : HanucaReq) (env : ReqEnv) :
    (State.serveLogRead s k r env).1.trunk = s.trunk := by
  simp [State.serveLogRead] <;> (repeat' split) <;> simp

@[simp] theorem trunk_respond (s : State) (k : Nat) (r : HanucaReq) (env : ReqEnv) :
    (State.respond s k r env).1.trunk = s.trunk := by
  simp [State.respond] <;> (repeat' split) <;> simp

/-! Hanuca. -/

@[simp] theorem trunk_fabricClock (s : State) : (State.fabricClock s).trunk = s.trunk := by
  simp [State.fabricClock]

@[simp] theorem trunk_throttle (s : State) (k : Nat) : (State.throttle s k).trunk = s.trunk := by
  simp [State.throttle]

@[simp] theorem trunk_fabricRefuse (s : State) (k : Nat) (r : HanucaReq) (hint : Nat) :
    (State.fabricRefuse s k r hint).trunk = s.trunk := by
  simp [State.fabricRefuse]

@[simp] theorem trunk_mgmtRefuse (s : State) (k : Nat) (r : HanucaReq) : (State.mgmtRefuse s k r).trunk = s.trunk := by
  simp [State.mgmtRefuse]

@[simp] theorem trunk_addOut (s : State) (ms : List OutMsg) : (State.addOut s ms).trunk = s.trunk := by
  simp [State.addOut]

@[simp] theorem trunk_answer (s : State) (k : Nat) (r : HanucaReq) (env : ReqEnv) : (State.answer s k r env).trunk = s.trunk := by
  simp [State.answer]

@[simp] theorem trunk_serve (s : State) (k : Nat) (r : HanucaReq) (env : ReqEnv) : (State.serve s k r env).trunk = s.trunk := by
  simp [State.serve]

@[simp] theorem trunk_nextExpected (s : State) (k : Nat) (e : Nat) : (State.nextExpected s k e).trunk = s.trunk := by
  simp [State.nextExpected]

@[simp] theorem trunk_serveHeld (s : State) (k : Nat) (env : ReqEnv) (n : Nat) : (s.serveHeld k env n).trunk = s.trunk := by
  induction n generalizing s with
  | zero => rfl
  | succ n ih => unfold State.serveHeld; simp only; (repeat' split) <;> simp [ih]

@[simp] theorem trunk_takeTokens (s : State) (k : Nat) (r : HanucaReq) : (State.takeTokens s k r).trunk = s.trunk := by
  simp [State.takeTokens]

@[simp] theorem trunk_admitReq (s : State) (k : Nat) (r : HanucaReq) (env : ReqEnv) (e : Nat) :
    (State.admitReq s k r env e).trunk = s.trunk := by
  simp [State.admitReq] <;> (repeat' split) <;> simp

@[simp] theorem trunk_pastReq (s : State) (k : Nat) (r : HanucaReq) (back : Nat) : (State.pastReq s k r back).trunk = s.trunk := by
  simp [State.pastReq] <;> (repeat' split) <;> simp

@[simp] theorem trunk_placeReq (s : State) (k : Nat) (r : HanucaReq) (env : ReqEnv) :
    (State.placeReq s k r env).trunk = s.trunk := by
  simp [State.placeReq]

@[simp] theorem trunk_freshKeys (s : State) (k : Nat) : (State.freshKeys s k).trunk = s.trunk := by
  simp [State.freshKeys]

@[simp] theorem trunk_datagram (s : State) (k : Nat) (c : Carrier) : (State.datagram s k c).trunk = s.trunk := by
  simp [State.datagram]

@[simp] theorem trunk_discard (s : State) (k : Nat) (c : Carrier) : (State.discard s k c).trunk = s.trunk := by
  simp [State.discard]

@[simp] theorem trunk_receive (s : State) (k : Nat) (r : HanucaReq) (env : ReqEnv) : (State.receive s k r env).trunk = s.trunk := by
  simp [State.receive]

@[simp] theorem keeps_execHanucaRead (t : Nat) (slot : Fin 4) (req : HanucaReq) (env : ReqEnv) (s : State) :
    OutcomeKeeps (s.start t).trunk (execHanucaRead t slot req env s) := by
  simp [execHanucaRead]

@[simp] theorem keeps_execHanucaWrite (t : Nat) (slot : Fin 4) (req : HanucaReq) (env : ReqEnv) (s : State) :
    OutcomeKeeps (s.start t).trunk (execHanucaWrite t slot req env s) := by
  simp [execHanucaWrite]

@[simp] theorem keeps_execHanucaCommand (t : Nat) (slot : Fin 4) (req : HanucaReq) (env : ReqEnv) (s : State) :
    OutcomeKeeps (s.start t).trunk (execHanucaCommand t slot req env s) := by
  simp [execHanucaCommand]

@[simp] theorem keeps_execHanucaNop (t : Nat) (slot : Fin 4) (req : HanucaReq) (env : ReqEnv) (s : State) :
    OutcomeKeeps (s.start t).trunk (execHanucaNop t slot req env s) := by
  simp [execHanucaNop]

@[simp] theorem keeps_execEventCtrlStop (t : Nat) (slot : Fin 4) (req : HanucaReq) (env : ReqEnv) (s : State) :
    OutcomeKeeps (s.start t).trunk (execEventCtrlStop t slot req env s) := by
  simp [execEventCtrlStop]

@[simp] theorem keeps_execEventCtrlStart (t : Nat) (slot : Fin 4) (req : HanucaReq) (env : ReqEnv) (s : State) :
    OutcomeKeeps (s.start t).trunk (execEventCtrlStart t slot req env s) := by
  simp [execEventCtrlStart]

@[simp] theorem keeps_execEventCtrlAck (t : Nat) (slot : Fin 4) (req : HanucaReq) (env : ReqEnv) (s : State) :
    OutcomeKeeps (s.start t).trunk (execEventCtrlAck t slot req env s) := by
  simp [execEventCtrlAck]

@[simp] theorem keeps_execLogOpen (t : Nat) (slot : Fin 4) (req : HanucaReq) (env : ReqEnv) (s : State) :
    OutcomeKeeps (s.start t).trunk (execLogOpen t slot req env s) := by
  simp [execLogOpen]

@[simp] theorem keeps_execLogRead (t : Nat) (slot : Fin 4) (req : HanucaReq) (env : ReqEnv) (s : State) :
    OutcomeKeeps (s.start t).trunk (execLogRead t slot req env s) := by
  simp [execLogRead]

@[simp] theorem keeps_execLogClose (t : Nat) (slot : Fin 4) (req : HanucaReq) (env : ReqEnv) (s : State) :
    OutcomeKeeps (s.start t).trunk (execLogClose t slot req env s) := by
  simp [execLogClose]

@[simp] theorem keeps_execSessionEnd (t : Nat) (slot : Fin 4) (s : State) :
    OutcomeKeeps (s.start t).trunk (execSessionEnd t slot s) := by
  simp [execSessionEnd]

@[simp] theorem keeps_execReqHoldTimeout (t : Nat) (slot : Fin 4) (env : ReqEnv) (s : State) :
    OutcomeKeeps (s.start t).trunk (execReqHoldTimeout t slot env s) := by
  simp [execReqHoldTimeout] <;> (repeat' split) <;> simp

@[simp] theorem trunk_mgmtServe (s : State) (env : ReqEnv) : (State.mgmtServe s env).trunk = s.trunk := by
  simp [State.mgmtServe] <;> (repeat' split) <;> simp

@[simp] theorem keeps_execHostMgmtRequest (t : Nat) (arrives : Option (Fin 4 × HanucaReq)) (env : ReqEnv) (s : State) :
    OutcomeKeeps (s.start t).trunk (execHostMgmtRequest t arrives env s) := by
  simp [execHostMgmtRequest] <;> (repeat' split) <;> simp

@[simp] theorem trunk_authFailed (s : State) (port : Nat) (ip : Nat) (udp : Nat) (check : Nat) :
    (State.authFailed s port ip udp check).trunk = s.trunk := by
  simp [State.authFailed]

@[simp] theorem keeps_execHandshakeComplete (t : Nat) (port : Fin 5) (cert : HostCert) (s : State) :
    OutcomeKeeps (s.start t).trunk (execHandshakeComplete t port cert s) := by
  simp [execHandshakeComplete]

/-! CleInt. -/

@[simp] theorem trunk_rr (s : State) (l : Lane) (f : Fields) (r : Word → Word → Word) (fl : TaskRec → Word → Word → Word → TaskRec) :
    (State.rr s l f r fl).trunk = s.trunk := by
  simp [State.rr]

@[simp] theorem trunk_ri (s : State) (l : Lane) (f : Fields) (imm : Word) (r : Word → Word → Word) (fl : TaskRec → Word → Word → Word → TaskRec) :
    (State.ri s l f imm r fl).trunk = s.trunk := by
  simp [State.ri]

@[simp] theorem keeps_execAdd (l : Lane) (f : Fields) (s : State) : OutcomeKeeps s.trunk (execAdd l f s) := by
  simp [execAdd]

@[simp] theorem keeps_execSub (l : Lane) (f : Fields) (s : State) : OutcomeKeeps s.trunk (execSub l f s) := by
  simp [execSub]

@[simp] theorem keeps_execAndReg (l : Lane) (f : Fields) (s : State) : OutcomeKeeps s.trunk (execAndReg l f s) := by
  simp [execAndReg]

@[simp] theorem keeps_execOrReg (l : Lane) (f : Fields) (s : State) : OutcomeKeeps s.trunk (execOrReg l f s) := by
  simp [execOrReg]

@[simp] theorem keeps_execXorReg (l : Lane) (f : Fields) (s : State) : OutcomeKeeps s.trunk (execXorReg l f s) := by
  simp [execXorReg]

@[simp] theorem keeps_execShl (l : Lane) (f : Fields) (s : State) : OutcomeKeeps s.trunk (execShl l f s) := by
  simp [execShl]

@[simp] theorem keeps_execShr (l : Lane) (f : Fields) (s : State) : OutcomeKeeps s.trunk (execShr l f s) := by
  simp [execShr]

@[simp] theorem keeps_execAsr (l : Lane) (f : Fields) (s : State) : OutcomeKeeps s.trunk (execAsr l f s) := by
  simp [execAsr]

@[simp] theorem keeps_execMul (l : Lane) (f : Fields) (s : State) : OutcomeKeeps s.trunk (execMul l f s) := by
  simp [execMul]

@[simp] theorem keeps_execMulh (l : Lane) (f : Fields) (s : State) : OutcomeKeeps s.trunk (execMulh l f s) := by
  simp [execMulh]

@[simp] theorem keeps_execDiv (l : Lane) (f : Fields) (s : State) : OutcomeKeeps s.trunk (execDiv l f s) := by
  simp [execDiv]

@[simp] theorem keeps_execRem (l : Lane) (f : Fields) (s : State) : OutcomeKeeps s.trunk (execRem l f s) := by
  simp [execRem]

@[simp] theorem keeps_execMinReg (l : Lane) (f : Fields) (s : State) : OutcomeKeeps s.trunk (execMinReg l f s) := by
  simp [execMinReg]

@[simp] theorem keeps_execMaxReg (l : Lane) (f : Fields) (s : State) : OutcomeKeeps s.trunk (execMaxReg l f s) := by
  simp [execMaxReg]

@[simp] theorem keeps_execCmp (l : Lane) (f : Fields) (s : State) : OutcomeKeeps s.trunk (execCmp l f s) := by
  simp [execCmp]

@[simp] theorem keeps_execMovReg (l : Lane) (f : Fields) (s : State) : OutcomeKeeps s.trunk (execMovReg l f s) := by
  simp [execMovReg]

@[simp] theorem keeps_execAddi (l : Lane) (f : Fields) (s : State) : OutcomeKeeps s.trunk (execAddi l f s) := by
  simp [execAddi]

@[simp] theorem keeps_execAndi (l : Lane) (f : Fields) (s : State) : OutcomeKeeps s.trunk (execAndi l f s) := by
  simp [execAndi]

@[simp] theorem keeps_execOri (l : Lane) (f : Fields) (s : State) : OutcomeKeeps s.trunk (execOri l f s) := by
  simp [execOri]

@[simp] theorem keeps_execXori (l : Lane) (f : Fields) (s : State) : OutcomeKeeps s.trunk (execXori l f s) := by
  simp [execXori]

@[simp] theorem trunk_shiftImm (s : State) (l : Lane) (f : Fields) (r : Word → Word → Word) (fl : TaskRec → Word → Word → Word → TaskRec) :
    (State.shiftImm s l f r fl).trunk = s.trunk := by
  simp [State.shiftImm]

@[simp] theorem keeps_execShli (l : Lane) (f : Fields) (s : State) : OutcomeKeeps s.trunk (execShli l f s) := by
  simp [execShli]

@[simp] theorem keeps_execShri (l : Lane) (f : Fields) (s : State) : OutcomeKeeps s.trunk (execShri l f s) := by
  simp [execShri]

@[simp] theorem keeps_execAsri (l : Lane) (f : Fields) (s : State) : OutcomeKeeps s.trunk (execAsri l f s) := by
  simp [execAsri]

@[simp] theorem keeps_execCmpi (l : Lane) (f : Fields) (s : State) : OutcomeKeeps s.trunk (execCmpi l f s) := by
  simp [execCmpi]

@[simp] theorem keeps_execMovi (l : Lane) (f : Fields) (s : State) : OutcomeKeeps s.trunk (execMovi l f s) := by
  simp [execMovi]

@[simp] theorem keeps_execMovl (l : Lane) (f : Fields) (ext : Word) (s : State) : OutcomeKeeps s.trunk (execMovl l f ext s) := by
  simp [execMovl]

/-! CleMem. -/

@[simp] theorem trunk_loadStep (s : State) (l : Lane) (f : Fields) (mask : Nat) (addr : TaskRec → Nat) (n : Nat) (put : TaskRec → Nat → TaskRec) :
    (State.loadStep s l f mask addr n put).trunk = s.trunk := by
  simp [State.loadStep]

@[simp] theorem trunk_storeStep (s : State) (l : Lane) (f : Fields) (mask : Nat) (addr : TaskRec → Nat) (n : Nat) (val : TaskRec → Nat) :
    (State.storeStep s l f mask addr n val).trunk = s.trunk := by
  simp [State.storeStep]

@[simp] theorem keeps_execLdw (l : Lane) (f : Fields) (s : State) : OutcomeKeeps s.trunk (execLdw l f s) := by
  simp [execLdw]

@[simp] theorem keeps_execLdh (l : Lane) (f : Fields) (s : State) : OutcomeKeeps s.trunk (execLdh l f s) := by
  simp [execLdh]

@[simp] theorem keeps_execLdhu (l : Lane) (f : Fields) (s : State) : OutcomeKeeps s.trunk (execLdhu l f s) := by
  simp [execLdhu]

@[simp] theorem keeps_execLdb (l : Lane) (f : Fields) (s : State) : OutcomeKeeps s.trunk (execLdb l f s) := by
  simp [execLdb]

@[simp] theorem keeps_execLdbu (l : Lane) (f : Fields) (s : State) : OutcomeKeeps s.trunk (execLdbu l f s) := by
  simp [execLdbu]

@[simp] theorem keeps_execLiw (l : Lane) (f : Fields) (s : State) : OutcomeKeeps s.trunk (execLiw l f s) := by
  simp [execLiw]

@[simp] theorem keeps_execXldd (l : Lane) (f : Fields) (s : State) : OutcomeKeeps s.trunk (execXldd l f s) := by
  simp [execXldd]

@[simp] theorem keeps_execXlds (l : Lane) (f : Fields) (s : State) : OutcomeKeeps s.trunk (execXlds l f s) := by
  simp [execXlds]

@[simp] theorem keeps_execStw (l : Lane) (f : Fields) (lose : Fin 4) (s : State) : OutcomeKeeps s.trunk (execStw l f lose s) := by
  simp [execStw]

@[simp] theorem keeps_execSth (l : Lane) (f : Fields) (s : State) : OutcomeKeeps s.trunk (execSth l f s) := by
  simp [execSth]

@[simp] theorem keeps_execStb (l : Lane) (f : Fields) (s : State) : OutcomeKeeps s.trunk (execStb l f s) := by
  simp [execStb]

@[simp] theorem keeps_execSiw (l : Lane) (f : Fields) (s : State) : OutcomeKeeps s.trunk (execSiw l f s) := by
  simp [execSiw]

@[simp] theorem keeps_execXstd (l : Lane) (f : Fields) (s : State) : OutcomeKeeps s.trunk (execXstd l f s) := by
  simp [execXstd]

@[simp] theorem keeps_execXsts (l : Lane) (f : Fields) (s : State) : OutcomeKeeps s.trunk (execXsts l f s) := by
  simp [execXsts]

@[simp] theorem keeps_execQual (l : Lane) (f : Fields) (s : State) : OutcomeKeeps s.trunk (execQual l f s) := by
  simp [execQual]

/-! CleBit. -/

@[simp] theorem keeps_execBtog (l : Lane) (f : Fields) (s : State) : OutcomeKeeps s.trunk (execBtog l f s) := by
  simp [execBtog]

@[simp] theorem keeps_execGtob (l : Lane) (f : Fields) (s : State) : OutcomeKeeps s.trunk (execGtob l f s) := by
  simp [execGtob]

@[simp] theorem trunk_bitRead (s : State) (l : Lane) (f : Fields) (use : TaskRec → Bool → Option TaskRec) :
    (State.bitRead s l f use).trunk = s.trunk := by
  simp [State.bitRead]

@[simp] theorem trunk_bitWrite (s : State) (l : Lane) (f : Fields) (use : Bool → Option Bool) :
    (State.bitWrite s l f use).trunk = s.trunk := by
  simp [State.bitWrite]

@[simp] theorem keeps_execBld (l : Lane) (f : Fields) (s : State) : OutcomeKeeps s.trunk (execBld l f s) := by
  simp [execBld]

@[simp] theorem keeps_execBldn (l : Lane) (f : Fields) (s : State) : OutcomeKeeps s.trunk (execBldn l f s) := by
  simp [execBldn]

@[simp] theorem keeps_execBand (l : Lane) (f : Fields) (s : State) : OutcomeKeeps s.trunk (execBand l f s) := by
  simp [execBand]

@[simp] theorem keeps_execBandn (l : Lane) (f : Fields) (s : State) : OutcomeKeeps s.trunk (execBandn l f s) := by
  simp [execBandn]

@[simp] theorem keeps_execBor (l : Lane) (f : Fields) (s : State) : OutcomeKeeps s.trunk (execBor l f s) := by
  simp [execBor]

@[simp] theorem keeps_execBorn (l : Lane) (f : Fields) (s : State) : OutcomeKeeps s.trunk (execBorn l f s) := by
  simp [execBorn]

@[simp] theorem keeps_execBxor (l : Lane) (f : Fields) (s : State) : OutcomeKeeps s.trunk (execBxor l f s) := by
  simp [execBxor]

@[simp] theorem keeps_execBst (l : Lane) (f : Fields) (s : State) : OutcomeKeeps s.trunk (execBst l f s) := by
  simp [execBst]

@[simp] theorem keeps_execBstn (l : Lane) (f : Fields) (s : State) : OutcomeKeeps s.trunk (execBstn l f s) := by
  simp [execBstn]

@[simp] theorem keeps_execBset (l : Lane) (f : Fields) (s : State) : OutcomeKeeps s.trunk (execBset l f s) := by
  simp [execBset]

@[simp] theorem keeps_execBrst (l : Lane) (f : Fields) (s : State) : OutcomeKeeps s.trunk (execBrst l f s) := by
  simp [execBrst]

@[simp] theorem keeps_execBandp (l : Lane) (f : Fields) (s : State) : OutcomeKeeps s.trunk (execBandp l f s) := by
  simp [execBandp]

@[simp] theorem keeps_execBorp (l : Lane) (f : Fields) (s : State) : OutcomeKeeps s.trunk (execBorp l f s) := by
  simp [execBorp]

@[simp] theorem keeps_execBxorp (l : Lane) (f : Fields) (s : State) : OutcomeKeeps s.trunk (execBxorp l f s) := by
  simp [execBxorp]

@[simp] theorem keeps_execBpop (l : Lane) (f : Fields) (s : State) : OutcomeKeeps s.trunk (execBpop l f s) := by
  simp [execBpop]

@[simp] theorem keeps_execBacc (l : Lane) (f : Fields) (s : State) : OutcomeKeeps s.trunk (execBacc l f s) := by
  simp [execBacc]

/-! CleFb. -/

@[simp] theorem trunk_intrinsic (s : State) (l : Lane) (f : Fields) (ok : Bool) (code : Nat) (size : Nat) (body : CleRec → TaskRec → Nat → CleRec × TaskRec) :
    (State.intrinsic s l f ok code size body).trunk = s.trunk := by
  simp [State.intrinsic]

@[simp] theorem keeps_execTon (l : Lane) (f : Fields) (s : State) : OutcomeKeeps s.trunk (execTon l f s) := by
  simp [execTon]

@[simp] theorem keeps_execTof (l : Lane) (f : Fields) (s : State) : OutcomeKeeps s.trunk (execTof l f s) := by
  simp [execTof]

@[simp] theorem keeps_execTpTimer (l : Lane) (f : Fields) (s : State) : OutcomeKeeps s.trunk (execTpTimer l f s) := by
  simp [execTpTimer]

@[simp] theorem keeps_execCtu (l : Lane) (f : Fields) (s : State) : OutcomeKeeps s.trunk (execCtu l f s) := by
  simp [execCtu]

@[simp] theorem keeps_execCtd (l : Lane) (f : Fields) (s : State) : OutcomeKeeps s.trunk (execCtd l f s) := by
  simp [execCtd]

@[simp] theorem keeps_execCtud (l : Lane) (f : Fields) (s : State) : OutcomeKeeps s.trunk (execCtud l f s) := by
  simp [execCtud]

@[simp] theorem keeps_execRTrig (l : Lane) (f : Fields) (s : State) : OutcomeKeeps s.trunk (execRTrig l f s) := by
  simp [execRTrig]

@[simp] theorem keeps_execFTrig (l : Lane) (f : Fields) (s : State) : OutcomeKeeps s.trunk (execFTrig l f s) := by
  simp [execFTrig]

@[simp] theorem keeps_execPid (l : Lane) (f : Fields) (s : State) : OutcomeKeeps s.trunk (execPid l f s) := by
  simp [execPid]

@[simp] theorem keeps_execLag1 (l : Lane) (f : Fields) (s : State) : OutcomeKeeps s.trunk (execLag1 l f s) := by
  simp [execLag1]

@[simp] theorem keeps_execSlew (l : Lane) (f : Fields) (s : State) : OutcomeKeeps s.trunk (execSlew l f s) := by
  simp [execSlew]

/-! CleNcp. -/

@[simp] theorem trunk_ncp (s : State) (l : Lane) (f : Fields) (mask : Nat) (eff : CleRec → TaskRec → Eff) :
    (State.ncp s l f mask eff).trunk = s.trunk := by
  simp [State.ncp]

@[simp] theorem trunk_ncp1 (s : State) (l : Lane) (f : Fields) (op : FloatFmt → Num → Nat × Nat) :
    (State.ncp1 s l f op).trunk = s.trunk := by
  simp [State.ncp1]

@[simp] theorem trunk_ncp2 (s : State) (l : Lane) (f : Fields) (op : FloatFmt → Num → Num → Nat × Nat) :
    (State.ncp2 s l f op).trunk = s.trunk := by
  simp [State.ncp2]

@[simp] theorem trunk_ncp3 (s : State) (l : Lane) (f : Fields) (op : FloatFmt → Num → Num → Num → Nat × Nat) :
    (State.ncp3 s l f op).trunk = s.trunk := by
  simp [State.ncp3]

@[simp] theorem keeps_execXadd (l : Lane) (f : Fields) (s : State) : OutcomeKeeps s.trunk (execXadd l f s) := by
  simp [execXadd]

@[simp] theorem keeps_execXsub (l : Lane) (f : Fields) (s : State) : OutcomeKeeps s.trunk (execXsub l f s) := by
  simp [execXsub]

@[simp] theorem keeps_execXmul (l : Lane) (f : Fields) (s : State) : OutcomeKeeps s.trunk (execXmul l f s) := by
  simp [execXmul]

@[simp] theorem keeps_execXfma (l : Lane) (f : Fields) (s : State) : OutcomeKeeps s.trunk (execXfma l f s) := by
  simp [execXfma]

@[simp] theorem keeps_execXdiv (l : Lane) (f : Fields) (s : State) : OutcomeKeeps s.trunk (execXdiv l f s) := by
  simp [execXdiv]

@[simp] theorem keeps_execXsqrt (l : Lane) (f : Fields) (s : State) : OutcomeKeeps s.trunk (execXsqrt l f s) := by
  simp [execXsqrt]

@[simp] theorem trunk_signOp (s : State) (l : Lane) (f : Fields) (sign : Bool → Bool) :
    (State.signOp s l f sign).trunk = s.trunk := by
  simp [State.signOp]

@[simp] theorem keeps_execXabs (l : Lane) (f : Fields) (s : State) : OutcomeKeeps s.trunk (execXabs l f s) := by
  simp [execXabs]

@[simp] theorem keeps_execXneg (l : Lane) (f : Fields) (s : State) : OutcomeKeeps s.trunk (execXneg l f s) := by
  simp [execXneg]

@[simp] theorem keeps_execXmin (l : Lane) (f : Fields) (s : State) : OutcomeKeeps s.trunk (execXmin l f s) := by
  simp [execXmin]

@[simp] theorem keeps_execXmax (l : Lane) (f : Fields) (s : State) : OutcomeKeeps s.trunk (execXmax l f s) := by
  simp [execXmax]

@[simp] theorem keeps_execXlim (l : Lane) (f : Fields) (s : State) : OutcomeKeeps s.trunk (execXlim l f s) := by
  simp [execXlim]

@[simp] theorem keeps_execXcmp (l : Lane) (f : Fields) (s : State) : OutcomeKeeps s.trunk (execXcmp l f s) := by
  simp [execXcmp]

@[simp] theorem keeps_execXsin (l : Lane) (f : Fields) (s : State) : OutcomeKeeps s.trunk (execXsin l f s) := by
  simp [execXsin]

@[simp] theorem keeps_execXcos (l : Lane) (f : Fields) (s : State) : OutcomeKeeps s.trunk (execXcos l f s) := by
  simp [execXcos]

@[simp] theorem keeps_execXatan2 (l : Lane) (f : Fields) (s : State) : OutcomeKeeps s.trunk (execXatan2 l f s) := by
  simp [execXatan2]

@[simp] theorem keeps_execXexp (l : Lane) (f : Fields) (s : State) : OutcomeKeeps s.trunk (execXexp l f s) := by
  simp [execXexp]

@[simp] theorem keeps_execXln (l : Lane) (f : Fields) (s : State) : OutcomeKeeps s.trunk (execXln l f s) := by
  simp [execXln]

@[simp] theorem keeps_execXcvtf (l : Lane) (f : Fields) (s : State) : OutcomeKeeps s.trunk (execXcvtf l f s) := by
  simp [execXcvtf]

@[simp] theorem keeps_execXcvti (l : Lane) (f : Fields) (s : State) : OutcomeKeeps s.trunk (execXcvti l f s) := by
  simp [execXcvti]

@[simp] theorem keeps_execXmovx (l : Lane) (f : Fields) (s : State) : OutcomeKeeps s.trunk (execXmovx l f s) := by
  simp [execXmovx]

@[simp] theorem keeps_execXget (l : Lane) (f : Fields) (s : State) : OutcomeKeeps s.trunk (execXget l f s) := by
  simp [execXget]

@[simp] theorem keeps_execXput (l : Lane) (f : Fields) (s : State) : OutcomeKeeps s.trunk (execXput l f s) := by
  simp [execXput]

@[simp] theorem keeps_execXrsr (l : Lane) (f : Fields) (s : State) : OutcomeKeeps s.trunk (execXrsr l f s) := by
  simp [execXrsr]

@[simp] theorem keeps_execXcsr (l : Lane) (f : Fields) (s : State) : OutcomeKeeps s.trunk (execXcsr l f s) := by
  simp [execXcsr]

@[simp] theorem keeps_execXcvts (l : Lane) (f : Fields) (s : State) : OutcomeKeeps s.trunk (execXcvts l f s) := by
  simp [execXcvts]

@[simp] theorem keeps_execXcvtd (l : Lane) (f : Fields) (s : State) : OutcomeKeeps s.trunk (execXcvtd l f s) := by
  simp [execXcvtd]

end Sys2Proof.Machine
end

