-- ==== Sys2Proof/Tests/Slice0.lean ====
section
/-! SUPPORT. The model's own tests: terms that are not well formed, what the spec's worked examples give, and for every
statement with hypotheses a state and operands that meet them (each clause its own). -/

namespace Sys2Proof.Tests

open Sys2Proof Sys2Proof.Machine

set_option Elab.async false

/-! Terms that are not well formed: one for each check, which the check refuses. -/

theorem test_illformed_code : (Instr.nop 0 ⟨0, 1, 0x10, 0, 0⟩).wellFormed = false ∧ (Instr.nop 0 ⟨8, 1, 0x10, 0, 0⟩).wellFormed = false := by
  decide
theorem test_illformed_generation : (Instr.nop 0 ⟨4, 0x10000, 0x10, 0, 0⟩).wellFormed = false := by decide
theorem test_illformed_page : (Instr.nop 0 ⟨4, 1, 0x100, 0, 0⟩).wellFormed = false := by decide
theorem test_illformed_channel : (Instr.nop 0 ⟨4, 1, 0x10, 0x100, 0⟩).wellFormed = false := by decide
theorem test_illformed_tag : (Instr.nop 0 ⟨4, 1, 0x10, 0, 0x10000⟩).wellFormed = false := by decide
theorem test_wellformed_command : (Instr.nop 0 ⟨7, 0xFFFF, 0xFF, 0xFF, 0xFFFF⟩).wellFormed = true := by decide
theorem test_illformed_offset : (Instr.evtPendClear 0 ⟨4, 1, 0x10, 0x1000, 0⟩).wellFormed = false
    ∧ (Instr.evtPendClear 0 ⟨4, 1, 0x10, 0x26, 0⟩).wellFormed = false ∧ (Instr.evtPendClear 0 ⟨4, 1, 0x10, 0xFFC, 0⟩).wellFormed = true := by
  decide
theorem test_illformed_resource : (Instr.takeover 0 0x100).wellFormed = false := by decide
theorem test_illformed_process_write : (Instr.profileWrite 0 0 1 0 0).wellFormed = false
    ∧ (Instr.profileWrite 0 4 0x10000 0 0).wellFormed = false ∧ (Instr.profileWrite 0 4 1 0 0).wellFormed = true := by decide

theorem test_illformed_request :
    let ok : HanucaReq := { typ := 1, reqNo := 1, len := 40, page := 0, count := 1, off := 0, gen := 1, words := [] }
    let env : ReqEnv := ⟨⟨true, 0, 0, ⟨true, true⟩⟩, 0, [], 0⟩
    let f (r : HanucaReq) : Bool := (Instr.hanucaRead 0 0 r env).wellFormed
    f ok = true ∧ f { ok with reqNo := 2 ^ 32 } = false ∧ f { ok with len := 1281 } = false ∧ f { ok with page := 256 } = false
      ∧ f { ok with count := 256 } = false ∧ f { ok with off := 2 ^ 16 } = false ∧ f { ok with gen := 2 ^ 16 } = false
      ∧ f { ok with words := List.replicate 321 0 } = false
      ∧ (Instr.hostMgmtRequest 0 (some (0, { ok with page := 256 })) env).wellFormed = false := by decide +kernel


theorem test_illformed_boundary :
    let f (x : LaneSense) : Bool := (Instr.cycleBoundary 0 .a x).wellFormed
    let ok : LaneSense := { supply := 0, temp := 0, ppm := 0 }
    f ok = true ∧ f { ok with upsets := [(2, true)] } = false ∧ f { ok with upsets := [(0x800000, true)] } = false
      ∧ f { ok with clocks := [⟨0, true, false, false, false, none⟩] } = false
      ∧ f { ok with clocks := [⟨0, true, true, false, false, some 4⟩] } = false
      ∧ f { ok with reads := [⟨0, 0, true⟩] } = false ∧ f { ok with mram := [⟨0, 0x400000, true⟩] } = false := by decide
/-! States the tests start from. -/

def onLane (s : State) (l : Lane) (f : LaneRec → LaneRec) : State := s.setLane l (f (s.lane l))
def onCle (s : State) (l : Lane) (f : CleRec → CleRec) : State := s.setCle l (f (s.cle l))
def onVat (s : State) (l : Lane) (f : VatRec → VatRec) : State := s.setVat l (f (s.vat l))
def onAxis (s : State) (f : AxisRec → AxisRec) : State := s.modAxis 0x10 f
def upLink : LinkRec := { state := 2, other := 2 }
def upLane (r : LaneRec) : LaneRec :=
  { r with link0 := upLink, link1 := upLink, hello := some ⟨1, 4, 0, true, true⟩, heartbeats := true, sending := true, phase := .running, supply := true }
/-- Both lanes in service, every stage accepted, an administrator with the claim in slot 0. -/
def ready : State :=
  let s := (((State.reset.setPstate 1 4).setPstate 2 4).setPstate 8 1).setPstate 9 1
  let s := onLane (onLane s .a upLane) .b upLane
  let s := ownedPages.foldl (fun s p => s.setRes p { accepted := true }) s
  let s := s.setSlot 0 { active := true, role := 2 }
  s.putHost { s.host with holder := some 0 }
def prog : ProgImage :=
  { valid := true, wcet := some 10, code := ⟨0, 0x1000⟩, data := ⟨0, 0x2000⟩, inMap := [0x8100], outMap := [0x30100], tasks := [(0, { enabled := true, kind := 1, triggers := [0x820] })] }
def pack : Container := ⟨0, 1, 1, 0, some prog, none, none⟩
def change : ChangePkg := ⟨0, [], [], 0⟩
def nextProg : ProgImage := { prog with code := ⟨0x2000, 0x1000⟩, data := ⟨0x4000, 0x2000⟩ }
def changed : Container := ⟨0, 1, 1, 0, some nextProg, some change, none⟩
def frame : CanFrame := ⟨false, false, false, false, false, 1, 0, []⟩
def canEntry : TxEntry := { n := 0, frame := frame, bank := 4 }
def capture : Capture := { axis := 0, lane := 1, seq := 0, tFirst := 0, rate := 0, startCause := 0 }
/-- Lane A in RUN, its task 0 about to execute the instruction at program address 0. -/
def engine : State :=
  onCle (ready.setPstate 8 2) .a fun c => { c with
    image := some prog, running := some 0, phase := .compute, tasks := [(0, { state := 3, g := [(1, BitVec.ofNat 32 (windowBase + 0x8100))] })] }

/-! What the spec's worked examples and tables give. -/

/-- Events enabled and routed to management on some pages. -/
def loud (s : State) (ps : List Nat) : State :=
  ps.foldl (fun s p => ((s.setFld p Hd.EVT_ENA 0xFFFF).setFld p Hd.EVT_ROUTE_MGMT 1).setFld p Hd.PAGE_CTRL_EVT_DELIVER 1) s
/-- The event records of the intake: identity and argument. -/
def events (s : State) : List (Nat × Nat) := s.fabric.intake.map fun r => (r.record.id, r.record.arg)
/-- A command's arguments in a requester's bank. -/
def args (s : State) (p a b : Nat) : State := (s.setReg p 0x34 (BitVec.ofNat 32 a) 4).setReg p 0x38 (BitVec.ofNat 32 b) 4
/-- A next state that has a property. -/
def gives (o : Host.Outcome State Fault Refusal) (f : State → Bool) : Bool := match o with
  | .next s => f s
  | _ => false
/-- Fields of a page set. -/
def sets (s : State) (p i : Nat) (l : List (Field × Nat)) : State := l.foldl (fun s x => s.setFld p x.1 x.2 i) s

/-- Chapter 02, worked example: host H1 writes OVR_BUS_A. -/
def overridden : State :=
  let s := loud (ready.setPstate 0 1) [0]
  let s := s.setSlot 1 { active := true, role := 2 }
  s.putHost { s.host with holder := some 1 }

theorem test_override_clamps : gives (exec (.profileWrite 0 5 1 1 0x80282028) overridden) (fun s =>
    s.reg 0 0x150 == 0x80481830 && s.reg 0 0x44 == 0x05140150 && s.reg 0 0x48 == 2 && s.reg 0 0x4C == 4
      && s.reg 0 0x40 == 3 && events s == [(0x00D, 0)] && s.pstate 0 == 2) = true := by decide +kernel

theorem test_result_word : resultWord 0x0031 2 RC.state = 0x00310203#32 ∧ resultWord 0x0032 2 RC.done = 0x00320200#32 := by
  decide +kernel

theorem test_stale_generation :
    gives (exec (.clampClear 0 ⟨4, 3, 0x34, 0, 0⟩) ((loud ready [0x34]).setFld 0x34 Hd.PAGE_GEN_GEN 4)) (fun s =>
      s.reg 0x34 0x3C 4 == resultWord 0 0 RC.generation && events s == [(0x34E, 0)]) = true := by decide +kernel

/-- Chapter 07, worked example: a timer of the recovery network at program time `now`, called with ACC 1. -/
def timing (now bits : Nat) : State :=
  onCle engine .a fun c =>
    let c := { c with
      image := some { prog with code := ⟨0x3F000, 0x1000⟩, data := ⟨0, 0x80000⟩, inMap := [0x31540], tasks := [(0, { bitMode := true })] }
      progTime := now
      tasks := [(0, { state := 3, inst := 0x40000, pc := 0x3F004, acc := true })] }
    (((c.put32 0x40048 0x00010001).put32 0x40050 bits).put64 0x40058 300000).put64 0x40068 40798000

theorem test_ton_running : gives (exec (.ton .a 0x000010) (timing 41096000 9)) (fun s =>
    ((s.cle .a).tasks.rd {} 0).acc == false && (s.cle .a).w64 0x40060 == 298000) = true := by decide +kernel

theorem test_ton_elapsed : gives (exec (.ton .a 0x000010) (timing 41098000 9)) (fun s =>
    ((s.cle .a).tasks.rd {} 0).acc && (s.cle .a).w64 0x40060 == 300000 && (s.cle .a).w32 0x40050 == 0xB) = true := by
  decide +kernel

theorem test_ton_starts : gives (exec (.ton .a 0x000010) (timing 41098000 0)) (fun s =>
    ((s.cle .a).tasks.rd {} 0).acc == false && (s.cle .a).w64 0x40068 == 41098000) = true := by decide +kernel

theorem test_bst_word : gives (exec (.bst .a 0x462001) (timing 0 0)) (fun s => (s.cle .a).w32 0x8004 == 8) = true := by
  decide +kernel

/-- Registers of the running task at small values. -/
def reckoning (a b : Nat) : State :=
  onCle engine .a fun c => { c with tasks := [(0, { state := 3, g := [(1, BitVec.ofNat 32 a), (2, BitVec.ofNat 32 b)] })] }

theorem test_add_wraps : gives (exec (.add .a 0x312000) (reckoning 0xFFFFFFFF 1)) (fun s =>
    let k := (s.cle .a).tasks.rd {} 0
    k.G 3 == 0 && k.z && k.c && !k.v && !k.n) = true := by decide +kernel

theorem test_add_overflows : gives (exec (.add .a 0x312000) (reckoning 0x7FFFFFFF 1)) (fun s =>
    let k := (s.cle .a).tasks.rd {} 0
    k.G 3 == 0x80000000 && k.v && k.n && !k.c) = true := by decide +kernel

theorem test_bit_stack_pops : gives (exec (.bpop .a 0) (onCle engine .a fun c =>
    { c with tasks := [(0, { state := 3, acc := true, bstack := [(false, .or), (true, .and)] })] })) (fun s =>
      let k := (s.cle .a).tasks.rd {} 0
      k.acc && k.bstack == [(true, BitOp.and)]) = true := by decide +kernel

/-- Chapter 09, worked example: the corners of the Line Seven leaf. -/
def leaf (last : Int) : State :=
  let s := sets ((ready.setFld 0x15 Ax.FB_STATUS_STATE 3).modAv 5 fun x => { x with value := last }) 0x0C 5
    [(Av.AV_SRC_KIND, 1), (Av.AV_SRC_RES, 5), (Av.AV_SRC_ENA, 1), (Av.AV_LIMITS_HYST, 500), (Av.AV_STATE_STATE, 2)]
  [(0, 100000, 2, 2, 120), (1, 40000, 2, 3, 50), (2, 12000, 2, 4, 180), (3, 100000, 1, 2, 150)].foldl (fun s x =>
    sets (s.setSfld (cornerPage 5) Cn.CN_POS x.2.1 x.1) (cornerPage 5) x.1
      [(Cn.CN_CTRL_ENA, 1), (Cn.CN_CTRL_DIR, x.2.2.1), (Cn.CN_CTRL_ACTION, x.2.2.2.1), (Cn.CN_CTRL_ACT_ARG, x.2.2.2.2),
       (Cn.CN_STATUS_ARM_F, 1)]) s

theorem test_corner_fires_closing : gives (exec (.avenueSample 0 5) ((leaf 100006).setSfld 0x15 Ax.POSITION 99996)) (fun s =>
    s.fld 0x15 Ax.THRESH_EFF == 120 && s.fld64 0x0C Av.FIRED_LO 5 == 1) = true := by decide +kernel

theorem test_corner_unarmed_rising : gives (exec (.avenueSample 0 5) ((leaf 99990).setSfld 0x15 Ax.POSITION 100300)) (fun s =>
    s.fld64 0x0C Av.FIRED_LO 5 == 0) = true := by decide +kernel

/-- Chapter 10, worked example: the kinetic-energy speed and the reference of door 4. -/
theorem test_kinetic_speed :
    (sets ready 0x15 0 [(Ax.KE_CFG_KE_MAX_MJ, 1000), (Ax.MASS_G, 32000)]).keSpeed 0x15 = 250000 := by decide +kernel

/-- Chapter 11, worked example: bus A of Line Seven, the generator's pool charged with `w`. -/
def rationed (w : Nat) : State :=
  sets ((sets ready 0x0E 0 [(Ra.CAP_W, 3000), (Ra.RESERVE_RESERVE_PCT, 25), (Ra.BUS_STATUS_STATE, 2)]).modAxis 0x10 fun x =>
      { x with genW := w }) 0x0E 0 []
    |>.setFld 0x0E Ra.CLASS_CFG_STRETCH 1 0 1 |>.setFld 0x0E Ra.CLASS_CFG_FLOOR_PCT 50 0 1
    |>.setFld 0x0E Ra.CLASS_CFG_MAX_DELAY_MS 2500 0 1

theorem test_ration_outcomes : (rationed 1500).decideRequest 0 2 500 0 = .admitted
    ∧ (rationed 2000).decideRequest 0 2 500 0 = .stretched 50 ∧ (rationed 2250).decideRequest 0 2 500 0 = .delayed := by
  decide +kernel

/-- Chapter 12, worked example: the encoder of Kestle Bay after `n` bad frames in a row. -/
def encoder (n : Nat) : State :=
  (sets (loud ready [0x2E]) 0x2E 0 [(Ax.FB_STATUS_DETECTED, 3), (Ax.FB_STATUS_STATE, 3), (Ax.SER_CFG_CHECK, 2), (Ax.SER_CFG_GRAY, 1),
    (Ax.SER_FMT_ST_BITS, 17), (Ax.SER_ERR_CFG_FAULT_N, 3), (Ax.SER_ERR_CFG_RECOVER_N, 8)]).modFb 0x2E fun f =>
      { f with framing := some 0, bad := n }

theorem test_third_bad_frame : gives (exec (.serialFrame 0 30 ⟨true, 5, false, false, 0⟩) (encoder 2)) (fun s =>
    s.fbState 0x2E == 4 && (events s).contains (0x2E8, 0x00050303) && s.fld 0x2E Ax.SER_CRC_ERRORS == 1) = true := by
  decide +kernel

theorem test_second_bad_frame : gives (exec (.serialFrame 0 30 ⟨true, 5, false, false, 0⟩) (encoder 1)) (fun s =>
    s.fbState 0x2E == 3 && events s == []) = true := by decide +kernel

/-- Chapter 14, worked example: the lock contact of Line Seven. -/
def contact : State :=
  (sets ready 0x31 5 [(Bk.CH_FILT_ON_US, 2000), (Bk.CH_FILT_OFF_US, 5000)]).setCh 0x31 5 { (ready.ch 0x31 5) with mode := 2 }

theorem test_contact_qualifies :
    gives (exec (.inputQualified 2300000 1 5 [⟨7500, 200⟩, ⟨1250, 100⟩, ⟨7500, 150⟩, ⟨1250, 50⟩, ⟨7500, 1800⟩]) contact) (fun s =>
      (s.ch 0x31 5).state && (s.ch 0x31 5).c == 5000 && s.fld 0x31 Bk.CH_EDGES 5 == 1) = true := by decide +kernel

theorem test_link_miss : gives (exec (.burstMissed 0 1 0) (loud ready [0x31])) (fun s => events s == [(0x310, 1)]) = true := by
  decide +kernel

/-- Chapter 15, worked example: switch-off 30 of the ballast valve. -/
def valve (sum : Nat) : State :=
  ((loud (ready.setPstate 0x45 2) [0x45]).setFld 0x45 Ls.CH_I_I_ON 1000 3).setLs 0x45 3 { sums := [(0, sum)] }

theorem test_clamp_energy : gives (exec (.clampEnd 4170000 5 3 4170) (valve 2800)) (fun s =>
    s.fld 0x45 Ls.CH_CLAMP_LAST_MJ 3 == 100 && s.fld 0x45 Ls.CH_CLAMP_SUM_MJ 3 == 2900 && !(s.ls 0x45 3).locked) = true := by
  decide +kernel

theorem test_clamp_locks : gives (exec (.clampEnd 4170000 5 3 4170) (valve 2900)) (fun s =>
    (s.ls 0x45 3).locked && (events s).contains (0x450, 0x0203)) = true := by decide +kernel

/-- Chapter 16, worked example: the square-root scale of the flow transmitter. -/
def flow : State :=
  sets (ready.setPstate 0x4C 1) 0x4C 2 [(Lp.LP_CFG_MODE, 1), (Lp.LP_CFG_SUPPLY, 1), (Lp.LP_SUPPLY_TX_V, 120), (Lp.LP_CFG_CHAR, 1),
    (Lp.LP_FILT_CUTOFF, 100), (Lp.ENG_LO, 0), (Lp.ENG_HI, 400000), (Lp.LP_STATUS_MODE, 1), (Lp.LP_STATUS_PRESENT, 1)]

theorem test_loop_scale : [8000000, 4200000, 4120000].all (fun na =>
    gives (exec (.loopSample 1000000 0 2 ⟨na, 1320, 1200, 300, 0⟩) flow) fun s =>
      s.sfld 0x4C Lp.ENG 2 == if na = 8000000 then 200000 else if na = 4200000 then 44721 else 0) = true := by decide +kernel

/-- Chapter 17, worked example: the duplicate identifier, met in data byte 2. -/
def duplicate : State :=
  (sets (loud (ready.setPstate 0x5D 1) [0x5D]) 0x5D 0 [(Cf.BUS_STATUS_STATE, 2), (Cf.CAN_CFG_MODE, 2)]).modCan 0x5D fun c =>
    { c with mode := 2, sending := some (.entry 12), tx := [{ n := 12, frame := ⟨false, true, false, true, false, 0x185, 8, [1, 2, 3, 4, 5, 6, 7, 8]⟩, bank := 2 }] }

theorem test_can_tx_error : gives (exec (.canTxError 0 5 1 40 false) duplicate) (fun s =>
    events s == [(0x5D3, 0x0C700028)] && s.fld 0x5D Cf.ERR_COUNT_TEC == 8) = true := by decide +kernel

/-- Chapter 08, worked example: COMMIT_US is ⌈262,400 / 1,600⌉ + ⌈36 / 400⌉, the prime routine being eight stores and RET. -/
theorem test_commit_time :
    let primed : ProgImage := { prog with program := (List.range 8).map (fun k => ⟨4 * k + 3, 0x57⟩) ++ [⟨35, 1⟩] }
    (262400 + 1599) / 1600 + commitUs prog primed { change with entries := [⟨0, 0, 0, true, false, 0, [⟨0, 9⟩]⟩] } = 165 := by
  decide +kernel

/-! Witnesses: every clause of every statement with hypotheses, met by a concrete state and operands. -/

theorem witness_HeaderWritesComplete :
  (let t : Nat := 1000000000000000
    let w : WriteReq := ⟨4, 1, 0x08, 0x34, 1⟩
    let s : State := ready
    let u := s.start t;
    (w.off = 0x34 ∨ w.off = 0x38) ∧
    (pageUsed w.page = true) ∧
    (u.retired = false) ∧
    (w.gen = u.gen w.page) ∧
    (u.holds w.page w.code = false)) ∧
  (let t : Nat := 1000000000000000
    let w : WriteReq := ⟨4, 1, 0x08, 0x24, 1⟩
    let s : State := ready
    let u := s.start t;
    (w.off = 0x24) ∧
    (pageUsed w.page = true) ∧
    (u.writeVerdict w = 0)) ∧
  (let t : Nat := 1000000000000000
    let w : WriteReq := ⟨4, 1, 0x08, 0x1C, 1⟩
    let s : State := ready
    let u := s.start t;
    (w.off = 0x1C) ∧
    (pageUsed w.page = true) ∧
    (u.writeVerdict w = 0) ∧
    ((u.flag w.page Hd.PAGE_LOCK_LOCK = false ∨ u.fld w.page Hd.PAGE_LOCK_LOCKED_BY = w.code))) ∧
  (let t : Nat := 1000000000000000
    let w : WriteReq := ⟨4, 1, 0x08, 0x28, 1⟩
    let s : State := ready
    let u := s.start t;
    ((w.off = 0x14 ∨ w.off = 0x28 ∨ w.off = 0x2C)) ∧
    (pageUsed w.page = true) ∧
    (u.writeVerdict w = 0) ∧
    (u.stateGuard w.page w.off = 0) ∧
    (u.ignoresWrite w.page w.off = false)) ∧
  (let t : Nat := 1000000000000000
    let w : WriteReq := ⟨4, 1, 0x08, 0x104, 5⟩
    let s : State := ready
    let u := s.start t;
    (0x100 ≤ w.off) ∧
    (w.off < 4096) ∧
    (w.off % 4 = 0) ∧
    (pageKind w.page ∈ [PageKind.lane, .power, .hostPorts, .hostRights, .cle, .onlineChange, .debug, .memory, .secure, .vat, .mgmt, .sensors, .ripening, .update, .lifeCycle, .fabric, .dump]) ∧
    (u.writeVerdict w = 0) ∧
    (u.stateGuard w.page w.off = 0) ∧
    (u.ignoresWrite w.page w.off = false)) := by
  refine ⟨?_, ?_, ?_, ?_, ?_⟩ <;> decide +kernel

theorem witness_HeaderCommandsComplete :
  (let t : Nat := 1000000000000000
    let q : Req := ⟨4, 1, 0x08, 0, 0⟩
    let s : State := ready
    let u := s.start t;
    u.verdict q cmdClampClear = 0) ∧
  (let t : Nat := 1000000000000000
    let q : Req := ⟨4, 1, 8, 0, 0⟩
    let s : State := ready.setPstate 0x60 5
    let u := s.start t;
    u.verdict q cmdEvtTest = 0) ∧
  (let t : Nat := 1000000000000000
    let q : Req := ⟨4, 1, 0x30, 0, 0⟩
    let s : State := ready
    let u := s.start t;
    u.verdict q cmdBlockReset = 0) ∧
  (let t : Nat := 1000000000000000
    let q : Req := ⟨4, 1, 0x08, 0, 0⟩
    let s : State := ready
    let u := s.start t;
    (pageUsed q.page = true) ∧
    (q.gen = u.gen q.page) ∧
    (u.holds q.page q.code = false)) := by
  refine ⟨?_, ?_, ?_, ?_⟩ <;> decide +kernel

theorem witness_FabricCommandsComplete :
  (let t : Nat := 1000000000000000
    let s : State := ready.putFabric { ready.fabric with intake := [⟨⟨0, 5, 1, 0, false, false, false, false, 0⟩, [4]⟩] }
    let x : IntakeRec := ⟨⟨0, 5, 1, 0, false, false, false, false, 0⟩, [4]⟩
    let rest : List IntakeRec := []
    let u := s.start t;
    (u.fabric.intake = x :: rest) ∧
    (ownershipId x.record.id = false)) ∧
  (let t : Nat := 1000000000000000
    let d : Fin 7 := 4
    let s : State := ready.setDest 4 { gap := 1 }
    let u := s.start t;
    ((u.dest d).gap ≠ 0) ∧
    ((u.dest d).recs.length < destCap d) ∧
    (4 ≤ d.val)) ∧
  (let t : Nat := 1000000000000000
    let d : Fin 7 := 0
    let s : State := ready.setDest 0 { gap := 1 }
    let u := s.start t;
    ((u.dest d).gap ≠ 0) ∧
    ((u.dest d).recs.length < destCap d) ∧
    (d.val < 4)) ∧
  (let t : Nat := 1000000000000000
    let q : Req := ⟨4, 1, 0x7E, 0, 0⟩
    let s : State := ready
    let u := s.start t;
    u.verdict q cmdFabricClear = 0) := by
  refine ⟨?_, ?_, ?_, ?_⟩ <;> decide +kernel

theorem witness_DeviceTimeComplete :
  (let t : Nat := 1000000000000000
    let code : Nat := 4
    let gen : Nat := 1
    let reg : Fin 3 := 0
    let value : Word := 0
    let s : State := ready
    let u := s.start t
    let w : WriteReq := ⟨code, gen, 0, if reg.val = 0 then 0x140 else 0x150 + 4 * (reg.val - 1), value⟩;
    u.writeVerdict w = 0) ∧
  (let t : Nat := 1000000000000000
    let q : Req := ⟨4, 1, 0, 0, 0⟩
    let s : State := (ready.setPstate 0 2).setReg 0 0x34 1 4
    let u := s.start t;
    (u.verdict q cmdProfileApply = 0) ∧
    (u.pstate 0 = 2)) ∧
  (let t : Nat := 1000000000000000
    let q : Req := ⟨4, 1, 0, 0, 0⟩
    let s : State := (ready.setPstate 0 1).setReg 0 0x34 1 4
    let u := s.start t;
    (u.verdict q cmdProfileApply = 0) ∧
    (u.pstate 0 = 1)) ∧
  (let t : Nat := 1000000000000000
    let q : Req := ⟨4, 1, 0, 0, 0⟩
    let s : State := ready
    let u := s.start t;
    u.verdict q cmdRtcSet = 0) ∧
  (let t : Nat := 1000000000000000
    let port : Fin 4 := 0
    let domain : Nat := 0
    let s : State := ready
    let u := s.start t;
    (bitAt (u.fld 5 Pt.PTP_CFG_PORT_MASK) port = true) ∧
    (domain = u.fld 5 Pt.PTP_CFG_DOMAIN)) ∧
  (let t : Nat := 1000000000000000
    let s : State := ready.setFld 0 Dev.TIME_STATUS_GM_PRESENT 1
    let u := s.start t;
    u.flag 0 Dev.TIME_STATUS_GM_PRESENT = true) ∧
  (let t : Nat := 1000000000000000
    let x : Nat := 0
    let s : State := (ready.putHost { ready.host with gmLost := some 0 }).setFld 0 Dev.TIME_STATUS_SYNCED 1
    let u := s.start t;
    (u.host.gmLost = some x) ∧
    (u.flag 0 Dev.TIME_STATUS_SYNCED = true) ∧
    (x + u.fld 0 Dev.HOLDOVER_S * 1000000000 ≤ u.now)) := by
  refine ⟨?_, ?_, ?_, ?_, ?_, ?_, ?_⟩ <;> decide +kernel

theorem witness_ExchangeRowsComplete :
  (let t : Nat := 1000000000000000
    let l : Lane := .a
    let x : LaneSense := ⟨3300, 250, 0, [], [], [], [], []⟩
    let s : State := onCle ready .a fun c => { c with nextTb := some 0 }
    let b : Nat := 0
    let u := s.start t
    let v := (u.senses l x).memSenses l x;
    ((u.cle l).nextTb = some b) ∧
    (b ≤ u.now + u.cyclePeriod l / 20) ∧
    (3 ≤ u.laneState l) ∧
    (3 ≤ v.laneState l) ∧
    (v.pstate (clePage l) ≠ 2) ∧
    ((v.cle l).early = none)) ∧
  (let t : Nat := 1000000000000000
    let l : Lane := .a
    let s : State := onCle ready .a fun c => { c with owesReceipt := true, got := some {} }
    let u := s.start t;
    ((u.cle l).owesReceipt = true) ∧
    ((u.cle l).lastTb + 20000 ≤ u.now) ∧
    ((u.cle l).got.isSome = true)) ∧
  (let t : Nat := 1000000000000000
    let l : Lane := .a
    let s : State := onCle ready .a fun c => { c with exchOpen := true, sentReceipt := some true }
    let u := s.start t;
    ((u.cle l).exchOpen = true) ∧
    ((u.cle l).lastTb + 24000 ≤ u.now) ∧
    ((u.cle l).sentReceipt.isSome = true)) ∧
  (let t : Nat := 0
    let l : Lane := .a
    let c : Copies := ⟨.good, .good⟩
    let s : State := onCle (onCle ready .a fun c => { c with nextTb := some 100 }) .b fun c => { c with exchOpen := true }
    let u := s.start t
    let o := l.other
    let v := (u.receiveFrame o c).1;
    ((u.receiveFrame o c).2 = true) ∧
    ((u.cle l).nextTb.isSome = true) ∧
    (3 ≤ u.laneState l) ∧
    (u.now ≤ (u.cle l).lastTb + 20000) ∧
    (3 ≤ v.laneState o) ∧
    ((v.cle o).exchOpen = true) ∧
    ((v.cle o).got = none) ∧
    ((v.cle o).sentReceipt = none) ∧
    (v.now ≤ (v.cle o).lastTb + 20000)) ∧
  (let t : Nat := 0
    let l : Lane := .a
    let c : Copies := ⟨.good, .good⟩
    let s : State := onCle (onCle ready .a fun c => { c with sentReceipt := some true }) .b fun c => { c with exchOpen := true }
    let u := s.start t
    let o := l.other
    let v := (u.receiveFrame o c).1;
    ((u.receiveFrame o c).2 = true) ∧
    ((u.cle l).owesReceipt = false) ∧
    ((u.cle l).sentReceipt = some true) ∧
    ((v.cle o).exchOpen = true) ∧
    ((v.cle o).receipt = none) ∧
    (v.now ≤ (v.cle o).lastTb + 24000)) ∧
  (let t : Nat := 1000000000000000
    let l : Lane := .a
    let c : Copies := ⟨.good, .good⟩
    let f : Nat × List Word := (0, [])
    let s : State := onCle ready .a fun c => { c with compareSent := some (0, []) }
    let u := s.start t
    let o := l.other;
    ((u.receiveFrame o c).2 = true) ∧
    ((u.cle l).compareSent = some f)) ∧
  (let t : Nat := 0
    let l : Lane := .a
    let s : State := onCle (ready.setPstate 8 2) .a fun c => { c with phase := .output }
    let u := (s.start t).scanEnd l;
    (u.pstate (clePage l) = 2) ∧
    ((u.cle l).phase = .output) ∧
    (u.now ≤ (u.cle l).deadline)) ∧
  (let t : Nat := 1000000000000000
    let l : Lane := .a
    let s : State := onCle (ready.setPstate 8 2) .a fun c => { c with phase := .compute }
    let u := s.start t;
    (u.pstate (clePage l) = 2) ∧
    ((u.cle l).phase = .compute) ∧
    ((u.cle l).deadline ≤ u.now)) ∧
  (let t : Nat := 1000000000000000
    let l : Lane := .a
    let m : Commit := ⟨0, { full := false }, 0, 8⟩
    let s : State := onCle ready .a fun c => { c with commit := some ⟨0, { full := false }, 0, 8⟩ }
    let u := s.start t;
    ((u.cle l).commit = some m) ∧
    (m.since + 5 * m.bytes ≤ u.now) ∧
    (m.snap.full = false)) := by
  refine ⟨?_, ?_, ?_, ?_, ?_, ?_, ?_, ?_, ?_⟩ <;> decide +kernel

theorem witness_CrossingFramesComplete :
  (let t : Nat := 1000000000000000
    let a : Nat := 5
    let b : Nat := 5
    let d : Int := 0
    let c : Copies := ⟨.good, .good⟩
    let s : State := onCle (onCle ready .a fun c => { c with nextTb := some 5 }) .b fun c => { c with nextTb := some 5 }
    let u := s.start t
    let r := (u.sendFrame .a 1 [a]).receiveFrame .b c
    let v := r.1;
    ((u.cle .a).nextTb = some a) ∧
    (r.2 = true) ∧
    ((v.cle .b).nextTb = some b) ∧
    (v.alignNs b = some d) ∧
    (d.natAbs ≤ 2000)) ∧
  (let t : Nat := 1000000000000000
    let l : Lane := .a
    let s : State := onLane ready .b fun r => { r with link0 := { state := 1 } }
    let u := s.start t
    let x := u.lane l;
    x.sending = true) ∧
  (let t : Nat := 1000000000000000
    let l : Lane := .a
    let c : Copies := ⟨.good, .good⟩
    let s : State := ready
    let u := s.start t
    let r := (u.sendHello l).arrives l.other c;
    r.2 = true) ∧
  (let t : Nat := 1000000000000000
    let l : Lane := .a
    let c : Copies := ⟨.good, .good⟩
    let x : JoinPart := ⟨1, 50, 0, 0⟩
    let s : State := ready.setPstate 1 3 |>.setPstate 2 2
    let u := s.start t
    let r := (u.sendFrame l 7 ([x.pass, x.addr] ++ u.joinBytes l x)).receiveFrame l.other c;
    (u.leads l = true) ∧
    (r.2 = true) ∧
    (x.pass = 1)) ∧
  (let t : Nat := 1000000000000000
    let l : Lane := .a
    let c : Copies := ⟨.good, .good⟩
    let r : VatCurd := ⟨1, 0, 0, 0, {}⟩
    let s : State := onVat ready .a fun v => { v with curds := [⟨1, 0, 0, 0, {}⟩] }
    let u := s.start t
    let v := u.vat l
    let x := ((u.setVat l { v with sendNext := r.seq + 1 }).sendFrame l 6 ([r.seq, v.gotNext] ++ r.bytes)).receiveFrame l.other c;
    (2 ≤ u.laneState l) ∧
    (((u.cle l).phase = .idle ∨ (u.cle l).phase = .done)) ∧
    (((u.lane l).link0.state = 2 ∨ (u.lane l).link1.state = 2)) ∧
    (v.nextMirror l v.sendNext = some r) ∧
    (x.2 = true) ∧
    (2 ≤ x.1.laneState l.other)) ∧
  (let t : Nat := 1000000000000000
    let l : Lane := .a
    let k : Fin 2 := 0
    let s : State := onLane ready .a fun r => { r with link0 := {} }
    let u := s.start t
    let x := (u.lane l).link k;
    (x.state = 0) ∧
    (u.linkAlive l = true) ∧
    ((u.lane l.other).sending = true)) ∧
  (let t : Nat := 1000000000000000
    let l : Lane := .a
    let k : Fin 2 := 0
    let s : State := onLane ready .a fun r => { r with link0 := { state := 1, other := 1 } }
    let u := s.start t
    let x := (u.lane l).link k;
    (x.state = 1) ∧
    (u.linkAlive l = true) ∧
    (x.goodSince + 10000000 ≤ u.now) ∧
    (x.other ≠ 0)) ∧
  (let t : Nat := 1000000000000000
    let l : Lane := .a
    let k : Fin 2 := 0
    let s : State := ready
    let u := s.start t;
    (((u.lane l).link k).state = 2) ∧
    (((u.lane l).link k).lastValid + 100000 ≤ u.now)) ∧
  (let t : Nat := 1000000000000000
    let s : State := ready.putPair { ready.pair with above := some 0 }
    let u := s.start t;
    u.stood u.pair.above = true) ∧
  (let t : Nat := 1000000000000000
    let s : State := ready.putPair { ready.pair with below := some 0 }
    let u := s.start t;
    u.stood u.pair.below = true) := by
  refine ⟨?_, ?_, ?_, ?_, ?_, ?_, ?_, ?_, ?_, ?_⟩ <;> decide +kernel

theorem witness_LaneLifeRowsComplete :
  (let t : Nat := 1000000000000000
    let l : Lane := .a
    let s : State := onLane (ready.setPstate 4 1) .a fun r => { r with phase := .booting, loaded := true }
    let u := s.start t
    let r := u.lane l;
    (r.phase = .booting) ∧
    (r.loaded = true) ∧
    (r.fwBad = false) ∧
    ((l = .a ∨ u.power.sharedAt = none)) ∧
    (u.pstate 4 = 1)) ∧
  (let t : Nat := 1000000000000000
    let x : Nat := 0
    let l : Lane := .a
    let s : State := onLane (ready.setPstate 1 1) .a fun r => { r with bootDone := some 0, hello := none }
    let u := s.start t
    let r := u.lane l;
    (r.bootDone = some x) ∧
    (u.laneState l = 1) ∧
    (r.join.retryAt = none) ∧
    (x + 2000000000 ≤ u.now) ∧
    (r.hello = none)) ∧
  (let t : Nat := 1000000000000000
    let l : Lane := .a
    let s : State := (ready.setPstate 1 2).setPstate 2 3
    let u := s.start t
    let o := l.other;
    (u.leads o = true) ∧
    ((u.cle o).phase = .idle) ∧
    ((u.cle o).waiting = false) ∧
    (u.laneState o = 3)) ∧
  (let t : Nat := 1000000000000000
    let l : Lane := .a
    let s : State := ready.setPstate 1 2
    let u := s.start t;
    (u.laneState l = 2) ∧
    ((u.lane l).join.since + u.fld (lanePage l) Ln.JOIN_LIMIT_S * 1000000000 ≤ u.now)) ∧
  (let t : Nat := 1000000000000000
    let x : Nat := 0
    let l : Lane := .a
    let s : State := onLane ready .a fun r => { r with join := { retryAt := some 0 } }
    let u := s.start t;
    ((u.lane l).join.retryAt = some x) ∧
    (x ≤ u.now)) ∧
  (let t : Nat := 1000000000000000
    let l : Lane := .a
    let s : State := ready.setPstate 1 5
    let u := s.start t;
    (u.laneState l = 5) ∧
    ((ownedPages.all fun p => !(u.beat p l.other).present && decide ((u.beat p l.other).since + u.takeoverNs ≤ u.now)) = true)) ∧
  (let t : Nat := 1000000000000000
    let q : Req := ⟨4, 1, 0x03, 0, 0⟩
    let s : State := ((ready.setPstate 1 7).setPstate 2 7).setFld 3 Xg.REJOIN_STATUS_READY 1
    let u := s.start t;
    u.verdict q cmdAckRejoin = 0) ∧
  (let t : Nat := 1000000000000000
    let q : Req := ⟨4, 1, 0x03, 0, 0⟩
    let s : State := ready
    let u := s.start t;
    u.verdict q cmdCrossingClear = 0) ∧
  (let t : Nat := 1000000000000000
    let w : WriteReq := ⟨4, 1, 0x03, 0x100, 1⟩
    let s : State := ready
    let u := s.start t
    let w3 : WriteReq := { w with page := 3, off := Xg.TAKEOVER_MS.off };
    u.writeVerdict w3 = 0) := by
  refine ⟨?_, ?_, ?_, ?_, ?_, ?_, ?_, ?_, ?_⟩ <;> decide +kernel

theorem witness_OwnershipRequestsComplete :
  (let t : Nat := 1000000000000000
    let q : Req := ⟨1, 1, 0x10, 0, 0⟩
    let s : State := ready
    let u := s.start t;
    (u.holds q.page q.code = false) ∧
    (u.retired = false) ∧
    (pageUsed q.page = true) ∧
    (q.gen = u.gen q.page) ∧
    ((pageKind q.page).owned = true) ∧
    ((q.code = 1 ∨ q.code = 2))) ∧
  (let t : Nat := 1000000000000000
    let page : Nat := 0x10
    let r : ArbReq := ⟨⟨1, 1, 0x10, 0, 0⟩, Own.offer, 10, 0, false⟩
    let s : State := ((ready.setFld 3 Xg.OWN_STATE_OWNER 1 0x10).setRes 0x10 { accepted := true, beatA := { present := true, state := 4 }, beatB := { present := true, state := 4 }, arb := [⟨⟨1, 1, 0x10, 0, 0⟩, Own.offer, 10, 0, false⟩] })
    let u := s.start t;
    ((u.resRec page).arb = [r]) ∧
    (r.since + 1000 ≤ u.now)) ∧
  (let t : Nat := 1000000000000000
    let l : Lane := .a
    let q : Req := ⟨4, 1, 1, 0x10, 0⟩
    let s : State := ready
    let u := s.start t;
    (q.page = lanePage l) ∧
    (u.verdict q cmdOwnMove = 0)) ∧
  (let t : Nat := 1000000000000000
    let page : Nat := 0x10
    let l : Lane := .a
    let e : OwnErrand := ⟨0x10, 0, 0, 0, none, false⟩
    let s : State := onLane ready .a fun r => { r with errands := [⟨0x10, 0, 0, 0, none, false⟩] }
    let u := s.start t;
    (u.errands l = [e]) ∧
    (e.page = page) ∧
    (e.kind ≠ 1) ∧
    (e.offered = false) ∧
    (e.since + 100000000 ≤ u.now)) ∧
  (let t : Nat := 1000000000000000
    let l : Lane := .a
    let q : Req := ⟨4, 1, 0x01, 0, 0⟩
    let s : State := ready
    let u := s.start t;
    (q.page = lanePage l) ∧
    (u.verdict q cmdReleaseAll = 0)) ∧
  (let t : Nat := 1000000000000000
    let q : Req := ⟨4, 1, 2, 0, 0⟩
    let s : State := ready.setPstate 2 7
    let u := s.start t;
    u.verdict q cmdLaneResync = 0) ∧
  (let t : Nat := 1000000000000000
    let page : Nat := 0x10
    let n : Nat := 0
    let l : Lane := .a
    let e : OwnErrand := ⟨0x10, 0, 0, 0, some 0, false⟩
    let s : State := onLane (ready.setFld 3 Xg.OWN_STATE_OWNER 2 0x10) .a fun r => { r with errands := [⟨0x10, 0, 0, 0, some 0, false⟩] }
    let u := s.start t
    let v := u.setErrands l [{ e with nextAt := none }];
    (u.errands l = [e]) ∧
    (e.page = page) ∧
    (e.nextAt = some n) ∧
    (n ≤ u.now) ∧
    (e.kind ≠ 1) ∧
    (v.holds page l.num = false) ∧
    (v.owner page ≠ l.num)) ∧
  (let t : Nat := 1000000000000000
    let page : Nat := 0x10
    let s : State := ready.setFld 3 Xg.OWN_STATE_OFFER 2 0x10
    let u := s.start t;
    (u.fld 3 Xg.OWN_STATE_OFFER page ≠ 0) ∧
    ((u.resRec page).offerAt + (u.resRec page).offerMs * 1000000 ≤ u.now)) ∧
  (let t : Nat := 1000000000000000
    let page : Nat := 0x10
    let s : State := ready.setFld 3 Xg.OWN_STATE_REQUEST 2 0x10
    let u := s.start t;
    (u.fld 3 Xg.OWN_STATE_REQUEST page ≠ 0) ∧
    ((u.resRec page).requestAt + 100000000 ≤ u.now)) := by
  refine ⟨?_, ?_, ?_, ?_, ?_, ?_, ?_, ?_, ?_⟩ <;> decide +kernel

theorem witness_HeartbeatsAndTakeoverComplete :
  (let t : Nat := 1000000000000000
    let page : Nat := 0x10
    let count : Nat := 0
    let l : Lane := .a
    let s : State := ready
    let u := s.start t
    let b := u.beat page l;
    ((pageKind page).owned = true) ∧
    ((u.lane l).heartbeats = true) ∧
    (b.present = false) ∧
    (b.count ≠ some (count % 256)) ∧
    (page ≠ 0x48)) ∧
  (let t : Nat := 1000000000000000
    let page : Nat := 0x30
    let l : Lane := .a
    let s : State := ready.setRes 0x30 { accepted := true, beatA := { present := true } }
    let u := s.start t
    let b := u.beat page l;
    (b.present = true) ∧
    (b.last + 500000 ≤ u.now) ∧
    (pageKind page ≠ .axis)) ∧
  (let t : Nat := 1000000000000000
    let page : Nat := 0x10
    let l : Lane := .a
    let s : State := (ready.setFld 3 Xg.OWN_STATE_OWNER 1 0x10).setRes 0x10 { accepted := true, beatB := { present := true } }
    let u := s.start t;
    (laneOf? (u.owner page) = some l) ∧
    ((u.beat page l).present = false) ∧
    ((u.beat page l.other).present = true) ∧
    ((u.beat page l).since + u.takeoverNs ≤ u.now) ∧
    ((u.beat page l.other).since + u.takeoverNs ≤ u.now)) := by
  refine ⟨?_, ?_, ?_⟩ <;> decide +kernel

theorem witness_SupplyRowsComplete :
  (let t : Nat := 1000000000000000
    let s : State := ready.putPower { ready.power with common := false }
    let u := s.start t;
    (u.power.common = false) ∧
    (((u.lane .a).supply = true ∨ (u.lane .b).supply = true))) ∧
  (let t : Nat := 1000000000000000
    let l : Lane := .a
    let s : State := onLane ready .a fun r => { r with phase := .booting }
    let v := (s.start t).release l;
    ((v.lane l).phase = .booting) ∧
    ((v.lane l).loaded = false) ∧
    ((v.lane l).fwBad = false)) ∧
  (let t : Nat := 1000000000000000
    let l : Lane := .a
    let s : State := ready
    let u := s.start t
    let r := u.lane l
    let v := ((u.setLane l { r with supply := false, absentAt := u.now }).bump 4 (interrupts l)).raise 4 0 l.num;
    (r.supply = true) ∧
    ((r.phase = .running ∨ r.phase = .booting)) ∧
    (v.pstate 4 ≠ 3)) ∧
  (let t : Nat := 1000000000000000
    let l : Lane := .a
    let s : State := onLane ready .a fun r => { r with supply := false }
    let u := s.start t;
    (u.lane l).supply = false) ∧
  (let t : Nat := 1000000000000000
    let l : Lane := .a
    let s : State := onLane ready .a fun r => { r with supply := false }
    let u := s.start t
    let v := (u.raise 4 1 l.num).laneReset l 2;
    ((u.lane l).supply = false) ∧
    ((u.lane l).absentAt + 10000000 ≤ u.now) ∧
    ((u.lane l).phase = .running) ∧
    ((v.lane l.other).supply = true)) ∧
  (let t : Nat := 1000000000000000
    let l : Lane := .a
    let s : State := onLane ready .a fun r => { r with phase := .stopping }
    let u := s.start t
    let r := u.lane l;
    (r.phase = .stopping) ∧
    (r.sending = true) ∧
    (r.resetAt + 1500000 ≤ u.now)) ∧
  (let t : Nat := 1000000000000000
    let l : Lane := .a
    let s : State := onLane ready .a fun r => { r with phase := .shutdown, sending := false }
    let u := s.start t
    let r := u.lane l;
    (r.phase = .shutdown) ∧
    (r.sending = false) ∧
    (r.shutAt + 50000000 ≤ u.now)) ∧
  (let t : Nat := 1000000000000000
    let c : Nat := 0
    let l : Lane := .a
    let s : State := onLane ready .a fun r => { r with phase := .held, causeEnd := some 0 }
    let u := s.start t
    let r := u.lane l;
    (r.causeEnd = some c) ∧
    (r.phase = .held) ∧
    (r.heldAt + 20000000 ≤ u.now) ∧
    (c + 20000000 ≤ u.now) ∧
    (u.power.common = true)) ∧
  (let t : Nat := 1000000000000000
    let s : State := onLane (onLane ready .a fun r => { r with supply := false }) .b fun r => { r with supply := false }
    let u := s.start t;
    (u.power.common = true) ∧
    ((u.lane .a).supply = false) ∧
    ((u.lane .b).supply = false) ∧
    ((u.lane .a).absentAt + 60000000 ≤ u.now) ∧
    ((u.lane .b).absentAt + 60000000 ≤ u.now)) ∧
  (let t : Nat := 1000000000000000
    let l : Lane := .a
    let s : State := ready
    let u := s.start t;
    (u.lane l).phase = .running) ∧
  (let t : Nat := 1000000000000000
    let l : Lane := .a
    let s : State := ready
    let u := s.start t;
    (u.lane l).phase = .running) := by
  refine ⟨?_, ?_, ?_, ?_, ?_, ?_, ?_, ?_, ?_, ?_, ?_⟩ <;> decide +kernel

theorem witness_BusAndRailRowsComplete :
  (let t : Nat := 1000000000000000
    let b : Fin 2 := 0
    let s : State := ready
    let u := s.start t
    let v := (u.setBusPresent b true).showSupplies b;
    (u.busPresent b = false) ∧
    (v.power.common = true)) ∧
  (let t : Nat := 1000000000000000
    let x : Nat := 0
    let b : Fin 2 := 0
    let s : State := (ready.setBus 0 { presentAt := some 0 }).setFld 0x0E Ra.BUS_STATUS_STATE 1
    let u := s.start t;
    ((u.bus b).presentAt = some x) ∧
    (u.fld 0x0E Ra.BUS_STATUS_STATE b = 1) ∧
    (x + 100000000 ≤ u.now)) ∧
  (let t : Nat := 1000000000000000
    let b : Fin 2 := 0
    let s : State := ready.putPower { ready.power with bus := ⟨true, true⟩ }
    let u := s.start t;
    u.busPresent b = true) ∧
  (let t : Nat := 1000000000000000
    let b : Fin 2 := 0
    let s : State := ready.setFld 0x0E Ra.BUS_STATUS_STATE 2
    let u := s.start t;
    u.fld 0x0E Ra.BUS_STATUS_STATE b = 2) ∧
  (let t : Nat := 1000000000000000
    let b : Fin 2 := 0
    let s : State := ready.setFld 0x0E Ra.BUS_STATUS_STATE 3
    let u := s.start t;
    u.fld 0x0E Ra.BUS_STATUS_STATE b = 3) ∧
  (let t : Nat := 1000000000000000
    let l : Lane := .a
    let s : State := ready.putPower { ready.power with rail := ⟨true, true⟩ }
    let u := s.start t;
    u.power.rail.of l = true) ∧
  (let t : Nat := 1000000000000000
    let l : Lane := .a
    let s : State := ready
    let u := s.start t;
    u.power.rail.of l = false) ∧
  (let t : Nat := 1000000000000000
    let n : Fin 16 := 0
    let s : State := ready.putPower { ready.power with field := 1 }
    let u := s.start t;
    bitAt u.power.field n = true) ∧
  (let t : Nat := 1000000000000000
    let n : Fin 16 := 0
    let s : State := ready
    let u := s.start t;
    bitAt u.power.field n = false) := by
  refine ⟨?_, ?_, ?_, ?_, ?_, ?_, ?_, ?_, ?_⟩ <;> decide +kernel

theorem witness_ResetCommandsComplete :
  (let t : Nat := 1000000000000000
    let q : Req := ⟨4, 1, 0x04, 0, 0⟩
    let s : State := ready
    let u := s.start t;
    u.verdict q cmdDeviceReset = 0) ∧
  (let t : Nat := 1000000000000000
    let x : Nat := 0
    let arg : Nat := 0
    let s : State := ready.putPower { ready.power with resetFire := some (0, 0) }
    let u := s.start t;
    (u.power.resetFire = some (x, arg)) ∧
    (x ≤ u.now)) ∧
  (let t : Nat := 1000000000000000
    let q : Req := ⟨4, 1, 4, 1, 0⟩
    let s : State := ready
    let u := s.start t;
    u.verdict q cmdLaneReset = 0) ∧
  (let t : Nat := 1000000000000000
    let q : Req := ⟨4, 1, 0x04, 0, 0⟩
    let f : SlotFound := ⟨true, true⟩
    let s : State := ready
    let u := s.start t;
    u.verdict q (cmdMgmtReset f) = 0) ∧
  (let t : Nat := 1000000000000000
    let s : State := ready
    let u := s.start t;
    u.power.common = true) ∧
  (let t : Nat := 1000000000000000
    let q : Req := ⟨4, 1, 0x04, 0, 0⟩
    let s : State := ready
    let u := s.start t;
    u.verdict q cmdPowerDownPrep = 0) ∧
  (let t : Nat := 1000000000000000
    let x : Nat := 0
    let s : State := ready.putPower { ready.power with prep := some 0 }
    let u := s.start t;
    (u.power.prep = some x) ∧
    (u.pstate 8 ≠ 2) ∧
    (u.pstate 8 ≠ 3) ∧
    (u.pstate 9 ≠ 2) ∧
    (u.pstate 9 ≠ 3)) ∧
  (let page : Nat := 0x30;
    ((pageKind page).owned = true) ∧
    (pageKind page ≠ .can)) ∧
  (let page : Nat := 0x58;
    pageKind page = .can) ∧
  (let page : Nat := 0x60;
    page = 0x60 ∨ page = 0x62) ∧
  (let page : Nat := 0x0C;
    page = 0x0C ∨ page = 0x0D) := by
  refine ⟨?_, ?_, ?_, ?_, ?_, ?_, ?_, ?_, ?_, ?_, ?_⟩ <;> decide +kernel

theorem witness_PortsAndSessionsComplete :
  (let t : Nat := 1000000000000000
    let port : Fin 5 := 0
    let s : State := ready
    let u := (s.start t).portInForce port;
    (u.flag 5 Pt.LINK_UP port = false) ∧
    (u.portBit port Pt.PORT_CFG_ENA = true) ∧
    (port ≠ 4)) ∧
  (let t : Nat := 1000000000000000
    let port : Fin 5 := 0
    let s : State := (ready.setFld 5 Pt.LINK_UP 1).setFld 5 Pt.IP_ACTIVE 1
    let u := s.start t;
    (u.flag 5 Pt.LINK_UP port = true) ∧
    (port ≠ 4)) ∧
  (let t : Nat := 1000000000000000
    let port : Fin 5 := 0
    let addr : Word := 7
    let s : State := ready
    let u := s.start t;
    (u.portBit port Pt.PORT_CFG_DHCP = true) ∧
    (u.fld 5 Pt.IP_ACTIVE port ≠ addr.toNat)) ∧
  (let t : Nat := 1000000000000000
    let port : Fin 5 := 0
    let s : State := (ready.setFld 5 Pt.LINK_UP 1).setFld 5 Pt.IP_ACTIVE 1
    let u := s.start t;
    (u.flag 5 Pt.ANNOUNCE_ENA = true) ∧
    (u.flag 5 Pt.LINK_UP port = true) ∧
    (u.fld 5 Pt.IP_ACTIVE port ≠ 0) ∧
    (u.announceDue port = true)) ∧
  (let t : Nat := 1000000000000000
    let port : Fin 5 := 0
    let o : DtlsOffer := {}
    let s : State := ready.setFld 0x74 Lc.ANCHORS_HOST 1
    let u := s.start t;
    (u.portTrusted port = true) ∧
    (o.profile = true) ∧
    (u.host.handshakes.length < 8)) ∧
  (let t : Nat := 1000000000000000
    let port : Fin 5 := 0
    let o : DtlsOffer := {}
    let s : State := ready.setFld 0x74 Lc.ANCHORS_HOST 1
    let u := s.start t;
    (u.portTrusted port = true) ∧
    (o.profile = true)) ∧
  (let t : Nat := 1000000000000000
    let port : Fin 5 := 0
    let c : HostCert := ⟨0, 77, 5, 1, 1, 1, 0, 2 ^ 63, false⟩
    let s : State := ((ready.setFld 0x74 Lc.ANCHORS_HOST 1).setSlot 0 {}).putHost { ready.host with slots := [], handshakes := [⟨0, 1, 1, 0⟩] }
    let u := s.start t
    let mine (h : Handshake) : Bool := h.port == port.val && h.ip == c.ip && h.udp == c.udp
    let v := u.putHost { u.host with handshakes := u.host.handshakes.filter fun h => !mine h };
    (u.host.handshakes.any mine = true) ∧
    (v.certCheck port c = 0) ∧
    ((List.range 4).find? (fun k => (v.slot k).active && (v.slot k).subject == c.subject) = none) ∧
    ((v.slot 0).active = false)) ∧
  (let t : Nat := 1000000000000000
    let slot : Fin 4 := 0
    let s : State := ready
    let u := s.start t;
    ((u.slot slot).active = true) ∧
    ((u.slot slot).lastDatagram + u.fld 6 Ss.SESSION_TIMEOUT_S * 1000000000 ≤ u.now)) ∧
  (let t : Nat := 1000000000000000
    let slot : Fin 4 := 0
    let s : State := { ready with clockUnset := false }
    let u := s.start t;
    ((u.slot slot).active = true) ∧
    (u.clockUnset = false) ∧
    ((u.slot slot).notAfter < u.time)) ∧
  (let t : Nat := 1000000000000000
    let slot : Fin 4 := 0
    let r : QueuedRec := ⟨⟨0, 5, 1, 0, false, false, false, false, 0⟩, 0⟩
    let s : State := ready.setDest 0 { recs := [⟨⟨0, 5, 1, 0, false, false, false, false, 0⟩, 0⟩] }
    let u := s.start t
    let d := u.dest slot;
    ((u.slot slot).active = true) ∧
    (d.recs = [r]) ∧
    (r.sentAt + 200000000 ≤ u.now)) ∧
  (let t : Nat := 1000000000000000
    let q : Req := ⟨4, 1, 5, 1, 0⟩
    let s : State := ready
    let u := s.start t;
    u.verdict q cmdPortRestart = 0) ∧
  (let t : Nat := 1000000000000000
    let q : Req := ⟨4, 1, 5, 0, 0⟩
    let s : State := (ready.setReg 5 0x34 1 4).setReg 5 0x38 0x102 4
    let u := s.start t;
    (u.verdict q cmdConsistReport = 0) ∧
    (u.fld 5 Pt.CONSIST_TOPO ≠ u.arg0 q)) ∧
  (let t : Nat := 1000000000000000
    let q : Req := ⟨4, 1, 0x06, 0, 0⟩
    let s : State := ready
    let u := s.start t;
    u.verdict q cmdCfgClaim = 0) ∧
  (let t : Nat := 1000000000000000
    let q : Req := ⟨4, 1, 0x06, 0, 0⟩
    let s : State := ready
    let u := s.start t;
    u.verdict q cmdCfgRelease = 0) ∧
  (let t : Nat := 1000000000000000
    let q : Req := ⟨4, 1, 0x06, 0, 0⟩
    let s : State := ready
    let u := s.start t;
    u.verdict q cmdSessionClose = 0) ∧
  (let t : Nat := 1000000000000000
    let q : Req := ⟨4, 1, 0x06, 0, 0⟩
    let s : State := ready
    let u := s.start t;
    u.verdict q cmdHostClear = 0) := by
  refine ⟨?_, ?_, ?_, ?_, ?_, ?_, ?_, ?_, ?_, ?_, ?_, ?_, ?_, ?_, ?_, ?_⟩ <;> decide +kernel

theorem witness_HanucaRequestsComplete :
  (let t : Nat := 1000000000000000
    let slot : Fin 4 := 0
    let req : HanucaReq := { typ := 1, reqNo := 3, len := 20, page := 8, count := 1, off := 256, gen := 1, words := [] }
    let s : State := ready.setSlot 0 { active := true, role := 2, reqTok := 10 ^ 12, dataTok := 10 ^ 15 }
    let u := s.start t
    let r := { req with typ := 1 }
    let w := u.atTurn slot r;
    (u.takesNow slot r) ∧
    (w.partDown r.page = false) ∧
    (pageUsed r.page = true) ∧
    (r.gen = 0 ∨ r.gen = w.gen r.page) ∧
    (w.hostRight (4 + slot) r.page Right.read = true)) ∧
  (let t : Nat := 1000000000000000
    let slot : Fin 4 := 0
    let req : HanucaReq := { typ := 2, reqNo := 3, len := 24, page := 8, count := 1, off := 264, gen := 1, words := [1] }
    let s : State := ready.setSlot 0 { active := true, role := 2, reqTok := 10 ^ 12, dataTok := 10 ^ 15 }
    let u := s.start t
    let r := { req with typ := 2 }
    let w := u.atTurn slot r;
    (u.takesNow slot r) ∧
    (w.partDown r.page = false) ∧
    (pageUsed r.page = true) ∧
    (firstVerdict ((r.writes slot).map w.messageVerdict) = 0)) ∧
  (let t : Nat := 1000000000000000
    let slot : Fin 4 := 0
    let req : HanucaReq := { typ := 3, reqNo := 3, len := 32, page := 8, count := 0, off := 0, gen := 1, words := [0, 0, 0xF1] }
    let env : ReqEnv := ⟨⟨true, 1, 1, ⟨true, true⟩⟩, 0, [], 0⟩
    let s : State := ready.setSlot 0 { active := true, role := 2, reqTok := 10 ^ 12, dataTok := 10 ^ 15 }
    let u := s.start t
    let r := { req with typ := 3 }
    let w := u.atTurn slot r
    let v := ((w.setReg r.page 0x34 (r.words.getD 0 0) (4 + slot)).setReg r.page 0x38 (r.words.getD 1 0) (4 + slot)).anyWrite
     ⟨4 + slot, r.gen, r.page, 0x30, r.words.getD 2 0⟩ env.found env.us
    let c := commandAnswer v.out;
    (u.takesNow slot r) ∧
    (w.partDown r.page = false) ∧
    (pageUsed r.page = true) ∧
    (w.retired = false) ∧
    (r.gen = w.gen r.page) ∧
    (c % 256 ≠ RC.busy)) ∧
  (let t : Nat := 1000000000000000
    let slot : Fin 4 := 0
    let req : HanucaReq := { typ := 4, reqNo := 3, len := 12, page := 8, count := 0, off := 0, gen := 1, words := [] }
    let s : State := ready.setSlot 0 { active := true, role := 2, reqTok := 10 ^ 12, dataTok := 10 ^ 15 }
    let u := s.start t
    let r := { req with typ := 4 };
    u.takesNow slot r) ∧
  (let t : Nat := 1000000000000000
    let slot : Fin 4 := 0
    let req : HanucaReq := { typ := 5, reqNo := 3, len := 20, page := 8, count := 0, off := 0, gen := 1, words := [0, 0] }
    let s : State := ready.setSlot 0 { active := true, role := 2, reqTok := 10 ^ 12, dataTok := 10 ^ 15 }
    let u := s.start t
    let r := req.action 0;
    u.takesNow slot r) ∧
  (let t : Nat := 1000000000000000
    let slot : Fin 4 := 0
    let req : HanucaReq := { typ := 5, reqNo := 3, len := 20, page := 8, count := 0, off := 0, gen := 1, words := [1, 0] }
    let s : State := ready.setSlot 0 { active := true, role := 2, reqTok := 10 ^ 12, dataTok := 10 ^ 15 }
    let u := s.start t
    let r := req.action 1;
    u.takesNow slot r) ∧
  (let t : Nat := 1000000000000000
    let slot : Fin 4 := 0
    let req : HanucaReq := { typ := 5, reqNo := 3, len := 20, page := 8, count := 0, off := 0, gen := 1, words := [2, 0] }
    let s : State := ready.setSlot 0 { active := true, role := 2, reqTok := 10 ^ 12, dataTok := 10 ^ 15 }
    let u := s.start t
    let r := req.action 2;
    u.takesNow slot r) ∧
  (let t : Nat := 1000000000000000
    let slot : Fin 4 := 0
    let req : HanucaReq := { typ := 6, reqNo := 3, len := 36, page := 8, count := 0, off := 0, gen := 1, words := [0, 0, 0, 0, 0, 0] }
    let s : State := (ready.setSlot 0 { active := true, role := 2, reqTok := 10 ^ 12, dataTok := 10 ^ 15 }).setVatState .a 2
    let u := s.start t
    let r := { req with typ := 6 }
    let w := u.atTurn slot r;
    (u.takesNow slot r) ∧
    (w.hostRight (4 + slot) (vatPage r.logLane) Right.read = true) ∧
    (r.logPart ≤ 4) ∧
    (r.w64 1 ≤ r.w64 3) ∧
    (w.logMounted r.logLane r.logPart = true) ∧
    ((w.slot slot).handles.length < 4)) ∧
  (let t : Nat := 1000000000000000
    let slot : Fin 4 := 0
    let req : HanucaReq := { typ := 7, reqNo := 3, len := 26, page := 8, count := 0, off := 0, gen := 1, words := [0, 0, 0, 16] }
    let h : LogHandle := ⟨0, .a, 1, [], 0, 0⟩
    let s : State := (ready.setVatState .a 2).setSlot 0 { active := true, role := 2, reqTok := 10 ^ 12, dataTok := 10 ^ 15, handles := [⟨0, .a, 1, [], 0, 0⟩] }
    let u := s.start t
    let r := { req with typ := 7 }
    let w := u.atTurn slot r;
    (u.takesNow slot r) ∧
    ((w.slot slot).handles.find? (fun h => h.handle == r.w 0) = some h) ∧
    (r.w64 1 ≤ h.bytes) ∧
    (w.logMounted h.lane h.part = true) ∧
    (w.selectionHeld h = true)) ∧
  (let t : Nat := 1000000000000000
    let slot : Fin 4 := 0
    let req : HanucaReq := { typ := 8, reqNo := 3, len := 16, page := 8, count := 0, off := 0, gen := 1, words := [0] }
    let s : State := ready.setSlot 0 { active := true, role := 2, reqTok := 10 ^ 12, dataTok := 10 ^ 15 }
    let u := s.start t
    let r := { req with typ := 8 };
    u.takesNow slot r) ∧
  (let t : Nat := 1000000000000000
    let e : Nat := 1
    let x : Nat := 0
    let slot : Fin 4 := 0
    let s : State := ready.setSlot 0 { active := true, role := 2, expected := some 1, held := [⟨{ typ := 4, reqNo := 3, len := 12, page := 8, count := 0, off := 0, gen := 1, words := [] }, 0⟩] }
    let u := s.start t
    let c := u.slot slot;
    (c.expected = some e) ∧
    (c.oldest = some x) ∧
    (x + 10000000 ≤ u.now)) := by
  refine ⟨?_, ?_, ?_, ?_, ?_, ?_, ?_, ?_, ?_, ?_, ?_⟩ <;> decide +kernel

theorem witness_RunCommandsComplete :
  (let t : Nat := 1000000000000000
    let q : Req := ⟨4, 1, 0x08, 0, 0⟩
    let s : State := (ready.putMgmt { ready.mgmt with active := [(3, some pack), (4, some pack)] }).setReg 8 0x34 2 4
    let u := s.start t;
    u.verdict q cmdStart = 0) ∧
  (let t : Nat := 1000000000000000
    let q : Req := ⟨4, 1, 0x08, 0, 0⟩
    let s : State := (ready.setPstate 8 2)
    let u := s.start t;
    u.verdict q cmdStopCle = 0) ∧
  (let t : Nat := 1000000000000000
    let q : Req := ⟨4, 1, 0x08, 0, 0⟩
    let s : State := ready.setPstate 8 4
    let u := s.start t;
    u.verdict q cmdFaultAck = 0) ∧
  (let t : Nat := 1000000000000000
    let q : Req := ⟨4, 1, 0x08, 0, 0⟩
    let s : State := ready
    let u := s.start t;
    u.verdict q cmdCleClear = 0) ∧
  (let t : Nat := 1000000000000000
    let q : Req := ⟨4, 1, 0x0B, 0, 0⟩
    let s : State := ((ready.setPstate 0x60 5).setPstate 8 2).setPstate 9 2
    let u := s.start t;
    u.verdict q cmdHold = 0) ∧
  (let t : Nat := 1000000000000000
    let q : Req := ⟨4, 1, 0x0B, 0, 0⟩
    let s : State := (ready.setPstate 8 3).setPstate 9 3
    let u := s.start t;
    u.verdict q cmdResume = 0) ∧
  (let t : Nat := 1000000000000000
    let q : Req := ⟨4, 1, 0x0B, 0, 0⟩
    let s : State := (((ready.setPstate 0x60 5).setPstate 8 3).setPstate 9 3).setReg 0x0B 0x34 1 4
    let u := s.start t;
    u.verdict q cmdStep = 0) ∧
  (let t : Nat := 1000000000000000
    let l : Lane := .a
    let s : State := onCle (ready.setPstate 8 2) .a fun c => { c with phase := .output, image := some prog, tasks := [(0, { state := 1 })] }
    let u := s.start t;
    (u.pstate (clePage l) = 2) ∧
    ((u.cle l).phase = .output) ∧
    ((u.cle l).stalls = true)) := by
  refine ⟨?_, ?_, ?_, ?_, ?_, ?_, ?_, ?_⟩ <;> decide +kernel

theorem witness_CleIntegerComplete :
  (let l : Lane := .a
    let t : Nat := 0
    let f : Fields := 0
    let s : State := engine;
    (s.executes l t 1 false) ∧
    (onlyBits f 0xFFF000 = true)) ∧
  (let l : Lane := .a
    let t : Nat := 0
    let f : Fields := 0
    let s : State := engine;
    (s.executes l t 1 false) ∧
    (onlyBits f 0xFFF000 = true)) ∧
  (let l : Lane := .a
    let t : Nat := 0
    let s : State := engine;
    s.executes l t 1 false) ∧
  (let l : Lane := .a
    let t : Nat := 0
    let f : Fields := 0
    let s : State := engine;
    (s.executes l t 1 false) ∧
    (onlyBits f 0x0FF000 = true)) ∧
  (let l : Lane := .a
    let t : Nat := 0
    let f : Fields := 0
    let s : State := engine;
    (s.executes l t 1 false) ∧
    (onlyBits f 0xFF0000 = true)) ∧
  (let l : Lane := .a
    let t : Nat := 0
    let f : Fields := 0
    let s : State := engine;
    (s.executes l t 1 false) ∧
    (onlyBits f 0xFF001F = true)) ∧
  (let l : Lane := .a
    let t : Nat := 0
    let f : Fields := 0
    let s : State := engine;
    (s.executes l t 1 false) ∧
    (onlyBits f 0x0FFFFF = true)) ∧
  (let l : Lane := .a
    let t : Nat := 0
    let f : Fields := 0
    let s : State := engine;
    (s.executes l t 1 false) ∧
    (onlyBits f 0xF0FFFF = true)) ∧
  (let l : Lane := .a
    let t : Nat := 0
    let f : Fields := 0
    let s : State := engine;
    (s.executes l t 2 false) ∧
    (onlyBits f 0xF00000 = true)) := by
  refine ⟨?_, ?_, ?_, ?_, ?_, ?_, ?_, ?_, ?_⟩ <;> decide +kernel

theorem witness_CleMemoryComplete :
  (let l : Lane := .a
    let t : Nat := 0
    let f : Fields := 0
    let v : Nat := 0
    let s : State := engine
    let c := s.cle l
    let k := s.fetched l t 1
    let a := addrM k f;
    (s.executes l t 1 false) ∧
    (c.load a 4 = some v)) ∧
  (let l : Lane := .a
    let t : Nat := 0
    let f : Fields := 0
    let v : Nat := 0
    let s : State := engine
    let c := s.cle l
    let k := s.fetched l t 1
    let a := addrM k f;
    (s.executes l t 1 false) ∧
    (c.load a 2 = some v)) ∧
  (let l : Lane := .a
    let t : Nat := 0
    let f : Fields := 0
    let v : Nat := 0
    let s : State := engine
    let c := s.cle l
    let k := s.fetched l t 1
    let a := addrM k f;
    (s.executes l t 1 false) ∧
    (c.load a 1 = some v)) ∧
  (let l : Lane := .a
    let t : Nat := 0
    let f : Fields := 0
    let v : Nat := 0
    let s : State := engine
    let c := s.cle l
    let k := s.fetched l t 1
    let a := addrM k f;
    (s.executes l t 1 false) ∧
    (c.load a 8 = some v)) ∧
  (let l : Lane := .a
    let t : Nat := 0
    let f : Fields := 0
    let v : Nat := 0
    let s : State := engine
    let c := s.cle l
    let k := s.fetched l t 1;
    (s.executes l t 1 false) ∧
    (onlyBits f 0xF0FFFF = true) ∧
    (c.load (addrMI k f) 4 = some v)) ∧
  (let l : Lane := .a
    let t : Nat := 0
    let f : Fields := 0
    let s : State := engine
    let d : CleRec := ((s.cle l).store 0 0 4).getD (s.cle l)
    let c := s.cle l
    let k := s.fetched l t 1;
    (s.executes l t 1 false) ∧
    (c.store (addrM k f) ((k.G (fD f)).toNat) 4 = some d)) ∧
  (let l : Lane := .a
    let t : Nat := 0
    let f : Fields := 0
    let s : State := engine
    let d : CleRec := ((s.cle l).store 0 0 2).getD (s.cle l)
    let c := s.cle l
    let k := s.fetched l t 1;
    (s.executes l t 1 false) ∧
    (c.store (addrM k f) ((k.G (fD f)).toNat) 2 = some d)) ∧
  (let l : Lane := .a
    let t : Nat := 0
    let f : Fields := 0
    let s : State := engine
    let d : CleRec := ((s.cle l).store 0 0 1).getD (s.cle l)
    let c := s.cle l
    let k := s.fetched l t 1;
    (s.executes l t 1 false) ∧
    (c.store (addrM k f) ((k.G (fD f)).toNat) 1 = some d)) ∧
  (let l : Lane := .a
    let t : Nat := 0
    let f : Fields := 0
    let s : State := engine
    let d : CleRec := ((s.cle l).store 0 0 8).getD (s.cle l)
    let c := s.cle l
    let k := s.fetched l t 1;
    (s.executes l t 1 false) ∧
    (c.store (addrM k f) ((k.X (fD f)).toNat) 8 = some d)) ∧
  (let l : Lane := .a
    let t : Nat := 0
    let f : Fields := 0
    let s : State := engine
    let d : CleRec := ((s.cle l).store 0 0 4).getD (s.cle l)
    let c := s.cle l
    let k := s.fetched l t 1;
    (s.executes l t 1 false) ∧
    (c.store (addrM k f) ((k.X (fD f)).toNat % 2 ^ 32) 4 = some d)) ∧
  (let l : Lane := .a
    let t : Nat := 0
    let f : Fields := 0
    let s : State := engine
    let d : CleRec := ((s.cle l).store 0 0 4).getD (s.cle l)
    let c := s.cle l
    let k := s.fetched l t 1;
    (s.executes l t 1 false) ∧
    (onlyBits f 0xF0FFFF = true) ∧
    (c.store (addrMI k f) (k.G (fD f)).toNat 4 = some d)) ∧
  (let l : Lane := .a
    let t : Nat := 0
    let f : Fields := 0x10000
    let v : Nat := 1
    let s : State := engine
    let c := s.cle l
    let k := s.fetched l t 1;
    (s.executes l t 1 false) ∧
    (c.quality (addrM k f) = some v)) ∧
  (let l : Lane := .a
    let t : Nat := 0
    let f : Fields := 0x0
    let s : State := onCle engine .a fun c => { c with upset := [(0x0, false)], tasks := [(0, { state := 3, g := [(0, 0)] })] }
    let c := s.cle l
    let z := s.setCle l { c with upset := [] }
    let k := s.fetched l t 1
    let a := addrM k f
    let w := a / 4 * 4;
    (z.executes l t 1 false) ∧
    (c.upset = [(w, false)]) ∧
    (inWindow a = false) ∧
    ((c.load w 4).isSome = true) ∧
    ((∀ p, p ∈ fetchWords (c.tasks.rd {} t).pc 1 → constBase + p ≠ w))) ∧
  (let l : Lane := .a
    let t : Nat := 0
    let f : Fields := 0x0
    let s : State := onCle engine .a fun c => { c with upset := [(0x0, true)], tasks := [(0, { state := 3, g := [(0, 0)] })] }
    let c := s.cle l
    let z := s.setCle l { c with upset := [] }
    let k := s.fetched l t 1
    let a := addrM k f
    let w := a / 4 * 4;
    (z.executes l t 1 false) ∧
    (c.upset = [(w, true)]) ∧
    (inWindow a = false) ∧
    ((c.load w 4).isSome = true) ∧
    ((∀ p, p ∈ fetchWords (c.tasks.rd {} t).pc 1 → constBase + p ≠ w))) ∧
  (let l : Lane := .a
    let t : Nat := 0
    let f : Fields := 0x0
    let s : State := onCle engine .a fun c => { c with upset := [(0x0, false)], tasks := [(0, { state := 3, g := [(0, 0)] })] }
    let c := s.cle l
    let z := s.setCle l { c with upset := [] }
    let k := s.fetched l t 1
    let a := addrMI k f
    let w := a / 4 * 4;
    (z.executes l t 1 false) ∧
    (onlyBits f 0xF0FFFF = true) ∧
    (inWindow a = false) ∧
    ((c.load w 4).isSome = true) ∧
    ((∀ p, p ∈ fetchWords (c.tasks.rd {} t).pc 1 → constBase + p ≠ w))) ∧
  (let l : Lane := .a
    let t : Nat := 0
    let s : State := onCle engine .a fun c => { c with upset := [(constBase, true)] }
    let c := s.cle l
    let z := s.setCle l { c with upset := [] }
    let pc := (c.tasks.rd {} t).pc
    let w := constBase + pc;
    (z.executes l t 1 true) ∧
    (c.upset = [(w, true)])) ∧
  (let l : Lane := .a
    let t : Nat := 0
    let f : Fields := 0
    let p : Fin 4 := 1
    let s : State := engine
    let d : CleRec := ((s.cle l).store 0 0 4).getD (s.cle l)
    let c := s.cle l
    let k := s.fetched l t 1
    let a := addrM k f;
    (s.executes l t 1 false) ∧
    (c.store a (k.G (fD f)).toNat 4 = some d) ∧
    (inWindow a = false) ∧
    (p ≠ 0)) := by
  refine ⟨?_, ?_, ?_, ?_, ?_, ?_, ?_, ?_, ?_, ?_, ?_, ?_, ?_, ?_, ?_, ?_, ?_⟩ <;> decide +kernel

theorem witness_CleControlComplete :
  (let l : Lane := .a
    let t : Nat := 0
    let f : Fields := 0
    let s : State := engine;
    (s.executes l t 1 true) ∧
    (onlyBits f 0 = true)) ∧
  (let l : Lane := .a
    let t : Nat := 0
    let f : Fields := 0
    let s : State := engine;
    (s.executes l t 1 true) ∧
    (onlyBits f 0 = true) ∧
    ((s.fetched l t 1).bstack = []) ∧
    ((s.fetched l t 1).calls = []) ∧
    (t ≠ 16)) ∧
  (let l : Lane := .a
    let t : Nat := 0
    let f : Fields := 0
    let ext : List Word := [0]
    let s : State := engine
    let n := f.toNat / 2 ^ 21 + 1
    let es := waitMembers ext n
    let len := 1 + (n + 1) / 2;
    (s.executes l t len true) ∧
    (onlyBits f 0xE00000 = true) ∧
    (n ≤ es.length) ∧
    (es.any reservedEvent = false) ∧
    (t ≠ 16)) ∧
  (let l : Lane := .a
    let t : Nat := 0
    let f : Fields := 0
    let s : State := engine;
    (s.executes l t 1 true) ∧
    (onlyBits f 0x3F = true)) ∧
  (let l : Lane := .a
    let t : Nat := 0
    let f : Fields := 0
    let s : State := engine;
    (s.executes l t 1 false) ∧
    (onlyBits f 0xF0000 = true)) ∧
  (let l : Lane := .a
    let t : Nat := 0
    let f : Fields := 0
    let since : Nat := 0
    let v : Nat := 0
    let s : State := engine
    let c := s.cle l;
    (s.executes l t 1 false) ∧
    (onlyBits f 0xF0FFFF = true) ∧
    ([c.progTime, c.progTime / 2 ^ 32, c.cycle, c.cycle / 2 ^ 32, t, l.num, since][fImm f]? = some v)) ∧
  (let l : Lane := .a
    let t : Nat := 0
    let s : State := engine
    let k := s.fetched l t 1;
    (s.executes l t 1 true) ∧
    (k.calls.length < 32)) ∧
  (let l : Lane := .a
    let t : Nat := 0
    let f : Fields := 0
    let s : State := engine
    let k := s.fetched l t 2;
    (s.executes l t 2 false) ∧
    (onlyBits f 0xF0000 = true) ∧
    (k.calls.length < 32)) ∧
  (let l : Lane := .a
    let t : Nat := 0
    let f : Fields := 0
    let pc : Nat := 4
    let inst : Word := 0
    let rest : List (Nat × Word) := []
    let s : State := onCle engine .a fun c => { c with tasks := [(0, { state := 3, calls := [(4, 0)] })] }
    let k := s.fetched l t 1;
    (s.executes l t 1 true) ∧
    (onlyBits f 0 = true) ∧
    (k.calls = (pc, inst) :: rest)) ∧
  (let l : Lane := .a
    let t : Nat := 0
    let s : State := engine;
    s.executes l t 1 true) ∧
  (let l : Lane := .a
    let t : Nat := 0
    let f : Fields := 0
    let b : Bool := false
    let s : State := engine
    let c := s.cle l
    let k := s.fetched l t 1;
    (s.executes l t 1 true) ∧
    (k.cond (fD f) = some b) ∧
    (((c.taskDef t).bitMode = false ∨ (0xC ≤ fD f ∧ fD f ≤ 0xE)))) ∧
  (let l : Lane := .a
    let t : Nat := 0
    let f : Fields := 0
    let s : State := engine;
    (s.executes l t 1 false) ∧
    (onlyBits f 0xF0000 = true)) ∧
  (let l : Lane := .a
    let t : Nat := 0
    let f : Fields := 0
    let s : State := engine;
    (s.executes l t 1 false) ∧
    (onlyBits f 0xF00000 = true)) := by
  refine ⟨?_, ?_, ?_, ?_, ?_, ?_, ?_, ?_, ?_, ?_, ?_, ?_, ?_⟩ <;> decide +kernel

theorem witness_CleBitComplete :
  (let l : Lane := .a
    let t : Nat := 0
    let f : Fields := 0
    let s : State := engine;
    (s.executes l t 1 false) ∧
    (onlyBits f 0xF00000 = true)) ∧
  (let l : Lane := .a
    let t : Nat := 0
    let f : Fields := 0
    let s : State := engine;
    (s.executes l t 1 false) ∧
    (onlyBits f 0x0F0000 = true)) ∧
  (let l : Lane := .a
    let t : Nat := 0
    let f : Fields := 0
    let a : Nat := 0
    let i : Nat := 0
    let v : Nat := 0
    let s : State := engine
    let c := s.cle l
    let k := s.fetched l t 1;
    (s.executes l t 1 true) ∧
    (bitOperand k f = some (a, i)) ∧
    (c.load a 4 = some v)) ∧
  (let l : Lane := .a
    let t : Nat := 0
    let f : Fields := 0
    let a : Nat := 0
    let i : Nat := 0
    let v : Nat := 0
    let s : State := engine
    let c := s.cle l
    let k := s.fetched l t 1;
    (s.executes l t 1 true) ∧
    (bitOperand k f = some (a, i)) ∧
    (c.load a 4 = some v) ∧
    (k.bstack.length < 16)) ∧
  (let l : Lane := .a
    let t : Nat := 0
    let f : Fields := 0
    let a : Nat := 0
    let i : Nat := 0
    let v : Nat := 0
    let s : State := engine
    let c := s.cle l
    let k := s.fetched l t 1;
    (s.executes l t 1 true) ∧
    (bitOperand k f = some (a, i)) ∧
    (c.load a 4 = some v)) ∧
  (let l : Lane := .a
    let t : Nat := 0
    let f : Fields := 0
    let v : Bool := true
    let op : BitOp := .and
    let rest : List (Bool × BitOp) := []
    let s : State := onCle engine .a fun c => { c with tasks := [(0, { state := 3, bstack := [(true, .and)] })] }
    let k := s.fetched l t 1;
    (s.executes l t 1 true) ∧
    (onlyBits f 0 = true) ∧
    (k.bstack = (v, op) :: rest)) ∧
  (let l : Lane := .a
    let t : Nat := 0
    let f : Fields := 0
    let b : Bool := true
    let s : State := engine
    let c := s.cle l
    let k := s.fetched l t 1;
    (s.executes l t 1 true) ∧
    ([!k.acc, false, true, k.z, k.n, k.c][f.toNat]? = some b) ∧
    ((3 ≤ f.toNat → (c.taskDef t).bitMode = false))) := by
  refine ⟨?_, ?_, ?_, ?_, ?_, ?_, ?_⟩ <;> decide +kernel

theorem witness_TimerBlocksComplete :
  (let l : Lane := .a
    let t : Nat := 0
    let a : Nat := 0
    let f : Fields := 0x400000
    let s : State := onCle engine .a fun c => { c with data := [⟨8, 1⟩, ⟨0x18, 5⟩], progTime := 700 }
    let c := s.cle l
    let k := s.fetched l t 1;
    (s.executes l t 1 true) ∧
    (fbOperand k (c.taskDef t).bitMode f = .ok a) ∧
    (a % 8 = 0) ∧
    ((c.img.data.holds a 48 = true ∨ c.img.retain.holds a 48 = true)) ∧
    (memRead c.data (a + 8) 2 = 0x0001)) ∧
  (let l : Lane := .a
    let t : Nat := 0
    let a : Nat := 0
    let f : Fields := 0x400000
    let s : State := onCle engine .a fun c => { c with data := [⟨8, 2⟩, ⟨0x18, 5⟩], progTime := 700 }
    let c := s.cle l
    let k := s.fetched l t 1;
    (s.executes l t 1 true) ∧
    (fbOperand k (c.taskDef t).bitMode f = .ok a) ∧
    (a % 8 = 0) ∧
    ((c.img.data.holds a 48 = true ∨ c.img.retain.holds a 48 = true)) ∧
    (memRead c.data (a + 8) 2 = 0x0002)) ∧
  (let l : Lane := .a
    let t : Nat := 0
    let a : Nat := 0
    let f : Fields := 0x400000
    let s : State := onCle engine .a fun c => { c with data := [⟨8, 3⟩, ⟨0x18, 5⟩], progTime := 700 }
    let c := s.cle l
    let k := s.fetched l t 1;
    (s.executes l t 1 true) ∧
    (fbOperand k (c.taskDef t).bitMode f = .ok a) ∧
    (a % 8 = 0) ∧
    ((c.img.data.holds a 48 = true ∨ c.img.retain.holds a 48 = true)) ∧
    (memRead c.data (a + 8) 2 = 0x0003)) := by
  refine ⟨?_, ?_, ?_⟩ <;> exact ⟨by decide +kernel, by rfl, by decide +kernel, by decide +kernel, by decide +kernel⟩

theorem witness_CounterAndEdgeBlocksComplete :
  (let l : Lane := .a
    let t : Nat := 0
    let a : Nat := 0
    let f : Fields := 0x400000
    let s : State := onCle engine .a fun c => { c with data := [⟨8, 17⟩, ⟨0x18, 5⟩], progTime := 700 }
    let c := s.cle l
    let k := s.fetched l t 1;
    (s.executes l t 1 true) ∧
    (fbOperand k (c.taskDef t).bitMode f = .ok a) ∧
    (a % 8 = 0) ∧
    ((c.img.data.holds a 32 = true ∨ c.img.retain.holds a 32 = true)) ∧
    (memRead c.data (a + 8) 2 = 0x0011)) ∧
  (let l : Lane := .a
    let t : Nat := 0
    let a : Nat := 0
    let f : Fields := 0x400000
    let s : State := onCle engine .a fun c => { c with data := [⟨8, 18⟩, ⟨0x18, 5⟩], progTime := 700 }
    let c := s.cle l
    let k := s.fetched l t 1;
    (s.executes l t 1 true) ∧
    (fbOperand k (c.taskDef t).bitMode f = .ok a) ∧
    (a % 8 = 0) ∧
    ((c.img.data.holds a 32 = true ∨ c.img.retain.holds a 32 = true)) ∧
    (memRead c.data (a + 8) 2 = 0x0012)) ∧
  (let l : Lane := .a
    let t : Nat := 0
    let a : Nat := 0
    let f : Fields := 0x400000
    let s : State := onCle engine .a fun c => { c with data := [⟨8, 19⟩, ⟨0x18, 5⟩], progTime := 700 }
    let c := s.cle l
    let k := s.fetched l t 1;
    (s.executes l t 1 true) ∧
    (fbOperand k (c.taskDef t).bitMode f = .ok a) ∧
    (a % 8 = 0) ∧
    ((c.img.data.holds a 32 = true ∨ c.img.retain.holds a 32 = true)) ∧
    (memRead c.data (a + 8) 2 = 0x0013)) ∧
  (let l : Lane := .a
    let t : Nat := 0
    let a : Nat := 0
    let f : Fields := 0x400000
    let s : State := onCle engine .a fun c => { c with data := [⟨8, 33⟩, ⟨0x18, 5⟩], progTime := 700 }
    let c := s.cle l
    let k := s.fetched l t 1;
    (s.executes l t 1 true) ∧
    (fbOperand k (c.taskDef t).bitMode f = .ok a) ∧
    (a % 8 = 0) ∧
    ((c.img.data.holds a 24 = true ∨ c.img.retain.holds a 24 = true)) ∧
    (memRead c.data (a + 8) 2 = 0x0021)) ∧
  (let l : Lane := .a
    let t : Nat := 0
    let a : Nat := 0
    let f : Fields := 0x400000
    let s : State := onCle engine .a fun c => { c with data := [⟨8, 34⟩, ⟨0x18, 5⟩], progTime := 700 }
    let c := s.cle l
    let k := s.fetched l t 1;
    (s.executes l t 1 true) ∧
    (fbOperand k (c.taskDef t).bitMode f = .ok a) ∧
    (a % 8 = 0) ∧
    ((c.img.data.holds a 24 = true ∨ c.img.retain.holds a 24 = true)) ∧
    (memRead c.data (a + 8) 2 = 0x0022)) := by
  refine ⟨?_, ?_, ?_, ?_, ?_⟩ <;> exact ⟨by decide +kernel, by rfl, by decide +kernel, by decide +kernel, by decide +kernel⟩

theorem witness_NumericBlocksComplete :
  (let l : Lane := .a
    let t : Nat := 0
    let a : Nat := 0
    let f : Fields := 0x400000
    let s : State := onCle engine .a fun c => { c with data := [⟨8, 49⟩, ⟨0x18, 5⟩], progTime := 700 }
    let c := s.cle l
    let k := s.fetched l t 1;
    (s.executes l t 1 false) ∧
    (fbOperand k (c.taskDef t).bitMode f = .ok a) ∧
    (a % 8 = 0) ∧
    ((c.img.data.holds a 144 = true ∨ c.img.retain.holds a 144 = true)) ∧
    (memRead c.data (a + 8) 2 = 0x0031)) ∧
  (let l : Lane := .a
    let t : Nat := 0
    let a : Nat := 0
    let f : Fields := 0x400000
    let s : State := onCle engine .a fun c => { c with data := [⟨8, 65⟩, ⟨0x18, 5⟩], progTime := 700 }
    let c := s.cle l
    let k := s.fetched l t 1;
    (s.executes l t 1 false) ∧
    (fbOperand k (c.taskDef t).bitMode f = .ok a) ∧
    (a % 8 = 0) ∧
    ((c.img.data.holds a 56 = true ∨ c.img.retain.holds a 56 = true)) ∧
    (memRead c.data (a + 8) 2 = 0x0041)) ∧
  (let l : Lane := .a
    let t : Nat := 0
    let a : Nat := 0
    let f : Fields := 0x400000
    let s : State := onCle engine .a fun c => { c with data := [⟨8, 66⟩, ⟨0x18, 5⟩], progTime := 700 }
    let c := s.cle l
    let k := s.fetched l t 1;
    (s.executes l t 1 false) ∧
    (fbOperand k (c.taskDef t).bitMode f = .ok a) ∧
    (a % 8 = 0) ∧
    ((c.img.data.holds a 64 = true ∨ c.img.retain.holds a 64 = true)) ∧
    (memRead c.data (a + 8) 2 = 0x0042)) := by
  refine ⟨?_, ?_, ?_⟩ <;> exact ⟨by decide +kernel, by rfl, by decide +kernel, by decide +kernel, by decide +kernel⟩

theorem witness_CleNumericComplete :
  (let l : Lane := .a
    let t : Nat := 0
    let f : Fields := 0
    let s : State := engine;
    (s.executes l t 1 false) ∧
    (onlyBits f 0xFFF001 = true)) ∧
  (let l : Lane := .a
    let t : Nat := 0
    let f : Fields := 0
    let s : State := engine;
    (s.executes l t 1 false) ∧
    (onlyBits f 0xFFFF01 = true)) ∧
  (let l : Lane := .a
    let t : Nat := 0
    let f : Fields := 0
    let s : State := engine;
    (s.executes l t 1 false) ∧
    (onlyBits f 0xFF0001 = true)) ∧
  (let l : Lane := .a
    let t : Nat := 0
    let f : Fields := 0
    let s : State := engine;
    (s.executes l t 1 false) ∧
    (onlyBits f 0xFF0001 = true)) ∧
  (let l : Lane := .a
    let t : Nat := 0
    let f : Fields := 0
    let z : Bool := true
    let n : Bool := false
    let g : Bool := false
    let v : Bool := false
    let x : Nat := 0
    let s : State := engine
    let k := s.fetched l t 1
    let fm := FloatFmt.ofP (fP f);
    (s.executes l t 1 false) ∧
    (onlyBits f 0x0FF001 = true) ∧
    ((k.num fm (fA f)).compare (k.num fm (fB f)) = ((z, n, g, v), x))) ∧
  (let l : Lane := .a
    let t : Nat := 0
    let f : Fields := 0
    let s : State := engine;
    (s.executes l t 1 false) ∧
    (onlyBits f 0xFF1000 = true)) ∧
  (let l : Lane := .a
    let t : Nat := 0
    let f : Fields := 0
    let s : State := engine;
    (s.executes l t 1 false) ∧
    (onlyBits f 0xF00000 = true)) ∧
  (let l : Lane := .a
    let t : Nat := 0
    let f : Fields := 0
    let s : State := engine;
    (s.executes l t 1 false) ∧
    (onlyBits f 0x0F0000 = true)) ∧
  (let l : Lane := .a
    let t : Nat := 0
    let f : Fields := 0
    let s : State := engine;
    (s.executes l t 1 false) ∧
    (onlyBits f 0xFF0000 = true)) := by
  refine ⟨?_, ?_, ?_, ?_, ?_, ?_, ?_, ?_, ?_⟩ <;> decide +kernel



theorem witness_OnlineChangeComplete :
  (let t : Nat := 1000000000000000
    let q : Req := ⟨4, 1, 0x0A, 0, 0⟩
    let s : State := (ready.setPstate 8 2).setPstate 9 2
    let u := s.start t;
    u.verdict q cmdOcLoad = 0) ∧
  (let t : Nat := 1000000000000000
    let signed : Bool := true
    let s : State := ((onCle ready .b fun c => { c with image := some prog }).setPstate 0x0A 1 |>.setFld 0x74 Lc.ANCHORS_CONTENT 1).putMgmt { ready.mgmt with other := [(3, some changed), (4, some changed)] } |>.setFld 9 Ce.CYCLE_ACT_PERIOD_US 1000
    let u := s.start t;
    (u.pstate 0x0A = 1) ∧
    (u.oc.result.of .b = none) ∧
    (u.ocCheck .b signed = 0)) ∧
  (let t : Nat := 1000000000000000
    let signed : Bool := true
    let i : ProgImage := nextProg
    let p : ChangePkg := change
    let s : State := ((onCle ready .a fun c => { c with image := some prog }).setPstate 0x0A 1 |>.setFld 0x74 Lc.ANCHORS_CONTENT 1).putMgmt { ready.mgmt with other := [(3, some changed), (4, some changed)] } |>.setFld 8 Ce.CYCLE_ACT_PERIOD_US 1000
    let u := s.start t
    let d := (((u.otherSlot 2).bind (·.program)).map (·.digest)).getD 0
    let w := u.sendFrame .a 5 [0, 0, d];
    (u.pstate 0x0A = 1) ∧
    (u.oc.result.of .a = none) ∧
    (u.ocCheck .a signed = 0) ∧
    (w.ocPackage .a = some (i, p))) ∧
  (let t : Nat := 1000000000000000
    let signed : Bool := false
    let s : State := ready.setPstate 0x0A 1
    let u := s.start t
    let n := u.ocCheck .b signed;
    (u.pstate 0x0A = 1) ∧
    (u.oc.result.of .b = none) ∧
    (n ≠ 0)) ∧
  (let t : Nat := 1000000000000000
    let q : Req := ⟨4, 1, 0x0A, 0, 0⟩
    let s : State := ready.setPstate 0x0A 2
    let u := s.start t;
    u.verdict q cmdOcCommit = 0) ∧
  (let t : Nat := 1000000000000000
    let q : Req := ⟨4, 1, 0x0A, 0, 0⟩
    let s : State := ready.setPstate 0x0A 2
    let u := s.start t;
    u.verdict q cmdOcAbandon = 0) ∧
  (let t : Nat := 1000000000000000
    let s : State := ready.setPstate 0x0A 2
    let u := s.start t;
    (u.pstate 0x0A = 2) ∧
    (u.oc.readyAt + u.fld 0x0A Oc.OC_CFG_HOLD_S * 1000000000 ≤ u.now)) ∧
  (let t : Nat := 1000000000000000
    let r : Nat × Nat := (0, 5)
    let l : Lane := .a
    let c : Copies := ⟨.good, .good⟩
    let s : State := (ready.setPstate 0x0A 1).putOc { ready.oc with result := ⟨some (0, 5), none⟩ }
    let u := s.start t
    let o := l.other
    let v := (u.receiveFrame o c).1;
    ((u.receiveFrame o c).2 = true) ∧
    (v.oc.result.of l = some r) ∧
    (v.pstate 0x0A = 1)) ∧
  (let t : Nat := 1000000000000000
    let n : Nat := 5
    let c : Copies := ⟨.good, .good⟩
    let s : State := onCle ((ready.setPstate 0x0A 3).putOc { ready.oc with latchedAt := some 5 }) .a fun c => { c with receipt := some true, sent := { c.sent with cycle := 5 } }
    let u := s.start t
    let r := (u.sendFrame .a 5 [1, n + 2]).receiveFrame .b c;
    (u.oc.latchedAt = some n) ∧
    (u.pstate 0x0A = 3) ∧
    (u.oc.commitGot = false) ∧
    ((u.cle .a).receipt = some true) ∧
    ((u.cle .a).sent.cycle = n) ∧
    (r.2 = true)) ∧
  (let t : Nat := 1000000000000000
    let n : Nat := 5
    let c : Copies := ⟨.good, .good⟩
    let s : State := (ready.setPstate 0x0A 3).putOc { ready.oc with commitGot := true, commitN := some 5 }
    let u := s.start t
    let r := (u.sendFrame .b 5 [2, n]).receiveFrame .a c;
    (u.pstate 0x0A = 3) ∧
    (u.oc.commitGot = true) ∧
    (u.oc.consentGot = false) ∧
    (u.oc.commitN = some n) ∧
    (r.2 = true)) ∧
  (let t : Nat := 1000000000000000
    let n : Nat := 5
    let s : State := (ready.setPstate 0x0A 3).putOc { ready.oc with consentGot := true, commitN := some 5 }
    let u := s.start t;
    (u.pstate 0x0A = 3) ∧
    (u.oc.consentGot = true) ∧
    (u.oc.confirmSent = false) ∧
    (u.oc.commitN = some n)) := by
  refine ⟨?_, ?_, ?_, ?_, ?_, ?_, ?_, ?_, ?_, ?_, ?_⟩ <;> decide +kernel

theorem witness_AvenuesAndCornersComplete :
  (let t : Nat := 1000000000000000
    let a : Fin 64 := 0
    let x : Int := 0
    let s : State := ((ready.setFld 0x0C Av.AV_SRC_KIND 1).setFld 0x0C Av.AV_STATE_STATE 1).setFld 0x10 Ax.FB_STATUS_STATE 3
    let u := s.start t;
    (u.avState a ≠ 0) ∧
    (u.avSource a = .value x)) ∧
  (let t : Nat := 1000000000000000
    let a : Fin 64 := 0
    let s : State := (ready.setFld 0x0C Av.AV_SRC_KIND 5).setFld 0x0C Av.AV_STATE_STATE 1
    let u := s.start t;
    (u.avState a ≠ 0) ∧
    (u.avSource a = .nothing)) ∧
  (let t : Nat := 1000000000000000
    let c : Nat := 1
    let a : Fin 64 := 0
    let s : State := (ready.setFld 0x0C Av.AV_SRC_KIND 1).setFld 0x0C Av.AV_STATE_STATE 1
    let u := s.start t;
    (u.avState a ≠ 0) ∧
    (u.avSource a = .cause c)) ∧
  (let t : Nat := 1000000000000000
    let a : Fin 64 := 0
    let s : State := (ready.setFld 0x0C Av.AV_SRC_KIND 6).setFld 0x0C Av.AV_STATE_STATE 1
    let u := s.start t;
    (u.avKind a = 6) ∧
    (u.avSource a = .cause 4)) ∧
  (let t : Nat := 1000000000000000
    let a : Fin 64 := 0
    let s : State := ((ready.setFld 0x0C Av.AV_SRC_KIND 3).setFld 0x0C Av.AV_STATE_STATE 1)
    let u := s.start t;
    (u.avKind a = 3 ∨ u.avKind a = 4) ∧
    (u.avSource a = .cause 3)) ∧
  (let t : Nat := 1000000000000000
    let code : Nat := 4
    let gen : Nat := 1
    let a : Fin 64 := 0
    let value : Word := 0
    let s : State := ready
    let u := s.start t
    let w : WriteReq := ⟨code, gen, 0x0C, 0x600 + 0x20 * a, value⟩;
    u.writeVerdict w = 0) ∧
  (let t : Nat := 1000000000000000
    let code : Nat := 1
    let gen : Nat := 1
    let a : Fin 64 := 0
    let value : Word := 0
    let s : State := ready.setFld 3 Xg.OWN_STATE_OWNER 1 0x10
    let u := s.start t
    let w : WriteReq := ⟨code, gen, 0x0C, 0x618 + 0x20 * a, value⟩;
    (u.writeVerdict w = 0) ∧
    (u.isWriter code a = true)) ∧
  (let t : Nat := 1000000000000000
    let code : Nat := 1
    let gen : Nat := 1
    let a : Fin 64 := 0
    let value : Word := 0
    let s : State := ready
    let u := s.start t
    let w : WriteReq := ⟨code, gen, 0x0C, 0x61C + 0x20 * a, value⟩;
    (u.writeVerdict w = 0) ∧
    (u.isWriter code a = true)) ∧
  (let t : Nat := 1000000000000000
    let code : Nat := 1
    let gen : Nat := 1
    let c : Fin 64 := 0
    let ctrl : Bool := true
    let value : Word := 0
    let s : State := ready
    let u := s.start t
    let w : WriteReq := ⟨code, gen, 0x0D, 0x400 + 0x20 * c + (if ctrl then 4 else 0), value⟩
    let a := bitsOf (u.reg 0x0D Cn.WIN_SEL_AVENUE.off (code % 8)) 5 0;
    (u.writeVerdict w = 0) ∧
    (u.isWriter code a = true)) ∧
  (let t : Nat := 1000000000000000
    let q : Req := ⟨1, 1, 0x0D, 0, 0⟩
    let s : State := ((ready.setFld 0x0C Av.AV_SRC_KIND 6).setReg 0x0D 0x34 0x40 1)
    let u := s.start t;
    u.verdict q cmdCornerSet = 0) ∧
  (let t : Nat := 1000000000000000
    let q : Req := ⟨1, 1, 0x0D, 0, 0⟩
    let s : State := ready
    let u := s.start t;
    u.verdict q cmdCornerClear = 0) ∧
  (let t : Nat := 1000000000000000
    let q : Req := ⟨4, 1, 0x0C, 0, 0⟩
    let s : State := ready
    let u := s.start t;
    u.verdict q cmdAvenueClear = 0) := by
  refine ⟨?_, ?_, ?_, ?_, ?_, ?_, ?_, ?_, ?_, ?_, ?_, ?_⟩ <;> decide +kernel

theorem witness_MotionCommandsComplete :
  (let t : Nat := 1000000000000000
    let r : Nat := 1
    let q : Req := ⟨4, 1, 0x10, 0, 0⟩
    let s : State := ((((ready.setPstate 0x10 3).setFld 0x10 Ax.MOT_STATUS_STATE 2)).setFld 0x10 Ax.MOT_STATUS_REF_VALID 1).setFld 0x10 Ax.SET_ACC_CLASS 0
    let v : State := ((s.start t).present 0x10 ((s.start t).motionOf ⟨4, 1, 0x10, 0, 0⟩ 1 0 0)).1
    let u := s.start t
    let p := q.page;
    (pageKind p = .axis) ∧
    ((r = RC.accepted ∨ r = RC.delayed)) ∧
    (bitAt (u.arg1 q) 8 = false) ∧
    (u.verdict q (cmdMove p 1) = 0) ∧
    (u.present p (u.motionOf q 1 (u.arg0 q) (u.arg1 q)) = (v, r))) ∧
  (let t : Nat := 1000000000000000
    let q : Req := ⟨4, 1, 0x10, 0, 0⟩
    let s : State := (((((ready.setPstate 0x10 3).setFld 0x10 Ax.MOT_STATUS_STATE 2)).setFld 0x10 Ax.MOT_STATUS_REF_VALID 1).setReg 0x10 0x38 0x100 4).setFld 0x10 Ax.GROUP_CFG_MEMBER 1
    let u := s.start t
    let p := q.page;
    (pageKind p = .axis) ∧
    (bitAt (u.arg1 q) 8 = true) ∧
    (u.verdict q (cmdMove p 1) = 0)) ∧
  (let t : Nat := 1000000000000000
    let q : Req := ⟨4, 1, 0x10, 0, 0⟩
    let s : State := (ready.setPstate 0x10 3).setFld 0x10 Ax.MOT_STATUS_STATE 7
    let u := s.start t
    let p := q.page;
    (pageKind p = .axis) ∧
    (u.verdict q (cmdStop p) = 0)) ∧
  (let t : Nat := 1000000000000000
    let q : Req := ⟨4, 1, 0x10, 0, 0⟩
    let s : State := (ready.setPstate 0x10 3).setFld 0x10 Ax.MOT_STATUS_STATE 7
    let u := s.start t
    let p := q.page;
    (pageKind p = .axis) ∧
    (u.verdict q (cmdQuickStop p) = 0)) ∧
  (let t : Nat := 1000000000000000
    let q : Req := ⟨4, 1, 0x10, 0, 0⟩
    let s : State := ((ready.setPstate 0x10 3).setFld 0x10 Ax.MOT_STATUS_STATE 3).setFld 0x10 Ax.GROUP_CFG_MEMBER 1
    let u := s.start t
    let p := q.page;
    (pageKind p = .axis) ∧
    (u.verdict q cmdGroupGo = 0)) ∧
  (let t : Nat := 1000000000000000
    let q : Req := ⟨4, 1, 0x10, 0, 0⟩
    let s : State := (ready.setPstate 0x10 3).setFld 0x10 Ax.MOT_STATUS_STATE 3
    let u := s.start t
    let p := q.page;
    (pageKind p = .axis) ∧
    (u.verdict q (cmdDisarm p) = 0)) ∧
  (let t : Nat := 1000000000000000
    let q : Req := ⟨4, 1, 0x10, 0, 0⟩
    let s : State := (ready.setPstate 0x10 3).setFld 0x10 Ax.MOT_STATUS_STATE 2
    let u := s.start t
    let p := q.page;
    (pageKind p = .axis) ∧
    (u.verdict q (cmdRelease p) = 0)) ∧
  (let t : Nat := 1000000000000000
    let q : Req := ⟨4, 1, 0x10, 0, 0⟩
    let s : State := (ready.setPstate 0x10 3).setFld 0x10 Ax.MOT_STATUS_STATE 1
    let u := s.start t
    let p := q.page;
    (pageKind p = .axis) ∧
    (u.verdict q (cmdEngage p) = 0)) ∧
  (let t : Nat := 1000000000000000
    let q : Req := ⟨4, 1, 0x10, 0, 0⟩
    let s : State := (ready.setPstate 0x10 3).setFld 0x10 Ax.MOT_STATUS_STATE 2
    let u := s.start t
    let p := q.page;
    (pageKind p = .axis) ∧
    (u.verdict q (cmdSetPosition p) = 0)) ∧
  (let t : Nat := 1000000000000000
    let q : Req := ⟨4, 1, 0x10, 0, 0⟩
    let s : State := ((ready.setPstate 0x10 3).setFld 0x10 Ax.MOT_STATUS_STATE 2).setFld 0x10 Ax.HOME_CFG_METHOD 5 |>.setFld 0x10 Ax.FB_STATUS_DETECTED 1 |>.setFld 0x10 Ax.HOME_CFG_CLASS 0
    let v : State := ((s.start t).present q.page { opc := 0x10, code := some q.code, tag := q.tag, cls := (s.start t).fld q.page Ax.HOME_CFG_CLASS }).1
    let r : Nat := ((s.start t).present q.page { opc := 0x10, code := some q.code, tag := q.tag, cls := (s.start t).fld q.page Ax.HOME_CFG_CLASS }).2
    let u := s.start t
    let p := q.page;
    (pageKind p = .axis) ∧
    (u.verdict q (cmdHome p) = 0) ∧
    (u.fld p Ax.HOME_CFG_METHOD ≠ 9) ∧
    ((r = RC.accepted ∨ r = RC.delayed)) ∧
    (u.present p { opc := 0x10, code := some q.code, tag := q.tag, cls := u.fld p Ax.HOME_CFG_CLASS } = (v, r))) ∧
  (let t : Nat := 1000000000000000
    let q : Req := ⟨4, 1, 0x10, 0, 0⟩
    let s : State := ((ready.setPstate 0x10 3).setFld 0x10 Ax.MOT_STATUS_STATE 2).setFld 0x10 Ax.HOME_CFG_METHOD 9
    let u := s.start t
    let p := q.page;
    (pageKind p = .axis) ∧
    (u.verdict q (cmdHome p) = 0) ∧
    (u.fld p Ax.HOME_CFG_METHOD = 9)) := by
  refine ⟨?_, ?_, ?_, ?_, ?_, ?_, ?_, ?_, ?_, ?_, ?_⟩ <;> decide +kernel

theorem witness_MotionEventsComplete :
  (let t : Nat := 1000000000000000
    let g : Fin 8 := 0
    let s : State := ready.putLines [0]
    let u := s.start t
    let v := u.putLines (u.lines.filter (· != g.val))
    let ms := (List.range' 0x10 32).filter fun p => v.armedIn g p;
    (u.lines.contains g.val = true) ∧
    ((ms.all fun p => v.driveEnabled p) = true)) ∧
  (let t : Nat := 1000000000000000
    let x : Nat := 0
    let a : Fin 32 := 0
    let s : State := onAxis ((ready.setPstate 0x10 3).setFld 0x10 Ax.MOT_STATUS_STATE 7) fun x => { x with inpos := some 0 }
    let u := s.start t
    let p := axisPage a;
    ((u.axis p).inpos = some x) ∧
    (x + u.fld p Ax.INPOS_TIME_MS * 1000000 ≤ u.now) ∧
    (u.mstate p = 7)) ∧
  (let t : Nat := 1000000000000000
    let a : Fin 32 := 0
    let m : Motion := { opc := 1, code := none }
    let s : State := onAxis ((ready.setPstate 0x10 3).setFld 0x10 Ax.MOT_STATUS_STATE 5) fun x => { x with mot := some { opc := 1, code := none } }
    let u := s.start t
    let p := axisPage a;
    ((u.axis p).mot = some m) ∧
    (u.mstate p = 5) ∧
    ((u.axis p).measureAt + 2000000 ≤ u.now)) ∧
  (let t : Nat := 1000000000000000
    let a : Fin 32 := 0
    let s : State := (ready.setPstate 0x10 3).setFld 0x10 Ax.MOT_STATUS_STATE 10
    let u := s.start t
    let p := axisPage a;
    (u.mstate p = 10) ∧
    ((u.axis p).pushAt + u.fld p Ax.PUSH_CFG_PUSH_MS * 1000000 ≤ u.now)) ∧
  (let t : Nat := 1000000000000000
    let code : Nat := 4
    let gen : Nat := 1
    let a : Fin 32 := 0
    let pos : Bool := true
    let value : Word := 0
    let s : State := ready
    let u := s.start t
    let p := axisPage a
    let w : WriteReq := ⟨code, gen, p, if pos then 0x108 else 0x104, value⟩;
    u.writeVerdict w = 0) ∧
  (let t : Nat := 1000000000000000
    let x : Nat := 0
    let a : Fin 32 := 0
    let s : State := onAxis ready fun x => { x with home := { x.home with chatterEnd := some 0 } }
    let u := s.start t
    let p := axisPage a;
    ((u.axis p).home.chatterEnd = some x) ∧
    (x ≤ u.now)) ∧
  (let t : Nat := 1000000000000000
    let x : Nat := 0
    let a : Fin 32 := 0
    let s : State := (onAxis ((ready.setPstate 0x10 3).setFld 0x10 Ax.MOT_STATUS_STATE 11) fun x => { x with home := { x.home with dwellAt := some 0 } }).setFld 0x10 Ax.HOME_STATUS_PHASE 4
    let u := s.start t
    let p := axisPage a;
    ((u.axis p).home.dwellAt = some x) ∧
    (u.mstate p = 11) ∧
    (u.fld p Ax.HOME_STATUS_PHASE = 4) ∧
    (x + u.fld p Ax.HARD_STOP_DWELL_MS * 1000000 ≤ u.now)) ∧
  (let t : Nat := 1000000000000000
    let a : Fin 32 := 0
    let s : State := (ready.setPstate 0x10 3).setFld 0x10 Ax.MOT_STATUS_STATE 11
    let u := s.start t
    let p := axisPage a;
    (u.mstate p = 11) ∧
    ((u.axis p).home.startAt + u.fld p Ax.HOME_LIMITS_TIMEOUT_S * 1000000000 ≤ u.now)) := by
  refine ⟨?_, ?_, ?_, ?_, ?_, ?_, ?_, ?_⟩ <;> decide +kernel

theorem witness_DriveRowsComplete :
  (let t : Nat := 1000000000000000
    let q : Req := ⟨4, 1, 0x10, 0, 0⟩
    let s : State := (ready.setPstate 0x10 1).setFld 0x0E Ra.BUS_STATUS_STATE 2
    let u := s.start t
    let p := q.page;
    (pageKind p = .axis) ∧
    (u.verdict q (cmdEnable p) = 0)) ∧
  (let t : Nat := 1000000000000000
    let a : Fin 32 := 0
    let s : State := ready.setPstate 0x10 2
    let u := s.start t
    let p := axisPage a;
    (u.pstate p = 2) ∧
    ((u.axis p).testAt + 10000000 ≤ u.now)) ∧
  (let t : Nat := 1000000000000000
    let q : Req := ⟨4, 1, 0x10, 0, 0⟩
    let s : State := ready.setPstate 0x10 3
    let u := s.start t
    let p := q.page;
    (pageKind p = .axis) ∧
    (u.verdict q (cmdDisable p) = 0)) ∧
  (let t : Nat := 1000000000000000
    let q : Req := ⟨4, 1, 0x10, 0, 0⟩
    let s : State := ready.setPstate 0x10 8
    let u := s.start t
    let p := q.page;
    (pageKind p = .axis) ∧
    (u.verdict q (cmdFaultReset p) = 0)) ∧
  (let t : Nat := 1000000000000000
    let r : Nat := 1
    let q : Req := ⟨4, 1, 0x10, 0, 0⟩
    let s : State := ((ready.setPstate 0x10 1).setFld 0x0E Ra.BUS_STATUS_STATE 2).setReg 0x10 0x34 1 4
    let v : State := (((s.start t).modAxis 0x10 fun x => { x with idArg := 1 }).present 0x10 { opc := 0x23, code := some 4, cls := 3 }).1
    let u := s.start t
    let p := q.page;
    (pageKind p = .axis) ∧
    (u.verdict q (cmdIdentify p) = 0) ∧
    ((r = RC.accepted ∨ r = RC.delayed)) ∧
    ((u.modAxis p fun x => { x with idArg := u.arg0 q }).present p { opc := 0x23, code := some q.code, tag := q.tag, cls := 3 } = (v, r))) ∧
  (let t : Nat := 1000000000000000
    let a : Fin 32 := 0
    let s : State := ready.setPstate 0x10 4
    let u := s.start t
    let p := axisPage a;
    u.pstate p = 4) ∧
  (let t : Nat := 1000000000000000
    let a : Fin 32 := 0
    let s : State := ready.setPstate 0x10 3
    let u := s.start t
    let p := axisPage a;
    u.switching p = true) ∧
  (let t : Nat := 1000000000000000
    let a : Fin 32 := 0
    let s : State := ready.setPstate 0x10 3
    let u := s.start t
    let p := axisPage a;
    u.pstate p = 3) ∧
  (let t : Nat := 1000000000000000
    let a : Fin 32 := 0
    let s : State := ready.setPstate 0x10 3
    let u := s.start t
    let p := axisPage a;
    u.pstate p = 3 ∨ u.pstate p = 5) ∧
  (let t : Nat := 1000000000000000
    let a : Fin 32 := 0
    let temp : Int := 1300
    let s : State := ready.setPstate 0x10 3
    let u := s.start t
    let p := axisPage a
    let v := u.setSfld p Ax.STAGE_TEMP (saturateSigned 16 temp);
    (1250 < temp) ∧
    (v.switching p = true)) ∧
  (let t : Nat := 1000000000000000
    let x : Nat := 0
    let a : Fin 32 := 0
    let s : State := onAxis (ready.setPstate 0x10 3) fun x => { x with feSince := some 0 }
    let u := s.start t
    let p := axisPage a;
    ((u.axis p).feSince = some x) ∧
    (u.driveEnabled p = true) ∧
    (u.flag p Ax.DRV_STATUS_LIMITED = false) ∧
    (x + u.fld p Ax.FE_TIME_MS * 1000000 ≤ u.now)) ∧
  (let t : Nat := 1000000000000000
    let a : Fin 32 := 0
    let s : State := (ready.setPstate 0x10 3).setFld 0x10 Ax.DRV_CFG_MOTOR_TYPE 1
    let u := s.start t
    let p := axisPage a;
    (u.driveEnabled p = true) ∧
    (u.angleLost p = true)) := by
  refine ⟨?_, ?_, ?_, ?_, ?_, ?_, ?_, ?_, ?_, ?_, ?_, ?_⟩ <;> decide +kernel

theorem witness_RationRowsComplete :
  (let t : Nat := 1000000000000000
    let mv : Nat := 0
    let b : Fin 2 := 0
    let s : State := ready
    let u := (s.start t).settleHeat b
    let v := u.setBus b { u.bus b with mv := mv };
    (v.fld 0x0E Ra.BR_LOAD_BR_TEMP_PCT b < 100) ∧
    (v.flag 0x0E Ra.BUS_STATUS_CHOPPER_LOCKED b = false)) ∧
  (let t : Nat := 1000000000000000
    let code : Nat := 4
    let gen : Nat := 1
    let b : Fin 2 := 0
    let reg : Fin 5 := 0
    let value : Word := 0
    let s : State := ready
    let u := s.start t
    let w : WriteReq := ⟨code, gen, 0x0E, 0x400 + 0x80 * b + 4 * reg, value⟩;
    u.writeVerdict w = 0) ∧
  (let t : Nat := 1000000000000000
    let q : Req := ⟨4, 1, 0x0E, 0, 0⟩
    let s : State := ready
    let u := s.start t;
    u.verdict q cmdRationClear = 0) := by
  refine ⟨?_, ?_, ?_⟩ <;> decide +kernel

theorem witness_ForceModelRowsComplete :
  (let t : Nat := 1000000000000000
    let q : Req := ⟨4, 1, 0x10, 0, 0⟩
    let s : State := ready
    let u := s.start t
    let p := q.page;
    (u.verdict q (cmdFmTeach p) = 0) ∧
    (u.fld p Ax.OBS_STATUS_MODEL_STATE ≠ 1)) ∧
  (let t : Nat := 1000000000000000
    let q : Req := ⟨4, 1, 0x10, 0, 0⟩
    let s : State := ready.setFld 0x10 Ax.OBS_STATUS_MODEL_STATE 2
    let u := s.start t
    let p := q.page;
    u.verdict q (cmdFmRebase p) = 0) ∧
  (let t : Nat := 1000000000000000
    let q : Req := ⟨4, 1, 0x10, 0, 0⟩
    let s : State := ready
    let u := s.start t
    let p := q.page;
    u.verdict q (cmdFmClear p) = 0) ∧
  (let t : Nat := 1000000000000000
    let q : Req := ⟨4, 1, 0x10, 0, 0⟩
    let s : State := onAxis (((ready.setPstate 0x60 5).setFld 0x10 Ax.OBS_CFG_CLOSE_DIR 2).setFld 0x10 Ax.MOT_STATUS_STATE 10) fun x => { x with pushDir := 1 }
    let u := s.start t
    let p := q.page;
    u.verdict q (cmdObsInject p) = 0) ∧
  (let t : Nat := 1000000000000000
    let code : Nat := 4
    let gen : Nat := 1
    let a : Fin 32 := 0
    let j : Fin 128 := 0
    let mass : Bool := true
    let value : Word := 0
    let s : State := ready
    let u := s.start t
    let p := axisPage a
    let w : WriteReq := ⟨code, gen, p, 0x600 + 0x10 * j + (if mass then 8 else 0), value⟩;
    (u.writeVerdict w = 0) ∧
    (u.mapOpen p = true)) ∧
  (let t : Nat := 1000000000000000
    let code : Nat := 4
    let gen : Nat := 1
    let a : Fin 32 := 0
    let value : Word := 0
    let s : State := ready
    let u := s.start t
    let p := axisPage a
    let w : WriteReq := ⟨code, gen, p, Ax.OBS_THRESH.off, value⟩;
    u.writeVerdict w = 0) := by
  refine ⟨?_, ?_, ?_, ?_, ?_, ?_⟩ <;> decide +kernel

theorem witness_EdgesAndBeamsComplete :
  (let t : Nat := 1000000000000000
    let k : Fin 32 := 0
    let s : State := ((((ready.setPstate 0x54 1).setFld 0x54 Eg.EDGE_CFG_ENA 1).setFld 0x54 Eg.EDGE_STATUS_STATE 1).setEdgeRec 0 { (ready.edge 0) with band := 0 })
    let u := s.start t;
    (u.edgeOn k = true) ∧
    (u.edgeState k = 0 ∨ u.edgeState k = 1) ∧
    ((u.edge k).band = 0) ∧
    (u.edgeFilt k ≤ u.bandTime k)) ∧
  (let t : Nat := 1000000000000000
    let k : Fin 32 := 0
    let s : State := ((((ready.setPstate 0x54 1).setFld 0x54 Eg.EDGE_CFG_ENA 1).setFld 0x54 Eg.EDGE_STATUS_STATE 2).setEdgeRec 0 { (ready.edge 0) with band := 1 })
    let u := s.start t;
    (u.edgeOn k = true) ∧
    (u.edgeState k = 2) ∧
    ((u.edge k).band = 1) ∧
    (u.fld (edgePage k) Eg.EDGE_CFG_TYPE (k % 16) ≠ 2) ∧
    (u.fld (edgePage k) Eg.EDGE_TIMING_RELEASE_MS (k % 16) * 1000000 ≤ u.bandTime k)) ∧
  (let t : Nat := 1000000000000000
    let x : Nat := 0
    let k : Fin 32 := 0
    let s : State := ((((ready.setPstate 0x54 1).setFld 0x54 Eg.EDGE_CFG_ENA 1).setFld 0x54 Eg.EDGE_STATUS_STATE 1).setEdgeRec 0 { (ready.edge 0) with badSince := some 0 })
    let u := s.start t;
    ((u.edge k).badSince = some x) ∧
    (u.edgeOn k = true) ∧
    (u.edgeState k ≠ 3) ∧
    (x + 10000000 ≤ u.now)) ∧
  (let t : Nat := 1000000000000000
    let k : Fin 32 := 0
    let s : State := ((((ready.setPstate 0x54 1).setFld 0x54 Eg.EDGE_CFG_ENA 1).setFld 0x54 Eg.EDGE_STATUS_STATE 3).setEdgeRec 0 { (ready.edge 0) with band := 1 })
    let u := s.start t;
    (u.edgeState k = 3) ∧
    ((u.edge k).band = 1) ∧
    (100000000 ≤ u.bandTime k)) ∧
  (let t : Nat := 1000000000000000
    let code : Nat := 4
    let gen : Nat := 1
    let k : Fin 32 := 0
    let value : Word := 0
    let s : State := ready
    let u := s.start t
    let w : WriteReq := ⟨code, gen, edgePage k, Eg.EDGE_CFG_ENA.pos (k % 16), value⟩;
    u.writeVerdict w = 0) ∧
  (let t : Nat := 1000000000000000
    let q : Req := ⟨4, 1, 0x54, 0, 0⟩
    let s : State := ready
    let u := s.start t;
    u.verdict q (cmdEdgeClear q.page) = 0) ∧
  (let t : Nat := 1000000000000000
    let g : Fin 4 := 0
    let s : State := ready.setPstate 0x50 1
    let u := s.start t;
    u.pstate (0x50 + g) = 1) ∧
  (let t : Nat := 1000000000000000
    let k : Fin 32 := 0
    let s : State := (ready.setFld 0x50 Bm.BEAM_STATUS_STATE 3).setFld 0x50 Bm.BEAM_FLOOD_FB_ENA 1
    let u := s.start t
    let p := beamPage k
    let i := k.val % 8;
    (u.beamState k = 3) ∧
    (u.flag p Bm.BEAM_FLOOD_FB_ENA i = true) ∧
    (u.flag p Bm.BEAM_STATUS_FALLBACK i = false) ∧
    (u.fld p Bm.BEAM_FLOOD_FB_TIME i * 100000000 ≤ u.now - (u.beam k).floodAt)) ∧
  (let t : Nat := 1000000000000000
    let code : Nat := 4
    let gen : Nat := 1
    let k : Fin 32 := 0
    let value : Word := 0
    let s : State := ready
    let u := s.start t
    let w : WriteReq := ⟨code, gen, beamPage k, Bm.BEAM_CFG_ENA.pos (k % 8), value⟩;
    u.writeVerdict w = 0) ∧
  (let t : Nat := 1000000000000000
    let q : Req := ⟨4, 1, 0x50, 0, 0⟩
    let s : State := (ready.setFld 0x50 Bm.BEAM_STATUS_STATE 1).setReg 0x50 0x34 1 4
    let u := s.start t;
    u.verdict q (cmdBeamDark q.page) = 0) ∧
  (let t : Nat := 1000000000000000
    let q : Req := ⟨4, 1, 0x50, 0, 0⟩
    let s : State := ready
    let u := s.start t
    let p := q.page;
    u.verdict q (cmdBeamClear p) = 0) := by
  refine ⟨?_, ?_, ?_, ?_, ?_, ?_, ?_, ?_, ?_, ?_, ?_⟩ <;> decide +kernel

theorem witness_FeedbackRowsComplete :
  (let t : Nat := 1000000000000000
    let q : Req := ⟨4, 1, 0x10, 0, 0⟩
    let s : State := ready.setFld 0x10 Ax.FB_CFG_ENA 1
    let u := s.start t;
    u.verdict q (cmdFbProbe q.page) = 0) ∧
  (let t : Nat := 1000000000000000
    let a : Fin 32 := 0
    let r : ProbeFound := ⟨none, false, false, none, 0, 0, false, false, 0⟩
    let s : State := ((ready.setFld 0x10 Ax.FB_STATUS_STATE 1).setFld 0x10 Ax.FB_STATUS_DETECTED 0)
    let u := s.start t
    let p := axisPage a;
    (u.fbState p = 1) ∧
    ((u.axis p).fb.since + 60000000 ≤ u.now) ∧
    (foundType r < 3)) ∧
  (let t : Nat := 1000000000000000
    let a : Fin 32 := 0
    let s : State := ((ready.setFld 0x10 Ax.FB_STATUS_STATE 2).setFld 0x10 Ax.FB_STATUS_DETECTED 0).setFld 0x10 Ax.FB_CFG_ENA 1
    let u := s.start t
    let p := axisPage a;
    (u.fbState p = 2) ∧
    (u.flag p Ax.FB_CFG_ENA = true) ∧
    ((u.axis p).fb.since + 1000000000 ≤ u.now)) ∧
  (let t : Nat := 1000000000000000
    let a : Fin 32 := 0
    let s : State := ((ready.setFld 0x10 Ax.FB_STATUS_STATE 4).setFld 0x10 Ax.FB_STATUS_DETECTED 0).setFld 0x10 Ax.FB_STATUS_CAUSE 1
    let u := s.start t
    let p := axisPage a;
    (u.fbState p = 4) ∧
    (u.fld p Ax.FB_STATUS_CAUSE ∈ [1, 3, 4, 9]) ∧
    ((u.axis p).fb.since + 1000000000 ≤ u.now)) ∧
  (let t : Nat := 1000000000000000
    let x : Nat := 0
    let a : Fin 32 := 0
    let s : State := onAxis (((ready.setFld 0x10 Ax.FB_STATUS_STATE 3).setFld 0x10 Ax.FB_STATUS_DETECTED 3)) fun x => { x with fb := { x.fb with framing := some 0 } }
    let u := s.start t
    let p := axisPage a;
    (u.serial p = true) ∧
    ((u.axis p).fb.framing = some x) ∧
    (u.fbState p = 3 ∨ u.fbState p = 4)) ∧
  (let t : Nat := 1000000000000000
    let a : Fin 32 := 0
    let s : State := ((ready.setFld 0x10 Ax.FB_STATUS_STATE 3).setFld 0x10 Ax.FB_STATUS_DETECTED 3)
    let u := s.start t
    let p := axisPage a;
    (u.serial p = true) ∧
    (u.fbState p = 3 ∨ u.fbState p = 4)) ∧
  (let t : Nat := 1000000000000000
    let a : Fin 32 := 0
    let s : State := ((ready.setFld 0x10 Ax.FB_STATUS_STATE 3).setFld 0x10 Ax.FB_STATUS_DETECTED 1)
    let u := s.start t
    let p := axisPage a;
    (u.fld p Ax.FB_STATUS_DETECTED = 1) ∧
    (u.fbCounts p = true)) ∧
  (let t : Nat := 1000000000000000
    let a : Fin 32 := 0
    let s : State := ((ready.setFld 0x10 Ax.FB_STATUS_STATE 3).setFld 0x10 Ax.FB_STATUS_DETECTED 1).setFld 0x10 Ax.FB_STATUS_COMM_VALID 1
    let u := s.start t
    let p := axisPage a
    let v := (u.setSfld p Ax.INDEX_POS (u.position p)).bump p Ax.INDEX_COUNT;
    (u.fld p Ax.FB_STATUS_DETECTED = 1) ∧
    (u.fbCounts p = true) ∧
    (u.flag p Ax.INC_CFG_INDEX_GATE = false) ∧
    (v.flag p Ax.FB_STATUS_COMM_VALID = true) ∧
    (v.mstate p ≠ 11)) ∧
  (let t : Nat := 1000000000000000
    let a : Fin 32 := 0
    let s : State := ((ready.setFld 0x10 Ax.FB_STATUS_STATE 3).setFld 0x10 Ax.FB_STATUS_DETECTED 1)
    let u := s.start t
    let p := axisPage a;
    (u.fld p Ax.FB_STATUS_DETECTED = 1) ∧
    (u.fbCounts p = true)) ∧
  (let t : Nat := 1000000000000000
    let a : Fin 32 := 0
    let s : State := ((ready.setFld 0x10 Ax.FB_STATUS_STATE 4).setFld 0x10 Ax.FB_STATUS_DETECTED 0).setFld 0x10 Ax.FB_STATUS_CAUSE 1
    let u := s.start t
    let p := axisPage a;
    (u.fbState p = 4) ∧
    (1 ≤ u.fld p Ax.FB_STATUS_CAUSE) ∧
    (u.fld p Ax.FB_STATUS_CAUSE ≤ 3) ∧
    ((u.axis p).fb.seen + 100000000 ≤ u.now)) ∧
  (let t : Nat := 1000000000000000
    let a : Fin 32 := 0
    let s : State := onAxis (((ready.setFld 0x10 Ax.FB_STATUS_STATE 3).setFld 0x10 Ax.FB_STATUS_DETECTED 1)) fun x => { x with fb := { x.fb with supply := 1 } }
    let u := s.start t
    let p := axisPage a;
    (u.axis p).fb.supply ≠ 0) ∧
  (let t : Nat := 1000000000000000
    let code : Nat := 4
    let gen : Nat := 1
    let a : Fin 32 := 0
    let reg : Fin 7 := 0
    let value : Word := 0
    let s : State := ready
    let u := s.start t
    let p := axisPage a
    let w : WriteReq := ⟨code, gen, p, 0x300 + 4 * reg, value⟩;
    (u.writeVerdict w = 0) ∧
    (u.fbHeld p = false)) ∧
  (let t : Nat := 1000000000000000
    let q : Req := ⟨4, 1, 0x10, 0, 0⟩
    let s : State := ready
    let u := s.start t;
    u.verdict q (cmdFbClear q.page) = 0) := by
  refine ⟨?_, ?_, ?_, ?_, ?_, ?_, ?_, ?_, ?_, ?_, ?_, ?_, ?_⟩ <;> decide +kernel

theorem witness_FieldIoRowsComplete :
  (let t : Nat := 1000000000000000
    let b : Fin 16 := 0
    let n : Fin 2 := 0
    let s : State := ready
    let r : FeBurst := ⟨0, linkCrc (((s.start t).feMeasure (0x30 + b.val) n ⟨0, 0, [], [], 0, 0⟩).feBytes (0x30 + b.val) n ⟨0, 0, [], [], 0, 0⟩), [], [], 0, 0⟩
    let p := 0x30 + b.val
    let u := (s.start t).feMeasure p n r
    let x := u.burst p n;
    (r.crc = linkCrc (u.feBytes p n r)) ∧
    (x.seq.all (fun e => r.seq % 256 == (e + 1) % 256) = true)) ∧
  (let t : Nat := 1000000000000000
    let seq : Nat := 0
    let index : Nat := 0
    let word : Nat := 0
    let b : Fin 16 := 0
    let n : Fin 2 := 0
    let s : State := ready
    let crc : Nat := linkCrc ((s.start t).stageBytes (0x30 + b.val) n seq index word)
    let u := s.start t
    let p := 0x30 + b.val
    let x := u.burst p n;
    (crc = linkCrc (u.stageBytes p n seq index word)) ∧
    (x.feSeq.all (fun e => seq % 256 == (e + 1) % 256) = true)) ∧
  (let t : Nat := 1000000000000000
    let b : Fin 16 := 0
    let s : State := ready
    let u := s.start t
    let p := 0x30 + b.val;
    ((u.bank p).feGoodAt + 250000 ≤ u.now) ∧
    ((u.bank p).feSilent = false)) ∧
  (let t : Nat := 1000000000000000
    let b : Fin 16 := 0
    let k : Fin 16 := 0
    let runs : List SampleRun := []
    let s : State := (ready.setCh 0x30 0 { ready.ch 0x30 0 with mode := 2, cls := 3, badUs := 10 ^ 9 })
    let p := 0x30 + b.val
    let u := (s.start t).sampleRuns p k runs;
    ((u.ch p k).mode = 2) ∧
    (3 ≤ (u.ch p k).cls) ∧
    (u.fld p Bk.WB_MS * 1000 ≤ (u.ch p k).badUs)) ∧
  (let t : Nat := 1000000000000000
    let b : Fin 16 := 0
    let k : Fin 16 := 0
    let runs : List SampleRun := []
    let s : State := (ready.setCh 0x30 0 { ready.ch 0x30 0 with mode := 2, fault := 2, goodUs := 20000 })
    let p := 0x30 + b.val
    let u := (s.start t).sampleRuns p k runs;
    ((u.ch p k).mode = 2) ∧
    (2 ≤ (u.ch p k).fault) ∧
    ((u.ch p k).fault ≤ 4) ∧
    (10000 ≤ (u.ch p k).goodUs)) ∧
  (let t : Nat := 1000000000000000
    let b : Fin 16 := 0
    let k : Fin 16 := 0
    let x : Overload := .limit 1000
    let s : State := (ready.setCh 0x30 0 { ready.ch 0x30 0 with mode := 3, cmd := true })
    let u := s.start t
    let p := 0x30 + b.val;
    (u.isOutput p k = true) ∧
    ((u.ch p k).cmd = true) ∧
    (u.overloaded p k x = true)) ∧
  (let t : Nat := 1000000000000000
    let ma : Nat := 0
    let b : Fin 16 := 0
    let k : Fin 16 := 0
    let s : State := (ready.setCh 0x30 0 { ready.ch 0x30 0 with mode := 3, cmd := true }).setFld 0x30 Bk.OUT_OPEN_OPEN_MA 10
    let u := s.start t
    let p := 0x30 + b.val;
    (u.isOutput p k = true) ∧
    ((u.ch p k).cmd = true) ∧
    (ma < u.fld p Bk.OUT_OPEN_OPEN_MA)) ∧
  (let t : Nat := 1000000000000000
    let temp : Nat := 170
    let b : Fin 16 := 0
    let k : Fin 16 := 0
    let s : State := (ready.setCh 0x30 0 { ready.ch 0x30 0 with mode := 3 })
    let u := s.start t
    let p := 0x30 + b.val
    let v := u.setCh p k { u.ch p k with temp := temp };
    (v.isOutput p k = true) ∧
    (165 < temp)) ∧
  (let t : Nat := 1000000000000000
    let k : Nat := 0
    let b : Fin 16 := 0
    let cur : List Nat := [5000]
    let s : State := (ready.setCh 0x30 0 { ready.ch 0x30 0 with mode := 3, cmd := true })
    let p := 0x30 + b.val
    let v := ((List.range 16).zip cur).foldl (fun v x => v.setCh p x.1 { v.ch p x.1 with cur := x.2 }) (s.start t);
    (v.highest p 16 = some k) ∧
    (4000 < v.bankCurrent p)) ∧
  (let t : Nat := 1000000000000000
    let b : Fin 16 := 0
    let k : Fin 16 := 0
    let s : State := (ready.setCh 0x30 0 { ready.ch 0x30 0 with mode := 3, state := true })
    let u := s.start t
    let p := 0x30 + b.val
    let c := u.ch p k;
    (c.mode = 3) ∧
    (c.cmd = false) ∧
    (c.state = true) ∧
    (c.diffAt + 10000000 ≤ u.now)) ∧
  (let t : Nat := 1000000000000000
    let temp : Nat := 0
    let b : Fin 16 := 0
    let k : Fin 16 := 0
    let s : State := (ready.setCh 0x30 0 { ready.ch 0x30 0 with bit := true }).setFld 0x30 Bk.OUT_PROT_RETRY_MS 5
    let u := s.start t
    let p := 0x30 + b.val
    let v := u.setCh p k { u.ch p k with temp := temp }
    let ms := v.fld p Bk.OUT_PROT_RETRY_MS;
    (ms ≠ 0) ∧
    ((v.ch p k).bit = true) ∧
    ((v.ch p k).offAt + ms * 1000000 ≤ v.now)) ∧
  (let t : Nat := 1000000000000000
    let code : Nat := 4
    let gen : Nat := 1
    let b : Fin 16 := 0
    let value : Word := 0
    let s : State := ready
    let u := s.start t
    let p := 0x30 + b.val
    let w : WriteReq := ⟨code, gen, p, Bk.OUT_SET.off, value⟩;
    u.writeVerdict w = 0) ∧
  (let t : Nat := 1000000000000000
    let x : Nat := 0
    let b : Fin 16 := 0
    let k : Fin 16 := 0
    let s : State := (ready.setCh 0x30 0 { ready.ch 0x30 0 with pulseEnd := some 0 })
    let u := s.start t
    let p := 0x30 + b.val;
    ((u.ch p k).pulseEnd = some x) ∧
    (x ≤ u.now)) ∧
  (let t : Nat := 1000000000000000
    let x : Nat := 0
    let b : Fin 16 := 0
    let s : State := (ready.setPstate 0x30 1).modBank 0x30 fun b => { b with ownerAt := some 0 }
    let u := s.start t
    let p := 0x30 + b.val
    let v := u.setFld p Bk.SAFE_STATUS_LOGIC_SILENT 1;
    ((u.bank p).ownerAt = some x) ∧
    (x + u.fld p Bk.LS_TIMEOUT * 1000 ≤ u.now) ∧
    (v.pstate p = 1)) ∧
  (let t : Nat := 1000000000000000
    let code : Nat := 4
    let gen : Nat := 1
    let b : Fin 16 := 0
    let k : Fin 16 := 0
    let value : Word := 0
    let s : State := ready
    let u := s.start t
    let p := 0x30 + b.val
    let w : WriteReq := ⟨code, gen, p, Bk.CH_CFG_MODE.pos k, value⟩;
    u.writeVerdict w = 0) ∧
  (let t : Nat := 1000000000000000
    let q : Req := ⟨4, 1, 0x30, 0, 0⟩
    let s : State := (ready.setCh 0x30 0 { ready.ch 0x30 0 with fault := 5, mode := 3 })
    let u := s.start t;
    u.verdict q (cmdFieldFaultClear q.page) = 0) ∧
  (let t : Nat := 1000000000000000
    let q : Req := ⟨4, 1, 0x30, 0, 0⟩
    let s : State := ready
    let u := s.start t;
    u.verdict q (cmdFieldCountersClear q.page) = 0) := by
  refine ⟨?_, ?_, ?_, ?_, ?_, ?_, ?_, ?_, ?_, ?_, ?_, ?_, ?_, ?_, ?_, ?_, ?_⟩ <;> decide +kernel

theorem witness_LoadSwitchRowsComplete :
  (let t : Nat := 1000000000000000
    let code : Nat := 4
    let gen : Nat := 1
    let g : Fin 8 := 0
    let value : Word := 0
    let s : State := ready
    let u := s.start t
    let p := 0x40 + g.val
    let w : WriteReq := ⟨code, gen, p, Ls.LS_CMD_0.off, value⟩;
    u.writeVerdict w = 0) ∧
  (let t : Nat := 1000000000000000
    let code : Nat := 4
    let gen : Nat := 1
    let g : Fin 8 := 0
    let k : Fin 8 := 0
    let value : Word := 0
    let s : State := ready
    let p := 0x40 + g.val
    let u := (s.start t).setLs p k ((s.start t).pwmNow p k)
    let w : WriteReq := ⟨code, gen, p, Ls.CH_PWM_DUTY.pos k, value⟩;
    u.writeVerdict w = 0) ∧
  (let t : Nat := 1000000000000000
    let g : Fin 8 := 0
    let k : Fin 8 := 0
    let s : State := (ready.putPower { ready.power with rail := ⟨true, true⟩ }).setLs 0x40 0 { ready.ls 0x40 0 with kerbHold := some true, line := true }
    let p := 0x40 + g.val
    let u := (s.start t).driveLs p k false
    let c := u.ls p k;
    c.line = true) ∧
  (let t : Nat := 1000000000000000
    let g : Fin 8 := 0
    let k : Fin 8 := 0
    let s : State := ready.setLs 0x40 0 { ready.ls 0x40 0 with thermal := true }
    let u := s.start t
    let p := 0x40 + g.val
    let c := u.ls p k;
    (c.thermal = true) ∧
    (c.pending = false)) ∧
  (let t : Nat := 1000000000000000
    let x : Nat := 0
    let g : Fin 8 := 0
    let k : Fin 8 := 0
    let s : State := ready.setLs 0x40 0 { ready.ls 0x40 0 with inrushEnd := some 0 }
    let u := s.start t
    let p := 0x40 + g.val;
    ((u.ls p k).inrushEnd = some x) ∧
    (x ≤ u.now)) ∧
  (let t : Nat := 1000000000000000
    let us : Nat := 0
    let g : Fin 8 := 0
    let k : Fin 8 := 0
    let s : State := ready
    let u := s.start t
    let p := 0x40 + g.val
    let ma := if u.flag p Ls.SENSE_STATUS_FAULT then 10000 else u.fld p Ls.CH_I_I_ON k
    let e := (24 * ma * us + 500000) / 1000000
    let v := u.driveLs p k false
    let c := v.ls p k
    let w := v.setLs p k { c with
     sums := (c.sums.filter fun x => decide (v.now < x.1 + 10000000000)) ++ [(v.now - us * 1000, e)] }
    let x := ((w.setFld p Ls.CH_CLAMP_LAST_MJ (saturate 16 e) k).showSum p k).bump p Ls.SWITCH_OFFS k;
    (24 * ma * us ≤ 150000000) ∧
    (x.fld p Ls.CH_CLAMP_SUM_MJ k < 3000)) ∧
  (let t : Nat := 1000000000000000
    let g : Fin 8 := 0
    let k : Fin 8 := 0
    let s : State := (ready.putPower { ready.power with rail := ⟨true, true⟩ }).setLs 0x40 0 { ready.ls 0x40 0 with kerbHold := some true, line := true }
    let p := 0x40 + g.val
    let u := (s.start t).driveLs p k false
    let c := u.ls p k;
    ((if c.lineAt + 8000 ≤ u.now then c.line else !c.line) = true) ∧
    (k ≠ 7)) ∧
  (let t : Nat := 1000000000000000
    let q : Req := ⟨4, 1, 0x40, 0, 0⟩
    let s : State := ready.setLs 0x40 0 { ready.ls 0x40 0 with latched := true }
    let u := s.start t
    let p := q.page;
    u.verdict q (cmdLsFaultClear p) = 0) ∧
  (let t : Nat := 1000000000000000
    let q : Req := ⟨4, 1, 0x40, 0, 0⟩
    let s : State := ready
    let u := s.start t
    let p := q.page;
    u.verdict q (cmdLsCountersClear p) = 0) := by
  refine ⟨?_, ?_, ?_, ?_, ?_, ?_, ?_, ?_, ?_⟩ <;> decide +kernel

theorem witness_KerbRowsComplete :
  (let t : Nat := 1000000000000000
    let s : State := ready.putPower { ready.power with rail := ⟨true, true⟩ }
    let u := s.start t;
    u.kerbPowered = true) ∧
  (let t : Nat := 1000000000000000
    let k : Fin 8 := 0
    let high : Bool := true
    let s : State := ready.putPower { ready.power with rail := ⟨true, true⟩ }
    let u := s.start t
    let old := u.fld 0x48 Kb.KERB_STATUS_INPUTS;
    (u.kerbPowered = true) ∧
    (bitAt old k ≠ high)) ∧
  (let t : Nat := 1000000000000000
    let d : Nat := 10 ^ 15
    let s : State := { ready with kerb := { ready.kerb with supplyAt := some 0 } }
    let u := s.start t;
    (u.silentFor = some d) ∧
    (u.fld 0x48 Kb.KERB_CFG_TIMEOUT_MS * 1000000 ≤ d) ∧
    (u.flag 0x48 Kb.KERB_STATUS_BY_SILENCE = false)) ∧
  (let t : Nat := 1000000000000000
    let s : State := (ready.setFld 0x48 Kb.KERB_STATUS_BY_SILENCE 1).setRes 0x48 { beatA := { present := true } }
    let u := s.start t
    let long (b : Beat) : Bool := b.present && decide (b.since + 100000000 ≤ u.now);
    (u.flag 0x48 Kb.KERB_STATUS_BY_SILENCE = true) ∧
    ((long (u.resRec 0x48).beatA || long (u.resRec 0x48).beatB) = true)) ∧
  (let t : Nat := 1000000000000000
    let code : Nat := 4
    let gen : Nat := 1
    let i : Fin 8 := 0
    let j : Fin 4 := 0
    let value : Word := 0
    let s : State := ready
    let u := s.start t
    let w : WriteReq := ⟨code, gen, 0x48, 0x400 + 0x40 * i + 4 * j, value⟩;
    (u.writeVerdict w = 0) ∧
    (u.lifeCycle = 1)) ∧
  (let t : Nat := 1000000000000000
    let q : Req := ⟨4, 1, 0x48, 0, 0⟩
    let s : State := ready
    let u := s.start t;
    u.verdict q cmdKerbClear = 0) := by
  refine ⟨?_, ?_, ?_, ?_, ?_, ?_⟩ <;> decide +kernel

theorem witness_LoopRowsComplete :
  (let t : Nat := 1000000000000000
    let g : Fin 4 := 0
    let k : Fin 8 := 0
    let s : State := (ready.setFld 0x4C Lp.LP_STATUS_MODE 1)
    let u := s.start t
    let p := 0x4C + g.val;
    u.loopMode p k = 1) ∧
  (let t : Nat := 1000000000000000
    let g : Fin 4 := 0
    let k : Fin 8 := 0
    let s : State := (ready.setFld 0x4C Lp.LP_STATUS_MODE 2)
    let u := s.start t
    let p := 0x4C + g.val;
    u.loopMode p k = 2) ∧
  (let t : Nat := 1000000000000000
    let g : Fin 4 := 0
    let j : Fin 4 := 0
    let ab : Int := 0
    let bc : Int := 0
    let s : State := (ready.setFld 0x4C Lp.LP_STATUS_MODE 3).setFld 0x4C Lp.LP_STATUS_MODE 3 1
    let u := s.start t
    let p := 0x4C + g.val
    let k := 2 * j.val
    let v := (u.voltSample p k ab).trackCauses p k fun c => c == 6 && decide (10500 < ab.natAbs)
    let w := (v.voltSample p (k + 1) bc).trackCauses p (k + 1) fun c => c == 6 && decide (10500 < bc.natAbs);
    (u.loopMode p k = 3) ∧
    (v.loopMode p (k + 1) = 3) ∧
    (w.loopMode p k = 3) ∧
    (w.loopMode p (k + 1) = 3)) ∧
  (let t : Nat := 1000000000000000
    let c : Nat := 2
    let x : Nat := 0
    let g : Fin 4 := 0
    let k : Fin 8 := 0
    let s : State := ((ready.setFld 0x4C Lp.LP_STATUS_MODE 1).setLoop 0x4C 0 { ready.loop 0x4C 0 with held := [(2, some 0)] })
    let u := s.start t
    let p := 0x4C + g.val;
    (c ∈ [1, 2, 3, 4, 6]) ∧
    ((u.loop p k).held.rd none c = some x) ∧
    (x + u.causeTime p k c ≤ u.now) ∧
    (([1, 2, 3, 4, 6].all fun d => d == c || (u.loop p k).held.rd none d == none) = true)) ∧
  (let t : Nat := 1000000000000000
    let x : Nat := 0
    let g : Fin 4 := 0
    let k : Fin 8 := 0
    let s : State := ((ready.setFld 0x4C Lp.LP_STATUS_MODE 1).setLoop 0x4C 0 { ready.loop 0x4C 0 with gone := some 0 }).setFld 0x4C Lp.LP_STATUS_CAUSE 1
    let u := s.start t
    let p := 0x4C + g.val;
    ((u.loop p k).gone = some x) ∧
    (u.loopCause p k ≠ 0) ∧
    (u.loopCause p k ≠ 5) ∧
    (x + 10000000 ≤ u.now)) ∧
  (let t : Nat := 1000000000000000
    let g : Fin 4 := 0
    let k : Fin 8 := 0
    let temp : Int := 1400
    let s : State := (ready.setFld 0x4C Lp.LP_STATUS_MODE 1)
    let u := s.start t
    let p := 0x4C + g.val;
    (u.loopMode p k ≠ 0) ∧
    (1300 < temp)) ∧
  (let t : Nat := 1000000000000000
    let g : Fin 4 := 0
    let k : Fin 8 := 0
    let temp : Int := 1000
    let s : State := ((ready.setFld 0x4C Lp.LP_STATUS_MODE 1).setLoop 0x4C 0 { ready.loop 0x4C 0 with off := true }).setFld 0x4C Lp.LP_STATUS_CAUSE 5
    let u := s.start t
    let p := 0x4C + g.val
    let v := u.loopThermal p k temp
    let w := (v.setLoop p k { v.loop p k with off := false }).driveLoop p k;
    (u.loopMode p k ≠ 0) ∧
    (temp < 1100) ∧
    ((v.loop p k).off = true) ∧
    (w.loopCause p k = 5)) ∧
  (let t : Nat := 1000000000000000
    let x : Nat := 0
    let g : Fin 4 := 0
    let k : Fin 8 := 0
    let s : State := ((ready.setFld 0x4C Lp.LP_STATUS_MODE 1).setLoop 0x4C 0 { ready.loop 0x4C 0 with okAt := some 0 })
    let u := s.start t
    let p := 0x4C + g.val;
    ((u.loop p k).okAt = some x) ∧
    (u.loopMode p k = 1) ∧
    (u.flag p Lp.LP_STATUS_PRESENT k = false) ∧
    (x + 100000000 ≤ u.now)) ∧
  (let t : Nat := 1000000000000000
    let x : Nat := 0
    let g : Fin 4 := 0
    let k : Fin 8 := 0
    let s : State := ((ready.setFld 0x4C Lp.LP_STATUS_MODE 1).setLoop 0x4C 0 { ready.loop 0x4C 0 with lowAt := some 0 }).setFld 0x4C Lp.LP_STATUS_PRESENT 1
    let u := s.start t
    let p := 0x4C + g.val;
    ((u.loop p k).lowAt = some x) ∧
    (u.loopMode p k = 1) ∧
    (u.flag p Lp.LP_STATUS_PRESENT k = true) ∧
    (x + 1000000000 ≤ u.now)) ∧
  (let t : Nat := 1000000000000000
    let code : Nat := 4
    let gen : Nat := 1
    let g : Fin 4 := 0
    let k : Fin 8 := 0
    let value : Word := 0
    let s : State := ready
    let u := s.start t
    let p := 0x4C + g.val
    let w : WriteReq := ⟨code, gen, p, Lp.OUT_UA.pos k, value⟩;
    u.writeVerdict w = 0) ∧
  (let t : Nat := 1000000000000000
    let code : Nat := 4
    let gen : Nat := 1
    let g : Fin 4 := 0
    let k : Fin 8 := 0
    let value : Word := 0
    let s : State := ready
    let u := s.start t
    let p := 0x4C + g.val
    let w : WriteReq := ⟨code, gen, p, Lp.LP_CFG_MODE.pos k, value⟩;
    u.writeVerdict w = 0) ∧
  (let t : Nat := 1000000000000000
    let q : Req := ⟨4, 1, 0x4C, 0, 0⟩
    let s : State := ready
    let u := s.start t;
    u.verdict q cmdLoopClear = 0) := by
  refine ⟨?_, ?_, ?_, ?_, ?_, ?_, ?_, ?_, ?_, ?_, ?_, ?_⟩ <;> decide +kernel

theorem witness_CanFramesComplete :
  (let t : Nat := 1000000000000000
    let c : Fin 8 := 0
    let s : State := ready.setCanState 0x58 2
    let u := s.start t
    let p := canPage c;
    u.canState p = 2 ∨ u.canState p = 3) ∧
  (let t : Nat := 1000000000000000
    let c : Fin 8 := 0
    let x : Sending := .sync
    let s : State := ready.modCan 0x58 fun c => { c with sending := some .sync }
    let u := s.start t
    let p := canPage c;
    (u.can p).sending = some x) ∧
  (let t : Nat := 1000000000000000
    let c : Fin 8 := 0
    let x : Sending := .sync
    let s : State := ready.modCan 0x58 fun c => { c with sending := some .sync }
    let u := s.start t
    let p := canPage c;
    (u.can p).sending = some x) ∧
  (let t : Nat := 1000000000000000
    let c : Fin 8 := 0
    let s : State := ready.setCanState 0x58 2
    let u := s.start t
    let p := canPage c;
    u.canState p = 2 ∨ u.canState p = 3) := by
  refine ⟨?_, ?_, ?_, ?_⟩ <;> decide +kernel

theorem witness_CanRowsComplete :
  (let t : Nat := 1000000000000000
    let c : Fin 8 := 0
    let s : State := ready.setCanState 0x58 1
    let u := s.start t
    let p := canPage c;
    u.canState p = 1) ∧
  (let t : Nat := 1000000000000000
    let c : Fin 8 := 0
    let s : State := ready.setCanState 0x58 5
    let u := s.start t
    let p := canPage c;
    u.canState p = 5) ∧
  (let t : Nat := 1000000000000000
    let code : Nat := 4
    let gen : Nat := 1
    let c : Fin 8 := 0
    let value : Word := 0
    let s : State := ready
    let u := s.start t
    let p := canPage c
    let w : WriteReq := ⟨code, gen, p, Cf.TX_GO.off, value⟩;
    (u.writeVerdict w = 0) ∧
    (u.compat p = false)) ∧
  (let t : Nat := 1000000000000000
    let c : Fin 8 := 0
    let s : State := ready
    let u := s.start t
    let p := canPage c;
    u.compat p = false) ∧
  (let t : Nat := 1000000000000000
    let code : Nat := 4
    let gen : Nat := 1
    let c : Fin 8 := 0
    let value : Word := 0
    let s : State := ready
    let u := s.start t
    let p := canPage c
    let w : WriteReq := ⟨code, gen, p, Cf.TXC_ACK.off, value⟩;
    (u.writeVerdict w = 0) ∧
    (u.compat p = false)) ∧
  (let t : Nat := 1000000000000000
    let code : Nat := 1
    let gen : Nat := 1
    let c : Fin 8 := 0
    let value : Word := 0
    let s : State := (ready.setFld 3 Xg.OWN_STATE_OWNER 1 0x58)
    let u := s.start t
    let p := canPage c
    let w : WriteReq := ⟨code, gen, p, Cf.RX_ACK.off, value⟩;
    (u.writeVerdict w = 0) ∧
    (u.isConsumer code p = true) ∧
    (u.compat p = false)) ∧
  (let t : Nat := 1000000000000000
    let code : Nat := 4
    let gen : Nat := 1
    let c : Fin 8 := 0
    let value : Word := 0
    let s : State := ready.setFld 0x58 Cf.CAN_CFG_QMODE 1
    let u := s.start t
    let p := canPage c
    let w : WriteReq := ⟨code, gen, p, Cf.TXS_LATCH.off, value⟩;
    (u.writeVerdict w = 0) ∧
    (u.compat p = true)) ∧
  (let t : Nat := 1000000000000000
    let code : Nat := 4
    let gen : Nat := 1
    let c : Fin 8 := 0
    let value : Word := 0
    let s : State := ready.setFld 0x58 Cf.CAN_CFG_QMODE 1
    let u := s.start t
    let p := canPage c
    let w : WriteReq := ⟨code, gen, p, Cf.RXS_ACK.off, value⟩;
    (u.writeVerdict w = 0) ∧
    (u.compat p = true)) ∧
  (let t : Nat := 1000000000000000
    let code : Nat := 4
    let gen : Nat := 1
    let c : Fin 8 := 0
    let value : Word := 0
    let s : State := ready
    let u := s.start t
    let p := canPage c
    let w : WriteReq := ⟨code, gen, p, Cf.CAN_CFG_MODE.off, value⟩;
    (u.writeVerdict w = 0) ∧
    (u.cfgAllowed p value = true)) ∧
  (let t : Nat := 1000000000000000
    let c : Fin 8 := 0
    let s : State := (ready.setFld 3 Xg.OWN_STATE_OWNER 1 0x58).setRes 0x58 { accepted := true, beatA := { present := true } }
    let u := s.start t
    let p := canPage c
    let l := laneNum (u.owner p);
    ((u.resRec p).accepted = true) ∧
    ((if l = .a then (u.resRec p).beatA else (u.resRec p).beatB).present = true)) ∧
  (let t : Nat := 1000000000000000
    let x : Nat := 0
    let c : Fin 8 := 0
    let s : State := ready.modCan 0x58 fun c => { c with syncAt := some 0 }
    let u := s.start t
    let p := canPage c;
    ((u.can p).syncAt = some x) ∧
    (x ≤ u.now)) ∧
  (let t : Nat := 1000000000000000
    let c : Fin 8 := 0
    let s : State := ((ready.setFld 0x58 Cf.RC_CFG_ENA 1).setFld 0x58 Cf.CAN_CFG_TX_ENA 1).modCan 0x58 fun c => { c with mode := 1 }
    let u := s.start t
    let p := canPage c;
    (u.rollReady p = true) ∧
    ((u.can p).roundAt + u.fld p Cf.RC_TIMING_PERIOD_MS * 1000000 ≤ u.now)) ∧
  (let t : Nat := 1000000000000000
    let x : Nat := 0
    let rest : List Nat := []
    let c : Fin 8 := 0
    let n : Fin 128 := 0
    let s : State := ready.modCan 0x58 fun c => { c with nodes := [(0, { asked := [0] })] }
    let u := s.start t
    let p := canPage c;
    (((u.can p).nodes.rd {} n.val).asked = x :: rest) ∧
    (x + u.fld p Cf.RC_TIMING_TIMEOUT_MS * 1000000 ≤ u.now)) ∧
  (let t : Nat := 1000000000000000
    let q : Req := ⟨4, 1, 0x58, 0, 0⟩
    let s : State := (ready.setCanState 0x58 4).setFld 0x58 Cf.CAN_CFG_AUTO_RECOVER 0
    let u := s.start t;
    u.verdict q cmdCanRecover = 0) ∧
  (let t : Nat := 1000000000000000
    let q : Req := ⟨4, 1, 0x58, 0xFF, 0⟩
    let s : State := ready.modCan 0x58 fun c => { c with tx := [canEntry] }
    let u := s.start t;
    u.verdict q cmdTxAbort = 0) ∧
  (let t : Nat := 1000000000000000
    let q : Req := ⟨4, 1, 0x58, 0, 0⟩
    let s : State := ((ready.setFld 0x58 Cf.RC_CFG_ENA 1).setFld 0x58 Cf.CAN_CFG_TX_ENA 1).modCan 0x58 fun c => { c with mode := 1 }
    let u := s.start t;
    u.verdict q cmdRollCall = 0) ∧
  (let t : Nat := 1000000000000000
    let q : Req := ⟨4, 1, 0x58, 0, 0⟩
    let s : State := ready
    let u := s.start t;
    u.verdict q cmdCanClear = 0) := by
  refine ⟨?_, ?_, ?_, ?_, ?_, ?_, ?_, ?_, ?_, ?_, ?_, ?_, ?_, ?_, ?_, ?_, ?_⟩ <;> decide +kernel

theorem witness_SafetyRowsComplete :
  (let t : Nat := 1000000000000000
    let q : Req := ⟨4, 1, 0x60, 0, 0⟩
    let s : State := ready.setPstate 0x60 1
    let u := s.start t;
    u.verdict q cmdMaintEnter = 0) ∧
  (let t : Nat := 1000000000000000
    let q : Req := ⟨4, 1, 0x60, 0, 0⟩
    let s : State := (((ready.setPstate 0x60 5).setPstate 8 2).setPstate 9 2).setFld 0x60 Sf.SAFE_STATUS_CLEAN 16
    let u := s.start t;
    u.verdict q cmdMaintExit = 0) ∧
  (let t : Nat := 1000000000000000
    let q : Req := ⟨4, 1, 0x60, 0, 0⟩
    let s : State := (ready.setPstate 0x60 2).setFld 0x60 Sf.SAFE_STATUS_CLEAN 16
    let u := s.start t;
    u.verdict q cmdTripAck = 0) ∧
  (let t : Nat := 1000000000000000
    let q : Req := ⟨4, 1, 0x60, 0, 0⟩
    let s : State := ready.setPstate 0x60 1
    let u := s.start t;
    (u.verdict q cmdSafeTrip = 0) ∧
    (u.pstate 0x60 = 1)) ∧
  (let t : Nat := 1000000000000000
    let s : State := ready.setPstate 0x60 5
    let u := s.start t
    let lim := u.fld 0x60 Sf.SAFE_CFG_MAINT_LIMIT_MIN;
    (u.pstate 0x60 = 5) ∧
    (lim ≠ 0) ∧
    (u.safe.maintAt + lim * 60000000000 ≤ u.now)) ∧
  (let t : Nat := 1000000000000000
    let s : State := (ready.setPstate 0x60 5).modSafe fun x => { x with keyLost := 2 }
    let u := s.start t;
    (u.pstate 0x60 = 5) ∧
    (u.safe.keyLost = 2)) ∧
  (let t : Nat := 1000000000000000
    let x : Nat := 0
    let k : Fin 8 := 0
    let s : State := (ready.setPstate 0x60 1).setSo 0 { ready.so 0 with discAt := some 0 }
    let u := s.start t;
    ((u.so k).discAt = some x) ∧
    (u.pstate 0x60 = 1) ∧
    (x + u.fld 0x62 So.DISC_MS * 1000000 ≤ u.now)) ∧
  (let t : Nat := 1000000000000000
    let x : Nat := 0
    let k : Fin 8 := 0
    let m1 : Bool := false
    let m2 : Bool := true
    let s : State := ready.setSo 0 { ready.so 0 with coilAt := some 0 }
    let u := s.start t
    let v := (u.setFld 0x62 So.SO_STATUS_MIRROR_K1 (bool01 m1) k).setFld 0x62 So.SO_STATUS_MIRROR_K2 (bool01 m2) k;
    ((v.so k).dropAt = none) ∧
    ((v.so k).coilAt = some x) ∧
    (x + 20000000 ≤ v.now)) ∧
  (let t : Nat := 1000000000000000
    let x : Nat := 0
    let k : Fin 8 := 0
    let s : State := ready.setSo 0 { ready.so 0 with dropAt := some 0 }
    let u := s.start t
    let v := (u.setFld 0x62 So.SO_STATUS_MIRROR_K1 1 k).setFld 0x62 So.SO_STATUS_MIRROR_K2 1 k;
    ((v.so k).dropAt = some x) ∧
    ((v.so k).coilAt = none)) ∧
  (let t : Nat := 1000000000000000
    let code : Nat := 2
    let gen : Nat := 1
    let l : Lane := .b
    let value : Word := 0
    let s : State := ready
    let u := s.start t
    let w : WriteReq := ⟨code, gen, 0x62, So.SO_DEMAND.off, value⟩;
    (u.writeVerdict w = 0) ∧
    (laneOf? code = some l)) ∧
  (let t : Nat := 1000000000000000
    let q : Req := ⟨4, 1, 0x62, 0, 0⟩
    let s : State := ((ready.setFld 0x62 So.SO_STATUS_STATE 2).setFld 0x62 So.SO_STATUS_MIRROR_K1 1).setFld 0x62 So.SO_STATUS_MIRROR_K2 1
    let u := s.start t;
    u.verdict q cmdSoReset = 0) ∧
  (let t : Nat := 1000000000000000
    let q : Req := ⟨4, 1, 0x62, 0, 0⟩
    let s : State := ready
    let u := s.start t;
    u.verdict q cmdSoClear = 0) := by
  refine ⟨?_, ?_, ?_, ?_, ?_, ?_, ?_, ?_, ?_, ?_, ?_, ?_⟩ <;> decide +kernel

theorem witness_TarfevikRowsComplete :
  (let t : Nat := 1000000000000000
    let bs : List Nat := [9]
    let s : State := ready
    let u := s.start t;
    (u.connNamed .a (bytesAt bs 0 4) = none) ∧
    (u.connNamed .b (bytesAt bs 0 4) = none)) ∧
  (let t : Nat := 1000000000000000
    let c : Nat := 0
    let d : Nat := 0
    let bs : List Nat := [9]
    let s : State := (ready.setFld (connPage 0) Sc.CONN_CFG_ENA 1).setReg (connPage 0) Sc.CONN_ID.off 9
    let u := s.start t;
    (u.connNamed .a (bytesAt bs 0 4) = some c) ∧
    (u.connNamed .b (bytesAt bs 0 4) = some d)) ∧
  (let t : Nat := 1000000000000000
    let c : Fin 64 := 0
    let a : Nat × List Nat := (0, [])
    let b : Nat × List Nat := (0, [])
    let s : State := ready.modSafe fun x => { x with handed := ⟨[(0, some (0, []))], [(0, some (0, []))]⟩ }
    let u := s.start t;
    ((u.safe.handed.a).rd none c = some a) ∧
    ((u.safe.handed.b).rd none c = some b) ∧
    (max a.1 b.1 ≤ min a.1 b.1 + 20000)) ∧
  (let t : Nat := 1000000000000000
    let l : Lane := .a
    let c : Fin 64 := 0
    let s : State := ready
    let u := s.start t
    let r := u.conn l c;
    r.acceptAt + u.connField l c Sc.CONN_TIMING_WDT_MS * 1000000 ≤ u.now) ∧
  (let t : Nat := 1000000000000000
    let q : Req := ⟨4, 1, 0x61, 0, 0⟩
    let s : State := ready
    let u := s.start t;
    u.verdict q cmdConnClear = 0) := by
  refine ⟨?_, ?_, ?_, ?_, ?_⟩ <;> decide +kernel

theorem witness_MemoryRowsComplete :
  (let t : Nat := 1000000000000000
    let l : Lane := .a
    let seg : Fin 16 := 0
    let s : State := ready.setFld 0x64 Mm.SEG_RET 1
    let u := s.start t
    let p := memPage l
    let ret := u.fld p Mm.SEG_RET;
    bitAt ret seg = true) ∧
  (let t : Nat := 1000000000000000
    let idleMs : Nat := 10 ^ 9
    let l : Lane := .a
    let seg : Fin 16 := 0
    let s : State := ready
    let u := s.start t
    let p := memPage l;
    (u.flag p Mm.RET_CFG_ENA = true) ∧
    (bitAt (u.segUse l) seg = false) ∧
    (u.fld p Mm.RET_CFG_RET_IDLE_MS ≤ idleMs)) ∧
  (let t : Nat := 1000000000000000
    let l : Lane := .a
    let s : State := ready
    let u := s.start t
    let p := memPage l;
    (2 ≤ u.laneState l) ∧
    (u.flag p Mm.BT_CFG_ENA = true) ∧
    ((u.mem l).btAt + u.fld p Mm.BT_CFG_INTERVAL_US * 1000 ≤ u.now)) ∧
  (let t : Nat := 1000000000000000
    let q : Req := ⟨4, 1, 0x64, 0, 0⟩
    let s : State := ready
    let u := s.start t;
    u.verdict q cmdBtRestart = 0) ∧
  (let t : Nat := 1000000000000000
    let q : Req := ⟨4, 1, 0x64, 0, 0⟩
    let s : State := ready
    let u := s.start t;
    u.verdict q cmdMemClear = 0) ∧
  (let t : Nat := 1000000000000000
    let q : Req := ⟨4, 1, 0x66, 0, 0⟩
    let s : State := ready
    let u := s.start t;
    u.verdict q cmdSecureWipe = 0) := by
  refine ⟨?_, ?_, ?_, ?_, ?_, ?_⟩ <;> decide +kernel

theorem witness_RecordRowsComplete :
  (let t : Nat := 1000000000000000
    let axis : Fin 32 := 0
    let c : Curd := {}
    let rest : List Curd := []
    let s : State := (onAxis (ready.setFld 3 Xg.OWN_STATE_OWNER 1 0x10) fun x => { x with curds := [{}] }).setRes 0x10 { accepted := true, beatA := { present := true } }
    let u := s.start t
    let p := 0x10 + axis.val
    let l := laneNum (u.owner p);
    ((u.axis p).curds = c :: rest) ∧
    ((u.beat p l).present = true)) ∧
  (let t : Nat := 1000000000000000
    let since : Nat := 0
    let l : Lane := .a
    let s : State := onVat ready .a fun v => { v with lagSince := some 0 }
    let u := s.start t;
    ((u.vat l).lagSince = some since) ∧
    (max (u.vat l).reportAt since + 1000000000 ≤ u.now)) ∧
  (let t : Nat := 1000000000000000
    let axis : Fin 32 := 0
    let l : Lane := .a
    let c : Capture := { capture with rate := 4000 }
    let s : State := onVat ready .a fun v => { v with captures := [{ capture with rate := 4000 }] }
    let u := s.start t
    let p := 0x10 + axis.val;
    (u.sampleRate p ≠ 0) ∧
    ((u.axis p).ringAt + 1000000000 / u.sampleRate p ≤ u.now) ∧
    (u.captureOf p = some (l, c))) ∧
  (let t : Nat := 1000000000000000
    let axis : Fin 32 := 0
    let l : Lane := .a
    let c : Capture := capture
    let s : State := onVat ready .a fun v => { v with captures := [capture] }
    let u := s.start t;
    (u.captureOf (0x10 + axis.val) = some (l, c)) ∧
    (10 * c.rate ≤ c.taken)) ∧
  (let t : Nat := 1000000000000000
    let l : Lane := .a
    let part : Fin 5 := 0
    let s : State := onVat (ready.setVatState .a 2) .a fun v => { v with parts := [(0, { handed := 9 })] }
    let u := s.start t;
    ((u.vatState l = 2 ∨ u.vatState l = 3)) ∧
    (u.servesPart l part = true)) ∧
  (let t : Nat := 1000000000000000
    let l : Lane := .a
    let h : NandReport := ⟨0, 0, false, 50, false, 0, 0, 0, []⟩
    let s : State := ready.setVatState .a 1
    let u := s.start t
    let p := vatPage l
    let h' := if (u.vat l).marker then { h with lost := [] } else h
    let v := (u.setFld p Vt.VAT_STATUS_MOUNT_CLEAN (if (u.vat l).marker then 1 else 0)).setFld p Vt.LOST_AT_MOUNT
     (saturate 16 h'.lost.length)
    let w := (v.setVat l { u.vat l with marker := false, scrubAt := u.now }).nand l h';
    (u.vatState l = 1) ∧
    (2 ≤ u.laneState l) ∧
    (w.vatState l = 1)) ∧
  (let t : Nat := 10 ^ 16
    let l : Lane := .a
    let s : State := ready.setVatState .a 2
    let u := s.start t;
    ((u.vatState l = 2 ∨ u.vatState l = 3)) ∧
    ((u.vat l).scrubAt + 30 * 86400 * 1000000000 ≤ u.now)) ∧
  (let t : Nat := 1000000000000000
    let q : Req := ⟨4, 1, 0x68, 0, 0⟩
    let s : State := ready.setVatState .a 2
    let u := s.start t;
    u.verdict q cmdFlush = 0) ∧
  (let t : Nat := 1000000000000000
    let l : Lane := .a
    let s : State := ready
    let u := s.start t;
    ([0, 1, 2, 4].all fun p => (u.vat l).waiting p == 0) = true) ∧
  (let t : Nat := 1000000000000000
    let q : Req := ⟨4, 1, 0x68, 0, 0⟩
    let s : State := ready
    let u := s.start t;
    u.verdict q cmdVatClear = 0) ∧
  (let t : Nat := 1000000000000000
    let since : Nat := 0
    let l : Lane := .a
    let s : State := onVat ready .a fun v => { v with lagSince := some 0 }
    let u := s.start t;
    ((u.vat l).lagSince = some since) ∧
    (since + 10000000000 ≤ u.now)) := by
  refine ⟨?_, ?_, ?_, ?_, ?_, ?_, ?_, ?_, ?_, ?_, ?_⟩ <;> decide +kernel

theorem witness_DumpRowsComplete :
  (let t : Nat := 1000000000000000
    let q : Req := ⟨4, 1, 0x7F, 1, 0⟩
    let s : State := ready
    let u := s.start t
    let l := laneNum q.chan
    let r := ((u.openCmd q 1).writeResult q (u.pstate q.page) RC.accepted).dumpStart l 32 0xFF 0 false;
    (u.verdict q cmdDumpRequest = 0) ∧
    (r.2 = true)) ∧
  (let t : Nat := 1000000000000000
    let l : Lane := .a
    let j : DumpJob := ⟨0, {}, true, false⟩
    let s : State := onVat ready .a fun v => { v with dumping := some ⟨0, {}, true, false⟩ }
    let u := s.start t;
    (u.vat l).dumping = some j) ∧
  (let t : Nat := 1000000000000000
    let l : Lane := .a
    let j : DumpJob := ⟨0, {}, true, false⟩
    let s : State := onVat ready .a fun v => { v with dumping := some ⟨0, {}, true, false⟩ }
    let u := s.start t;
    ((u.vat l).dumping = some j) ∧
    (j.since + u.fld 0x7F Dp.DUMP_CFG_DUMP_LIMIT_MS * 1000000 ≤ u.now)) ∧
  (let t : Nat := 1000000000000000
    let q : Req := ⟨4, 1, 0x7F, 0, 0⟩
    let s : State := ready
    let u := s.start t;
    u.verdict q cmdMiniClear = 0) ∧
  (let t : Nat := 1000000000000000
    let q : Req := ⟨4, 1, 0x7F, 0, 0⟩
    let s : State := ready
    let u := s.start t;
    u.verdict q cmdDumpClear = 0) := by
  refine ⟨?_, ?_, ?_, ?_, ?_⟩ <;> decide +kernel

theorem witness_ManagementRowsComplete :
  (let t : Nat := 1000000000000000
    let s : State := ready
    let u := s.start t;
    (u.mgmtRuns = true) ∧
    (u.mgmt.loadAt + 1000000000 ≤ u.now)) ∧
  (let t : Nat := 1000000000000000
    let vals : List (Option Int) := []
    let s : State := ready
    let u := (s.start t).supplyVolts vals
    let d := u.fld 0x70 Mg.MGMT_LOAD_TELEM_DIV;
    (u.mgmtRuns = true) ∧
    (u.mgmt.sampleAt + u.fld 0x71 Sn.SAMPLE_CFG_SAMPLE_MS * 2 ^ d * 1000000 ≤ u.now)) ∧
  (let t : Nat := 1000000000000000
    let s : State := ready
    let u := s.start t;
    (u.mgmtRuns = true) ∧
    (u.mgmt.telemAt + u.fld 0x70 Mg.TELEM_CFG_TELEM_S * 1000000000 ≤ u.now)) ∧
  (let t : Nat := 1000000000000000
    let q : Req := ⟨4, 1, 0x71, 0, 0⟩
    let s : State := ready
    let u := s.start t;
    u.verdict q cmdMinmaxClear = 0) ∧
  (let t : Nat := 1000000000000000
    let q : Req := ⟨4, 1, 0x70, 0, 0⟩
    let s : State := ready
    let u := s.start t;
    u.verdict q cmdMgmtClear = 0) ∧
  (let t : Nat := 1000000000000000
    let s : State := ready.putMgmt { ready.mgmt with ripDue := true }
    let u := s.start t;
    (u.mgmtRuns = true) ∧
    (u.mgmt.ripDue = true) ∧
    (u.flag 0x70 Mg.MGMT_LOAD_RIP_DEFERRED = false)) ∧
  (let t : Nat := 1000000000000000
    let s : State := ready.setFld 0x70 Mg.MGMT_LOAD_RIP_DEFERRED 1
    let u := s.start t;
    (u.mgmtRuns = true) ∧
    (u.flag 0x72 Rp.RIP_CFG_ENA = true) ∧
    (u.mgmt.ripDue = false) ∧
    (u.mgmt.ripAt + u.fld 0x72 Rp.RIP_CFG_PERIOD_H * 3600000000000 ≤ u.now) ∧
    (u.flag 0x70 Mg.MGMT_LOAD_RIP_DEFERRED = true)) ∧
  (let t : Nat := 1000000000000000
    let x : Nat := 0
    let s : State := ready.putMgmt { ready.mgmt with recheckAt := some 0 }
    let u := s.start t;
    (u.mgmt.recheckAt = some x) ∧
    (u.mgmtRuns = true) ∧
    (x ≤ u.now)) ∧
  (let t : Nat := 1000000000000000
    let q : Req := ⟨4, 1, 0x72, 0, 0⟩
    let s : State := ready
    let u := s.start t;
    u.verdict q cmdRipRun = 0) ∧
  (let t : Nat := 1000000000000000
    let q : Req := ⟨4, 1, 0x72, 40, 0⟩
    let s : State := ready
    let u := s.start t;
    u.verdict q cmdRipRebase = 0) ∧
  (let t : Nat := 1000000000000000
    let q : Req := ⟨4, 1, 0x72, 0, 0⟩
    let s : State := ready
    let u := s.start t;
    u.verdict q cmdRipSetRef = 0) := by
  refine ⟨?_, ?_, ?_, ?_, ?_, ?_, ?_, ?_, ?_, ?_, ?_⟩ <;> decide +kernel

theorem witness_UpdateRowsComplete :
  (let t : Nat := 1000000000000000
    let q : Req := ⟨4, 1, 0x73, 0, 0⟩
    let s : State := ready.setReg 0x73 0x38 16 4
    let u := s.start t;
    u.verdict q cmdUpdBegin = 0) ∧
  (let t : Nat := 1000000000000000
    let q : Req := ⟨4, 1, 0x73, 0, 0⟩
    let s : State := ((ready.setPstate 0x73 1).setFld 0x73 Up.UPD_LEN 16).setReg 0x73 0x38 16 4 |> fun s => s.setFld 0x73 Up.CHUNK_CRC (crc32 (s.updWindow 16))
    let u := s.start t;
    u.verdict q cmdUpdChunk = 0) ∧
  (let t : Nat := 1000000000000000
    let q : Req := ⟨4, 1, 0x73, 0, 0⟩
    let s : State := ready.setPstate 0x73 1
    let u := s.start t;
    u.verdict q cmdUpdVerify = 0) ∧
  (let t : Nat := 1000000000000000
    let s : State := ready.setPstate 0x73 2
    let u := s.start t;
    (u.mgmtRuns = true) ∧
    (u.pstate 0x73 = 2)) ∧
  (let t : Nat := 1000000000000000
    let q : Req := ⟨4, 1, 0x73, 0, 0⟩
    let s : State := (ready.setPstate 0x73 3).setFld 0x73 Up.UPD_SESSION_TARGET 2
    let u := s.start t;
    u.verdict q cmdUpdActivate = 0) ∧
  (let t : Nat := 1000000000000000
    let s : State := ready.setPstate 0x73 4
    let u := s.start t;
    (u.mgmtRuns = true) ∧
    (u.pstate 0x73 = 4)) ∧
  (let t : Nat := 1000000000000000
    let l : Lane := .a
    let s : State := ready.setFld 0x73 Up.SLOT_STATE_TRIAL 1
    let u := s.start t;
    (u.laneState l = 4) ∧
    (u.flag 0x73 Up.SLOT_STATE_TRIAL (fwInstance l) = true) ∧
    ((u.lane l).alignedAt + u.fld 0x73 Up.CONFIRM_CFG_CONFIRM_S * 1000000000 ≤ u.now)) ∧
  (let t : Nat := 1000000000000000
    let q : Req := ⟨4, 1, 0x73, 0, 0⟩
    let s : State := ready.setPstate 0x73 1
    let u := s.start t;
    u.verdict q cmdUpdAbort = 0) ∧
  (let t : Nat := 1000000000000000
    let q : Req := ⟨4, 1, 0x73, 0, 0⟩
    let s : State := (ready.setFld 0x73 Up.SLOT_STATE_OTHER_VALID 1).setReg 0x73 0x34 1 4 |>.setFld 0x73 Up.SLOT_STATE_OTHER_VALID 1 2
    let u := s.start t;
    u.verdict q cmdUpdRollback = 0) := by
  refine ⟨?_, ?_, ?_, ?_, ?_, ?_, ?_, ?_, ?_⟩ <;> decide +kernel

/-- The registers of a command RETIRE that names the module's own serial number, which no numeral can show (log 4). -/
theorem witness_retire :
  let t : Nat := 1000000000000000
  let us : Nat := 0
  let q : Req := ⟨4, 1, 0x74, 0, 0⟩
  let s : State := (ready.setReg 0x74 0x34 (unitReg 0 Dev.SERIAL_LO.off) 4).setReg 0x74 0x38 (unitReg 0 Dev.SERIAL_HI.off) 4
  let u := s.start t
  u.verdict q (cmdRetire us) = 0 := by
  intro t us q s u
  have e (p o b : Nat) (hn : Reg.key p o b ≠ Reg.key 0x74 0x34 4 ∧ Reg.key p o b ≠ Reg.key 0x74 0x38 4) : u.reg p o b = ready.reg p o b := by
    change s.reg p o b = _
    simp only [s]
    rw [State.reg_setReg_of_ne _ _ _ _ _ _ _ _ hn.2, State.reg_setReg_of_ne _ _ _ _ _ _ _ _ hn.1]
  have a0 : u.arg0 q = unitReg 0 Dev.SERIAL_LO.off := by
    change (s.reg 0x74 0x34 4).toNat = _
    simp only [s]
    rw [State.reg_setReg_of_ne _ _ _ _ _ _ _ _ (by decide), State.reg_setReg_same]
    simp [unitReg]
  have a1 : u.arg1 q = unitReg 0 Dev.SERIAL_HI.off := by
    change (s.reg 0x74 0x38 4).toNat = _
    simp only [s]
    rw [State.reg_setReg_same]
    simp [unitReg]
  have e0 := e 6 0x4B8 0 (by decide)
  have e1 := e 0x74 0x100 0 (by decide)
  have e2 := e 0x74 0x10 0 (by decide)
  have e3 := e 0x74 0x0C 0 (by decide)
  have h0 : u.slot 0 = ready.slot 0 := rfl
  have hm : u.may .admin q.code q.page = true := by
    have : u.rightsOf 2 0x74 = ready.rightsOf 2 0x74 := congrArg (fun w : Word => w.toNat / 16 ^ (0x74 % 8) % 16) e0
    change (decide (4 ≤ 4) && ((u.slot 0).active && bitAt (u.rightsOf (u.slot 0).role 0x74) Right.command) && _) = true
    rw [h0]; change (_ && (_ && bitAt (u.rightsOf 2 0x74) _) && _) = _; rw [this]; decide +kernel
  have hs : u.pageServed q.page = true := by
    change (!(bitsOf (u.reg 0x74 0x10 0) _ _ == 4 && mgmtPage 0x74)) = true
    rw [e2]; decide +kernel
  have hr : u.retired = false := by
    change (bitsOf (u.reg 0x74 0x100 0) _ _ == 4) = false
    rw [e1]; decide +kernel
  have hg : u.gen q.page = 1 := by
    change bitsOf (u.reg 0x74 0x0C 0) _ _ = 1
    rw [e3]; decide +kernel
  have hm : u.may .admin 4 0x74 = true := hm
  simp only [State.verdict, hr, hg, hs, a0, a1, cmdRetire, State.hasOpen]
  simp [q, hm]
  decide +kernel

theorem witness_LifeCycleRowsComplete :
  (let t : Nat := 1000000000000000
    let traceA : Nat := 0
    let traceB : Nat := 0
    let cause : Fin 5 := 0
    let inputs : Fin 32 := 0
    let temp : Int := 0
    let s : State := ready
    let u := s.start t
    let v := u.showInputs inputs traceA traceB temp;
    v.rindOpen (cause + 1) = true) ∧
  (let t : Nat := 1000000000000000
    let s : State := ready.putLc { ready.lc with keysDue := true }
    let u := s.start t;
    (u.lc.keysDue = true) ∧
    (u.power.common = true)) ∧
  (let t : Nat := 1000000000000000
    let s : State := (ready.setFld 0x74 Lc.LC_STATUS_STATE 1).setFld 0x74 Lc.LC_STATUS_COMMIT_PENDING 1
    let u := (s.start t).setFld 0x74 Lc.RIND_STATUS_SEAL_OK 1;
    (u.lifeCycle = 1) ∧
    (u.flag 0x74 Lc.LC_STATUS_COMMIT_PENDING = true)) ∧
  (let t : Nat := 1000000000000000
    let x : Nat := 0
    let s : State := ready.putLc { ready.lc with commitAt := some 0 }
    let u := s.start t;
    (u.lc.commitAt = some x) ∧
    (x + u.fld 0x74 Lc.RIND_CFG_SEAL_WAIT_S * 1000000000 ≤ u.now)) ∧
  (let t : Nat := 1000000000000000
    let q : Req := ⟨4, 1, 0x74, 0, 0⟩
    let s : State := ((ready.setSlot 0 { active := true, role := 3, factory := true }).setFld 0x74 Lc.LC_STATUS_STATE 0)
    let u := s.start t;
    u.verdict q cmdFactoryClose = 0) ∧
  (let t : Nat := 1000000000000000
    let q : Req := ⟨4, 1, 0x74, 0, 0⟩
    let s : State := ((ready.setSlot 0 { active := true, role := 3, factory := true }).setFld 0x74 Lc.LC_STATUS_STATE 3)
    let u := s.start t;
    u.verdict q cmdProvBegin = 0) ∧
  (let t : Nat := 1000000000000000
    let q : Req := ⟨4, 1, 0x74, 0, 0⟩
    let c : CertFound := ⟨true, 1, 1, ⟨true, true⟩⟩
    let s : State := (ready.setFld 0x74 Lc.LC_STATUS_STATE 1).setFld 0x74 Lc.WIN_CTRL_KIND 2
    let u := s.start t;
    u.verdict q (cmdCertInstall c) = 0) ∧
  (let t : Nat := 1000000000000000
    let q : Req := ⟨4, 1, 0x74, 0, 0⟩
    let c : CertFound := ⟨true, 1, 1, ⟨true, true⟩⟩
    let s : State := (ready.setFld 0x74 Lc.LC_STATUS_STATE 1).setFld 0x74 Lc.WIN_CTRL_KIND 3
    let u := s.start t;
    (u.verdict q (cmdAnchorSet c) = 0) ∧
    (u.fld 0x74 Lc.WIN_CTRL_KIND = 3)) ∧
  (let t : Nat := 1000000000000000
    let q : Req := ⟨4, 1, 0x74, 0, 0⟩
    let s : State := (((ready.setFld 0x74 Lc.LC_STATUS_STATE 1).setFld 0x74 Lc.IDENTITY_PROVISIONAL 0).setFld 0x74 Lc.ANCHORS_HOST 1).putLc { ready.lc with hostAnchor := true, contentAnchor := true }
    let u := s.start t;
    u.verdict q cmdProvCommit = 0) ∧
  (let t : Nat := 1000000000000000
    let q : Req := ⟨4, 1, 0x74, 0, 0⟩
    let s : State := (ready.setFld 0x74 Lc.LC_STATUS_STATE 2).setPstate 0x60 5
    let u := s.start t;
    u.verdict q cmdReprovision = 0) ∧
  (let t : Nat := 1000000000000000
    let us : Nat := 0
    let q : Req := ⟨4, 1, 0x74, 0, 0⟩
    let s : State := (ready.setFld 0x74 Lc.LC_STATUS_STATE 2)
    let u := s.start t;
    u.verdict q (cmdErase us) = 0) ∧
  (let t : Nat := 1000000000000000
    let us : Nat := 0
    let q : Req := ⟨4, 1, 0x74, 0, 0⟩
    let s : State := (ready.setReg 0x74 0x34 (unitReg 0 Dev.SERIAL_LO.off) 4).setReg 0x74 0x38 (unitReg 0 Dev.SERIAL_HI.off) 4
    let u := s.start t;
    u.verdict q (cmdRetire us) = 0) := by
  refine ⟨?_, ?_, ?_, ?_, ?_, ?_, ?_, ?_, ?_, ?_, ?_, witness_retire⟩ <;> decide +kernel

theorem witness_ClocksAndModelsComplete :
  (let t : Nat := 1000000000000000
    let s : State := ready.setFld 0 Dev.TIME_STATUS_GM_PRESENT 1
    let u := s.start t;
    u.flag 0 Dev.TIME_STATUS_GM_PRESENT = true) ∧
  (let t : Nat := 1000000000000000
    let b : Fin 2 := 0
    let s : State := ready
    let u := (s.start t).settleHeat b;
    (u.resistorCooled b = true) ∧
    ((u.bus b).hardLock = false)) ∧
  (let t : Nat := 1000000000000000
    let a : Fin 32 := 0
    let s : State := ready.setFld 0x10 Ax.FB_STATUS_HALL_FAULT 1
    let u := s.start t
    let p := axisPage a;
    (u.flag p Ax.FB_STATUS_HALL_FAULT = true) ∧
    ((u.axis p).fb.hallErr + 100000000 ≤ u.now)) ∧
  (let t : Nat := 1000000000000000
    let ma : Nat := 0
    let b : Fin 16 := 0
    let k : Fin 16 := 0
    let s : State := (ready.setCh 0x30 0 { ready.ch 0x30 0 with fault := 6 })
    let u := s.start t
    let p := 0x30 + b.val;
    ((u.ch p k).fault = 6) ∧
    (u.fld p Bk.OUT_OPEN_OPEN_MA ≤ ma)) ∧
  (let t : Nat := 1000000000000000
    let b : Fin 16 := 0
    let k : Fin 16 := 0
    let s : State := (ready.setCh 0x30 0 { ready.ch 0x30 0 with fault := 9 })
    let u := s.start t
    let p := 0x30 + b.val;
    ((u.ch p k).fault = 9) ∧
    ((u.ch p k).state = false) ∧
    ((u.ch p k).diffAt + 10000000 ≤ u.now)) := by
  refine ⟨?_, ?_, ?_, ?_, ?_⟩ <;> decide +kernel

theorem witness_StepTakesTheFrontCommand : State.reset.pending = [] := by decide +kernel

theorem witness_ResetState : (5 : Nat) < 128 ∧ pageUsed 4 = true := by decide +kernel

theorem witness_StepKeepsClockBootsAndQueue :
  (State.reset.atLeast 0 1) ∧ step State.reset = .next State.reset := ⟨by decide +kernel, rfl⟩

theorem witness_CanonicalRegistersAreTheirReadings :
  let s := State.reset.setReg 4 0x34 5 4
  s.canonical = true ∧ ∀ p o b : Nat, o < 4096 → b < 8 → s.reg p o b = s.reg p o b := ⟨by decide +kernel, fun _ _ _ _ _ => rfl⟩

theorem witness_RegisterWriteKeepsForm :
  ready.canonical = true ∧
  (let page := 0x10; let off := 0x104; let p := 0x7F; let o := 4092; let b := 7
    o < 4096 ∧ b < 8 ∧ page < 128 ∧ off < 4096 ∧ p ≠ page ∧ p ≠ 0x7E) ∧
  (let off := 4092; let bank := 7; let o := 4092; let b := 7
    off < 4096 ∧ bank < 8 ∧ o < 4096 ∧ b < 8) := by decide +kernel

theorem witness_RefusedCommandHasNoEffect :
  let q : Req := ⟨4, 0, 0x10, 0, 0⟩
  (ready.start 0).verdict q cmdClampClear ≠ 0 ∧ (ready.start 0).verdict q cmdClampClear ≠ RC.held ∧ pageUsed q.page = true ∧
  (4092 < 4096 ∧ 7 < 8 ∧ (0x10 : Nat) ≠ 0x7E ∧ ¬((0x10 : Nat) = q.page ∧ (4092 = 0x3C ∧ 7 = q.code % 8 ∨ 4092 = 0x24))) := by
  decide +kernel

theorem witness_HeaderCommandFrames :
  (let q : Req := ⟨4, 1, 0x10, 0, 0⟩; let u := ready.start 0
    u.holds q.page q.code = false ∧ pageUsed q.page = true ∧ q.gen = u.gen q.page ∧ u.verdict q cmdClampClear = 0) ∧
  (let w : WriteReq := ⟨4, 1, 0x10, 0x34, 5⟩; let u := ready.start 0
    (w.off = 0x34 ∨ w.off = 0x38) ∧ pageUsed w.page = true ∧ u.holds w.page w.code = false ∧ u.quietVerdict w = 0) ∧
  (let w : WriteReq := ⟨4, 1, 0x10, 0x24, 5⟩; let u := ready.start 0
    w.off = 0x24 ∧ pageUsed w.page = true ∧ u.writeVerdict w = 0) := by decide +kernel

theorem witness_IntegerFrame :
  let f : Fields := 0x123000
  engine.executes .a 0 1 false ∧ onlyBits f 0xFFF000 = true := by decide +kernel

theorem witness_StoreFrame :
  let s := onCle engine .a fun c => { c with tasks := [(0, { state := 3, g := [(1, BitVec.ofNat 32 0x100)] })] }
  let f : Fields := 0x200100
  let c := s.cle .a
  let k := s.fetched .a 0 1
  s.executes .a 0 1 false ∧
  [(Instr.stw .a f 0, addrM k f, (k.G (fD f)).toNat, 4), (.sth .a f, addrM k f, (k.G (fD f)).toNat, 2),
    (.stb .a f, addrM k f, (k.G (fD f)).toNat, 1), (.siw .a f, addrMI k f, (k.G (fD f)).toNat, 4),
    (.xstd .a f, addrM k f, (k.X (fD f)).toNat, 8),
    (.xsts .a f, addrM k f, (k.X (fD f)).toNat % 2 ^ 32, 4)].all (fun x => (c.store x.2.1 x.2.2.1 x.2.2.2).isSome) = true ∧
  onlyBits f 0xF0FFFF = true := by decide +kernel

theorem witness_BitStack :
  (let s := onCle engine .a fun c => { c with
      image := some { prog with tasks := [(0, { bitMode := true })] } };
    s.executes .a 0 1 true ∧ (bitOperand (s.fetched .a 0 1) 0).bind (fun p => (s.cle .a).load p.1 4) = some 0) ∧
  (let s := onCle engine .a fun c => { c with
      image := some { prog with tasks := [(0, { bitMode := true })] } };
    s.executes .a 0 1 true ∧ onlyBits 0 0 = true ∧ (s.fetched .a 0 1).bstack = []) ∧
  (let s := onCle engine .a fun c => { c with
      image := some { prog with tasks := [(0, { bitMode := true })] }
      tasks := [(0, { state := 3, bstack := [(true, .xor)] })] };
    s.executes .a 0 1 true ∧ onlyBits 0 0 = true ∧ (s.fetched .a 0 1).bstack = (true, .xor) :: []) := by
  decide +kernel

theorem witness_UnusedPages :
  (let w : WriteReq := ⟨4, 0, 0x4A, 0x34, 5⟩; pageUsed w.page = false ∧ w.off % 4096 / 4 * 4 ≠ 0x30) ∧
  (let q : Req := ⟨4, 1, 0x4A, 0, 0⟩; pageUsed q.page = false ∧ (State.reset.start 0).retired = false ∧
    (State.reset.start 0).holds q.page q.code = false) := by decide +kernel

theorem witness_SafeRelaysNeedTheirLane :
  (7 < 8) ∧ gives (exec (.enableWaveLoss 0 .a 7 .running) (ready.setFld 0x62 So.SO_STATUS_STATE 1 7)) (fun s => s.soState 7 == 0) = true := by
  decide +kernel

end Sys2Proof.Tests
end

section
/-! PROOF. No command turns back the instant or the boot count or touches the queue (O51); the reset state meets this invariant
(O50) and is what the manual states for reset (O49); the rows of the profiles and of the time of day complete (O4). -/

namespace Sys2Proof.Machine

/-! What comes after a state: the instant, the boot count and the queue (R9, R54, R68). -/

/-- `u` is no earlier than `s`, counts no fewer boots, and has the same commands waiting. -/
structure State.Precedes (s u : State) : Prop where
  now_le : s.now ≤ u.now
  bootCount_le : s.bootCount ≤ u.bootCount
  pending_eq : u.pending = s.pending

/-- Every next state of an outcome comes after `s`. -/
def OutcomeFollows (s : State) (o : Host.Outcome State Fault Refusal) : Prop := ∀ u, o = .next u → s.Precedes u

/-- A state whose trunk is that of `s` with the instant and the boot count moved on comes after `s`. -/
theorem precedes_of_trunk {s u : State} {n b : Nat} (h : u.trunk = (n, b, s.pending)) (hn : s.now ≤ n)
    (hb : s.bootCount ≤ b) : s.Precedes u := by
  obtain ⟨rfl, rfl, hq⟩ : u.now = n ∧ u.bootCount = b ∧ u.pending = s.pending := by simpa [State.trunk] using h
  exact ⟨hn, hb, hq⟩

theorem State.precedes_start (s : State) (t : Nat) : s.Precedes (s.start t) := ⟨Nat.le_max_left _ _, Nat.le_refl _, rfl⟩

theorem OutcomeKeeps.follows {s : State} {o} (h : OutcomeKeeps s.trunk o) : OutcomeFollows s o :=
  fun u hu => precedes_of_trunk (h.kept u hu) (Nat.le_refl _) (Nat.le_refl _)

theorem OutcomeKeeps.follows_start {s : State} {t : Nat} {o} (h : OutcomeKeeps (s.start t).trunk o) : OutcomeFollows s o :=
  fun u hu => precedes_of_trunk (h.kept u hu) (Nat.le_max_left _ _) (Nat.le_refl _)

/-- A reset of the whole module keeps the instant and the queue, and gives the boot count it is called with (R68, R109). -/
theorem trunk_wholeReset_of_trunk {s u : State} (h : u.trunk = s.trunk) (code boots : Nat) (f : SlotFound) :
    (u.wholeReset code boots f).trunk = (s.now, boots, s.pending) := by
  rw [trunk_wholeReset, now_of_core h, pending_of_core h]

/-- A power-on counts one more boot (R68, R109). -/
theorem trunk_poweredOn (s : State) (f : PowerFound) : (s.poweredOn f).trunk = (s.now, s.bootCount + 1, s.pending) := by
  have h {u : State} (hu : u.trunk = s.trunk) :
      (u.wholeReset 0 (u.bootCount + 1) f.slots).trunk = (s.now, s.bootCount + 1, s.pending) := by
    rw [trunk_wholeReset_of_trunk hu, show u.bootCount = s.bootCount from congrArg (·.2.1) hu]
  simp only [State.poweredOn, trunk_mlog, trunk_raise, trunk_setFld]
  exact h (by simp)

theorem execPowerOn_follows (t : Nat) (f : PowerFound) (s : State) : OutcomeFollows s (execPowerOn t f s) := by
  rintro u ⟨⟩
  split
  · exact s.precedes_start t
  · exact precedes_of_trunk (trunk_poweredOn _ f) (Nat.le_max_left _ _) (Nat.le_succ _)

theorem execDeviceResetFire_follows (t : Nat) (f : SlotFound) (s : State) : OutcomeFollows s (execDeviceResetFire t f s) := by
  rintro u ⟨⟩
  split
  · split
    · refine precedes_of_trunk (n := max s.now t) (b := s.bootCount + 1) ?_ (Nat.le_max_left _ _) (Nat.le_succ _)
      simp only [trunk_raise, trunk_putPower]
      exact trunk_wholeReset_of_trunk (trunk_answerAll _) 1 _ f
    · exact s.precedes_start t
  · exact s.precedes_start t

/-- Whatever a command does, its next state comes after the state before it. Two commands start the module; the instructions of
the engines carry no instant, every other command carries its own. -/
theorem exec_follows (i : Instr) (s : State) : OutcomeFollows s (exec i s) := by
  unfold exec
  cases i with
  | powerOn t f => exact execPowerOn_follows t f s
  | deviceResetFire t f => exact execDeviceResetFire_follows t f s
  | configWrite t | cmdArgWrite t | evtPendClear t | pageLockWrite t | blockReset t | clampClear t | evtTest t | nop t
  | fabricDistribute t | gapRecord t | fabricCountersClear t | profileWrite t | profileApply t | rtcSet t | timeSync t
  | holdoverExpiry t | cycleBoundary t | exchangeDeadline t | receiptDeadline t | exchangeFrame t | receiptFrame t
  | compareFrame t | markFrame t | idleFrame t | helloFrame t | joinFrame t | mirrorFrame t | agreeReady t | agreeCommit t
  | agreeConsent t | agreeConfirm t | linkSignalDetect t | linkTrainDone t | linkTimeout t | freqLimit t | freqLimitClear t
  | bootComplete t | bootWaitExpiry t | joinCommit t | joinLimitExpiry t | joinRetry t | splitPartnerTimeout t | ackRejoin t
  | crossingCountersClear t | takeoverMsWrite t | ownMove t | ownMoveTimeout t | releaseAll t | laneResync t | ownOffer t
  | ownAccept t | ownWithdraw t | ownRequest t | ownArbitration t | ownRetry t | offerExpiry t | requestExpiry t | heartbeat t
  | heartbeatLapse t | takeover t | resetRelease t | laneSupplyAbsent t | laneSupplyPresent t | supplyLost t | crossingStop t
  | laneShutdownDone t | laneResetHoldEnd t | commonRailFall t | laneWatchdog t | laneFatal t | laneOvertemp t
  | laneTempRecover t | mgmtWatchdog t | stageSelfReset t | cellMeasure t | motorBusPresent t | prechargeDone t
  | motorBusAbsent t | busOvervolt t | busOvRecover t | lsRailAbsent t | lsRailPresent t | lsRailOvervolt t
  | fieldSupplyAbsent t | fieldSupplyPresent t | deviceReset t | laneReset t | mgmtReset t | powerDownPrep t | powerDownDone t
  | fieldPowerLimit t | portLinkUp t | portLinkDown t | addressChanged t | announce t | clientHello t | handshakeComplete t
  | handshakeTimeout t | sessionIdleTimeout t | certExpiry t | hanucaRead t | hanucaWrite t | hanucaCommand t | hanucaNop t
  | eventCtrlStop t | eventCtrlStart t | eventCtrlAck t | eventResend t | logOpen t | logRead t | logClose t | logHandleIdle t
  | sessionEnd t | reqHoldTimeout t | portRestart t | consistReport t | cfgClaim t | cfgRelease t | sessionClose t
  | hostCountersClear t | startCle t | stopCle t | faultAck t | cleCountersClear t | holdCle t | resumeCle t | stepCycle t
  | scanEnd t | outputPhaseEnd t | cycleDeadline t | retainCommitDone t | ocLoad t | ocLoadDone t | ocCommit t | ocAbandon t
  | ocHoldExpiry t | avenueSample t | lineTimeout t | mainsCrossingTimeout t | avSrcWrite t | avInWrite t
  | cornerWindowWrite t | cornerSet t | cornerClear t | avenueCountersClear t | moveAbs t | moveRel t | moveVel t
  | motionStop t | quickStop t | groupGo t | disarm t | releaseAxis t | engageAxis t | setPosition t | homeAxis t
  | startLine t | positionLoopTick t | inposReached t | flyMeasureDone t | pushDone t | limitWrite t | switchRawEdge t
  | switchQualified t | homeChatterEnd t | homeDwellDone t | homeTimeout t | enableAxis t | phaseTestDone t | disableAxis t
  | faultReset t | identify t | identifyDone t | currentLoopTick t | velocityLoopTick t | overcurrent t | senseFailure t
  | phaseOpen t | stageOvertemp t | followingError t | angleLost t | brakeChopper t | chopperOvercurrent t | regenLimited t
  | rationRequest t | rationTimeout t | rationConfigWrite t | busOverload t | rationCountersClear t | clearLineFall t
  | fmTeach t | fmRebase t | fmClear t | obsInject t | forceMapWrite t | obsThreshWrite t | edgeMeasure t | edgeActive t
  | edgeRelease t | edgeFault t | edgeFaultRecover t | edgeConfigWrite t | edgeCountersClear t | beamFrame t | beamFallback t
  | beamConfigWrite t | beamDark t | beamDarkDone t | beamCountersClear t | fbProbe t | probeDecision t | probeRetry t
  | sensorDeparted t | serialFrame t | serialFrameStart t | quadEdge t | hallCode t | indexPulse t | lineFault t
  | fbFaultRecover t | sensorSupplyTrip t | fbConfigWrite t | fbCountersClear t | frontEndBurst t | stageBurst t
  | burstMissed t | linkSilence t | inputQualified t | monitoredFault t | monitoredRecover t | outputOverload t | openLoad t
  | outputOvertemp t | bankOverload t | backfeed t | outputRetry t | outSetWrite t | outPulseEnd t | logicSilence t
  | chCfgWrite t | fieldFaultClear t | fieldCountersClear t | lsCmdWrite t | chPwmWrite t | thermalShutdown t
  | thermalCooled t | inrushWindowEnd t | clampEnd t | clampSumExpiry t | senseSlot t | lsFaultClear t | lsCountersClear t
  | kenQualified t | kinQualified t | kerbSilenceTimeout t | kerbSilenceEnd t | kmapWrite t | kerbCountersClear t
  | loopSample t | voltageSample t | loopFault t | loopFaultEnd t | loopOvertemp t | loopTempRecover t | transmitterArrived t
  | transmitterDeparted t | outUaWrite t | loopModeWrite t | loopCountersClear t | canFrameRx t | canTxEnd t | canTxError t
  | canRxError t | canIntegrated t | busoffRecovered t | txGoWrite t | canStageRefresh t | txcAckWrite t | rxAckWrite t
  | txsLatchWrite t | rxsAckWrite t | canModeWrite t | canBoundarySignal t | syncFrameDue t | rollCallRound t
  | rollCallTimeout t | canTransceiverFault t | canRecover t | txAbort t | rollCall t | canCountersClear t | maintEnter t
  | maintExit t | tripAck t | safeTrip t | maintTimeout t | maintKeyLost t | enableWaveLoss t | outDisc t | mirrorCheck t
  | edmCheck t | soDemandWrite t | soReset t | soCountersClear t | tarfevikFrameRx t | tarfevikTxDecide t | connWatchdog t
  | connCountersClear t | segmentWake t | segmentRetention t | btBlock t | btRestart t | memCountersClear t | secureWipe t
  | curdRecord t | mirrorResend t | captureSample t | captureEnd t | vatUnitProgrammed t | vatMountDone t | vatScrub t
  | flushVat t | flushDone t | vatCountersClear t | dumpRequest t | dumpDone t | dumpAbandon t | miniClear t
  | dumpCountersClear t | mgmtLoadCheck t | sensorSample t | telemEntry t | hostMgmtRequest t | minmaxClear t
  | mgmtCountersClear t | ripeningRun t | planRecheck t | ripRun t | ripRebase t | ripSetRef t | updBegin t | updChunk t
  | updVerify t | updVerifyDone t | updActivate t | updStep t | trialConfirmed t | updAbort t | updRollback t | rindBreach t
  | keyGenerationDone t | sealClosed t | sealWaitExpiry t | factoryClose t | provBegin t | certInstall t | anchorSet t
  | provCommit t | reprovision t | eraseKeys t | retire t | grandmasterLost t | chopperModelCooled t | hallFaultClear t
  | fieldOutputFaultEnd t | mirrorBehindTimeout t => exact OutcomeKeeps.follows_start (t := t) (by simp)
  | _ => exact OutcomeKeeps.follows (by simp)

/-- What holds at least of a state holds of every state after it. -/
theorem State.Precedes.atLeast {s u : State} {n b : Nat} (h : s.Precedes u) (hs : s.atLeast n b) : u.atLeast n b :=
  ⟨Nat.le_trans hs.1 h.now_le, Nat.le_trans hs.2.1 h.bootCount_le, h.pending_eq ▸ hs.2.2⟩

/-! The reset state. -/

theorem State.reset_gen_of_pageUsed : ∀ p < 128, pageUsed p = true → State.reset.gen p = 1 := by decide +kernel

/-- Both lanes and their engines are in state 0, and no task runs (R113). -/
theorem State.reset_lane (l : Lane) :
    State.reset.laneState l = 0 ∧ State.reset.pstate (clePage l) = 0 ∧ (State.reset.cle l).running = none := by
  cases l <;> decide +kernel

theorem State.reset_safeOutput : ∀ k < 8, State.reset.soState k = 0 ∧ State.reset.offCause k = 3 := by decide +kernel

theorem State.reset_not_retired : State.reset.retired = false := by decide +kernel

/-! The rows of page 0x00: profiles and the time of day. -/

/-- PROFILE and the override registers of the buses are words of page 0x00 (R68). -/
theorem profileOff_aligned : ∀ reg : Fin 3,
    (if reg.val = 0 then 0x140 else ovrOff (reg.val - 1)) % 4096 / 4 * 4 = if reg.val = 0 then 0x140 else ovrOff (reg.val - 1) := by
  decide

theorem cmdProfileApply_act_pending {s : State} (q : Req) (a b : Nat) (h : s.pstate 0 = 2) :
    let bs := busesOf (a % 4)
    let changed := bs.filter fun b => s.targetDiffers b
    let v := (s.each bs fun x b => (x.applyBus b).recheckLoops b).each changed fun x b => x.recheckPorts b
    let y := v.setPstate 0 (if v.targetDiffers 0 || v.targetDiffers 1 then 2 else 1)
    cmdProfileApply.act s q a b =
      (if changed = [] then y else y.raise 0 0 (changed.foldl (fun m b => m + 2 ^ b) 0), RC.done) := if_pos h

theorem cmdProfileApply_act_running {s : State} (q : Req) (a b : Nat) (h : s.pstate 0 = 1) :
    cmdProfileApply.act s q a b = (s, RC.done) := if_neg (by omega)

/-- A port of the mask in the configured domain is not turned away (R129). -/
theorem timeSync_taken {s : State} {r : SyncReport} (hp : r.port < 4)
    (hm : bitAt (s.fld 5 Pt.PTP_CFG_PORT_MASK) r.port = true) (hd : r.domain = s.fld 5 Pt.PTP_CFG_DOMAIN) :
    ¬(r.port ≥ 4 ∨ (!bitAt (s.fld 5 Pt.PTP_CFG_PORT_MASK) r.port) = true ∨ r.domain ≠ s.fld 5 Pt.PTP_CFG_DOMAIN) := by
  simp [hm, hd, hp]

/-- The end of the holdover while the clock is synchronised (R68). -/
theorem execHoldoverExpiry_due {t x : Nat} {s : State} (hx : (s.start t).host.gmLost = some x)
    (hs : (s.start t).flag 0 Dev.TIME_STATUS_SYNCED = true)
    (hd : x + (s.start t).fld 0 Dev.HOLDOVER_S * 1000000000 ≤ (s.start t).now) :
    execHoldoverExpiry t s =
      .next (((((s.start t).setFld 0 Dev.TIME_STATUS_SYNCED 0).setFld 0 Dev.TIME_STATUS_FROM_RTC 1).bump 0
        Dev.SYNC_LOSS_COUNT).level 0 1 false) := by
  simp only [execHoldoverExpiry, hx, hs, hd, and_self, if_true]

end Sys2Proof.Machine

open Sys2Proof Sys2Proof.Machine

/-- Settles O51: on an empty queue nothing happens; else the next state comes after the one that holds the queue's rest. -/
theorem stepKeepsClockBootsAndQueue : Obligations.StepKeepsClockBootsAndQueue := by
  rintro n b s s' ⟨hn, hb, hw⟩ h
  unfold step at h
  split at h
  case h_1 hq =>
    cases h
    exact ⟨⟨hn, hb, hw⟩, by simp [hq]⟩
  case h_2 c rest hq =>
    have hf : State.Precedes { s with pending := rest } s' := exec_follows c _ s' h
    obtain ⟨-, hr⟩ : c.wellFormed = true ∧ rest.all Instr.wellFormed = true := by
      simpa only [hq, List.all_cons, Bool.and_eq_true] using hw
    exact ⟨hf.atLeast ⟨hn, hb, hr⟩, by rw [hf.pending_eq, hq, List.tail_cons]⟩

/-- Settles O50, by evaluation: the reset state is a literal with an empty queue and an empty register table. -/
theorem resetMeetsTheInvariants : Obligations.ResetMeetsTheInvariants := by
  unfold Obligations.ResetMeetsTheInvariants
  decide +kernel

/-- Settles O49. -/
theorem resetState : Obligations.ResetState :=
  ⟨fun _ _ _ => rfl, State.reset_gen_of_pageUsed, State.reset_lane, State.reset_safeOutput, fun _ => rfl,
    State.reset_not_retired, rfl, rfl, rfl⟩

/-- Settles O4, clause by clause: each row under its hypotheses takes the branch that carries it out. -/
theorem deviceTimeComplete : Obligations.DeviceTimeComplete := by
  refine ⟨?profileWrite, ?applyPending, ?applyRunning, ?rtcSet, ?timeSync, ?grandmasterLost, ?holdoverExpiry⟩
  case profileWrite =>
    intro t code gen reg value s u w h
    exact congrArg _ (State.write_done (w := w) (profileOff_aligned reg) (by decide : pageUsed 0 = true) h)
  case applyPending =>
    intro t q s u bs changed v y h hp
    exact congrArg _ (State.command_done h (cmdProfileApply_act_pending q _ _ hp))
  case applyRunning =>
    intro t q s u h hp
    exact congrArg _ (State.command_done h (cmdProfileApply_act_running q _ _ hp))
  case rtcSet =>
    intro t q s u n v h
    exact congrArg _ (State.command_done h rfl)
  case timeSync =>
    intro t port domain delayNs gmId gmTime s u off v1 v2 v3 v4 v5 hm hd
    exact congrArg _ (if_neg (timeSync_taken (r := ⟨port, domain, delayNs, gmId, gmTime⟩) port.isLt hm hd))
  case grandmasterLost =>
    intro t s u h
    exact congrArg _ (if_pos h)
  case holdoverExpiry =>
    intro t x s u
    exact execHoldoverExpiry_due

end

section
/-! PROOF. What a field reads after another field of its word is written (R3). -/

namespace Sys2Proof.Machine

/-- A field is read from the low bits of its word. -/
theorem bitsOf_eq_of_mod_eq {w x : Word} {hi lo : Nat} (hl : lo ≤ hi)
    (h : w.toNat % 2 ^ (hi + 1) = x.toNat % 2 ^ (hi + 1)) : bitsOf w hi lo = bitsOf x hi lo := by
  have hs : 2 ^ (hi + 1) = 2 ^ lo * 2 ^ (hi + 1 - lo) := by rw [← Nat.pow_add]; congr 1; omega
  unfold bitsOf
  rw [← Nat.mod_mul_right_div_self, ← Nat.mod_mul_right_div_self, ← hs, h]

/-- Bits written above a field leave the field. -/
theorem bitsOf_putBits_of_lt (w : Word) (v : Nat) {hi lo hi' lo' : Nat} (hl' : lo' ≤ hi') (h : hi' < lo) (hl : lo ≤ hi)
    (h32 : hi' < 32) : bitsOf (putBits w hi lo v) hi' lo' = bitsOf w hi' lo' := by
  refine bitsOf_eq_of_mod_eq hl' ?_
  have dlo : 2 ^ (hi' + 1) ∣ 2 ^ lo := Nat.pow_dvd_pow 2 h
  have dhi : 2 ^ (hi' + 1) ∣ 2 ^ (hi + 1) := Nat.pow_dvd_pow 2 (by omega)
  rw [putBits, BitVec.toNat_ofNat, Nat.mod_mod_of_dvd _ (Nat.pow_dvd_pow 2 h32)]
  have middle : v % 2 ^ (hi + 1 - lo) * 2 ^ lo % 2 ^ (hi' + 1) = 0 := Nat.mod_eq_zero_of_dvd (Nat.dvd_mul_left_of_dvd dlo _)
  have top : w.toNat / 2 ^ (hi + 1) * 2 ^ (hi + 1) % 2 ^ (hi' + 1) = 0 := Nat.mod_eq_zero_of_dvd (Nat.dvd_mul_left_of_dvd dhi _)
  rw [Nat.succ_eq_add_one, Nat.add_mod, top, Nat.add_zero, Nat.mod_mod, Nat.add_mod, middle, Nat.add_zero, Nat.mod_mod,
    Nat.mod_mod_of_dvd _ dlo]

/-- Bits written leave what stands above them in the word. -/
theorem toNat_putBits_div (w : Word) (v : Nat) {hi lo : Nat} (hl : lo ≤ hi) (h32 : hi < 32) :
    (putBits w hi lo v).toNat / 2 ^ (hi + 1) = w.toNat / 2 ^ (hi + 1) := by
  have hs : 2 ^ (hi + 1 - lo) * 2 ^ lo = 2 ^ (hi + 1) := by rw [← Nat.pow_add]; congr 1; omega
  have ht : 2 ^ 32 = 2 ^ (hi + 1) * 2 ^ (31 - hi) := by rw [← Nat.pow_add]; congr 1; omega
  have low : w.toNat % 2 ^ lo + v % 2 ^ (hi + 1 - lo) * 2 ^ lo < 2 ^ (hi + 1) := by
    rw [← hs, ← Nat.div_lt_iff_lt_mul (Nat.two_pow_pos lo), Nat.add_mul_div_right _ _ (Nat.two_pow_pos lo),
      Nat.div_eq_of_lt (Nat.mod_lt _ (Nat.two_pow_pos lo)), Nat.zero_add]
    exact Nat.mod_lt _ (Nat.two_pow_pos _)
  have high : w.toNat / 2 ^ (hi + 1) < 2 ^ (31 - hi) := Nat.div_lt_of_lt_mul (ht ▸ w.isLt)
  rw [putBits, BitVec.toNat_ofNat, ht, Nat.mod_mul_right_div_self, Nat.add_mul_div_right _ _ (Nat.two_pow_pos _),
    Nat.div_eq_of_lt low, Nat.zero_add, Nat.mod_eq_of_lt high]

/-- Bits written below a field leave the field. -/
theorem bitsOf_putBits_of_gt (w : Word) (v : Nat) {hi lo hi' lo' : Nat} (hl : lo ≤ hi) (h : hi < lo') (h32 : hi < 32) :
    bitsOf (putBits w hi lo v) hi' lo' = bitsOf w hi' lo' := by
  have hs : 2 ^ lo' = 2 ^ (hi + 1) * 2 ^ (lo' - (hi + 1)) := by rw [← Nat.pow_add]; congr 1; omega
  unfold bitsOf
  rw [hs, ← Nat.div_div_eq_div_mul, ← Nat.div_div_eq_div_mul, toNat_putBits_div w v hl h32]

section
variable {s : State} {page page' : Nat} {f f' : Field} {v i j i' j' : Nat}

theorem State.fld_setFld_of_key_eq (hk : Reg.key page' (f'.pos i' j') 0 = Reg.key page (f.pos i j) 0) :
    (s.setFld page f v i j).fld page' f' i' j' = bitsOf (putBits (s.reg page' (f'.pos i' j')) f.hi f.lo v) f'.hi f'.lo := by
  unfold State.setFld State.fld
  rw [State.reg_setReg, if_pos hk]
  simp only [State.reg, hk]

/-- A field written above another one of its word leaves that one. -/
theorem State.fld_setFld_of_lt (hk : Reg.key page' (f'.pos i' j') 0 = Reg.key page (f.pos i j) 0) (hl' : f'.lo ≤ f'.hi)
    (h : f'.hi < f.lo) (hl : f.lo ≤ f.hi) (h32 : f'.hi < 32) :
    (s.setFld page f v i j).fld page' f' i' j' = s.fld page' f' i' j' := by
  rw [State.fld_setFld_of_key_eq hk, bitsOf_putBits_of_lt _ _ hl' h hl h32, State.fld]

/-- A field written below another one of its word leaves that one. -/
theorem State.fld_setFld_of_gt (hk : Reg.key page' (f'.pos i' j') 0 = Reg.key page (f.pos i j) 0) (hl : f.lo ≤ f.hi)
    (h : f.hi < f'.lo) (h32 : f.hi < 32) :
    (s.setFld page f v i j).fld page' f' i' j' = s.fld page' f' i' j' := by
  rw [State.fld_setFld_of_key_eq hk, bitsOf_putBits_of_gt _ _ hl h h32, State.fld]

end

end Sys2Proof.Machine
end

section
/-! PROOF. Once the outputs have been driven, each that is ON has the enables of both lanes (R487, R493; O60). -/

namespace Sys2Proof.Machine

/-! What an output's state and enables rest on, and what leaves it as it is. -/

/-- The key of the word that holds an output's state. -/
def soKey (j : Nat) : Nat := Reg.key 0x62 (So.SO_STATUS_STATE.pos j) 0

/-- The lanes' halves and the state of an output (R487, R498). -/
def State.relay (s : State) (j : Nat) : PerLane HalfRec × Nat := (s.safe.halves, s.soState j)

theorem State.halves_of_relay_eq {s : State} {j v : Nat} {p : PerLane HalfRec} (h : s.relay j = (p, v)) : s.safe.halves = p :=
  (Prod.mk.inj h).1

theorem State.soState_of_relay_eq {s : State} {j v : Nat} {p : PerLane HalfRec} (h : s.relay j = (p, v)) : s.soState j = v :=
  (Prod.mk.inj h).2

/-- An output that is ON has the enables of both lanes. -/
def State.RelayHeld (s : State) (j : Nat) : Prop := s.soState j = 1 → s.enable .a j = true ∧ s.enable .b j = true

theorem State.enable_of_halves_eq {s u : State} (h : u.safe.halves = s.safe.halves) (l : Lane) (j : Nat) :
    u.enable l j = s.enable l j := by
  simp only [State.enable, State.half, h]

theorem State.relayHeld_congr {s u : State} {j : Nat} (h : u.relay j = s.relay j) : u.RelayHeld j ↔ s.RelayHeld j := by
  simp only [State.RelayHeld, State.soState_of_relay_eq h, State.enable_of_halves_eq (State.halves_of_relay_eq h)]

/-- A field that lies in another word than an output's state, or above it in the same word, leaves the output. -/
theorem State.relay_setFld {s : State} {page : Nat} {f : Field} {v i i' j : Nat}
    (h : Reg.key page (f.pos i i') 0 = soKey j → 1 < f.lo ∧ f.lo ≤ f.hi) : (s.setFld page f v i i').relay j = s.relay j := by
  refine Prod.ext rfl ?_
  by_cases hk : Reg.key page (f.pos i i') 0 = soKey j
  · exact State.fld_setFld_of_lt hk.symm (by decide) (h hk).1 (h hk).2 (by decide)
  · exact State.fld_setFld_of_ne _ _ _ _ _ _ _ _ _ _ (Ne.symm hk)

theorem State.relay_foldl {α : Type} {f : State → α → State} {j : Nat} (h : ∀ s x, (f s x).relay j = s.relay j) (xs : List α)
    (s : State) : (xs.foldl f s).relay j = s.relay j := by
  induction xs generalizing s with
  | nil => rfl
  | cons x xs ih => rw [List.foldl_cons, ih, h]

/-! Events leave every output: they change words of the header of a page and of page 0x7E, which hold no state of one. -/

section
variable {j : Nat} (hj : j < 8)
include hj

/-- A word below offset 0x400 of any page, and a word of page 0x7E, holds no output's state. -/
theorem Reg.key_ne_soKey {page off : Nat} (h : off < 0x400 ∨ page = 0x7E) : Reg.key page off 0 ≠ soKey j := by
  simp only [soKey, Reg.key, Field.pos, So.SO_STATUS_STATE]
  omega

theorem State.relay_setFld_of_off_lt {s : State} {page : Nat} {f : Field} {v : Nat} (h : f.off < 0x400) :
    (s.setFld page f v).relay j = s.relay j :=
  State.relay_setFld fun hk => absurd hk (Reg.key_ne_soKey hj (.inl (by simpa [Field.pos] using h)))

theorem State.relay_setFld_fabric {s : State} {f : Field} {v i i' : Nat} : (s.setFld 0x7E f v i i').relay j = s.relay j :=
  State.relay_setFld fun hk => absurd hk (Reg.key_ne_soKey hj (.inr rfl))

theorem State.relay_dropFor (s : State) (r : EvtRec) (d : Nat) : (s.dropFor r d).relay j = s.relay j := by
  unfold State.dropFor State.bump
  simp only [State.relay_setFld_fabric hj]
  rfl

theorem State.relay_produce (s : State) (r : EvtRec) (ds : List Nat) : (s.produce r ds).relay j = s.relay j := by
  unfold State.produce
  dsimp only
  split
  · rfl
  · exact State.relay_foldl (fun u d => State.relay_dropFor hj u r d) ds _

omit hj in
theorem State.relay_postCle (s : State) (page bit : Nat) : (s.postCle page bit).relay j = s.relay j := by
  unfold State.postCle
  split <;> rfl

theorem State.relay_produceLoud (s : State) (r : EvtRec) (ds : List Nat) : (s.produceLoud r ds).relay j = s.relay j := by
  unfold State.produceLoud
  dsimp only
  split
  · refine (State.relay_foldl (fun u d => ?_) ds _).trans (State.relay_produce hj s r ds)
    split
    · rw [State.relay_postCle, State.relay_produce hj, State.relay_setFld_fabric hj]
    · exact State.relay_setFld_fabric hj
  · exact State.relay_produce hj s r ds

theorem State.relay_occur (s : State) (page bit arg : Nat) (test : Bool) : (s.occur page bit arg test).relay j = s.relay j := by
  have hp {v : Nat} : (s.setFld page Hd.EVT_PEND v).relay j = s.relay j := State.relay_setFld_of_off_lt hj (by decide)
  unfold State.occur
  dsimp only
  split
  · rw [State.relay_postCle, State.relay_produceLoud hj, hp]
  · exact hp

theorem State.relay_raise (s : State) (page bit arg : Nat) : (s.raise page bit arg).relay j = s.relay j :=
  State.relay_occur hj s page bit _ false

theorem State.relay_level (s : State) (page bit : Nat) (on : Bool) (arg : Nat) : (s.level page bit on arg).relay j = s.relay j := by
  have hr {v : Nat} : (s.setFld page Hd.EVT_RAW v).relay j = s.relay j := State.relay_setFld_of_off_lt hj (by decide)
  unfold State.level
  dsimp only
  split
  · rw [State.relay_occur hj, hr]
  · exact hr

/-! Driving one output. -/

theorem State.relay_showOutputs (s : State) (arg : Nat) : (s.showOutputs arg).relay j = s.relay j := by
  unfold State.showOutputs
  dsimp only
  rw [State.relay_level hj, State.relay_setFld_of_off_lt hj (by decide), State.relay_setFld_of_off_lt hj (by decide),
    State.relay_setFld_of_off_lt hj (by decide), State.relay_setFld_of_off_lt hj (by decide)]

end

/-- A field of output `k` is not the state of output `j`: it stands elsewhere in the block of 64 bytes, or `j` is another one, or
it lies above the state. -/
theorem State.relay_setSoFld {s : State} {f : Field} {v k j : Nat} (hf : 0x400 ≤ f.off ∧ f.off < 0x440 ∧ f.stride = 64)
    (h : f.off % 4 = 0 ∧ (f.off ≠ 0x420 ∨ k ≠ j ∨ 1 < f.lo ∧ f.lo ≤ f.hi)) : (s.setFld 0x62 f v k).relay j = s.relay j := by
  refine State.relay_setFld fun hk => ?_
  obtain ⟨h1, h2, h3⟩ := hf
  simp only [soKey, Reg.key, Field.pos, So.SO_STATUS_STATE, h3] at hk
  omega

theorem State.relay_setSo (s : State) (k : Nat) (o : SoRec) (j : Nat) : (s.setSo k o).relay j = s.relay j := rfl

/-- The state of an output after its state field is written. -/
theorem State.soState_setFld (s : State) (k v : Nat) (h : v < 4) : (s.setFld 0x62 So.SO_STATUS_STATE v k).soState k = v :=
  (State.fld_setFld_same s 0x62 So.SO_STATUS_STATE v k 0 (by decide) (by decide)).trans (Nat.mod_eq_of_lt h)

/-- The coils and the counter of an output that enters ON or leaves it (R498). -/
def State.moveCoils (s : State) (k old v : Nat) : State :=
  if v = 1 then
    (s.bump 0x62 So.SWITCHINGS k).setSo k
      { s.so k with coilAt := some s.now, onAt := s.now, pulled := false, dropAt := none, releaseAt := none }
  else if old = 1 then s.setSo k { s.so k with coilAt := some s.now, dropAt := some s.now, releaseAt := some s.now }
  else s

theorem State.setSoState_eq (s : State) (k v arg : Nat) :
    s.setSoState k v arg =
      if s.soState k = v then s
      else (((s.setFld 0x62 So.SO_STATUS_STATE v k).raise 0x62 0 (k * 2 ^ 8 + s.soState k * 2 ^ 4 + v)).moveCoils k (s.soState k)
        v).showOutputs arg := rfl

theorem State.relay_moveCoils (s : State) (k old v j : Nat) : (s.moveCoils k old v).relay j = s.relay j := by
  unfold State.moveCoils
  split
  · rw [State.relay_setSo]
    exact State.relay_setSoFld (by decide) ⟨by decide, .inl (by decide)⟩
  · split <;> rfl

/-- An output that enters a state leaves the other outputs. -/
theorem State.relay_setSoState_of_ne {j k : Nat} (hj : j < 8) (h : k ≠ j) (s : State) (v arg : Nat) :
    (s.setSoState k v arg).relay j = s.relay j := by
  rw [State.setSoState_eq]
  split
  · rfl
  · rw [State.relay_showOutputs hj, State.relay_moveCoils, State.relay_raise hj]
    exact State.relay_setSoFld (by decide) ⟨by decide, .inr (.inl h)⟩

/-- An output that enters a state is in it, and the halves stay. -/
theorem State.relay_setSoState_same {k v : Nat} (hk : k < 8) (hv : v < 4) (s : State) (arg : Nat) :
    (s.setSoState k v arg).relay k = (s.safe.halves, v) := by
  rw [State.setSoState_eq]
  split
  case isTrue h => exact Prod.ext rfl h
  case isFalse =>
    rw [State.relay_showOutputs hk, State.relay_moveCoils, State.relay_raise hk]
    exact Prod.ext rfl (s.soState_setFld k v hv)

/-- An output whose check failed, its cause counted (R496-R498). -/
def State.noteFault (s : State) (k cause : Nat) : State :=
  let s := (s.setFld 0x62 So.SO_STATUS_CAUSE cause k).bump 0x62 So.FAULT_COUNT k
  if s.soState k = 1 then s.setFld 0x62 So.LAST_OFF_CAUSE 5 k else s

theorem State.soFault_eq (s : State) (k cause : Nat) :
    s.soFault k cause = if s.soState k = 2 then s else (s.noteFault k cause).setSoState k 2 (k * 2 ^ 8 + cause) := rfl

theorem State.relay_noteFault (s : State) (k cause j : Nat) : (s.noteFault k cause).relay j = s.relay j := by
  have hc : ((s.setFld 0x62 So.SO_STATUS_CAUSE cause k).bump 0x62 So.FAULT_COUNT k).relay j = s.relay j := by
    unfold State.bump
    rw [State.relay_setSoFld (by decide) ⟨by decide, .inl (by decide)⟩]
    exact State.relay_setSoFld (by decide) ⟨by decide, .inr (.inr (by decide))⟩
  unfold State.noteFault
  dsimp only
  split
  · rw [State.relay_setSoFld (by decide) ⟨by decide, .inl (by decide)⟩, hc]
  · exact hc

theorem State.relay_soFault_of_ne {j k : Nat} (hj : j < 8) (h : k ≠ j) (s : State) (cause : Nat) :
    (s.soFault k cause).relay j = s.relay j := by
  rw [State.soFault_eq]
  split
  · rfl
  · rw [State.relay_setSoState_of_ne hj h, State.relay_noteFault]

/-- An output that fails its check is in FAULT, and the halves stay. -/
theorem State.relay_soFault_same {k : Nat} (hk : k < 8) (s : State) (cause : Nat) :
    (s.soFault k cause).relay k = (s.safe.halves, 2) := by
  rw [State.soFault_eq]
  split
  case isTrue h => exact Prod.ext rfl h
  case isFalse =>
    rw [State.relay_setSoState_same hk (by decide), State.halves_of_relay_eq (s.relay_noteFault k cause k)]

/-- The enables of an output read, and the begin of a discrepancy (R493, R495). -/
def State.readEnables (s : State) (k : Nat) : State :=
  let a := s.enable .a k
  let b := s.enable .b k
  let s := (s.setFld 0x62 So.SO_STATUS_ENA_A (bool01 a) k).setFld 0x62 So.SO_STATUS_ENA_B (bool01 b) k
  s.setSo k { s.so k with discAt := if a != b then some ((s.so k).discAt.getD s.now) else none }

/-- An output switched as its gates ask (R497, R498). -/
def State.switchSo (s : State) (k : Nat) : State :=
  if s.soState k = 1 ∧ s.offCause k ≠ 0 then (s.setFld 0x62 So.LAST_OFF_CAUSE (s.offCause k) k).setSoState k 0 0
  else if s.soState k = 0 ∧ s.offCause k = 0 then
    if s.flag 0x62 So.SO_CFG_EDM_ENA k && !s.flag 0x62 So.SO_STATUS_EDM k then s.soFault k 4 else s.setSoState k 1 0
  else s

theorem State.driveSo_eq (s : State) (k : Nat) : s.driveSo k = ((s.readEnables k).switchSo k).showOutputs 0 := rfl

theorem State.relay_readEnables (s : State) (k j : Nat) : (s.readEnables k).relay j = s.relay j := by
  unfold State.readEnables
  dsimp only
  rw [State.relay_setSo, State.relay_setSoFld (by decide) ⟨by decide, .inr (.inr (by decide))⟩]
  exact State.relay_setSoFld (by decide) ⟨by decide, .inr (.inr (by decide))⟩

theorem State.relay_switchSo_of_ne {j k : Nat} (hj : j < 8) (h : k ≠ j) (s : State) : (s.switchSo k).relay j = s.relay j := by
  unfold State.switchSo
  split
  · rw [State.relay_setSoState_of_ne hj h]
    exact State.relay_setSoFld (by decide) ⟨by decide, .inl (by decide)⟩
  · split
    · split
      · exact State.relay_soFault_of_ne hj h s 4
      · exact State.relay_setSoState_of_ne hj h s 1 0
    · rfl

/-- An output without a cause to be off has both enables (R493). -/
theorem State.enables_of_offCause_eq_zero {s : State} {k : Nat} (h : s.offCause k = 0) :
    s.enable .a k = true ∧ s.enable .b k = true := by
  unfold State.offCause at h
  split at h
  case h_4 ha hb => exact ⟨ha, hb⟩
  all_goals cases h

theorem State.relayHeld_of_enables {s u : State} {j : Nat} (h : s.enable .a j = true ∧ s.enable .b j = true)
    (hh : u.safe.halves = s.safe.halves) : u.RelayHeld j := fun _ => by
  simpa only [State.enable_of_halves_eq hh] using h

theorem State.relayHeld_of_off {s : State} {j : Nat} (h : s.soState j ≠ 1) : s.RelayHeld j := fun h1 => absurd h1 h

/-- An output switched as its gates ask is ON with both enables alone: with a cause to be off it leaves ON, and it enters ON
without one. -/
theorem State.relayHeld_switchSo {k : Nat} (hk : k < 8) (s : State) : (s.switchSo k).RelayHeld k := by
  unfold State.switchSo
  split
  case isTrue =>
    have h : ((s.setFld 0x62 So.LAST_OFF_CAUSE (s.offCause k) k).setSoState k 0 0).soState k = 0 :=
      State.soState_of_relay_eq (State.relay_setSoState_same hk (by decide) _ 0)
    exact State.relayHeld_of_off (by rw [h]; decide)
  case isFalse hStay =>
    split
    case isTrue hOn =>
      have he := State.enables_of_offCause_eq_zero hOn.2
      split
      · exact State.relayHeld_of_enables he (State.halves_of_relay_eq (State.relay_soFault_same hk s 4))
      · exact State.relayHeld_of_enables he (State.halves_of_relay_eq (State.relay_setSoState_same hk (by decide) s 0))
    case isFalse =>
      intro h1
      exact State.enables_of_offCause_eq_zero (Decidable.not_not.mp fun hc => hStay ⟨h1, hc⟩)

theorem State.relay_driveSo_of_ne {j k : Nat} (hj : j < 8) (h : k ≠ j) (s : State) : (s.driveSo k).relay j = s.relay j := by
  rw [State.driveSo_eq, State.relay_showOutputs hj, State.relay_switchSo_of_ne hj h, State.relay_readEnables]

theorem State.relayHeld_driveSo {k : Nat} (hk : k < 8) (s : State) : (s.driveSo k).RelayHeld k := by
  rw [State.driveSo_eq, State.relayHeld_congr (State.relay_showOutputs hk _ 0)]
  exact State.relayHeld_switchSo hk _

/-- Driving a list of outputs leaves each one held that was driven or held before. -/
theorem State.relayHeld_each_driveSo {j : Nat} (hj : j < 8) (ks : List Nat) (s : State) (h : j ∈ ks ∨ s.RelayHeld j) :
    (s.each ks State.driveSo).RelayHeld j := by
  induction ks generalizing s with
  | nil => exact h.resolve_left List.not_mem_nil
  | cons k ks ih =>
    rw [State.each, List.foldl_cons]
    refine ih (s.driveSo k) ?_
    by_cases hk : k = j
    · exact .inr (hk ▸ State.relayHeld_driveSo (hk ▸ hj) s)
    · rw [State.relayHeld_congr (State.relay_driveSo_of_ne hj hk s)]
      exact h.imp_left fun hm => (List.mem_cons.mp hm).resolve_left (Ne.symm hk)

/-- Once all outputs have been driven, each that is ON has the enables of both lanes (R487, R493). -/
theorem State.relayHeld_driveOutputs {j : Nat} (hj : j < 8) (s : State) : s.driveOutputs.RelayHeld j :=
  State.relayHeld_each_driveSo hj _ s (.inl (List.mem_range.mpr hj))

end Sys2Proof.Machine

open Sys2Proof Sys2Proof.Machine

/-- Settles O60: a change of an enable wave drives every output again. -/
theorem safeRelaysNeedTheirLane : Obligations.SafeRelaysNeedTheirLane :=
  fun _ _ _ _ _ => ⟨_, rfl, fun _ hj => State.relayHeld_driveOutputs hj _⟩

end

section
/-! PROOF. The rows of the cycle boundary, the exchange and the comparison (O5), and of heartbeats and takeovers (O9): under the
conditions of a row's rule the row takes the branch that carries it out. -/

namespace Sys2Proof.Machine

/-! Heartbeats and takeovers. -/

/-- A heartbeat that a resource hears from an absent lane with a count that has advanced (R86). -/
theorem execHeartbeat_advanced {t page count : Nat} {l : Lane} {s : State} (ho : (pageKind page).owned = true)
    (hs : ((s.start t).lane l).heartbeats = true) (hp : ((s.start t).beat page l).present = false)
    (hc : ((s.start t).beat page l).count ≠ some (count % 256)) (h48 : page ≠ 0x48) :
    let u := s.start t
    let v := u.setBeat page l { u.beat page l with
      count := some (count % 256), state := u.laneState l, present := true, since := u.now, last := u.now }
    execHeartbeat t l page count s =
      .next (if v.owner page = l.num then v.setRes page { v.resRec page with accepted := true } else v) := by
  have fresh : (((s.start t).beat page l).count != some (count % 256)) = true := bne_iff_ne.mpr hc
  simp only [execHeartbeat, ho, hs, hp, fresh, h48, Bool.true_or, Bool.or_true, Bool.not_true, Bool.not_false, Bool.and_self,
    Bool.or_false, Bool.false_eq_true, if_false, if_true, ne_eq, not_false_eq_true, true_and, and_true]

/-- A takeover whose conditions have stood for TAKEOVER_MS (R87). -/
theorem execTakeover_due {t page : Nat} {l : Lane} {s : State} (hl : laneOf? ((s.start t).owner page) = some l)
    (hp : ((s.start t).beat page l).present = false) (ho : ((s.start t).beat page l.other).present = true)
    (hs : ((s.start t).beat page l).since + (s.start t).takeoverNs ≤ (s.start t).now)
    (hs' : ((s.start t).beat page l.other).since + (s.start t).takeoverNs ≤ (s.start t).now) :
    execTakeover t page s = .next (((s.start t).changeOwner page l.other 2).settleErrands) := by
  have due : max ((s.start t).beat page l).since ((s.start t).beat page l.other).since + (s.start t).takeoverNs ≤ (s.start t).now := by
    omega
  simp only [execTakeover, hl, hp, ho, due, Bool.not_false, and_self, if_true]

/-! The boundary, the exchange and the comparison. -/

/-- A boundary at its due instant, of a lane whose CLE is not in RUN and that holds no early frame (R17, R164). -/
theorem execCycleBoundary_due {t b : Nat} {l : Lane} {x : LaneSense} {s : State} :
    let u := s.start t
    let v := (u.senses l x).memSenses l x
    (u.cle l).nextTb = some b → b ≤ u.now + u.cyclePeriod l / 20 → 3 ≤ u.laneState l → 3 ≤ v.laneState l →
    v.pstate (clePage l) ≠ 2 → (v.cle l).early = none →
    execCycleBoundary t l x s =
      .next ((let y := v.setCle l { v.cle l with lastTb := v.now, early := none }
        y.setCle l { y.cle l with nextTb := some (y.now + y.cyclePeriod l * 1000) }).atBoundary l) := by
  intro u v hb hd hl hl' hp he
  have due : ¬(u.laneState l < 3 ∨ (!decide (b ≤ u.now + u.cyclePeriod l / 20)) = true) := by simp [hl, hd]
  have runs : ¬v.laneState l < 3 := Nat.not_lt.mpr hl'
  have idle : (v.pstate (clePage l) == 2) = false := beq_eq_false_iff_ne.mpr hp
  unfold execCycleBoundary
  simp only [← show u = s.start t from rfl, ← show v = (u.senses l x).memSenses l x from rfl, hb, due, runs, idle, he,
    Bool.false_and, Bool.false_eq_true, if_false]

/-- The receipt that a lane sends for an exchange whose frame came (R17, R21). -/
theorem execExchangeDeadline_came {t : Nat} {l : Lane} {s : State} :
    let u := s.start t
    (u.cle l).owesReceipt = true → (u.cle l).lastTb + 20000 ≤ u.now → (u.cle l).got.isSome = true →
    execExchangeDeadline t l s =
      .next (((u.setCle l { u.cle l with owesReceipt := false }).sendFrame l 3 [1]).settleExchange l) := by
  intro u ho hd hg
  have due : ¬(!(u.cle l).owesReceipt || decide (u.now < (u.cle l).lastTb + 20000)) = true := by simp [ho, hd]
  unfold execExchangeDeadline
  simp only [← show u = s.start t from rfl, if_neg due, hg, if_true, bool01]

/-- The receipt deadline of an exchange whose own receipt is known (R17, R21). -/
theorem execReceiptDeadline_open {t : Nat} {l : Lane} {s : State} :
    let u := s.start t
    (u.cle l).exchOpen = true → (u.cle l).lastTb + 24000 ≤ u.now → (u.cle l).sentReceipt.isSome = true →
    execReceiptDeadline t l s = .next (u.settleExchange l true) := by
  intro u ho hd hs
  have due : ¬(!(u.cle l).exchOpen || decide (u.now < (u.cle l).lastTb + 24000)) = true := by simp [ho, hd]
  exact congrArg _ ((if_neg due).trans (congrArg (State.settleExchange · l true) (if_pos hs)))

/-- An EXCHANGE frame that the other lane takes for its open exchange (R17, R18). -/
theorem execExchangeFrame_taken {t : Nat} {l : Lane} {c : Copies} {s : State} :
    let u := s.start t
    let o := l.other
    let v := (u.receiveFrame o c).1
    (u.receiveFrame o c).2 = true →
    (u.cle l).nextTb.isSome = true → 3 ≤ u.laneState l → u.now ≤ (u.cle l).lastTb + 20000 → 3 ≤ v.laneState o →
    (v.cle o).exchOpen = true → (v.cle o).got = none → (v.cle o).sentReceipt = none → v.now ≤ (v.cle o).lastTb + 20000 →
    execExchangeFrame t l c s = .next ((v.takeFrame l (u.cle l).sent).settleExchange o) := by
  intro u o v hr hb hl hn hl' ho hg hs hn'
  have fresh : ¬(!((u.cle l).nextTb.isSome && decide (3 ≤ u.laneState l ∧ u.now ≤ (u.cle l).lastTb + 20000))) = true := by
    simp [hb, hl, hn]
  have heard : ¬(!(u.receiveFrame o c).2 || decide (v.laneState o < 3)) = true := by simp [hr, hl']
  have awaited : ((v.cle o).exchOpen && (v.cle o).got.isNone && (v.cle o).sentReceipt.isNone
      && decide (v.now ≤ (v.cle o).lastTb + 20000)) = true := by simp [ho, hg, hs, hn']
  exact congrArg _ ((if_neg fresh).trans ((if_neg heard).trans (if_pos awaited)))

/-- A RECEIPT for a frame that came, taken by its deadline (R17, R21). -/
theorem execReceiptFrame_taken {t : Nat} {l : Lane} {c : Copies} {s : State} :
    let u := s.start t
    let o := l.other
    let v := (u.receiveFrame o c).1
    (u.receiveFrame o c).2 = true →
    (u.cle l).owesReceipt = false → (u.cle l).sentReceipt = some true → (v.cle o).exchOpen = true → (v.cle o).receipt = none →
    v.now ≤ (v.cle o).lastTb + 24000 →
    execReceiptFrame t l c s = .next ((v.setCle o { v.cle o with receipt := some true }).settleExchange o) := by
  intro u o v hr hw hs ho hn hd
  have awaited : ¬(!(v.cle o).exchOpen || (v.cle o).receipt.isSome || decide ((v.cle o).lastTb + 24000 < v.now)
      || !(u.receiveFrame o c).2) = true := by simp [ho, hn, hd, hr]
  unfold execReceiptFrame
  simp only [← show u = s.start t from rfl, hw, hs, Bool.false_eq_true, if_false]
  exact congrArg _ (if_neg awaited)

/-- A COMPARE frame of which a good copy came (R22, R194). -/
theorem execCompareFrame_taken {t : Nat} {l : Lane} {c : Copies} {f : Nat × List Word} {s : State} :
    let u := s.start t
    let o := l.other
    let v := (u.receiveFrame o c).1
    (u.receiveFrame o c).2 = true → (u.cle l).compareSent = some f →
    execCompareFrame t l c s = .next ((v.setCle o { v.cle o with compareGot := some f }).compareNow o) := by
  intro u o v hr hs
  simp only [execCompareFrame, ← show u = s.start t from rfl, hs]
  exact congrArg _ (if_pos hr)

/-- A commit whose bytes are all written, its buffer not one written whole in a new layout (R191). -/
theorem execRetainCommitDone_due {t : Nat} {l : Lane} {m : Commit} {s : State} :
    let u := s.start t
    let p := clePage l
    let us := saturate 16 ((u.now - m.since) / 1000)
    (u.cle l).commit = some m → m.since + 5 * m.bytes ≤ u.now → m.snap.full = false →
    execRetainCommitDone t l s =
      .next (let v := u.setCle l ({ u.cle l with commit := none }.setSnap m.buf m.snap)
        let v := v.setFld p Ce.RETAIN_COMMIT_LAST_US us
        v.setFld p Ce.RETAIN_COMMIT_MAX_US (max us (v.fld p Ce.RETAIN_COMMIT_MAX_US))) := by
  intro u p us hc hd hf
  have done : ¬u.now < m.since + 5 * m.bytes := Nat.not_lt.mpr hd
  have longest (v : State) : (v.setFld p Ce.RETAIN_COMMIT_LAST_US us).fld p Ce.RETAIN_COMMIT_MAX_US =
      v.fld p Ce.RETAIN_COMMIT_MAX_US := State.fld_setFld_of_gt rfl (by decide) (by decide) (by decide)
  simp only [longest]
  simp only [execRetainCommitDone, ← show u = s.start t from rfl, hc, done, hf, if_false, Bool.false_eq_true, p, us]

end Sys2Proof.Machine

open Sys2Proof Sys2Proof.Machine

/-- Settles O5, row by row: each row under its hypotheses takes the branch that carries it out. -/
theorem exchangeRowsComplete : Obligations.ExchangeRowsComplete := by
  refine ⟨?boundary, ?exchangeDeadline, ?receiptDeadline, ?exchange, ?receipt, ?compare, ?outputEnd, ?cycleDeadline, ?commitDone⟩
  case boundary => exact fun _ _ _ _ _ => execCycleBoundary_due
  case exchangeDeadline => exact fun _ _ _ => execExchangeDeadline_came
  case receiptDeadline => exact fun _ _ _ => execReceiptDeadline_open
  case exchange => exact fun _ _ _ _ => execExchangeFrame_taken
  case receipt => exact fun _ _ _ _ => execReceiptFrame_taken
  case compare => exact fun _ _ _ _ _ => execCompareFrame_taken
  case outputEnd =>
    intro t l s u hr hp hd
    exact congrArg _ ((if_neg (not_or.mpr ⟨Decidable.not_not.mpr hr, Decidable.not_not.mpr hp⟩)).trans (if_neg (Nat.not_lt.mpr hd)))
  case cycleDeadline =>
    intro t l s u hr hp hd
    exact congrArg _ (if_pos ⟨hr, .inl hp, hd⟩)
  case commitDone => exact fun _ _ _ _ => execRetainCommitDone_due

/-- Settles O9, row by row: each row under its hypotheses takes the branch that carries it out. -/
theorem heartbeatsAndTakeoverComplete : Obligations.HeartbeatsAndTakeoverComplete := by
  refine ⟨?heartbeat, ?lapse, ?takeover⟩
  case heartbeat => exact fun _ _ _ _ _ => execHeartbeat_advanced
  case lapse =>
    intro t page l s u b hp hd ha
    exact congrArg _ ((if_pos ⟨hp, hd⟩).trans (if_neg fun hk => ha hk.1))
  case takeover => exact fun _ _ _ _ => execTakeover_due

end

section
/-! PROOF. The register space (O52, O53): canonical tables that read alike are equal, a register set is read back in its bank and
leaves every other one, and what a stored write leaves. -/

namespace Sys2Proof.Machine

/-! Sparse tables. -/

section
variable {α : Type} [DecidableEq α] {d : Nat → α}

/-- The first entry of a canonical table is read back, and is not what an unlisted key reads as. -/
theorem Sparse.get_head_ne {k : Nat} {v : α} {r : List (Nat × α)} (h : Sparse.tight d ((k, v) :: r) = true) :
    Sparse.get d ((k, v) :: r) k ≠ d k := by
  simp only [Sparse.tight, Bool.and_eq_true, decide_eq_true_eq] at h
  simpa only [Sparse.get, if_true] using h.1

/-- Tables that read alike start at the same key: a key below the first one of a table is unlisted there. -/
theorem Sparse.head_le {lo k j : Nat} {v w : α} {r q : List (Nat × α)} (hr : Sparse.rising lo ((k, v) :: r) = true)
    (ht : Sparse.tight d ((j, w) :: q) = true) (h : Sparse.get d ((k, v) :: r) j = Sparse.get d ((j, w) :: q) j) : k ≤ j := by
  refine Nat.le_of_not_lt fun hlt => ?_
  simp only [Sparse.rising, Bool.and_eq_true, decide_eq_true_eq] at hr
  have hb : Sparse.rising k ((k, v) :: r) = true := by simp [Sparse.rising, hr.2]
  exact Sparse.get_head_ne ht (h ▸ Sparse.get_below d _ k j hb hlt)

/-- Two tables in canonical form from which every key reads alike are the same. -/
theorem Sparse.eq_of_get_eq {lo : Nat} {m n : List (Nat × α)} (hm : Sparse.rising lo m = true) (tm : Sparse.tight d m = true)
    (hn : Sparse.rising lo n = true) (tn : Sparse.tight d n = true) (h : ∀ k, Sparse.get d m k = Sparse.get d n k) : m = n := by
  induction m generalizing lo n with
  | nil =>
    cases n with
    | nil => rfl
    | cons e q => exact absurd (h e.1).symm (Sparse.get_head_ne tn)
  | cons e r ih =>
    obtain ⟨k, v⟩ := e
    cases n with
    | nil => exact absurd (h k) (Sparse.get_head_ne tm)
    | cons e' q =>
      obtain ⟨j, w⟩ := e'
      obtain rfl : k = j := Nat.le_antisymm (Sparse.head_le hm tn (h j)) (Sparse.head_le hn tm (h k).symm)
      obtain rfl : v = w := by simpa only [Sparse.get, if_true] using h k
      simp only [Sparse.rising, Sparse.tight, Bool.and_eq_true] at hm tm hn tn
      refine congrArg _ (ih hm.2 tm.2 hn.2 tn.2 fun i => ?_)
      by_cases hi : i = k
      · rw [hi, Sparse.get_below d r (k + 1) k hm.2 (Nat.lt_succ_self k), Sparse.get_below d q (k + 1) k hn.2 (Nat.lt_succ_self k)]
      · simpa only [Sparse.get, if_neg hi] using h i

end

/-! The keys of registers. -/

/-- Within the bounds of a page and of the banks, a key names one register of one page and bank (R38, R45). -/
theorem Reg.key_inj {p p' o o' b b' : Nat} (ho : o < 4096) (ho' : o' < 4096) (hb : b < 8) (hb' : b' < 8) :
    Reg.key p o b = Reg.key p' o' b' ↔ p = p' ∧ o = o' ∧ b = b' := by
  unfold Reg.key
  omega

theorem Reg.key_page {p o b : Nat} (ho : o < 4096) (hb : b < 8) : Reg.key p o b / 8 / 4096 = p := by
  unfold Reg.key
  omega

/-- Every key is that of a register. -/
theorem Reg.key_parts (k : Nat) : Reg.key (k / 8 / 4096) (k / 8 % 4096) (k % 8) = k := by
  unfold Reg.key
  omega

/-- A requester's code names a bank (R45). -/
theorem Reg.bank_lt {code : Nat} (h : code < 8) (page off : Nat) : Reg.bank page off code < 8 := by
  unfold Reg.bank
  split
  · exact h
  · split
    · split <;> omega
    · decide

/-- A register set is read back in its bank, and every other register reads as before (R38, R45). -/
theorem State.reg_setReg_eq (s : State) {page off bank p o b : Nat} (w : Word) (hoff : off < 4096) (hbank : bank < 8)
    (ho : o < 4096) (hb : b < 8) :
    (s.setReg page off w bank).reg p o b = if p = page ∧ o = off ∧ b = bank then w else s.reg p o b := by
  rw [State.reg_setReg]
  simp only [Reg.key_inj ho hoff hb hbank]

/-! What a change of registers and events leaves. -/

/-- The first state with the registers, the event fabric, the events posted to the engines and what was sent of the second. -/
def State.besides (s u : State) : State := { s with regs := u.regs, fabric := u.fabric, clePosts := u.clePosts, out := u.out }

/-- `u` differs from `s` only in registers whose keys are in `K`, in the event fabric, the events posted to the engines and what was
sent, and its register table stays canonical. -/
structure State.Touches (K : Nat → Prop) (s u : State) : Prop where
  eq_besides : u = s.besides u
  get_eq : ∀ k, ¬K k → Sparse.get Reg.reset u.regs k = Sparse.get Reg.reset s.regs k
  canonical : s.canonical = true → u.canonical = true

theorem State.Touches.reg_eq {K : Nat → Prop} {s u : State} (h : s.Touches K u) {p o b : Nat} (hk : ¬K (Reg.key p o b)) :
    u.reg p o b = s.reg p o b := h.get_eq _ hk

section
variable {K : Nat → Prop} {s u v : State}

/-- A state made without any register written. -/
theorem State.Touches.of_regs_eq (h : u = s.besides u) (hr : u.regs = s.regs) : s.Touches K u :=
  ⟨h, fun _ _ => by rw [hr], fun hc => by rwa [State.canonical, hr]⟩

theorem State.Touches.refl (s : State) : s.Touches K s := .of_regs_eq rfl rfl

theorem State.Touches.trans (h : s.Touches K u) (h' : u.Touches K v) : s.Touches K v where
  eq_besides := calc
    v = u.besides v := h'.eq_besides
    _ = (s.besides u).besides v := congrArg (State.besides · v) h.eq_besides
    _ = s.besides v := rfl
  get_eq k hk := (h'.get_eq k hk).trans (h.get_eq k hk)
  canonical hc := h'.canonical (h.canonical hc)

theorem State.touches_putFabric (s : State) (x : Fabric) : s.Touches K (s.putFabric x) := .of_regs_eq rfl rfl

theorem State.touches_foldl {α : Type} {f : State → α → State} {xs : List α}
    (h : ∀ s : State, ∀ x ∈ xs, s.Touches K (f s x)) (s : State) :
    s.Touches K (xs.foldl f s) := by
  induction xs generalizing s with
  | nil => exact .refl s
  | cons x xs ih =>
    exact (h s x List.mem_cons_self).trans (ih (fun s y hy => h s y (List.mem_cons_of_mem x hy)) _)

theorem State.touches_setReg {page off bank : Nat} (s : State) (w : Word) (h : K (Reg.key page off bank)) :
    s.Touches K (s.setReg page off w bank) where
  eq_besides := rfl
  get_eq k hk := by
    have hne : k ≠ Reg.key page off bank := fun e => hk (e ▸ h)
    simp only [State.setReg, Sparse.get_set, if_neg hne]
  canonical hc := State.canonical_setReg s page off bank w hc

theorem State.touches_setFld {page i j : Nat} {f : Field} (s : State) (v : Nat) (h : K (Reg.key page (f.pos i j) 0)) :
    s.Touches K (s.setFld page f v i j) := State.touches_setReg s _ h

end

/-! Events (R65, R74, R76). -/

/-- The words of page 0x7E that an event which finds no room changes: EVT_PEND, LAST_DROP and the drop counts of the seven
destinations. -/
def Reg.DropKey (k : Nat) : Prop :=
  k = Reg.key 0x7E 0x24 0 ∨ k = Reg.key 0x7E 0x180 0 ∨ ∃ d < 7, k = Reg.key 0x7E (0x140 + 4 * d) 0

theorem Reg.DropKey.page_eq {p o b : Nat} (ho : o < 4096) (hb : b < 8) (h : Reg.DropKey (Reg.key p o b)) : p = 0x7E := by
  unfold Reg.DropKey Reg.key at h
  rcases h with h | h | ⟨d, hd, h⟩ <;> omega

/-- No result of a command stands where dropped records show. -/
theorem Reg.not_dropKey_result {p b : Nat} (hb : b < 8) : ¬Reg.DropKey (Reg.key p 0x3C b) := by
  unfold Reg.DropKey Reg.key
  rintro (h | h | ⟨d, hd, h⟩) <;> omega

/-- The destinations of a record are numbered from 0 to 6 (R75). -/
theorem State.lt_of_mem_evtDests {s : State} {page d : Nat} (h : d ∈ s.evtDests page) : d < 7 := by
  simp only [State.evtDests, List.mem_append, List.mem_filter, List.mem_range] at h
  rcases h with (h | h) | h
  · omega
  · split at h
    · simp only [List.mem_cons, List.not_mem_nil, or_false] at h
      omega
    · cases h
  · split at h
    · simp only [List.mem_cons, List.not_mem_nil, or_false] at h
      omega
    · cases h

theorem State.touches_postCle {K : Nat → Prop} (s : State) (page bit : Nat) : s.Touches K (s.postCle page bit) := by
  unfold State.postCle
  split
  · exact .of_regs_eq rfl rfl
  · exact .refl s

section
variable {K : Nat → Prop} (hK : ∀ k, Reg.DropKey k → K k)
include hK

theorem State.touches_dropFor (s : State) (r : EvtRec) {d : Nat} (hd : d < 7) : s.Touches K (s.dropFor r d) := by
  have drops : K (Reg.key 0x7E (Fab.DEST_DROPS.pos d) 0) :=
    hK _ (.inr (.inr ⟨d, hd, by simp only [Reg.key, Field.pos, Fab.DEST_DROPS]; omega⟩))
  have last : K (Reg.key 0x7E 0x180 0) := hK _ (.inr (.inl rfl))
  exact (((State.touches_putFabric s _).trans (State.touches_setFld _ _ drops)).trans (State.touches_setFld _ _ last)).trans
    (State.touches_setFld _ _ last)

theorem State.touches_produce (s : State) (r : EvtRec) {ds : List Nat} (hds : ∀ d ∈ ds, d < 7) : s.Touches K (s.produce r ds) := by
  unfold State.produce
  dsimp only
  split
  · exact State.touches_putFabric s _
  · exact (State.touches_putFabric s _).trans (State.touches_foldl (fun u d hd => State.touches_dropFor hK u r (hds d hd)) _)

theorem State.touches_produceLoud (s : State) (r : EvtRec) {ds : List Nat} (hds : ∀ d ∈ ds, d < 7) :
    s.Touches K (s.produceLoud r ds) := by
  have overflow (u : State) : u.Touches K (u.setFld 0x7E Hd.EVT_PEND (setBit (u.fld 0x7E Hd.EVT_PEND) 0 true)) :=
    State.touches_setFld u _ (hK _ (.inl rfl))
  unfold State.produceLoud
  dsimp only
  split
  · refine (State.touches_produce hK s r hds).trans (State.touches_foldl (fun u d _ => ?_) _)
    split
    · exact ((overflow u).trans (State.touches_produce hK _ _ fun _ => State.lt_of_mem_evtDests)).trans (State.touches_postCle _ _ _)
    · exact overflow u
  · exact State.touches_produce hK s r hds

/-- An occurrence changes no register but its page's EVT_PEND and the words of page 0x7E in which dropped records show. -/
theorem State.touches_occur (s : State) (page bit arg : Nat) (test : Bool) (hp : K (Reg.key page 0x24 0)) :
    s.Touches K (s.occur page bit arg test) := by
  have pend : s.Touches K (s.setFld page Hd.EVT_PEND (setBit (s.fld page Hd.EVT_PEND) bit true)) := State.touches_setFld s _ hp
  unfold State.occur
  dsimp only
  split
  · exact (pend.trans (State.touches_produceLoud hK _ _ fun _ => State.lt_of_mem_evtDests)).trans (State.touches_postCle _ _ _)
  · exact pend

theorem State.touches_raise (s : State) (page bit arg : Nat) (hp : K (Reg.key page 0x24 0)) : s.Touches K (s.raise page bit arg) :=
  State.touches_occur hK s page bit _ false hp

end

/-! Stored writes (R61, R62). -/

section
variable {K : Nat → Prop}

theorem State.touches_reportClamp (s : State) (code page off bit req applied : Nat)
    (hc : ∀ o ∈ [0x24, 0x40, 0x44, 0x48, 0x4C], K (Reg.key page o 0)) : s.Touches K (s.reportClamp code page off bit req applied) :=
  (((State.touches_setFld s _ (hc 0x40 (by decide))).trans (State.touches_setReg _ _ (hc 0x44 (by decide)))).trans
    (State.touches_setReg _ _ (hc 0x48 (by decide)))).trans (State.touches_setReg _ _ (hc 0x4C (by decide)))

theorem State.touches_writeField (s : State) (code : Nat) {page off bank rep : Nat} (value : Word) (r : RegField × Nat × Nat)
    (hw : K (Reg.key page off bank)) (hc : ∀ o ∈ [0x24, 0x40, 0x44, 0x48, 0x4C], K (Reg.key rep o 0)) :
    s.Touches K (s.writeField code page off bank value rep r).1 := by
  obtain ⟨f, i, j⟩ := r
  unfold State.writeField
  dsimp only
  split
  · exact .refl s
  · exact .refl s
  · exact State.touches_setReg s _ hw
  · exact State.touches_setReg s _ hw
  · split
    · exact State.touches_setReg s _ hw
    · exact (State.touches_setReg s _ hw).trans (State.touches_reportClamp _ code rep off _ _ _ hc)

theorem State.touches_writeFields (s : State) (code : Nat) {page off bank rep : Nat} (value : Word) (rs : List (RegField × Nat × Nat))
    (hw : K (Reg.key page off bank)) (hc : ∀ o ∈ [0x24, 0x40, 0x44, 0x48, 0x4C], K (Reg.key rep o 0)) :
    s.Touches K (s.writeFields code page off bank value rep rs).1 := by
  induction rs generalizing s with
  | nil => exact .refl s
  | cons r rs ih => exact (State.touches_writeField s code value r hw hc).trans (ih _)

/-- A stored write changes no register but the written one, the clamp registers and EVT_PEND of the page that reports, and the words of
page 0x7E in which dropped records show. -/
theorem State.touches_store (hK : ∀ k, Reg.DropKey k → K k) (s : State) {code page off rep : Nat} (value : Word)
    (hw : K (Reg.key page off (Reg.bank page off code)))
    (hc : ∀ o ∈ [0x24, 0x40, 0x44, 0x48, 0x4C], K (Reg.key rep o 0)) : s.Touches K (s.store code page off value rep) := by
  have stored := State.touches_writeFields s code value (fieldsAt (tableOf page off) off) hw hc
  unfold State.store State.storeWord
  dsimp only
  split
  · exact stored.trans (State.touches_raise hK _ rep 13 0 (hc 0x24 (by decide)))
  · exact stored

end

/-- Storing a value as a register's table says keeps the register table canonical, whoever writes and wherever. -/
theorem State.canonical_store (s : State) (code page off rep : Nat) (value : Word) (h : s.canonical = true) :
    (s.store code page off value rep).canonical = true :=
  (State.touches_store (K := fun _ => True) (fun _ _ => trivial) s value trivial fun _ _ => trivial).canonical h

/-- A write of a requester whose code names a bank changes no register of a page other than the written one and 0x7E: the form of
R45 in which the second clause of O53 holds. -/
theorem State.reg_store_of_page_ne (s : State) {code page off p o b : Nat} (value : Word) (hcode : code < 8) (hoff : off < 4096)
    (ho : o < 4096) (hb : b < 8) (hp : p ≠ page) (h7E : p ≠ 0x7E) : (s.store code page off value).reg p o b = s.reg p o b := by
  refine (State.touches_store (K := fun k => k / 8 / 4096 = page ∨ Reg.DropKey k) (fun _ => .inr) s value
    (.inl (Reg.key_page hoff (Reg.bank_lt hcode page off))) fun o ho => .inl (Reg.key_page ?_ (by decide))).reg_eq ?_
  · exact (by decide : ∀ o ∈ [0x24, 0x40, 0x44, 0x48, 0x4C], o < 4096) o ho
  · rintro (h | h)
    · exact hp ((Reg.key_page ho hb).symm.trans h)
    · exact h7E (h.page_eq ho hb)

end Sys2Proof.Machine

open Sys2Proof Sys2Proof.Machine

/-- Settles O52: every key is that of a register, and canonical tables that read alike at every key are equal. -/
theorem canonicalRegistersAreTheirReadings : Obligations.CanonicalRegistersAreTheirReadings := by
  intro s u hs hu h
  simp only [State.canonical, Sparse.wf, Bool.and_eq_true] at hs hu
  refine Sparse.eq_of_get_eq hs.1 hs.2 hu.1 hu.2 fun k => ?_
  have read := h (k / 8 / 4096) (k / 8 % 4096) (k % 8) (Nat.mod_lt _ (by decide)) (Nat.mod_lt _ (by decide))
  rwa [State.reg, State.reg, Reg.key_parts] at read

/-- Refutes O53: its second clause bounds no requester code, and a code beyond the eight banks of R45 reaches a register of the next
page. CMD_ARG0 of page 0x00 written with code 8 · 4096 is kept under the key of CMD_ARG0 of page 0x01 in bank 0. For codes below 8
the clause holds (`State.reg_store_of_page_ne`); the first clause is `State.canonical_store`, the third `State.reg_setReg_eq`. -/
theorem not_registerWriteKeepsForm : ¬ Obligations.RegisterWriteKeepsForm := by
  rintro ⟨-, frame, -⟩
  have kept : (State.reset.store (8 * 4096) 0 0x34 1).reg 1 0x34 0 = State.reset.reg 1 0x34 0 :=
    frame State.reset (8 * 4096) 0 0x34 1 0x34 0 1 (by decide) (by decide) (by decide) (by decide) (by decide) (by decide)
  exact absurd kept (by decide +kernel)

end

section
/-! PROOF. Commands and writes of the header (O1, O2, O54, O55): what a refusal leaves, what the rows of every page do, and what they
leave unchanged. -/

namespace Sys2Proof.Machine

/-! Commands that are refused (R50, R51). -/

/-- The commands of isHostCommand are carried out by the page's checks at their instant (R50). -/
theorem exec_of_isHostCommand {t us : Nat} {q : Req} {c : CertFound} {x : Instr × Cmd} (h : isHostCommand t us q c x) (s : State) :
    exec x.1 s = .next ((s.start t).command q x.2) := by
  have all : ∀ x, isHostCommand t us q c x → exec x.1 s = .next ((s.start t).command q x.2) := by
    unfold isHostCommand
    repeat refine List.forall_mem_cons.mpr ⟨rfl, ?_⟩
    exact fun _ hx => absurd hx List.not_mem_nil
  exact all x h

/-- The registers that an event of a page may change: its EVT_PEND and the words of page 0x7E in which dropped records show. -/
def Reg.EventKey (page k : Nat) : Prop := k = Reg.key page 0x24 0 ∨ Reg.DropKey k

/-- The registers that a refusal may change: CMD_RESULT in the requester's bank and those of the event CMD_REFUSED (R51). -/
def Reg.RefusalKey (q : Req) (k : Nat) : Prop := k = Reg.key q.page 0x3C (q.code % 8) ∨ Reg.EventKey q.page k

theorem State.touches_refuse (s : State) (q : Req) (r : Nat) : s.Touches (Reg.RefusalKey q) (s.refuse q r) := by
  have result : s.Touches (Reg.RefusalKey q) (s.writeResult q (s.pstate q.page) r) := by
    unfold State.writeResult
    dsimp only
    split
    · exact (State.touches_setReg s _ (.inl rfl)).trans (.of_regs_eq rfl rfl)
    · exact .of_regs_eq rfl rfl
  unfold State.refuse
  dsimp only
  split
  · exact result.trans (State.touches_raise (fun _ h => .inr (.inr h)) _ q.page 14 0 (.inr (.inl rfl)))
  · exact result

/-- A refusal on a used page leaves its code and the block's state in CMD_RESULT (R43, R51). -/
theorem State.reg_refuse (s : State) (q : Req) (r : Nat) (h : pageUsed q.page = true) :
    (s.refuse q r).reg q.page 0x3C (q.code % 8) = resultWord q.tag (s.pstate q.page) r := by
  have bank : q.code % 8 < 8 := Nat.mod_lt _ (by decide)
  have raised := State.touches_raise (K := Reg.EventKey q.page) (fun _ => .inr) (s.writeResult q (s.pstate q.page) r) q.page 14 0
    (.inl rfl)
  have other : ¬Reg.EventKey q.page (Reg.key q.page 0x3C (q.code % 8)) :=
    not_or.mpr ⟨Reg.key_ne_of_off (by decide) (by decide) bank, Reg.not_dropKey_result bank⟩
  simp only [State.refuse, h, if_true]
  exact (raised.reg_eq other).trans (State.reg_writeResult s q _ r h)

/-! Results, argument registers and the clamp registers. -/

/-- A result changes no register but CMD_RESULT in the requester's bank (R48). -/
theorem State.reg_writeResult_of_ne (s : State) (q : Req) (st r : Nat) {p o b : Nat} (ho : o < 4096) (hb : b < 8)
    (h : ¬(p = q.page ∧ o = 0x3C ∧ b = q.code % 8)) : (s.writeResult q st r).reg p o b = s.reg p o b := by
  unfold State.writeResult
  dsimp only
  split
  · exact (State.reg_setReg_eq s _ (by decide) (Nat.mod_lt _ (by decide)) ho hb).trans (if_neg h)
  · rfl

theorem State.writeResult_eq (s : State) (q : Req) (st r : Nat) :
    s.writeResult q st r = { s with regs := (s.writeResult q st r).regs, out := (s.writeResult q st r).out } := by
  unfold State.writeResult
  dsimp only
  split <;> rfl

/-- The four clamp registers of a page at 0 (R56, R62). -/
def State.clampCleared (s : State) (page : Nat) : State :=
  (((s.setReg page 0x40 0).setReg page 0x44 0).setReg page 0x48 0).setReg page 0x4C 0

theorem State.reg_clampCleared (s : State) {page p o b : Nat} (ho : o < 4096) (hb : b < 8) :
    (s.clampCleared page).reg p o b = if p = page ∧ o ∈ [0x40, 0x44, 0x48, 0x4C] ∧ b = 0 then 0 else s.reg p o b := by
  simp (disch := omega) only [State.clampCleared, State.reg_setReg_eq, List.mem_cons, List.not_mem_nil, or_false]
  grind

theorem execClampClear_done {t : Nat} {q : Req} {s : State} (h : (s.start t).verdict q cmdClampClear = 0) :
    execClampClear t q s =
      .next (((s.start t).clampCleared q.page).writeResult q ((s.start t).pstate q.page) RC.done) :=
  congrArg _ (State.command_done h rfl)

/-- NOP on a used page under its generation (R41, R56). -/
theorem execNop_done {t : Nat} {q : Req} {s : State} (hp : pageUsed q.page = true) (hg : q.gen = (s.start t).gen q.page)
    (hh : (s.start t).holds q.page q.code = false) :
    execNop t q s = .next ((s.start t).writeResult q ((s.start t).pstate q.page) RC.done) := by
  simp only [execNop, State.nopCmd, hh, hp, hg, Bool.not_true, Bool.false_eq_true, if_false, ne_eq, not_true_eq_false]

/-- A write that reaches the offset it carries. -/
theorem WriteReq.with_off {w : WriteReq} {o : Nat} (h : w.off = o) : { w with off := o } = w := h ▸ rfl

theorem State.quietVerdict_eq_zero {s : State} {w : WriteReq} (hr : s.retired = false) (hg : w.gen = s.gen w.page) :
    s.quietVerdict w = 0 := by
  simp [State.quietVerdict, hr, hg]

/-- A write of an argument register under its page's generation (R45). -/
theorem execCmdArgWrite_done {t : Nat} {w : WriteReq} {s : State} (ho : w.off = 0x34 ∨ w.off = 0x38) (hp : pageUsed w.page = true)
    (hh : (s.start t).holds w.page w.code = false) (hq : (s.start t).quietVerdict w = 0) :
    execCmdArgWrite t w s =
      .next (((s.start t).setReg w.page w.off w.value (w.code % 8)).writeReply w ((s.start t).pstate w.page) RC.done) := by
  have off : (if w.off = 0x38 then 0x38 else 0x34) = w.off := by
    rcases ho with h | h <;> simp [h]
  rw [execCmdArgWrite, WriteReq.with_off off.symm]
  simp only [State.argWrite, hp, hh, hq, Bool.not_true, Bool.false_eq_true, if_false, ne_eq, not_true_eq_false]

/-- A write of EVT_PEND that passes the checks (R47). -/
theorem execEvtPendClear_done {t : Nat} {w : WriteReq} {s : State} (ho : w.off = 0x24) (hp : pageUsed w.page = true)
    (hv : (s.start t).writeVerdict w = 0) :
    execEvtPendClear t w s =
      .next (((s.start t).setFld w.page Hd.EVT_PEND
        ((s.start t).fld w.page Hd.EVT_PEND &&& (2 ^ 16 - 1 - w.value.toNat % 2 ^ 16))).writeReply w ((s.start t).pstate w.page)
        RC.done) := by
  rw [execEvtPendClear, State.pendWrite, WriteReq.with_off ho]
  exact congrArg _ (State.writeGuard_done (by rw [ho]) hp hv fun _ => rfl)

/-- A write of PAGE_LOCK by its holder, or while it is open (R46). -/
theorem execPageLockWrite_done {t : Nat} {w : WriteReq} {s : State} (ho : w.off = 0x1C) (hp : pageUsed w.page = true)
    (hv : (s.start t).writeVerdict w = 0)
    (hl : (s.start t).flag w.page Hd.PAGE_LOCK_LOCK = false ∨ (s.start t).fld w.page Hd.PAGE_LOCK_LOCKED_BY = w.code) :
    execPageLockWrite t w s =
      .next ((((s.start t).setFld w.page Hd.PAGE_LOCK_LOCK (bitsOf w.value 0 0)).setFld w.page Hd.PAGE_LOCK_LOCKED_BY
        (if bitsOf w.value 0 0 = 1 then w.code else 0)).writeReply w ((s.start t).pstate w.page) RC.done) := by
  have held : ¬((s.start t).flag w.page Hd.PAGE_LOCK_LOCK = true ∧ (s.start t).fld w.page Hd.PAGE_LOCK_LOCKED_BY ≠ w.code) := by
    rintro ⟨hf, hc⟩
    exact hl.elim (fun h => absurd (h.symm.trans hf) (by decide)) hc
  rw [execPageLockWrite, State.lockWrite, WriteReq.with_off ho]
  exact congrArg _ (State.writeGuard_done (by rw [ho]) hp hv fun _ => if_neg held)

/-! Registers without a row of their own (R55). -/

theorem lt_of_pageUsed {page : Nat} (h : pageUsed page = true) : page < 0x80 := by
  refine Nat.lt_of_not_le fun hle => ?_
  have unused : pageKind page = .unused := by
    unfold pageKind
    repeat rw [if_neg (by omega)]
  simp [pageUsed, unused] at h

theorem storeKind_of_pageUsed {page : Nat} (h : pageUsed page = true) : storeKind page = pageKind page :=
  if_pos (lt_of_pageUsed h)

/-- A word that no window shows and that is no part of PEER_REF is stored under its own page. -/
theorem State.storeWide_eq {s : State} {w : WriteReq} (hp : pageUsed w.page = true) (h : w.off < 0x400 ∨ pageKind w.page ≠ .conns) :
    s.storeWide w = s.storeAll w.code w.page w.off w.value w.page := by
  have lt := lt_of_pageUsed hp
  have own : s.windowPage w = w.page := if_neg fun (hc : w.page = 0x61 ∧ 0x400 ≤ w.off) =>
    h.elim (Nat.not_lt.mpr hc.2) fun hk => hk (congrArg pageKind hc.1)
  have narrow : storeKind w.page ≠ .conns ∨ (w.off ≠ 0x408 ∧ w.off ≠ 0x40C) :=
    h.elim (fun h => .inr (by omega)) fun hk => .inl (storeKind_of_pageUsed hp ▸ hk)
  have noWindow : ¬(0xC0 ≤ w.page ∧ w.page = 0x61 ∧ w.off ≤ 0x418) := fun hc => absurd lt (by omega)
  simp only [State.storeWide, own, if_pos narrow, if_neg noWindow]

/-- A write that passes every check of R55 and that its page takes and does not ignore. -/
theorem State.plainWrite_done {s : State} {w : WriteReq} (ho : w.off % 4096 / 4 * 4 = w.off) (hp : pageUsed w.page = true)
    (h : w.off < 0x400 ∨ pageKind w.page ≠ .conns) (hv : s.writeVerdict w = 0) (hg : s.stateGuard w.page w.off = 0)
    (hi : s.ignoresWrite w.page w.off = false) :
    s.plainWrite w = (s.storeAll w.code w.page w.off w.value w.page).writeReply w (s.pstate w.page) RC.done := by
  have effect : (if s.ignoresWrite w.page w.off = true then s else s.storeWide w) = s.storeAll w.code w.page w.off w.value w.page := by
    rw [hi, if_neg (by decide), State.storeWide_eq hp h]
  exact (State.writeGuard_done ho hp hv fun _ => hg).trans (congrArg (State.writeReply · w (s.pstate w.page) RC.done) effect)

/-- The kinds of page that belong to no lane and have a register with a row of its own. -/
def PageKind.hasRegisterRows (k : PageKind) : Bool :=
  k ∈ [PageKind.device, .crossing, .avenue, .corner, .ration, .kerb, .safeOut]

theorem State.commonWrite_eq {s : State} {w : WriteReq} (h : (pageKind w.page).hasRegisterRows = false) :
    s.commonWrite w = s.plainWrite w := by
  unfold State.commonWrite
  dsimp only
  split
  case h_8 => rfl
  all_goals
    rename_i hk
    simp [hk, PageKind.hasRegisterRows] at h

/-- A write of the header that no row names, and one of a page without register rows, follow R55 alone. -/
theorem execConfigWrite_plain {t us : Nat} {w : WriteReq} {found : CertFound} {s : State} (ho : w.off % 4096 / 4 * 4 = w.off)
    (h : w.off ∈ [0x14, 0x28, 0x2C] ∨
      0x100 ≤ w.off ∧ (pageKind w.page).owned = false ∧ (pageKind w.page).hasRegisterRows = false) :
    execConfigWrite t w found us s = .next ((s.start t).plainWrite w) := by
  have kept : { w with off := w.off % 4096 / 4 * 4 } = w := WriteReq.with_off ho.symm
  rw [execConfigWrite, State.anyWrite, State.writeAny, kept, ho]
  rcases h with h | ⟨hb, hown, hrow⟩
  · simp only [List.mem_cons, List.not_mem_nil, or_false] at h
    rw [if_neg (by omega), if_neg (by omega), if_neg (by omega), if_neg (by omega), if_pos (by omega)]
  · rw [if_neg (by omega), if_neg (by omega), if_neg (by omega), if_neg (by omega), if_neg (by omega), hown, if_neg (by decide),
      State.commonWrite_eq hrow]

/-! The bits of a field. -/

theorem bitAt_eq_testBit (v k : Nat) : bitAt v k = v.testBit k := by
  rw [bitAt, Nat.testBit_eq_decide_div_mod_eq]

/-- A bit of EVT_PEND stands after a write where it stood before and was not written as 1 (R47). -/
theorem bitAt_and_not {v x i : Nat} (hi : i < 16) :
    bitAt ((v &&& (2 ^ 16 - 1 - x % 2 ^ 16)) % 2 ^ 16) i = (bitAt v i && !bitAt x i) := by
  have compl : 2 ^ 16 - 1 - x % 2 ^ 16 = 2 ^ 16 - (x % 2 ^ 16 + 1) := by omega
  simp only [bitAt_eq_testBit, compl, Nat.testBit_mod_two_pow, Nat.testBit_and,
    Nat.testBit_two_pow_sub_succ (Nat.mod_lt x (Nat.two_pow_pos 16)), hi, decide_true, Bool.true_and]

end Sys2Proof.Machine

open Sys2Proof Sys2Proof.Machine

/-- Settles O54: each of the commands is carried out by the page's checks, and a refusal touches no more than the result, EVT_PEND and
the words of page 0x7E. -/
theorem refusedCommandHasNoEffect : Obligations.RefusedCommandHasNoEffect := by
  intro t us q c s x hx u hv hh
  have refused : exec x.1 s = .next (u.refuse q (u.verdict q x.2)) :=
    (exec_of_isHostCommand hx s).trans (congrArg _ (State.command_refused u q x.2 hh hv))
  have touched := State.touches_refuse u q (u.verdict q x.2)
  refine ⟨_, refused, touched.eq_besides, fun p o b ho hb h7E hne => touched.reg_eq ?_, State.reg_refuse u q _⟩
  rintro (h | h | h)
  · obtain ⟨hp, hoff, hbank⟩ := (Reg.key_inj ho (by decide) hb (Nat.mod_lt _ (by decide))).mp h
    exact hne ⟨hp, .inl ⟨hoff, hbank⟩⟩
  · obtain ⟨hp, hoff, -⟩ := (Reg.key_inj ho (by decide) hb (by decide)).mp h
    exact hne ⟨hp, .inr hoff⟩
  · exact h7E (h.page_eq ho hb)

/-- Settles O55, row by row: each row writes the registers it names and leaves the others. -/
theorem headerCommandFrames : Obligations.HeaderCommandFrames := by
  refine ⟨?nop, ?clampClear, ?argWrite, ?pendClear⟩
  case nop =>
    intro t q s u hh hp hg
    exact ⟨_, execNop_done hp hg hh, u.writeResult_eq q _ _, fun p o b ho hb hne => u.reg_writeResult_of_ne q _ _ ho hb hne⟩
  case clampClear =>
    intro t q s u hv
    refine ⟨_, execClampClear_done hv, ?rest, ?cleared, ?others⟩
    case rest => exact (u.clampCleared q.page).writeResult_eq q _ _
    case cleared =>
      intro o ho
      have bound : o < 4096 ∧ o ≠ 0x3C := (by decide : ∀ o ∈ [0x40, 0x44, 0x48, 0x4C], o < 4096 ∧ o ≠ 0x3C) o ho
      rw [State.reg_writeResult_of_ne _ _ _ _ bound.1 (by decide) fun h => bound.2 h.2.1,
        State.reg_clampCleared _ bound.1 (by decide), if_pos ⟨rfl, ho, rfl⟩]
    case others =>
      intro p o b ho hb hne
      rw [State.reg_writeResult_of_ne _ _ _ _ ho hb fun h => hne ⟨h.1, .inl h.2⟩, State.reg_clampCleared _ ho hb,
        if_neg fun h => hne ⟨h.1, .inr h.2⟩]
      rfl
  case argWrite =>
    intro t w s u ho hp hh hq
    have off : w.off < 4096 := by omega
    have bank : w.code % 8 < 8 := Nat.mod_lt _ (by decide)
    refine ⟨_, execCmdArgWrite_done ho hp hh hq, rfl, State.reg_setReg_same u _ _ _ _, fun p o b ho hb hne => ?_⟩
    exact (State.reg_setReg_eq u w.value off bank ho hb).trans (if_neg hne)
  case pendClear =>
    intro t w s u ho hp hv
    refine ⟨_, execEvtPendClear_done ho hp hv, rfl, fun i hi => ?_, fun p o b ho hb hne => ?_⟩
    · have read := State.fld_setFld_same u w.page Hd.EVT_PEND (u.fld w.page Hd.EVT_PEND &&& (2 ^ 16 - 1 - w.value.toNat % 2 ^ 16)) 0 0
        (by decide) (by decide)
      exact (congrArg (bitAt · i) read).trans (bitAt_and_not hi)
    · exact (State.reg_setReg_eq u _ (by decide) (by decide) ho hb).trans (if_neg hne)

/-- Settles O1, row by row: a write that passes its checks has the effect of its register's row, or of R55 alone. -/
theorem headerWritesComplete : Obligations.HeaderWritesComplete := by
  refine ⟨?argWrite, ?pendClear, ?lockWrite, ?header, ?plain⟩
  case argWrite =>
    intro t w s u ho hp hr hg hh
    exact execCmdArgWrite_done ho hp hh (State.quietVerdict_eq_zero hr hg)
  case pendClear => exact fun t w s => execEvtPendClear_done
  case lockWrite => exact fun t w s => execPageLockWrite_done
  case header =>
    intro t w found us s u ho hp hv hg hi
    have aligned : w.off % 4096 / 4 * 4 = w.off := by rcases ho with h | h | h <;> rw [h]
    have low : w.off < 0x100 := by omega
    have plain := execConfigWrite_plain (t := t) (us := us) (found := found) (s := s) aligned (.inl (by simpa using ho))
    have stored : u.storeAll w.code w.page w.off w.value w.page = u.store w.code w.page w.off w.value := by
      rw [State.storeAll, State.afterWrite, if_pos low]
    exact plain.trans (congrArg _ (stored ▸ State.plainWrite_done aligned hp (.inl (by omega)) hv hg hi))
  case plain =>
    intro t w found us s u hb hlt h4 hk hv hg hi
    obtain ⟨hown, hrow, hconns, hused⟩ : (pageKind w.page).owned = false ∧ (pageKind w.page).hasRegisterRows = false ∧
        pageKind w.page ≠ .conns ∧ (pageKind w.page != .unused) = true :=
      (by decide : ∀ k ∈ [PageKind.lane, .power, .hostPorts, .hostRights, .cle, .onlineChange, .debug, .memory, .secure, .vat, .mgmt,
        .sensors, .ripening, .update, .lifeCycle, .fabric, .dump], k.owned = false ∧ k.hasRegisterRows = false ∧ k ≠ .conns ∧
        (k != .unused) = true) _ hk
    have aligned : w.off % 4096 / 4 * 4 = w.off := by omega
    exact (execConfigWrite_plain aligned (.inr ⟨hb, hown, hrow⟩)).trans
      (congrArg _ (State.plainWrite_done aligned hused (.inr hconns) hv hg hi))

/-- Settles O2, row by row: a command that passes the checks is carried out and answered DONE. -/
theorem headerCommandsComplete : Obligations.HeaderCommandsComplete := by
  refine ⟨?clampClear, ?evtTest, ?blockReset, ?nop⟩
  case clampClear => exact fun t q s => execClampClear_done
  case evtTest =>
    intro t q s u h
    exact congrArg _ (State.command_done h rfl)
  case blockReset =>
    intro t q s u h
    exact congrArg _ (State.command_done h rfl)
  case nop => exact fun t q s => execNop_done

end

section
/-! PROOF. The rows of the event fabric (O3), the resets (O12), the clocks and models (O47) and the step (O48): under the conditions
of a row's rule the row takes the branch that carries it out. -/

namespace Sys2Proof.Machine

/-! The event fabric. -/

/-- A record that is no ownership record leaves the intake for its destinations (R74). -/
theorem execFabricDistribute_record {t : Nat} {s : State} {x : IntakeRec} {rest : List IntakeRec}
    (hi : (s.start t).fabric.intake = x :: rest) (ho : ownershipId x.record.id = false) :
    execFabricDistribute t s =
      .next ((x.dests.foldl (fun v d => if d < 4 && !(v.slot d).streaming then v else v.enqueue x.record d)
        ((s.start t).putFabric { (s.start t).fabric with intake := rest })).queueHigh) := by
  simp only [execFabricDistribute, hi, ho, Bool.false_and, Bool.false_eq_true, if_false]

/-- Lane firmware and management are sent nothing of their queues (R141). -/
theorem State.sendNew_of_ge {s : State} {d had : Nat} (h : 4 ≤ d) : s.sendNew d had = s := if_neg (Nat.not_lt.mpr h)

theorem State.sendNew_of_lt {s : State} {d had : Nat} (h : d < 4) :
    s.sendNew d had = s.sendEvents d (((s.dest d).recs.drop had).map (·.record)) := if_pos h

/-! Resets. -/

theorem bootCount_of_trunk_eq {s u : State} (h : u.trunk = s.trunk) : u.bootCount = s.bootCount := congrArg (·.2.1) h

/-- DEVICE_RESET that has fallen due: the boots count on from before the answers (R59, R68, R109). -/
theorem execDeviceResetFire_due {t x arg : Nat} {f : SlotFound} {s : State} :
    let u := s.start t
    let v := u.answerAll.wholeReset 1 (u.answerAll.bootCount + 1) f
    u.power.resetFire = some (x, arg) → x ≤ u.now →
    execDeviceResetFire t f s = .next ((v.putPower { v.power with restartArg := arg }).raise 4 5 1) := by
  intro u v hf hx
  have boots : u.answerAll.bootCount = u.bootCount := bootCount_of_trunk_eq (trunk_answerAll u)
  simp only [v, boots, execDeviceResetFire, ← show u = s.start t from rfl, hf, hx, if_true]

/-- POWER_DOWN_DONE once a power-down is prepared and neither engine is in RUN or HOLD (R123, R124). -/
theorem execPowerDownDone_stopped {t x : Nat} {msA msB : Fin 40} {s : State} :
    let u := s.start t
    let down (v : State) (l : Lane) (ms : Nat) : State := if 2 ≤ v.laneState l then (v.shutdownVat l ms).hbStop l 3 else v
    let v := down (down u .a msA) .b msB
    let w := v.putPower { v.power with prep := none }
    u.power.prep = some x → u.pstate 8 ≠ 2 → u.pstate 8 ≠ 3 → u.pstate 9 ≠ 2 → u.pstate 9 ≠ 3 →
    execPowerDownDone t msA msB s =
      .next ((if w.pstate 4 = 1 then w.powerState 3 else w).completeAll (fun o => o.page == 4 && o.opc == 0x04) RC.done) := by
  intro u down v w hp ha2 ha3 hb2 hb3
  have stopped : ¬((u.pstate (clePage .a) == 2 || u.pstate (clePage .a) == 3) ||
      (u.pstate (clePage .b) == 2 || u.pstate (clePage .b) == 3)) = true := by
    simp [clePage, ha2, ha3, hb2, hb3]
  unfold execPowerDownDone State.powerDownDone
  simp only [← show u = s.start t from rfl, hp]
  exact congrArg _ (if_neg stopped)

/-- The pages of owned resources are not those of the safe-output stage and of the Avenue unit (R33, R40). -/
theorem not_commonStage_of_owned {page : Nat} (h : (pageKind page).owned = true) :
    ¬(page = 0x60 ∨ page = 0x62) ∧ ¬(page = 0x0C ∨ page = 0x0D) := by
  constructor <;> rintro (rfl | rfl) <;> exact absurd h (by decide)

/-- STAGE_SELF_RESET of a resource page resets its stage (R109). -/
theorem execStageSelfReset_stage {t page : Nat} {s : State} (h : (pageKind page).owned = true) :
    execStageSelfReset t page s = .next ((s.start t).stageSelfReset page) := by
  obtain ⟨hsafe, havenue⟩ := not_commonStage_of_owned h
  exact congrArg _ ((if_neg hsafe).trans (if_neg havenue))

theorem State.stageSelfReset_owned {s : State} {page : Nat} (h : (pageKind page).owned = true) (hc : pageKind page ≠ .can) :
    s.stageSelfReset page =
      let v := (((s.answerArb page).takeStartOwner page 3).resetStage page).dropHeld page
      let l := v.reapplier page
      let w := match l with
        | some l => v.reapplyPage l page
        | none => v
      ((w.hostReset page l).resetNoted 9).settleErrands := by
  have owned : ¬(!(pageKind page).owned) = true := by simp [h]
  exact (if_neg owned).trans (if_neg hc)

theorem State.stageSelfReset_can {s : State} {page : Nat} (h : pageKind page = .can) : s.stageSelfReset page = s.canReset page 9 := by
  have owned : ¬(!(pageKind page).owned) = true := by simp [h, PageKind.owned]
  exact (if_neg owned).trans (if_pos h)

end Sys2Proof.Machine

open Sys2Proof Sys2Proof.Machine

/-- Settles O3, row by row. -/
theorem fabricCommandsComplete : Obligations.FabricCommandsComplete := by
  refine ⟨?distribute, ?gapTaken, ?gapSent, ?countersClear⟩
  case distribute => exact fun t s x rest => execFabricDistribute_record
  case gapTaken =>
    intro t d s u hg hl hd
    exact congrArg (fun v => Host.Outcome.next (State.queueHigh (State.consume v d))) (State.sendNew_of_ge hd)
  case gapSent =>
    intro t d s u v hg hl hd
    exact congrArg (fun v => Host.Outcome.next (State.queueHigh (State.consume v d))) (State.sendNew_of_lt hd)
  case countersClear =>
    intro t q s u h
    exact congrArg _ (State.command_done h rfl)

/-- Settles O12, row by row. -/
theorem resetCommandsComplete : Obligations.ResetCommandsComplete := by
  refine ⟨?deviceReset, ?resetFire, ?laneReset, ?mgmtReset, ?watchdog, ?prep, ?downDone, ?stage, ?canStage, ?safetyStage, ?avenueStage⟩
  case deviceReset =>
    intro t q s u h
    exact congrArg _ (State.command_done h rfl)
  case resetFire => exact fun t x arg f s => execDeviceResetFire_due
  case laneReset =>
    intro t q s u h
    exact congrArg _ (State.command_done h rfl)
  case mgmtReset =>
    intro t q f s u h
    exact congrArg _ (State.command_done h rfl)
  case watchdog =>
    intro t f s u h
    exact congrArg _ (if_pos h)
  case prep =>
    intro t q s u stop v h
    exact congrArg _ (State.command_open h rfl (.inl rfl))
  case downDone => exact fun t x msA msB s => execPowerDownDone_stopped
  case stage =>
    intro t page s u h hc
    exact (execStageSelfReset_stage h).trans (congrArg _ (State.stageSelfReset_owned h hc))
  case canStage =>
    intro t page s u h
    exact (execStageSelfReset_stage (by rw [h]; rfl)).trans (congrArg _ (State.stageSelfReset_can h))

  case safetyStage =>
    intro t page s u h
    exact congrArg _ (if_pos h)
  case avenueStage =>
    intro t page s u h
    have other : ¬(page = 0x60 ∨ page = 0x62) := by omega
    exact congrArg _ ((if_neg other).trans (if_pos h))

/-- Settles O47, row by row: each row's conditions choose the branch that carries it out. -/
theorem clocksAndModelsComplete : Obligations.ClocksAndModelsComplete := by
  refine ⟨?grandmasterLost, ?chopperCooled, ?hallFault, ?openLoad, ?backfeed⟩
  case grandmasterLost =>
    intro t s u v h
    exact congrArg _ (if_pos h)
  case chopperCooled =>
    intro t b s u hc hl
    exact congrArg _ (if_pos ⟨hc, by rw [hl]; rfl⟩)
  case hallFault =>
    intro t a s u p hf hd
    exact congrArg _ (if_pos ⟨hf, hd⟩)
  case openLoad =>
    intro t ma b k s u p hf hm
    exact congrArg _ (if_pos ⟨hf, hm⟩)
  case backfeed =>
    intro t ma b k s u p hf hs hd
    have closed : ¬((u.ch p k).fault = 6 ∧ u.fld p Bk.OUT_OPEN_OPEN_MA ≤ ma) := fun h => absurd (hf.symm.trans h.1) (by decide)
    exact congrArg _ ((if_neg closed).trans (if_pos ⟨hf, by rw [hs]; rfl, hd⟩))

/-- Settles O48: the front command is carried out on the queue's rest, and an empty queue idles. -/
theorem stepTakesTheFrontCommand : Obligations.StepTakesTheFrontCommand := by
  refine ⟨fun _ _ _ => rfl, fun s h => ?_⟩
  simp only [step, h]

end

section
/-! PROOF. The rows of the Crossing's frames and links (O6), of a lane's boot, join and split (O7), and of ownership (O8): under the
conditions of a row's rule the row takes the branch that carries it out. -/

namespace Sys2Proof.Machine

/-! The frames and links of the Crossing. -/

/-- A MARK of which lane B hears a good copy, at most 2 us from the boundary it has set itself (R81, R82; log 43). -/
theorem execMarkFrame_heard {t a b : Nat} {d : Int} {c : Copies} {s : State} :
    let u := s.start t
    let r := (u.sendFrame .a 1 [a]).receiveFrame .b c
    let v := r.1
    (u.cle .a).nextTb = some a → r.2 = true → (v.cle .b).nextTb = some b → v.alignNs b = some d → d.natAbs ≤ 2000 →
    execMarkFrame t c s =
      .next (v.setCle .b { v.cle .b with nextTb := some ((b : Int) - max (-50) (min 50 d)).toNat }) := by
  intro u r v ha hr hb hd hn
  unfold execMarkFrame
  simp only [← show u = s.start t from rfl, ha, ← show r = (u.sendFrame .a 1 [a]).receiveFrame .b c from rfl,
    ← show v = r.1 from rfl, hb, hd, hr, hn, and_self, if_true]

/-- A JOIN of the first pass that the joining lane receives (R85, R96). -/
theorem execJoinFrame_firstPass {t : Nat} {l : Lane} {c : Copies} {x : JoinPart} {s : State} :
    let u := s.start t
    let p := lanePage l.other
    let r := (u.sendFrame l 7 ([x.pass, x.addr] ++ u.joinBytes l x)).receiveFrame l.other c
    u.leads l = true → r.2 = true → x.pass = 1 →
    execJoinFrame t l c x s =
      .next (let v := r.1.setFld p Ln.JOIN_STATUS_PASSES (max (r.1.fld p Ln.JOIN_STATUS_PASSES) 1)
        v.setFld p Ln.JOIN_STATUS_PCT (max (v.fld p Ln.JOIN_STATUS_PCT) x.pct.val)) := by
  intro u p r hl hr hp
  have leads : ¬(!u.leads l) = true := by simp [hl]
  have heard : ¬(!r.2) = true := by simp [hr]
  have shown : saturate 8 x.pass = 1 := by rw [hp]; rfl
  refine congrArg _ ((if_neg leads).trans ((if_neg heard).trans ((if_pos (Nat.le_of_eq hp)).trans ?_)))
  rw [shown]

/-- A MIRROR with the record due, sent in a lane's idle time and received by a lane that runs (R170, R553). -/
theorem execMirrorFrame_received {t : Nat} {l : Lane} {c : Copies} {r : VatCurd} {s : State} :
    let u := s.start t
    let v := u.vat l
    let x := ((u.setVat l { v with sendNext := r.seq + 1 }).sendFrame l 6 ([r.seq, v.gotNext] ++ r.bytes)).receiveFrame l.other c
    2 ≤ u.laneState l → ((u.cle l).phase = .idle ∨ (u.cle l).phase = .done) →
    ((u.lane l).link0.state = 2 ∨ (u.lane l).link1.state = 2) → v.nextMirror l v.sendNext = some r →
    x.2 = true → 2 ≤ x.1.laneState l.other →
    execMirrorFrame t l c s = .next ((x.1.receiveMirror l.other r).mirrorReport l.other v.gotNext) := by
  intro u v x hl hp hk hr hx ho
  have idle : ((u.cle l).phase == .idle || (u.cle l).phase == .done) = true := by simpa using hp
  have linked : ((u.lane l).link0.state == 2 || (u.lane l).link1.state == 2) = true := by simpa using hk
  have sends : ¬(decide (u.laneState l < 2) || !((u.cle l).phase == .idle || (u.cle l).phase == .done)
      || !((u.lane l).link0.state == 2 || (u.lane l).link1.state == 2)) = true := by
    simp [Nat.not_lt.mpr hl, idle, linked]
  have heard : ¬(!x.2 || decide (x.1.laneState l.other < 2)) = true := by simp [hx, Nat.not_lt.mpr ho]
  unfold execMirrorFrame
  simp only [← show u = s.start t from rfl, if_neg sends, ← show v = u.vat l from rfl, hr, Option.map_some, Option.getD_some]
  exact congrArg _ (if_neg heard)

/-- A link trained for 10 ms with the other end of it no longer DOWN (R78). -/
theorem execLinkTrainDone_trained {t : Nat} {l : Lane} {k : Fin 2} {s : State} :
    let u := s.start t
    let x := (u.lane l).link k
    x.state = 1 → u.linkAlive l = true → x.goodSince + 10000000 ≤ u.now → x.other ≠ 0 →
    execLinkTrainDone t l k s =
      .next (let v := u.setLink l k { x with state := 2, lastValid := u.now, fails := [] }
        ((if l = v.servingLane then v.raise 3 1 k else v).mirrorAgain l).sendHello l) := by
  intro u x hx ha hd ho
  have trained : ¬(x.state ≠ 1 ∨ (!u.linkAlive l) = true ∨ u.now < x.goodSince + 10000000 ∨ x.other = 0) := by
    simp [hx, ha, hd, ho]
  exact congrArg _ (if_neg trained)

/-! The boot, the join and the split of a lane. -/

/-- The registers that a level event of a page may change: its EVT_RAW, and those of its occurrence (R65). -/
def Reg.LevelKey (page k : Nat) : Prop := k = Reg.key page 0x20 0 ∨ Reg.EventKey page k

theorem State.touches_level (s : State) (page bit : Nat) (on : Bool) (arg : Nat) :
    s.Touches (Reg.LevelKey page) (s.level page bit on arg) := by
  have raw : s.Touches (Reg.LevelKey page) (s.setFld page Hd.EVT_RAW (setBit (s.fld page Hd.EVT_RAW) bit on)) :=
    State.touches_setFld s _ (.inl rfl)
  unfold State.level
  dsimp only
  split
  · exact raw.trans (State.touches_occur (fun _ h => .inr (.inr h)) _ page bit _ false (.inr (.inl rfl)))
  · exact raw

theorem State.touches_showTrials (s : State) : s.Touches (Reg.LevelKey 0x73) s.showTrials :=
  (State.touches_level s _ _ _ _).trans (State.touches_level _ _ _ _ _)

/-- Firmware that boots shows on page 0x73 and, where its events find no room, on page 0x7E; any other page stays in its state. -/
theorem State.pstate_fwBoots {s : State} {n page : Nat} (h73 : page ≠ 0x73) (h7E : page ≠ 0x7E) :
    (s.fwBoots n).pstate page = s.pstate page := by
  refine congrArg (bitsOf · _ _) ((State.touches_showTrials _).reg_eq ?_)
  have elsewhere {o : Nat} (ho : o < 4096) : Reg.key page 0x10 0 ≠ Reg.key 0x73 o 0 :=
    Reg.key_ne_of_page h73.symm ho (by decide) (by decide) (by decide)
  rintro (h | h | h)
  · exact elsewhere (by decide) h
  · exact elsewhere (by decide) h
  · exact h7E (h.page_eq (by decide) (by decide))

theorem State.now_fwBoots (s : State) (n : Nat) : (s.fwBoots n).now = s.now := now_of_core (trunk_fwBoots s n)

/-- The boot of a lane whose firmware is loaded and good, in a module that is READY (R113, R124). -/
theorem execBootComplete_loaded {t : Nat} {l : Lane} {s : State} :
    let u := s.start t
    let r := u.lane l
    let v := ((u.setLane l { r with phase := .running, bootDone := some u.now }).fwBoots (fwInstance l)).setFld 4 (bootMs l)
      (saturate 16 ((u.now - r.releasedAt) / 1000000))
    r.phase = .booting → r.loaded = true → r.fwBad = false → (l = .a ∨ u.power.sharedAt = none) → u.pstate 4 = 1 →
    execBootComplete t l s = .next (v.firstProfile.settleBoots) := by
  intro u r v hp hl hb hs h4
  have boots : ¬(r.phase != .booting || !r.loaded || r.fwBad) = true := by simp [hp, hl, hb]
  have early : ¬(l = .b ∧ u.power.sharedAt.isSome = true) := by
    rintro ⟨rfl, ha⟩
    rcases hs with h | h
    · cases h
    · simp [h] at ha
  have elsewhere : Reg.key 4 0x10 0 ≠ Reg.key 4 ((bootMs l).pos 0 0) 0 := by cases l <;> decide
  have ready : v.pstate 4 = 1 := by
    calc v.pstate 4
      _ = ((u.setLane l { r with phase := .running, bootDone := some u.now }).fwBoots (fwInstance l)).pstate 4 :=
          State.fld_setFld_of_ne _ _ _ _ _ _ _ _ _ _ elsewhere
      _ = u.pstate 4 := State.pstate_fwBoots (by decide) (by decide)
      _ = 1 := h4
  have stays : ¬(v.pstate 4 = 0 ∨ v.pstate 4 = 2) := by omega
  unfold execBootComplete
  simp only [← show u = s.start t from rfl, ← show r = u.lane l from rfl, if_neg boots, if_neg early, State.now_fwBoots,
    State.setLane_now]
  exact congrArg (fun w : State => Host.Outcome.next w.firstProfile.settleBoots) (if_neg stays)

/-- Two seconds after its boot a lane has heard no HELLO (R84). -/
theorem execBootWaitExpiry_unheard {t x : Nat} {l : Lane} {s : State} :
    let u := s.start t
    let r := u.lane l
    r.bootDone = some x → u.laneState l = 1 → r.join.retryAt = none → x + 2000000000 ≤ u.now → r.hello = none →
    execBootWaitExpiry t l s = .next ((u.startAlone l).settleBoot l.other) := by
  intro u r hx hl hj hd hh
  have waited : ¬(u.laneState l ≠ 1 ∨ r.join.retryAt.isSome = true ∨ u.now < x + 2000000000) := by simp [hl, hj, hd]
  have unheard : r.hello.isNone = true ∨ (u.lane l.other).bootDone.isNone = true := .inl (by rw [hh]; rfl)
  unfold execBootWaitExpiry
  simp only [← show u = s.start t from rfl, ← show r = u.lane l from rfl, hx, if_neg waited, if_pos unheard]

/-- A lane that joins a lane in ALONE, between two of its cycles (R84, R85; log 44). -/
theorem execJoinCommit_alone {t : Nat} {l : Lane} {s : State} :
    let u := s.start t
    let o := l.other
    u.leads o = true → (u.cle o).phase = .idle → (u.cle o).waiting = false → u.laneState o = 3 →
    execJoinCommit t l s =
      .next (let v := ((u.copyEngine l).setFld (lanePage l) Ln.JOIN_STATUS_PCT 100).raise (lanePage l) 2
        ((((v.setLane l { v.lane l with join := { resync := false } }).setLaneState o 4).setLaneState l 4).restoreMap l)) := by
  intro u o hl hp hw ho
  have commits : ¬(!u.leads o || !((u.cle o).phase == .idle || (u.cle o).phase == .done || u.pstate (clePage o) == 3)
      || (u.cle o).waiting) = true := by
    simp [hl, hp, hw]
  have alone : (u.laneState o == 7) = false := by rw [ho]; rfl
  unfold execJoinCommit
  simp only [← show u = s.start t from rfl, ← show o = l.other from rfl, if_neg commits, alone, Bool.false_eq_true, if_false]

/-! Ownership. -/

theorem laneOf?_lanePage (l : Lane) : laneOf? (lanePage l) = some l := by cases l <;> rfl

/-- An ownership opcode of a lane that passes checks 1 to 3 waits for the end of its arbitration window (R89, R90). -/
theorem State.ownArrive_waits {s : State} {q : Req} (hh : s.holds q.page q.code = false) (hr : s.retired = false)
    (hp : pageUsed q.page = true) (hg : q.gen = s.gen q.page) (ho : (pageKind q.page).owned = true) (hc : q.code = 1 ∨ q.code = 2)
    (opc arg0 : Nat) (firmware : Bool) :
    s.ownArrive q opc arg0 firmware =
      s.setRes q.page { s.resRec q.page with arb := (s.resRec q.page).arb ++ [⟨q, opc, arg0, s.now, firmware⟩] } := by
  have lane : (q.code == 1 || q.code == 2) = true := by simpa using hc
  simp only [State.ownArrive, hh, hr, hp, hg, ho, lane, Bool.not_true, Bool.false_eq_true, if_false, ne_eq, not_true_eq_false]

/-- A request alone in a window that has passed is decided (R90). -/
theorem State.ownArbitrate_alone {s : State} {page : Nat} {r : ArbReq} (hr : (s.resRec page).arb = [r])
    (hd : r.since + 1000 ≤ s.now) :
    s.ownArbitrate page = ((s.setRes page { s.resRec page with arb := [] }).ownDecide r).settleErrands := by
  simp only [State.ownArbitrate, hr, if_neg (Nat.not_lt.mpr hd), List.find?_nil]

/-- OWN_MOVE of a lane for a resource of its own, which is done, or of the other lane, whose move begins (R97). -/
theorem State.command_ownMove {s : State} {l : Lane} {q : Req} (hq : q.page = lanePage l) (h : s.verdict q cmdOwnMove = 0) :
    s.command q cmdOwnMove =
      if s.owner q.chan = l.num then s.writeResult q (s.pstate q.page) RC.done
      else ((s.beginMove l q.chan 0).openCmd q 1).writeResult q (s.pstate q.page) RC.accepted := by
  have act : cmdOwnMove.act s q (s.arg0 q) (s.arg1 q) =
      if s.owner q.chan = l.num then (s, RC.done) else (s.beginMove l q.chan 0, RC.accepted) := by
    simp only [cmdOwnMove, hq, laneOf?_lanePage]
  split
  case isTrue own => exact State.command_done h (act.trans (if_pos own))
  case isFalse other => exact State.command_open h (act.trans (if_neg other)) (.inl rfl)

/-- RELEASE_ALL of a lane offers every resource it owns (R97). -/
theorem State.command_releaseAll {s : State} {l : Lane} {q : Req} (hq : q.page = lanePage l) (h : s.verdict q cmdReleaseAll = 0) :
    s.command q cmdReleaseAll =
      ((s.each (ownedPages.filter fun p => s.owner p == l.num) fun s p => s.beginErrand l p 1 Own.offer).openCmd q
        2).writeResult q (s.pstate q.page) RC.accepted := by
  refine State.command_open h ?_ (.inl rfl)
  simp only [cmdReleaseAll, hq, laneOf?_lanePage]

/-- A lane's only errand, a move that has stood for 100 ms without an offer (R96, R97). -/
theorem execOwnMoveTimeout_due {t page : Nat} {l : Lane} {e : OwnErrand} {s : State} :
    let u := s.start t
    u.errands l = [e] → e.page = page → e.kind ≠ 1 → e.offered = false → e.since + 100000000 ≤ u.now →
    execOwnMoveTimeout t l page s = .next ((u.endMove l page RC.aborted).setErrands l []) := by
  intro u he hp hk ho hd
  have due : (e.page == page && e.kind != 1 && !e.offered && decide (e.since + 100000000 ≤ u.now)) = true := by
    simp [hp, hk, ho, hd]
  unfold execOwnMoveTimeout
  simp only [← show u = s.start t from rfl, he, List.any_cons, List.any_nil, List.filter_cons, List.filter_nil, due,
    Bool.true_or, Bool.not_true, Bool.false_eq_true, if_true, if_false]

/-- After its wait a lane whose only errand is a move of a resource of the other lane asks for it again, or accepts the offer that
stands (R91). -/
theorem execOwnRetry_move {t page n : Nat} {l : Lane} {e : OwnErrand} {s : State} :
    let u := s.start t
    let v := u.setErrands l [{ e with nextAt := none }]
    u.errands l = [e] → e.page = page → e.nextAt = some n → n ≤ u.now → e.kind ≠ 1 → v.holds page l.num = false →
    v.owner page ≠ l.num →
    execOwnRetry t l page s =
      .next (v.ownIssue l page (if v.fld 3 Xg.OWN_STATE_OFFER page = l.num then Own.accept else Own.request)) := by
  intro u v he hp hn hd hk hh ho
  have found : (u.errands l).find? (fun e => e.page == page) = some e := by simp [he, hp]
  have again : (u.errands l).map (fun e => if e.page = page then { e with nextAt := none } else e) = [{ e with nextAt := none }] := by
    simp [he, hp]
  unfold execOwnRetry
  simp only [← show u = s.start t from rfl, found, hn, hd, again, ← show v = u.setErrands l [{ e with nextAt := none }] from rfl, hh,
    hk, ho, Bool.false_eq_true, if_true, if_false]
  split <;> rfl

end Sys2Proof.Machine

open Sys2Proof Sys2Proof.Machine

/-- Settles O6, row by row: each row under its hypotheses takes the branch that carries it out. -/
theorem crossingFramesComplete : Obligations.CrossingFramesComplete := by
  refine ⟨?mark, ?idle, ?hello, ?join, ?mirror, ?signal, ?trained, ?silent, ?freqLimit, ?freqClear⟩
  case mark => exact fun _ _ _ _ _ _ => execMarkFrame_heard
  case idle =>
    intro t l k c s u x n v hs
    exact congrArg _ (if_neg (show ¬(!x.sending) = true by simp [hs]))
  case hello =>
    intro t l c s u r hr
    exact congrArg _ (if_pos hr)
  case join => exact fun _ _ _ _ _ => execJoinFrame_firstPass
  case mirror => exact fun _ _ _ _ _ => execMirrorFrame_received
  case signal =>
    intro t l k s u x hx ha ho
    exact congrArg _ (if_pos ⟨hx, ha, ho⟩)
  case trained => exact fun _ _ _ _ => execLinkTrainDone_trained
  case silent =>
    intro t l k s u hx hd
    exact congrArg _ (if_pos ⟨hx, .inr hd⟩)
  case freqLimit =>
    intro t s u v w hs
    exact congrArg _ (if_neg (show ¬(!u.stood u.pair.above) = true by simp [hs]))
  case freqClear =>
    intro t s u v hs
    exact congrArg _ (if_pos hs)

/-- Settles O7, row by row: each row under its hypotheses takes the branch that carries it out. -/
theorem laneLifeRowsComplete : Obligations.LaneLifeRowsComplete := by
  refine ⟨?boot, ?bootWait, ?joinCommit, ?joinLimit, ?joinRetry, ?split, ?ackRejoin, ?countersClear, ?takeoverMs⟩
  case boot => exact fun _ _ _ => execBootComplete_loaded
  case bootWait => exact fun _ _ _ _ => execBootWaitExpiry_unheard
  case joinCommit => exact fun _ _ _ => execJoinCommit_alone
  case joinLimit =>
    intro t l s u hl hd
    exact congrArg _ (if_pos ⟨hl, hd⟩)
  case joinRetry =>
    intro t x l s u hx hd
    have retry : (u.lane l).join.retryAt = some x := hx
    change execJoinRetry t l s = _
    simp only [execJoinRetry, ← show u = s.start t from rfl, retry, if_pos hd]
  case split =>
    intro t l s u hl hg
    exact congrArg _ (if_pos ⟨hl, hg⟩)
  case ackRejoin =>
    intro t q s u h
    exact congrArg _ (State.command_done h rfl)
  case countersClear =>
    intro t q s u h
    exact congrArg _ (State.command_done h rfl)
  case takeoverMs =>
    intro t w s u w3 h
    have aligned : Xg.TAKEOVER_MS.off % 4096 / 4 * 4 = Xg.TAKEOVER_MS.off := by decide
    change Host.Outcome.next (u.write w3 id) = _
    rw [State.write_done aligned (by decide : pageUsed 3 = true) h, id_eq]

/-- Settles O8, row by row: each row under its hypotheses takes the branch that carries it out. -/
theorem ownershipRequestsComplete : Obligations.OwnershipRequestsComplete := by
  refine ⟨?opcodes, ?arbitration, ?move, ?moveTimeout, ?releaseAll, ?resync, ?retry, ?offerExpiry, ?requestExpiry⟩
  case opcodes =>
    intro t q s u r hh hr hp hg ho hc
    have waits (opc : Nat) := State.ownArrive_waits hh hr hp hg ho hc opc (u.arg0 q) false
    exact ⟨congrArg _ (waits 0xE0), congrArg _ (waits 0xE1), congrArg _ (waits 0xE2), congrArg _ (waits 0xE3)⟩
  case arbitration =>
    intro t page r s u v x hr hd
    have decided : u.ownArbitrate page = (v.ownDecide r).settleErrands := State.ownArbitrate_alone hr hd
    change execOwnArbitration t page s = _
    simp only [execOwnArbitration, ← show u = s.start t from rfl, decided, x]
  case move =>
    intro t l q s u hq h
    exact congrArg _ (State.command_ownMove hq h)
  case moveTimeout => exact fun _ _ _ _ _ => execOwnMoveTimeout_due
  case releaseAll =>
    intro t l q s u hq h
    exact congrArg (fun v : State => Host.Outcome.next v.settleErrands) (State.command_releaseAll hq h)
  case resync =>
    intro t q s u h
    exact congrArg _ (State.command_done h rfl)
  case retry => exact fun _ _ _ _ _ _ => execOwnRetry_move
  case offerExpiry =>
    intro t page s u ho hd
    exact congrArg _ (if_pos ⟨ho, hd⟩)
  case requestExpiry =>
    intro t page s u hr hd
    exact congrArg _ (if_pos ⟨hr, hd⟩)

end

section
/-! PROOF. The rows of the lanes' supplies and resets (O10), and of the motor buses, the rails and the field supplies (O11): under the
conditions of a row's rule the row takes the branch that carries it out. -/

namespace Sys2Proof.Machine

/-! The supplies of the lanes. -/

/-- The phases of a lane that is not held in reset, as the supplies and resets ask for them (R105, R109). -/
theorem phase_up {p : ResetPhase} (h : p = .running ∨ p = .booting) : (p == .running || p == .booting) = true := by
  simpa using h

/-- The common rail rises while a lane has its supply (R102, R109). -/
theorem execPowerOn_supplied {t : Nat} {f : PowerFound} {s : State} :
    let u := s.start t
    u.power.common = false → ((u.lane .a).supply = true ∨ (u.lane .b).supply = true) →
    execPowerOn t f s = .next (u.poweredOn f) := by
  intro u hc hs
  have down : ¬(u.power.common || !((u.lane .a).supply || (u.lane .b).supply)) = true := by
    rcases hs with h | h <;> simp [hc, h]
  exact congrArg _ (if_neg down)

/-- A lane that is up keeps its record but for the supply, and no secure region loses its power (R105, R535). -/
theorem execLaneSupplyAbsent_up {t : Nat} {l : Lane} {s : State} :
    let u := s.start t
    let r := u.lane l
    let v := ((u.setLane l { r with supply := false, absentAt := u.now }).bump 4 (interrupts l)).raise 4 0 l.num
    r.supply = true → (r.phase = .running ∨ r.phase = .booting) → v.pstate 4 ≠ 3 →
    execLaneSupplyAbsent t l s = .next v := by
  intro u r v hs hu hp
  have held : ¬(r.phase == .held) = true := by rcases hu with h | h <;> simp [h]
  unfold execLaneSupplyAbsent State.laneSupplyAbsent
  simp only [← show u = s.start t from rfl, ← show r = u.lane l from rfl, hs, phase_up hu, Bool.not_true, Bool.false_eq_true,
    if_true, if_neg held]
  have kept : ¬(v.pstate 4 = 3 ∧ (!(v.lane l.other).supply) = true) := fun h => hp h.1
  exact congrArg _ (if_neg kept)

/-- A lane that runs shuts down after 10 ms without its supply, and page 0x04 keeps its state while the other lane has its own
(R105, R124). -/
theorem execSupplyLost_running {t : Nat} {l : Lane} {s : State} :
    let u := s.start t
    let v := (u.raise 4 1 l.num).laneReset l 2
    (u.lane l).supply = false → (u.lane l).absentAt + 10000000 ≤ u.now → (u.lane l).phase = .running →
    (v.lane l.other).supply = true → execSupplyLost t l s = .next v := by
  intro u v hs hd hr ho
  have lost : ¬((u.lane l).supply || decide (u.now < (u.lane l).absentAt + 10000000)) = true := by simp [hs, hd]
  have other : ¬(v.pstate 4 = 1 ∧ (!(v.lane l.other).supply) = true ∧ (v.lane l.other).absentAt + 10000000 ≤ v.now) := by simp [ho]
  unfold execSupplyLost
  simp only [← show u = s.start t from rfl, if_neg lost, phase_up (.inl hr), if_true,
    ← show v = (u.raise 4 1 l.num).laneReset l 2 from rfl, if_neg other]

/-- Both lanes' supplies absent for 60 ms (R106). -/
theorem execCommonRailFall_due {t : Nat} {s : State} :
    let u := s.start t
    u.power.common = true → (u.lane .a).supply = false → (u.lane .b).supply = false →
    (u.lane .a).absentAt + 60000000 ≤ u.now → (u.lane .b).absentAt + 60000000 ≤ u.now →
    execCommonRailFall t s = .next ((u.putPower { u.power with common := false }).wholeReset 0 u.bootCount ⟨true, true⟩) := by
  intro u hc ha hb hda hdb
  simp only [execCommonRailFall, ← show u = s.start t from rfl, hc, ha, hb, hda, hdb, Bool.not_false, decide_true, Bool.and_self,
    Bool.not_true, Bool.or_self, Bool.false_eq_true, if_false]

/-! The resets of a lane. -/

/-- A lane with firmware to run, which it has yet to load, boots on its release (R113). -/
theorem execResetRelease_boots {t : Nat} {l : Lane} {f : BootFound} {s : State} :
    let v := (s.start t).release l
    (v.lane l).phase = .booting → (v.lane l).loaded = false → (v.lane l).fwBad = false →
    execResetRelease t l f s = .next ((v.bootMeasures f.hold).boot l f) := by
  intro v hp hl hf
  have boots : ((v.lane l).phase == .booting && !(v.lane l).loaded && !(v.lane l).fwBad) = true := by simp [hp, hl, hf]
  exact congrArg _ (if_pos boots)

/-- A lane that stops is held once its links are quiet (R105, R110). -/
theorem execCrossingStop_stopping {t : Nat} {l : Lane} {s : State} :
    let u := s.start t
    let r := u.lane l
    r.phase = .stopping → r.sending = true → r.resetAt + 1500000 ≤ u.now →
    execCrossingStop t l s = .next ((u.setLane l { r with sending := false }).holdLane l) := by
  intro u r hp hs hd
  have due : ¬(!(r.phase == .shutdown || r.phase == .stopping) || !r.sending || decide (u.now < r.resetAt + 1500000)) = true := by
    simp [hp, hs, hd]
  have stops : (r.phase == .stopping) = true := by simp [hp]
  exact congrArg _ ((if_neg due).trans (if_pos stops))

/-- A shutdown ends 50 ms after it began, its links quiet (R105, R558). -/
theorem execLaneShutdownDone_due {t : Nat} {l : Lane} {ms : Fin 40} {s : State} :
    let u := s.start t
    let r := u.lane l
    r.phase = .shutdown → r.sending = false → r.shutAt + 50000000 ≤ u.now →
    execLaneShutdownDone t l ms s = .next ((u.shutdownVat l ms).holdLane l) := by
  intro u r hp hs hd
  have due : (r.phase == .shutdown && !r.sending && decide (r.shutAt + 50000000 ≤ u.now)) = true := by simp [hp, hs, hd]
  exact congrArg _ (if_pos due)

/-- A held lane is released 20 ms after the later of its hold and the end of the cause (R110, R113). -/
theorem State.release_due {u : State} {l : Lane} {c : Nat} :
    let r := u.lane l
    r.causeEnd = some c → r.phase = .held → r.heldAt + 20000000 ≤ u.now → c + 20000000 ≤ u.now → u.power.common = true →
    u.release l =
      let v := u.setLane l { r with phase := .booting, releasedAt := u.now, loaded := false, stay := false, fwBad := false }
      let v := (v.setLaneState l 1).setFld (lanePage l) Ln.LANE_INFO_CAUSE (laneCause r.resetCode)
      (if 2 ≤ r.resetCode then v.raise 4 5 r.resetCode else v).selfTest := by
  intro r hc hp hd hd' hr
  have ended : max r.heldAt c + 20000000 ≤ u.now := by omega
  have due : ¬(r.phase != .held || decide (u.now < max r.heldAt c + 20000000) || !u.power.common) = true := by simp [hp, hr, ended]
  unfold State.release
  simp only [← show r = u.lane l from rfl, hc]
  exact if_neg due

/-- Of a lane that runs the memory first shows a fatal error of codes 1 and 2 (R109, R528, R529). -/
theorem execLaneFatal_running {t addr : Nat} {l : Lane} {code : Fin 4} {s : State} (h : ((s.start t).lane l).phase = .running) :
    execLaneFatal t l code addr s =
      let u := s.start t
      .next ((if code.val = 1 then u.collision l 0 1 addr else if code.val = 2 then u.eccUncorrected l 1 addr else u).laneFatal l
        (16 + code.val)) := by
  simp only [execLaneFatal, phase_up (.inl h), Bool.not_true, Bool.false_eq_true, if_false]

/-- The over-temperature of a lane that runs leaves the end of its cause as it was until the reset (R109, R110). -/
theorem execLaneOvertemp_running {t : Nat} {l : Lane} {s : State} :
    let u := s.start t
    (u.lane l).phase = .running →
    execLaneOvertemp t l s = .next ((u.setLane l { u.lane l with overTemp := true }).laneReset l 6) := by
  intro u h
  simp only [execLaneOvertemp, ← show u = s.start t from rfl, phase_up (.inl h), if_true]

/-! The motor buses, the rails and the field supplies. -/

/-- A motor bus that comes while the common rail is up starts its pre-charge (R104). -/
theorem execMotorBusPresent_comes {t : Nat} {b : Fin 2} {s : State} :
    let u := s.start t
    let v := (u.setBusPresent b true).showSupplies b
    u.busPresent b = false → v.power.common = true →
    execMotorBusPresent t b s = .next ((v.setBus b { v.bus b with presentAt := some v.now }).setBusState b 1) := by
  intro u v hb hc
  exact congrArg _ ((if_neg (Bool.eq_false_iff.mp hb)).trans (if_pos hc))

/-- A pre-charge that has lasted 100 ms (R104, R347). -/
theorem execPrechargeDone_due {t x : Nat} {b : Fin 2} {s : State} :
    let u := s.start t
    (u.bus b).presentAt = some x → u.fld 0x0E Ra.BUS_STATUS_STATE b = 1 → x + 100000000 ≤ u.now →
    execPrechargeDone t b s = .next (((u.setBus b { u.bus b with presentAt := none }).setBusState b 2).settle b) := by
  intro u hx hb hd
  simp only [execPrechargeDone, ← show u = s.start t from rfl, hx, hb, hd, and_self, if_true]

/-- A rail that differs from what was last seen is a change of it (R443, R624). -/
theorem State.railSeen_changes {u : State} {l : Lane} {on : Bool} (h : u.power.rail.of l = !on) :
    u.railSeen l on = (u.railChanged l on).showSupplies (l.num + 1) :=
  if_neg (Bool.eq_not.mp h)

/-- A field supply that differs from what was last seen is a change of it (R413, R624). -/
theorem State.fieldSeen_changes {u : State} {n : Nat} {on : Bool} (h : bitAt u.power.field n = !on) :
    u.fieldSeen n on =
      ((u.putPower { u.power with field := setBit u.power.field n on }).fieldSupplyChanged (0x30 + n)).showSupplies (n + 16) :=
  if_neg (Bool.eq_not.mp h)

end Sys2Proof.Machine

open Sys2Proof Sys2Proof.Machine

/-- Settles O10, row by row: each row under its hypotheses takes the branch that carries it out. -/
theorem supplyRowsComplete : Obligations.SupplyRowsComplete := by
  refine ⟨?powerOn, ?release, ?absent, ?present, ?lost, ?quiet, ?shutdown, ?holdEnd, ?railFall, ?watchdog, ?fatal, ?overtemp, ?recover⟩
  case powerOn => exact fun _ _ _ => execPowerOn_supplied
  case release => exact fun _ _ _ _ => execResetRelease_boots
  case absent => exact fun _ _ _ => execLaneSupplyAbsent_up
  case present =>
    intro t l s u hs
    exact congrArg _ (if_neg (Bool.eq_false_iff.mp hs))
  case lost => exact fun _ _ _ => execSupplyLost_running
  case quiet => exact fun _ _ _ => execCrossingStop_stopping
  case shutdown => exact fun _ _ _ _ => execLaneShutdownDone_due
  case holdEnd =>
    intro t c l s u r hc hp hd hd' hr
    exact congrArg _ (State.release_due hc hp hd hd' hr)
  case railFall => exact fun _ _ => execCommonRailFall_due
  case watchdog => exact fun _ _ _ => rfl
  case fatal =>
    intro t addr l s u h
    exact ⟨execLaneFatal_running h, execLaneFatal_running h, execLaneFatal_running h, execLaneFatal_running h⟩
  case overtemp => exact fun _ _ _ => execLaneOvertemp_running
  case recover => exact fun _ _ _ => rfl

/-- Settles O11, row by row: each row under its hypotheses takes the branch that carries it out. -/
theorem busAndRailRowsComplete : Obligations.BusAndRailRowsComplete := by
  refine ⟨?cell, ?busPresent, ?precharged, ?busAbsent, ?overvolt, ?recover, ?railGoes, ?railComes, ?fieldGoes, ?fieldComes, ?limit⟩
  case cell => exact fun _ _ _ => rfl
  case busPresent => exact fun _ _ _ => execMotorBusPresent_comes
  case precharged => exact fun _ _ _ _ => execPrechargeDone_due
  case busAbsent =>
    intro t b s u h
    exact congrArg _ (if_pos h)
  case overvolt =>
    intro t b s u h
    exact congrArg _ (if_pos h)
  case recover =>
    intro t b s u h
    exact congrArg _ (if_pos h)
  case railGoes =>
    intro t l s u h
    have gone : u.railSeen l false = (u.railChanged l false).showSupplies (l.num + 1) := State.railSeen_changes h
    exact ⟨congrArg _ gone, congrArg _ gone⟩
  case railComes =>
    intro t l s u h
    exact congrArg _ (State.railSeen_changes h)
  case fieldGoes =>
    intro t n s u v h
    exact congrArg _ (State.fieldSeen_changes h)
  case fieldComes =>
    intro t n s u v h
    exact congrArg _ (State.fieldSeen_changes h)
  case limit => exact fun _ _ _ => rfl

end

section
/-! PROOF. The rows of the host ports, the handshake, the sessions and the claim (O13): under the conditions of a row's rule the row
takes the branch that carries it out. -/

namespace Sys2Proof.Machine

/-! The ports. -/

theorem port_val_ne_four {port : Fin 5} (h : port ≠ 4) : port.val ≠ 4 := fun hp => h (Fin.ext hp)

/-- An enabled port of the ports 0 to 3 that has no link gains it (R156, R158). -/
theorem execPortLinkUp_gains {t : Nat} {port : Fin 5} {fast : Bool} {s : State} :
    let u := (s.start t).portInForce port
    u.flag 5 Pt.LINK_UP port = false → u.portBit port Pt.PORT_CFG_ENA = true → port ≠ 4 →
    execPortLinkUp t port fast s =
      .next ((((u.setFld 5 Pt.LINK_UP 1 port).setFld 5 Pt.LINK_SPEED (if fast then 2 else 1) port).raise 5 0 port).ptpRoles) := by
  intro u hl he hp
  have gains : ¬(u.flag 5 Pt.LINK_UP port || !u.portBit port Pt.PORT_CFG_ENA) = true := by simp [hl, he]
  have speed : (fast && port.val != 4) = fast := by simp [port_val_ne_four hp]
  refine congrArg _ ((if_neg gains).trans ((if_neg (port_val_ne_four hp)).trans ?_))
  rw [speed]

/-- A port of the ports 0 to 3 that has link loses it (R129, R158). -/
theorem State.linkLost_up {s : State} {p : Nat} (hl : s.flag 5 Pt.LINK_UP p = true) (hp : p ≠ 4) :
    s.linkLost p =
      ((((s.setFld 5 Pt.LINK_UP 0 p).setFld 5 Pt.LINK_SPEED 0 p).bump 5 Pt.LINK_DOWNS p).raise 5 1 p).ptpRoles :=
  (if_neg (Bool.not_not_eq.mpr hl)).trans (if_neg hp)

/-- Another address than the active one is taken, and ends the port's sessions (R157, R158; log 110). -/
theorem State.setAddress_changes {s : State} {p : Nat} {addr : Word} (h : s.fld 5 Pt.IP_ACTIVE p ≠ addr.toNat) :
    s.setAddress p addr.toNat =
      let v := (s.setFld 5 Pt.IP_ACTIVE addr.toNat p).raise 5 2 p
      v.each ((List.range 4).filter fun k => (v.slot k).active && (v.slot k).port == p) fun x k => x.endSession k Reason.idle false :=
  if_neg (by rwa [Nat.mod_eq_of_lt addr.isLt])

/-! Handshakes and sessions. -/

/-- A session of a subject that has none takes slot 0 while that is free (R133). -/
theorem State.admitSession_first {s : State} {x : Session} {ref : Nat}
    (hs : (List.range 4).find? (fun k => (s.slot k).active && (s.slot k).subject == x.subject) = none)
    (hf : (s.slot 0).active = false) :
    s.admitSession x ref = (s.openSession 0 x ref).raise 6 0 (x.port * 2 ^ 12 + x.role * 2 ^ 8) := by
  have free : (List.range 4).find? (fun k => !(s.slot k).active) = some 0 :=
    List.find?_cons_of_pos (by simp [hf])
  simp only [State.admitSession, hs, free, Nat.add_zero]

/-- The only record of a session's queue, not acknowledged 200 ms after it was sent, is sent again (R141). -/
theorem execEventResend_due {t : Nat} {slot : Fin 4} {r : QueuedRec} {s : State} :
    let u := s.start t
    let d := u.dest slot
    (u.slot slot).active = true → d.recs = [r] → r.sentAt + 200000000 ≤ u.now →
    execEventResend t slot s =
      .next ((u.setDest slot { d with recs := [{ r with sentAt := u.now }] }).sendEvents slot [r.record]) := by
  intro u d ha hr hd
  have due : (d.recs.filter fun r => r.sentAt + 200000000 ≤ u.now).take 48 = [r] := by simp [hr, hd]
  have goes : ¬([r] = [] ∨ (!(u.slot slot).active) = true) := by simp [ha]
  unfold execEventResend
  simp only [← show u = s.start t from rfl, ← show d = u.dest slot from rfl, due, if_neg goes]
  simp [hr]

end Sys2Proof.Machine

open Sys2Proof Sys2Proof.Machine

/-- Settles O13, row by row: each row under its hypotheses takes the branch that carries it out. -/
theorem portsAndSessionsComplete : Obligations.PortsAndSessionsComplete := by
  refine ⟨?linkUp, ?linkDown, ?address, ?announce, ?hello, ?cookie, ?handshake, ?handshakeTimeout, ?idle, ?expiry, ?sessionEnd,
    ?resend, ?handleIdle, ?portRestart, ?consist, ?claim, ?release, ?close, ?clear⟩
  case linkUp => exact fun _ _ _ _ => execPortLinkUp_gains
  case linkDown =>
    intro t port s u hl hp
    exact congrArg _ (State.linkLost_up hl (port_val_ne_four hp))
  case address =>
    intro t port addr s u hd ha
    exact congrArg _ ((if_pos hd).trans (State.setAddress_changes ha))
  case announce =>
    intro t port s u v he hl ha hd
    have due : (u.flag 5 Pt.ANNOUNCE_ENA && u.flag 5 Pt.LINK_UP port && u.fld 5 Pt.IP_ACTIVE port != 0
        && u.announceDue port) = true := by
      simp [he, hl, ha, hd]
    exact congrArg _ (if_pos due)
  case hello =>
    intro t ip udp port o s u v ht ho hn
    exact congrArg _ ((if_neg (Bool.not_not_eq.mpr ht)).trans ((if_neg (Bool.not_not_eq.mpr ho)).trans
      ((if_neg (Bool.not_not_eq.mpr rfl)).trans (if_pos hn))))
  case cookie =>
    intro t ip udp port o s u ht ho
    exact congrArg _ ((if_neg (Bool.not_not_eq.mpr ht)).trans ((if_neg (Bool.not_not_eq.mpr ho)).trans (if_pos rfl)))
  case handshake =>
    intro t port c s u mine v hm hc hs hf
    exact congrArg _ ((if_neg (Bool.not_not_eq.mpr hm)).trans ((if_neg (not_not_intro hc)).trans (State.admitSession_first hs hf)))
  case handshakeTimeout => exact fun _ _ => rfl
  case idle =>
    intro t slot s u ha hd
    exact congrArg _ (if_pos ⟨ha, hd⟩)
  case expiry =>
    intro t slot s u ha hc hx
    have invalid : u.certInvalid slot = true := by simp [State.certInvalid, ha, hc, hx]
    exact congrArg _ (if_pos invalid)
  case sessionEnd => exact fun _ _ _ => rfl
  case resend => exact fun _ _ _ _ => execEventResend_due
  case handleIdle => exact fun _ _ _ => rfl
  case consist =>
    intro t q s u h hn
    exact congrArg _ (State.command_done h (if_neg hn))
  case portRestart | claim | release | close | clear =>
    intro t q s u h
    exact congrArg _ (State.command_done h rfl)

end

section
/-! PROOF. The rows of the Hanuca requests (O14): a request that its session takes at once goes through the fabric to the part that
serves it, and under the conditions of its row that part takes the branch that carries it out. -/

namespace Sys2Proof.Machine

/-! The record of a session while the fabric looks at a request (R131, R134, R152). -/

theorem State.slot_congr {s u : State} (h : u.host.slots = s.host.slots) (k : Nat) : u.slot k = s.slot k :=
  congrArg (fun m : Tab Session => m.rd {} k) h

@[simp] theorem State.slot_bump (s : State) (page : Nat) (f : Field) (i j n k : Nat) : (s.bump page f i j n).slot k = s.slot k :=
  State.slot_congr (congrArg (·.slots) (State.bump_host s page f i j n)) k

/-- A part of a session's record that the keys' time does not touch. -/
theorem State.slot_freshKeys {α : Type} (f : Session → α) (hf : ∀ x a, f { x with keyAt := a } = f x) (s : State) (k : Nat) :
    f ((s.freshKeys k).slot k) = f (s.slot k) := by
  have told (u : State) (m : OutMsg) : (u.tell k m).slot k = u.slot k :=
    State.slot_congr (by simp only [State.tell, State.sendOn, State.putOut_host, State.bump_host]) k
  unfold State.freshKeys
  dsimp only
  split
  · rfl
  · rw [told, State.slot_setSlot, if_pos rfl, hf]

/-- A part of a session's record that a datagram noted on it does not touch. -/
theorem State.slot_datagram {α : Type} (f : Session → α) (hf : ∀ x a b, f { x with lastDatagram := a, keyAt := b } = f x)
    (s : State) (k : Nat) (c : Carrier) : f ((s.datagram k c).slot k) = f (s.slot k) := by
  unfold State.datagram
  dsimp only
  rw [State.slot_freshKeys f (fun x a => hf x x.lastDatagram a), State.slot_setSlot, if_pos rfl, State.slot_bump]
  exact hf _ _ (s.slot k).keyAt

/-- A part of a session's record that its tokens do not touch. -/
theorem State.slot_takeTokens {α : Type} (f : Session → α) (hf : ∀ x n d, f { x with reqTok := n, dataTok := d } = f x)
    (s : State) (k : Nat) (r : HanucaReq) : f ((s.takeTokens k r).slot k) = f (s.slot k) := by
  have taken := State.slot_setSlot s k k
    { s.slot k with reqTok := (s.slot k).reqTok - 1000000000, dataTok := (s.slot k).dataTok - r.logLen * 1000000000 }
  exact (congrArg f (taken.trans (if_pos rfl))).trans (hf _ _ _)

/-- A part of a session's record that neither E nor the buckets touch. -/
theorem State.slot_atGate {α : Type} (f : Session → α) (he : ∀ x e, f { x with expected := e } = f x)
    (hr : ∀ x now rate data, f (x.refill now rate data) = f x) (s : State) (k : Nat) (r : HanucaReq) :
    f ((s.atGate k r).slot k) = f ((s.datagram k r.carrier).slot k) := by
  unfold State.atGate
  dsimp only
  rw [State.slot_setSlot, if_pos rfl, hr, State.slot_setSlot, if_pos rfl, he]

/-! A request that is served when it arrives (R134, R144, R153). -/

theorem State.receive_taken {s : State} {k : Nat} {r : HanucaReq} {env : ReqEnv} (ht : s.takes k r.carrier = true)
    (hw : r.wellFormed = true) (hn : r.reqNo < 2 ^ 32) :
    s.receive k r env = (s.datagram k r.carrier).placeReq k r env := by
  have number : { r with reqNo := r.reqNo % 2 ^ 32 } = r := by rw [Nat.mod_eq_of_lt hn]
  simp only [State.receive, number, ht, hw, Bool.not_true, Bool.false_eq_true, if_false]

/-- A request with the number that is due, while nothing is held, meets the checks of the fabric (R144). -/
theorem State.placeReq_due {s : State} {k : Nat} {r : HanucaReq} {env : ReqEnv}
    (he : (s.slot k).expected.getD r.reqNo = r.reqNo) (hh : (s.slot k).held = []) :
    s.placeReq k r env =
      (s.setSlot k { s.slot k with expected := some ((s.slot k).expected.getD r.reqNo) }).admitReq k r env r.reqNo := by
  simp [State.placeReq, he, hh]

/-- The totals of the fabric and the buckets of a session brought to the present instant (R152). -/
def State.refilled (s : State) (k : Nat) : State :=
  let c := s.roleClass (s.slot k).role
  s.fabricClock.setSlot k ((s.slot k).refill s.now (classRate c) (classData c))

theorem State.atGate_eq_refilled (s : State) (k : Nat) (r : HanucaReq) :
    let a := s.datagram k r.carrier
    s.atGate k r = (a.setSlot k { a.slot k with expected := some ((a.slot k).expected.getD r.reqNo) }).refilled k := by
  unfold State.atGate
  rfl

/-- A request with the number that is due and that no check of the fabric refuses takes its tokens and is served (R144, R153). -/
theorem State.admitReq_due {s : State} {k : Nat} {r : HanucaReq} {env : ReqEnv} (hg : (s.refilled k).gate k r = none) :
    let v := ((s.refilled k).takeTokens k r).serve k r env
    s.admitReq k r env r.reqNo = if (v.slot k).active then (v.nextExpected k r.reqNo).serveHeld k env 32 else v := by
  unfold State.refilled at hg ⊢
  simp only [State.admitReq, hg, if_true]

theorem State.serve_atOnce {s : State} {k : Nat} {r : HanucaReq} {env : ReqEnv} (h : (r.toMgmt && s.mgmtRuns) = false) :
    s.serve k r env = s.answer k r env :=
  if_neg (Bool.eq_false_iff.mp h)

theorem State.mgmtRuns_takeTokens (s : State) (k : Nat) (r : HanucaReq) : (s.takeTokens k r).mgmtRuns = s.mgmtRuns := by
  simp only [State.takeTokens, State.mgmtRuns, State.setSlot, State.putHost_power, State.putHost_mgmt, State.putHost_now]

/-- A request that a session takes at once is answered before E moves on (R134, R144). -/
theorem State.receive_takesNow {s : State} {k : Nat} {r : HanucaReq} {env : ReqEnv} (h : s.takesNow k r) :
    let v := ((s.atGate k r).takeTokens k r).answer k r env
    s.receive k r env = if (v.slot k).active then (v.nextExpected k r.reqNo).serveHeld k env 32 else v := by
  obtain ⟨ht, hw, hn, he, hh, hg, hm⟩ := h
  have due : ((s.datagram k r.carrier).slot k).expected.getD r.reqNo = r.reqNo := by
    rwa [State.slot_datagram (·.expected) fun _ _ _ => rfl]
  have noneHeld : ((s.datagram k r.carrier).slot k).held = [] := by rwa [State.slot_datagram (·.held) fun _ _ _ => rfl]
  have atOnce : ((s.atGate k r).takeTokens k r).serve k r env = ((s.atGate k r).takeTokens k r).answer k r env :=
    State.serve_atOnce (by rwa [State.mgmtRuns_takeTokens])
  rw [State.atGate_eq_refilled] at hg atOnce ⊢
  rw [State.receive_taken ht hw hn, State.placeReq_due due noneHeld, State.admitReq_due hg, atOnce]

/-- What a request leaves that its part answers with `p`: its reply sent to the host of `x` after what had been sent before, and kept
for repeats (R138, R144). -/
def State.answered (p : State × OutMsg) (before : List OutMsg) (x : Session) (k : Nat) (r : HanucaReq) : State :=
  let s := ((p.1.putOut before).sendOn x.port x.ip x.udp p.2).addOut (p.1.out.filter fun x => !x.pageAnswer (4 + k))
  let s := s.putHost { p.1.host with serving := none }
  let s := if p.2.disposition = Disp.fabric then s.throttle k else s
  if (s.slot k).active then s.setSlot k ((s.slot k).keep r.reqNo p.2) else s

theorem State.answered_congr {p : State × OutMsg} {before : List OutMsg} {x y : Session} {k : Nat} {r : HanucaReq}
    (hport : x.port = y.port) (hip : x.ip = y.ip) (hudp : x.udp = y.udp) :
    State.answered p before x k r = State.answered p before y k r := by
  simp only [State.answered, hport, hip, hudp]

theorem State.answer_eq_answered {s : State} {k : Nat} {r : HanucaReq} {env : ReqEnv} {p : State × OutMsg} :
    let u := s.bump 6 Ss.REQUESTS k
    ((u.putOut []).putHost { u.host with serving := some r.reqNo }).respond k r env = p →
    s.answer k r env = State.answered p s.out (s.slot k) k r := by
  intro u hp
  obtain ⟨v, m⟩ := p
  simp only [State.answer, ← show u = s.bump 6 Ss.REQUESTS k from rfl, hp, State.answered]
  rw [← State.slot_bump s 6 Ss.REQUESTS k 0 1 k]

/-- A request that a session takes at once is served in its turn with what its part answers (R134, R144). -/
theorem State.receive_served {s : State} {k : Nat} {r : HanucaReq} {env : ReqEnv} {p : State × OutMsg} (h : s.takesNow k r)
    (hp : (s.atTurn k r).respond k r env = p) : s.receive k r env = State.turnOver p s k r env := by
  have host {α : Type} (f : Session → α) (he : ∀ x e, f { x with expected := e } = f x)
      (hr : ∀ x now rate data, f (x.refill now rate data) = f x) (ht : ∀ x n d, f { x with reqTok := n, dataTok := d } = f x) :
      f (((s.atGate k r).takeTokens k r).slot k) = f ((s.datagram k r.carrier).slot k) := by
    rw [State.slot_takeTokens f ht, State.slot_atGate f he hr]
  have answer : ((s.atGate k r).takeTokens k r).answer k r env =
      State.answered p ((s.atGate k r).takeTokens k r).out (((s.atGate k r).takeTokens k r).slot k) k r :=
    State.answer_eq_answered hp
  have port := host (·.port) (fun _ _ => rfl) (fun _ _ _ _ => rfl) fun _ _ _ => rfl
  have ip := host (·.ip) (fun _ _ => rfl) (fun _ _ _ _ => rfl) fun _ _ _ => rfl
  have udp := host (·.udp) (fun _ _ => rfl) (fun _ _ _ _ => rfl) fun _ _ _ => rfl
  rw [State.receive_takesNow h, answer, State.answered_congr port ip udp]
  have out : ((s.atGate k r).takeTokens k r).out = (s.datagram k r.carrier).out := by
    simp only [State.takeTokens, State.atGate, State.fabricClock, State.setSlot, State.putHost_out]
  rw [out]
  rfl

/-! What the part that serves a request answers (R136-R143). -/

theorem State.respond_read {s : State} {k : Nat} {r : HanucaReq} {env : ReqEnv} (ht : r.typ = 1) (hd : s.partDown r.page = false) :
    s.respond k r env = s.serveRead k r := by
  simp [State.respond, ht, hd]

theorem State.respond_write {s : State} {k : Nat} {r : HanucaReq} {env : ReqEnv} (ht : r.typ = 2) (hd : s.partDown r.page = false) :
    s.respond k r env = s.serveWrite k r env := by
  simp [State.respond, ht, hd]

theorem State.respond_command {s : State} {k : Nat} {r : HanucaReq} {env : ReqEnv} (ht : r.typ = 3) (hd : s.partDown r.page = false) :
    s.respond k r env = s.serveCommand k r env := by
  simp [State.respond, ht, hd]

/-- An EVENT_CTRL request is served as the action that it carries (R141). -/
theorem State.respond_action {k a : Nat} (ha : a < 2 ^ 8) (s : State) (req : HanucaReq) (env : ReqEnv) :
    let r := req.action a
    s.respond k r env = (s.eventCtrl k a (r.w 1), bareReply k r 0 0 0 0) := by
  intro r
  have action : r.w 0 % 2 ^ 8 = a := by
    simp only [r, HanucaReq.w, HanucaReq.action, List.getD_cons_zero, BitVec.toNat_ofNat]
    omega
  have typ : r.typ = 5 := rfl
  simp only [State.respond, typ, action, Disp.served]

theorem State.respond_logOpen {s : State} {k : Nat} {r : HanucaReq} {env : ReqEnv} (ht : r.typ = 6) :
    s.respond k r env = s.serveLogOpen k r env := by
  simp only [State.respond, ht]

theorem State.respond_logRead {s : State} {k : Nat} {r : HanucaReq} {env : ReqEnv} (ht : r.typ = 7) :
    s.respond k r env = s.serveLogRead k r env := by
  simp only [State.respond, ht]

theorem State.respond_logClose {s : State} {k : Nat} {r : HanucaReq} {env : ReqEnv} (ht : r.typ = 8) :
    s.respond k r env = (s.closeHandle k (r.w 0), bareReply k r 0 0 0 0) := by
  simp only [State.respond, ht, Disp.served]

theorem State.respond_nop {s : State} {k : Nat} {r : HanucaReq} {env : ReqEnv} (ht : r.typ = 4) :
    s.respond k r env = (s, bareReply k r 0 (s.outstanding k) 0 0) := by
  simp only [State.respond, ht, Disp.served]

/-- A READ of a used page under its generation or none, by a role that may read it (R55, R137, R138). -/
theorem State.serveRead_granted {s : State} {k : Nat} {r : HanucaReq} (hp : pageUsed r.page = true)
    (hg : r.gen = 0 ∨ r.gen = s.gen r.page) (hr : s.hostRight (4 + k) r.page Right.read = true) :
    let p := s.readWords r.page r.off (4 + k) r.count
    s.serveRead k r = (p.1, pageReply k r RC.done (s.pstate r.page) p.2) := by
  have current : ¬(r.gen ≠ 0 ∧ r.gen ≠ s.gen r.page) := fun h => hg.elim h.1 h.2
  simp only [State.serveRead, hp, if_neg current, hr, Bool.not_true, Bool.false_eq_true, if_false]

/-- A WRITE whose words all pass their checks is written, the words below 0x100 first (R55, R138; log 33). -/
theorem State.serveWrite_granted {s : State} {k : Nat} {r : HanucaReq} {env : ReqEnv} (hp : pageUsed r.page = true)
    (hv : firstVerdict ((r.writes k).map s.messageVerdict) = 0) :
    let a := s.writeWords env ((r.writes k).filter fun x => x.off < 0x100) 0
    let b := a.1.writeOnce r.page env ((r.writes k).filter fun x => 0x100 ≤ x.off) a.2
    s.serveWrite k r env = (b.1, pageReply k r b.2 (s.pstate r.page) []) := by
  simp only [State.serveWrite, hp, hv, Bool.not_true, Bool.false_eq_true, if_false, ne_eq, not_true_eq_false]

/-- A COMMAND under the generation of a page in service writes its arguments to the sender's bank and issues it (R139). -/
theorem State.serveCommand_issued {s : State} {k : Nat} {r : HanucaReq} {env : ReqEnv} (hp : pageUsed r.page = true)
    (hr : s.retired = false) (hg : r.gen = s.gen r.page) :
    let v := ((s.setReg r.page 0x34 (r.words.getD 0 0) (4 + k)).setReg r.page 0x38 (r.words.getD 1 0) (4 + k)).anyWrite
      ⟨4 + k, r.gen, r.page, 0x30, r.words.getD 2 0⟩ env.found env.us
    let c := commandAnswer v.out
    c % 256 ≠ RC.busy → s.serveCommand k r env = (v, pageReply k r (c % 256) (c / 256 % 256) [c]) := by
  intro v c hc
  have bank : (pageUsed r.page && !s.retired && r.gen == s.gen r.page) = true := by simp [hp, hr, hg]
  simp only [State.serveCommand, bank, if_true]
  rw [if_neg hc]

/-- A LOG_OPEN of a partition that can be read, by a role that may read it, while fewer than four handles are open (R143, R562). -/
theorem State.serveLogOpen_opens {s : State} {k : Nat} {r : HanucaReq} {env : ReqEnv}
    (hr : s.hostRight (4 + k) (vatPage r.logLane) Right.read = true) (hp : r.logPart ≤ 4) (ht : r.w64 1 ≤ r.w64 3)
    (hm : s.logMounted r.logLane r.logPart = true) (hh : (s.slot k).handles.length < 4) :
    let v := s.readFinds r.logLane r.logPart env
    let picks := (v.vat r.logLane).select r.logPart v.lc.vatKeyGen (r.w64 1) (r.w64 3) (r.w 5)
    let bytes := picks.foldl (fun n p => n + p.2.2) 0
    let x := v.slot k
    let h : LogHandle := ⟨x.nextHandle, r.logLane, r.logPart, picks, bytes, v.now⟩
    s.serveLogOpen k r env =
      (v.setSlot k { x with handles := x.handles ++ [h], nextHandle := (x.nextHandle + 1) % 2 ^ 32 },
        openReply k r RC.done h.handle bytes) := by
  have range : ¬(4 < r.logPart ∨ r.w64 3 < r.w64 1) := by omega
  have room : ¬4 ≤ (s.slot k).handles.length := Nat.not_le.mpr hh
  simp only [State.serveLogOpen, hr, if_neg range, hm, if_neg room, Bool.not_true, Bool.false_eq_true, if_false]

/-- A LOG_READ within the bytes of a handle whose selection is still held (R143, R548). -/
theorem State.serveLogRead_gives {s : State} {k : Nat} {r : HanucaReq} {env : ReqEnv} {h : LogHandle}
    (hf : (s.slot k).handles.find? (fun h => h.handle == r.w 0) = some h) (hb : r.w64 1 ≤ h.bytes)
    (hm : s.logMounted h.lane h.part = true) (hs : s.selectionHeld h = true) :
    let v := s.readFinds h.lane h.part env
    let picks := (v.vat h.lane).keepReadable h.part v.lc.vatKeyGen h.picks
    s.serveLogRead k r env = v.giveLog k r { h with picks := picks, bytes := picks.foldl (fun n p => n + p.2.2) 0 } := by
  have within : ¬h.bytes < r.w64 1 := Nat.not_lt.mpr hb
  simp only [State.serveLogRead, hf, if_neg within, hm, hs, Bool.not_true, Bool.false_eq_true, if_false]

/-- EVENT_CTRL ACK removes every record up to ACK_SEQ, the numbers compared modulo 2^32 (R141). -/
theorem State.eventCtrl_ack (s : State) (k ack : Nat) :
    let above (n : Nat) : Bool := decide (2 ^ 31 ≤ (ack + 2 ^ 32 - n) % 2 ^ 32)
    s.eventCtrl k 2 ack =
      (s.setDest k { s.dest k with recs := (s.dest k).recs.filter fun x => above x.record.seq }).queueHigh := by
  have above (n : Nat) : (!decide (n < 2 ^ 31)) = decide (2 ^ 31 ≤ n) := by
    rw [← decide_not, decide_eq_decide]
    exact Nat.not_lt
  simp only [State.eventCtrl, above]

/-- A request held for 10 ms above E: the numbers up to the lowest held one are declared lost (R144). -/
theorem execReqHoldTimeout_due {t e x : Nat} {slot : Fin 4} {env : ReqEnv} {s : State} :
    let u := s.start t
    let c := u.slot slot
    let n := c.gapTo e
    let lost := c.lost ++ (List.range n).map fun i => (e + i) % 2 ^ 32
    c.expected = some e → c.oldest = some x → x + 10000000 ≤ u.now →
    execReqHoldTimeout t slot env s =
      .next (((u.setSlot slot { c with expected := some ((e + n) % 2 ^ 32), lost := lost.drop (lost.length - 64) }).bump 6
        Ss.SKIPPED_COUNT slot 0 n).serveHeld slot env 32) := by
  intro u c n lost he ho hd
  simp only [execReqHoldTimeout, ← show u = s.start t from rfl, ← show c = u.slot slot from rfl, he, ho,
    if_neg (Nat.not_lt.mpr hd)]
  rfl

end Sys2Proof.Machine

open Sys2Proof Sys2Proof.Machine

/-- Settles O14, row by row: a request that a session takes at once is served in its turn, and its part's conditions choose the branch
that carries it out. -/
theorem hanucaRequestsComplete : Obligations.HanucaRequestsComplete := by
  refine ⟨?read, ?write, ?command, ?nop, ?stop, ?start, ?ack, ?logOpen, ?logRead, ?logClose, ?hold⟩
  case read =>
    intro t slot req env s u r w p h hd hp hg hr
    exact congrArg Host.Outcome.next (State.receive_served h
      ((State.respond_read rfl hd).trans (State.serveRead_granted hp hg hr)))
  case write =>
    intro t slot req env s u r w a b h hd hp hv
    exact congrArg Host.Outcome.next (State.receive_served h
      ((State.respond_write rfl hd).trans (State.serveWrite_granted hp hv)))
  case command =>
    intro t slot req env s u r w v c h hd hp hr hg hc
    exact congrArg Host.Outcome.next (State.receive_served h
      ((State.respond_command rfl hd).trans (State.serveCommand_issued hp hr hg hc)))
  case nop =>
    intro t slot req env s u r w h
    exact congrArg Host.Outcome.next (State.receive_served h (State.respond_nop rfl))
  case stop =>
    intro t slot req env s u r w h
    exact congrArg Host.Outcome.next (State.receive_served h (State.respond_action (by decide) w req env))
  case start =>
    intro t slot req env s u r w h
    exact congrArg Host.Outcome.next (State.receive_served h (State.respond_action (by decide) w req env))
  case ack =>
    intro t slot req env s u r w above v h
    refine congrArg Host.Outcome.next (State.receive_served h
      ((State.respond_action (a := 2) (by decide) w req env).trans ?_))
    rw [State.eventCtrl_ack]
  case logOpen =>
    intro t slot req env s u r w v picks bytes x l h hr hp ht hm hh
    exact congrArg Host.Outcome.next (State.receive_served h
      ((State.respond_logOpen rfl).trans (State.serveLogOpen_opens hr hp ht hm hh)))
  case logRead =>
    intro t slot req env l s u r w v picks h hf hb hm hs
    exact congrArg Host.Outcome.next (State.receive_served h
      ((State.respond_logRead rfl).trans (State.serveLogRead_gives hf hb hm hs)))
  case logClose =>
    intro t slot req env s u r w h
    exact congrArg Host.Outcome.next (State.receive_served h (State.respond_logClose rfl))
  case hold => exact fun _ _ _ _ _ _ => execReqHoldTimeout_due

end

section
/-! PROOF. Run control (O15) and the control instructions of the engines (O18): a command that passes its checks is answered and waits
or acts as its row says, and an instruction that executes carries out its effect and nothing else. -/

namespace Sys2Proof.Machine

/-- An instruction that executes and whose effect is no fault leaves the engine and the task of that effect (R205, R213, R232). -/
theorem State.cleStep_carries {s : State} {l : Lane} {t len : Nat} {bitOk : Bool} {eff : CleRec → TaskRec → Nat → Eff}
    {c : CleRec} {k : TaskRec} (h : s.executes l t len bitOk) (he : eff (s.cle l) (s.fetched l t len) t = .ok c k) :
    s.cleStep l bitOk len eff = s.carried l t c k := by
  rw [State.cleStep_executes h, he]

/-- A word whose fields marked 0 are zero has its effect (R211). -/
theorem whenFields_of_onlyBits {f : Fields} {mask : Nat} (h : onlyBits f mask = true) (e : Eff) : whenFields f mask e = e := if_pos h

/-- An instruction whose format marks fields 0, and has them 0, leaves the engine and the task of its effect (R211). -/
theorem State.cleStep_carries_fields {s : State} {l : Lane} {t len mask : Nat} {bitOk : Bool} {f : Fields}
    {eff : CleRec → TaskRec → Nat → Eff} {c : CleRec} {k : TaskRec} (h : s.executes l t len bitOk) (hf : onlyBits f mask = true)
    (he : eff (s.cle l) (s.fetched l t len) t = .ok c k) :
    s.cleStep l bitOk len (fun c k t => whenFields f mask (eff c k t)) = s.carried l t c k :=
  State.cleStep_carries h ((whenFields_of_onlyBits hf _).trans he)

/-! The control instructions (R216, R217). -/

section
variable {l : Lane} {t : Nat} {f : Fields} {s : State}

/-- END of a task that is no prime routine, with both stacks empty, gives way to the next ready task (R177, R217). -/
theorem execEndTask_gives {cycles : Nat} :
    let c := s.cle l
    let k := { (s.fetched l t 1).timed cycles with state := 1 }
    let d := { c with tasks := c.tasks.wr {} t k, scanned := t + 1 }.nextTask
    s.executes l t 1 true → onlyBits f 0 = true → (s.fetched l t 1).bstack = [] → (s.fetched l t 1).calls = [] → t ≠ 16 →
    execEndTask l f cycles s = .next (s.carried l t d (d.tasks.rd {} t)) := by
  intro c k d h hf hb hc ht
  have ends : ((s.fetched l t 1).bstack.isEmpty && (s.fetched l t 1).calls.isEmpty && t != 16) = true := by simp [hb, hc, ht]
  exact congrArg _ (State.cleStep_carries_fields h hf (if_pos ends))

/-- WAIT with a member pending consumes every pending member and runs on; with none pending it gives way (R179, R217). -/
theorem execWaitInstr_waits {ext : List Word} {cycles : Nat} :
    let c := s.cle l
    let n := f.toNat / 2 ^ 21 + 1
    let es := waitMembers ext n
    let len := 1 + (n + 1) / 2
    let k := s.fetched l t len
    let d := { c with tasks := c.tasks.wr {} t { k.timed cycles with state := 4, wait := es }, scanned := t + 1 }.nextTask
    s.executes l t len true → onlyBits f 0xE00000 = true → n ≤ es.length → es.any reservedEvent = false → t ≠ 16 →
    execWaitInstr l f ext cycles s =
      .next (if es.any k.has then s.carried l t c (k.consume es) else s.carried l t d (d.tasks.rd {} t)) := by
  intro c n es len k d h hf hn he ht
  have legal : ¬(es.length < n ∨ es.any reservedEvent = true ∨ t = 16) := by simp [he, ht, hn]
  refine congrArg Host.Outcome.next ?_
  by_cases hp : es.any k.has = true
  · rw [if_pos hp]
    exact State.cleStep_carries_fields h hf ((if_neg legal).trans (if_pos hp))
  · rw [if_neg hp]
    exact State.cleStep_carries_fields h hf ((if_neg legal).trans (if_neg hp))

/-- SYS writes the value that its immediate selects, 0 to 6 (R216). -/
theorem execSysCall_puts {since v : Nat} :
    let c := s.cle l
    s.executes l t 1 false → onlyBits f 0xF0FFFF = true →
    [c.progTime, c.progTime / 2 ^ 32, c.cycle, c.cycle / 2 ^ 32, t, l.num, since][fImm f]? = some v →
    execSysCall l f since s = .next (s.carried l t c ((s.fetched l t 1).setG (fD f) (BitVec.ofNat 32 v))) := by
  intro c h hf hv
  refine congrArg _ (State.cleStep_carries_fields h hf ?_)
  dsimp only
  generalize fImm f = i at hv
  match i, hv with
  | 0, rfl | 1, rfl | 2, rfl | 3, rfl | 4, rfl | 5, rfl | 6, rfl => rfl

/-- RET pops the innermost open call (R216, R217). -/
theorem execRetSub_pops {pc : Nat} {inst : Word} {rest : List (Nat × Word)} :
    let k := s.fetched l t 1
    s.executes l t 1 true → onlyBits f 0 = true → k.calls = (pc, inst) :: rest →
    execRetSub l f s = .next (s.carried l t (s.cle l) { k with calls := rest, pc := pc, inst := inst }) := by
  intro k h hf hc
  refine congrArg _ (State.cleStep_carries_fields h hf ?_)
  simp only [← show k = s.fetched l t 1 from rfl, hc]

/-- Bcc with a condition that its mode allows jumps where it holds, and else runs on (R214, R215, R217). -/
theorem execBcc_decides {b : Bool} :
    let c := s.cle l
    let k := s.fetched l t 1
    s.executes l t 1 true → k.cond (fD f) = some b → ((c.taskDef t).bitMode = false ∨ (0xC ≤ fD f ∧ fD f ≤ 0xE)) →
    execBcc l f s = .next (s.carried l t c
      (if b then { k with pc := patternOf 22 ((k.pc : Int) - 4 + 4 * signedOf 19 (f.toNat % 2 ^ 19)) } else k)) := by
  intro c k h hb hm
  have allowed : ¬((c.taskDef t).bitMode = true ∧ ¬(0xC ≤ fD f ∧ fD f ≤ 0xE)) := by
    rintro ⟨bits, other⟩
    exact hm.elim (Bool.eq_false_iff.mp · bits) other
  refine congrArg _ (State.cleStep_carries h ?_)
  simp only [← show c = s.cle l from rfl, ← show k = s.fetched l t 1 from rfl, hb, if_neg allowed]
  cases b <;> rfl

end

end Sys2Proof.Machine

open Sys2Proof Sys2Proof.Machine

/-- Settles O15, row by row: a command that passes its checks is left open or done, and a stalled scan stops the engine. -/
theorem runCommandsComplete : Obligations.RunCommandsComplete := by
  refine ⟨?start, ?stop, ?ack, ?clear, ?hold, ?resume, ?step, ?stall⟩
  case start | stop =>
    intro t q s u l h
    exact congrArg _ (State.command_open h rfl (.inl rfl))
  case hold | resume | step =>
    intro t q s u h
    exact congrArg _ (State.command_open h rfl (.inl rfl))
  case ack =>
    intro t q s u l h
    exact congrArg _ (State.command_done h rfl)
  case clear =>
    intro t q s u l v h
    exact congrArg _ (State.command_done h rfl)
  case stall =>
    intro t l s u hr hp hs
    exact congrArg _ (if_pos ⟨hr, hp, hs⟩)

/-- Settles O18, row by row: each instruction's fields and operands choose the branch of its effect. -/
theorem cleControlComplete : Obligations.CleControlComplete := by
  refine ⟨?nop, ?endTask, ?wait, ?post, ?wake, ?sys, ?call, ?calli, ?ret, ?branch, ?bcc, ?seti, ?geti⟩
  case endTask => exact fun _ _ _ _ _ => execEndTask_gives
  case wait => exact fun _ _ _ _ _ _ => execWaitInstr_waits
  case sys => exact fun _ _ _ _ _ _ => execSysCall_puts
  case ret => exact fun _ _ _ _ _ _ _ => execRetSub_pops
  case bcc => exact fun _ _ _ _ _ => execBcc_decides
  case nop | wake | seti | geti =>
    intro l t f s c k h hf
    exact congrArg _ (State.cleStep_carries_fields h hf rfl)
  case post =>
    intro l t f s c k e ts h hf
    exact congrArg _ (State.cleStep_carries_fields h hf rfl)
  case call =>
    intro l t f s c k h hc
    exact congrArg _ (State.cleStep_carries h (if_neg (Nat.not_le.mpr hc)))
  case calli =>
    intro l t f ext s c k h hf hc
    exact congrArg _ (State.cleStep_carries_fields h hf (if_neg (Nat.not_le.mpr hc)))
  case branch =>
    intro l t f s c k h
    exact congrArg _ (State.cleStep_carries h rfl)

end

section
/-! PROOF. The integer instructions of the engines (O16, O56): an instruction that executes writes its result and its flags to the
running task and leaves everything else as it was. -/

namespace Sys2Proof.Machine

variable {l : Lane} {t : Nat} {f : Fields} {s : State}

/-! An instruction that executes, whatever it reads (R205, R213, R232). -/

/-- An instruction that executes and whose effect is no fault leaves the engine and the task of that effect, whatever it reads. -/
theorem State.cleStepReading_carries {len : Nat} {bitOk : Bool} {eff : CleRec → TaskRec → Nat → Eff}
    {reads : CleRec → TaskRec → Nat → List Nat} {c : CleRec} {k : TaskRec} (h : s.executes l t len bitOk)
    (he : eff (s.cle l) (s.fetched l t len) t = .ok c k) : s.cleStepReading l bitOk len eff reads = s.carried l t c k := by
  rw [State.cleStepReading_executes h, he]

/-- An instruction that executes and whose effect is a fault stops the engine at the instruction's own address. -/
theorem State.cleStepReading_faults {len cause : Nat} {bitOk : Bool} {eff : CleRec → TaskRec → Nat → Eff}
    {reads : CleRec → TaskRec → Nat → List Nat} (h : s.executes l t len bitOk)
    (he : eff (s.cle l) (s.fetched l t len) t = .fault cause) :
    s.cleStepReading l bitOk len eff reads = (s.putOut []).cleFault l cause t ((s.cle l).tasks.rd {} t).pc := by
  rw [State.cleStepReading_executes h, he]

/-! The state that an instruction leaves. -/

/-- Rows that leave one state have one outcome. -/
theorem outcome_next {u v : State} (h : u = v) : (.next u : Host.Outcome State Fault Refusal) = .next v := congrArg _ h

theorem State.cle_carried (s : State) (l : Lane) (t : Nat) (c : CleRec) (k : TaskRec) :
    (s.carried l t c k).cle l = { c with tasks := c.tasks.wr {} t k } := by
  simp [State.carried]

theorem State.cle_other_carried (s : State) (l : Lane) (t : Nat) (c : CleRec) (k : TaskRec) :
    (s.carried l t c k).cle l.other = s.cle l.other := by
  cases l <;> rfl

theorem State.task_carried (s : State) (l : Lane) (t : Nat) (c : CleRec) (k : TaskRec) :
    ((s.carried l t c k).cle l).tasks.rd {} t = k := by
  rw [State.cle_carried, Tab.rd_wr_same]

theorem State.other_task_carried (s : State) (l : Lane) (c : CleRec) (k : TaskRec) {t j : Nat} (h : j ≠ t) :
    ((s.carried l t c k).cle l).tasks.rd {} j = c.tasks.rd {} j := by
  rw [State.cle_carried, Tab.rd_wr, if_neg h]

/-- An instruction that leaves its engine as it was, its task apart, changes that task's record alone. -/
theorem State.onlyTask_carried (s : State) (l : Lane) (t : Nat) (k : TaskRec) : s.onlyTask (s.carried l t (s.cle l) k) l t :=
  ⟨rfl, s.cle_other_carried l t _ k, by rw [State.cle_carried], fun _ => s.other_task_carried l _ k⟩

/-! General registers and flags (R202). -/

@[simp] theorem TaskRec.G_setG (k : TaskRec) (i j : Nat) (w : Word) : (k.setG i w).G j = if j = i then w else k.G j :=
  Tab.rd_wr _ _ _ _ _

/-- `fl` changes nothing of a task but the flags Z, N, C and V. -/
def FlagsOnly (fl : TaskRec → Word → Word → Word → TaskRec) : Prop :=
  ∀ k a b r, fl k a b r = { k with z := (fl k a b r).z, n := (fl k a b r).n, c := (fl k a b r).c, v := (fl k a b r).v }

theorem flagsOnly_flagsAdd : FlagsOnly fun k a b _ => k.flagsAdd a b := fun _ _ _ _ => rfl

theorem flagsOnly_flagsSub : FlagsOnly fun k a b _ => k.flagsSub a b := fun _ _ _ _ => rfl

theorem flagsOnly_flZN : FlagsOnly flZN := fun _ _ _ _ => rfl

theorem TaskRec.flagsShift_eq (k : TaskRec) (r : Word) (n : Nat) (b : Bool) :
    k.flagsShift r n b = { k.setZN r with c := if n = 0 then k.c else b } := by
  unfold TaskRec.flagsShift
  split <;> simp_all [TaskRec.setZN]

theorem flagsOnly_flShl : FlagsOnly flShl := fun _ _ _ _ => by simp only [flShl, TaskRec.flagsShift_eq]; rfl

theorem flagsOnly_flShr : FlagsOnly flShr := fun _ _ _ _ => by simp only [flShr, TaskRec.flagsShift_eq]; rfl

theorem flagsOnly_flMul : FlagsOnly flMul := fun _ _ _ _ => rfl

theorem flagsOnly_flDiv : FlagsOnly flDiv := fun _ _ _ _ => rfl

theorem flagsOnly_flRem : FlagsOnly flRem := fun _ _ _ _ => rfl

/-! The forms of the integer instructions (R211, R216). -/

theorem State.rr_carries (r : Word → Word → Word) (fl : TaskRec → Word → Word → Word → TaskRec) (h : s.executes l t 1 false)
    (hf : onlyBits f 0xFFF000 = true) :
    let k := s.fetched l t 1
    let w := r (k.G (fA f)) (k.G (fB f))
    s.rr l f r fl = s.carried l t (s.cle l) ((fl k (k.G (fA f)) (k.G (fB f)) w).setG (fD f) w) :=
  State.cleStep_carries_fields h hf rfl

theorem State.ri_carries (imm : Word) (r : Word → Word → Word) (fl : TaskRec → Word → Word → Word → TaskRec)
    (h : s.executes l t 1 false) :
    let k := s.fetched l t 1
    let w := r (k.G (fA f)) imm
    s.ri l f imm r fl = s.carried l t (s.cle l) ((fl k (k.G (fA f)) imm w).setG (fD f) w) :=
  State.cleStep_carries h rfl

theorem State.shiftImm_carries (r : Word → Word → Word) (fl : TaskRec → Word → Word → Word → TaskRec)
    (h : s.executes l t 1 false) (hf : onlyBits f 0xFF001F = true) :
    let k := s.fetched l t 1
    let w := r (k.G (fA f)) (fUimm f)
    s.shiftImm l f r fl = s.carried l t (s.cle l) ((fl k (k.G (fA f)) (fUimm f) w).setG (fD f) w) :=
  State.cleStep_carries_fields h hf rfl

/-- The shift count of an immediate form is the low five bits of the word (R216). -/
theorem fUimm_mod_32 (f : Fields) : (fUimm f).toNat % 32 = f.toNat % 32 := by
  simp only [fUimm, fImm, BitVec.toNat_ofNat]
  omega

/-- A register-to-register instruction whose flags are Z, N, C and V changes of the block only the pc, G[d] and these flags of the
running task. -/
theorem exec_rr_frame {i : Instr} {r : Word → Word → Word} {fl : TaskRec → Word → Word → Word → TaskRec}
    (h : s.executes l t 1 false) (hf : onlyBits f 0xFFF000 = true) (hi : exec i s = .next (s.rr l f r fl)) (hfl : FlagsOnly fl) :
    let k := (s.cle l).tasks.rd {} t
    ∃ v, exec i s = .next v ∧ s.onlyTask v l t ∧ (v.cle l).data = (s.cle l).data ∧
      let j := (v.cle l).tasks.rd {} t
      (∀ g, g ≠ fD f → j.G g = k.G g) ∧
        j = { k with pc := pcAfter k.pc 1, g := j.g, z := j.z, n := j.n, c := j.c, v := j.v } := by
  intro k
  refine ⟨_, hi, ?_⟩
  rw [State.rr_carries r fl h hf, State.task_carried]
  refine ⟨State.onlyTask_carried .., by rw [State.cle_carried], fun g hg => ?_, ?_⟩
  · rw [TaskRec.G_setG, if_neg hg, hfl]
    rfl
  · rw [hfl]
    rfl

end Sys2Proof.Machine

open Sys2Proof Sys2Proof.Machine

/-- Settles O16, form by form: each instruction's fields let it have its effect. -/
theorem cleIntegerComplete : Obligations.CleIntegerComplete := by
  refine ⟨?rr, ?divide, ?ri, ?cmp, ?mov, ?shifts, ?cmpi, ?movi, ?movl⟩
  case rr =>
    intro l t f s c k a b n p h hf
    have form r fl := outcome_next (State.rr_carries r fl h hf)
    exact ⟨form .., form .., form .., form .., form .., form .., form .., form .., form .., form .., form .., form ..⟩
  case divide =>
    intro l t f s c k a b q r h hf
    have form r fl := outcome_next (State.rr_carries r fl h hf)
    exact ⟨form .., form ..⟩
  case ri =>
    intro l t f s c k a i u h
    have form imm r fl := outcome_next (State.ri_carries (f := f) imm r fl h)
    exact ⟨form .., form .., form .., form ..⟩
  case shifts =>
    intro l t f s c k a n h hf
    have form r fl := outcome_next (State.shiftImm_carries r fl h hf)
    simp only [n, ← fUimm_mod_32]
    exact ⟨form .., form .., form ..⟩
  case cmp | mov | cmpi | movi =>
    intro l t f s c k h hf
    exact congrArg _ (State.cleStep_carries_fields h hf rfl)
  case movl =>
    intro l t f ext s c k h hf
    exact congrArg _ (State.cleStep_carries_fields h hf rfl)

/-- Settles O56: each of the instructions has the register-to-register form with flags among Z, N, C and V. -/
theorem integerFrame : Obligations.IntegerFrame := by
  intro l t f s h hf i hi
  simp only [List.mem_cons, List.not_mem_nil, or_false] at hi
  rcases hi with rfl | rfl | rfl | rfl | rfl | rfl | rfl | rfl | rfl | rfl | rfl | rfl | rfl | rfl
  · exact exec_rr_frame h hf rfl flagsOnly_flagsAdd
  · exact exec_rr_frame h hf rfl flagsOnly_flagsSub
  · exact exec_rr_frame h hf rfl flagsOnly_flZN
  · exact exec_rr_frame h hf rfl flagsOnly_flZN
  · exact exec_rr_frame h hf rfl flagsOnly_flZN
  · exact exec_rr_frame h hf rfl flagsOnly_flShl
  · exact exec_rr_frame h hf rfl flagsOnly_flShr
  · exact exec_rr_frame h hf rfl flagsOnly_flShr
  · exact exec_rr_frame h hf rfl flagsOnly_flMul
  · exact exec_rr_frame h hf rfl flagsOnly_flZN
  · exact exec_rr_frame h hf rfl flagsOnly_flZN
  · exact exec_rr_frame h hf rfl flagsOnly_flZN
  · exact exec_rr_frame h hf rfl flagsOnly_flDiv
  · exact exec_rr_frame h hf rfl flagsOnly_flRem

end

section
/-! PROOF. The loads and stores of the engines (O17, O57): what a load reads after a store, what a memory error met by a load does, and
that nothing else changes. -/

namespace Sys2Proof.Machine

variable {l : Lane} {t : Nat} {f : Fields} {s : State} {c d : CleRec} {a b n v w : Nat}

/-! Bytes of a memory and of a word. -/

theorem memRead_memWrite (m : List Host.Cell) (a v n : Nat) : memRead (memWrite m a v n) a n = v % 256 ^ n := by
  induction n generalizing m a v with
  | zero => simp [memRead, Nat.mod_one]
  | succ n ih =>
    have low : memByte (memWrite (memPut m a (BitVec.ofNat 8 v)) (a + 1) (v / 256) n) a = BitVec.ofNat 8 v := by
      rw [memByte_memWrite_of_outside _ _ _ _ _ (.inl (Nat.lt_succ_self a)), memByte_memPut, if_pos rfl]
    rw [memRead, memWrite, ih, low, Nat.pow_succ', Nat.mod_mul, BitVec.toNat_ofNat]

/-- A word with the `n` bytes from byte `p` on replaced by those of a number (R208). -/
def mergedWord (old v p n : Nat) : Nat := old - old / 256 ^ p % 256 ^ n * 256 ^ p + v % 256 ^ n * 256 ^ p

/-- Bytes put in place of `n` aligned bytes of a word leave its other bytes as they were. -/
theorem byte_mergedWord_of_outside {old p j : Nat} (hn : n = 1 ∨ n = 2 ∨ n = 4) (hp : p % n = 0) (hp4 : p < 4) (hj : j < 4)
    (ho : old < 2 ^ 32) (h : j < p ∨ p + n ≤ j) :
    mergedWord old v p n % 2 ^ 32 / 256 ^ j % 256 = old / 256 ^ j % 256 := by
  unfold mergedWord
  obtain rfl | rfl | rfl | rfl : p = 0 ∨ p = 1 ∨ p = 2 ∨ p = 3 := by omega
  all_goals
    obtain rfl | rfl | rfl | rfl : j = 0 ∨ j = 1 ∨ j = 2 ∨ j = 3 := by omega
    all_goals rcases hn with rfl | rfl | rfl <;> omega

/-! The register window (R208). -/

/-- The byte of the register window that a load finds at an address. -/
def CleRec.windowByte (c : CleRec) (b : Nat) : Option Nat := (c.windowWord (b / 4 * 4)).map fun x => x.toNat / 256 ^ (b % 4) % 256

@[simp] theorem CleRec.img_stage (c : CleRec) (w : Nat) (x : Word) : (c.stage w x).img = c.img := rfl

@[simp] theorem CleRec.inputs_stage (c : CleRec) (w : Nat) (x : Word) : (c.stage w x).inputs = c.inputs := rfl

@[simp] theorem CleRec.outVals_stage (c : CleRec) (w : Nat) (x : Word) : (c.stage w x).outVals = c.outVals.wr 0 w x := rfl

theorem CleRec.windowWord_stage_of_ne (c : CleRec) (x : Word) (h : a - windowBase ≠ w) :
    (c.stage w x).windowWord a = c.windowWord a := by
  simp only [CleRec.windowWord, CleRec.img_stage, CleRec.inputs_stage, CleRec.outVals_stage, Tab.rd_wr, if_neg h]

theorem CleRec.windowByte_stage_of_ne (c : CleRec) (x : Word) (h : b / 4 * 4 - windowBase ≠ w) :
    (c.stage w x).windowByte b = c.windowByte b := by
  simp only [CleRec.windowByte, c.windowWord_stage_of_ne x h]

/-- A word staged at an address of the output map is read there, unless the address is in the input map too. -/
theorem CleRec.windowWord_stage_same (c : CleRec) (x : Word) (hw : c.img.outMap.contains (a - windowBase) = true) :
    (c.stage (a - windowBase) x).windowWord a = if c.img.inMap.contains (a - windowBase) then c.windowWord a else some x := by
  simp only [CleRec.windowWord, CleRec.img_stage, CleRec.inputs_stage, CleRec.outVals_stage, hw, if_true, Tab.rd_wr_same]
  split <;> rfl

/-- A store that merges its bytes into a word of the window leaves the other bytes of that word as they were. -/
theorem CleRec.windowByte_merge (c : CleRec) (hw : c.img.outMap.contains (a / 4 * 4 - windowBase) = true)
    (hn : n = 1 ∨ n = 2 ∨ n = 4) (ha : a % n = 0) (hb : b / 4 * 4 = a / 4 * 4) (h : b < a ∨ a + n ≤ b) :
    let old := ((c.windowWord (a / 4 * 4)).getD 0).toNat
    (c.stage (a / 4 * 4 - windowBase) (BitVec.ofNat 32 (mergedWord old v (a % 4) n))).windowByte b = c.windowByte b := by
  intro old
  simp only [CleRec.windowByte, hb, CleRec.windowWord_stage_same c _ hw]
  split
  · rfl
  · next notIn =>
    have shown : c.windowWord (a / 4 * 4) = some (c.outVals.rd 0 (a / 4 * 4 - windowBase)) := by
      simp only [CleRec.windowWord, hw, if_true, if_neg notIn]
    have aligned : a % 4 % n = 0 := by rcases hn with rfl | rfl | rfl <;> omega
    have outside : b % 4 < a % 4 ∨ a % 4 + n ≤ b % 4 := by omega
    simp only [old, shown, Option.map_some, Option.getD_some, BitVec.toNat_ofNat]
    rw [byte_mergedWord_of_outside hn aligned (by omega) (by omega) (BitVec.isLt _) outside]

/-! Loads and stores of an engine (R205, R208). -/

theorem CleRec.load_byte (c : CleRec) (b : Nat) :
    c.load b 1 =
      if b < dataSize then
        if c.img.data.holds b 1 || c.img.retain.holds b 1 then some (memByte c.data b).toNat else none
      else if constBase ≤ b ∧ b < constBase + 0x400000 then
        if c.img.const.holds (b - constBase) 1 then some (memRead c.img.program (b - constBase) 1) else none
      else if inWindow b then c.windowByte b else none := by
  have hm : b % 1 = 0 := Nat.mod_one b
  unfold CleRec.load CleRec.windowByte
  simp only [hm, ne_eq, not_true_eq_false, if_false, memRead, Nat.mul_zero, Nat.add_zero]
  cases c.windowWord (b / 4 * 4) <;> rfl

/-- Engines with one image read a byte alike that both hold alike. -/
theorem CleRec.load_byte_congr (hi : d.image = c.image) (hd : memByte d.data b = memByte c.data b)
    (hw : inWindow b = true → d.windowByte b = c.windowByte b) : d.load b 1 = c.load b 1 := by
  have img : d.img = c.img := congrArg (fun i => i.getD {}) hi
  simp only [CleRec.load_byte, img, hd]
  split
  · rfl
  · split
    · rfl
    · split
      · next h => exact hw h
      · rfl

/-- What a store that is admitted does: it writes data memory, stages two words of the window, or merges into one. -/
theorem CleRec.store_cases (h : c.store a v n = some d) :
    a % n = 0 ∧
      ((a < dataSize ∧ (c.img.data.holds a n || c.img.retain.holds a n) = true
          ∧ d = { c with data := memWrite c.data a v n }.wrote a n) ∨
        (windowBase ≤ a ∧ c.img.outMap.contains (a / 4 * 4 - windowBase) = true ∧
          (n = 8 ∧ d = (c.stage (a / 4 * 4 - windowBase) (lowWord v)).stage (a / 4 * 4 - windowBase + 4) (highWord v) ∨
            n ≠ 8 ∧
              let old := ((c.windowWord (a / 4 * 4)).getD 0).toNat
              d = c.stage (a / 4 * 4 - windowBase) (BitVec.ofNat 32 (mergedWord old v (a % 4) n))))) := by
  unfold CleRec.store at h
  split at h
  · cases h
  · next ha =>
    refine ⟨Decidable.not_not.mp ha, ?_⟩
    split at h
    · next hd =>
      split at h
      · next hr => exact .inl ⟨hd, hr, (Option.some.inj h).symm⟩
      · cases h
    · split at h
      · next hin =>
        have base : windowBase ≤ a := (of_decide_eq_true hin).1
        dsimp only at h
        split at h
        · cases h
        · next hw =>
          refine .inr ⟨base, by simpa using hw, ?_⟩
          split at h
          · next h8 =>
            split at h
            · exact .inl ⟨h8, (Option.some.inj h).symm⟩
            · cases h
          · next h8 => exact .inr ⟨h8, (Option.some.inj h).symm⟩
      · cases h

/-- A store leaves the tasks. -/
theorem CleRec.store_tasks (h : c.store a v n = some d) : d.tasks = c.tasks := by
  obtain ⟨-, ⟨-, -, rfl⟩ | ⟨-, -, ⟨-, rfl⟩ | ⟨-, rfl⟩⟩⟩ := CleRec.store_cases h <;> rfl

/-- A store changes no byte outside those it stores to. -/
theorem CleRec.load_store_of_outside (h : c.store a v n = some d) (hn : n = 1 ∨ n = 2 ∨ n = 4 ∨ n = 8)
    (hb : b < a ∨ a + n ≤ b) : d.load b 1 = c.load b 1 := by
  obtain ⟨ha, ⟨-, -, rfl⟩ | ⟨base, out, ⟨rfl, rfl⟩ | ⟨h8, rfl⟩⟩⟩ := CleRec.store_cases h
  · exact CleRec.load_byte_congr rfl (memByte_memWrite_of_outside _ _ _ _ _ hb) fun _ => rfl
  · refine CleRec.load_byte_congr rfl rfl fun hin => ?_
    have hbase : windowBase ≤ b := (of_decide_eq_true hin).1
    simp only [windowBase] at base hbase
    rw [CleRec.windowByte_stage_of_ne _ _ (by simp only [windowBase]; omega),
      CleRec.windowByte_stage_of_ne _ _ (by simp only [windowBase]; omega)]
  · refine CleRec.load_byte_congr rfl rfl fun hin => ?_
    have hbase : windowBase ≤ b := (of_decide_eq_true hin).1
    by_cases same : b / 4 * 4 = a / 4 * 4
    · exact CleRec.windowByte_merge c out (by omega) ha same hb
    · simp only [windowBase] at base hbase
      exact CleRec.windowByte_stage_of_ne c _ (by simp only [windowBase]; omega)

/-- What a store put into data memory reads back. -/
theorem CleRec.load_store_same (h : c.store a v n = some d) (hd : a < dataSize) : d.load a n = some (v % 256 ^ n) := by
  obtain ⟨ha, ⟨-, held, rfl⟩ | ⟨base, -⟩⟩ := CleRec.store_cases h
  · have img : ({ c with data := memWrite c.data a v n }.wrote a n).img = c.img := rfl
    simp only [CleRec.load, img, ha, hd, held, ne_eq, not_true_eq_false, if_false, if_true]
    exact congrArg some (memRead_memWrite c.data a v n)
  · simp only [windowBase, dataSize] at base hd
    omega

/-- A load asks nothing of the tasks. -/
theorem CleRec.load_tasks (c : CleRec) (ts : Tab TaskRec) (a n : Nat) : { c with tasks := ts }.load a n = c.load a n := rfl

/-- A load asks nothing of the check bits. -/
theorem CleRec.load_upset (c : CleRec) (us : List (Nat × Bool)) (a n : Nat) : { c with upset := us }.load a n = c.load a n := rfl

/-- A format that marks no field 0 restricts none. -/
theorem onlyBits_all (f : Fields) : onlyBits f 0xFFFFFF = true := by simp [onlyBits]

/-! The loads and stores that execute (R216). -/

theorem State.loadStep_carries {mask : Nat} {addr : TaskRec → Nat} (put : TaskRec → Nat → TaskRec) (h : s.executes l t 1 false)
    (hf : onlyBits f mask = true) (hv : (s.cle l).load (addr (s.fetched l t 1)) n = some v) :
    s.loadStep l f mask addr n put = s.carried l t (s.cle l) (put (s.fetched l t 1) v) :=
  State.cleStepReading_carries h ((whenFields_of_onlyBits hf _).trans (by rw [hv]))

theorem State.storeStep_carries {mask : Nat} {addr val : TaskRec → Nat} (h : s.executes l t 1 false) (hf : onlyBits f mask = true)
    (hd : (s.cle l).store (addr (s.fetched l t 1)) (val (s.fetched l t 1)) n = some d) :
    s.storeStep l f mask addr n val = s.carried l t d (s.fetched l t 1) :=
  State.cleStep_carries_fields h hf (by rw [hd])

/-- An instruction that leaves the engine a store makes of it changes the bytes it stores to and no other, and of the block nothing
but the engine. -/
theorem exec_store_frame {i : Instr} (hn : n = 1 ∨ n = 2 ∨ n = 4 ∨ n = 8) (hs : ((s.cle l).store a v n).isSome = true)
    (hi : ∀ d, (s.cle l).store a v n = some d → exec i s = .next (s.carried l t d (s.fetched l t 1))) :
    ∃ u, exec i s = .next u ∧ u = { s with out := [], cles := u.cles } ∧ u.cle l.other = s.cle l.other ∧
      (∀ j, j ≠ t → (u.cle l).tasks.rd {} j = (s.cle l).tasks.rd {} j) ∧ (u.cle l).tasks.rd {} t = s.fetched l t 1 ∧
      (∀ b, b < a ∨ a + n ≤ b → (u.cle l).load b 1 = (s.cle l).load b 1) ∧
      (a < dataSize → (u.cle l).load a n = some (v % 256 ^ n)) := by
  obtain ⟨d, hd⟩ := Option.isSome_iff_exists.mp hs
  refine ⟨_, hi d hd, rfl, State.cle_other_carried .., fun j hj => ?_, State.task_carried .., fun b hb => ?_, fun ha => ?_⟩
  · rw [State.other_task_carried _ _ _ _ hj, CleRec.store_tasks hd]
  · rw [State.cle_carried, CleRec.load_tasks, CleRec.load_store_of_outside hd hn hb]
  · rw [State.cle_carried, CleRec.load_tasks, CleRec.load_store_same hd ha]

/-- A STW whose word another port writes in the same clock is stored, and the write that lost is reported (R527). -/
theorem execStw_collides {p : Fin 4} (h : s.executes l t 1 false) :
    let k := s.fetched l t 1
    let a := addrM k f
    let u := (s.carried l t d k).collision l 0 p (sramAddr a)
    (s.cle l).store a (k.G (fD f)).toNat 4 = some d → inWindow a = false → p ≠ 0 →
    execStw l f p s = .next (if p = 1 then u.laneFatal l 17 else u) := by
  intro k a u hd hin hp
  have stored : s.storeStep l f 0xFFFFFF (fun k => addrM k f) 4 (fun k => (k.G (fD f)).toNat) = s.carried l t d k :=
    State.storeStep_carries h (onlyBits_all f) hd
  have runs : (s.carried l t d k).pstate (clePage l) = 2 := h.1
  have task : (s.cle l).tasks.rd {} ((s.cle l).running.getD 0) = (s.cle l).tasks.rd {} t := by rw [h.2.1, Option.getD_some]
  have addr : addrM ((s.cle l).tasks.rd {} t) f = a := rfl
  have loses : ¬(p.val = 0 ∨ inWindow a = true ∨ (s.carried l t d k).pstate (clePage l) ≠ 2 ∨ s.pstate (clePage l) ≠ 2) := by
    simp [hin, runs, h.1, Fin.val_eq_zero_iff, hp]
  have fatal : p.val = 1 ↔ p = 1 := by simp only [Fin.ext_iff, Fin.val_one]
  simp only [execStw, stored, task, addr, if_neg loses, fatal]
  rfl

/-! Memory errors met by a read (R529). -/

theorem State.Touches.cles_eq {K : Nat → Prop} {u : State} (h : s.Touches K u) : u.cles = s.cles := by rw [h.eq_besides]; rfl

theorem State.raise_cles (s : State) (page bit arg : Nat) : (s.raise page bit arg).cles = s.cles :=
  (State.touches_raise (K := fun _ => True) (fun _ _ => trivial) s page bit arg trivial).cles_eq

theorem State.eccCorrected_cles (s : State) (l : Lane) : (s.eccCorrected l).cles = s.cles := by
  simp only [State.eccCorrected, State.setMem, apply_ite State.cles, State.raise_cles, State.putMem_cles, State.bump_cles, ite_self]

theorem CleRec.checkBits_of_upset {bad : Bool} (h : c.upset = [(w, bad)]) (x : Nat) :
    c.checkBits x = if x = w then (if bad then 2 else 1) else 0 := by
  by_cases hx : x = w
  · cases bad <;> simp [CleRec.checkBits, h, hx]
  · simp [CleRec.checkBits, h, hx, Ne.symm hx]

section
variable {ws : List Nat}

/-- Words other than the one whose check bits show an error are only read. -/
theorem State.sramRead_other {bad : Bool} (h : (s.cle l).upset = [(w, bad)]) (hw : ∀ x ∈ ws, x ≠ w) :
    s.sramRead l ws = (s, false) := by
  have clean : ∀ x ∈ ws, (s.cle l).checkBits x = 0 := fun x hx => by rw [CleRec.checkBits_of_upset h, if_neg (hw x hx)]
  have single : ws.filter (fun x => (s.cle l).checkBits x == 1) = [] := List.filter_eq_nil_iff.mpr fun x hx => by simp [clean x hx]
  have double : ws.find? (fun x => (s.cle l).checkBits x == 2) = none := List.find?_eq_none.mpr fun x hx => by simp [clean x hx]
  simp only [State.sramRead, State.each, single, double, List.foldl_nil]

/-- A word with a single-bit error is corrected, written back and counted. -/
theorem State.sramRead_corrected (h : (s.cle l).upset = [(w, false)]) (hw : ∀ x ∈ ws, x ≠ w) :
    s.sramRead l (w :: ws) = ((s.setCle l { s.cle l with upset := [] }).eccCorrected l, false) := by
  have bits := CleRec.checkBits_of_upset h
  have single : (w :: ws).filter (fun x => (s.cle l).checkBits x == 1) = [w] := by
    rw [List.filter_cons_of_pos (by simp [bits]), List.filter_eq_nil_iff.mpr fun x hx => by simp [bits, hw x hx]]
  have double : (w :: ws).find? (fun x => (s.cle l).checkBits x == 2) = none :=
    List.find?_eq_none.mpr fun x _ => by rw [bits]; split <;> simp
  simp [State.sramRead, State.each, single, double, h]

/-- A word with a double-bit error is reported, and the read has failed. -/
theorem State.sramRead_uncorrected (h : (s.cle l).upset = [(w, true)]) :
    s.sramRead l (w :: ws) = (s.eccUncorrected l 0 (sramAddr w), true) := by
  have bits := CleRec.checkBits_of_upset h
  have single : (w :: ws).filter (fun x => (s.cle l).checkBits x == 1) = [] :=
    List.filter_eq_nil_iff.mpr fun x _ => by rw [bits]; split <;> simp
  have double : (w :: ws).find? (fun x => (s.cle l).checkBits x == 2) = some w := List.find?_cons_of_pos (by simp [bits])
  simp only [State.sramRead, State.each, single, double, List.foldl_nil]

end

/-- A load of SRAM reads the word that its address stands in first, and of others only such as follow it. -/
theorem CleRec.sramWords_eq (hn : 0 < n) (hin : inWindow a = false) (hl : (c.load (a / 4 * 4) 4).isSome = true) :
    ∃ ws, c.sramWords a n = a / 4 * 4 :: ws ∧ ∀ x ∈ ws, x ≠ a / 4 * 4 := by
  obtain ⟨m, hm⟩ : ∃ m, (n + 3) / 4 = m + 1 := ⟨(n + 3) / 4 - 1, by omega⟩
  refine ⟨(List.range m).map fun i => a / 4 * 4 + 4 * (i + 1), ?_, fun x hx => ?_⟩
  · have some : (c.load (a / 4 * 4) 4).isNone = false := by rw [← Option.not_isSome, hl]; rfl
    simp [CleRec.sramWords, hin, some, hm, List.range_succ_eq_map, Function.comp_def]
  · obtain ⟨i, -, rfl⟩ := List.mem_map.mp hx
    omega

/-- The state after an instruction at `pc` of task `t` has had its effect: its engine and task, or the program fault. -/
def State.took (s : State) (l : Lane) (t pc : Nat) : Eff → State
  | .ok c k => s.setCle l { c with tasks := c.tasks.wr {} t k }
  | .fault cause => s.cleFault l cause t pc

section
variable {len : Nat} {bitOk bad : Bool} (h : (s.setCle l { s.cle l with upset := [] }).executes l t len bitOk)
include h

/-- With one word of SRAM in error, and none of those fetched, an instruction that would execute goes on to read its data, and has
its effect unless that read fails. -/
theorem State.cleStepReading_reads {eff : CleRec → TaskRec → Nat → Eff} {reads : CleRec → TaskRec → Nat → List Nat}
    {u : State} {failed : Bool} (hu : (s.cle l).upset = [(w, bad)])
    (hw : ∀ p, p ∈ fetchWords ((s.cle l).tasks.rd {} t).pc len → constBase + p ≠ w)
    (hr : (s.putOut []).sramRead l (reads (s.cle l) ((s.cle l).tasks.rd {} t) t) = (u, failed)) :
    let pc := ((s.cle l).tasks.rd {} t).pc
    s.cleStepReading l bitOk len eff reads =
      if failed then u.cleFault l Cause.memory t pc else u.took l t pc (eff (u.cle l) (s.fetched l t len) t) := by
  intro pc
  rw [State.executes, State.cle_setCle, if_pos rfl] at h
  obtain ⟨runs, running, held, aligned, breaks, mode, opcode, -⟩ := h
  have runs : (s.putOut []).pstate (clePage l) = 2 := runs
  have breaks : (s.putOut []).breaksAt t ((s.cle l).tasks.rd {} t).pc = [] := breaks
  have legal : (!bitOk && ((s.cle l).taskDef t).bitMode) = false := by
    rcases mode with mode | mode
    · simp [mode]
    · simp [show ((s.cle l).taskDef t).bitMode = false from mode]
  have fetches : (s.putOut []).sramRead l ((fetchWords ((s.cle l).tasks.rd {} t).pc len).map fun a => constBase + a)
      = (s.putOut [], false) :=
    State.sramRead_other (s := s.putOut []) hu fun x hx => by
      obtain ⟨p, hp, rfl⟩ := List.mem_map.mp hx
      exact hw p hp
  have cle : (s.putOut []).cle l = s.cle l := rfl
  have running : (s.cle l).running = some t := running
  have fetchable : (s.cle l).badFetch ((s.cle l).tasks.rd {} t).pc len = none := CleRec.badFetch_none held aligned
  have opcode : definedOpcode ((s.cle l).opcodeAt ((s.cle l).tasks.rd {} t).pc) = true := opcode
  simp only [State.cleStepReading, cle, runs, if_true, running, fetchable, State.breakCheck, breaks, fetches, legal, opcode, hr]
  cases failed
  · simp only [Bool.not_true, Bool.or_false, Bool.false_eq_true, if_false, State.fetched]
    cases eff (u.cle l) _ t <;> rfl
  · simp only [Bool.not_true, Bool.or_false, Bool.false_eq_true, if_false, if_true]
    rfl

/-- An instruction with a double-bit error in its first word stops the engine (R529). -/
theorem State.cleStep_fetch_fails {eff : CleRec → TaskRec → Nat → Eff} (hl : 0 < len)
    (hu : (s.cle l).upset = [(constBase + ((s.cle l).tasks.rd {} t).pc, true)]) :
    let pc := ((s.cle l).tasks.rd {} t).pc
    s.cleStep l bitOk len eff = ((s.putOut []).eccUncorrected l 0 (sramAddr (constBase + pc))).cleFault l Cause.memory t pc := by
  intro pc
  obtain ⟨m, rfl⟩ := Nat.exists_eq_add_one.mpr hl
  rw [State.executes, State.cle_setCle, if_pos rfl] at h
  obtain ⟨runs, running, held, aligned, breaks, -⟩ := h
  have runs : (s.putOut []).pstate (clePage l) = 2 := runs
  have running : (s.cle l).running = some t := running
  have breaks : (s.putOut []).breaksAt t pc = [] := breaks
  have fetchable : (s.cle l).badFetch pc (m + 1) = none := CleRec.badFetch_none held aligned
  have words : (fetchWords pc (m + 1)).map (fun a => constBase + a)
      = (constBase + pc) :: (List.range m).map fun i => constBase + (pc + 4 * (i + 1)) := by
    simp [fetchWords, List.range_succ_eq_map, Function.comp_def]
  have cle : (s.putOut []).cle l = s.cle l := rfl
  simp only [State.cleStep, State.cleStepReading, cle, runs, if_true, running, fetchable, State.breakCheck, breaks, words, pc,
    State.sramRead_uncorrected (s := s.putOut []) hu, Bool.false_eq_true, if_false]

end

/-- Task `t` of an engine executes an instruction of one word with operand address `a` in SRAM; no word of the SRAM shows an error
but the one at `a`, which shows a double-bit error if `bad` and else a single-bit error, and is not fetched. -/
structure State.MeetsError (s : State) (l : Lane) (t a : Nat) (bad : Bool) : Prop where
  executes : (s.setCle l { s.cle l with upset := [] }).executes l t 1 false
  upset : (s.cle l).upset = [(a / 4 * 4, bad)]
  notWindow : inWindow a = false
  held : ((s.cle l).load (a / 4 * 4) 4).isSome = true
  notFetched : ∀ p, p ∈ fetchWords ((s.cle l).tasks.rd {} t).pc 1 → constBase + p ≠ a / 4 * 4

section
variable {mask : Nat} {addr : TaskRec → Nat} {put : TaskRec → Nat → TaskRec} {x : Nat}
  (ha : addr (s.fetched l t 1) = addr ((s.cle l).tasks.rd {} t)) (hn : 0 < n) (hf : onlyBits f mask = true)
include ha hn hf

/-- A load of a word with a single-bit error has its effect, and the word is corrected and counted (R529). -/
theorem State.MeetsError.loadStep_corrected (h : s.MeetsError l t (addr (s.fetched l t 1)) false)
    (hx : (s.cle l).load (addr (s.fetched l t 1)) n = some x) :
    let u := ((s.putOut []).setCle l { s.cle l with upset := [] }).eccCorrected l
    s.loadStep l f mask addr n put =
      u.setCle l { u.cle l with tasks := (u.cle l).tasks.wr {} t (put (s.fetched l t 1) x) } := by
  intro u
  obtain ⟨ws, words, others⟩ := CleRec.sramWords_eq hn h.notWindow h.held
  have cle : u.cle l = { s.cle l with upset := [] } :=
    (congrArg (PerLane.of · l) (State.eccCorrected_cles _ l)).trans ((State.cle_setCle _ _ _ _).trans (if_pos rfl))
  have loads : (u.cle l).load (addr (s.fetched l t 1)) n = some x := by rw [cle, CleRec.load_upset, hx]
  have reads : (s.putOut []).sramRead l
      (if onlyBits f mask && ((s.cle l).load (addr ((s.cle l).tasks.rd {} t)) n).isSome then
        (s.cle l).sramWords (addr ((s.cle l).tasks.rd {} t)) n else []) = (u, false) := by
    rw [← ha, hf, hx, Option.isSome_some, Bool.and_self, if_pos rfl, words]
    exact State.sramRead_corrected (s := s.putOut []) h.upset others
  refine (State.cleStepReading_reads h.executes h.upset h.notFetched reads).trans ?_
  simp only [Bool.false_eq_true, if_false, whenFields_of_onlyBits hf, loads, State.took]

/-- A load of a word with a double-bit error stops the engine (R529). -/
theorem State.MeetsError.loadStep_fails (h : s.MeetsError l t (addr (s.fetched l t 1)) true)
    (hx : ((s.cle l).load (addr (s.fetched l t 1)) n).isSome = true) :
    s.loadStep l f mask addr n put =
      ((s.putOut []).eccUncorrected l 0 (sramAddr (addr (s.fetched l t 1) / 4 * 4))).cleFault l Cause.memory t
        ((s.cle l).tasks.rd {} t).pc := by
  obtain ⟨ws, words, others⟩ := CleRec.sramWords_eq hn h.notWindow h.held
  have reads : (s.putOut []).sramRead l
      (if onlyBits f mask && ((s.cle l).load (addr ((s.cle l).tasks.rd {} t)) n).isSome then
        (s.cle l).sramWords (addr ((s.cle l).tasks.rd {} t)) n else [])
      = ((s.putOut []).eccUncorrected l 0 (sramAddr (addr (s.fetched l t 1) / 4 * 4)), true) := by
    rw [← ha, hf, hx, Bool.and_self, if_pos rfl, words]
    exact State.sramRead_uncorrected (s := s.putOut []) h.upset
  exact (State.cleStepReading_reads h.executes h.upset h.notFetched reads).trans (if_pos rfl)

end

end Sys2Proof.Machine

open Sys2Proof Sys2Proof.Machine

/-- Settles O17, form by form: where the address can be read or written the row has its effect, and a word with an error is corrected
or stops the engine. -/
theorem cleMemoryComplete : Obligations.CleMemoryComplete := by
  refine ⟨?word, ?half, ?byte, ?double, ?liw, ?stw, ?sth, ?stb, ?xstd, ?xsts, ?siw, ?qual, ?corrected, ?failed, ?liwError, ?fetch,
    ?collides⟩
  case word | half | byte =>
    intro l t f v s c k a h hv
    exact ⟨congrArg _ (State.loadStep_carries _ h (onlyBits_all f) hv), congrArg _ (State.loadStep_carries _ h (onlyBits_all f) hv)⟩
  case double =>
    intro l t f v s c k a h hv
    exact congrArg _ (State.loadStep_carries _ h (onlyBits_all f) hv)
  case liw =>
    intro l t f v s c k h hf hv
    exact congrArg _ (State.loadStep_carries _ h hf hv)
  case stw =>
    intro l t f d s c k h hd
    exact congrArg _ ((if_pos (.inl rfl)).trans (State.storeStep_carries h (onlyBits_all f) hd))
  case sth | stb | xstd | xsts =>
    intro l t f d s c k h hd
    exact congrArg _ (State.storeStep_carries h (onlyBits_all f) hd)
  case siw =>
    intro l t f d s c k h hf hd
    exact congrArg _ (State.storeStep_carries h hf hd)
  case qual =>
    intro l t f v s c k h hq
    exact congrArg _ (State.cleStep_carries h (by rw [hq]))
  case corrected =>
    intro l t f s c z k a w v done h hu hin hw hp
    have met : s.MeetsError l t a false := ⟨h, hu, hin, hw, hp⟩
    have all := onlyBits_all f
    refine ⟨?_, ?_, ?_, ?_, ?_, ?_, ?_⟩ <;> exact fun x hx => congrArg _ (met.loadStep_corrected rfl (by decide) all hx)
  case failed =>
    intro l t f s c z k a w v h hu hin hw hp
    have met : s.MeetsError l t a true := ⟨h, hu, hin, hw, hp⟩
    have all := onlyBits_all f
    refine ⟨?_, ?_, ?_, ?_, ?_, ?_, ?_⟩ <;> exact fun hx => congrArg _ (met.loadStep_fails rfl (by decide) all hx)
  case liwError =>
    intro l t f s c z k a w v h hf hin hw hp
    refine ⟨fun x hu hx => ?_, fun hu hx => ?_⟩
    · have met : s.MeetsError l t a false := ⟨h, hu, hin, hw, hp⟩
      exact congrArg _ (met.loadStep_corrected rfl (by decide) hf hx)
    · have met : s.MeetsError l t a true := ⟨h, hu, hin, hw, hp⟩
      exact congrArg _ (met.loadStep_fails rfl (by decide) hf hx)
  case fetch =>
    intro l t f s c z pc w h hu
    exact congrArg _ (State.cleStep_fetch_fails h (by decide) hu)
  case collides => exact fun _ _ _ _ _ _ => execStw_collides

/-- Settles O57: each of the rows leaves the engine that its store makes, and a store changes the bytes it stores to alone. -/
theorem storeFrame : Obligations.StoreFrame := by
  intro l t f s h c k x hx hfields hs
  have all := onlyBits_all f
  simp only [List.mem_cons, List.not_mem_nil, or_false] at hx
  rcases hx with rfl | rfl | rfl | rfl | rfl | rfl <;> dsimp only at hs ⊢
  · exact exec_store_frame (by decide) hs fun d hd => congrArg _ ((if_pos (.inl rfl)).trans (State.storeStep_carries h all hd))
  · exact exec_store_frame (by decide) hs fun d hd => congrArg _ (State.storeStep_carries h all hd)
  · exact exec_store_frame (by decide) hs fun d hd => congrArg _ (State.storeStep_carries h all hd)
  · exact exec_store_frame (by decide) hs fun d hd => congrArg _ (State.storeStep_carries h (hfields rfl) hd)
  · exact exec_store_frame (by decide) hs fun d hd => congrArg _ (State.storeStep_carries h all hd)
  · exact exec_store_frame (by decide) hs fun d hd => congrArg _ (State.storeStep_carries h all hd)

end

section
/-! PROOF. The bit instructions of the engines (O19, O58): a bit operand that can be read is folded into ACC, pushed or written, and
both ends of the bit stack fault. -/

namespace Sys2Proof.Machine

variable {l : Lane} {t a i v : Nat} {f : Fields} {s : State} {d : CleRec} {j : TaskRec}

section
variable (h : s.executes l t 1 true) (ho : bitOperand (s.fetched l t 1) f = some (a, i)) (hv : (s.cle l).load a 4 = some v)
include h ho hv

theorem State.bitRead_carries {use : TaskRec → Bool → Option TaskRec} (hj : use (s.fetched l t 1) (bitAt v i) = some j) :
    s.bitRead l f use = s.carried l t (s.cle l) j :=
  State.cleStepReading_carries h (by simp only [ho, hv, hj])

theorem State.bitRead_faults {use : TaskRec → Bool → Option TaskRec} (hj : use (s.fetched l t 1) (bitAt v i) = none) :
    s.bitRead l f use = (s.putOut []).cleFault l Cause.illegal t ((s.cle l).tasks.rd {} t).pc :=
  State.cleStepReading_faults h (by simp only [ho, hv, hj])

/-- An instruction that folds its bit into ACC. -/
theorem State.bitRead_accFold (op : Bool → Bool → Bool) :
    let k := s.fetched l t 1
    s.bitRead l f (accFold op) = s.carried l t (s.cle l) { k with acc := op k.acc (bitAt v i) } :=
  State.bitRead_carries h ho hv rfl

/-- An instruction that pushes ACC, up to 16 entries, and stops the engine beyond them (R219). -/
theorem State.bitRead_pushBit (op : BitOp) :
    let k := s.fetched l t 1
    s.bitRead l f (pushBit op) =
      if k.bstack.length < 16 then s.carried l t (s.cle l) { k with bstack := (k.acc, op) :: k.bstack, acc := bitAt v i }
      else (s.putOut []).cleFault l Cause.illegal t ((s.cle l).tasks.rd {} t).pc := by
  intro k
  split
  · next room => exact State.bitRead_carries h ho hv (if_neg (Nat.not_le.mpr room))
  · next full => exact State.bitRead_faults h ho hv (if_pos (Nat.not_lt.mp full))

theorem State.bitWrite_stores {use : Bool → Option Bool} {x : Bool} (hx : use (s.fetched l t 1).acc = some x)
    (hd : (s.cle l).store a (setBit v i x) 4 = some d) : s.bitWrite l f use = s.carried l t d (s.fetched l t 1) :=
  State.cleStepReading_carries h (by simp only [ho, hv, hx, hd, Option.isSome_some, if_true])

theorem State.bitWrite_leaves {use : Bool → Option Bool} (hx : use (s.fetched l t 1).acc = none)
    (hd : (s.cle l).store a v 4 = some d) : s.bitWrite l f use = s.carried l t (s.cle l) (s.fetched l t 1) :=
  State.cleStepReading_carries h (by simp only [ho, hv, hx, hd, Option.isSome_none, Bool.false_eq_true, if_false])

end

/-- BPOP takes the innermost pair off the stack and carries out its operation (R219). -/
theorem execBpop_pops {x : Bool} {op : BitOp} {rest : List (Bool × BitOp)} (h : s.executes l t 1 true) (hf : onlyBits f 0 = true)
    (hb : (s.fetched l t 1).bstack = (x, op) :: rest) :
    let k := s.fetched l t 1
    execBpop l f s = .next (s.carried l t (s.cle l) { k with bstack := rest, acc := op.apply x k.acc }) :=
  congrArg _ (State.cleStep_carries_fields h hf (by rw [hb]))

theorem execBpop_empty (h : s.executes l t 1 true) (hf : onlyBits f 0 = true) (hb : (s.fetched l t 1).bstack = []) :
    execBpop l f s = .next ((s.putOut []).cleFault l Cause.illegal t ((s.cle l).tasks.rd {} t).pc) :=
  congrArg _ (State.cleStepReading_faults h ((whenFields_of_onlyBits hf _).trans (by rw [hb])))

/-- BACC with one of its six sub-operations sets ACC; the three that copy a flag are illegal in bit-logic mode (R216). -/
theorem execBacc_sets {b : Bool} (h : s.executes l t 1 true) :
    let k := s.fetched l t 1
    [!k.acc, false, true, k.z, k.n, k.c][f.toNat]? = some b → (3 ≤ f.toNat → ((s.cle l).taskDef t).bitMode = false) →
    execBacc l f s = .next (s.carried l t (s.cle l) { k with acc := b }) := by
  intro k hb hm
  have small : f.toNat < 6 := (List.getElem?_eq_some_iff.mp hb).1
  have fits : ∀ n < 6, (n &&& (2 ^ 24 - 1 - 0xF) == 0) = true := by decide
  have hf : onlyBits f 0xF = true := fits f.toNat small
  refine congrArg _ (State.cleStep_carries_fields h hf ?_)
  generalize f.toNat = n at hb hm small
  match n, hb with
  | 0, rfl | 1, rfl | 2, rfl => rfl
  | 3, rfl | 4, rfl | 5, rfl => simp only [hm (by omega), Bool.false_eq_true, if_false]; rfl

end Sys2Proof.Machine

open Sys2Proof Sys2Proof.Machine

/-- Settles O19, form by form: each instruction's operand chooses the branch of its effect. -/
theorem cleBitComplete : Obligations.CleBitComplete := by
  refine ⟨?btog, ?gtob, ?fold, ?push, ?write, ?pop, ?bacc⟩
  case btog =>
    intro l t f s c k h hf
    have acc : BitVec.ofNat 32 (bool01 k.acc) = if k.acc then 1 else 0 := by cases k.acc <;> rfl
    rw [← acc]
    exact congrArg _ (State.cleStep_carries_fields h hf rfl)
  case gtob =>
    intro l t f s c k h hf
    exact congrArg _ (State.cleStep_carries_fields h hf rfl)
  case fold =>
    intro l t f a i v s c k b h ho hv
    refine ⟨?_, ?_, ?_, ?_, ?_, ?_, ?_⟩ <;> exact congrArg _ (State.bitRead_accFold h ho hv _)
  case push =>
    intro l t f a i v s c k push h ho hv hd
    refine ⟨?_, ?_, ?_⟩ <;> exact congrArg _ ((State.bitRead_pushBit h ho hv _).trans (if_pos hd))
  case write =>
    intro l t f a i v d s c k h ho hv
    refine ⟨fun hd => ?bst, fun hd => ?bstn, fun hacc hd => ?bset, fun hacc hd => ?brst, fun hacc hd => ⟨?unset, ?unreset⟩⟩
    case bst | bstn => exact congrArg _ (State.bitWrite_stores h ho hv (by rfl) hd)
    case bset | brst => exact congrArg _ (State.bitWrite_stores h ho hv (if_pos hacc) hd)
    case unset | unreset => exact congrArg _ (State.bitWrite_leaves h ho hv (if_neg (Bool.eq_false_iff.mp hacc)) hd)
  case pop => exact fun _ _ _ _ _ _ _ => execBpop_pops
  case bacc => exact fun _ _ _ _ _ => execBacc_sets

/-- Settles O58: the push has room or faults, and BPOP finds a pair or faults. -/
theorem bitStack : Obligations.BitStack := by
  refine ⟨?push, ?empty, ?pop⟩
  case push =>
    intro l t a i v f s c k h ho hv x hx
    simp only [List.mem_cons, List.not_mem_nil, or_false] at hx
    rcases hx with rfl | rfl | rfl <;> exact congrArg _ (State.bitRead_pushBit h ho hv _)
  case empty => exact fun _ _ _ _ => execBpop_empty
  case pop =>
    intro l t f v op rest s c k h hf hb
    refine (execBpop_pops h hf hb).trans ?_
    cases op <;> rfl

end

section
/-! PROOF. The function blocks of the engines (O20, O21, O22): a block whose record in data memory passes the checks of R221
works on that record, and its timers, counters and numeric blocks evaluate as R223 to R228 give. -/

namespace Sys2Proof.Machine

variable {l : Lane} {t a : Nat} {f : Fields} {s : State}

/-! The record of a block and the block that works on it (R221, R222). -/

/-- The record of a block that an FB operand gives: aligned and wholly in DATA or RETAIN, and of the block's type (R221). It is the
check that the model makes of the operand's address. -/
def CleRec.blockAt (c : CleRec) (operand : Except Nat Nat) (code size : Nat) : Except Nat Nat :=
  match operand with
  | .error e => .error e
  | .ok a =>
    if a % 8 ≠ 0 ∨ !(c.img.data.holds a size || c.img.retain.holds a size) then .error Cause.address
    else if memRead c.data (a + 8) 2 ≠ code then .error Cause.illegal
    else .ok a

theorem CleRec.blockAt_ok {c : CleRec} {code size : Nat} (h8 : a % 8 = 0)
    (hr : c.img.data.holds a size = true ∨ c.img.retain.holds a size = true) (hc : memRead c.data (a + 8) 2 = code) :
    c.blockAt (.ok a) code size = .ok a := by
  have inside : (c.img.data.holds a size || c.img.retain.holds a size) = true := by simpa using hr
  simp [CleRec.blockAt, h8, inside, hc]

theorem State.intrinsic_carries {ok : Bool} {code size : Nat} (body : CleRec → TaskRec → Nat → CleRec × TaskRec)
    (h : s.executes l t 1 ok) (ha : fbOperand (s.fetched l t 1) ((s.cle l).taskDef t).bitMode f = .ok a) (h8 : a % 8 = 0)
    (hr : (s.cle l).img.data.holds a size = true ∨ (s.cle l).img.retain.holds a size = true)
    (hc : memRead (s.cle l).data (a + 8) 2 = code) :
    let p := body (s.cle l) (s.fetched l t 1) a
    s.intrinsic l f ok code size body = s.carried l t p.1 p.2 := by
  have checked : (s.cle l).blockAt (fbOperand (s.fetched l t 1) ((s.cle l).taskDef t).bitMode f) code size = .ok a := by
    rw [ha]
    exact CleRec.blockAt_ok h8 hr hc
  refine State.cleStepReading_carries h ?_
  split
  · next e he => cases he.symm.trans checked
  · next b hb =>
    cases hb.symm.trans checked
    rfl

/-! Timers (R223). -/

theorem TimerVal.ton_eq (v : TimerVal) (now : Nat) :
    let start := if v.input && !v.prev then now else v.start
    let d := (now + 2 ^ 64 - start % 2 ^ 64) % 2 ^ 64
    v.ton now =
      { v with et := if v.input then min d v.pt else 0, q := v.input && decide (v.pt ≤ d), start := start } := by
  obtain ⟨input, prev, q, pt, et, start⟩ := v
  cases input <;> cases prev <;> simp [TimerVal.ton, TimerVal.d]

theorem TimerVal.tof_eq (v : TimerVal) (now : Nat) :
    let start := if !v.input && v.prev then now else v.start
    let d := (now + 2 ^ 64 - start % 2 ^ 64) % 2 ^ 64
    v.tof now =
      { v with et := if v.input then 0 else if v.q then min d v.pt else v.et, q := v.input || v.q && decide (d < v.pt),
               start := start } := by
  obtain ⟨input, prev, q, pt, et, start⟩ := v
  cases input <;> cases prev <;> cases q <;> simp [TimerVal.tof, TimerVal.d]

theorem TimerVal.ite_q (v : TimerVal) (e : Nat) :
    (if v.q then v else { v with et := e }) = { v with et := if v.q then v.et else e } := by
  obtain ⟨input, prev, q, pt, et, start⟩ := v
  cases q <;> rfl

theorem TimerVal.tp_eq (v : TimerVal) (now : Nat) :
    let go := !v.q && v.input && !v.prev
    let start := if go then now else v.start
    let d := (now + 2 ^ 64 - start % 2 ^ 64) % 2 ^ 64
    let q := (v.q || go) && decide (d < v.pt)
    v.tp now = { v with et := if q then min d v.pt else if v.input then v.pt else 0, q := q, start := start } := by
  obtain ⟨input, prev, q, pt, et, start⟩ := v
  simp only [TimerVal.tp, TimerVal.ite_q]
  cases input <;> cases prev <;> cases q <;> simp [TimerVal.d]

/-- A timer called leaves in its record what its evaluation gives. -/
theorem timerBody_eq {eval : TimerVal → Nat → TimerVal} {c : CleRec} {k : TaskRec} {q : Bool} {et start : Nat} :
    let bits := c.w32 (a + 0x10)
    let v : TimerVal := ⟨k.acc, bitAt bits 3, bitAt bits 1, c.w64 (a + 0x18), c.w64 (a + 0x20), c.w64 (a + 0x28)⟩
    eval v c.progTime = { v with q := q, et := et, start := start } →
    timerBody eval c k a =
      (((c.put32 (a + 0x10) (bool01 k.acc + 2 * bool01 q + 8 * bool01 k.acc)).put64 (a + 0x20) et).put64 (a + 0x28) start,
        { k with acc := q }) := by
  intro bits v hv
  simp only [timerBody]
  rw [hv]

/-! Counters (R224). -/

theorem ite_countUp (b : Bool) (cv : Int) :
    (if b then countUp cv else cv) = if b && decide (cv < 2147483647) then cv + 1 else cv := by
  cases b <;> simp [countUp]

theorem ite_countDown (b : Bool) (cv : Int) :
    (if b then countDown cv else cv) = if b && decide (-2147483648 < cv) then cv - 1 else cv := by
  cases b <;> simp [countDown]

theorem countBoth (up down : Bool) (cv : Int) :
    (if up && !down then countUp cv else if down && !up then countDown cv else cv) =
      if up && !down && decide (cv < 2147483647) then cv + 1
      else if down && !up && decide (-2147483648 < cv) then cv - 1 else cv := by
  rw [ite_countDown]
  cases up <;> cases down <;> simp [countUp]

theorem CounterVal.ctu_eq (v : CounterVal) :
    let n := if v.r then 0 else if v.cu && !v.cuPrev && decide (v.cv < 2147483647) then v.cv + 1 else v.cv
    v.ctu = { v with cv := n, qu := decide (v.pv ≤ n) } := by
  simp only [CounterVal.ctu, ite_countUp]

theorem CounterVal.ctd_eq (v : CounterVal) :
    let n := if v.ld then v.pv else if v.cd && !v.cdPrev && decide (-2147483648 < v.cv) then v.cv - 1 else v.cv
    v.ctd = { v with cv := n, qd := decide (n ≤ 0) } := by
  simp only [CounterVal.ctd, ite_countDown]

theorem CounterVal.ctud_eq (v : CounterVal) :
    let up := v.cu && !v.cuPrev
    let down := v.cd && !v.cdPrev
    let n := if v.r then 0 else if v.ld then v.pv else if up && !down && decide (v.cv < 2147483647) then v.cv + 1
      else if down && !up && decide (-2147483648 < v.cv) then v.cv - 1 else v.cv
    v.ctud = { v with cv := n, qu := decide (v.pv ≤ n), qd := decide (n ≤ 0) } := by
  simp only [CounterVal.ctud, countBoth]

end Sys2Proof.Machine

open Sys2Proof Sys2Proof.Machine

/-- Settles O20: each timer works on its record as its row of the table gives. -/
theorem timerBlocksComplete : Obligations.TimerBlocksComplete := by
  refine ⟨?ton, ?tof, ?tp⟩
  case ton =>
    intro l t a f s c k bits pt start d et q h ha h8 hr hc
    refine (congrArg _ (State.intrinsic_carries (timerBody TimerVal.ton) h ha h8 hr hc)).trans ?_
    rw [timerBody_eq (TimerVal.ton_eq ..)]
  case tof =>
    intro l t a f s c k bits pt start d et q h ha h8 hr hc
    refine (congrArg _ (State.intrinsic_carries (timerBody TimerVal.tof) h ha h8 hr hc)).trans ?_
    rw [timerBody_eq (TimerVal.tof_eq ..)]
  case tp =>
    intro l t a f s c k bits pt go start d q et h ha h8 hr hc
    refine (congrArg _ (State.intrinsic_carries (timerBody TimerVal.tp) h ha h8 hr hc)).trans ?_
    rw [timerBody_eq (TimerVal.tp_eq ..)]

/-- Settles O21: each counter counts within its bounds and each edge detector compares ACC with what it stored. -/
theorem counterAndEdgeBlocksComplete : Obligations.CounterAndEdgeBlocksComplete := by
  refine ⟨?ctu, ?ctd, ?ctud, ?rising, ?falling⟩
  case ctu =>
    intro l t a f s c k b pv cv n q h ha h8 hr hc
    refine (congrArg _ (State.intrinsic_carries (counterBody false CounterVal.ctu) h ha h8 hr hc)).trans ?_
    simp only [counterBody, CounterVal.ctu_eq, Bool.false_eq_true, if_false, c, k, b, pv, cv, n, q]
  case ctd =>
    intro l t a f s c k b pv cv n q h ha h8 hr hc
    refine (congrArg _ (State.intrinsic_carries (counterBody true CounterVal.ctd) h ha h8 hr hc)).trans ?_
    simp only [counterBody, CounterVal.ctd_eq, if_true, c, k, b, pv, cv, n, q]
  case ctud =>
    intro l t a f s c k b pv cv up down n h ha h8 hr hc
    refine (congrArg _ (State.intrinsic_carries (counterBody false CounterVal.ctud) h ha h8 hr hc)).trans ?_
    simp only [counterBody, CounterVal.ctud_eq, Bool.false_eq_true, if_false, c, k, b, pv, cv, up, down, n]
  case rising =>
    intro l t a f s c k q h ha h8 hr hc
    exact congrArg _ (State.intrinsic_carries (edgeBody fun clk prev => clk && !prev) h ha h8 hr hc)
  case falling =>
    intro l t a f s c k q h ha h8 hr hc
    exact congrArg _ (State.intrinsic_carries (edgeBody fun clk prev => prev && !clk) h ha h8 hr hc)

/-- Settles O22: each block's body is the pseudocode of its row. -/
theorem numericBlocksComplete : Obligations.NumericBlocksComplete := by
  refine ⟨?pid, ?lag, ?slew⟩
  case pid =>
    intro l t a f s c k h ha h8 hr hc
    exact congrArg _ (State.intrinsic_carries pidBody h ha h8 hr hc)
  case lag =>
    intro l t a f s c k field dt sum out h ha h8 hr hc
    exact congrArg _ (State.intrinsic_carries lagBody h ha h8 hr hc)
  case slew =>
    intro l t a f s c k field dt inp out bad h ha h8 hr hc
    exact congrArg _ (State.intrinsic_carries slewBody h ha h8 hr hc)

end

section
/-! PROOF. The instructions of the numeric coprocessor (O23): each that executes with the fields its format marks 0 at 0 leaves the
result of its operation and nothing else. -/

namespace Sys2Proof.Machine

variable {l : Lane} {t : Nat} {f : Fields} {s : State}

/-- An NCP instruction whose fields marked 0 are zero leaves the engine and the task of its effect (R211, R230). -/
theorem State.ncp_carries {mask : Nat} {eff : CleRec → TaskRec → Eff} {k : TaskRec} (h : s.executes l t 1 false)
    (hf : onlyBits f mask = true) (he : eff (s.cle l) (s.fetched l t 1) = .ok (s.cle l) k) :
    s.ncp l f mask eff = s.carried l t (s.cle l) k :=
  State.cleStep_carries_fields h hf he

theorem State.ncp1_carries (op : FloatFmt → Num → Nat × Nat) (h : s.executes l t 1 false) (hf : onlyBits f 0xFF0001 = true) :
    let k := s.fetched l t 1
    let fm := FloatFmt.ofP (fP f)
    s.ncp1 l f op = s.carried l t (s.cle l) (k.result (fD f) (op fm (k.num fm (fA f)))) :=
  State.ncp_carries h hf rfl

theorem State.ncp2_carries (op : FloatFmt → Num → Num → Nat × Nat) (h : s.executes l t 1 false) (hf : onlyBits f 0xFFF001 = true) :
    let k := s.fetched l t 1
    let fm := FloatFmt.ofP (fP f)
    s.ncp2 l f op = s.carried l t (s.cle l) (k.result (fD f) (op fm (k.num fm (fA f)) (k.num fm (fB f)))) :=
  State.ncp_carries h hf rfl

theorem State.ncp3_carries (op : FloatFmt → Num → Num → Num → Nat × Nat) (h : s.executes l t 1 false)
    (hf : onlyBits f 0xFFFF01 = true) :
    let k := s.fetched l t 1
    let fm := FloatFmt.ofP (fP f)
    s.ncp3 l f op =
      s.carried l t (s.cle l) (k.result (fD f) (op fm (k.num fm (fA f)) (k.num fm (fB f)) (k.num fm (fC f)))) :=
  State.ncp_carries h hf rfl

/-- XGET takes the low half of a register where b is 0, and else the high half. -/
theorem ite_lowWord_highWord (p : Prop) [Decidable p] (x : Nat) :
    (if p then lowWord x else highWord x) = BitVec.ofNat 32 (if p then x else x / 2 ^ 32) :=
  (apply_ite (BitVec.ofNat 32) p x (x / 2 ^ 32)).symm

end Sys2Proof.Machine

open Sys2Proof Sys2Proof.Machine

/-- Settles O23, form by form: each instruction's fields let it have its effect. -/
theorem cleNumericComplete : Obligations.CleNumericComplete := by
  refine ⟨?two, ?three, ?one, ?sign, ?compare, ?halves, ?readStatus, ?clearStatus, ?convert⟩
  case two =>
    intro l t f s c k fm h hf
    have form op := outcome_next (State.ncp2_carries op h hf)
    exact ⟨form .., form .., form .., form .., form .., form .., form ..⟩
  case three =>
    intro l t f s c k fm h hf
    have form op := outcome_next (State.ncp3_carries op h hf)
    exact ⟨form .., form ..⟩
  case one =>
    intro l t f s c k fm h hf
    have form op := outcome_next (State.ncp1_carries op h hf)
    exact ⟨form .., form .., form .., form .., form .., congrArg _ (State.ncp_carries h hf (by rfl)),
      congrArg _ (State.ncp_carries h hf (by rfl)), congrArg _ (State.ncp_carries h hf (by rfl))⟩
  case sign =>
    intro l t f s c k n v h hf
    exact ⟨congrArg _ (State.ncp_carries h hf (by rfl)), congrArg _ (State.ncp_carries h hf (by rfl))⟩
  case compare =>
    intro l t f z n g v x s c k fm h hf hc
    exact congrArg _ (State.ncp_carries h hf (by dsimp only; rw [hc]))
  case halves =>
    intro l t f s c k x y g h hf
    rw [← ite_lowWord_highWord]
    exact ⟨congrArg _ (State.ncp_carries h hf (by rfl)), congrArg _ (State.ncp_carries h hf (by rfl))⟩
  case readStatus | clearStatus =>
    intro l t f s c k h hf
    exact congrArg _ (State.ncp_carries h hf (by rfl))
  case convert =>
    intro l t f s c k h hf
    exact ⟨congrArg _ (State.ncp_carries h hf (by rfl)), congrArg _ (State.ncp_carries h hf (by rfl))⟩

end

section
/-! PROOF. The check of a lane in an online change (O24): the image that it loads and reports comes from its own program slot. -/

namespace Sys2Proof.Machine

/-- A check of lane B that fails is sent with the digest of the image in lane B's program slot, number 4, and kept (R237, R239, R601). -/
theorem execOcLoadDone_fails_b {t : Nat} {signed : Bool} {s : State} :
    let u := s.start t
    let n := u.ocCheck .b signed
    let d := (((u.otherSlot 4).bind (·.program)).map (·.digest)).getD 0
    let v := u.sendFrame .b 5 [0, n, d]
    u.pstate 0x0A = 1 → u.oc.result.of .b = none → n ≠ 0 →
    execOcLoadDone t .b signed s = .next (v.putOc { v.oc with result := v.oc.result.set .b (some (n, d)) }) := by
  intro u n d v hp hr hn
  have loading : ¬(u.pstate 0x0A ≠ 1 ∨ (u.oc.result.of .b).isSome = true) := by simp [hp, hr]
  refine congrArg _ ((if_neg loading).trans ((if_pos hn).trans ?_))
  split <;> rfl

end Sys2Proof.Machine

open Sys2Proof Sys2Proof.Machine

/-- Refutes O24: its clauses of a lane's check name slot 3 for lane B and slot 2 for lane A, while by R601 these hold the program of
lane A and the management firmware, and the lanes load from slots 4 and 3. With an image of digest 1 in lane B's slot and none in
lane A's, lane B's failed check is kept with the digest 1, and the fourth clause has it kept with 0. -/
theorem not_onlineChangeComplete : ¬ Obligations.OnlineChangeComplete := by
  rintro ⟨-, -, -, failedB, -⟩
  let loaded : Container := ⟨0, 1, 1, 0, some { digest := 1 }, none, none⟩
  let s : State := (State.reset.setPstate 0x0A 1).putMgmt { State.reset.mgmt with other := [(4, some loaded)] }
  have loading : (s.start 0).pstate 0x0A = 1 := by decide +kernel
  have unchecked : (s.start 0).oc.result.of .b = none := by decide +kernel
  have fails : (s.start 0).ocCheck .b false ≠ 0 := by decide +kernel
  have same := Host.Outcome.next.inj
    ((execOcLoadDone_fails_b loading unchecked fails).symm.trans (failedB 0 false s loading unchecked fails))
  have kept : some ((s.start 0).ocCheck .b false, 1) = some ((s.start 0).ocCheck .b false, 0) :=
    congrArg (fun u : State => u.oc.result.b) same
  exact absurd kept (by simp)

end

section
/-! PROOF. Avenues and Corners (O25): what the source of an Avenue gives decides its fault or its sample, a write that passes its checks
is stored and taken, and a command of the Corners or of the counters acts and is answered. -/

namespace Sys2Proof.Machine

/-! The sources of an Avenue (R260, R270, R276). -/

/-- What an Avenue that is not off does with what its source gives: a source that gives no sample or a sample has no fault any more,
and the sample is taken; a cause faults the Avenue (R269, R270, R276). -/
def State.avMeet (s : State) (a : Nat) : AvRead → State
  | .nothing => s.avCauseEnds a
  | .value x => (s.avCauseEnds a).avSample a x
  | .cause c => s.avFault a c

theorem execAvenueSample_meets {t : Nat} {a : Fin 64} {s : State} {x : AvRead} (h : (s.start t).avState a ≠ 0)
    (hx : (s.start t).avSource a = x) : execAvenueSample t a s = .next ((s.start t).avMeet a x) := by
  refine congrArg Host.Outcome.next ((if_neg h).trans ?_)
  rw [hx]
  cases x <;> rfl

/-! The registers that a lane or a host writes at an Avenue or a Corner (R272, R274, R278). -/

theorem avSrc_pos (a : Nat) : Av.AV_SRC_ENA.pos a = 0x600 + 0x20 * a := by
  simp only [Field.pos, Av.AV_SRC_ENA]
  omega

theorem avIn_pos (a : Nat) (rate : Bool) :
    (if rate then Av.AV_IN_RATE else Av.AV_IN).pos a = (if rate then 0x61C else 0x618) + 0x20 * a := by
  split <;> simp only [Field.pos, Av.AV_IN_RATE, Av.AV_IN] <;> omega

theorem cornerWindow_pos (c : Nat) (ctrl : Bool) :
    (if ctrl then Cn.CN_CTRL_ENA else Cn.CN_POS).pos c = 0x400 + 0x20 * c + (if ctrl then 4 else 0) := by
  split <;> simp only [Field.pos, Cn.CN_CTRL_ENA, Cn.CN_POS] <;> omega

/-- A write of AV_SRC that passes its checks (R265, R272, R276). -/
theorem execAvSrcWrite_done {t code gen : Nat} {a : Fin 64} {value : Word} {s : State} :
    let u := s.start t
    let w : WriteReq := ⟨code, gen, 0x0C, 0x600 + 0x20 * a, value⟩
    u.writeVerdict w = 0 →
    execAvSrcWrite t code gen a value s =
      .next (((((u.store code 0x0C w.off value).flagCorners a).restartAvenue a 1).showCorners a).writeReply w (u.pstate 0x0C)
        RC.done) := by
  intro u w hv
  have aligned : (0x600 + 0x20 * a.val) % 4096 / 4 * 4 = 0x600 + 0x20 * a.val := by omega
  rw [execAvSrcWrite, avSrc_pos]
  exact congrArg _ (State.write_done aligned rfl hv)

/-- The value that AV_IN stands for before it is written: extrapolated from its last write, 0 where it has none (R260, R269). -/
def State.lineRead (s : State) (a : Nat) : Int :=
  match (s.av a).inAt with
  | some x => s.lineValue a x
  | none => 0

/-- A write of AV_IN or AV_IN_RATE by the writing lane of the Avenue (R260, R274). -/
theorem execAvInWrite_done {t code gen : Nat} {a : Fin 64} {value : Word} {s : State} (rate : Bool) :
    let u := s.start t
    let w : WriteReq := ⟨code, gen, 0x0C, (if rate then 0x61C else 0x618) + 0x20 * a, value⟩
    let v := u.store code 0x0C w.off value
    u.writeVerdict w = 0 → u.isWriter code a = true →
    execAvInWrite t code gen a rate value s =
      .next ((if rate then v else v.avIn a (u.lineRead a)).writeReply w (u.pstate 0x0C) RC.done) := by
  intro u w v hv hw
  have aligned : w.off % 4096 / 4 * 4 = w.off := by
    simp only [w]
    split <;> omega
  rw [execAvInWrite, avIn_pos]
  exact congrArg _ (State.writeGuard_done aligned rfl hv fun _ => if_pos hw)

/-- A Corner written through the window of the requester that writes its Avenue (R268, R278). -/
theorem execCornerWindowWrite_done {t code gen : Nat} {c : Fin 64} {ctrl : Bool} {value : Word} {s : State} :
    let u := s.start t
    let w : WriteReq := ⟨code, gen, 0x0D, 0x400 + 0x20 * c + (if ctrl then 4 else 0), value⟩
    let a := bitsOf (u.reg 0x0D Cn.WIN_SEL_AVENUE.off (code % 8)) 5 0
    u.writeVerdict w = 0 → u.isWriter code a = true →
    execCornerWindowWrite t code gen c ctrl value s =
      .next (((u.store code (cornerPage a) w.off value 0x0D).cornerChanged a c).writeReply w (u.pstate 0x0D) RC.done) := by
  intro u w a hv hw
  have aligned : w.off % 4096 / 4 * 4 = w.off := by
    simp only [w]
    split <;> omega
  rw [execCornerWindowWrite, cornerWindow_pos]
  exact congrArg _ (State.writeGuard_done aligned rfl hv fun _ => if_pos hw)

end Sys2Proof.Machine

open Sys2Proof Sys2Proof.Machine

/-- Settles O25, row by row: what its source gives decides what becomes of an Avenue, and a write or a command that passes its checks
has its effect and is answered. -/
theorem avenuesAndCornersComplete : Obligations.AvenuesAndCornersComplete := by
  refine ⟨?value, ?nothing, ?cause, ?line, ?mains, ?source, ?input, ?rate, ?window, ?set, ?clear, ?counters⟩
  case value | cause =>
    intro t _ _ s u h hx
    exact execAvenueSample_meets h hx
  case nothing =>
    intro t a s u h hx
    exact execAvenueSample_meets h hx
  case line | mains =>
    intro t a s u hk hc
    exact congrArg _ (if_pos ⟨hk, hc⟩)
  case source => exact fun _ _ _ _ _ _ => execAvSrcWrite_done
  case input =>
    intro t code gen a value s u w old hv hw
    exact execAvInWrite_done false hv hw
  case rate => exact fun _ _ _ _ _ _ => execAvInWrite_done true
  case window => exact fun _ _ _ _ _ _ _ => execCornerWindowWrite_done
  case set =>
    intro t q s u x c w v h
    exact congrArg _ (State.command_done h rfl)
  case clear | counters =>
    intro t q s u h
    exact congrArg _ (State.command_done h rfl)

end

section
/-! PROOF. Motion (O26, O27): a command of an axis that passes its checks acts, is answered, and leaves the Corners and the bus of the
axis settled; a timed event whose condition has come takes the branch that carries it out. -/

namespace Sys2Proof.Machine

/-! The commands of an axis (R311). -/

/-- What follows every command of an axis: the Corners that its owner commanded act again, and the ration of its bus is settled
(R267, R337). -/
def State.afterAxisCommand (s : State) (q : Req) : State :=
  (if s.owner q.page = q.code then s.cornersAgain q.page else s).settle (busOf q.page)

theorem State.axisCommand_eq {q : Req} (hk : pageKind q.page = .axis) (s : State) (c : Cmd) :
    s.axisCommand q c = (s.command q c).afterAxisCommand q :=
  if_pos hk

variable {q : Req} {c : Cmd} {s e : State}

theorem State.axisCommand_done (hk : pageKind q.page = .axis) (h : s.verdict q c = 0)
    (ha : c.act s q (s.arg0 q) (s.arg1 q) = (e, RC.done)) :
    s.axisCommand q c = (c.after (e.writeResult q (s.pstate q.page) RC.done) q).afterAxisCommand q :=
  (State.axisCommand_eq hk s c).trans (congrArg (·.afterAxisCommand q) (State.command_done h ha))

theorem State.axisCommand_open {r : Nat} (hk : pageKind q.page = .axis) (hr : r = RC.accepted ∨ r = RC.delayed)
    (h : s.verdict q c = 0) (ha : c.act s q (s.arg0 q) (s.arg1 q) = (e, r)) :
    s.axisCommand q c = (c.after ((e.openCmd q c.opc).writeResult q (s.pstate q.page) r) q).afterAxisCommand q :=
  (State.axisCommand_eq hk s c).trans (congrArg (·.afterAxisCommand q) (State.command_open h ha hr))

/-- A move without the arm bit is presented to the ration at once (R296, R336). -/
theorem cmdMove_act_now {p opc a0 a1 : Nat} (h : bitAt a1 8 = false) :
    (cmdMove p opc).act s q a0 a1 = s.present p (s.motionOf q opc a0 a1) :=
  if_neg (Bool.not_eq_true _ ▸ h)

/-- A move with the arm bit waits for its start line (R296). -/
theorem cmdMove_act_arm {p opc a0 a1 : Nat} (h : bitAt a1 8 = true) :
    (cmdMove p opc).act s q a0 a1 = (s.arm p (s.motionOf q opc a0 a1), RC.accepted) :=
  if_pos h

/-- A homing that moves is presented to the ration (R301, R336). -/
theorem cmdHome_act_moves {p a0 a1 : Nat} (h : s.fld p Ax.HOME_CFG_METHOD ≠ 9) :
    (cmdHome p).act s q a0 a1 = s.present p { opc := 0x10, code := some q.code, tag := q.tag, cls := s.fld p Ax.HOME_CFG_CLASS } :=
  if_neg h

/-- The method HERE needs no motion and no ration (R307). -/
theorem cmdHome_act_here {p a0 a1 : Nat} (h : s.fld p Ax.HOME_CFG_METHOD = 9) :
    (cmdHome p).act s q a0 a1 =
      (s.homeHere p { opc := 0x10, code := some q.code, tag := q.tag, cls := s.fld p Ax.HOME_CFG_CLASS }, RC.done) :=
  if_pos h

/-! The start line of a group (R297, R298). -/

/-- A start line whose armed members all have torque notes the instant in their motions and asks each bus for its own. -/
theorem execStartLine_live {t : Nat} {g : Fin 8} :
    let u := s.start t
    let v := u.putLines (u.lines.filter (· != g.val))
    let ms := (List.range' 0x10 32).filter fun p => v.armedIn g p
    let w := v.each ms fun v p => v.modAxis p fun x => { x with mot := x.mot.map fun m => { m with origin := some v.now } }
    u.lines.contains g.val = true → (ms.all fun p => v.driveEnabled p) = true →
    execStartLine t g s =
      .next (w.each [0, 1] fun v b =>
        if ms.filter (fun p => busOf p == b) = [] then v
        else v.setBus b { v.bus b with asked := (v.bus b).asked ++ [(g.val, ms.filter fun p => busOf p == b)] }) := by
  intro u v ms w hg hd
  have asserted : ¬(!u.lines.contains g.val) = true := by rw [hg]; decide
  have live : ms.filter (fun p => v.driveEnabled p) = ms := List.filter_eq_self.mpr (List.all_eq_true.mp hd)
  have dead : ms.filter (fun p => !v.driveEnabled p) = [] :=
    List.filter_eq_nil_iff.mpr fun p hp => by simp [List.all_eq_true.mp hd p hp]
  have noneEnds : v.each [] (fun v p => (v.endMotion p 8).setMstate p 0) = v := rfl
  refine (if_neg asserted).trans ?_
  simp only [← show u = s.start t from rfl, ← show v = u.putLines (u.lines.filter (· != g.val)) from rfl,
    ← show ms = (List.range' 0x10 32).filter fun p => v.armedIn g p from rfl, dead, noneEnds, live]
  rfl

/-! What happens to an axis at an instant. -/

/-- What happens to an axis leaves the ration of its bus settled (R337). -/
theorem State.atAxis_eq {a : Fin 32} {f : State → Nat → State} (h : f s (axisPage a) = e) :
    (.next (s.atAxis a f) : Host.Outcome State Fault Refusal) = .next (e.settle (busOf (axisPage a))) :=
  outcome_next (congrArg (·.settle (busOf (axisPage a))) h)

/-- The in-position time of a motion that moves is over (R283). -/
theorem State.inposReached_moving {p x : Nat} (hx : (s.axis p).inpos = some x) (hd : x + s.fld p Ax.INPOS_TIME_MS * 1000000 ≤ s.now)
    (hm : s.mstate p = 7) : s.inposReached p = (s.endMotion p 0).setMstate p 2 := by
  simp only [State.inposReached, hx, if_neg (Nat.not_lt.mpr hd), hm]

/-- The pages of the axes are used (R2). -/
theorem pageUsed_axisPage : ∀ a : Fin 32, pageUsed (axisPage a) = true := by decide

/-- LIMIT_NEG and LIMIT_POS are words of the axis page (R292). -/
theorem limitOff_aligned : ∀ pos : Bool,
    (if pos then 0x108 else 0x104) % 4096 / 4 * 4 = if pos then 0x108 else 0x104 := by decide

end Sys2Proof.Machine

open Sys2Proof Sys2Proof.Machine

/-- Settles O26, row by row: a command that passes its checks acts as its page gives, is answered or left open, and the Corners and the
bus follow. -/
theorem motionCommandsComplete : Obligations.MotionCommandsComplete := by
  refine ⟨?move, ?armed, ?stop, ?quickStop, ?groupGo, ?disarm, ?release, ?engage, ?setPosition, ?home, ?homeHere⟩
  case move =>
    intro t r q s v u p ends hk hr hb
    have form opc (h : u.verdict q (cmdMove p opc) = 0) (hp : u.present p (u.motionOf q opc (u.arg0 q) (u.arg1 q)) = (v, r)) :=
      outcome_next (State.axisCommand_open hk hr h ((cmdMove_act_now hb).trans hp))
    exact ⟨form 1, form 2, form 3⟩
  case armed =>
    intro t q s u p m again ends hk hb
    have form opc (h : u.verdict q (cmdMove p opc) = 0) :=
      outcome_next (State.axisCommand_open hk (.inl rfl) h (cmdMove_act_arm hb))
    exact ⟨form 1, form 2, form 3⟩
  case stop =>
    intro t q s u p ends w v hk h
    exact congrArg _ (State.axisCommand_open hk (.inl rfl) h rfl)
  case quickStop =>
    intro t q s u p ends v hk h
    exact congrArg _ (State.axisCommand_open hk (.inl rfl) h rfl)
  case groupGo | disarm | release | engage | setPosition =>
    intro t q s u p ends hk h
    exact congrArg _ (State.axisCommand_done hk h rfl)
  case home =>
    intro t r q s v u p ends hk h hm hr hp
    exact congrArg _ (State.axisCommand_open hk hr h ((cmdHome_act_moves hm).trans hp))
  case homeHere =>
    intro t q s u p ends hk h hm
    exact congrArg _ (State.axisCommand_done hk h (cmdHome_act_here hm))

/-- Settles O27, row by row: each row under its hypotheses takes the branch that carries it out. -/
theorem motionEventsComplete : Obligations.MotionEventsComplete := by
  refine ⟨?startLine, ?tick, ?inpos, ?flyMeasure, ?push, ?limit, ?rawEdge, ?qualified, ?chatter, ?dwell, ?timeout⟩
  case startLine => exact fun _ _ _ => execStartLine_live
  case tick | rawEdge | qualified =>
    intros
    rfl
  case inpos =>
    intro t x a s u p hx hd hm
    exact State.atAxis_eq (State.inposReached_moving hx hd hm)
  case flyMeasure =>
    intro t a m s u p hm hs hd
    refine State.atAxis_eq ?_
    rw [hm]
    exact if_pos ⟨hs, hd⟩
  case push =>
    intro t a s u p v hs hd
    exact State.atAxis_eq (if_pos ⟨hs, hd⟩)
  case limit =>
    intro t code gen a pos value s u p w h
    exact congrArg _ (State.write_done (w := w) (limitOff_aligned pos) (pageUsed_axisPage a) h)
  case chatter =>
    intro t x a s u p v hx hd
    refine State.atAxis_eq ?_
    rw [hx]
    exact if_neg (Nat.not_lt.mpr hd)
  case dwell =>
    intro t x a s u p hx hs hp hd
    refine State.atAxis_eq ?_
    rw [hx]
    exact if_pos ⟨hs, hp, hd⟩
  case timeout =>
    intro t a s u p hs hd
    exact State.atAxis_eq (if_pos ⟨hs, hd⟩)

end

section
/-! PROOF. Drives (O28): a command that passes its checks acts and is answered, and a supervision whose condition has come removes
torque. -/
namespace Sys2Proof.Machine

/-! The supervisions of a drive. -/

theorem State.now_dropWaiting (s : State) (p : Nat) : (s.dropWaiting p).now = s.now := now_of_core (trunk_dropWaiting s p)

/-- One candidate that agrees is the sensor set aside (R331). -/
theorem lowestBit_two_pow : ∀ k : Fin 3,
    lowestBit 3 0 (Fin.ofNat 8 (2 ^ k.val)).val = some k.val ∧ popCount 3 (Fin.ofNat 8 (2 ^ k.val)).val = 1 := by
  decide

/-- A current sum that fails while the drive is enabled, and exactly one candidate agrees (R331). -/
theorem execSenseFailure_one {t : Nat} {a : Fin 32} {s : State} (k : Fin 3) (h : (s.start t).pstate (axisPage a) = 3) :
    execSenseFailure t a (Fin.ofNat 8 (2 ^ k.val)) s =
      .next (((s.start t).senseOne (axisPage a) (k + 1)).settle (busOf (axisPage a))) := by
  obtain ⟨hlow, hone⟩ := lowestBit_two_pow k
  refine State.atAxis_eq ((if_neg (not_not_intro h)).trans ?_)
  rw [hlow]
  exact if_pos hone

/-- No candidate or more than one agrees: the sums tell no sensor (R331). -/
theorem execSenseFailure_unclear {t : Nat} {a : Fin 32} {s : State} {k : Fin 8} (h : (s.start t).pstate (axisPage a) = 3)
    (hk : popCount 3 k ≠ 1) :
    execSenseFailure t a k s = .next (((s.start t).removeTorque (axisPage a) 8 2).settle (busOf (axisPage a))) := by
  refine State.atAxis_eq ((if_neg (not_not_intro h)).trans ?_)
  split
  · exact if_neg hk
  · rfl

/-- A following error that has lasted FE_TIME_MS while no limit acts (R323). -/
theorem execFollowingError_due {t x : Nat} {a : Fin 32} {s : State} :
    let u := s.start t
    let p := axisPage a
    (u.axis p).feSince = some x → u.driveEnabled p = true → u.flag p Ax.DRV_STATUS_LIMITED = false →
    x + u.fld p Ax.FE_TIME_MS * 1000000 ≤ u.now →
    execFollowingError t a s = .next ((u.removeTorque p 8 4).settle (busOf p)) := by
  intro u p hx he hl hd
  refine State.atAxis_eq ?_
  rw [hx]
  exact if_pos ⟨he, by rw [hl]; rfl, hd⟩

end Sys2Proof.Machine

open Sys2Proof Sys2Proof.Machine

/-- Settles O28, row by row: a command that passes its checks acts and is answered, and a supervision whose condition has come removes
torque with its cause. -/
theorem driveRowsComplete : Obligations.DriveRowsComplete := by
  refine ⟨?enable, ?phaseTest, ?disable, ?faultReset, ?identify, ?identified, ?currentLoop, ?velocityLoop, ?overcurrent, ?sense,
    ?phaseOpen, ?overtemp, ?following, ?angle⟩
  case enable =>
    intro t q s u p ends hk h
    refine outcome_next (State.axisCommand_open hk (.inl rfl) h ?_)
    rw [State.now_dropWaiting]
    rfl
  case phaseTest =>
    intro t a o f s u p hp hd
    exact State.atAxis_eq (if_pos ⟨hp, hd⟩)
  case disable | faultReset =>
    intro t q s u p ends hk h
    exact outcome_next (State.axisCommand_done hk h rfl)
  case identify =>
    intro t r q s v u p ends hk h hr hp
    exact outcome_next (State.axisCommand_open hk hr h hp)
  case identified =>
    intro t a r s u p hp
    rfl
  case currentLoop | velocityLoop =>
    intros
    rfl
  case overcurrent =>
    intro t a s u p h
    exact State.atAxis_eq (if_pos h)
  case sense =>
    intro t a s u p h
    exact ⟨fun k => execSenseFailure_one k h, fun k => execSenseFailure_unclear h⟩
  case phaseOpen =>
    intro t a k s u p h
    exact State.atAxis_eq (if_pos h)
  case overtemp =>
    intro t a temp s u p v ht hs
    exact State.atAxis_eq (if_pos ⟨ht, hs⟩)
  case following => exact fun _ _ _ _ => execFollowingError_due
  case angle =>
    intro t a s u p he hl
    exact State.atAxis_eq (if_pos ⟨he, hl⟩)

end

section
/-! PROOF. The brake choppers and the ration (O29): the chopper's branches, and the words of a bus's ration. -/
namespace Sys2Proof.Machine

/-- The chopper's switch follows the bus voltage while its resistor's model is below 100 percent and it is not locked (R315). -/
theorem execBrakeChopper_unlocked {t mv : Nat} {b : Fin 2} {s : State} :
    let u := (s.start t).settleHeat b
    let v := u.setBus b { u.bus b with mv := mv }
    v.fld 0x0E Ra.BR_LOAD_BR_TEMP_PCT b < 100 → v.flag 0x0E Ra.BUS_STATUS_CHOPPER_LOCKED b = false →
    execBrakeChopper t b mv s =
      .next (if v.fld 0x0E Ra.BRAKE_V_BR_ON_V b * 1000 ≤ mv then v.setFld 0x0E Ra.BUS_STATUS_CHOPPER_ON 1 b
        else if mv ≤ v.fld 0x0E Ra.BRAKE_V_BR_OFF_V b * 1000 then v.setFld 0x0E Ra.BUS_STATUS_CHOPPER_ON 0 b
        else v) := by
  intro u v hh hl
  unfold execBrakeChopper
  simp only [← show u = (s.start t).settleHeat b from rfl, ← show v = u.setBus b { u.bus b with mv := mv } from rfl,
    if_neg (Nat.not_le.mpr hh), hl, Bool.false_eq_true, if_false]

/-- The power and current measured are shown, and the begin of a power above CAP_W is noted (R341, R346). -/
theorem execBusOverload_eq (t : Nat) (b : Fin 2) (watts amps : Int) (s : State) :
    execBusOverload t b watts amps s =
      let u := s.start t
      let v := (u.setSfld 0x0E Ra.BUS_P_P_IN_W (saturateSigned 16 watts) b).setSfld 0x0E Ra.BUS_P_I_IN_DA (saturateSigned 16 amps) b
      let v := v.setFld 0x0E Ra.PEAK_P_W (max (v.fld 0x0E Ra.PEAK_P_W b) (saturate 16 watts.toNat)) b
      let v := v.setBus b { v.bus b with
        overSince := if (v.fld 0x0E Ra.CAP_W b : Int) < watts then some ((v.bus b).overSince.getD v.now) else none }
      let long (k : Nat) : Bool := match (v.bus k).overSince with
        | some x => decide (x + 100000000 ≤ v.now)
        | none => false
      .next (v.level 0x0E 4 (long 0 || long 1) (b.val * 2 ^ 8)) := by
  simp only [execBusOverload, decide_eq_true_eq] <;> rfl

/-- The registers of a bus's ration are words of page 0x0E (R340). -/
theorem rationOff_aligned (b : Fin 2) (reg : Fin 5) :
    (0x400 + 0x80 * b.val + 4 * reg.val) % 4096 / 4 * 4 = 0x400 + 0x80 * b.val + 4 * reg.val := by
  omega

end Sys2Proof.Machine

open Sys2Proof Sys2Proof.Machine

/-- Settles O29, row by row: each row under its hypotheses takes the branch that carries it out. -/
theorem rationRowsComplete : Obligations.RationRowsComplete := by
  refine ⟨?chopper, ?chopperOvercurrent, ?regen, ?request, ?timeout, ?config, ?overload, ?countersClear⟩
  case chopper => exact fun _ _ _ _ => execBrakeChopper_unlocked
  case chopperOvercurrent | request | timeout =>
    intros
    rfl
  case regen =>
    intro t mv b s u v on axes w x ends
    refine ⟨fun hon => congrArg (fun y => Host.Outcome.next (ends y)) (if_pos hon), fun hoff => ?_⟩
    have below : ¬on + 4000 ≤ mv := by omega
    exact congrArg (fun y => Host.Outcome.next (ends y)) ((if_neg below).trans (if_pos hoff))
  case config =>
    intro t code gen b reg value s u w h
    exact outcome_next (State.write_done (w := w) (rationOff_aligned b reg) rfl h)
  case overload =>
    intro t watts amps b s u v v v long
    exact execBusOverload_eq t b watts amps s
  case countersClear =>
    intro t q s u h
    exact outcome_next (State.command_done h rfl)

end

section
/-! PROOF. The feedback of an axis (O32): probes, frames, edges and codes, each in the branch that its row's hypotheses choose. -/
namespace Sys2Proof.Machine

variable {s : State} {p : Nat}

/-! Probes (R351, R352). -/

/-- A probe that 60 ms later found no serial sensor: no length is adopted and no frame timing shown. -/
theorem State.probeDecision_noSerial {r : ProbeFound} :
    let v := ((s.setFld p Ax.FB_STATUS_DETECTED (foundType r)).fbUnref p).setFld p Ax.FB_STATUS_HALL_PRESENT
      (bool01 (foundType r == 1 && r.hall.isSome))
    let w := v.setFld p Ax.INPUTS_HALL_RAW (r.hall.getD (v.fld p Ax.INPUTS_HALL_RAW))
    s.fbState p = 1 → (s.axis p).fb.since + 60000000 ≤ s.now → foundType r < 3 →
    s.probeDecision p r =
      (if foundType r ≠ 0 ∧ (w.fld p Ax.FB_CFG_TYPE = 0 ∨ w.fld p Ax.FB_CFG_TYPE = foundType r) then w.arrive p r
        else w.setFbState p 2).completeAll (fun o => o.page == p && o.opc == 0x28) RC.done := by
  intro v w hs hd hr
  have due : ¬(s.fbState p ≠ 1 ∨ s.now < (s.axis p).fb.since + 60000000) := by omega
  have noLength : ¬foundType r = 4 := by omega
  have noFrame : ¬(foundType r = 3 ∨ foundType r = 4) := by omega
  unfold State.probeDecision
  simp only [if_neg due, if_neg noLength, if_neg noFrame, v, w]

/-! Serial frames (R359-R361). -/

/-- How a serial frame that has been started ends. -/
def State.frameEnds (s : State) (p : Nat) (w : SerialWord) : State :=
  let s := s.modFb p fun f => { f with framing := none }
  if !w.complete then s.badFrame p 4
  else if !s.frameChecks p w then s.badFrame p 5
  else if s.frameError p w then s.badFrame p 6
  else s.goodFrame p w

theorem State.serialFrame_started {x : Nat} {w : SerialWord} (hs : s.serial p = true) (hx : (s.axis p).fb.framing = some x)
    (hr : s.fbState p = 3 ∨ s.fbState p = 4) : s.serialFrame p w = s.frameEnds p w := by
  have started : ¬((!s.serial p) = true ∨ (s.axis p).fb.framing = none ∨ (s.fbState p ≠ 3 ∧ s.fbState p ≠ 4)) := by
    rcases hr with h | h <;> simp [hs, hx, h]
  exact if_neg started

/-! The edges of an incremental encoder and of Hall sensors (R353, R354, R356). -/

/-- A port that counts takes the levels of its lines, and judges what changed. -/
theorem State.quadEdge_counting {a b : Bool} :
    let f := (s.axis p).fb
    let v := s.modFb p fun f => { f with a := a, b := b }
    let recent := (f.quad.filter fun n => decide (v.now < n + 10000000)) ++ [v.now]
    let w := (v.bump p Ax.QUAD_ERRORS).modFb p fun f => { f with quad := recent, seen := v.now }
    s.fld p Ax.FB_STATUS_DETECTED = 1 → s.fbCounts p = true →
    s.quadEdge p a b =
      if a ≠ f.a ∧ b ≠ f.b then if w.fld p Ax.INC_CFG_QERR_MAX ≤ recent.length then w.fbFault p 2 else w
      else if a ≠ f.a then v.countEdge p (if a ≠ b then 1 else -1)
      else if b ≠ f.b then v.countEdge p (if a = b then 1 else -1)
      else v := by
  intro f v recent w hd hc
  have counts : ¬(s.fld p Ax.FB_STATUS_DETECTED ≠ 1 ∨ (!s.fbCounts p) = true) := by simp [hd, hc]
  exact if_neg counts

/-- What a Hall port that counts does with a code (R354): the sectors of the code before and of the new one decide. -/
theorem State.hallCode_counting {code : Nat} :
    let v := s.setFld p Ax.INPUTS_HALL_RAW code
    let w := v.modFb p fun f => { f with hall := code }
    v.fbCounts p = true → s.fld p Ax.FB_STATUS_DETECTED = 2 →
    s.hallCode p code =
      match w.hallSector p (v.axis p).fb.hall, w.hallSector p code with
      | _, none => w.hallError p
      | none, some _ => w
      | some i, some j =>
        if i = j then w else if j = (i + 1) % 6 then w.countEdge p 1
        else if i = (j + 1) % 6 then w.countEdge p (-1) else w.hallError p := by
  intro v w hc hd
  have counts : ¬((!v.fbCounts p) = true ∨ (!(2 == 2 || 2 == 1 && v.flag p Ax.FB_STATUS_HALL_PRESENT)) = true) := by simp [hc]
  unfold State.hallCode
  simp only [hd, ← show v = s.setFld p Ax.INPUTS_HALL_RAW code from rfl, if_neg counts, if_true]
  rfl

/-- An index pulse that no gate holds back, at a port whose position is valid and whose axis is not homing. -/
theorem State.indexPulse_noted :
    let v := (s.setSfld p Ax.INDEX_POS (s.position p)).bump p Ax.INDEX_COUNT
    s.fld p Ax.FB_STATUS_DETECTED = 1 → s.fbCounts p = true → s.flag p Ax.INC_CFG_INDEX_GATE = false →
    v.flag p Ax.FB_STATUS_COMM_VALID = true → v.mstate p ≠ 11 → s.indexPulse p = v := by
  intro v hd hc hg hv hm
  have taken : ¬(s.fld p Ax.FB_STATUS_DETECTED ≠ 1 ∨ (!s.fbCounts p) = true ∨
      (s.flag p Ax.INC_CFG_INDEX_GATE = true ∧ (!((s.axis p).fb.a && (s.axis p).fb.b)) = true)) := by
    simp [hd, hc, hg]
  unfold State.indexPulse
  simp only [if_neg taken, ← show v = (s.setSfld p Ax.INDEX_POS (s.position p)).bump p Ax.INDEX_COUNT from rfl, hv, if_true]
  exact if_neg fun h => hm h.1

end Sys2Proof.Machine

open Sys2Proof Sys2Proof.Machine

/-- Settles O32, row by row: each row under its hypotheses takes the branch that carries it out. -/
theorem feedbackRowsComplete : Obligations.FeedbackRowsComplete := by
  refine ⟨?probe, ?decision, ?retry, ?departed, ?serialEnd, ?serialStart, ?quad, ?hall, ?index, ?line, ?recover, ?trip, ?config,
    ?countersClear⟩
  case probe =>
    intro t q s u h
    exact outcome_next (State.command_open h rfl (.inl rfl))
  case decision =>
    intro t a r s u p v w hs hd hr
    exact outcome_next (State.probeDecision_noSerial hs hd hr)
  case retry =>
    intro t a s u p hs he hd
    exact outcome_next (if_pos ⟨hs, he, hd⟩)
  case departed =>
    intro t a s u p hs hc hd
    exact outcome_next (if_pos ⟨hs, by simpa using hc, hd⟩)
  case serialEnd =>
    intro t x a w s u p v hs hx hr
    have ends : exec (.serialFrame t a w) s = .next (u.frameEnds p w) := outcome_next (State.serialFrame_started hs hx hr)
    refine ⟨fun hw => ?incomplete, fun hw hc => ?crc, fun hw hc he => ?error, fun hw hc he => ?good⟩ <;> rw [ends]
    case incomplete => simp only [State.frameEnds, hw, Bool.not_false, if_true, v]
    case crc =>
      simp only [State.frameEnds, hw, ← show v = u.modFb p fun f => { f with framing := none } from rfl, hc, Bool.not_false,
        Bool.not_true, Bool.false_eq_true, if_false, if_true]
    case error | good =>
      simp only [State.frameEnds, hw, ← show v = u.modFb p fun f => { f with framing := none } from rfl, hc, he, Bool.not_true,
        Bool.false_eq_true, if_false, if_true]
  case serialStart =>
    intro t a s u p hs hr
    exact outcome_next (if_pos ⟨hs, hr⟩)
  case quad =>
    intro t a x y s u p f v hd hc
    have judged := State.quadEdge_counting (a := x) (b := y) hd hc
    refine ⟨fun hx hy => ?_, fun hx hy => ?_, fun hx hy => ?_⟩
    · exact congrArg _ (judged.trans ((if_neg fun h => h.2 hy).trans (if_pos hx)))
    · exact congrArg _ (judged.trans ((if_neg fun h => h.1 hx).trans ((if_neg (not_not_intro hx)).trans (if_pos hy))))
    · exact congrArg _ (judged.trans (if_pos ⟨hx, hy⟩))
  case hall =>
    intro t a code s u p v
    refine ⟨fun hc => ?_, fun hc hd hn => ?_, fun i j hc hd hi hj hne hadj => ?_⟩
    · exact outcome_next (if_pos (.inl (by rw [show (u.setFld p Ax.INPUTS_HALL_RAW code).fbCounts p = false from hc]; rfl)))
    · refine outcome_next ((State.hallCode_counting hc hd).trans ?_)
      rw [hn]
    · refine outcome_next ((State.hallCode_counting hc hd).trans ?_)
      rw [hi, hj]
      exact (if_neg hne).trans (if_pos hadj)
  case index =>
    intro t a s u p v hd hc hg hv hm
    exact outcome_next (State.indexPulse_noted hd hc hg hv hm)
  case line =>
    intro t a s u p hd hc
    exact outcome_next (if_pos ⟨hd, hc⟩)
  case recover =>
    intro t a s u p hs h1 h3 hd
    exact outcome_next ((if_pos ⟨hs, h1, h3, hd⟩).trans (if_neg (not_not_intro hs)))
  case trip =>
    intro t a s u p h
    exact outcome_next (if_neg h)
  case config =>
    intro t code gen a reg value s u p w h hf
    have aligned : w.off % 4096 / 4 * 4 = w.off := by
      simp only [w]
      omega
    exact outcome_next (State.writeWith_done (w := w) aligned (pageUsed_axisPage a) h fun _ => by rw [hf]; rfl)
  case countersClear =>
    intro t q s u h
    exact outcome_next (State.command_done h rfl)

end

section
/-! PROOF. The force model (O30): the words of an axis page that it is written through. -/
namespace Sys2Proof.Machine

/-- The bins of the force map's window are words of the axis page (R394). -/
theorem forceBin_aligned (j : Fin 128) (mass : Bool) :
    (0x600 + 0x10 * j.val + if mass then 8 else 0) % 4096 / 4 * 4 = 0x600 + 0x10 * j.val + if mass then 8 else 0 := by
  split <;> omega

/-- OBS_THRESH is a word of the axis page (R380). -/
theorem obsThresh_aligned : Ax.OBS_THRESH.off % 4096 / 4 * 4 = Ax.OBS_THRESH.off := rfl

end Sys2Proof.Machine

open Sys2Proof Sys2Proof.Machine

/-- Settles O30, row by row: a command that passes its checks acts and is answered DONE, and a write is stored and taken. -/
theorem forceModelRowsComplete : Obligations.ForceModelRowsComplete := by
  refine ⟨?lineFall, ?teach, ?rebase, ?clear, ?inject, ?mapWrite, ?threshold⟩
  case lineFall => exact fun _ _ _ => rfl
  case teach =>
    intro t q s u p v h hn
    exact outcome_next (State.command_done h (if_neg hn))
  case rebase | clear | inject =>
    intro t q s u p h
    exact outcome_next (State.command_done h rfl)
  case mapWrite =>
    intro t code gen a j mass value s u p w h ho
    exact outcome_next (State.writeWith_done (w := w) (forceBin_aligned j mass) (pageUsed_axisPage a) h fun _ => ho)
  case threshold =>
    intro t code gen a value s u p w v h
    exact outcome_next (State.write_done (w := w) obsThresh_aligned (pageUsed_axisPage a) h)

end

section
/-! PROOF. Safety edges and beams (O31): the times of an edge's bands, and the count of frames of a beam page, whose clearing may stand
before or after the clearing of what lies above it on the page. -/
namespace Sys2Proof.Machine

variable {s : State} {k : Nat}

/-! The safety edges (R386). -/

/-- An edge in IDLE or OFF whose LOW band has lasted its filter time. -/
theorem State.edgeActive_due (he : s.edgeOn k = true) (hs : s.edgeState k = 0 ∨ s.edgeState k = 1) (hb : (s.edge k).band = 0)
    (hd : s.edgeFilt k ≤ s.bandTime k) : s.edgeActive k = s.setEdge k 2 0 :=
  if_pos ⟨he, hs, hb, hd⟩

/-- An ACTIVE edge that is no pressure-wave edge, in its normal band for RELEASE_MS. -/
theorem State.edgeRelease_due (he : s.edgeOn k = true) (hs : s.edgeState k = 2) (hb : (s.edge k).band = 1)
    (ht : s.fld (edgePage k) Eg.EDGE_CFG_TYPE (k % 16) ≠ 2)
    (hd : s.fld (edgePage k) Eg.EDGE_TIMING_RELEASE_MS (k % 16) * 1000000 ≤ s.bandTime k) :
    s.edgeRelease k = s.setEdge k 1 0 := by
  have released : ¬((!s.edgeOn k) = true ∨ (s.edge k).band ≠ 1) := by simp [he, hb]
  unfold State.edgeRelease
  simp only [if_neg released, hs, if_neg ht, hd, decide_true, if_true, if_neg (by decide : ¬(2 = 0))]

theorem State.edgeFault_due {x : Nat} (hx : (s.edge k).badSince = some x) (he : s.edgeOn k = true) (hs : s.edgeState k ≠ 3)
    (hd : x + 10000000 ≤ s.now) : s.edgeFault k = s.setEdge k 3 ((s.edge k).band - 1) := by
  simp only [State.edgeFault, hx, if_pos (And.intro he (And.intro hs hd))]

/-- EDGE_CFG is a word of the edge's page (R399). -/
theorem edgeCfg_aligned (i : Nat) (h : i < 16) : Eg.EDGE_CFG_ENA.pos i % 4096 / 4 * 4 = Eg.EDGE_CFG_ENA.pos i := by
  simp only [Field.pos, Eg.EDGE_CFG_ENA]
  omega

theorem pageUsed_edgePage : ∀ k : Fin 32, pageUsed (edgePage k) = true := by decide

/-! The beams. -/

/-- A table without a key is the table with the other keys' entries. -/
theorem Sparse.erase_eq_filter {α : Type} (m : List (Nat × α)) (k : Nat) : Sparse.erase m k = m.filter fun e => decide (k ≠ e.1) := by
  induction m with
  | nil => rfl
  | cons e r ih =>
    rw [Sparse.erase, List.filter_cons, ih]
    by_cases h : k = e.1 <;> simp [h]

theorem Sparse.erase_erase_self {α : Type} (m : List (Nat × α)) (k : Nat) :
    Sparse.erase (Sparse.erase m k) k = Sparse.erase m k := by
  simp only [Sparse.erase_eq_filter, List.filter_filter, Bool.and_self]

theorem Sparse.erase_comm {α : Type} (m : List (Nat × α)) (j k : Nat) :
    Sparse.erase (Sparse.erase m j) k = Sparse.erase (Sparse.erase m k) j := by
  simp only [Sparse.erase_eq_filter, List.filter_filter, Bool.and_comm]

/-- A key below another one is dropped before or after the other one is listed. -/
theorem Sparse.erase_insert_of_lt {α : Type} (m : List (Nat × α)) {j k : Nat} (h : j < k) (v : α) :
    Sparse.erase (Sparse.insert m k v) j = Sparse.insert (Sparse.erase m j) k v := by
  induction m with
  | nil => simp [Sparse.insert, Sparse.erase, Nat.ne_of_lt h]
  | cons e r ih =>
    simp only [Sparse.insert, Sparse.erase]
    grind [Sparse.insert, Sparse.erase]

/-- A key below another one is dropped before or after the other one is written. -/
theorem Sparse.erase_set_of_lt {α : Type} [DecidableEq α] {d : Nat → α} {m : List (Nat × α)} {j k : Nat} (h : j < k) (v : α) :
    Sparse.set d (Sparse.erase m j) k v = Sparse.erase (Sparse.set d m k v) j := by
  unfold Sparse.set
  split
  · exact Sparse.erase_comm m j k
  · exact (Sparse.erase_insert_of_lt m h v).symm

/-- A register at a lower offset of a page has the lower key. -/
theorem Reg.key_lt {p a b : Nat} (h : a < b) : Reg.key p a 0 < Reg.key p b 0 := by
  unfold Reg.key
  omega

/-- The FRAMES count of a beam page cleared (R397). -/
def State.clearFrames (s : State) (p : Nat) : State := s.setFld p Bm.FRAMES 0

/-- The counts of a beam cleared (R397). -/
def State.clearBeam (s : State) (p i : Nat) : State :=
  ((s.setFld p Bm.BLOCK_COUNT 0 i).setFld p Bm.INDET_COUNT 0 i).setFld p Bm.FALLBACK_COUNT 0 i

/-- FRAMES is 0 at reset (R6). -/
theorem reset_frames {p : Nat} (h : pageKind p = .beamGroup) : Reg.reset (Reg.key p 0x104 0) = 0 :=
  (by decide +kernel : ∀ p < 0x80, pageKind p = .beamGroup → Reg.reset (Reg.key p 0x104 0) = 0) p
    (lt_of_pageUsed (by rw [pageUsed, h]; rfl)) h

/-- A word of 0 bits written over a whole register. -/
theorem putBits_whole_zero (w : Word) : putBits w 31 0 0 = 0 := by
  simp [putBits, Nat.div_eq_of_lt w.isLt, Nat.mod_one]

section
variable (hp : Reg.reset (Reg.key p 0x104 0) = 0)
include hp

/-- Clearing FRAMES gives it its reset value. -/
theorem State.clearFrames_eq (s : State) :
    s.clearFrames p = { s with regs := Sparse.erase s.regs (Reg.key p 0x104 0) } := by
  have cleared : s.clearFrames p = s.setReg p 0x104 (putBits (s.reg p 0x104) 31 0 0) := rfl
  rw [cleared, putBits_whole_zero, State.setReg, Sparse.set, if_pos hp.symm]

theorem State.clearFrames_clearFrames (s : State) : (s.clearFrames p).clearFrames p = s.clearFrames p := by
  simp only [State.clearFrames_eq hp, Sparse.erase_erase_self]

/-- A field above FRAMES is written before or after FRAMES is cleared. -/
theorem State.setFld_clearFrames (s : State) {f : Field} {v i : Nat} (h : 0x104 < f.off) :
    (s.clearFrames p).setFld p f v i = (s.setFld p f v i).clearFrames p := by
  have above : f.off ≤ f.pos i := (Nat.le_add_right _ _).trans (Nat.le_add_right _ _)
  have below : Reg.key p 0x104 0 < Reg.key p (f.pos i) 0 := Reg.key_lt (h.trans_le above)
  have read : (s.clearFrames p).reg p (f.pos i) = s.reg p (f.pos i) :=
    (State.reg_setReg s p 0x104 p (f.pos i) 0 0 _).trans (if_neg (Nat.ne_of_gt below))
  simp only [State.setFld, read]
  simp only [State.clearFrames_eq hp, State.setReg, Sparse.erase_set_of_lt below]

theorem State.clearBeam_clearFrames (s : State) (i : Nat) : (s.clearFrames p).clearBeam p i = (s.clearBeam p i).clearFrames p := by
  unfold State.clearBeam
  rw [State.setFld_clearFrames hp s (by decide), State.setFld_clearFrames hp _ (by decide),
    State.setFld_clearFrames hp _ (by decide)]

/-- FRAMES cleared with each beam is FRAMES cleared once. -/
theorem State.foldl_clearFrames (is : List Nat) (s : State) :
    is.foldl (fun v i => (v.clearBeam p i).clearFrames p) (s.clearFrames p) =
      (is.foldl (fun v i => v.clearBeam p i) s).clearFrames p := by
  induction is generalizing s with
  | nil => rfl
  | cons i is ih =>
    rw [List.foldl_cons, List.foldl_cons, State.clearBeam_clearFrames hp, State.clearFrames_clearFrames hp]
    exact ih _

/-- COUNTERS_CLEAR of a beam page (R397). -/
theorem State.each_clearBeam (s : State) :
    (s.each (List.range 8) fun v i => (v.clearBeam p i).clearFrames p) =
      (s.each (List.range 8) fun v i => v.clearBeam p i).clearFrames p := by
  unfold State.each
  have beams : List.range 8 = 0 :: [1, 2, 3, 4, 5, 6, 7] := rfl
  simp only [beams, List.foldl_cons (l := [1, 2, 3, 4, 5, 6, 7])]
  exact State.foldl_clearFrames hp _ _

end

/-- A command that passes its checks is written to a page that defines it (R50). -/
theorem State.kinds_of_verdict {s : State} {q : Req} {c : Cmd} (h : s.verdict q c = 0) : c.kinds (pageKind q.page) = true := by
  by_contra hk
  simp only [State.verdict, Bool.eq_false_iff.mpr hk, Bool.not_false, if_true] at h
  repeat' split at h
  all_goals exact absurd h (by decide)

theorem pageUsed_beamPage : ∀ k : Fin 32, pageUsed (beamPage k) = true := by decide

/-- BEAM_CFG is a word of the beam's page (R396). -/
theorem beamCfg_aligned (i : Nat) (h : i < 8) : Bm.BEAM_CFG_ENA.pos i % 4096 / 4 * 4 = Bm.BEAM_CFG_ENA.pos i := by
  simp only [Field.pos, Bm.BEAM_CFG_ENA]
  omega

/-- A flood that has lasted FB_TIME at a beam that falls back (R392). -/
theorem execBeamFallback_due {t : Nat} {k : Fin 32} {s : State} :
    let u := s.start t
    let p := beamPage k
    let i := k.val % 8
    u.beamState k = 3 → u.flag p Bm.BEAM_FLOOD_FB_ENA i = true → u.flag p Bm.BEAM_STATUS_FALLBACK i = false →
    u.fld p Bm.BEAM_FLOOD_FB_TIME i * 100000000 ≤ u.now - (u.beam k).floodAt →
    execBeamFallback t k s =
      .next ((((u.setFld p Bm.BEAM_STATUS_FALLBACK 1 i).bump p Bm.FALLBACK_COUNT i).beamLevels k).beamLines k) := by
  intro u p i hs he hf hd
  have due : (u.beamState k == 3 && u.flag p Bm.BEAM_FLOOD_FB_ENA i && !u.flag p Bm.BEAM_STATUS_FALLBACK i
      && decide (u.fld p Bm.BEAM_FLOOD_FB_TIME i * 100000000 ≤ u.now - (u.beam k).floodAt)) = true := by
    simp [hs, he, hf, hd]
  exact outcome_next (if_pos due)

end Sys2Proof.Machine

open Sys2Proof Sys2Proof.Machine

/-- Settles O31, row by row: each row under its hypotheses takes the branch that carries it out. -/
theorem edgesAndBeamsComplete : Obligations.EdgesAndBeamsComplete := by
  refine ⟨?measure, ?active, ?release, ?fault, ?recover, ?edgeConfig, ?edgeClear, ?frame, ?fallback, ?beamConfig, ?dark, ?darkDone,
    ?beamClear⟩
  case measure => exact fun _ _ _ _ => rfl
  case active =>
    intro t k s u he hs hb hd
    exact outcome_next (State.edgeActive_due he hs hb hd)
  case release =>
    intro t k s u he hs hb ht hd
    exact outcome_next (State.edgeRelease_due he hs hb ht hd)
  case fault =>
    intro t x k s u hx he hs hd
    exact outcome_next (State.edgeFault_due hx he hs hd)
  case recover =>
    intro t k s u hs hb hd
    exact outcome_next (if_pos ⟨hs, hb, hd⟩)
  case edgeConfig =>
    intro t code gen k value s u w h
    exact outcome_next (State.write_done (w := w) (edgeCfg_aligned _ (Nat.mod_lt _ (by decide))) (pageUsed_edgePage k) h)
  case frame =>
    intro t g fs s u h
    exact outcome_next (if_neg (not_not_intro h))
  case fallback => exact fun _ _ _ => execBeamFallback_due
  case beamConfig =>
    intro t code gen k value s u w h
    exact outcome_next (State.write_done (w := w) (beamCfg_aligned _ (Nat.mod_lt _ (by decide))) (pageUsed_beamPage k) h)
  case dark =>
    intro t q s u k h
    exact outcome_next (State.command_open h rfl (.inl rfl))
  case darkDone => exact fun _ _ _ => rfl
  case edgeClear =>
    intro t q s u h
    exact outcome_next (State.command_done h rfl)
  case beamClear =>
    intro t q s u p h
    have cleared := State.each_clearBeam (reset_frames (beq_iff_eq.mp (State.kinds_of_verdict h))) u
    exact outcome_next (State.command_done h (congrArg (·, RC.done) cleared))

end

section
/-! PROOF. The banks of field inputs and outputs (O33): a burst that is good, the faults and times of a bank, and the words of its page. -/
namespace Sys2Proof.Machine

variable {s : State} {p : Nat}

/-! The link between a bank's logic and its front end (R403-R406). -/

/-- A burst of the front end with a good CRC and the sequence number that is due. -/
theorem State.frontEndBurst_good {n : Fin 2} {r : FeBurst} :
    let u := s.feMeasure p n r
    let x := u.burst p n
    let good := if x.faulty then x.good + 1 else 0
    let v := u.setBurst p n { x with
      seq := some (r.seq % 256), misses := 0, good := good, faulty := x.faulty && decide (good < 4) }
    r.crc = linkCrc (u.feBytes p n r) → x.seq.all (fun e => r.seq % 256 == (e + 1) % 256) = true →
    s.frontEndBurst p n r =
      (if n = 1 then ((v.showStatus p r).showRecords p n).countRefresh p else v.showRecords p n).bankStart p := by
  intro u x good v hc hs
  unfold State.frontEndBurst
  simp only [← show u = s.feMeasure p n r from rfl, ← show x = u.burst p n from rfl, ← hc, beq_self_eq_true, Bool.true_and]
  rw [if_neg]
  case hnc =>
    cases h : x.seq with
    | none => simp
    | some e => simpa [h] using hs
  have last : n.val = 1 ↔ n = 1 := by omega
  by_cases hn : n = 1
  · simp only [last, if_pos hn, v, good]
  · simp only [last, if_neg hn, v, good]

/-- An output burst with a good CRC and the sequence number that is due, at the front end. -/
theorem State.stageBurst_good {n : Fin 2} {seq index word crc : Nat} :
    let x := s.burst p n
    let v := (s.setBurst p n { x with feSeq := some (seq % 256) }).modBank p fun b => { b with feGoodAt := s.now }
    let w := if n = 0 then v.takeFlags p
      else match (v.bank p).dirty with
        | [] => v
        | k :: rest => (v.modBank p fun b => { b with dirty := rest }).takeMode p k
    crc = linkCrc (s.stageBytes p n seq index word) → x.feSeq.all (fun e => seq % 256 == (e + 1) % 256) = true →
    s.stageBurst p n seq index word crc = ((w.each (burstChans n) fun v k => v.takeBit p k).driveBank p).bankStart p := by
  intro x v w hc hs
  unfold State.stageBurst
  simp only [← show x = s.burst p n from rfl, ← hc, beq_self_eq_true, Bool.true_and]
  rw [if_neg]
  case hnc =>
    cases h : x.feSeq with
    | none => simp
    | some e => simpa [h] using hs
  have first : n.val = 0 ↔ n = 0 := by omega
  simp only [first]
  rfl

/-! The faults and times of a bank. -/

/-- The channel with the highest current of a bank above 4 A is overloaded (R413). -/
theorem execBankOverload_over {t k : Nat} {b : Fin 16} {cur : List Nat} {s : State} :
    let p := 0x30 + b.val
    let v := ((List.range 16).zip cur).foldl (fun v x => v.setCh p x.1 { v.ch p x.1 with cur := x.2 }) (s.start t)
    v.highest p 16 = some k → 4000 < v.bankCurrent p →
    execBankOverload t b cur s = .next ((((v.chFault p k 8).driveCh p k).bump p Bk.BANK_OVL_COUNT).raise p 6 k) := by
  intro p v hk ho
  unfold execBankOverload
  simp only [← show p = 0x30 + b.val from rfl,
    ← show v = ((List.range 16).zip cur).foldl (fun v x => v.setCh p x.1 { v.ch p x.1 with cur := x.2 }) (s.start t) from rfl,
    hk, if_pos ho]

/-- A pulse whose end has come (R415). -/
theorem execOutPulseEnd_due {t x : Nat} {b k : Fin 16} {s : State} :
    let u := s.start t
    let p := 0x30 + b.val
    (u.ch p k).pulseEnd = some x → x ≤ u.now →
    execOutPulseEnd t b k s = .next ((u.setCh p k { u.ch p k with value := false, pulseEnd := none }).driveCh p k) := by
  intro u p hx hd
  simp only [execOutPulseEnd, ← show u = s.start t from rfl, ← show p = 0x30 + b.val from rfl, hx, if_pos hd]

/-- LS_TIMEOUT without an owner refresh makes a running bank safe (R417). -/
theorem execLogicSilence_due {t x : Nat} {b : Fin 16} {s : State} :
    let u := s.start t
    let p := 0x30 + b.val
    let v := u.setFld p Bk.SAFE_STATUS_LOGIC_SILENT 1
    (u.bank p).ownerAt = some x → x + u.fld p Bk.LS_TIMEOUT * 1000 ≤ u.now → v.pstate p = 1 →
    execLogicSilence t b s = .next ((v.setBankState p 2).showSafe p) := by
  intro u p v hx hd hp
  simp only [execLogicSilence, ← show u = s.start t from rfl, ← show p = 0x30 + b.val from rfl, hx, if_pos hd,
    ← show v = u.setFld p Bk.SAFE_STATUS_LOGIC_SILENT 1 from rfl, if_pos hp]

theorem pageUsed_bankPage : ∀ b : Fin 16, pageUsed (0x30 + b.val) = true := by decide

/-- OUT_SET is a word of the bank's page (R415). -/
theorem outSet_aligned : Bk.OUT_SET.off % 4096 / 4 * 4 = Bk.OUT_SET.off := rfl

/-- CH_CFG is a word of the bank's page (R418). -/
theorem chCfg_aligned (k : Fin 16) : Bk.CH_CFG_MODE.pos k % 4096 / 4 * 4 = Bk.CH_CFG_MODE.pos k := by
  simp only [Field.pos, Bk.CH_CFG_MODE]
  omega

end Sys2Proof.Machine

open Sys2Proof Sys2Proof.Machine

/-- Settles O33, row by row: each row under its hypotheses takes the branch that carries it out. -/
theorem fieldIoRowsComplete : Obligations.FieldIoRowsComplete := by
  refine ⟨?frontEnd, ?stage, ?missed, ?silence, ?samples, ?monitored, ?recover, ?overload, ?openLoad, ?overtemp, ?bankOverload,
    ?backfeed, ?retry, ?outSet, ?pulseEnd, ?logicSilence, ?config, ?faultClear, ?countersClear⟩
  case frontEnd =>
    intro t b n r s p u x good v hc hs
    exact outcome_next (State.frontEndBurst_good hc hs)
  case stage =>
    intro t seq index word crc b n s u p x v w hc hs
    exact outcome_next (State.stageBurst_good hc hs)
  case missed | samples =>
    intros
    rfl
  case silence =>
    intro t b s u p hd hs
    exact outcome_next (if_pos ⟨hd, by rw [hs]; rfl⟩)
  case monitored =>
    intro t b k runs s p u hm hc hd
    exact outcome_next (if_pos ⟨hm, hc, hd⟩)
  case recover =>
    intro t b k runs s p u hm h2 h4 hd
    exact outcome_next (if_pos ⟨hm, h2, h4, hd⟩)
  case overload =>
    intro t b k x s u p hm hc ho
    exact outcome_next (if_pos ⟨hm, hc, ho⟩)
  case openLoad =>
    intro t ma b k s u p hm hc ho
    exact outcome_next (if_pos ⟨hm, hc, ho⟩)
  case overtemp =>
    intro t temp b k s u p v hm ht
    exact outcome_next (if_pos ⟨hm, ht⟩)
  case bankOverload => exact fun _ _ _ _ _ => execBankOverload_over
  case backfeed =>
    intro t b k s u p c hm hc hs hd
    exact outcome_next (if_pos ⟨hm, by rw [hc]; rfl, hs, hd⟩)
  case retry =>
    intro t temp b k s u p v ms hm hb hd
    exact outcome_next (if_pos ⟨hm, hb, hd⟩)
  case outSet =>
    intro t code gen b value s u p w v h
    exact outcome_next (State.write_done (w := w) outSet_aligned (pageUsed_bankPage b) h)
  case pulseEnd => exact fun _ _ _ _ _ => execOutPulseEnd_due
  case logicSilence => exact fun _ _ _ _ => execLogicSilence_due
  case config =>
    intro t code gen b k value s u p w h
    exact outcome_next (State.write_done (w := w) (chCfg_aligned k) (pageUsed_bankPage b) h)
  case faultClear =>
    intro t q s u h
    exact outcome_next (State.command_done h rfl)
  case countersClear =>
    intro t q s u v h
    exact outcome_next (State.command_done h rfl)

end

section
/-! PROOF. The load switches (O34): a channel's shutdown, its cooling and the energy of its switch-offs, and the words of its group's
page. -/
namespace Sys2Proof.Machine

variable {s : State} {p k : Nat}

/-! The load switches. -/

/-- A switch that is on and reaches its shutdown temperature (R427-R429). -/
theorem State.thermalShutdown_on :
    let u := s.driveLs p k false
    let c := u.ls p k
    let again := c.inrushEnd.isSome && decide (c.restarts < u.fld p Ls.CH_CFG_INRUSH_N k)
    c.line = true →
    s.thermalShutdown p k =
      (((u.setLs p k { c with
        thermal := true, line := false, pending := again, latched := !again && u.flag p Ls.CH_CFG_RESTART k }).bump p
          Ls.CH_COUNTS_SHUTDOWNS k).lsFault p k 1).showGroup p := by
  intro u c again h
  exact if_neg (by rw [show ((s.driveLs p k false).ls p k).line = true from h]; decide)

/-- A channel that has cooled, and no restart waits (R428, R429). -/
theorem State.thermalCooled_idle (ht : (s.ls p k).thermal = true) (hp : (s.ls p k).pending = false) :
    s.thermalCooled p k = ((s.setLs p k { s.ls p k with thermal := false }).driveLs p k false).showGroup p := by
  simp only [State.thermalCooled, ht, hp, bool01, Bool.not_true, Bool.false_and, Bool.false_eq_true, if_false, Nat.add_zero]

/-- The inrush window of a channel whose end has come (R429). -/
theorem execInrushWindowEnd_due {t x : Nat} {g k : Fin 8} {s : State} :
    let u := s.start t
    let p := 0x40 + g.val
    (u.ls p k).inrushEnd = some x → x ≤ u.now →
    execInrushWindowEnd t g k s = .next ((u.setLs p k { u.ls p k with inrushEnd := none }).showGroup p) := by
  intro u p hx hd
  simp only [execInrushWindowEnd, ← show u = s.start t from rfl, ← show p = 0x40 + g.val from rfl, hx, if_pos hd]

/-- The energy of a switch-off that is not too much, with a sum below 3 J (R430; log 68). -/
theorem State.clampEnd_admitted {us : Nat} :
    let ma := if s.flag p Ls.SENSE_STATUS_FAULT then 10000 else s.fld p Ls.CH_I_I_ON k
    let e := (24 * ma * us + 500000) / 1000000
    let v := s.driveLs p k false
    let c := v.ls p k
    let w := v.setLs p k { c with
      sums := (c.sums.filter fun x => decide (v.now < x.1 + 10000000000)) ++ [(v.now - us * 1000, e)] }
    let x := ((w.setFld p Ls.CH_CLAMP_LAST_MJ (saturate 16 e) k).showSum p k).bump p Ls.SWITCH_OFFS k
    24 * ma * us ≤ 150000000 → x.fld p Ls.CH_CLAMP_SUM_MJ k < 3000 → s.clampEnd p k us = x.showGroup p := by
  intro ma e v c w x hm hs
  have little : decide (150000000 < 24 * ma * us) = false := decide_eq_false (Nat.not_lt.mpr hm)
  have stays : ¬((!c.locked) = true ∧ (false = true ∨ 3000 ≤ x.fld p Ls.CH_CLAMP_SUM_MJ k)) := by
    rintro ⟨-, h | h⟩
    · cases h
    · omega
  unfold State.clampEnd
  simp only [← show ma = if s.flag p Ls.SENSE_STATUS_FAULT then 10000 else s.fld p Ls.CH_I_I_ON k from rfl, little,
    Bool.false_eq_true, if_false]
  exact if_neg (by simpa only [Bool.false_eq_true] using stays)

/-- The reading of a channel other than the last of the round, whose line was high when the conversion began (R432). -/
theorem State.senseSlot_high {ma : Nat} :
    let u := s.driveLs p k false
    let v := (u.setFld p Ls.CH_I_I_LAST (min ma 12000) k).setFld p Ls.CH_I_I_ON (min ma 12000) k
    let c := u.ls p k
    (if c.lineAt + 8000 ≤ u.now then c.line else !c.line) = true → k ≠ 7 →
    s.senseSlot p k ma = v.setFld p Ls.GRP_I (((List.range 8).map fun i => v.fld p Ls.CH_I_I_LAST i).sum) := by
  intro u v c hh hk
  unfold State.senseSlot
  simp only [← show u = s.driveLs p k false from rfl, ← show c = u.ls p k from rfl, hh, if_true, Bool.not_true, Bool.false_and,
    Bool.false_eq_true, if_false, if_neg hk, v]

theorem pageUsed_groupPage : ∀ g : Fin 8, pageUsed (0x40 + g.val) = true := by decide

/-- LS_CMD is a word of the group's page (R426). -/
theorem lsCmd_aligned : Ls.LS_CMD_0.off % 4096 / 4 * 4 = Ls.LS_CMD_0.off := rfl

/-- CH_PWM is a word of the group's page (R426). -/
theorem chPwm_aligned (k : Fin 8) : Ls.CH_PWM_DUTY.pos k % 4096 / 4 * 4 = Ls.CH_PWM_DUTY.pos k := by
  simp only [Field.pos, Ls.CH_PWM_DUTY]
  omega

end Sys2Proof.Machine

open Sys2Proof Sys2Proof.Machine

/-- Settles O34, row by row: each row under its hypotheses takes the branch that carries it out. -/
theorem loadSwitchRowsComplete : Obligations.LoadSwitchRowsComplete := by
  refine ⟨?command, ?pwm, ?shutdown, ?cooled, ?inrush, ?clamp, ?expiry, ?slot, ?faultClear, ?countersClear⟩
  case command =>
    intro t code gen g value s u p w v h
    exact outcome_next (State.write_done (w := w) lsCmd_aligned (pageUsed_groupPage g) h)
  case pwm =>
    intro t code gen g k value s p u w v h
    exact outcome_next (State.write_done (w := w) (chPwm_aligned k) (pageUsed_groupPage g) h)
  case shutdown =>
    intro t g k s p u c again h
    exact outcome_next (State.thermalShutdown_on h)
  case cooled =>
    intro t g k s u p c ht hp
    exact outcome_next (State.thermalCooled_idle ht hp)
  case inrush => exact fun _ _ _ _ _ => execInrushWindowEnd_due
  case clamp =>
    intro t us g k s u p ma e v c w x hm hs
    exact outcome_next (State.clampEnd_admitted hm hs)
  case expiry => exact fun _ _ _ _ => rfl
  case slot =>
    intro t ma g k s p u v c hh hk
    exact outcome_next (State.senseSlot_high hh fun h => hk (Fin.ext h))
  case faultClear =>
    intro t q s u p v h
    exact outcome_next (State.command_done h rfl)
  case countersClear =>
    intro t q s u p h
    exact outcome_next (State.command_done h rfl)

end

section
/-! PROOF. The Kerb supervisor (O35): the silence of the lanes, and the words of the map. -/
namespace Sys2Proof.Machine

/-- Lanes that have been silent for TIMEOUT_MS (R436). -/
theorem execKerbSilenceTimeout_due {t d : Nat} {s : State} :
    let u := s.start t
    u.silentFor = some d → u.fld 0x48 Kb.KERB_CFG_TIMEOUT_MS * 1000000 ≤ d → u.flag 0x48 Kb.KERB_STATUS_BY_SILENCE = false →
    execKerbSilenceTimeout t s = .next (u.setKerb (u.flag 0x48 Kb.KERB_STATUS_BY_PIN) true) := by
  intro u hd ht hs
  simp only [execKerbSilenceTimeout, ← show u = s.start t from rfl, hd, ht, hs, Bool.not_false, and_self, if_true]

/-- The words of the kerb map are words of page 0x48 (R440). -/
theorem kmap_aligned (i : Fin 8) (j : Fin 4) :
    (0x400 + 0x40 * i.val + 4 * j.val) % 4096 / 4 * 4 = 0x400 + 0x40 * i.val + 4 * j.val := by
  omega

end Sys2Proof.Machine

open Sys2Proof Sys2Proof.Machine

/-- Settles O35, row by row: each row under its hypotheses takes the branch that carries it out. -/
theorem kerbRowsComplete : Obligations.KerbRowsComplete := by
  refine ⟨?ken, ?kin, ?silence, ?silenceEnd, ?map, ?countersClear⟩
  case ken =>
    intro t high s u h
    exact outcome_next (if_neg (Bool.not_not_eq.mpr h))
  case kin =>
    intro t k high s u old h hn
    exact outcome_next (if_neg (not_or.mpr ⟨Bool.not_not_eq.mpr h, hn⟩))
  case silence => exact fun _ _ _ => execKerbSilenceTimeout_due
  case silenceEnd =>
    intro t s u long hs hl
    exact outcome_next (if_pos ⟨hs, (Bool.or_eq_true _ _).mp hl⟩)
  case map =>
    intro t code gen i j value s u w h hl
    have provisioning : (u.lifeCycle == 1) = true := beq_iff_eq.mpr hl
    exact outcome_next (State.writeWith_done (w := w) (kmap_aligned i j) rfl h fun _ => provisioning)
  case countersClear =>
    intro t q s u h
    exact outcome_next (State.command_done h rfl)

end

section
/-! PROOF. The current loops (O36): the samples of a pair, the causes and their times, the transmitters, and the words of a loop page. -/
namespace Sys2Proof.Machine

variable {s : State} {p k : Nat}

/-! Samples (R449-R458). -/

/-- Both voltages of a pair that stays in mode 3. -/
theorem execVoltageSample_pair {t : Nat} {g j : Fin 4} {ab bc : Int} {s : State} :
    let u := s.start t
    let p := 0x4C + g.val
    let k := 2 * j.val
    let v := (u.voltSample p k ab).trackCauses p k fun c => c == 6 && decide (10500 < ab.natAbs)
    let w := (v.voltSample p (k + 1) bc).trackCauses p (k + 1) fun c => c == 6 && decide (10500 < bc.natAbs)
    u.loopMode p k = 3 → v.loopMode p (k + 1) = 3 → w.loopMode p k = 3 → w.loopMode p (k + 1) = 3 →
    execVoltageSample t g j ab bc s = .next ((w.pairPhase p k ab bc).showPair p k) := by
  intro u p k v w hu hv hk hk'
  unfold execVoltageSample
  simp only [← show u = s.start t from rfl, ← show p = 0x4C + g.val from rfl, ← show k = 2 * j.val from rfl, if_pos hu,
    ← show v = (u.voltSample p k ab).trackCauses p k fun c => c == 6 && decide (10500 < ab.natAbs) from rfl, if_pos hv,
    ← show w = (v.voltSample p (k + 1) bc).trackCauses p (k + 1) fun c => c == 6 && decide (10500 < bc.natAbs) from rfl, hk, hk',
    and_self, if_true]

/-! Causes (R454). -/

/-- Whether the condition of a cause has stood for its time. -/
def State.causeDue (s : State) (p k c : Nat) : Bool :=
  match (s.loop p k).held.rd none c with
  | some x => decide (x + s.causeTime p k c ≤ s.now)
  | none => false

theorem State.causeDue_of_held {c x : Nat} (hx : (s.loop p k).held.rd none c = some x) (hd : x + s.causeTime p k c ≤ s.now) :
    s.causeDue p k c = true := by
  simp only [State.causeDue, hx, hd, decide_true]

theorem State.not_causeDue {c : Nat} (h : (s.loop p k).held.rd none c = none) : s.causeDue p k c = false := by
  simp only [State.causeDue, h]

/-- Of a list without repetitions, a predicate of one member alone keeps that member. -/
theorem filter_eq_singleton {α : Type} [DecidableEq α] {xs : List α} {c : α} {f : α → Bool} (hn : xs.Nodup) (hc : c ∈ xs)
    (hf : f c = true) (ho : ∀ d ∈ xs, d ≠ c → f d = false) : xs.filter f = [c] := by
  have same : xs.filter f = xs.filter (· == c) := List.filter_congr fun d hd => by
    by_cases h : d = c
    · simp [h, hf]
    · simp [h, ho d hd h]
  rw [same, List.filter_beq, List.count_eq_one_of_mem hn hc]
  rfl

/-- The only cause whose condition is held, once it has stood for its time, is entered. -/
theorem execLoopFault_one {t c x : Nat} {g : Fin 4} {k : Fin 8} {s : State} :
    let u := s.start t
    let p := 0x4C + g.val
    c ∈ [1, 2, 3, 4, 6] → (u.loop p k).held.rd none c = some x → x + u.causeTime p k c ≤ u.now →
    ([1, 2, 3, 4, 6].all fun d => d == c || (u.loop p k).held.rd none d == none) = true →
    execLoopFault t g k s = .next (u.enterCause p k c) := by
  intro u p hc hx hd ho
  have other : ∀ d ∈ [1, 2, 3, 4, 6], d ≠ c → u.causeDue p k d = false := fun d hm hn => by
    have h := List.all_eq_true.mp ho d hm
    rw [Bool.or_eq_true, beq_iff_eq, beq_iff_eq] at h
    exact State.not_causeDue (h.resolve_left hn)
  have one : [1, 2, 3, 4, 6].filter (u.causeDue p k) = [c] :=
    filter_eq_singleton (by decide) hc (State.causeDue_of_held hx hd) other
  exact congrArg (fun cs => Host.Outcome.next (cs.foldl (fun v c => v.enterCause p k c) u)) one

/-- A cause that has been gone for 10 ms ends, and that of the temperature stands again while the channel is off. -/
theorem execLoopFaultEnd_due {t x : Nat} {g : Fin 4} {k : Fin 8} {s : State} :
    let u := s.start t
    let p := 0x4C + g.val
    (u.loop p k).gone = some x → u.loopCause p k ≠ 0 → u.loopCause p k ≠ 5 → x + 10000000 ≤ u.now →
    execLoopFaultEnd t g k s =
      .next (if (u.loop p k).off then (u.endCause p k).enterCause p k 5 else u.endCause p k) := by
  intro u p hx h0 h5 hd
  simp only [execLoopFaultEnd, ← show u = s.start t from rfl, ← show p = 0x4C + g.val from rfl, hx,
    if_pos (And.intro h0 (And.intro h5 hd))]

/-! The transmitters (R457). -/

theorem execTransmitterArrived_due {t x : Nat} {g : Fin 4} {k : Fin 8} {s : State} :
    let u := s.start t
    let p := 0x4C + g.val
    (u.loop p k).okAt = some x → u.loopMode p k = 1 → u.flag p Lp.LP_STATUS_PRESENT k = false → x + 100000000 ≤ u.now →
    execTransmitterArrived t g k s = .next (u.setPresent p k true) := by
  intro u p hx hm hf hd
  simp only [execTransmitterArrived, ← show u = s.start t from rfl, ← show p = 0x4C + g.val from rfl, hx, hm, hf, hd,
    Bool.not_false, and_self, if_true]

theorem execTransmitterDeparted_due {t x : Nat} {g : Fin 4} {k : Fin 8} {s : State} :
    let u := s.start t
    let p := 0x4C + g.val
    (u.loop p k).lowAt = some x → u.loopMode p k = 1 → u.flag p Lp.LP_STATUS_PRESENT k = true → x + 1000000000 ≤ u.now →
    execTransmitterDeparted t g k s = .next (u.setPresent p k false) := by
  intro u p hx hm hf hd
  simp only [execTransmitterDeparted, ← show u = s.start t from rfl, ← show p = 0x4C + g.val from rfl, hx, hm, hf, hd,
    and_self, if_true]

/-! The words of a loop page. -/

theorem pageUsed_loopPage : ∀ g : Fin 4, pageUsed (0x4C + g.val) = true := by decide

theorem outUa_aligned : ∀ k : Fin 8, Lp.OUT_UA.pos k % 4096 / 4 * 4 = Lp.OUT_UA.pos k := by decide

theorem lpCfg_aligned : ∀ k : Fin 8, Lp.LP_CFG_MODE.pos k % 4096 / 4 * 4 = Lp.LP_CFG_MODE.pos k := by decide

end Sys2Proof.Machine

open Sys2Proof Sys2Proof.Machine

/-- Settles O36, row by row: each row under its hypotheses takes the branch that carries it out. -/
theorem loopRowsComplete : Obligations.LoopRowsComplete := by
  refine ⟨?input, ?output, ?voltage, ?fault, ?faultEnd, ?overtemp, ?recover, ?arrived, ?departed, ?outUa, ?mode, ?countersClear⟩
  case input =>
    intro t g k r s u p v hm
    have sampled : ¬(u.loopMode p k ≠ 1 ∧ u.loopMode p k ≠ 2) := by omega
    exact outcome_next ((if_neg sampled).trans (congrArg (State.showPower · p) (if_pos hm)))
  case output =>
    intro t g k r s u p v hm
    have sampled : ¬(u.loopMode p k ≠ 1 ∧ u.loopMode p k ≠ 2) := by omega
    have noInput : ¬u.loopMode p k = 1 := by omega
    exact outcome_next ((if_neg sampled).trans (congrArg (State.showPower · p) (if_neg noInput)))
  case voltage => exact fun _ _ _ _ _ _ => execVoltageSample_pair
  case fault => exact fun _ _ _ _ _ _ => execLoopFault_one
  case faultEnd => exact fun _ _ _ _ _ => execLoopFaultEnd_due
  case overtemp =>
    intro t g k temp s u p v hm ht
    exact outcome_next ((if_neg hm).trans (if_neg (Int.not_le.mpr ht)))
  case recover =>
    intro t g k temp s u p v w hm ht ho hc
    have cool : ¬(1100 ≤ temp ∨ (!(v.loop p k).off) = true) := not_or.mpr ⟨Int.not_le.mpr ht, Bool.not_not_eq.mpr ho⟩
    exact outcome_next ((if_neg hm).trans ((if_neg cool).trans (if_pos hc)))
  case arrived => exact fun _ _ _ _ _ => execTransmitterArrived_due
  case departed => exact fun _ _ _ _ _ => execTransmitterDeparted_due
  case outUa =>
    intro t code gen g k value s u p w v h
    exact outcome_next (State.write_done (w := w) (outUa_aligned k) (pageUsed_loopPage g) h)
  case mode =>
    intro t code gen g k value s u p w h
    exact outcome_next (State.write_done (w := w) (lpCfg_aligned k) (pageUsed_loopPage g) h)
  case countersClear =>
    intro t q s u h
    exact outcome_next (State.command_done h rfl)

end

section
/-! PROOF. The frames of a CAN controller (O37): what a row of its line leaves, and the reset that waits for the controller's own frame. -/
namespace Sys2Proof.Machine

/-- A row run as part of another one that leaves a next state: what it sends comes after what has been sent. -/
theorem State.also_of_next {s e : State} {f : State → Host.Outcome State Fault Refusal} (h : f s = .next e) :
    s.also f = e.putOut (s.out ++ e.out) := by
  simp only [State.also, h]

/-- A row of a controller's line that leaves a next state; a reset that waits for the controller's own frame follows (R466, R483). -/
theorem State.also_canResetDue {s e : State} {p : Nat} {f : State → Host.Outcome State Fault Refusal} (h : f s = .next e) :
    (s.also f).canResetDue p = (e.putOut (s.out ++ e.out)).canResetDue p :=
  congrArg (State.canResetDue · p) (State.also_of_next h)

/-- The end of the frame that a controller sends (R466, R473). -/
theorem canTxEnded_sending {t sof tdcv : Nat} {c : Fin 8} {x : Sending} {s : State} :
    let p := canPage c
    let v := if ((s.start t).sendingFrame p x).map (·.fdf) |>.getD false then (s.start t).setFld p Cf.BUS_STATUS_TDCV tdcv
      else s.start t
    let w := ((v.attempt p 0 0).1.bump p Cf.FRAMES_TX).sendingEnded p 1 sof
    (s.can p).sending = some x →
    canTxEnded t c sof tdcv s =
      .next ((w.countErrors p (w.fld p Cf.ERR_COUNT_TEC - 1) (w.fld p Cf.ERR_COUNT_REC)).frameOver p) := by
  intro p v w hx
  have sends : ((s.start t).can p).sending = some x := hx
  simp only [canTxEnded, ← show p = canPage c from rfl, sends, v, w]

/-- An error while a controller sends (R466). -/
theorem canTxFailed_sending {t pos : Nat} {c kind : Fin 8} {exempt : Bool} {x : Sending} {s : State} :
    let p := canPage c
    let w := (s.start t).attemptFailed p x (if (s.start t).inData p x pos then 7 else kind.val) pos
    (s.can p).sending = some x →
    canTxFailed t c kind pos exempt s =
      .next ((w.countErrors p (w.fld p Cf.ERR_COUNT_TEC + (if exempt then 0 else 8)) (w.fld p Cf.ERR_COUNT_REC)).frameOver p) := by
  intro p w hx
  have sends : ((s.start t).can p).sending = some x := hx
  simp only [canTxFailed, ← show p = canPage c from rfl, sends, w]

/-- The begin of a row leaves the state of a controller. -/
theorem State.canState_start (s : State) (t p : Nat) : (s.start t).canState p = s.canState p := by
  simp only [State.canState, State.fld, State.reg, State.start_regs]

/-- A controller on the bus is in neither of the states that receive nothing (R464). -/
theorem canState_onBus {s : State} {t p : Nat} (h : s.canState p = 2 ∨ s.canState p = 3) :
    ¬((s.start t).canState p ≠ 2 ∧ (s.start t).canState p ≠ 3) := by
  rw [State.canState_start]
  omega

/-- A frame that a controller on the bus receives (R464, R467, R468, R479). -/
theorem canFrameRxed_onBus {t sof : Nat} {c : Fin 8} {x : CanFrame} {s : State} :
    let p := canPage c
    let w := (((s.start t).stopSending p).bump p Cf.FRAMES_RX).frameGood p
    s.canState p = 2 ∨ s.canState p = 3 →
    canFrameRxed t c sof x s =
      .next ((((if w.ownId p x then w.idConflict p x else w).rollAnswer p x).deliver p x sof).frameOver p) := by
  intro p w h
  simp only [canFrameRxed, ← show p = canPage c from rfl, if_neg (canState_onBus h), w]

/-- An error while a controller on the bus receives (R464, R483). -/
theorem canRxFailed_onBus {t pos : Nat} {c kind : Fin 8} {by8 : Bool} {s : State} :
    let p := canPage c
    let w := (((s.start t).lastError p kind pos false).bump p Cf.ERR_TOTALS_RX).stopSending p
    s.canState p = 2 ∨ s.canState p = 3 →
    canRxFailed t c kind pos by8 s =
      .next ((w.countErrors p (w.fld p Cf.ERR_COUNT_TEC) (w.fld p Cf.ERR_COUNT_REC + (if by8 then 8 else 1))).frameOver p) := by
  intro p w h
  simp only [canRxFailed, ← show p = canPage c from rfl, if_neg (canState_onBus h), w]

end Sys2Proof.Machine

open Sys2Proof Sys2Proof.Machine

/-- Settles O37, row by row: what is received or sent has its effect, and a reset that waits for it follows. -/
theorem canFramesComplete : Obligations.CanFramesComplete := by
  refine ⟨?received, ?sent, ?sendError, ?receiveError⟩
  case received =>
    intro t sof c x s u p v w y h
    exact outcome_next (State.also_canResetDue (canFrameRxed_onBus h))
  case sent =>
    intro t sof tdcv c x s u p v w y hx
    have sent := canTxEnded_sending (t := t) (sof := sof) (tdcv := tdcv) hx
    exact outcome_next (State.also_canResetDue sent)
  case sendError =>
    intro t pos c kind exempt x s u p w y hx
    have failed := canTxFailed_sending (t := t) (pos := pos) (kind := kind) (exempt := exempt) hx
    exact outcome_next (State.also_canResetDue failed)
  case receiveError =>
    intro t pos c kind by8 s u p w y h
    exact outcome_next (State.also_canResetDue (canRxFailed_onBus h))

end

section
/-! PROOF. The registers and commands of a CAN controller (O38): the time over an entry's end, and the branch of each row. -/
namespace Sys2Proof.Machine

/-! The time of R9 over the events of a page. -/

theorem State.Touches.timeShift_eq {K : Nat → Prop} {s u : State} (h : s.Touches K u) : u.timeShift = s.timeShift :=
  (congrArg State.timeShift h.eq_besides).trans rfl

theorem State.timeShift_raise (s : State) (page bit arg : Nat) : (s.raise page bit arg).timeShift = s.timeShift :=
  (State.touches_raise (K := fun _ => True) (fun _ _ => trivial) s page bit arg trivial).timeShift_eq

theorem State.timeShift_level (s : State) (page bit : Nat) (on : Bool) (arg : Nat) :
    (s.level page bit on arg).timeShift = s.timeShift :=
  (State.touches_level s page bit on arg).timeShift_eq

variable {s : State} {p : Nat}

theorem State.timeShift_showCanQueue : (s.showCanQueue p).timeShift = s.timeShift := by
  simp only [State.showCanQueue, State.timeShift_level, State.setFld_timeShift]

theorem State.timeShift_endEntry (e : TxEntry) (r n : Nat) : (s.endEntry p e r n).timeShift = s.timeShift := by
  simp only [State.endEntry, State.timeShift_showCanQueue]
  split
  · split
    · simp only [State.setFld_timeShift, State.modCan, State.setCan_timeShift]
    · simp only [State.txError, State.timeShift_raise, State.setFld_timeShift, State.modCan, State.setCan_timeShift]
  · simp only [State.modCan, State.setCan_timeShift]

/-- An entry that ends leaves the time. -/
theorem State.time_endEntry (e : TxEntry) (r n : Nat) : (s.endEntry p e r n).time = s.time := by
  unfold State.time
  rw [now_of_core (trunk_endEntry s p e r n), State.timeShift_endEntry]

/-- Entries that end one after another all end at the time that was when the first did (R9, R484). -/
theorem State.foldl_endEntry_time {es : List TxEntry} {busy : TxEntry → Prop} [DecidablePred busy] {r n : Nat} (h : s.time = n) :
    es.foldl (fun v e => if busy e then v else v.endEntry p e r v.time) s =
      es.foldl (fun v e => if busy e then v else v.endEntry p e r n) s := by
  induction es generalizing s with
  | nil => rw [List.foldl_nil, List.foldl_nil]
  | cons e es ih =>
    have next : (if busy e then s else s.endEntry p e r n).time = n := by
      split
      · exact h
      · exact (State.time_endEntry e r n).trans h
    simp only [List.foldl_cons, h]
    exact ih next

/-! The writes of a CAN page. -/

theorem pageUsed_canPage : ∀ c : Fin 8, pageUsed (canPage c) = true := by decide

/-- The words of a CAN page that are written have rows of their own (R470, R473, R474, R477, R478). -/
theorem canOff_aligned :
    ∀ o ∈ [Cf.TX_GO.off, Cf.TXC_ACK.off, Cf.RX_ACK.off, Cf.TXS_LATCH.off, Cf.RXS_ACK.off, Cf.CAN_CFG_MODE.off],
      o % 4096 / 4 * 4 = o := by
  decide

/-- What a write does that passes its checks, when the state it finds decides on its effect. -/
theorem State.writeWith_effect {w : WriteReq} {e : State → State} {v : State} (ho : w.off % 4096 / 4 * 4 = w.off)
    (hp : pageUsed w.page = true) (h : s.writeVerdict w = 0) (he : e s = v) :
    s.writeWith w (fun _ => true) e = v.writeReply w (s.pstate w.page) RC.done :=
  (State.writeWith_done ho hp h fun _ => rfl).trans (congrArg (State.writeReply · w (s.pstate w.page) RC.done) he)

/-- A write of RX_ACK by the consumer of a controller that is not in compatibility mode (R474). -/
theorem execRxAckWrite_done {t code gen : Nat} {c : Fin 8} {value : Word} {s : State} :
    let u := s.start t
    let p := canPage c
    let w : WriteReq := ⟨code, gen, p, Cf.RX_ACK.off, value⟩
    u.writeVerdict w = 0 → u.isConsumer code p = true → u.compat p = false →
    execRxAckWrite t code gen c value s =
      .next (((u.store code p w.off value).rxTaken p (bitsOf value 15 0)).writeReply w (u.pstate p) RC.done) := by
  intro u p w h hr hc
  have guard : (u.compat p || u.isConsumer code p) = true := by rw [hr, Bool.or_true]
  have aligned : w.off % 4096 / 4 * 4 = w.off := canOff_aligned _ (by simp [w])
  refine outcome_next ((State.writeGuard_done (w := w) aligned (pageUsed_canPage c) h fun _ => if_pos guard).trans ?_)
  exact congrArg (State.writeReply · w (u.pstate p) RC.done) (if_neg (Bool.eq_false_iff.mp hc))

/-- A write of CAN_CFG that is allowed: a change of the mode's QMODE discards what is queued (R477). -/
theorem execCanModeWrite_done {t code gen : Nat} {c : Fin 8} {value : Word} {s : State} :
    let u := s.start t
    let p := canPage c
    let w : WriteReq := ⟨code, gen, p, Cf.CAN_CFG_MODE.off, value⟩
    let v := u.store code p w.off value
    u.writeVerdict w = 0 → u.cfgAllowed p value = true →
    execCanModeWrite t code gen c value s =
      .next ((((if v.compat p = u.compat p then v else v.discardCan p).settleMode p).present_ p).writeReply w (u.pstate p)
        RC.done) := by
  intro u p w v h ha
  have kept : (if v.compat p = u.compat p then v else v.discardCan p) =
      if (v.compat p == u.compat p) = true then v else v.discardCan p := by simp only [beq_iff_eq]
  rw [kept]
  exact outcome_next (State.writeWith_done (w := w) (canOff_aligned _ (by simp [w])) (pageUsed_canPage c) h fun _ => ha)

/-! What falls due. -/

/-- The boundary of the owner of a controller that has accepted it and hears its heartbeat (R475, R480). -/
theorem execCanBoundarySignal_heard {t : Nat} {c : Fin 8} {s : State} :
    let u := s.start t
    let p := canPage c
    let l := laneNum (u.owner p)
    (u.resRec p).accepted = true → (if l = .a then (u.resRec p).beatA else (u.resRec p).beatB).present = true →
    execCanBoundarySignal t c s = .next ((u.boundarySignal p (u.pstate (clePage l) == 2)).present_ p) := by
  intro u p l ha hb
  refine outcome_next (if_pos ((Bool.and_eq_true _ _).mpr ⟨ha, ?_⟩))
  split
  case h_1 hl => rwa [if_pos hl] at hb
  case h_2 hl => rwa [if_neg (by rw [show l = .b from hl]; decide)] at hb

/-- A SYNC frame at its instant (R476). -/
theorem execSyncFrameDue_due {t x : Nat} {c : Fin 8} {s : State} :
    let u := s.start t
    let p := canPage c
    let n := u.fld p Cf.SYNC_STATUS_COUNT
    let v := if u.flag p Cf.SYNC_TIMING_COUNTER then u.setFld p Cf.SYNC_STATUS_COUNT (if 240 ≤ n then 1 else n + 1) else u
    (u.can p).syncAt = some x → x ≤ u.now →
    execSyncFrameDue t c s = .next ((v.modCan p fun c => { c with syncAt := none, syncDue := true }).present_ p) := by
  intro u p n v hx hd
  simp only [execSyncFrameDue, ← show u = s.start t from rfl, ← show p = canPage c from rfl, hx, if_pos hd, n, v]

/-- A node that has not answered in time (R479). -/
theorem execRollCallTimeout_due {t x : Nat} {rest : List Nat} {c : Fin 8} {n : Fin 128} {s : State} :
    let u := s.start t
    let p := canPage c
    ((u.can p).nodes.rd {} n.val).asked = x :: rest → x + u.fld p Cf.RC_TIMING_TIMEOUT_MS * 1000000 ≤ u.now →
    execRollCallTimeout t c n s = .next (u.nodeMissed p n.val) := by
  intro u p hx hd
  simp only [execRollCallTimeout, ← show u = s.start t from rfl, ← show p = canPage c from rfl, hx, if_pos hd]

end Sys2Proof.Machine

open Sys2Proof Sys2Proof.Machine

/-- Settles O38, row by row: each row under its hypotheses takes the branch that carries it out. -/
theorem canRowsComplete : Obligations.CanRowsComplete := by
  refine ⟨?integrated, ?recovered, ?txGo, ?stage, ?txcAck, ?rxAck, ?latch, ?rxsAck, ?mode, ?boundary, ?sync, ?round, ?timeout,
    ?transceiver, ?recover, ?abort, ?rollCall, ?countersClear⟩
  case integrated | recovered =>
    intro t c s u p h
    exact outcome_next (if_pos h)
  case txGo =>
    intro t code gen c value s u p w h hc
    refine outcome_next (State.writeWith_effect (w := w) (canOff_aligned _ (by simp [w])) (pageUsed_canPage c) h ?_)
    exact if_neg (Bool.eq_false_iff.mp hc)
  case stage =>
    intro t c s u p hc
    exact outcome_next (if_neg (Bool.eq_false_iff.mp hc))
  case txcAck =>
    intro t code gen c value s u p w v gone h hc
    refine outcome_next (State.writeWith_effect (w := w) (canOff_aligned _ (by simp [w])) (pageUsed_canPage c) h ?_)
    exact if_neg (Bool.eq_false_iff.mp hc)
  case rxAck => exact fun _ _ _ _ _ _ => execRxAckWrite_done
  case latch | rxsAck =>
    intro t code gen c value s u p w h hc
    refine outcome_next (State.writeWith_effect (w := w) (canOff_aligned _ (by simp [w])) (pageUsed_canPage c) h ?_)
    exact if_neg (Bool.not_not_eq.mpr hc)
  case mode => exact fun _ _ _ _ _ _ => execCanModeWrite_done
  case boundary => exact fun _ _ _ => execCanBoundarySignal_heard
  case sync => exact fun _ _ _ _ => execSyncFrameDue_due
  case round =>
    intro t c s u p hr hd
    exact outcome_next (if_pos ⟨hr, hd⟩)
  case timeout => exact fun _ _ _ _ _ _ => execRollCallTimeout_due
  case transceiver =>
    intro t c on s p
    rfl
  case abort =>
    intro t q s u h
    refine outcome_next (State.command_done h (Prod.ext ?_ rfl))
    exact State.foldl_endEntry_time (busy := fun e => (u.can q.page).sending = some (.entry e.n)) rfl
  case recover | rollCall | countersClear =>
    intro t q s u h
    exact outcome_next (State.command_done h rfl)

end

section
/-! PROOF. The safety core (O39): the trips of a running module and the times of its outputs. -/
namespace Sys2Proof.Machine

/-- SAFE_TRIP in the state in which the module is safe (R488). -/
theorem State.safeTrip_running {s : State} (h : s.pstate 0x60 = 1) : s.safeTrip = (s.setAckOwed true).trip60 9 := if_pos h

/-- A discrepancy that has stood for DISC_MS while the safety unit is in state 1 (R495). -/
theorem execOutDisc_due {t x : Nat} {k : Fin 8} {s : State} :
    let u := s.start t
    (u.so k).discAt = some x → u.pstate 0x60 = 1 → x + u.fld 0x62 So.DISC_MS * 1000000 ≤ u.now →
    execOutDisc t k s =
      .next (((u.raise 0x62 2 (k.val * 2 ^ 8 + (if u.enable .a k then 1 else 2))).modSafe fun x =>
        { x with disc := true }).safetyCause 4) := by
  intro u hx hp hd
  simp only [execOutDisc, ← show u = s.start t from rfl, hx, if_pos (And.intro hp hd)]

/-- The mirrors of an output are judged 20 ms after its coils changed (R496). -/
theorem execMirrorCheck_judged {t x : Nat} {k : Fin 8} {m1 m2 : Bool} {s : State} :
    let u := s.start t
    let v := (u.setFld 0x62 So.SO_STATUS_MIRROR_K1 (bool01 m1) k).setFld 0x62 So.SO_STATUS_MIRROR_K2 (bool01 m2) k
    let on := v.soState k == 1
    (v.so k).dropAt = none → (v.so k).coilAt = some x → x + 20000000 ≤ v.now →
    execMirrorCheck t k m1 m2 s = .next (if m1 = on then v.soFault k 1 else if m2 = on then v.soFault k 2 else v) := by
  intro u v on hd hx hn
  unfold execMirrorCheck
  simp only [← show u = s.start t from rfl,
    ← show v = (u.setFld 0x62 So.SO_STATUS_MIRROR_K1 (bool01 m1) k).setFld 0x62 So.SO_STATUS_MIRROR_K2 (bool01 m2) k from rfl, hd, hx,
    if_neg (Nat.not_lt.mpr hn), on]

/-- Both mirrors closed after a drop whose coils are no longer awaited: the time of the drop is kept (R496). -/
theorem execMirrorCheck_dropped {t x : Nat} {k : Fin 8} {s : State} :
    let u := s.start t
    let v := (u.setFld 0x62 So.SO_STATUS_MIRROR_K1 1 k).setFld 0x62 So.SO_STATUS_MIRROR_K2 1 k
    (v.so k).dropAt = some x → (v.so k).coilAt = none →
    execMirrorCheck t k true true s =
      .next ((v.setFld 0x62 So.DROP_US (saturate 16 ((v.now - x) / 1000)) k).setSo k { v.so k with dropAt := none }) := by
  intro u v hd hx
  unfold execMirrorCheck
  simp only [← show u = s.start t from rfl, bool01, if_true,
    ← show v = (u.setFld 0x62 So.SO_STATUS_MIRROR_K1 1 k).setFld 0x62 So.SO_STATUS_MIRROR_K2 1 k from rfl, hd, hx, and_self]

theorem lane_code {code : Nat} {l : Lane} (h : laneOf? code = some l) : code = 1 ∨ code = 2 := by
  unfold laneOf? at h
  split at h
  case isTrue h1 => exact .inl h1
  case isFalse =>
    split at h
    case isTrue h2 => exact .inr h2
    case isFalse => cases h

/-- SO_DEMAND is a word of page 0x62 (R494). -/
theorem soDemand_aligned : So.SO_DEMAND.off % 4096 / 4 * 4 = So.SO_DEMAND.off := rfl

/-- SO_DEMAND written by a lane (R494). -/
theorem execSoDemandWrite_lane {t code gen : Nat} {l : Lane} {value : Word} {s : State} :
    let u := s.start t
    let w : WriteReq := ⟨code, gen, 0x62, So.SO_DEMAND.off, value⟩
    u.writeVerdict w = 0 → laneOf? code = some l →
    execSoDemandWrite t code gen value s =
      .next ((u.setHalf l { u.half l with demand := bitsOf value 7 0 }).writeReply w (u.pstate 0x62) RC.done) := by
  intro u w h hl
  refine outcome_next ((State.writeGuard_done (w := w) soDemand_aligned rfl h fun _ => if_pos (lane_code hl)).trans ?_)
  simp only [hl, w]

end Sys2Proof.Machine

open Sys2Proof Sys2Proof.Machine

/-- Settles O39, row by row: each row under its hypotheses takes the branch that carries it out. -/
theorem safetyRowsComplete : Obligations.SafetyRowsComplete := by
  refine ⟨?enter, ?exit, ?ack, ?trip, ?limit, ?key, ?wave, ?disc, ?mirror, ?dropped, ?edm, ?demand, ?reset, ?countersClear⟩
  case enter | exit | ack | reset | countersClear =>
    intro t q s u h
    exact outcome_next (State.command_done h rfl)
  case trip =>
    intro t q s u h hp
    exact outcome_next (State.command_done h (congrArg (·, RC.done) (State.safeTrip_running hp)))
  case limit =>
    intro t s u lim hp hl hd
    exact outcome_next (if_pos ⟨hp, hl, hd⟩)
  case key =>
    intro t s u hp hk
    exact outcome_next (if_pos ⟨hp, hk⟩)
  case wave => exact fun _ _ _ _ _ => rfl
  case disc => exact fun _ _ _ _ => execOutDisc_due
  case mirror =>
    intro t x k m1 m2 s u v on hd hx hn
    have judged := execMirrorCheck_judged (m1 := m1) (m2 := m2) hd hx hn
    refine ⟨fun h1 => ?_, fun h1 h2 => ?_, fun h1 h2 => ?_⟩
    · exact judged.trans (outcome_next (if_pos h1))
    · exact judged.trans (outcome_next ((if_neg h1).trans (if_pos h2)))
    · exact judged.trans (outcome_next ((if_neg h1).trans (if_neg h2)))
  case dropped => exact fun _ _ _ _ => execMirrorCheck_dropped
  case edm => exact fun _ _ _ _ => rfl
  case demand => exact fun _ _ _ _ _ _ => execSoDemandWrite_lane

end

section
/-! PROOF. The Tarfevik connections (O40): what the lanes that run do with a datagram, each under the connection that its own image
names. -/
namespace Sys2Proof.Machine

/-- What the lanes that run do with a datagram, each under the connection that its own image names (R500, R611). -/
def State.admitNamed (s : State) (a b : Option Nat) (bs : List Nat) : State :=
  let v := match a with
    | some c => if 2 ≤ s.laneState .a then s.admitFrame .a c bs else s
    | none => s
  match b with
  | some d => if 2 ≤ v.laneState .b then v.admitFrame .b d bs else v
  | none => v

/-- A datagram is counted as unknown where the image of the serving lane names no connection for it, and each lane judges it. -/
theorem execTarfevikFrameRx_eq (t : Nat) (bs : List Nat) (s : State) :
    execTarfevikFrameRx t bs s =
      let u := s.start t
      let id := bytesAt bs 0 4
      let v := if (u.connNamed u.servingLane id).isNone then u.unknownConn id else u
      .next (v.admitNamed (u.connNamed .a id) (u.connNamed .b id) bs) := rfl

/-- What one lane names for an identifier the other need not; the serving lane is one of the two. -/
theorem State.connNamed_serving {s : State} {id : Nat} {r : Option Nat → Prop} (ha : r (s.connNamed .a id))
    (hb : r (s.connNamed .b id)) : r (s.connNamed s.servingLane id) := by
  cases s.servingLane with
  | a => exact ha
  | b => exact hb

/-- Two frames handed within 20 us of each other are judged together (R504). -/
theorem execTarfevikTxDecide_both {t : Nat} {c : Fin 64} {a b : Nat × List Nat} {s : State} :
    let u := s.start t
    (u.safe.handed.a).rd none c = some a → (u.safe.handed.b).rd none c = some b → max a.1 b.1 ≤ min a.1 b.1 + 20000 →
    execTarfevikTxDecide t c s = .next (((u.dropHanded .a c).dropHanded .b c).twoFrames c a.2 b.2) := by
  intro u ha hb hd
  simp only [execTarfevikTxDecide, ← show u = s.start t from rfl, ha, hb, if_pos hd]

end Sys2Proof.Machine

open Sys2Proof Sys2Proof.Machine

/-- Settles O40, row by row: each row under its hypotheses takes the branch that carries it out. -/
theorem tarfevikRowsComplete : Obligations.TarfevikRowsComplete := by
  refine ⟨?unknown, ?known, ?decide, ?watchdog, ?countersClear⟩
  case unknown =>
    intro t bs s u ha hb
    have none : (u.connNamed u.servingLane (bytesAt bs 0 4)).isNone = true :=
      State.connNamed_serving (r := (·.isNone = true)) (by rw [ha]; rfl) (by rw [hb]; rfl)
    refine (execTarfevikFrameRx_eq t bs s).trans (outcome_next ?_)
    simp only [← show u = s.start t from rfl, none, if_true, ha, hb, State.admitNamed]
  case known =>
    intro t c d bs s u v ha hb
    have some : (u.connNamed u.servingLane (bytesAt bs 0 4)).isNone = false :=
      State.connNamed_serving (r := (·.isNone = false)) (by rw [ha]; rfl) (by rw [hb]; rfl)
    refine (execTarfevikFrameRx_eq t bs s).trans (outcome_next ?_)
    simp only [← show u = s.start t from rfl, some, Bool.false_eq_true, if_false, ha, hb, State.admitNamed, v]
  case decide => exact fun _ _ _ _ _ => execTarfevikTxDecide_both
  case watchdog =>
    intro t l c s u r hd
    exact outcome_next (if_pos hd)
  case countersClear =>
    intro t q s u v h
    exact outcome_next (State.command_done h rfl)

end

section
/-! PROOF. The memory of a lane (O41): a block test that is due. -/
namespace Sys2Proof.Machine

/-- A block test that is due, of a lane that runs, and finds no defect (R536). -/
theorem execBtBlock_clean {t yields : Nat} {l : Lane} {s : State} :
    let u := s.start t
    let p := memPage l
    let r := skipRetained (u.fld p Mm.SEG_RET) 16 (u.fld p Mm.BT_POS)
    let v := (u.setMem l { u.mem l with btAt := u.now, skipped := (u.mem l).skipped + r.2 }).bump p Mm.BT_YIELDS 0 0 yields
    2 ≤ u.laneState l → u.flag p Mm.BT_CFG_ENA = true → (u.mem l).btAt + u.fld p Mm.BT_CFG_INTERVAL_US * 1000 ≤ u.now →
    execBtBlock t l none yields s =
      .next (if 262144 ≤ r.1 + 1 then v.passDone l else v.setFld p Mm.BT_POS (r.1 + 1)) := by
  intro u p r v hl he hd
  have due : ¬(u.laneState l < 2 ∨ (!u.flag p Mm.BT_CFG_ENA) = true ∨
      u.now < (u.mem l).btAt + u.fld p Mm.BT_CFG_INTERVAL_US * 1000) := by
    simp [Nat.not_lt.mpr hl, he, hd]
  exact outcome_next (if_neg due)

end Sys2Proof.Machine

open Sys2Proof Sys2Proof.Machine

/-- Settles O41, row by row: each row under its hypotheses takes the branch that carries it out. -/
theorem memoryRowsComplete : Obligations.MemoryRowsComplete := by
  refine ⟨?wake, ?retention, ?block, ?restart, ?countersClear, ?wipe⟩
  case wake =>
    intro t l seg us s u p ret h
    exact outcome_next (if_pos h)
  case retention =>
    intro t idleMs l seg s u p he hb hd
    exact outcome_next (if_pos ⟨he, by rw [hb]; rfl, hd⟩)
  case block => exact fun _ _ _ _ => execBtBlock_clean
  case restart | countersClear =>
    intro t q s u l v h
    exact outcome_next (State.command_done h rfl)
  case wipe =>
    intro t q s u h
    exact outcome_next (State.command_done h rfl)

end

section
/-! PROOF. Records, captures and the Vats (O42): each event of the recorder in the branch that its row's hypotheses choose. -/
namespace Sys2Proof.Machine

/-! Records. -/

/-- A record that waits at an axis whose owner is heard (R550). -/
theorem execCurdRecord_waits {t : Nat} {axis : Fin 32} {c : Curd} {rest : List Curd} {s : State} :
    let u := s.start t
    let p := 0x10 + axis.val
    let l := laneNum (u.owner p)
    (u.axis p).curds = c :: rest → (u.beat p l).present = true →
    execCurdRecord t axis s = .next ((u.modAxis p fun x => { x with curds := rest }).originate l c) := by
  intro u p l hc hb
  simp only [execCurdRecord, ← show u = s.start t from rfl, ← show p = 0x10 + axis.val from rfl,
    ← show l = laneNum (u.owner p) from rfl, hc, hb, Bool.not_true, Bool.false_eq_true, if_false]

/-- A report that has not advanced for 1 s (R553). -/
theorem execMirrorResend_due {t since : Nat} {l : Lane} {s : State} :
    let u := s.start t
    (u.vat l).lagSince = some since → max (u.vat l).reportAt since + 1000000000 ≤ u.now →
    execMirrorResend t l s = .next (u.mirrorAgain l) := by
  intro u hs hd
  simp only [execMirrorResend, ← show u = s.start t from rfl, hs, if_pos hd]

/-- A Vat whose mirror has been behind for 10 s (R571). -/
theorem execMirrorBehindTimeout_due {t since : Nat} {l : Lane} {s : State} :
    let u := s.start t
    (u.vat l).lagSince = some since → since + 10000000000 ≤ u.now →
    execMirrorBehindTimeout t l s = .next (u.level (vatPage l) 3 true) := by
  intro u hs hd
  simp only [execMirrorBehindTimeout, ← show u = s.start t from rfl, hs, if_pos hd]

/-! Captures (R554, R555). -/

/-- A sample of an axis that a capture runs on. -/
theorem execCaptureSample_taken {t : Nat} {axis : Fin 32} {l : Lane} {c : Capture} {s : State} :
    let u := s.start t
    let p := 0x10 + axis.val
    let sig := u.signals p c.aux
    let v := u.modAxis p fun x => { x with ring := (sig :: x.ring).take 8000, ringAt := u.now }
    u.sampleRate p ≠ 0 → (u.axis p).ringAt + 1000000000 / u.sampleRate p ≤ u.now → u.captureOf p = some (l, c) →
    execCaptureSample t axis s = .next (v.captureTake l c sig) := by
  intro u p sig v hr hd hc
  have due : ¬(u.sampleRate p = 0 ∨ u.now < (u.axis p).ringAt + 1000000000 / u.sampleRate p) :=
    not_or.mpr ⟨hr, Nat.not_lt.mpr hd⟩
  have still : v.captureOf p = some (l, c) := hc
  unfold execCaptureSample
  simp only [← show u = s.start t from rfl, ← show p = 0x10 + axis.val from rfl, if_neg due, hc,
    ← show sig = u.signals p c.aux from rfl,
    ← show v = u.modAxis p fun x => { x with ring := (sig :: x.ring).take 8000, ringAt := u.now } from rfl, still]

/-- A capture that has taken 10 s of samples. -/
theorem execCaptureEnd_full {t : Nat} {axis : Fin 32} {l : Lane} {c : Capture} {s : State} :
    let u := s.start t
    u.captureOf (0x10 + axis.val) = some (l, c) → 10 * c.rate ≤ c.taken →
    execCaptureEnd t axis s = .next (u.captureEnd l c.axis 3) := by
  intro u hc ht
  simp only [execCaptureEnd, ← show u = s.start t from rfl, hc, if_pos ht]

/-! The Vat. -/

/-- A Vat in READY or DEGRADED programs a unit of the partition served next (R547, R556, R566). -/
theorem execVatUnitProgrammed_served {t : Nat} {l : Lane} {part : Fin 5} {h : NandReport} {s : State} :
    let u := s.start t
    let n := if part.val = 3 then unitBytes else min unitBytes ((u.vat l).waiting part)
    let v := if part.val = 3 then u.setVat l ((u.vat l).hand 3 n) else u
    (u.vatState l = 2 ∨ u.vatState l = 3) → u.servesPart l part = true →
    execVatUnitProgrammed t l part h s = .next ((((v.program l part n).nand l h).showCurdFill l).fillActions l) := by
  intro u n v hs hp
  have serves : ¬(!(u.vatState l == 2 || u.vatState l == 3) || !u.servesPart l part.val) = true := by
    rcases hs with h | h <;> simp [h, hp]
  exact outcome_next (if_neg serves)

/-- The state of a Vat after a mount: DEGRADED where a die has failed or few units are spare (R547). -/
theorem execVatMountDone_mounted {t : Nat} {l : Lane} {h : NandReport} {s : State} :
    let u := s.start t
    let p := vatPage l
    let h' := if (u.vat l).marker then { h with lost := [] } else h
    let v := (u.setFld p Vt.VAT_STATUS_MOUNT_CLEAN (if (u.vat l).marker then 1 else 0)).setFld p Vt.LOST_AT_MOUNT
      (saturate 16 h'.lost.length)
    let w := (v.setVat l { u.vat l with marker := false, scrubAt := u.now }).nand l h'
    u.vatState l = 1 → 2 ≤ u.laneState l → w.vatState l = 1 →
    execVatMountDone t l h s =
      .next ((w.setVatState l (if 0 < w.fld p Vt.DIES_DIES_FAILED ∨ h.spare < 10 then 3 else 2)).raise p 7
        (w.fld p Vt.LOST_AT_MOUNT)) := by
  intro u p h' v w hu hl hw
  have mounts : ¬(u.vatState l ≠ 1 ∨ u.laneState l < 2) := by omega
  have spare : h'.spare = h.spare := by
    simp only [h']
    split <;> rfl
  have weak : (if (decide (0 < w.fld p Vt.DIES_DIES_FAILED) || decide (h'.spare < 10)) = true then 3 else 2) =
      if 0 < w.fld p Vt.DIES_DIES_FAILED ∨ h.spare < 10 then 3 else 2 := by
    simp only [spare, Bool.or_eq_true, decide_eq_true_eq]
  rw [← weak]
  exact outcome_next ((if_neg mounts).trans (if_neg (not_not_intro hw)))

end Sys2Proof.Machine

open Sys2Proof Sys2Proof.Machine

/-- Settles O42, row by row: each row under its hypotheses takes the branch that carries it out. -/
theorem recordRowsComplete : Obligations.RecordRowsComplete := by
  refine ⟨?curd, ?resend, ?sample, ?captureEnd, ?programmed, ?mounted, ?scrub, ?flush, ?flushDone, ?countersClear, ?behind⟩
  case curd => exact fun _ _ _ _ _ => execCurdRecord_waits
  case resend => exact fun _ _ _ _ => execMirrorResend_due
  case sample => exact fun _ _ _ _ _ => execCaptureSample_taken
  case captureEnd => exact fun _ _ _ _ _ => execCaptureEnd_full
  case programmed => exact fun _ _ _ _ _ => execVatUnitProgrammed_served
  case mounted => exact fun _ _ _ _ => execVatMountDone_mounted
  case scrub =>
    intro t l h s u hs hd
    exact outcome_next (if_pos ⟨hs, hd⟩)
  case flush =>
    intro t q s u h
    exact outcome_next (State.command_open h rfl (.inl rfl))
  case flushDone =>
    intro t l s u h
    exact outcome_next (if_pos h)
  case countersClear =>
    intro t q s u h
    exact outcome_next (State.command_done h rfl)
  case behind => exact fun _ _ _ _ => execMirrorBehindTimeout_due

end

section
/-! PROOF. The dumps (O43): a dump that ends, complete or at its limit. -/
namespace Sys2Proof.Machine

/-- The dump of a lane is complete (R563). -/
theorem execDumpDone_running {t : Nat} {l : Lane} {j : DumpJob} {s : State} :
    let u := s.start t
    (u.vat l).dumping = some j → execDumpDone t l s = .next ((u.dumpWritten l j).afterDump l j) := by
  intro u hj
  simp only [execDumpDone, ← show u = s.start t from rfl, hj]

/-- A dump that is not complete within DUMP_LIMIT_MS (R563). -/
theorem execDumpAbandon_due {t : Nat} {l : Lane} {j : DumpJob} {s : State} :
    let u := s.start t
    (u.vat l).dumping = some j → j.since + u.fld 0x7F Dp.DUMP_CFG_DUMP_LIMIT_MS * 1000000 ≤ u.now →
    execDumpAbandon t l s = .next ((u.dumpAbandoned l j).afterDump l j) := by
  intro u hj hd
  simp only [execDumpAbandon, ← show u = s.start t from rfl, hj, if_pos hd]

end Sys2Proof.Machine

open Sys2Proof Sys2Proof.Machine

/-- Settles O43, row by row: each row under its hypotheses takes the branch that carries it out. -/
theorem dumpRowsComplete : Obligations.DumpRowsComplete := by
  refine ⟨?request, ?done, ?abandon, ?miniClear, ?countersClear⟩
  case request =>
    intro t q s u l r h hr
    exact outcome_next ((State.command_open h rfl (.inl rfl)).trans (if_pos hr))
  case done => exact fun _ _ _ _ => execDumpDone_running
  case abandon => exact fun _ _ _ _ => execDumpAbandon_due
  case miniClear | countersClear =>
    intro t q s u h
    exact outcome_next (State.command_done h rfl)

end

section
/-! PROOF. Management and ripening (O44): what is due while management runs. -/
namespace Sys2Proof.Machine

/-- What management does at an instant, when it runs and the instant has come (R577-R580). -/
theorem mgmtDue {runs : Bool} {now due : Nat} (hr : runs = true) (hd : due ≤ now) : ¬(!runs || decide (now < due)) = true := by
  simp [hr, hd]

/-- A ripening run that is due while ripening is not deferred (R584). -/
theorem execRipeningRun_due {t : Nat} {meas : List (Nat × Nat)} {s : State} :
    let u := s.start t
    u.mgmtRuns = true → u.mgmt.ripDue = true → u.flag 0x70 Mg.MGMT_LOAD_RIP_DEFERRED = false →
    execRipeningRun t meas s = .next (u.ripRun meas) := by
  intro u hr hd hf
  simp only [execRipeningRun, ← show u = s.start t from rfl, hr, hd, hf, Bool.or_true, Bool.not_true, Bool.or_self,
    Bool.false_eq_true, if_false]

/-- A run that falls due while ripening is deferred waits, and is counted once (R578). -/
theorem execRipeningRun_deferred {t : Nat} {meas : List (Nat × Nat)} {s : State} :
    let u := s.start t
    u.mgmtRuns = true → u.flag 0x72 Rp.RIP_CFG_ENA = true → u.mgmt.ripDue = false →
    u.mgmt.ripAt + u.fld 0x72 Rp.RIP_CFG_PERIOD_H * 3600000000000 ≤ u.now → u.flag 0x70 Mg.MGMT_LOAD_RIP_DEFERRED = true →
    execRipeningRun t meas s = .next ((u.putMgmt { u.mgmt with ripDue := true }).bump 0x70 Mg.DEFER_RIP) := by
  intro u hr he hn hd hf
  simp only [execRipeningRun, ← show u = s.start t from rfl, hr, he, hn, hd, hf, decide_true, Bool.and_self, Bool.or_false,
    Bool.not_true, Bool.or_self, Bool.false_eq_true, if_false, if_true]

/-- Management re-reads the targets of the plan when the time for it has come (R585). -/
theorem execPlanRecheck_due {t x : Nat} {s : State} :
    let u := s.start t
    u.mgmt.recheckAt = some x → u.mgmtRuns = true → x ≤ u.now →
    execPlanRecheck t s =
      .next (((u.putMgmt { u.mgmt with recheckAt := none }).each ((List.range 110).filter ripAction) fun s i =>
        let r := s.ripAsked i
        let v := r.2.ripDiffers i
        v.setFld 0x72 Rp.RIP_OUTLOOK_STATE (v.ripState i (ripBeyond i (v.fld 0x72 Rp.RIP_BOUND_BOUND i) r.1)) i).showRipening) := by
  intro u hx hr hd
  unfold execPlanRecheck
  simp only [← show u = s.start t from rfl, hx]
  exact outcome_next (if_neg (mgmtDue hr hd))

/-- RIP_RUN while ripening is deferred counts a run that was not due before (R578, R600). -/
theorem cmdRipRun_act (s : State) (q : Req) (a b : Nat) :
    let v := if s.flag 0x70 Mg.MGMT_LOAD_RIP_DEFERRED = true ∧ s.mgmt.ripDue = false then s.bump 0x70 Mg.DEFER_RIP else s
    cmdRipRun.act s q a b = (v.putMgmt { v.mgmt with ripDue := true, ripAt := v.now }, RC.accepted) := by
  simp only [cmdRipRun, Bool.not_eq_true']

end Sys2Proof.Machine

open Sys2Proof Sys2Proof.Machine

/-- Settles O44, row by row: each row under its hypotheses takes the branch that carries it out. -/
theorem managementRowsComplete : Obligations.ManagementRowsComplete := by
  refine ⟨?load, ?sample, ?telemetry, ?arrives, ?serves, ?minmax, ?countersClear, ?run, ?deferred, ?recheck, ?ripRun, ?rebase,
    ?setRef⟩
  case load =>
    intro t pct shares s u v w share x hr hd
    exact outcome_next (if_neg (mgmtDue hr hd))
  case sample =>
    intro t vals s u d v hr hd
    exact outcome_next (if_neg (mgmtDue hr hd))
  case telemetry =>
    intro t s u hr hd
    exact outcome_next (if_neg (mgmtDue hr hd))
  case arrives => exact fun _ _ _ _ _ => rfl
  case serves => exact fun _ _ _ => rfl
  case minmax | countersClear =>
    intro t q s u h
    exact outcome_next (State.command_done h rfl)
  case run => exact fun _ _ _ => execRipeningRun_due
  case deferred => exact fun _ _ _ => execRipeningRun_deferred
  case recheck => exact fun _ _ _ => execPlanRecheck_due
  case ripRun =>
    intro t q s u v h
    exact outcome_next (State.command_open h (cmdRipRun_act _ _ _ _) (.inl rfl))
  case rebase =>
    intro t q s u i v w h
    exact outcome_next (State.command_done h rfl)
  case setRef =>
    intro t q s u i h
    exact outcome_next (State.command_done h rfl)

end

section
/-! PROOF. The update engine (O45): a step of an activation goes on by its target. -/
namespace Sys2Proof.Machine

/-- A step of an activation goes on by the target of the update (R590-R593). -/
theorem execUpdStep_activating {t : Nat} {f : SlotFound} {s : State} :
    let u := s.start t
    let g := u.fld 0x73 Up.UPD_SESSION_TARGET
    u.mgmtRuns = true → u.pstate 0x73 = 4 →
    execUpdStep t f s =
      .next (if g = 0 then u.stepLanes else if g = 1 then u.stepMgmt f
        else if g = 2 then ((u.swapSlots 3).swapSlots 4).finishActivation else u.stepConfig) := by
  intro u g hr hp
  have activating : ¬(!u.mgmtRuns || u.pstate 0x73 != 4) = true := by simp [hr, hp]
  refine outcome_next ((if_neg activating).trans ?_)
  change (match g with
    | 0 => u.stepLanes
    | 1 => u.stepMgmt f
    | 2 => ((u.swapSlots 3).swapSlots 4).finishActivation
    | _ => u.stepConfig) = _
  match g with
  | 0 | 1 | 2 => rfl
  | n + 3 => rfl

end Sys2Proof.Machine

open Sys2Proof Sys2Proof.Machine

/-- Settles O45, row by row: a command that passes its checks acts and is answered or left open, and what is due goes on. -/
theorem updateRowsComplete : Obligations.UpdateRowsComplete := by
  refine ⟨?begin, ?chunk, ?verify, ?verified, ?activate, ?step, ?confirmed, ?abort, ?rollback⟩
  case begin =>
    intro t q s u v h
    exact outcome_next (State.command_done h rfl)
  case chunk =>
    intro t q s u a b chunks h
    exact outcome_next (State.command_done h rfl)
  case verify | rollback =>
    intro t q s u h
    exact outcome_next (State.command_open h rfl (.inl rfl))
  case verified =>
    intro t f s u hr hp
    exact outcome_next (if_pos ((Bool.and_eq_true _ _).mpr ⟨hr, beq_iff_eq.mpr hp⟩))
  case activate =>
    intro t q s u g h
    exact outcome_next (State.command_open h rfl (.inl rfl))
  case step => exact fun _ _ _ => execUpdStep_activating
  case confirmed =>
    intro t l s u hl ht hd
    exact outcome_next (if_pos ⟨hl, ht, hd⟩)
  case abort =>
    intro t q s u h
    exact outcome_next (State.command_done h rfl)

end

section
/-! PROOF. The rind and the life cycle (O46): the time for closing the seal, and the kinds of an anchor. -/
namespace Sys2Proof.Machine

/-- The time for closing the seal is over (R616). -/
theorem execSealWaitExpiry_due {t x : Nat} {s : State} :
    let u := s.start t
    u.lc.commitAt = some x → x + u.fld 0x74 Lc.RIND_CFG_SEAL_WAIT_S * 1000000000 ≤ u.now →
    execSealWaitExpiry t s = .next u.dropCommit := by
  intro u hx hd
  simp only [execSealWaitExpiry, ← show u = s.start t from rfl, hx, if_pos hd]

/-- ANCHOR_SET of the kind of a host anchor (R618). -/
theorem cmdAnchorSet_act_host {s : State} {q : Req} {c : CertFound} {a b : Nat} (h : s.fld 0x74 Lc.WIN_CTRL_KIND = 3) :
    let v := (s.putLc { s.lc with hostAnchor := true }).setFld 0x74 Lc.HOST_ANCHOR_REF (c.ref % 2 ^ 32)
    (cmdAnchorSet c).act s q a b = (v.showAnchors v.hostAnchor v.contentAnchor, RC.done) := by
  simp only [cmdAnchorSet, h]

end Sys2Proof.Machine

open Sys2Proof Sys2Proof.Machine

/-- Settles O46, row by row: each row under its hypotheses takes the branch that carries it out. -/
theorem lifeCycleRowsComplete : Obligations.LifeCycleRowsComplete := by
  refine ⟨?breach, ?keys, ?sealCloses, ?sealWait, ?factoryClose, ?provBegin, ?cert, ?anchor, ?commit, ?reprovision, ?erase, ?retire⟩
  case breach =>
    intro t traceA traceB us cause inputs temp s u v x h
    exact outcome_next (if_neg (Bool.not_not_eq.mpr h))
  case keys =>
    intro t s u v hk hp
    have due : ¬(!u.lc.keysDue || !u.power.common) = true := by simp [hk, hp]
    exact outcome_next (if_neg due)
  case sealCloses =>
    intro t s u hl hc
    exact outcome_next (if_pos ⟨hl, hc⟩)
  case sealWait => exact fun _ _ _ => execSealWaitExpiry_due
  case cert =>
    intro t q c s u v h
    exact outcome_next (State.command_done h rfl)
  case anchor =>
    intro t q c s u v h hk
    exact outcome_next (State.command_done h (cmdAnchorSet_act_host hk))
  case commit =>
    intro t q s u h
    exact outcome_next (State.command_open h rfl (.inl rfl))
  case factoryClose | provBegin | reprovision =>
    intro t q s u h
    exact outcome_next (State.command_done h rfl)
  case erase =>
    intro t us q s u h
    have done := State.command_done (c := cmdErase us) (e := u) h rfl
    exact outcome_next done
  case retire =>
    intro t us q s u h
    have done := State.command_done (c := cmdRetire us) (e := u) h rfl
    exact outcome_next done

end
